-- ==== Sys2Proof/Word.lean ====
section
/-! DEFINITION. The words of the TSK-8820 manual: bit strings and identifier types (00_scope R3, R4, R9). -/

namespace Sys2Proof

/-- A register, descriptor word or result word: 64 bits (00_scope R8, R9). -/
abbrev Word := BitVec 64
/-- A byte of memory. -/
abbrev Byte := BitVec 8
/-- A 64 B line, slot or window line: byte 0 holds bits [7:0] (00_scope R4). -/
abbrev Line := BitVec 512
/-- The 40 cells of a row, or the 40 key sets of a search: cell n at bits [16n+15:16n] (03 R69, R80). -/
abbrev Cells := BitVec 640
/-- A key of 160 bits (00_scope R9). -/
abbrev Key := BitVec 160
/-- A device physical address, 44 bits (00_scope R9). -/
abbrev Dpa := BitVec 44
/-- A set of logical blocks: bit i names logical block i (18 R629). -/
abbrev BlockSet := BitVec 128
/-- A context, a domain or a key slot: 12 bits (00_scope R9). -/
abbrev Id12 := Fin 4096
/-- A table identifier: 8 bits (00_scope R9). -/
abbrev TableId := Fin 256
/-- `(port << 4) | LD` (10, Logical devices and the two heads). -/
abbrev LdId := Fin 32
/-- An array search port (02 R43). -/
abbrev SPort := Fin 8
/-- A host port: 0 is A, 1 is B. -/
abbrev HPort := Fin 2

/-- A sparse map: keys strictly rising, no entry equal to what an unlisted key reads as (Machine/Ops.lean has the
operations, Laws/SMap.lean the laws). -/
abbrev SMap (α : Type) := List (Nat × α)

end Sys2Proof
end

