-- ==== Sys2Proof/Syntax.lean ====
section
/-! DEFINITION. The commands of the block: one constructor per row of spec/opcode_table.json, with the row's operands. -/

namespace Sys2Proof

/-- Who makes a BAR0 access: firmware, or an LD function (18 R617, R618). -/
inductive Who where
  | fw
  | ld (n : LdId)
  deriving DecidableEq, Repr

/-- The path by which an owner command arrived (10 R365, 17 R602, 18 R626): the mailbox, with the LD that wrote GO,
or FM API command 0xC820, inside an owner session or not. -/
inductive OwnerPath where
  | mailbox (ld : LdId)
  | fmApi (session : Bool)
  deriving DecidableEq, Repr

/-- The SPDM session in which a vendor request arrives (17 R602, R603). -/
inductive Session where
  | none
  | secured
  | owner
  deriving DecidableEq, Repr

/-- The MetaValue of a CXL.mem request (07 R252): I or no metadata update, S, A. -/
inductive Meta where
  | noUpdate
  | shared
  | any
  deriving DecidableEq, Repr

/-- The four results of a DRAM read (16 R555), with the device that was corrected. -/
inductive Ecc where
  | clean
  | corrected
  | uncorrectable
  | mark
  deriving DecidableEq, Repr

/-- A cascade request message (15 R515, type 0x10): table, origin's t0 in the origin's ticks, rank floor of an
enumerate pass, key sets. -/
structure CasMsg where
  table : TableId
  t0    : Nat
  enum  : Bool
  floor : Option (BitVec 38)
  keys  : Cells
  deriving DecidableEq, Repr

/-- A cascade reply message (15 R515, type 0x11). `intact` is the reply parity check of t77 (02 R50). -/
structure CasRep where
  status : Byte
  hit    : Bool
  count  : BitVec 16
  handle : BitVec 22
  prio   : BitVec 16
  res    : Word
  intact : Bool
  deriving DecidableEq, Repr

/-- One match-queue record as a message carries it (06 R206, 15 R515 type 0x13). -/
structure MsgRec where
  res    : Word
  prio   : BitVec 16
  handle : BitVec 22
  poison : Bool
  deriving DecidableEq, Repr

/-- What a mirrored change does to its table (15 R526, R529). -/
inductive MirKind where
  | put        -- INSERT, UPDATE, learn or directory of one entry: `content` is its row image
  | delete     -- DELETE, eviction victim, sweeper removal
  | evict      -- replaces the victim's row by the new entry
  | hit        -- hit-bit set or sweeper state update
  | stage      -- staged row under a lock or a bulk load
  | retire     -- retire mark
  | prepare    -- two-phase PREPARE (R529)
  | commit     -- COMMIT of a lock, bulk-load commit, prefix change
  | discard    -- discard of a lock
  | profile    -- SET_PROFILE
  | state      -- OPEN, DISABLE, ENABLE: `handle` holds the new state
  | prefixPut
  | prefixDel
  | direct     -- direct entry write: `handle` is the index
  deriving DecidableEq, Repr

/-- A MIR_OP or RESYNC_ROW message (15 R515). -/
structure MirMsg where
  table  : TableId
  kind   : MirKind
  handle : BitVec 22
  victim : BitVec 22
  seq    : Nat
  home   : Nat            -- home commit tick c, or the observation tick of a RESYNC_ROW
  cells  : Cells
  ctl    : Word
  res    : Word
  pfx    : BitVec 128
  len    : Byte
  prof   : Line
  absent : Bool
  deriving DecidableEq, Repr

/-- The states of a pair member (15, PAIR_STATUS.STATE). -/
inductive PairState where
  | unpaired | linking | paired | tossing | keeper | benched | resync
  deriving DecidableEq, Repr

/-- A HELLO message (15 R515, type 0x02). -/
structure HelloMsg where
  pairId    : BitVec 16
  strapRole : Bool
  role      : Bool
  state     : PairState
  epoch     : BitVec 32
  cause     : BitVec 3
  pend      : Nat
  digestEq  : Bool        -- its digest of mirrored table definitions equals this member's
  fresh     : Bool
  basesOk   : Bool        -- the CASCADE ranges obey R553
  deriving DecidableEq, Repr

/-- The definition of one mirrored region (15 R534). -/
structure RegionDef where
  base   : BitVec 16      -- DPA bits [43:28]
  count  : BitVec 16
  domain : Id12
  side   : Bool           -- false HOME, true AWAY
  deriving DecidableEq, Repr

/-- The setting of an HDM decoder (10 R344, R345, R347). -/
structure DecoderSet where
  base : BitVec 64
  size : BitVec 64
  iw   : Fin 13           -- interleave ways
  ig   : Fin 15           -- granularity 2^ig bytes
  dpa  : BitVec 64        -- decoder's DPA base, an LD offset
  bi   : Bool
  lock : Bool
  deriving DecidableEq, Repr

/-- The body of a MUT_DONE (15 R515, 11 R392): status, handle, victim, the records loaded or matches counted, and the outcome
of a LEARN (07 R230). -/
structure MutBody where
  status : Byte
  handle : BitVec 22 := 0
  victim : BitVec 22 := 0
  count : BitVec 32 := 0
  outcome : Byte := 0
  deriving DecidableEq, Repr

/-- The commands, nearly in the order of spec/opcode_table.json. Operands that an event takes from the state are not
repeated; operands bring what comes from outside the block. -/
inductive Instr where
  -- the tick, the search pipeline and the fixtures (02)
  | tick
  | rowCommit
  | searchResultDeliver (port : SPort)
  | enumPassDeliver (port : SPort)
  | backoffExpiry (input : Fin 16) (port : SPort)
  | arbWatchdogFire (port : SPort)
  | fixApply (who : Who)
  | arbPortMaskWrite (who : Who) (input : Fin 16) (mask : BitVec 8)
  | cascadeMerge (port : SPort)
  | casReq (m : CasMsg)
  | casReply (r : CasRep)
  | casDecline (t0 : Nat)
  | enumReply (count : BitVec 16) (recs : List MsgRec)
  -- tables (04, 05): owner commands and their later ticks
  | createTable (via : OwnerPath) (table : TableId) (kind : Byte) (domain : BitVec 16) (maxBlocks : Byte)
      (blocks : BlockSet) (count : BitVec 32) (units : BitVec 16)
  | resizeTable (via : OwnerPath) (table : TableId) (blocks : BlockSet) (count : BitVec 32)
  | shrinkEnd (table : TableId)
  | shrinkBlockClear (table : TableId)
  | destroyTable (via : OwnerPath) (table : TableId)
  | destroyClearStart (table : TableId)
  | destroyIdFree (table : TableId)
  | migrateTable (via : OwnerPath) (table : TableId) (blocks : BlockSet)
  | migrationCutover (table : TableId)
  | migrationOldClear (table : TableId)
  | tableCapture (via : OwnerPath) (table : TableId) (dest : BitVec 64) (len : BitVec 64)
  | dirProfile (via : OwnerPath) (sweep : BitVec 32) (glade : Byte)
  | blockSpare (via : OwnerPath) (blk : Byte)
  -- other owner commands (18 R629)
  | domainCreate (via : OwnerPath) (domain : BitVec 16) (slot : BitVec 16)
  | domainDestroy (via : OwnerPath) (domain : BitVec 16)
  | ldMapSet (via : OwnerPath) (ldid : Byte) (valid : Bool) (domain : BitVec 16)
  | windowMap (via : OwnerPath) (ldid : Byte) (map : Bool) (ldOffset : BitVec 64)
  | ldMgmtSet (via : OwnerPath) (ldid : Byte) (bar0 : Bool) (inj : Bool)
  | ctxAssign (via : OwnerPath) (ctx : BitVec 16) (domain : BitVec 16) (steward : Byte) (ldid : Byte) (sport : Byte)
  | ctxDisable (via : OwnerPath) (ctx : BitVec 16) (reset : Bool)
  | tierSetPolicy (via : OwnerPath) (ctx : BitVec 16) (demote quarter : Bool) (coldMax hotMin : Byte)
  | tierPin (via : OwnerPath) (ctx : BitVec 16) (dpa : BitVec 64) (count : BitVec 32)
  | tierUnpin (via : OwnerPath) (ctx : BitVec 16) (dpa : BitVec 64) (count : BitVec 32)
  | tierOffer (via : OwnerPath) (ldid : Byte) (region : Byte) (length : BitVec 64)
  | keyRotate (via : OwnerPath) (domain : BitVec 16) (slot : BitVec 16)
  | chanRetire (via : OwnerPath) (chan : Byte)
  | rankRetrain (via : OwnerPath) (chan : Byte) (rank : Byte) (path : Byte)
  | restoreFactory (via : OwnerPath)
  | mirrorRegion (via : OwnerPath) (base : BitVec 64) (count : BitVec 16) (domain : BitVec 16) (side : Byte)
  | pairBench (via : OwnerPath)
  | pairJoin (via : OwnerPath)
  | deviceReset (via : OwnerPath) (confirm : BitVec 16)
  | deviceResetDelayExpiry
  | fwSvnCommit (via : OwnerPath)
  | ownerCmdUnknown (via : OwnerPath) (code : BitVec 16)
  -- descriptors (11 R386): the dispatched request of context `ctx` whose first slot has count `n`
  | nop (ctx : Id12)
  | search (ctx : Id12) (n : BitVec 32)
  | enumerate (ctx : Id12) (n : BitVec 32)
  | resetQueue (ctx : Id12) (n : BitVec 32)
  | abort (ctx : Id12) (n : BitVec 32)
  | insert (ctx : Id12) (n : BitVec 32)
  | update (ctx : Id12) (n : BitVec 32)
  | delete (ctx : Id12) (n : BitVec 32)
  | readByHandle (ctx : Id12) (n : BitVec 32)
  | readByKey (ctx : Id12) (n : BitVec 32)
  | learn (ctx : Id12) (n : BitVec 32)
  | lock (ctx : Id12) (n : BitVec 32)
  | commit (ctx : Id12) (n : BitVec 32)
  | abandon (ctx : Id12) (n : BitVec 32)
  | bulkLoad (ctx : Id12) (n : BitVec 32) (host : List Byte)
  | bulkLoadCommit (table : TableId)
  | setProfile (ctx : Id12) (n : BitVec 32)
  | openTable (ctx : Id12) (n : BitVec 32)
  | disable (ctx : Id12) (n : BitVec 32)
  | enable (ctx : Id12) (n : BitVec 32)
  | scan (ctx : Id12) (n : BitVec 32) (job : List Byte) (ranges : List Byte)
  | scanRetarget (ctx : Id12) (n : BitVec 32)
  | dirPin (ctx : Id12) (n : BitVec 32)
  | dirUnpin (ctx : Id12) (n : BitVec 32)
  | descUndefinedOpcode (ctx : Id12) (n : BitVec 32)
  -- the command-register path (05 R193): the write of MAINT_CMD_CTRL
  | maintInsert (who : Who) (w : Word)
  | maintUpdate (who : Who) (w : Word)
  | maintDelete (who : Who) (w : Word)
  | maintReadByHandle (who : Who) (w : Word)
  | maintReadByKey (who : Who) (w : Word)
  | maintLock (who : Who) (w : Word)
  | maintCommit (who : Who) (w : Word)
  | maintAbandon (who : Who) (w : Word)
  | maintReservedOpcode (who : Who) (w : Word)
  | maintCmdComplete
  | maintEvictSeedWrite (who : Who) (w : Word)
  -- placement and background work (05)
  | placementDecision
  | tableManagerPlacement
  | gladeRestore (seg : Fin 8192)
  | canopyTighten (seg : Fin 8192)
  | relocationSwitch (table : TableId) (handle : BitVec 22)
  | leaseExpiry (table : TableId)
  -- the match queue (06)
  | bankReady (qp : TableId)
  | continuationQueue (qp : TableId)
  | bankDrainTake (qp : TableId)
  | nextRead (ld : LdId) (ctx : Id12)
  | matchEntryWrite (qp : TableId) (n : Fin 4)
  -- learning and the directory (07)
  | learnDecide (table : TableId)
  | learnRetry (table : TableId)
  | sweepPassStart (table : TableId)
  | sweeperVisit (table : TableId)
  | dirRequest
  | dirResolve (line : Dpa)
  | dirDataReturn (line : Dpa)
  | dirClaimEnd (line : Dpa)
  | dirAgeRemoval (handle : BitVec 22)
  | dirBiTimeout (ld : LdId) (line : Dpa)
  -- the trie and direct SRAM (08)
  | trieAdmit
  | trieLookupDeliver
  | trieMutationTake (table : TableId)
  | trieSwap (table : TableId)
  | trieNodeFree (table : TableId)
  | directAccess (bank : Fin 32)
  | directLookupDeliver
  -- the rangers (09)
  | chunkTake (ranger : Fin 32) (thread : Fin 4)
  | imageLoadDone (ranger : Fin 32) (thread : Fin 4)
  | chunkEnd (ranger : Fin 32) (thread : Fin 4)
  | reportPost (ranger : Fin 32) (thread : Fin 4)
  | jobComplete (ctx : Id12) (n : BitVec 32)
  | rngEnableWrite (who : Who) (mask : BitVec 32)
  | reportConsWrite (ld : LdId) (ctx : Id12) (i : Fin 4) (v : BitVec 32)
  -- host ports (10)
  | linkTrain (port : HPort) (rate : Fin 5) (width : Fin 3) (flit256 : Bool) (lowLatency : Bool) (sris : Bool)
  | portLinkLoss (port : HPort)
  | perstAssert (port : HPort)
  | functionLevelReset (ld : LdId)
  | decoderCommit (ld : LdId) (i : Fin 8) (d : DecoderSet)
  | ideFailure (port : HPort) (io : Bool)
  | ideKm (port : HPort) (io : Bool) (skid : Bool) (viaLd0orOwner : Bool) (sess : Session) (key : BitVec 256)
  | memrd (ld : LdId) (hpa : BitVec 64) (m : Meta) (tag : BitVec 16)
  | memrddata (ld : LdId) (hpa : BitVec 64) (m : Meta) (tag : BitVec 16)
  | meminv (ld : LdId) (hpa : BitVec 64) (m : Meta) (tag : BitVec 16)
  | meminvnt (ld : LdId) (hpa : BitVec 64) (m : Meta) (tag : BitVec 16)
  | memspecrd (ld : LdId) (hpa : BitVec 64)
  | memclnevct (ld : LdId) (hpa : BitVec 64) (tag : BitVec 16)
  | memwr (ld : LdId) (hpa : BitVec 64) (m : Meta) (data : Line) (tag : BitVec 16)
  | memwrptl (ld : LdId) (hpa : BitVec 64) (m : Meta) (data : Line) (mask : BitVec 64) (tag : BitVec 16)
  | memrdfwd (ld : LdId) (tag : BitVec 16)
  | memwrfwd (ld : LdId) (tag : BitVec 16)
  | memrdtee (ld : LdId) (tag : BitVec 16)
  | memwrtee (ld : LdId) (tag : BitVec 16)
  | memWrMsg (mirror : Bool) (dpa : Dpa) (mask : BitVec 64) (seq : Nat) (data : Line)   -- from the partner (15)
  | reservedMemOpcode (ld : LdId) (op : BitVec 4) (readClass : Bool) (tag : BitVec 16)
  | biconflict (ld : LdId) (line : Dpa) (tag : BitVec 16)
  | birspi (ld : LdId) (line : Dpa) (data : Option Line)
  | birsps (ld : LdId) (line : Dpa) (data : Option Line)
  | birspe (ld : LdId) (line : Dpa) (data : Option Line)
  -- the CXL device mailbox of an LD (10 R359)
  | identify (ld : LdId)
  | getSupportedLogs (ld : LdId)
  | getLog (ld : LdId)
  | getEventRecords (ld : LdId) (log : Fin 5)
  | clearEventRecords (ld : LdId) (log : Fin 5) (n : Nat)
  | getEventInterruptPolicy (ld : LdId)
  | setEventInterruptPolicy (ld : LdId) (policy : BitVec 40)
  | getFwInfo (ld : LdId)
  | transferFw (ld : Option LdId) (copyB : Bool) (svn : BitVec 16) (signedOk : Bool) (complete : Bool)
  | activateFw (ld : Option LdId) (copyB : Bool)
  | getTimestamp (ld : LdId)
  | setTimestamp (ld : LdId) (ns : BitVec 64)
  | getHealthInfo (ld : LdId)
  | identifyMemoryDevice (ld : LdId)
  | getPoisonList (ld : LdId)
  | injectPoison (ld : LdId) (ldOffset : BitVec 64)
  | clearPoison (ld : LdId) (ldOffset : BitVec 64) (data : Line)
  | getDynamicCapacityConfig (ld : LdId)
  | getDynamicCapacityExtents (ld : LdId)
  | addDynamicCapacityResponse (ld : LdId) (accepted : List (BitVec 64))
  | releaseDynamicCapacity (ld : LdId) (ldOffset : BitVec 64)
  | unsupportedMailboxCmd (ld : LdId) (code : BitVec 16)
  -- the FM API (10 R363 to R366)
  | setLdAllocations (ld : LdId) (units : BitVec 16)
  | bindLd (ld : LdId)
  | unbindLd (ld : LdId)
  | setQosAllocatedBw (ld : LdId) (min : Byte)
  | setQosBwLimit (ld : LdId) (cap : Byte)
  | setQosControl (enables : Byte) (egress : Byte) (interval : Byte)
  | setDcRegionConfig (ld : LdId) (region : Fin 8) (base : BitVec 64) (length : BitVec 64)
  | initiateDcAdd (ld : LdId) (region : Fin 8) (length : BitVec 64)
  | initiateDcRelease (ld : LdId) (ldOffset : BitVec 64) (forced : Bool)
  | getMultiHeadedInfo
  | fmApiOwnerCommand (payload : List Byte) (session : Bool)
  | fmApiOtherCommand (code : BitVec 16)
  -- contexts, rings, doorbells and windows (11)
  | ctxEnableWrite (who : Who) (ctx : Id12)
  | ctxDisableWrite (who : Who) (ctx : Id12)
  | ctxResetWrite (who : Who) (ctx : Id12)
  | contextDrained (ctx : Id12)
  | sqProdWrite (ld : LdId) (ctx : Id12) (v : BitVec 32)
  | cqConsWrite (ld : LdId) (ctx : Id12) (v : BitVec 32)
  | descriptorFetch (ctx : Id12) (host : Option Line)
  | stampRefetch (ctx : Id12) (host : Option Line)
  | stampTimeout (ctx : Id12) (host : Option Line)
  | descriptorAccept (ctx : Id12)
  | descriptorDispatch (ctx : Id12)
  | completionWrite (ctx : Id12) (ok : Bool)
  | windowWrite (ld : LdId) (ctx : Id12) (line : Fin 64) (partialWr : Bool) (data : Line)
  | windowRead (ld : LdId) (ctx : Id12) (line : Fin 64)
  | windowReadHoldExpiry (ld : LdId) (ctx : Id12) (line : Fin 64)
  -- placement and tiers (12, 17)
  | placementRefill (page : BitVec 32) (ecc : Ecc)
  | promotionCommit (page : BitVec 32)
  | heatSweep
  | tierMigrationSwitch (slot : TableId)
  | compaction (page : BitVec 32)
  | emergencyDemotionPass
  | lrDrain
  | rotationPageCopy (page : BitVec 32)
  | rotationLineAdvance
  | rotationFinish
  | zeroFrameDone
  | onDemandZero
  -- DRAM (13, 16)
  | refreshInterval (chan : Fin 12) (rank : Fin 8)
  | mr4ReadDue (chan : Fin 12) (rank : Fin 8)
  | mr4Result (chan : Fin 12) (rank : Fin 8) (code : BitVec 3)
  | powerDownEnter (chan : Fin 12) (rank : Fin 8)
  | selfRefreshEnter (chan : Fin 12) (rank : Fin 8)
  | selfRefreshExit (chan : Fin 12) (rank : Fin 8)
  | dramReadReturn (chan : Fin 12) (ecc : Ecc) (laneBad : BitVec 10)
  | patrolScrub (ecc : Ecc)
  | mapValidWrite (who : Who) (w : Word)
  | qosClassWrite (who : Who) (w : Word)
  | retireGranuleCopy
  -- training and calibration (14)
  | trnStart (who : Who) (chan : Fin 12) (w : Word)
  | trainingRunDone (chan : Fin 12) (reads : List (List (BitVec 80)))
  | dlyWrite (who : Who) (chan : Fin 12) (bitReg : Bool) (rank : Fin 8) (i : Fin 80) (w : Word)
  | drcTimingWrite (who : Who) (chan : Fin 12) (j : Fin 2) (w : Word)
  | calSnap (who : Who) (chan : Fin 12)
  | calNudgeWrite (who : Who) (chan : Fin 12) (rank : Fin 8) (w : Word)
  | rankTrainingExit (chan : Fin 12) (rank : Fin 8) (ok : Bool)
  | evacuationDone
  | restoreCopyDone
  -- the pair (15)
  | linkGo (who : Who) (w : Word)
  | hello (m : HelloMsg)
  | heartbeatSend
  | heartbeat (senderTick : Nat) (epoch : BitVec 32) (intact : Bool)
  | heartbeatTimeout
  | pairLinkLoss
  | tossResend
  | tossAnswer (version : Byte) (pairId : BitVec 16) (epoch : BitVec 32) (verdict : Byte) (reserved : BitVec 56)
      (serial : Word)
  | tossTimeout
  | partnerLossDetect
  | flitReceive (seq : BitVec 12) (ack : BitVec 12) (nak : Bool) (credit : BitVec 32) (tagOk : Bool) (wellFormed : Bool)
  | regionList (rs : List RegionDef)
  | applied (table : TableId) (seq : Nat) (home : Nat)
  | memAck (seq : Nat)
  | mutDone (seq : Nat) (body : MutBody) (home : Nat)
  | mirOp (m : MirMsg)
  | mirOpCommit
  | mirReady (table : TableId) (seq : Nat)
  | fwdMut (seq : Nat) (ctx : Id12) (acceptTick : Nat) (slot1 slot2 : Line)
  | resyncRow (m : MirMsg)
  | resyncBlock (page : BitVec 32) (blk : Fin 16) (data : BitVec 2048)
  | rdrReq (write : Bool) (line : Dpa) (data : Line)
  | rdrRsp (line : Dpa) (data : Option Line) (poison : Bool)
  | pageReq (page : BitVec 32)
  | pageBlock (page : BitVec 32) (blk : Fin 16) (data : BitVec 2048)
  | resyncDone (m : HelloMsg)
  -- reliability (16)
  | tallyVisit
  | tallyRepair
  | tallyOutOfTurn
  | shadowDrain
  | shadowDirtyFill (row : BitVec 21)
  | blockSenseFault (blk : Fin 128)
  | spareRebuildSwitch
  | sparePauseEnd
  | mpWdogKick (who : Who) (w : Word)
  | mpWatchdogExpiry
  | deviceFatal (cause : Fin 3)
  | rasEvtConsWrite (who : Who) (v : BitVec 32)
  | evtCoalesceExpiry
  | rasInjGo (who : Who) (w : Word)
  -- global registers and the management mailbox (18)
  | glbIntStatusWrite (who : Who) (w : Word)
  | glbIntEnableWrite (who : Who) (w : Word)
  | mboxOwnerRead (ld : LdId)
  | mboxRelease (ld : LdId)
  | ownerCmdComplete
  | bar0BadAccess (who : Who) (write : Bool) (offset : BitVec 24) (width : Nat)
  | registerWrite (who : Who) (offset : BitVec 24) (wide : Bool) (value : Word)
  -- power, resets, boot and security (17, 19)
  | powerGoodRise
  | coldResetRelease (straps : BitVec 9)
  | powerGoodLoss
  | railUndervoltage
  | sysResetAssert (failedBlocks : BitVec 136)
  | sysResetRelease
  | bootPhaseAdvance (winBase : BitVec 11) (fail : Fin 5)
  | spdmRequest (inSession : Session) (measIndex : Nat)
  | keyLoad (sess : Session) (slot : Id12) (dataKey tweakKey : BitVec 256) (reservedZero : Bool)
  | keyErase (sess : Session) (slot : Id12) (reservedZero : Bool)
  | keyQuery (sess : Session) (slot : Id12) (reservedZero : Bool)
  | lcTransition (sess : Session) (target : Byte) (keyHash : BitVec 384) (tokenOk : Bool) (reservedZero : Bool)
  | lcWarmResetDue
  | lockSet (who : Who)
  | fwConfirm (who : Who)
  | trialWindowExpiry
  | compatProfileWrite (who : Who) (w : Word)
  | thermalSample (readings : List (BitVec 16))
  | gweutLinkUp (authOk : Bool) (latencyOk : Bool) (m : HelloMsg)
  | mpProcessorFault
  | mpRestartComplete
  deriving DecidableEq, Repr

end Sys2Proof
end

