-- ==== Sys2Proof/Decode.lean ====
section
/-! DEFINITION. The command that a word spells. The block takes commands, not words: no row of the table has bits. -/

namespace Sys2Proof

/-- The command that a word of `nbits` bits spells by the table's bits. The table gives no row any bits, so no word
spells a command. -/
def decodeTableWord (_nbits _w : Nat) : Option Instr := none

end Sys2Proof
end

