-- ==== Sys2Proof/Config.lean ====
section
/-! DEFINITION. What the manual leaves open: the free values. -/

namespace Sys2Proof

/-- The free values (log 2). The `n`-th open value a step needs is `Config.freeValue n`, with `n` taken from
`State.freeIdx`, which the step advances. It has no body, so nothing can be proved of a particular value. -/
opaque Config.freeValue : Nat → BitVec 64

/-- PWR_STAT.EST: the estimated device power (19 R657), which the manual fixes only within ±10% of the power drawn. -/
opaque Config.powerEst : Nat → BitVec 16

/-- What the crypto stage returns for a 64 B unit stored under the first key pair and read under the second, at a tweak
(12 R450, R451): AES-256-XTS is not computed (log 7). -/
opaque Config.otherKey : BitVec 512 → BitVec 512 → Nat → BitVec 512 → BitVec 512

/-- The expected data of a training run that the manual does not give (14 R492): kind 8 is the DRAM's read-training pattern,
kinds 5 to 7 the reserved patterns; then the bit and its bit time. -/
opaque Config.trnData : Nat → Nat → Nat → Bool

/-- SHA-384 of a run of bytes (17 R601): not computed. -/
opaque Config.sha384 : List Byte → BitVec 384

end Sys2Proof
end

