-- ==== Sys2Proof/Machine/State.lean ====
section
/-! DEFINITION. The state of the block: every register, queue, store, mode and pin the manual gives it, as plain data
(INVENTORY.md lists each with its rule and reset value), the queue of waiting commands, and the state after reset. -/

namespace Sys2Proof.Machine

/-! ### 16, 18: rows and their shadow, events, spares -/

/-- The content of an array row (03 R69, R70): 40 cells, the control word, the result word. -/
structure Row where
  cells : Cells := 0
  ctl : Word := 0
  res : Word := 0
  deriving DecidableEq, Repr

/-- A row as the array stores it: its content, a set bit per word whose parity fails (R75), and the tick of its last
row write or state update (R158). -/
structure ArrRow where
  row : Row := {}
  bad : BitVec 12 := 0
  lastWrite : Nat := 0
  deriving DecidableEq, Repr

/-- The events of the table of event codes (16 R581). -/
inductive Ev where
  | arrayRowError | arrayRowRepaired | arrayRowLost | canopyParity | canopyWidened | blockFailing | spareInService
  | blockLost | shadowPoison | tableEvict | trieParity | directParity | mqParity | arbWdog
  | learnMove | learnStaticConflict | learnEvict | learnNoRoom | learnAgeOut | dirMove | dirBiTimeout
  | dramCeThreshold | dramUncorrectable | placementMiss | pageMapPoison | unmappedAccess
  | headroomNotice | headroomWarn | headroomCritical | headroomClear | tierWriteLost | underwater | underwaterClear
  | trainFail | calDrift | calStore | chanRetired
  | flitMismatch | unsupportedRequest | ideFailure | portDown | contextFault
  | partnerLost | tossResult | benchedWrite | journalBroken | pairSplit | resyncDone
  | mpRestart | thermalThrottle | thermalClear | deviceFatal
  deriving DecidableEq, Repr

/-- An event record (16 R578). `seq` is the event's number k. -/
structure Evt where
  ev : Ev
  seq : Nat
  tick : Nat
  arg0 : Word
  arg1 : Word
  deriving DecidableEq, Repr

/-- A repair the tally engine has reserved (16 R567): its row, the visit's tick g + 5, its grant tick. -/
structure Repair where
  row : Nat
  visit : Nat
  grant : Nat
  deriving DecidableEq, Repr

/-- A spare rebuild in progress (16 R571): logical block, spare, failing physical block, table, tick f. -/
structure Rebuild where
  blk : Nat
  spare : Nat
  failing : Nat
  table : Nat
  f : Nat
  deriving DecidableEq, Repr

/-- What happens at f + 1 to a failing block that needs no rebuild (16 R570, R572). -/
inductive BlkAct where
  | freeSpared (blk spare failing : Nat)   -- a free block takes a READY spare
  | freeFailed (blk failing : Nat)         -- a free block becomes FAILED
  | lost (blk failing table : Nat)         -- a block of a table is lost (R572)
  deriving DecidableEq, Repr

/-- State of the chapter Reliability. Counters and control fields are in the registers of R586. -/
structure Ras where
  /-- Lines that carry the poison mark (R558), by DPA line number. -/
  mark : SMap Bool := []
  /-- Lines with inverted check bits, and the devices whose bits are inverted, as a mask (R585). -/
  inj : SMap Nat := []
  /-- Lines written since a read in flight returned (R556: the write-back is skipped), by DPA line number: tick. -/
  wrTick : SMap Nat := []
  /-- Corrected reads per rank (8 · channel + rank) since its last DRAM_CE_THRESHOLD (R556). -/
  ce : SMap Nat := []
  /-- Next line of the patrol scrubber, as a line number of the DRAM address space (R559). -/
  scrub : Nat := 0
  /-- The shadow image by logical row address (R561). -/
  shadow : SMap Row := []
  /-- Shadow lines that carry a poison mark, by row (R576). -/
  shadowPoison : SMap Bool := []
  /-- The shadow queue, oldest first, at most 16,384 entries (R562). -/
  shadowQ : List (Nat × Row) := []
  /-- Shadow queue entries whose parity fails (R560). -/
  shadowQBad : SMap Bool := []
  /-- The shadow-dirty bitmap (R563). -/
  dirty : SMap Bool := []
  /-- The row of the next paced visit to reserve, and the grant tick of the previous one (R564). -/
  nextRow : Nat := 0
  lastPaced : Option Nat := none
  /-- Row errors found per logical block in this pass (R570). -/
  blkErr : SMap Nat := []
  /-- E(r) bytes seen in the segment under the pass (R569). -/
  segBytes : BitVec 256 := 0
  /-- Rows reported to the tally engine, at most 16 (R568). -/
  reports : List Nat := []
  /-- Rows to be visited again after a discarded repair (R567). -/
  revisit : List Nat := []
  /-- The tick of the last commit on a row, plus 1 (R567). -/
  rowTick : SMap Nat := []
  /-- The tick of the last out-of-turn visit (R568). -/
  lastOut : Option Nat := none
  repairs : List Repair := []
  /-- Widenings of R569 not yet applied: segment, bytes, tick. -/
  widen : List (Nat × BitVec 256 × Nat) := []
  rebuilds : List Rebuild := []
  blkActs : List (Nat × BlkAct) := []
  /-- The spares that are READY, and the physical blocks that are FAILED (03 R66). -/
  ready : List Nat := [128, 129, 130, 131, 132, 133, 134, 135]
  failedPhys : List Nat := []
  /-- Logical blocks that are failing but not yet replaced (R570), and FAILED logical blocks. -/
  failing : List Nat := []
  /-- The event ring by record index (R578), and the number of events raised so far. -/
  ring : SMap Evt := []
  evts : Nat := 0
  /-- The tick at which the oldest unconsumed event was stored, and whether the conditions of R624 have held since the
  ring was last emptied. -/
  oldest : Nat := 0
  evtHeld : Bool := false
  /-- The tick at which bit n of GLB_INT_STATUS was last set (R622). -/
  intTick : SMap Nat := []
  /-- The management processor runs firmware (01 R38), and the tick of its last kick (R575). -/
  mpRunning : Bool := true
  lastKick : Nat := 0
  deriving DecidableEq, Repr

/-! ### 02 to 05: array operations, the arbiter, the array, tables and table maintenance -/

/-- What a search presents (03 R79): a set key, or a key value with LEAVE and GMASK. -/
structure SearchKey where
  set : Option Cells := none
  key : Key := 0
  leave : BitVec 40 := 0
  gmask : Key := 0
  deriving DecidableEq, Repr

/-- Where the outcome of an array, trie or direct operation goes. -/
inductive Origin where
  | req (ctx : Nat) (n : Nat)              -- the descriptor of context `ctx` whose first slot has count `n`
  | window (ctx : Nat) (line : Nat)        -- window line (11 R395)
  | cmdPath                                -- the command-register path (05 R193)
  | rule (job : Nat) (chunk : Nat) (pos : Nat)   -- a rule lookup of a ranger (09 R318): job, chunk, match position
  | learn (id : Nat)                       -- a learn of the learn stage (07 R232)
  | dir (claim : Nat)                      -- a directory request by its claim number (07 R257)
  | sweep (table : Nat)                    -- a sweeper visit (07 R241)
  | tm                                     -- the table manager: relocations, tightenings, migrations (05 R156)
  | tally                                  -- the tally engine (16 R564)
  | tallyOut                               -- its visits out of turn (16 R568)
  | dirtyFill                              -- the shadow writer (16 R563)
  | mirror (table : Nat) (seq : Nat)       -- a mirrored change (15 R527)
  | resync (handle : Nat)                  -- the keeper's read of a row to resynchronize (15 R549)
  | fwd (seq : Nat)                        -- a mutation forwarded by the partner (15 R532)
  | partner (t0 : Nat)                     -- a cascade-in, by the local t0 of the partner that sent it (02 R50)
  | owner (via : OwnerPath)                -- an owner command
  | place                                  -- a placement or device-internal lookup
  deriving DecidableEq, Repr

/-- The outcome of an operation as its record or completion carries it (06 R197, 11 R390, R391). -/
structure Outc where
  status : Nat
  tick : Nat := 0
  gen : Nat := 0
  table : Nat := 0
  count : Nat := 0
  multi : Bool := false
  handle : Nat := 0
  prio : Nat := 0
  res : Word := 0
  victim : Nat := 0
  image : Option Row := none
  /-- Whether the record names a hit; false leaves its winner fields zero (06 R198). -/
  hit : Bool := false
  /-- The winner is a row of the partner (06 R197 PARTNER). -/
  partner : Bool := false
  /-- Second argument of a completion: LEARN outcome (07 R229). -/
  outcome : Nat := 0
  deriving DecidableEq, Repr

/-- What a row write of an array operation is for (02 R44, 05 R142, R163, R169). -/
inductive WKind where
  | insert (victim : Option Nat)   -- a new live row; `victim` is the handle it evicts (05 R160)
  | update                         -- the entry's row rewritten in place (05 R150)
  | free                           -- DELETE: the row freed
  | stage                          -- a staged row of a lock or a bulk load (05 R169, R179)
  | unstage                        -- a staged row freed within a lock (05 R170)
  | copy                           -- relocation step 1 (05 R163)
  | migCopy                        -- a migration copy (05 R184)
  | repair (visit : Nat)           -- a tally repair (16 R567) found at tick `visit`
  | erase (visit : Option Nat)     -- a lost row found at tick `visit` written free (16 R573); none: a table cleared (15 R549)
  | learnInsert (victim : Option Nat)
  | learnMove
  | dirMove
  deriving DecidableEq, Repr

/-- A state update (02 R44). Rows are named by handle; the row is the one the handle map names at the commit tick. -/
inductive Upd where
  | hit                            -- learn HIT: H set (07 R228)
  | visit                          -- sweeper visit (07 R241)
  | remove                         -- learn, sweeper or directory removal of a row
  | dirChange (src : BitVec 12) (res : Word) (h : Bool)   -- a directory change of 07 R254
  | switch (new : Nat)             -- relocation switch to row `new` (05 R163)
  | lockCommit                     -- COMMIT of the table's lock (05 R173)
  | lockDiscard                    -- discard of the table's lock (05 R174)
  | cutover                        -- migration cut-over (05 R184)
  | tighten (seg : Nat) (z : BitVec 256) (read : Nat)     -- tightening (03 R92)
  deriving DecidableEq, Repr

/-- What an array operation does. -/
inductive Act where
  | search (k : SearchKey) (tenant : Bool) (image : Bool)   -- best match; `image`: READ_BY_KEY
  | pass (k : SearchKey) (tenant : Bool) (floor : Option (BitVec 38)) (qp : Nat) (cascadeIn : Bool)
  | write (addr : Nat) (row : Row) (kind : WKind)
  | read (addr : Nat)
  | upd (handle : Nat) (u : Upd)
  deriving DecidableEq, Repr

/-- An operation in an issue queue (02 R55). `lock` is the context under whose lock it runs. `cells` holds the key
sets a cascade-in received (02 R50). -/
structure ArrOp where
  table : Nat
  act : Act
  origin : Origin
  enq : Nat := 0
  lock : Option Nat := none
  cells : Option Cells := none
  /-- The context and the handle that a READ_BY_HANDLE names (05 R165, R170). -/
  named : Option (Nat × Nat) := none
  deriving DecidableEq, Repr

/-- A match as the tournaments order it: its row, rank fields, result word and failing words as of the evaluate tick, and
what the check of t13 or t21 found of it: `fails`, with `addr` the row that was read (03 R68, R76). -/
structure Win where
  addr : Nat
  rank : BitVec 38
  row : Row
  bad : BitVec 12 := 0
  fails : Bool := false
  deriving DecidableEq, Repr

/-- What a search or pass found at its evaluate tick (03 R83, R88): up to 32 winners in rank order, and the count of all
matches. -/
structure Found where
  tick : Nat
  gen : Nat
  count : Nat
  wins : List Win
  deriving DecidableEq, Repr

/-- What a row read observed as of g + 5 (02 R45), and for a visit of the tally engine what it found at that tick: the kind of
row error, whether the row has no good shadow content, and whether its shadow line is poisoned (16 R563, R566, R576). -/
structure Seen where
  row : ArrRow
  err : Option Nat := none
  noGood : Bool := false
  poison : Bool := false
  deriving DecidableEq, Repr

/-- An admitted operation: its grant, the key sets of t1, a refusal of t1 (04 R659), what it found. -/
structure Flight where
  op : ArrOp
  input : Nat
  port : Nat
  g : Nat
  keys : Option Cells := none
  refused : Option Nat := none
  found : Option Found := none
  /-- A valid reply or a decline of the partner (02 R53, R77). -/
  reply : Option CasRep := none
  declined : Bool := false
  /-- The request reached the partner as a cascaded search (02 R50). -/
  cascaded : Bool := false
  committed : Bool := false
  /-- What a row read observed as of g + 5, when a command takes it up later (02 R45). -/
  seen : Option Seen := none
  /-- The requester does not reach the operation's break point (02 R65; log 38). -/
  stuck : Bool := false
  /-- The sequence number of its MIR_OP (15 R526). -/
  mseq : Option Nat := none
  deriving DecidableEq, Repr

/-- A requester interface: one input at one port (02 R56, R60). -/
structure Iface where
  q : List ArrOp := []
  losses : Nat := 0
  nextReq : Nat := 0
  deriving DecidableEq, Repr

/-- A hold of a port: the flight's input, grant tick, the tick after its break point, and the count of held ticks
(02 R61, R65). A stuck requester's hold has no end. -/
structure Hold where
  input : Nat
  g : Nat
  until_ : Option Nat
  deriving DecidableEq, Repr

/-- A reservation: port, first tick, number of ticks held, the operation and its input (02 R51, R54; 16 R564). -/
structure Resv where
  port : Nat
  first : Nat
  len : Nat
  input : Nat
  op : ArrOp
  deriving DecidableEq, Repr

/-- The issue arbiter. Its fixtures and port masks are the registers ARB_*. -/
structure Arb where
  /-- Requester interfaces by 8 · input + port. -/
  ifaces : SMap Iface := []
  /-- The port last assigned by an input (02 R56). -/
  lastPort : SMap Nat := []
  /-- Holds by port. -/
  holds : SMap (Option Hold) := []
  resvs : List Resv := []
  flights : List Flight := []
  /-- Operations that the arbitration under way withdrew without admission (04 R138, 05 R166). -/
  withdrawn : List ArrOp := []
  deriving DecidableEq, Repr

/-- The Septora array. ARRAY_BLOCK_MAP and the governor's settings are the registers ARRAY_*. -/
structure Arr where
  /-- Rows by logical row address (03 R67). -/
  rows : SMap ArrRow := []
  /-- Handle maps: table · 2^22 + handle ↦ row address + 1; 0 is no row (03 R68). -/
  hmap : SMap Nat := []
  /-- Handle map entries whose parity fails (16 R560). -/
  hmapBad : SMap Bool := []
  /-- Segment canopy sets by block · 64 + segment (03 R90). -/
  z : SMap (BitVec 256) := []
  /-- Words of Z whose parity fails, and those already reported (03 R93). -/
  zBad : SMap (BitVec 4) := []
  zSeen : SMap (BitVec 4) := []
  /-- Grant tick of the last row write to a segment, plus 1 (03 R92). -/
  segWrite : SMap Nat := []
  /-- Bytes that row writes and tightenings give Z: segment, bytes, tick (03 R92). -/
  zPend : List (Nat × BitVec 256 × Nat) := []
  zTight : List (Nat × BitVec 256 × Nat × Nat) := []
  /-- The governor's balance (03 R96). -/
  bal : Int := 640
  /-- Credits charged in the current tick (03 R95). -/
  charges : Nat := 0
  /-- Grant ticks of row writes and row reads withdrawn after their grant, whose credit is charged at g + 2 (03 R95). -/
  owed : List Nat := []
  /-- Ticks of the last 1 ms with the credits charged in them, newest first (19 R657). -/
  recent : List (Nat × Nat) := []
  deriving DecidableEq, Repr

/-- Table states (04 R105) and kinds (04 R101) are numbered as the manual numbers them. -/
structure Lock where
  owner : Nat
  leaseUs : Nat
  endTick : Nat
  bulk : Bool := false
  /-- 1 held, 2 COMMIT accepted, 3 discarding (05 R177). -/
  lstate : Nat := 1
  /-- Row addresses of the staged rows marked to go live. -/
  live : List Nat := []
  /-- Handles whose live row is marked to retire. -/
  retire : List Nat := []
  /-- Handles reserved by an INSERT not yet staged (05 R145). -/
  reserved : List Nat := []
  /-- Marked handles whose live row a learn from outside the lock has changed since their staging (05 R175). -/
  learned : List Nat := []
  /-- PREPARE was framed, and MIR_READY has been decoded (15 R529). -/
  prep : Option Nat := none
  ready : Bool := true
  /-- Tick at which COMMIT or a discard was accepted (05 R173, R174), and the requester of COMMIT or ABANDON. -/
  accept : Nat := 0
  ender : Option Origin := none
  /-- Commit tick of the last staged row write (05 R173). -/
  lastStage : Nat := 0
  deriving DecidableEq, Repr

/-- A bulk load in progress (05 R178): its request, mode, records still to stage, profile section. -/
structure Bulk where
  origin : Origin
  replace : Bool
  rows : List Row := []
  prefixes : List (BitVec 128 × Nat × Word) := []
  entries : List (Nat × Word) := []
  image : List Byte := []
  profile : Option Line := none
  records : Nat := 0
  staged : Nat := 0
  /-- Rows chosen for the records, in order (05 R181). -/
  target : List Nat := []
  /-- PREPARE of a DIRECT load was framed, and MIR_READY has been decoded (15 R529). -/
  prep : Option Nat := none
  ready : Bool := true
  deriving DecidableEq, Repr

/-- A migration in progress (05 R184): target blocks, copies made (handle ↦ staged row), m0, and the cut-over tick. -/
structure Mig where
  via : OwnerPath
  target : BlockSet
  copies : List (Nat × Nat) := []
  cut : Option Nat := none
  /-- Handles that the cut-over moved to another row (07 R244). -/
  moved : List Nat := []
  oldBlocks : BlockSet := 0
  deriving DecidableEq, Repr

/-- A relocation in progress (05 R163): old and new row, handle, tick of step 1's commit (0: not yet), and the insert
that waits for the row y leaves (05 R156 step 3a), by its position in `Maint.tmWait`. -/
structure Reloc where
  table : Nat
  handle : Nat
  old : Nat
  new : Nat
  staged : Option Nat := none
  switched : Bool := false
  /-- An UPDATE or migration move carries the updated image (05 R185). -/
  row : Option Row := none
  origin : Origin := .tm
  deriving DecidableEq, Repr

/-- The record of a table (04 R107, R141) with its profile, lock and long-running work. -/
structure Tbl where
  state : Nat := 0
  kind : Nat := 0
  domain : Nat := 0
  sys : Bool := false
  shrinking : Bool := false
  gen : Nat := 0
  blocks : BlockSet := 0
  mig : BlockSet := 0
  handleBase : Nat := 0
  hmapBase : Nat := 0
  maxBlocks : Nat := 0
  regionBase : Nat := 0
  regionSize : Nat := 0
  count : Nat := 0
  profile : Line := 0
  lock : Option Lock := none
  commits : Nat := 0
  discards : Nat := 0
  bulk : Option Bulk := none
  migration : Option Mig := none
  /-- A shrink waiting for a lock to end, and the blocks that leave (05 R134). -/
  shrinkWait : Option (OwnerPath × BlockSet) := none
  shrinkVia : Option OwnerPath := none
  leaving : BlockSet := 0
  s2 : Option Nat := none
  /-- A CASCADE table: MAX_BLOCKS of the partner's table (04 R129; log 13). -/
  peerBlocks : Nat := 0
  /-- Destruction: its path and tick d (04 R137). -/
  destroy : Option (OwnerPath × Nat) := none
  clearStarted : Bool := false
  migWait : Option (OwnerPath × BlockSet) := none
  /-- Installed prefixes (08 R269): prefix, length, result word. -/
  prefixes : List (BitVec 128 × Nat × Word) := []
  /-- The stored AUTOMATON image (09 R294). -/
  image : List Byte := []
  deriving DecidableEq, Repr

/-- An entry waiting for placement (05 R149): who asked, the table, the row image, a given handle, tick received. -/
structure Ins where
  origin : Origin
  table : Nat
  row : Row
  given : Option Nat
  at_ : Nat
  lock : Option Nat := none
  /-- A bulk-load record, a learn insert or a directory insert instead of a host INSERT. -/
  learn : Bool := false
  bulk : Bool := false
  /-- The row left by a step 3a relocation, reserved for this insert. -/
  reservedRow : Option Nat := none
  /-- A mirrored placement: the handle and victim home chose (15 R528). -/
  victim : Option Nat := none
  mirrored : Bool := false
  /-- An UPDATE under a lock, which stages a new row for its handle (05 R169). -/
  upd : Bool := false
  /-- The sequence of the MIR_OP that this placement applies at away (15 R528). -/
  mseq : Nat := 0
  deriving DecidableEq, Repr

/-- Table maintenance. -/
structure Maint where
  /-- Inserts awaiting the placement engine, oldest first (05 R149). -/
  placeQ : List Ins := []
  /-- The tick of the engine's last decision: one per tick (05 R149). -/
  lastDecision : Option Nat := none
  /-- Inserts awaiting the table manager (05 R156 step 3). -/
  tmQ : List Ins := []
  /-- Inserts awaiting the switch of a relocation, with the handle that moves (05 R156 step 3a). -/
  tmWait : List (Nat × Ins) := []
  relocs : List Reloc := []
  /-- Segments whose rows left since their last tightening, with the tick of the first (05 R162), and tightenings
  requested by a canopy parity error (03 R93). -/
  left : SMap Nat := []
  /-- The command-register path's operation: opcode, and its outcome once known (05 R193, R195). -/
  cmd : Option (Nat × Option Outc) := none
  /-- It waits, as an entry held does (05 R151), and is tried again. -/
  cmdWait : Bool := false
  deriving DecidableEq, Repr

/-! ### 06: match queues -/

/-- A record in a bank slot (06 R206): `poison` is TAG POISON; bit w of `bad` is set while the parity of word w fails
(R203, R213). -/
structure MqRec where
  res : Word
  prio : BitVec 16
  handle : BitVec 22
  poison : Bool := false
  partner : Bool := false
  bad : BitVec 2 := 0
  deriving DecidableEq, Repr

/-- A bank of a queue pair (06 R203). Its state is 0 EMPTY, 1 FILLING, 2 READY, 3 DRAINING. `readyAt` is the tick at
which a FILLING bank becomes READY (R205). The records not yet consumed are those of slots `takenL` on of the local half,
and of slots 32 + `takenP` on of the partner half. -/
structure Bank where
  st : Nat := 0
  local_ : List MqRec := []
  partner : List MqRec := []
  takenL : Nat := 0
  takenP : Nat := 0
  pass : Nat := 0
  readyAt : Option Nat := none
  deriving DecidableEq, Repr

/-- A match-queue pair (06 R200 to R225). `state` is QSTATE: 0 FREE, 1 ACTIVE, 2 EXHAUSTED. -/
structure QPair where
  state : Nat := 0
  ctx : Nat := 0
  n : Nat := 0
  table : Nat := 0
  ring : Bool := false
  key : SearchKey := {}
  tenant : Bool := false
  seq : Nat := 0
  pass : Nat := 0
  delivered : Nat := 0
  /-- R211 has applied. -/
  part : Bool := false
  poisonSeen : Bool := false
  /-- Evaluate tick, generation and match count of the first pass (R220). -/
  firstTick : Nat := 0
  firstGen : Nat := 0
  firstCount : Nat := 0
  /-- Counts of the pass under way, local and partner (R207). -/
  countL : Nat := 0
  countP : Nat := 0
  /-- Why the enumeration ended early: the table disabled, or a refusal at t1 (R219, R221). -/
  endStatus : Option Nat := none
  /-- A continuation pass to queue, with its rank floor (R208). -/
  next : Option (BitVec 38) := none
  /-- The tick of the READY decision, or of the bank's emptying, after which the pass is queued (R208). -/
  nextAt : Nat := 0
  bank0 : Bank := {}
  bank1 : Bank := {}
  deriving DecidableEq, Repr

/-! ### 15: messages to the partner, and what the block sends outward -/

/-- Messages of the pair link that this member sends (15 R515). -/
inductive LinkMsg where
  | casReq (m : CasMsg)
  | casReply (t0 : Nat) (status : Nat) (hit : Bool) (count : Nat) (handle : Nat) (prio : Nat) (res : Word)
  | casDecline (t0 : Nat)
  | enumReply (t0 : Nat) (count : Nat) (recs : List MsgRec)
  | mirOp (m : MirMsg)
  | mirReady (table : Nat) (seq : Nat)
  | applied (table : Nat) (seq : Nat) (away : Nat)
  | fwdMut (seq : Nat) (ctx : Nat) (accept : Nat) (slot1 slot2 : Line)
  | mutDone (seq : Nat) (home : Nat) (o : MutBody)
  | resyncRow (m : MirMsg)
  | memWr (mirror : Bool) (dpa : Nat) (mask : BitVec 64) (seq : Nat) (data : Line)
  | memAck (seq : Nat)
  | resyncBlock (page : Nat) (blk : Nat) (data : BitVec 2048)
  | resyncDone (m : HelloMsg)
  | hello (m : HelloMsg)
  | heartbeat (tick : Nat) (epoch : Nat) (state : PairState)
  | regionList (rs : List RegionDef)
  | rdrReq (write : Bool) (line : Nat) (data : Line)
  | rdrRsp (line : Nat) (data : Option Line) (poison : Bool)
  | pageReq (page : Nat)
  | pageBlock (page : Nat) (blk : Nat) (data : BitVec 2048)
  deriving DecidableEq, Repr

/-- Back-invalidate snoops (07 R253). -/
inductive BiKind where
  | inv      -- BISnpInv
  | data     -- BISnpData
  | cur      -- BISnpCur
  deriving DecidableEq, Repr

/-- What the block sends to the world outside (log 3). -/
inductive Out where
  | mpIrq (n : Nat)                                  -- interrupt n to the management processor (18 R623)
  | msix (ld : Nat) (vector : Nat)                   -- MSI-X message (18 R623)
  | memData (ld : Nat) (tag : Nat) (data : Line) (poison : Bool) (load : Nat)   -- MemData with DevLoad (10 R349, R362)
  | cmp (ld : Nat) (tag : Nat) (st : Nat) (load : Nat)   -- 0 Cmp, 1 Cmp-S, 2 Cmp-E, with DevLoad (10 R349, R362)
  | biConflictAck (ld : Nat) (tag : Nat)
  | biSnp (ld : Nat) (line : Nat) (k : BiKind)       -- back-invalidate snoop (07 R253)
  | doorbell (ld : Nat) (value : Word)               -- a register read's answer
  | line (ld : Nat) (ctx : Nat) (idx : Nat) (data : Line)   -- a window or NEXT read's answer (11 R397, 06 R215)
  | mbox (ld : Nat) (code : Nat) (rc : Nat) (payload : List Byte)   -- device mailbox answer (10 R359)
  | fm (code : Nat) (rc : Nat) (payload : List Byte) -- FM API answer (10 R365)
  | dcEvent (ld : Nat) (kind : Nat) (off len : Nat)  -- dynamic-capacity event: 0 add, 1 release, 2 forced (10 R353)
  | aer (ld : Nat) (fatal : Bool)                    -- AER (16 R583)
  | link (m : LinkMsg)                               -- a message on the pair link (15 R514)
  | ack (seq : Nat) | nak (seq : Nat) | replay (seq : Nat)   -- flit layer (15 R516 to R518)
  | toss (pairId epoch : Nat) (role : Bool)          -- the toss request to the witness (18 R632)
  | spdm (code : Nat) (payload : List Byte)          -- an SPDM answer (17 R600)
  | pin (name : Nat) (high : Bool)                   -- an output pin (19 R654, 15 R522): 0 GW_ALIVE_OUT, 1 SYS_THERMTRIP#
  deriving DecidableEq, Repr

/-! ### 07: learning, the sweeper and the coherence directory -/

/-- A learn in the learn stage of its table, in the order of R232. `phase`: 0 probing, 1 its probe result is known,
2 decided: its change is queued, being placed, or granted. -/
structure LearnOp where
  id : Nat
  table : Nat
  key : Key
  src : Nat
  prio : Nat
  res : Word
  origin : Origin
  arrive : Nat
  ctx : Nat
  lock : Option Nat := none
  phase : Nat := 0
  /-- The probe's outcome, and the row address of its winner. -/
  probe : Option Outc := none
  row : Option Nat := none
  /-- The decided outcome (R229) and the handle claimed until the commit (R235). -/
  outcome : Nat := 0
  handle : Option Nat := none
  deriving DecidableEq, Repr

/-- The sweeper's work on a table (R243 to R245): the due tick S of the next or running pass, the running pass's next
handle, and the handles whose visits are requested and not committed (R244). -/
structure Sweep where
  due : Nat := 0
  running : Bool := false
  pos : Nat := 0
  visits : List Nat := []
  /-- Handles to be visited again at their new rows after a cut-over (R244). -/
  again : List Nat := []
  /-- Commit tick of the pass's last visit (R243), and S + 500,000 × P for the next pass, which is late after it (R245). -/
  lastVisit : Nat := 0
  /-- SWEEP_PERIOD at the pass's last visit (R243). -/
  period : Nat := 0
  limit : Option Nat := none
  deriving DecidableEq, Repr

/-- The learn stages and the sweeper. Their counters are the registers LRN_CNT. -/
structure Learn where
  ops : List LearnOp := []
  /-- Tick of the last commit or decision assigned on a table (R235). -/
  last : SMap Nat := []
  /-- Sweeps of the tables that have been opened. -/
  sweeps : SMap (Option Sweep) := []
  deriving DecidableEq, Repr

/-- What a directory request is for (R252, R257, R260). -/
inductive DirWhat where
  | mem (cls : Nat) (op : Instr)     -- class 0 NOCACHE, 1 SHARED, 2 OWN, 3 WRITE, and the CXL.mem request to finish
  | pin (ctx n : Nat)                -- DIR_PIN, with the request's context and count
  | unpin (ctx n : Nat)
  | remove (handle : Nat)            -- an ageing removal (R258)
  | settle (handle : Nat)            -- an entry of an LD of a lost port (10 R369)
  deriving DecidableEq, Repr

/-- The change a request makes (R254). -/
inductive DirChange where
  | none
  | hit (handle : Nat)
  | set (handle : Nat) (state sharers src : Nat) (setSrc : Bool)   -- a line entry rewritten
  | line (state sharers src : Nat)   -- a line entry installed
  | coarse (stat : Bool)             -- a coarse entry for the requester
  | remove (handle : Nat)
  deriving DecidableEq, Repr

/-- A request of the directory path with its claim (R257). `phase`: 0 waiting for its claim, 1 lookup in flight,
2 lookup known, 3 page probe in flight, 4 page probe known, 5 its change and its snoops are under way, 6 done. -/
structure DirReq where
  id : Nat
  ld : Nat
  line : Nat
  what : DirWhat
  arrive : Nat
  phase : Nat := 0
  /-- The claim covers all 64 lines of the page (R257). -/
  page : Bool := false
  found : Option Outc := none
  /-- Snoops issued and not complete (R253): LD, line, tick sent, and what was sent. -/
  snoops : List (Nat × Nat × Nat × BiKind) := []
  change : DirChange := .none
  /-- The change is queued or being placed; its commit tick once known. -/
  queued : Bool := false
  commit : Option Nat := none
  move : Option (Nat × Nat) := none
  split : Bool := false
  /-- A victim chosen by R258: its handle is reused once its snoops complete. -/
  victim : Option Nat := none
  /-- The row write that waits for the victim's snoops (R258). -/
  write : Option (Nat × Row) := none
  /-- The line of the victim, claimed until its row is reused, and whether that is a whole page (R257, R258). -/
  also : Option (Nat × Bool) := none
  /-- It was looked up afresh after its decision had ceased to hold, and has left its place in the order of R232 (R259). -/
  again : Bool := false
  deriving DecidableEq, Repr

/-- The directory path. DIR_CTRL, DIR_STAT and DIR_CNT are registers. -/
structure Dir where
  reqs : List DirReq := []
  /-- By handle of a SHARED entry: sharers whose port has been lost, which the entry's next change leaves out (10 R369). -/
  stale : SMap Nat := []
  /-- Entries that the sweeper found aged out and that wait for DIR_AGE_REMOVAL (R242, R258). -/
  aged : List Nat := []
  deriving DecidableEq, Repr

/-! ### 08: the prefix trie and direct SRAM -/

/-- What a direct access does (08 R287): a lookup by key, or a read or write of an index. `leave`: the request's LEAVE vector is
not zero (03 R81). -/
inductive DAct where
  | lookup (key : Key) (tenant : Bool) (image : Bool) (leave : Bool)
  | readIdx (i : Nat)
  | write (i : Nat) (v : Word)
  deriving DecidableEq, Repr

/-- An access waiting for its bank (08 R265). -/
structure DOp where
  table : Nat
  act : DAct
  origin : Origin
  enq : Nat := 0
  deriving DecidableEq, Repr

/-- Direct SRAM (08 R285 to R290): words by absolute address, words whose parity fails, units taken by tables, accesses
waiting, and lookups read whose records are delivered 3 ticks later (R286). -/
structure Direct where
  words : SMap Word := []
  bad : SMap Bool := []
  taken : BitVec 1024 := 0
  waiting : List DOp := []
  flights : List (DOp × Nat × Outc) := []
  /-- The banks that have served an access in tick `servedAt`, once for each access (R265). -/
  served : List Nat := []
  servedAt : Nat := 0
  /-- The LD map's request sequence number (R289). -/
  ldSeq : Nat := 0
  deriving DecidableEq, Repr

/-- What a trie operation does: a lookup, or a mutation (08 R275). `leave`: the request's LEAVE vector is not zero (03 R81). -/
inductive TAct where
  | lookup (key : Key) (tenant : Bool) (image : Bool) (leave : Bool)
  | insert (pfx : BitVec 128) (len : Nat) (res : Word) (update : Bool)
  | delete (pfx : BitVec 128) (len : Nat)
  | read (pfx : BitVec 128) (len : Nat)
  | load
  deriving DecidableEq, Repr

/-- A trie operation with its table and requester. -/
structure TOp where
  table : Nat
  act : TAct
  origin : Origin
  enq : Nat := 0
  deriving DecidableEq, Repr

/-- A trie lookup in flight: what it found at its evaluate tick, due at t11 (08 R272). -/
structure TFlight where
  op : TOp
  t0 : Nat
  outc : Outc
  deriving DecidableEq, Repr

/-- A trie mutation being built (08 R277): its operation, its swap tick, the installed prefixes after it, the slots of
stages 1 to 8 and the leaves that its build takes, and those that its swap disconnects. -/
structure TBuild where
  op : TOp
  swap : Nat
  prefixes : List (BitVec 128 × Nat × Word)
  need : List Nat
  leaves : Nat
  freed : List Nat
  freedLeaves : Nat
  /-- Home: MIR_READY for its PREPARE is still to come. Away: the PREPARE that MIR_READY will answer once the nodes are
  built (15 R529). -/
  ready : Bool := true
  prep : Option Nat := none
  deriving DecidableEq, Repr

/-- Slots and leaves that a swap disconnected, and the tick at which they are free (R279). -/
structure TFree where
  table : Nat
  at_ : Nat
  slots : List Nat
  leaves : Nat
  deriving DecidableEq, Repr

/-- The prefix trie. Installed prefixes are in the table records: by R270 they determine the nodes. -/
structure Trie where
  waiting : List TOp := []
  flights : List TFlight := []
  /-- Mutations waiting, in order, and the one being built, by table. -/
  muts : List TOp := []
  builds : SMap (Option TBuild) := []
  freeing : List TFree := []
  /-- Injected parity errors: [63:61] stage - 1, [19:0] slot (16 R585). -/
  badSlots : List Nat := []
  /-- Lookups that the placement stage has admitted in tick `placedAt`, one for each of its slots (R264). -/
  placed : Nat := 0
  placedAt : Nat := 0
  deriving DecidableEq, Repr

/-! ### 09: the rangers -/

/-- A rule record of a scan job (R304). `post`: 0 ON_HIT, 1 ON_MISS, 2 ALWAYS. -/
structure ScanRule where
  table : Nat
  post : Nat
  swap : Bool
  extBytes : Nat
  extOff : Int
  lo : Nat
  hi : Nat
  leave : BitVec 40
  deriving DecidableEq, Repr

/-- An accepted, uncompleted job (R302 to R313, R330 to R333): its request, its parameters, the next unstarted chunk, the
chunks scanned, reports posted and bytes scanned, and what its status will report. -/
structure ScanJob where
  id : Nat
  ctx : Nat
  n : Nat
  accept : Nat
  tag : Nat
  image : Nat
  ranges : List (Nat × Nat)
  rules : List ScanRule
  ringBase : Nat
  ringLog : Nat
  ringHost : Bool
  ringIndex : Nat
  marks : Bool
  maxThreads : Nat
  mask : BitVec 32
  next : Nat := 0
  scanned : Nat := 0
  posted : Nat := 0
  bytes : Nat := 0
  /-- R332 applied; a SKIPPED record was posted; a POISON record or a POISONED lookup. -/
  dropped : Bool := false
  skipped : Bool := false
  poison : Bool := false
  /-- Tick of the last report written. -/
  lastPost : Nat := 0
  deriving DecidableEq, Repr

/-- A report in a thread's buffer (R293, R320): its number in the chunk, kind, offset, length, report ID, the rule that
applied, and the lookup's outcome once known (`await`: not yet). -/
structure RepEntry where
  pos : Nat
  kind : Nat
  off : Nat
  len : Nat := 0
  id : Nat := 0
  rule : Option Nat := none
  await : Bool := false
  outc : Option Outc := none
  deriving DecidableEq, Repr

/-- A thread at work on a chunk (R308 to R310): the chunk's offsets [c0, c1) and window end, the scan position and
automaton state, the tick at which the image is loaded and from which it scans, its buffer, and what it has posted. -/
structure ScanThread where
  job : Nat
  seq : Nat
  range : Nat
  c0 : Nat
  c1 : Nat
  wEnd : Nat
  pos : Nat
  st : Nat
  loadAt : Nat
  start : Option Nat := none
  buf : List RepEntry := []
  /-- The image in the ranger's banks, which the thread runs to its end (R310). -/
  image : List Byte := []
  /-- The low nibble of the byte whose high nibble has been consumed; accept records that the report stage has not taken, with
  the offset of their byte (R293); the poisoned line at which the scan stopped (R328). -/
  low : Option Nat := none
  todo : List (Nat × Nat) := []
  stop : Option Nat := none
  matches_ : Nat := 0
  posted : Nat := 0
  /-- The chunk has ended; the thread is idle once its buffer is empty. -/
  ended : Bool := false
  deriving DecidableEq, Repr

/-- An image resident in a ranger: its table, the tick of its latest chunk take, its bytes (R300). -/
structure Resident where
  table : Nat
  take : Nat
  image : List Byte
  deriving DecidableEq, Repr

/-- The ranger group. RNG_ENABLE and the counters of R335 are registers. -/
structure Rangers where
  jobs : List ScanJob := []
  /-- Threads by 4 · ranger + thread. -/
  threads : SMap (Option ScanThread) := []
  /-- The tick from which a thread is idle at the start of a tick again (R311). -/
  freed : SMap Nat := []
  /-- Images resident in a ranger (R300). -/
  resident : SMap (List Resident) := []
  deriving DecidableEq, Repr

/-! ### 10: host ports and logical devices -/

/-- A segment of an LD's segment map (R339): a run of LD offsets mapped to a run of DPA. `kind`: 0 static allocation,
1 dynamic-capacity extent, 2 window slice (11 R394), 3 a savings extent (12 R445). -/
structure Seg where
  off : Nat
  dpa : Nat
  len : Nat
  kind : Nat := 0
  deriving DecidableEq, Repr

/-- An HDM decoder as host software left it (R344, R347): its setting, committed or not, and Commit Error. -/
structure Decoder where
  set : Option DecoderSet := none
  committed : Bool := false
  err : Bool := false
  deriving DecidableEq, Repr

/-- A logical device. Its CXLP_LD_CTRL and DRG_QOS_LD are registers. -/
structure Ld where
  segs : List Seg := []
  decoders : SMap Decoder := []
  /-- Event logs 0 to 3 by severity, of 64 records each (R367), and records lost (4: the Dynamic Capacity log). -/
  logs : SMap (List Evt) := []
  logOverflow : SMap Nat := []
  /-- The Dynamic Capacity log (R367): kind (0 add, 1 release, 2 forced), LD offset, length; at most 64 records. -/
  dcLog : List (Nat × Nat × Nat) := []
  /-- Poison list by LD offset, at most 256, and its overflow tick (R368). -/
  poison : List Nat := []
  poisonOvf : Option Nat := none
  /-- Event interrupt policy (R359), timestamp base in ns and the tick at which it was set (R367). -/
  policy : BitVec 40 := 0
  tsBase : Nat := 0
  tsTick : Nat := 0
  /-- Dynamic-capacity regions: base and length in LD offsets (R352). -/
  regions : SMap (Nat × Nat) := []
  /-- Extents offered and not yet answered, and extents whose release the device or owner has requested (R353, R354). -/
  offers : List Seg := []
  relReq : List Nat := []
  /-- Extents, by LD offset, whose release has taken effect and whose directory entries are being removed (R354). -/
  releasing : List Nat := []
  /-- Memory_Active: firmware sets it at READY (17 R597). -/
  memActive : Bool := false
  deriving DecidableEq, Repr

/-- A host port beside its CXLP_STAT. -/
structure Port where
  /-- PERST# holds the port in reset (19 R642). -/
  perst : Bool := false
  sris : Bool := false
  /-- IDE keys of the CXL.cachemem stream and the CXL.io stream (R360), and the mode of the first. -/
  cxlKey : Option (BitVec 256) := none
  ioKey : Option (BitVec 256) := none
  skid : Bool := false
  /-- The port discards all flits since an IDE failure (R361). -/
  failed : Bool := false
  deriving DecidableEq, Repr

/-- The host ports: QoS control bytes (R363), and DPA blocks of 256 MiB that wait for zeroing after a release (R354). -/
structure Ports where
  ports : SMap Port := []
  qosEnables : Nat := 0
  qosEgress : Nat := 0
  qosInterval : Nat := 0
  zeroing : List Nat := []
  deriving DecidableEq, Repr

/-! ### 11: contexts, rings and windows -/

/-- A request of a context (11 R402). `phase`: 0 accepted, 1 dispatched and checked (R658), 2 at its engine, 3 ended
with `outc`. A window search carries its line. -/
structure Req where
  n : Nat
  slots : Nat
  accept : Nat
  opcode : Nat
  table : Nat
  flags : Nat
  tag : Word
  slot1 : Line
  slot2 : Line := 0
  phase : Nat := 0
  outc : Option Outc := none
  /-- The commit point, or the tick of the end without one (R403, R406). -/
  endTick : Nat := 0
  /-- Completion body bytes 0x10 to 0x3F where the operation forms its own (R392). -/
  body : Option (BitVec 384) := none
  window : Option Nat := none
  /-- No completion and no window result will be written (R409, R410). -/
  silent : Bool := false
  /-- The two-slot descriptor began in the last slot (R382). -/
  cut : Bool := false
  deriving DecidableEq, Repr

/-- A window line (11 R395 to R400): 0 IDLE, 1 PENDING, 2 READY. -/
structure WLine where
  st : Nat := 0
  tag : BitVec 32 := 0
  record : BitVec 256 := 0
  accept : Nat := 0
  /-- The number of the line's latest search (R399). -/
  id : Nat := 0
  deriving DecidableEq, Repr

/-- A read of a PENDING line held by its port (11 R398). -/
structure HeldRead where
  ld : Nat
  ctx : Nat
  line : Nat
  at_ : Nat
  deriving DecidableEq, Repr

/-- A context: its table entry (11 R373), ring counts (R377), fetch state (R381), requests and window lines. STATE is
0 DISABLED, 1 ENABLED, 2 DRAINING, 3 FAULTED. -/
structure Ctx where
  state : Nat := 0
  steward : Bool := false
  sport : Nat := 0
  ldid : Nat := 0
  assigned : Bool := false
  domain : Nat := 0
  incarnation : Nat := 0
  mq : Option Nat := none
  sqProd : Nat := 0
  sqCons : Nat := 0
  cqProd : Nat := 0
  cqCons : Nat := 0
  /-- Completion entries reserved and not written (R384). -/
  reserved : Nat := 0
  /-- Slots fetched of the next descriptor, and the ticks of the first and the next fetch of the slot awaited. -/
  fetched : List Line := []
  firstFetch : Option Nat := none
  nextFetch : Nat := 0
  reqs : List Req := []
  /-- Counts and opcodes of the descriptors consumed since the context was enabled (R407). -/
  firsts : List (Nat × Nat) := []
  lines : SMap WLine := []
  /-- Draining by a reset (R409). -/
  resetting : Bool := false
  reportCons : SMap Nat := []
  deriving DecidableEq, Repr

/-! ### 12: placement, tiers and encryption -/

/-- A page descriptor (R415). -/
structure Page where
  st : Nat := 0
  pin : Bool := false
  newkey : Bool := false
  lr : Bool := false
  nofit : Bool := false
  heat : Nat := 0
  zmap : BitVec 16 := 0
  frame : Nat := 0
  deriving DecidableEq, Repr

/-- A migration in one of the 256 slots (R435): source and target descriptors, start tick. `kind`: 0 demotion,
1 hot or pin promotion, 2 key-rotation copy, 3 last-resort drain, 4 compaction, 5 evacuation, 6 copy back. -/
structure MigSlot where
  page : Nat
  src : Page
  tgt : Page
  kind : Nat
  start : Nat
  deriving DecidableEq, Repr

/-- A promotion on write (R432): its page, start tick (none while all 32 run), target frame unit. -/
structure Promo where
  page : Nat
  start : Option Nat
  frame : Nat
  deriving DecidableEq, Repr

/-- A 4 KiB frame (R427): 0 free, 1 whole, 2 halves, 4 quarters; the parts in use and the freed parts not yet zeroed. -/
structure Frame where
  use : Nat := 0
  used : BitVec 4 := 0
  unz : BitVec 4 := 0
  deriving DecidableEq, Repr

/-- A key rotation (R453): its path, domain, step, the pages still to copy, and the UNIFORM lines still to move as
(first line, end line). -/
structure Rot where
  via : OwnerPath
  dom : Nat
  step : Nat := 1
  pages : List Nat := []
  lines : List (Nat × Nat) := []
  deriving DecidableEq, Repr

/-- Placement and tiers. PLC_*, TIER_* and KEY_ROT_STAT are registers. -/
structure Tier where
  /-- Page descriptors by page number, DPA bits [43:12] (R415). -/
  pages : SMap Page := []
  /-- The placement cache (R419): pages, most recently used first, with whether the way is dirty. -/
  cache : List (Nat × Bool) := []
  /-- Requests, with their DPA, that wait for a refill of their page, in arrival order (01 R14). -/
  miss : List (Nat × Instr) := []
  /-- Requests, with their DPA, held by promotions and by earlier writes of their source, in arrival order (R418, R432,
  15 R535). -/
  hold : List (Nat × Instr) := []
  promos : List Promo := []
  slots : SMap (Option MigSlot) := []
  /-- Pages not retried before the next heat sweep (R436). -/
  noRetry : List Nat := []
  /-- Frames by number; an unlisted frame is free (R427). -/
  frames : SMap Frame := []
  /-- Ranges of frames withdrawn from the free pool (13 R463, 14 R507): first frame, end. -/
  outs : List (Nat × Nat) := []
  /-- Of these, the ranges that return to the pool as their frames are zeroed (14 R507 step 5). -/
  backs : List (Nat × Nat) := []
  /-- Position of the initial zeroing pass (17 R596); whether it runs; freed frames and parts in the zeroing queue as
  (frame, part, parts of its size); frames zeroed on demand above the position. -/
  zeroPos : Nat := 0
  zeroing : Bool := false
  zeroQ : List (Nat × Nat × Nat) := []
  zeroed : SMap Bool := []
  /-- Requests, with their DPA, that wait for an on-demand zeroing (17 R596). -/
  zeroWait : List (Nat × Instr) := []
  /-- The heat LFSR (R438; log 6). -/
  lfsr : BitVec 16 := 1
  /-- Tick of the next heat sweep (R439), and the heat limit h of the emergency passes (R446). -/
  nextSweep : Nat := 0
  /-- The next page of a heat sweep, and of an emergency pass, that waits for a migration slot (R439, R446). -/
  sweepAt : Option Nat := none
  emergAt : Option Nat := none
  heatLim : Nat := 0
  /-- Lines held in the last-resort area, by DPA line number (R447). -/
  lrLines : SMap Bool := []
  rot : Option Rot := none
  /-- Pages whose page-map line has failed (R421). -/
  badMap : SMap Bool := []
  /-- Frames and parts, by first unit and size class, that are freed at the next tick (R432 step 4, R435). -/
  leaving : List (Nat × Nat) := []
  /-- The key pair under which a line's content was stored, by DPA line number (R450, R451; log 7). -/
  sealed : SMap (Option (BitVec 512)) := []
  deriving DecidableEq, Repr

/-! ### 13: the DRAM controllers -/

/-- A request in a channel's read or write queue (R465 to R468). `cls`: 0 SHP, 1 PROMO, 2 HOST, 3 SCAN, 4 MAINT. A read
carries the line as of its acceptance and the LD and tag to answer. `stage`: 0 waits for a queue entry, 1 holds one,
2 issued to the DRAM. -/
structure DReq where
  chan : Nat
  rank : Nat
  bank : Nat
  sub : Nat
  row : Nat
  dpa : Nat
  write : Bool
  cls : Nat
  ld : Nat
  tag : Nat := 0
  arrive : Nat
  stage : Nat := 0
  data : Line := 0
  poison : Bool := false
  /-- A read of an engine that has taken its bytes: the channel carries it, and nobody waits for its return (log 44). -/
  eng : Bool := false
  deriving DecidableEq, Repr

/-- A rank beside DRC_REF_STAT and CAL_RANK: the end of its refresh interval (R473), an MR4 read due (R476), the tick
until which a refresh keeps it busy, the tick of its last command (R479), the next REFsb bank index (R473). -/
structure RankSt where
  due : Nat := 0
  mr4 : Bool := false
  busy : Nat := 0
  last : Nat := 0
  sb : Nat := 0
  deriving DecidableEq, Repr

/-- A bank (R471, R472): history, the row last opened, and whether that row is open. -/
structure BankSt where
  hist : BitVec 4 := 0
  row : Option Nat := none
  opened : Bool := false
  deriving DecidableEq, Repr

/-- The DRAM controllers. DRC_* and DRG_* are registers. -/
structure Dram where
  queue : List DReq := []
  ranks : SMap RankSt := []
  /-- Banks by ((channel · 2 + sub-channel) · 8 + rank) · 32 + bank. -/
  banks : SMap BankSt := []
  /-- Channels in write drain (R469). -/
  drain : SMap Bool := []
  /-- SHP bursts in progress by sub-channel: row key and commands left (R470). -/
  burst : SMap Nat := []
  /-- A CHAN_RETIRE that runs, and the frames of its range still in use are moved first (R463). -/
  retire : Option OwnerPath := none
  /-- Bytes of populated DRAM per channel (R456, R457; log 18). -/
  pop : Nat := 549755813888
  /-- The hash of the SPD serial numbers of each channel's modules (14 R498; log 18). -/
  spd : SMap Word := []
  deriving DecidableEq, Repr

/-! ### 14: training and live calibration -/

/-- The live counters of a shadow sampler (R501): bursts skipped of 16, the side the next burst takes, counts. -/
structure Sampler where
  skip : Nat := 0
  hi : Bool := false
  sampLo : Nat := 0
  errLo : Nat := 0
  sampHi : Nat := 0
  errHi : Nat := 0
  deriving DecidableEq, Repr

/-- A run of the training helpers (R493, R494): rank, TRN_CTRL and TRN_SWEEP at START, and for a sweep the field's register and
value before it. -/
structure TrnRun where
  rank : Nat
  ctrl : Word := 0
  sweep : Word := 0
  saved : Option (Nat × Word) := none
  deriving DecidableEq, Repr

/-- A RANK_RETRAIN that runs (R505): its path, channel, rank, and whether it takes the partner path. -/
structure Retrain where
  via : OwnerPath
  chan : Nat
  rank : Nat
  partner : Bool
  /-- Pages still to copy back from the partner, with the blocks of the page under copy that have arrived (R508). -/
  pages : List Nat := []
  blocks : BitVec 16 := 0
  deriving DecidableEq, Repr

/-- A copy of the user store in SPI flash (R498): SEQ, and the register values it holds by offset. -/
structure CalCopy where
  seq : Nat
  vals : SMap Word := []
  /-- The hash of the SPD serial numbers of each channel's modules. -/
  spd : SMap Word := []
  deriving DecidableEq, Repr

/-- Training and calibration. TRN_*, DLY_*, CAL_* and DRC_TIMING are registers. -/
structure Train where
  samplers : SMap Sampler := []
  runs : SMap (Option TrnRun) := []
  retrain : Option Retrain := none
  copyA : Option CalCopy := none
  copyB : Option CalCopy := none
  lastStore : Nat := 0
  deriving DecidableEq, Repr

/-! ### 15: the pair -/

/-- A write of a mirrored region that waits for the other member (15 R535): at the writer for MEM_ACK, at the other
member (`fwd`) for the writer's MIRROR copy. `source`: the LD and tag that await Cmp. -/
structure MemWait where
  seq : Nat
  dpa : Nat
  mask : BitVec 64
  data : Line
  fwd : Bool
  source : Option (Nat × Nat)
  deriving DecidableEq, Repr

/-- An identity of a mirrored table, as journal entries and resync rows name it (15 R546): kind 0 array handle,
1 prefix, 2 direct index, 3 profile or state. -/
structure Ident where
  table : Nat
  kind : Nat
  handle : Nat := 0
  len : Nat := 0
  pfx : BitVec 128 := 0
  deriving DecidableEq, Repr

/-- An entry of the journal (R546): the identity, the sequence that an APPLIED must reach to cover it (0: covered), and the home
commit tick. -/
structure JEntry where
  id : Ident
  seq : Nat
  home : Nat := 0
  deriving DecidableEq, Repr

/-- The pair. Its control, status, offset, counters, journal pointers and regions are the registers of R554. -/
structure Pair where
  /-- Messages not yet framed, oldest first, and the credits the sender holds for VC0, VC1 and VC2 (R514, R516). -/
  waiting : List LinkMsg := []
  credit0 : Nat := 128
  credit1 : Nat := 1024
  credit2 : Nat := 4096
  /-- SEQ of the next flit to send, and the last 1,024 flits sent with their messages (R512, R518). -/
  txSeq : Nat := 0
  kept : List (Nat × List LinkMsg) := []
  /-- SEQ expected from the partner, and whether it has been NAKed (R518). -/
  rxSeq : Nat := 0
  nakSent : Bool := false
  /-- LINK_GO has been written (R523); the link is trained. -/
  go : Bool := false
  up : Bool := false
  /-- The member has held no pair state since its last reset (R524). -/
  fresh : Bool := true
  /-- Tick of the last intact heartbeat, and whether one has set PAIR_OFFSET since training (R520, R521). -/
  lastBeat : Nat := 0
  offsetSet : Bool := false
  /-- Tick of link loss while TOSSING, and of the last toss request (R539, R633). -/
  lossTick : Nat := 0
  lastToss : Nat := 0
  /-- Requests to mirrored regions, with their DPA, held from link loss (R541), in arrival order. -/
  held : List (Nat × Instr) := []
  /-- Mirrored changes framed: the last sequence number per table (R526). -/
  mirSeq : SMap Nat := []
  /-- Mutations that await APPLIED: table, sequence, requester, outcome (R530). -/
  awaitApplied : List (Nat × Nat × Origin × Outc) := []
  /-- Mutations forwarded to the partner, by sequence: requester (R153, R154). -/
  fwdSeq : Nat := 0
  awaitDone : List (Nat × Origin) := []
  /-- Mutations that the partner forwarded and that wait here: sequence, context, acceptance tick, slots (R532). -/
  fwdIn : List (Nat × Nat × Nat × Line × Line) := []
  /-- Away: changes decoded and reserved: message, commit tick (R527); and by table the last (c, a). -/
  mirIn : List (MirMsg × Nat) := []
  mirLast : SMap (Nat × Nat) := []
  /-- MUT_DONE results that wait for away's own commit of home tick c (R530): requester, c, body. -/
  doneWait : List (Origin × Nat × MutBody) := []
  /-- Writes that wait (R535), and the sequence of the last MEM_WR. -/
  memSeq : Nat := 0
  memWait : List MemWait := []
  /-- The journal, oldest first, from the rewind mark: identity and home sequence (R546, R547). -/
  journal : List JEntry := []
  /-- Pages of mirrored regions marked in the dirty bitmap (R547), by page number. -/
  dirty : SMap Bool := []
  /-- Identities and pages a BENCHED member keeps (R542). -/
  keptIds : List Ident := []
  keptPages : List Nat := []
  /-- Joiner: table messages not yet applied, in arrival order, each with a number of its own for SEQ (R548). -/
  joinQ : List MirMsg := []
  /-- The owner's PAIR_JOIN, and the HELLO last received (R524, R548). -/
  join : Bool := false
  peer : Option HelloMsg := none
  /-- Keeper in RESYNC: identities and pages still to send (R549, R550). -/
  rows : List Ident := []
  pages : List Nat := []
  /-- Keeper: the tick at which the joiner decodes the final HELLO (R551). -/
  doneAt : Option Nat := none
  /-- Redirected requests, with their DPA, that await RDR_RSP (14 R508). -/
  rdr : List (Nat × Instr) := []
  deriving DecidableEq, Repr

/-! ### 17: life cycle, keys, firmware -/

/-- The factory store (14 R497): PHY trims by 10 · channel + lane, sense timing by physical block, offsets by sensor, and
presets of ports A and B and of the Gweut link. The manual gives no item a width or a value: words, zero (log 42). -/
structure Factory where
  trims : SMap Word := []
  sense : SMap Word := []
  offsets : SMap Word := []
  presets : SMap Word := []
  deriving DecidableEq, Repr

/-- The life cycle, the key slots and firmware. Their status and control fields are the registers of R614. -/
structure Life where
  /-- The factory store, and what firmware has applied of it since the last reset (14 R497). -/
  factory : Factory := {}
  applied : Option Factory := none
  /-- Key slots (R604): data key and tweak key of a LOADED slot. -/
  keys : SMap (Option (BitVec 256 × BitVec 256)) := []
  /-- The bound owner key hash (R588). -/
  ownerHash : Option (BitVec 384) := some 0
  /-- The state that the highest programmed life-cycle entry names (R588): in force from the next reset. -/
  record : Nat := 2
  /-- The tick from which the warm reset of an LC_TRANSITION, and that of a DEVICE_RESET, may begin (R590, 18 R629). -/
  lcDue : Option Nat := none
  resetDue : Option Nat := none
  /-- Whether firmware copies A and B are signed correctly and complete (R605). -/
  validA : Bool := true
  validB : Bool := true
  /-- The copy that runs (true: B), and the copy that a restart in progress starts (R606, R607). -/
  running : Bool := false
  next : Bool := false
  /-- The tick at which the trial copy started (R607). -/
  trialStart : Option Nat := none
  /-- A reset ended a trial: the ROM sets REVERTED when it has selected a copy (R607). -/
  trialLost : Bool := false
  /-- The compatibility profile in force (R611). -/
  profile : Nat := 1
  deriving DecidableEq, Repr

/-! ### 18: the management mailbox and owner commands -/

/-- A register write serviced in this tick and applied at the start of the next (18 R617). -/
structure PendWrite where
  who : Who
  off : Nat
  mask : Word
  value : Word
  deriving DecidableEq, Repr

/-- How an owner command ended: its path, status, commit tick and result body (18 R626, R629). -/
structure OwnerRes where
  via : OwnerPath
  code : Nat
  status : Nat
  tick : Nat
  result : List Byte
  deriving DecidableEq, Repr

/-- The management mailbox (18 R625 to R627). Its data and control fields are the registers MBOX_*. -/
structure Mbox where
  holder : Option LdId := none
  /-- A release or a claim's end that waits for BUSY to clear (R625). -/
  releasePending : Bool := false
  /-- The arrival tick and sender of the submitted command, while BUSY (R626, R627). -/
  arrived : Option (Nat × LdId) := none
  /-- FM API commands that have arrived and not completed: payload, session, arrival tick (R627). -/
  fm : List (List Byte × Bool × Nat) := []
  /-- Firmware has taken up the oldest command that arrived through the registers or the FM API (R627). -/
  taken : Option OwnerPath := none
  /-- The path of a command that runs long: it holds every later one (R627). -/
  running : Option OwnerPath := none
  /-- Commands executed and not yet completed: oldest first. -/
  done : List OwnerRes := []
  deriving DecidableEq, Repr

/-! ### 19: resets and temperature -/

/-- The device's control inputs, its resets and the thermal throttle. THERM_* are registers. -/
structure Pins where
  /-- Cold reset, warm reset, the thermal trip (R639 to R641, R654). -/
  cold : Bool := false
  warm : Bool := false
  tripped : Bool := false
  /-- DEVICE_FATAL holds until a reset (16 R584). -/
  fatal : Bool := false
  /-- SYS_PWRGOOD is high after a complete power-up sequence (R638, R639). -/
  good : Bool := true
  /-- Consecutive samples in which every sensor read below CLEAR_C, and the tick at which the throttle started (R650). -/
  below : Nat := 0
  throttle : Nat := 0
  /-- PEAK_TEMP has taken a reading since reset or its last clear (R657). -/
  peak : Bool := false
  /-- What the last sample decided, done at the start of the next tick (R650, R654): 1 the throttle starts, 2 it ends,
  with the hottest sensor and its reading; whether the device trips. -/
  due : Option (Nat × Nat × Nat) := none
  trip : Bool := false
  deriving DecidableEq, Repr

/-! ### The state -/

/-- No command of this block faults: what the manual calls an error is a status, an event, poison or a fault of a
context, all of them state (log 1). -/
inductive Fault where
  /-- Raised by no command: the type needs a name for "no fault". Safe. -/
  | neverRaised
  deriving DecidableEq, Repr

/-- Why a command has no meaning. -/
inductive Refusal where
  /-- Raised by an arm of exec whose command has no meaning yet, by its mnemonic. Safe: nothing follows from it. -/
  | notModelled (mnemonic : String)
  deriving DecidableEq, Repr

/-- The state of the block. -/
structure State where
  /-- The commands that wait, first in, first out (the model's own). -/
  pending : List Instr := []
  /-- The counter of free values (the model's own, log 2). -/
  freeIdx : Nat := 0
  /-- What the block has sent outward, oldest first (the model's own, log 3). -/
  sent : List Out := []
  /-- Outcomes on their way to a stage inside the block (the model's own). -/
  inbox : List (Origin × Outc) := []
  /-- A counter that names window searches and claims (the model's own). -/
  ids : Nat := 1
  /-- TICK_COUNT (02 R40). -/
  tick : Nat := 0
  /-- BAR0 registers held as words, by byte offset (18 R635, Machine/Regs.lean). -/
  regs : SMap Word := []
  /-- Register writes that take effect at the start of the next tick (18 R617). -/
  regW : List PendWrite := []
  arb : Arb := {}
  arr : Arr := {}
  /-- Tables by ID (04 R107). -/
  tbl : SMap Tbl := []
  mnt : Maint := {}
  /-- Match-queue pairs by number (06 R200). -/
  mq : SMap QPair := []
  lrn : Learn := {}
  dir : Dir := {}
  trie : Trie := {}
  dsram : Direct := {}
  rng : Rangers := {}
  prt : Ports := {}
  /-- Logical devices by (port << 4) | LD. -/
  lds : SMap Ld := []
  /-- Contexts by number (11 R372). -/
  ctx : SMap Ctx := []
  heldReads : List HeldRead := []
  tier : Tier := {}
  /-- HDM by DPA, as plaintext under the key of each page's domain (12 R450; log 7). -/
  mem : List Host.Cell := []
  /-- What the device has written into host memory, by port · 2^64 + address (11 R376). -/
  host : List Host.Cell := []
  dram : Dram := {}
  trn : Train := {}
  pair : Pair := {}
  ras : Ras := {}
  mbox : Mbox := {}
  life : Life := {}
  pins : Pins := {}
  deriving DecidableEq, Repr

/-- The block right after a cold reset is released (19 R639): every field at its reset value. -/
def State.reset : State := {}

end Sys2Proof.Machine
end

