-- ==== Sys2Proof/Machine/Regs.lean ====
section
/-! DEFINITION. The registers of BAR0: their offsets, access types and reset values (18 R615, R619, R635 and the
register tables of every chapter; access types 00 R8). -/

namespace Sys2Proof.Machine

/-- One register, or an array of registers: entry (i, j, k) lies at base + s0 i + s1 j + s2 k. `reset` (+ `inc` ·
(i / div) for the arrays whose reset value depends on the index) is its reset value; the masks give the bits of each
access type of R8. A bit in no mask is reserved, or write-only with no stored value. -/
structure RegDef where
  base : Nat
  s0 : Nat := 0
  n0 : Nat := 1
  s1 : Nat := 0
  n1 : Nat := 1
  s2 : Nat := 0
  n2 : Nat := 1
  reset : Word := 0
  inc : Word := 0
  div : Nat := 1
  rw : Word := 0
  ro : Word := 0
  w1c : Word := 0
  rws : Word := 0
  rwl : Word := 0
  deriving DecidableEq, Repr

/-- The first index of the register of `d` at byte offset `off`, if one lies there. -/
def RegDef.index? (d : RegDef) (off : Nat) : Option Nat :=
  if off < d.base then none else
  let r := off - d.base
  let i := if d.s0 = 0 then 0 else min (r / d.s0) (d.n0 - 1)
  let r1 := r - i * d.s0
  let j := if d.s1 = 0 then 0 else min (r1 / d.s1) (d.n1 - 1)
  let r2 := r1 - j * d.s1
  let k := if d.s2 = 0 then 0 else min (r2 / d.s2) (d.n2 - 1)
  if r2 = k * d.s2 then some i else none

/-- Register table, part 1. -/
def regTable1 : List RegDef := [
  { base := 0x10000, ro := 0xffffffffffffffff }, -- TICK_COUNT
  { base := 0x10010 }, -- ARB_CTRL
  { base := 0x10100, reset := 0x1, ro := 0xff }, -- ARB_INPUT_CTRL[0]
  { base := 0x10108, reset := 0x2, ro := 0xff }, -- ARB_INPUT_CTRL[1]
  { base := 0x10110, reset := 0x4, ro := 0xff }, -- ARB_INPUT_CTRL[2]
  { base := 0x10118, reset := 0x8, ro := 0xff }, -- ARB_INPUT_CTRL[3]
  { base := 0x10120, reset := 0x10, ro := 0xff }, -- ARB_INPUT_CTRL[4]
  { base := 0x10128, reset := 0x20, ro := 0xff }, -- ARB_INPUT_CTRL[5]
  { base := 0x10130, reset := 0x40, ro := 0xff }, -- ARB_INPUT_CTRL[6]
  { base := 0x10138, reset := 0x80, ro := 0xff }, -- ARB_INPUT_CTRL[7]
  { base := 0x10140, reset := 0xff, rw := 0xff }, -- ARB_INPUT_CTRL[8]
  { base := 0x10148, reset := 0xff, rw := 0xff }, -- ARB_INPUT_CTRL[9]
  { base := 0x10150, reset := 0xff, rw := 0xff }, -- ARB_INPUT_CTRL[10]
  { base := 0x10158, reset := 0xff, rw := 0xff }, -- ARB_INPUT_CTRL[11]
  { base := 0x10160, reset := 0xff, rw := 0xff }, -- ARB_INPUT_CTRL[12]
  { base := 0x10168, reset := 0xff, rw := 0xff }, -- ARB_INPUT_CTRL[13]
  { base := 0x10170, reset := 0xff, rw := 0xff }, -- ARB_INPUT_CTRL[14]
  { base := 0x10178, rw := 0xff }, -- ARB_INPUT_CTRL[15]
  { base := 0x10200, s0 := 0x8, n0 := 32, reset := 0xca980000ca980000, rw := 0xffffffffffffffff, inc := 0x111100001111, div := 4 }, -- ARB_FIX[n]
  { base := 0x10300, s0 := 0x8, n0 := 32, reset := 0xca980000ca980000, ro := 0xffffffffffffffff, inc := 0x111100001111, div := 4 }, -- ARB_FIX_ACTIVE[n]
  { base := 0x10018, w1c := 0xff00, ro := 0xf7 }, -- ARB_WDOG_LOG
  { base := 0x10020, ro := 0xffffffffffffffff }, -- ARB_CASCADE_STAT
  { base := 0x20100, reset := 0x28000a0, rw := 0xffff00ff }, -- ARRAY_GOV_CTRL
  { base := 0x20108, reset := 0xa000000280, ro := 0x1ffffffffff }, -- ARRAY_GOV_STAT
  { base := 0x20200, s0 := 0x8, n0 := 128, ro := 0x1ff, inc := 0x1, div := 1 }, -- ARRAY_BLOCK_MAP[n]
  { base := 0x20800, s0 := 0x8, n0 := 256, w1c := 0xffffffff }, -- ARRAY_GOV_DELAY[n]
  { base := 0x40000, s0 := 0x80, n0 := 256, ro := 0xffff000001ffff07 }, -- TBL_STATE[t]
  { base := 0x40008, s0 := 0x80, n0 := 256, s1 := 0x8, n1 := 2, ro := 0xffffffffffffffff } -- TBL_BLOCKS[t][j]
]

/-- Register table, part 2. -/
def regTable2 : List RegDef := [
  { base := 0x40018, s0 := 0x80, n0 := 256, s1 := 0x8, n1 := 2, ro := 0xffffffffffffffff }, -- TBL_MIG[t][j]
  { base := 0x40028, s0 := 0x80, n0 := 256, ro := 0x3fffff007f00ff }, -- TBL_HANDLE[t]
  { base := 0x40030, s0 := 0x80, n0 := 256, ro := 0x7ff003ff001fffff }, -- TBL_SRAM[t]
  { base := 0x40038, s0 := 0x80, n0 := 256, ro := 0x3fffff003fffff }, -- TBL_ROWS[t]
  { base := 0x4c000, s0 := 0x8, n0 := 2, reset := 0xffffffffffffffff, ro := 0xffffffffffffffff }, -- TBL_BLOCK_FREE[j]
  { base := 0x4c010, s0 := 0x8, n0 := 2, reset := 0xffffffffffffffff, ro := 0xffffffffffffffff }, -- TBL_HMAP_FREE[j]
  { base := 0x4c020, reset := 0x10000004000400, ro := 0x1fffff07ff07ff }, -- TBL_CAP
  { base := 0x48000, s0 := 0x40, n0 := 256, s1 := 0x8, n1 := 8, ro := 0xffffffffffffffff }, -- SRCH_PROFILE[t][w]
  { base := 0x40040, s0 := 0x80, n0 := 256, ro := 0xffffffff0fff0007 }, -- TBL_LOCK[t]
  { base := 0x40048, s0 := 0x80, n0 := 256, ro := 0xffffffffffffffff }, -- TBL_LEASE_END[t]
  { base := 0x40050, s0 := 0x80, n0 := 256, ro := 0xffffffffffffffff }, -- TBL_LOCK_CNT[t]
  { base := 0x4d000, rw := 0xfff0ff0000f0, ro := 0x80ff000000000000 }, -- MAINT_CMD_CTRL
  { base := 0x4d008, rw := 0x3fffff0001ffff }, -- MAINT_CMD_ARG
  { base := 0x4d010, ro := 0xffffffffffffffff }, -- MAINT_CMD_TICK
  { base := 0x4d018, ro := 0x3fffff00000000 }, -- MAINT_CMD_VICTIM
  { base := 0x4d020, reset := 0x1, rw := 0xffffffff }, -- MAINT_EVICT_SEED
  { base := 0x4d040, s0 := 0x8, n0 := 12, rw := 0xffffffffffffffff }, -- MAINT_CMD_DATA[w]
  { base := 0xc0000, s0 := 0x8, n0 := 256, ro := 0xffffffffffff3 }, -- MQ_STATE[n]
  { base := 0x4d200, reset := 0x3e8000000000002, rw := 0xffff000000000006 }, -- DIR_CTRL
  { base := 0x4d208, ro := 0x1ffffffffff }, -- DIR_STAT
  { base := 0x4d210, ro := 0xffffffffffffffff }, -- DIR_CNT[0]
  { base := 0x4d218, ro := 0xffffffffffffffff }, -- DIR_CNT[1]
  { base := 0x4d220, ro := 0xffffffffffffffff }, -- DIR_CNT[2]
  { base := 0x4e000, s0 := 0x20, n0 := 256, ro := 0xffffffffffffffff }, -- LRN_CNT[t][0]
  { base := 0x4e008, s0 := 0x20, n0 := 256, ro := 0xffffffffffffffff }, -- LRN_CNT[t][1]
  { base := 0x4e010, s0 := 0x20, n0 := 256, ro := 0xffffffffffffffff }, -- LRN_CNT[t][2]
  { base := 0x4e018, s0 := 0x20, n0 := 256, ro := 0xffffffffffffffff }, -- LRN_CNT[t][3]
  { base := 0x60000, s0 := 0x8, n0 := 8, reset := 0x100000, ro := 0x1fffff } -- TRIE_STAGE_FREE[j]
]

/-- Register table, part 3. -/
def regTable3 : List RegDef := [
  { base := 0x60040, reset := 0x100000, ro := 0x1fffff }, -- TRIE_LEAF_FREE
  { base := 0x60100, s0 := 0x8, n0 := 256, ro := 0x8000000000ffffff }, -- TRIE_TBL[t]
  { base := 0x70000, reset := 0xffffffff, rw := 0xffffffff }, -- RNG_ENABLE
  { base := 0x70008, ro := 0x7ff }, -- RNG_JOBS
  { base := 0x70100, s0 := 0x8, n0 := 32, reset := 0x10100000, ro := 0x1f1f1f0f }, -- RNG_STAT[r]
  { base := 0x70200, s0 := 0x8, n0 := 32, ro := 0xffffffffffffffff }, -- RNG_BYTES[r]
  { base := 0x70300, s0 := 0x8, n0 := 32, ro := 0xffffffffffffffff }, -- RNG_CNT[r]
  { base := 0x300000, s0 := 0x8000, n0 := 2, ro := 0xff000310ff }, -- CXLP_STAT[p]
  { base := 0x300010, s0 := 0x8000, n0 := 2, ro := 0xffffffffffffffff }, -- CXLP_CNT[p]
  { base := 0x300100, s0 := 0x8000, n0 := 2, s1 := 0x8, n1 := 16, rwl := 0xc, ro := 0x2 }, -- CXLP_LD_CTRL[p][l]
  { base := 0x300400, reset := 0x644b19, rw := 0xffffff }, -- CXLP_DEVLOAD_CTRL
  { base := 0x300408, ro := 0x3 }, -- CXLP_DEVLOAD_STAT
  { base := 0x80000, s0 := 0x40, n0 := 4096, rw := 0x1, ro := 0xff000000000000c0 }, -- CTX_CTRL[c]
  { base := 0x80008, s0 := 0x40, n0 := 4096, reset := 0x6, rw := 0xfffffffffffff80f }, -- CTX_SQ[c]
  { base := 0x80010, s0 := 0x40, n0 := 4096, reset := 0x6, rw := 0xfffffffffffff80f }, -- CTX_CQ[c]
  { base := 0x80018, s0 := 0x40, n0 := 4096, rw := 0xfffffffffffff801 }, -- CTX_RBUF[c]
  { base := 0x80020, s0 := 0x40, n0 := 4096, ro := 0xffffffffffffffff }, -- CTX_RING_STAT[c]
  { base := 0x80028, s0 := 0x40, n0 := 4096, ro := 0xffffffffffffffff }, -- CTX_ASSIGN[c]
  { base := 0x80030, s0 := 0x40, n0 := 4096, ro := 0xffffffffffffffff }, -- CTX_CNT[c]
  { base := 0xc1000, ro := 0xffe00000001 }, -- CTX_WIN_BASE
  { base := 0x380000, ro := 0xffffffffffffffff }, -- PLC_CNT
  { base := 0x380008, reset := 0x3e8001e00000401, rw := 0xffff03ff00000f01 }, -- TIER_CTRL
  { base := 0x380010, ro := 0xffffffffffffffff }, -- TIER_STAT
  { base := 0x380018, rwl := 0x1ffff, ro := 0x1ffff00000000 }, -- TIER_LR
  { base := 0x380020, ro := 0xffffffffffffffff }, -- TIER_CNT[0]
  { base := 0x380028, ro := 0xffffffffffffffff }, -- TIER_CNT[1]
  { base := 0x380030, ro := 0xffffffffffffffff }, -- TIER_CNT[2]
  { base := 0x380038, ro := 0xffffffffffffffff } -- TIER_CNT[3]
]

/-- Register table, part 4. -/
def regTable4 : List RegDef := [
  { base := 0x380040, ro := 0xf0000fffffffffff }, -- KEY_ROT_STAT
  { base := 0x380100, s0 := 0x8, n0 := 256, rw := 0xffffffffffffffff }, -- PLC_WAYS[n]
  { base := 0x381000, s0 := 0x8, n0 := 4096, reset := 0x2c0, ro := 0x3ff }, -- TIER_DOM[d]
  { base := 0x200000, s0 := 0x10000, n0 := 12, ro := 0x3 }, -- DRC_STATUS[c]
  { base := 0x200008, s0 := 0x10000, n0 := 12, reset := 0x200000000001030, rw := 0xffff000000007f7f }, -- DRC_SCHED[c]
  { base := 0x200010, s0 := 0x10000, n0 := 12, reset := 0xeaaa, rw := 0xffff }, -- DRC_PAGE[c]
  { base := 0x200018, s0 := 0x10000, n0 := 12, reset := 0xcd079e41000400, rw := 0xffffffffff000701 }, -- DRC_REF_CTRL[c]
  { base := 0x200020, s0 := 0x10000, n0 := 12, reset := 0x1e8000000000100, rw := 0xffff00000000ffff }, -- DRC_PWR[c]
  { base := 0x200040, s0 := 0x10000, n0 := 12, s1 := 0x8, n1 := 8, reset := 0x3000000, ro := 0x1ffff030000ff }, -- DRC_REF_STAT[c][k]
  { base := 0x200100, s0 := 0x10000, n0 := 12, s1 := 0x8, n1 := 10, ro := 0xffffffffffffffff }, -- DRC_BYTES[c][j]
  { base := 0x200180, s0 := 0x10000, n0 := 12, ro := 0xffffffffffffffff }, -- DRC_PAGE_CNT[c]
  { base := 0x2f0000, reset := 0x240, rw := 0x800007ffffffffe0, ro := 0x4000000000000000 }, -- DRG_MAP
  { base := 0x2f0008, s0 := 0x8, n0 := 2, rw := 0x1ffffffff }, -- DRG_CHX[k]
  { base := 0x2f0020, reset := 0x100, rw := 0xffffffffff }, -- DRG_BSEL[0]
  { base := 0x2f0028, reset := 0x200, rw := 0xffffffffff }, -- DRG_BSEL[1]
  { base := 0x2f0030, reset := 0x400, rw := 0xffffffffff }, -- DRG_BSEL[2]
  { base := 0x2f0038, reset := 0x800, rw := 0xffffffffff }, -- DRG_BSEL[3]
  { base := 0x2f0040, reset := 0x1000, rw := 0xffffffffff }, -- DRG_BSEL[4]
  { base := 0x2f0048, reset := 0x2000, rw := 0xffffffffff }, -- DRG_BSEL[5]
  { base := 0x2f0080, ro := 0xc000000fffffffff }, -- DRG_RETIRE
  { base := 0x2f0100, reset := 0x1020, rw := 0xffff }, -- DRG_QOS_CLASS
  { base := 0x2f0108, reset := 0x3000b30000, w1c := 0x1, ro := 0x1ffffffff0000 }, -- DRG_QOS_STAT
  { base := 0x2f0200, s0 := 0x8, n0 := 32, ro := 0xffff00ff }, -- DRG_QOS_LD[n]
  { base := 0x201000, s0 := 0x10000, n0 := 12, rw := 0x3ff03ff03ff03ff }, -- DRC_TIMING[0]
  { base := 0x201008, s0 := 0x10000, n0 := 12, rw := 0x3ff03ff03ff03ff }, -- DRC_TIMING[1]
  { base := 0x201100, s0 := 0x10000, n0 := 12, reset := 0x300, rw := 0xffffff00737f }, -- TRN_CTRL
  { base := 0x201108, s0 := 0x10000, n0 := 12, reset := 0x1400000000000, rw := 0x80ff7f0fc00003ff }, -- TRN_SWEEP
  { base := 0x201110, s0 := 0x10000, n0 := 12, w1c := 0x4000000000000000, ro := 0x80000000ffffffff } -- TRN_STAT
]

/-- Register table, part 5. -/
def regTable5 : List RegDef := [
  { base := 0x201200, s0 := 0x10000, n0 := 12, s1 := 0x8, n1 := 80, ro := 0xffffffff }, -- TRN_BITERR[b]
  { base := 0x201800, s0 := 0x10000, n0 := 12, s1 := 0x8, n1 := 80, ro := 0xffffffffffffffff }, -- TRN_EYE[b]
  { base := 0x202000, s0 := 0x10000, n0 := 12, s1 := 0x80, n1 := 8, s2 := 0x8, n2 := 10, rw := 0x3ffffff03ff03ff }, -- DLY_LANE[k][l]
  { base := 0x203000, s0 := 0x10000, n0 := 12, s1 := 0x400, n1 := 8, s2 := 0x8, n2 := 80, rw := 0x3f3f }, -- DLY_BIT[k][b]
  { base := 0x206000, s0 := 0x10000, n0 := 12, s1 := 0x80, n1 := 8, s2 := 0x8, n2 := 10, reset := 0x80000000000006fa, rw := 0x800000000001ffff }, -- CAL_SAMP[k][l]
  { base := 0x206400, s0 := 0x10000, n0 := 12, s1 := 0x80, n1 := 8, s2 := 0x8, n2 := 10, ro := 0xffffffffffffffff }, -- CAL_MARGIN[k][l]
  { base := 0x206800, s0 := 0x10000, n0 := 12, s1 := 0x8, n1 := 8, rw := 0xffffffffff, ro := 0x8000000000000000 }, -- CAL_NUDGE[k]
  { base := 0x206840, s0 := 0x10000, n0 := 12, s1 := 0x8, n1 := 8, w1c := 0x3ff, ro := 0xe0000000ffff0000 }, -- CAL_RANK[k]
  { base := 0x206880, s0 := 0x10000, n0 := 12, reset := 0x608, rw := 0xffff }, -- CAL_CTRL
  { base := 0x3c0000, rw := 0xffffff0000000002, ro := 0x8 }, -- PAIR_CTRL
  { base := 0x3c0008, ro := 0xffc0ff00ffffffff }, -- PAIR_STATUS
  { base := 0x3c0010, ro := 0xffffffffffffffff }, -- PAIR_OFFSET
  { base := 0x3c0018, ro := 0xffffffffffffffff }, -- PAIR_LINK_CNT
  { base := 0x3c0020, ro := 0xfffffcffffffffff }, -- PAIR_JOURNAL
  { base := 0x3c0028, ro := 0xffffffffffffffff }, -- PAIR_RESYNC
  { base := 0x3c0100, s0 := 0x8, n0 := 64, ro := 0xcfffffff0000ffff }, -- PAIR_REGION[n]
  { base := 0x3e0000, ro := 0xffffffff }, -- RAS_EVT_PROD
  { base := 0x3e0008, rw := 0xffffffff }, -- RAS_EVT_CONS
  { base := 0x3e0010, w1c := 0x8000000000000000, ro := 0xffffffff }, -- RAS_EVT_STAT
  { base := 0x3e0020, reset := 0x8000000000000808, rw := 0xff0f, rwl := 0x8000000000000000 }, -- TALLY_CTRL
  { base := 0x3e0028, ro := 0xffffffff001fffff }, -- TALLY_STAT
  { base := 0x3e0030, ro := 0xffffffffffffffff }, -- TALLY_CNT[0]
  { base := 0x3e0038, ro := 0xffffffffffffffff }, -- TALLY_CNT[1]
  { base := 0x3e0040, reset := 0x8000000000000000, ro := 0xf0ffff0000000000 }, -- ARRAY_SPARE
  { base := 0x3e0048, s0 := 0x8, n0 := 3, ro := 0xffffffffffffffff }, -- ARRAY_PHYS_FAILED[j]
  { base := 0x3e0080, reset := 0x400000000000018, rw := 0xffff0000000000ff }, -- RAS_ECC_CTRL
  { base := 0x3e0100, s0 := 0x8, n0 := 12, ro := 0xffffffffffffffff }, -- RAS_ECC_CNT[c]
  { base := 0x3e0200, reset := 0x64, rw := 0x3ff, ro := 0xffff00000000 } -- MP_WDOG
]

/-- Register table, part 6. -/
def regTable6 : List RegDef := [
  { base := 0x3e0300, rw := 0xf07, w1c := 0x2000000000000000, rwl := 0x4000000000000000 }, -- RAS_INJ_CTRL
  { base := 0x3e0308, rw := 0xffffffffffffffff }, -- RAS_INJ_ADDR
  { base := 0x800, reset := 0x3000102, ro := 0x7f00010f }, -- LC_STATUS
  { base := 0x808 }, -- LC_CTRL
  { base := 0x810, ro := 0xff00000000000007 }, -- BOOT_STAT
  { base := 0x818, reset := 0x1, rws := 0x1f }, -- RESET_CAUSE
  { base := 0x820, w1c := 0x4000000000000000, ro := 0x8100ffffffffffff }, -- FW_STAT
  { base := 0x828, reset := 0xa, rwl := 0xff }, -- FW_CTRL
  { base := 0x830, reset := 0x20001, rwl := 0xff, ro := 0xffff0000 }, -- COMPAT_CTRL
  { base := 0x838, ro := 0x800000007fffffff }, -- ZERO_STAT
  { base := 0x0, reset := 0x88200000, ro := 0xffffffffffffffff }, -- ID_VENDOR
  { base := 0x8, reset := 0x100, ro := 0xffff }, -- ID_STEP
  { base := 0x10, ro := 0xffffffffffffffff }, -- ID_SERIAL
  { base := 0x18, reset := 0x1cc2c200880, ro := 0x1ff3f3f0fff }, -- ID_CAPS
  { base := 0x20, ro := 0xffff }, -- ID_STRAPS
  { base := 0x30, w1c := 0x100, ro := 0x8000000000000003 }, -- GLB_STAT
  { base := 0x40, s0 := 0x8, n0 := 4, rws := 0xffffffffffffffff }, -- GLB_SCRATCH[n]
  { base := 0x100, w1c := 0xff }, -- GLB_INT_STATUS
  { base := 0x108, rw := 0xff }, -- GLB_INT_ENABLE
  { base := 0x110, s0 := 0x8, n0 := 8, reset := 0x8000000000000000, rw := 0xc000000000001f3f }, -- GLB_INT_ROUTE[n]
  { base := 0x150, reset := 0x6400000010, rw := 0xffff000007ff }, -- GLB_EVT_INT
  { base := 0x3f0000, rw := 0x7ffffff, ro := 0x87ffff0000000000 }, -- MBOX_CTRL
  { base := 0x3f0008, ro := 0xffffffffffffffff }, -- MBOX_TICK
  { base := 0x3f0010, ro := 0xc00000000000001f }, -- MBOX_OWNER
  { base := 0x3f0100, s0 := 0x8, n0 := 128, rw := 0xffffffffffffffff }, -- MBOX_DATA[w]
  { base := 0xc00, reset := 0x500202735f64, rw := 0xff0703000000, rwl := 0xffff, ro := 0xff0000 }, -- THERM_CTRL
  { base := 0xc08, w1c := 0xffff0000, ro := 0x8000000f0000ffff }, -- THERM_STAT
  { base := 0xc10, ro := 0xffffffffffffffff } -- THERM_CNT
]

/-- Register table, part 7. -/
def regTable7 : List RegDef := [
  { base := 0xc18, ro := 0xffffffff }, -- PWR_STAT
  { base := 0xc40, s0 := 0x8, n0 := 16, ro := 0xffff } -- THERM_SENSOR[n]
]

/-- Every register of BAR0 (18 R635). -/
def regTable : List RegDef :=
  regTable1 ++ regTable2 ++ regTable3 ++ regTable4 ++ regTable5 ++ regTable6 ++ regTable7

/-- The definition of the register at a byte offset, and its first index. -/
def findReg (off : Nat) : List RegDef → Option (RegDef × Nat)
  | [] => none
  | d :: ds => match d.index? off with
    | some i => some (d, i)
    | none => findReg off ds

/-- The register at a byte offset of BAR0. None: the offset is reserved (18 R615). -/
def regAt (off : Nat) : Option (RegDef × Nat) := findReg off regTable

/-- The reset value of the register at a byte offset; 0 where no register lies. The fields the manual marks "fixed",
"from OTP", "from flash" and "strap" hold the values of log 5. -/
def regReset (off : Nat) : Word :=
  match regAt off with
  | some (d, i) => d.reset + d.inc * BitVec.ofNat 64 (i / d.div)
  | none => 0

end Sys2Proof.Machine
end

