-- ==== Sys2Proof/Machine/Ops.lean ====
section
/-! DEFINITION. The named operations over maps, registers, memory, events and interrupts that every meaning uses. -/

namespace Sys2Proof.Machine

/-! ### Sparse maps -/

/-- What a map holds at `k`; `d k` where nothing is listed. -/
def SMap.get {α : Type} (d : Nat → α) : SMap α → Nat → α
  | [], k => d k
  | (k', v) :: m, k => if k' = k then v else SMap.get d m k

/-- Insert an entry before the first larger key. -/
def SMap.ins {α : Type} (k : Nat) (v : α) : SMap α → SMap α
  | [] => [(k, v)]
  | (k', v') :: m => if k < k' then (k, v) :: (k', v') :: m else (k', v') :: SMap.ins k v m

/-- Set the value at `k`; the value an unlisted key reads as removes the entry. -/
def SMap.set {α : Type} [DecidableEq α] (d : Nat → α) (m : SMap α) (k : Nat) (v : α) : SMap α :=
  let m' := m.filter (fun e => e.1 != k)
  if v = d k then m' else SMap.ins k v m'

/-- The canonical form: keys strictly rising, no entry equal to the default. -/
def SMap.wf {α : Type} [DecidableEq α] (d : Nat → α) : SMap α → Bool
  | [] => true
  | [(k, v)] => v != d k
  | (k, v) :: (k', v') :: m => decide (k < k') && v != d k && SMap.wf d ((k', v') :: m)

/-- A map of flags. -/
abbrev flag (m : SMap Bool) (k : Nat) : Bool := SMap.get (fun _ => false) m k
/-- Set a flag. -/
abbrev setFlag (m : SMap Bool) (k : Nat) (v : Bool) : SMap Bool := SMap.set (fun _ => false) m k v
/-- A map of numbers. -/
abbrev num (m : SMap Nat) (k : Nat) : Nat := SMap.get (fun _ => 0) m k
/-- Set a number. -/
abbrev setNum (m : SMap Nat) (k : Nat) (v : Nat) : SMap Nat := SMap.set (fun _ => 0) m k v

/-! ### Sorting -/

/-- Insert in ascending order of a key. -/
def insertBy {α : Type} (key : α → Nat) (x : α) : List α → List α
  | [] => [x]
  | y :: ys => if key x ≤ key y then x :: y :: ys else y :: insertBy key x ys
/-- Sort by a key, keeping the order of equals. -/
def sortBy {α : Type} (key : α → Nat) (l : List α) : List α := l.foldr (insertBy key) []

/-! ### Outcomes -/

/-- A next state. Every command completes: what the manual calls an error is a status, an event or a fault of a
context, all in the state. -/
abbrev Res := Host.Outcome State Fault Refusal

/-- The block is out of reset, powered and not tripped (19 R639 to R641, R654): only then does a command act. -/
def State.up (s : State) : Bool := !s.pins.cold && !s.pins.warm && !s.pins.tripped

/-- Run an effect while the block is up; otherwise nothing changes. -/
def whileUp (s : State) (f : State → State) : Res := .next (if s.up then f s else s)

/-- Run an effect that admits an operation: not after DEVICE_FATAL (16 R584). -/
def whileServing (s : State) (f : State → State) : Res := .next (if s.up && !s.pins.fatal then f s else s)

/-- Run an effect when a condition holds; otherwise nothing changes (log 4: a command whose event is not due). -/
def State.when (s : State) (c : Bool) (f : State → State) : State := if c then f s else s

/-! ### Bits and fields -/

/-- Bits [lo + n - 1 : lo] of a word as a number (00 R3). -/
def fld (w : Word) (lo n : Nat) : Nat := (w.extractLsb' lo n).toNat

/-- A word with bits [lo + n - 1 : lo] replaced. -/
def putFld (w : Word) (lo n v : Nat) : Word :=
  let mask : Word := (BitVec.ofNat 64 (2 ^ n - 1)) <<< lo
  (w &&& ~~~mask) ||| ((BitVec.ofNat 64 v <<< lo) &&& mask)

/-- Bit `i` of a word. -/
abbrev bit (w : Word) (i : Nat) : Bool := w.getLsbD i

/-- Number of ones. -/
def ones {w : Nat} (b : BitVec w) : Nat := (List.range w).foldl (fun n i => if b.getLsbD i then n + 1 else n) 0

/-- The numbers below `n` whose bit is set. -/
def members {w : Nat} (b : BitVec w) : List Nat := (List.range w).filter (fun i => b.getLsbD i)

/-- The lowest number that satisfies `p` below `n`. -/
def lowest (n : Nat) (p : Nat → Bool) : Option Nat := (List.range n).find? p

/-- Little-endian bytes of a bit string (00 R4). -/
def bytesOf {w : Nat} (n : Nat) (b : BitVec w) : List Byte := (List.range n).map (fun i => b.extractLsb' (8 * i) 8)
/-- A number as `n` little-endian bytes (00 R4). -/
def leBytes (n v : Nat) : List Byte := bytesOf n (BitVec.ofNat (8 * n) v)

/-- A number from little-endian bytes (00 R4). -/
def ofBytes : List Byte → Nat
  | [] => 0
  | b :: bs => b.toNat + 256 * ofBytes bs

/-- Bytes [o, o + n) of a byte list as a number; absent bytes are 0. -/
def le (bs : List Byte) (o n : Nat) : Nat := ofBytes ((bs.drop o).take n)

/-- Bytes [o, o + n) of a line as a number (00 R4). -/
def lineLe (l : Line) (o n : Nat) : Nat := (l.extractLsb' (8 * o) (8 * n)).toNat

/-- min (a + k) cap: a saturating count. -/
def satAdd (cap a k : Nat) : Nat := min (a + k) cap

/-! ### Registers -/

/-- The stored value of the register at byte offset `off`. -/
def State.reg (s : State) (off : Nat) : Word := SMap.get regReset s.regs off

/-- Store a register. -/
def State.setReg (s : State) (off : Nat) (w : Word) : State := { s with regs := SMap.set regReset s.regs off w }

/-- A register field: byte offset, low bit, width. -/
structure F where
  off : Nat
  lo : Nat
  n : Nat
  deriving DecidableEq, Repr

/-- Read a field. -/
def State.f (s : State) (x : F) : Nat := fld (s.reg x.off) x.lo x.n

/-- Write a field. -/
def State.setF (s : State) (x : F) (v : Nat) : State := s.setReg x.off (putFld (s.reg x.off) x.lo x.n v)

/-- Add to a counter field that saturates (11 R371, 16 R586: counters saturate). -/
def State.inc (s : State) (x : F) (k : Nat := 1) : State := s.setF x (satAdd (2 ^ x.n - 1) (s.f x) k)

/-- Add to a field modulo its width. -/
def State.incMod (s : State) (x : F) (k : Nat := 1) : State := s.setF x ((s.f x + k) % 2 ^ x.n)

/-! ### Free values -/

/-- The next free value (log 2), and the state that has used it up. -/
def State.free (s : State) : Word × State :=
  (Config.freeValue s.freeIdx, { s with freeIdx := s.freeIdx + 1 })

/-! ### Outward messages -/

/-- Send a message out of the block (log 3). -/
def State.send (s : State) (o : Out) : State := { s with sent := s.sent ++ [o] }

/-! ### Interrupts (18 R621 to R624) -/

namespace Irq
/-- Bits of GLB_INT_STATUS (18 R621). -/
abbrev evt := 0
abbrev evtOvf := 1
abbrev mboxDone := 2
abbrev fatal := 3
abbrev headroom := 4
abbrev pair := 5
abbrev thermal := 6
abbrev underwater := 7
end Irq

/-- GLB_INT_STATUS, GLB_INT_ENABLE and GLB_INT_ROUTE[n] (18 R619). -/
abbrev offIntStatus := 0x100
abbrev offIntEnable := 0x108
abbrev offIntRoute (n : Nat) := 0x110 + 8 * n

/-- CXLP_LD_CTRL[p][l] of an LD numbered (port << 4) | LD (10 R371). -/
abbrev offLdCtrl (ld : Nat) : Nat := 0x300100 + 0x8000 * (ld / 16) + 8 * (ld % 16)

/-- CXLP_LD_CTRL fields (10 R371): POISON_INJ_EN [3], BAR0_EN [2], BOUND [1]. -/
abbrev ldBound (ld : Nat) : F := ⟨offLdCtrl ld, 1, 1⟩
abbrev ldBar0 (ld : Nat) : F := ⟨offLdCtrl ld, 2, 1⟩
abbrev ldInj (ld : Nat) : F := ⟨offLdCtrl ld, 3, 1⟩

/-- The interrupt of cause `n` goes to every target of GLB_INT_ROUTE[n] (18 R623). -/
def State.sendIrq (s : State) (n : Nat) : State :=
  let r := s.reg (offIntRoute n)
  let s := if bit r 63 then s.send (.mpIrq n) else s
  let ld := 16 * fld r 12 1 + fld r 8 4
  if bit r 62 && s.f (ldBound ld) = 1 then s.send (.msix ld (fld r 0 6)) else s

/-- The device sets status bit `n` (18 R621), and sends the interrupt when its enable is 1 (R623). -/
def State.setIrq (s : State) (n : Nat) : State :=
  let s := s.setF ⟨offIntStatus, n, 1⟩ 1
  let s := { s with ras := { s.ras with intTick := setNum s.ras.intTick n (s.tick + 1) } }
  if bit (s.reg offIntEnable) n then s.sendIrq n else s

/-! ### Events (16 R578 to R582) -/

/-- Severity of an event: 0 INFO, 1 WARN, 2 FAILURE, 3 FATAL (16 R578, R581). -/
def Ev.sev : Ev → Nat
  | .arrayRowError | .canopyParity | .shadowPoison | .trieParity | .directParity | .mqParity
  | .learnStaticConflict | .learnNoRoom | .dramCeThreshold | .unmappedAccess | .headroomWarn | .underwater
  | .calDrift | .calStore | .unsupportedRequest | .contextFault | .tossResult | .benchedWrite | .journalBroken
  | .thermalThrottle => 1
  | .arrayRowRepaired | .canopyWidened | .spareInService | .tableEvict | .learnMove | .learnEvict | .learnAgeOut
  | .dirMove | .headroomNotice | .headroomClear | .underwaterClear | .resyncDone | .thermalClear => 0
  | .arrayRowLost | .blockFailing | .blockLost | .arbWdog | .dirBiTimeout | .dramUncorrectable | .placementMiss
  | .pageMapPoison | .headroomCritical | .tierWriteLost | .trainFail | .chanRetired | .flitMismatch | .ideFailure
  | .portDown | .partnerLost | .pairSplit | .mpRestart => 2
  | .deviceFatal => 3

/-- The code of an event (16 R581). -/
def Ev.code : Ev → Nat
  | .arrayRowError => 0x0101 | .arrayRowRepaired => 0x0102 | .arrayRowLost => 0x0103 | .canopyParity => 0x0104
  | .canopyWidened => 0x0105 | .blockFailing => 0x0106 | .spareInService => 0x0107 | .blockLost => 0x0108
  | .shadowPoison => 0x0109 | .tableEvict => 0x010A | .trieParity => 0x010B | .directParity => 0x010C
  | .mqParity => 0x010D | .arbWdog => 0x010E
  | .learnMove => 0x0201 | .learnStaticConflict => 0x0202 | .learnEvict => 0x0203 | .learnNoRoom => 0x0204
  | .learnAgeOut => 0x0205 | .dirMove => 0x0206 | .dirBiTimeout => 0x0207
  | .dramCeThreshold => 0x0301 | .dramUncorrectable => 0x0302 | .placementMiss => 0x0303 | .pageMapPoison => 0x0304
  | .unmappedAccess => 0x0305 | .headroomNotice => 0x0306 | .headroomWarn => 0x0307 | .headroomCritical => 0x0308
  | .headroomClear => 0x0309 | .tierWriteLost => 0x030A | .underwater => 0x030B | .underwaterClear => 0x030C
  | .trainFail => 0x030D | .calDrift => 0x030E | .calStore => 0x030F | .chanRetired => 0x0310
  | .flitMismatch => 0x0401 | .unsupportedRequest => 0x0402 | .ideFailure => 0x0403 | .portDown => 0x0404
  | .contextFault => 0x0405
  | .partnerLost => 0x0501 | .tossResult => 0x0502 | .benchedWrite => 0x0503 | .journalBroken => 0x0504
  | .pairSplit => 0x0505 | .resyncDone => 0x0506
  | .mpRestart => 0x0601 | .thermalThrottle => 0x0602 | .thermalClear => 0x0603 | .deviceFatal => 0x0604

/-- How an event is recorded in the CXL event logs (16 R581, R582). -/
inductive CxlRec where
  | none | gm | dr | v
  deriving DecidableEq, Repr

/-- The CXL record column of the table of event codes. -/
def Ev.cxl : Ev → CxlRec
  | .dirBiTimeout | .dramUncorrectable | .placementMiss | .pageMapPoison | .tierWriteLost => .gm
  | .dramCeThreshold => .dr
  | .arrayRowLost | .blockFailing | .spareInService | .blockLost | .arbWdog | .unmappedAccess | .headroomNotice
  | .headroomWarn | .headroomCritical | .headroomClear | .underwater | .underwaterClear | .trainFail | .calDrift
  | .calStore | .chanRetired | .flitMismatch | .unsupportedRequest | .ideFailure | .portDown | .partnerLost
  | .tossResult | .benchedWrite | .journalBroken | .pairSplit | .resyncDone | .mpRestart | .thermalThrottle
  | .thermalClear | .deviceFatal => .v
  | .arrayRowError | .arrayRowRepaired | .canopyParity | .canopyWidened | .shadowPoison | .tableEvict | .trieParity
  | .directParity | .mqParity | .learnMove | .learnStaticConflict | .learnEvict | .learnNoRoom | .learnAgeOut
  | .dirMove | .contextFault => .none

/-- RAS_EVT_PROD.PROD, RAS_EVT_CONS.CONS, RAS_EVT_STAT.LOST and OVERFLOW (16 R586). -/
abbrev fProd : F := ⟨0x3e0000, 0, 32⟩
abbrev fCons : F := ⟨0x3e0008, 0, 32⟩
abbrev fLost : F := ⟨0x3e0010, 0, 32⟩
abbrev fOverflow : F := ⟨0x3e0010, 63, 1⟩
/-- GLB_EVT_INT fields (18 R624). -/
abbrev fEvtTimer : F := ⟨0x150, 32, 16⟩
abbrev fEvtThresh : F := ⟨0x150, 0, 11⟩

/-- E of R624: events raised and not consumed. -/
def State.evtPending (s : State) : Nat := (s.f fProd + 2 ^ 32 - s.f fCons) % 2 ^ 32

/-- The two conditions of R624. TIMER_US microseconds are 500 ticks each. -/
def State.evtDue (s : State) : Bool :=
  decide (max (s.f fEvtThresh) 1 ≤ s.evtPending) ||
  (decide (1 ≤ s.evtPending) && decide (s.ras.oldest + 500 * s.f fEvtTimer ≤ s.tick))

/-- GLB_INT_STATUS.EVT is set in the first tick in which a condition of R624 holds. -/
def State.evtCheck (s : State) : State :=
  if s.evtDue && !s.ras.evtHeld then
    ({ s with ras := { s.ras with evtHeld := true } }).setIrq Irq.evt
  else s

/-- Copy an event into CXL event log `log` of an LD (10 R367: at most 64 records, overflow counted). -/
def Ld.logEvt (l : Ld) (log : Nat) (e : Evt) : Ld :=
  let cur := SMap.get (fun _ => []) l.logs log
  if cur.length < 64 then { l with logs := SMap.set (fun _ => []) l.logs log (cur ++ [e]) }
  else { l with logOverflow := setNum l.logOverflow log (num l.logOverflow log + 1) }

/-- The LD record of LD `n`. -/
def State.ld (s : State) (n : Nat) : Ld := SMap.get (fun _ => {}) s.lds n
/-- Replace the LD record of LD `n`. -/
def State.setLd (s : State) (n : Nat) (l : Ld) : State := { s with lds := SMap.set (fun _ => {}) s.lds n l }
/-- Change the LD record of LD `n`. -/
def State.updLd (s : State) (n : Nat) (f : Ld → Ld) : State := s.setLd n (f (s.ld n))

/-- The LD offset at which LD record `l` maps a DPA, if one of its segments holds it (10 R339). -/
def Ld.offsetOf (l : Ld) (dpa : Nat) : Option Nat :=
  (l.segs.find? (fun g => decide (g.dpa ≤ dpa) && decide (dpa < g.dpa + g.len))).map (fun g => g.off + (dpa - g.dpa))

/-- An LD's log took a record: its MSI-X message is sent when the log's byte of the interrupt policy asks for one (10
R359; the byte's layout is the CXL specification's, log 15). -/
def State.logIrq (s : State) (n log : Nat) : State :=
  let b := (s.ld n).policy.toNat / 2 ^ (8 * log) % 256
  if b % 4 = 1 then s.send (.msix n (b / 16)) else s

/-- Firmware copies an event whose CXL record column is not empty into the log its severity names, of the LDs it
concerns: a GM record into every LD that maps the DPA, any other into every bound LD (16 R582; log 9). -/
def State.logCxl (s : State) (e : Evt) : State :=
  match e.ev.cxl with
  | .none => s
  | .gm => (List.range 32).foldl (fun s n =>
      if ((s.ld n).offsetOf e.arg1.toNat).isSome then (s.updLd n (·.logEvt e.ev.sev e)).logIrq n e.ev.sev else s) s
  | _ => (List.range 32).foldl (fun s n => if s.f (ldBound n) = 1 then (s.updLd n (·.logEvt e.ev.sev e)).logIrq n e.ev.sev else s) s

/-- Raise an event (16 R578, R579): it takes number k; it is stored while k - RAS_EVT_CONS is below 1,024, and is
otherwise dropped and counted. -/
def State.raiseAt (s : State) (tick : Nat) (ev : Ev) (a0 a1 : Nat) : State :=
  let k := s.ras.evts
  let e : Evt := ⟨ev, k, tick, BitVec.ofNat 64 a0, BitVec.ofNat 64 a1⟩
  let fits := decide ((k + 2 ^ 32 - s.f fCons) % 2 ^ 32 < 1024)
  let first := decide (s.evtPending = 0)
  let s := { s with ras := { s.ras with evts := k + 1 } }
  let s := s.incMod fProd
  let s := if fits then
      { s with ras := { s.ras with
          ring := SMap.set (fun _ => ⟨.arrayRowError, 0, 0, 0, 0⟩) s.ras.ring (k % 1024) e,
          oldest := if first then s.tick else s.ras.oldest } }
    else ((s.inc fLost).setF fOverflow 1).setIrq Irq.evtOvf
  (s.logCxl e).evtCheck

/-- Raise an event at the current tick (16 R580). -/
def State.raise (s : State) (ev : Ev) (a0 a1 : Nat) : State := s.raiseAt s.tick ev a0 a1

/-- ARG0 with T and H (16 R580): table [7:0], handle [29:8], source values [41:30] and [53:42]. -/
def argTH (t h : Nat) (s1 s2 : Nat := 0) : Nat := t + h * 2 ^ 8 + s1 * 2 ^ 30 + s2 * 2 ^ 42
/-- ARG0 with C and K (16 R580). -/
def argCK (c k : Nat) : Nat := c + k * 2 ^ 8
/-- ARG0 with P and L (16 R580) of an LD numbered (port << 4) | LD. -/
def argPL (ld : Nat) : Nat := (ld / 16) * 2 ^ 8 + (ld % 16) * 2 ^ 4

/-! ### Memory -/

/-- An unlisted byte reads 0: its page is UNWRITTEN (12 R414, R429). -/
abbrev byteDflt : Nat → Byte := fun _ => 0

/-- A byte of HDM by DPA. -/
def Mem.get (m : List Host.Cell) (a : Nat) : Byte := SMap.get byteDflt m a
/-- Write a byte. -/
def Mem.put (m : List Host.Cell) (a : Nat) (b : Byte) : List Host.Cell := SMap.set byteDflt m a b
/-- The canonical form of a memory. -/
def Memory.wf (m : List Host.Cell) : Bool := SMap.wf byteDflt m
/-- `n` bytes from address `a`. -/
def Mem.read (m : List Host.Cell) (a : Nat) : Nat → List Byte
  | 0 => []
  | n + 1 => Mem.get m a :: Mem.read m (a + 1) n
/-- Write bytes from address `a`. -/
def Mem.write (m : List Host.Cell) (a : Nat) : List Byte → List Host.Cell
  | [] => m
  | b :: bs => Mem.write (Mem.put m a b) (a + 1) bs
/-- Write the bytes of `bs` whose mask bit is set, from address `a`. -/
def Mem.writeMask (m : List Host.Cell) (a : Nat) (mask : Nat → Bool) (i : Nat) : List Byte → List Host.Cell
  | [] => m
  | b :: bs => Mem.writeMask (if mask i then Mem.put m (a + i) b else m) a mask (i + 1) bs

/-- The 64 B line at DPA `a` (00 R4). -/
def State.line (s : State) (a : Nat) : Line := BitVec.ofNat 512 (ofBytes (Mem.read s.mem a 64))
/-- Write a whole line. -/
def State.setLine (s : State) (a : Nat) (l : Line) : State := { s with mem := Mem.write s.mem a (bytesOf 64 l) }

/-- Whether the line that holds byte `a` carries the poison mark (16 R558). -/
def State.poisoned (s : State) (a : Nat) : Bool := flag s.ras.mark (a / 64)
/-- Set or clear the poison mark of the line that holds byte `a`. -/
def State.setPoison (s : State) (a : Nat) (v : Bool) : State :=
  { s with ras := { s.ras with mark := setFlag s.ras.mark (a / 64) v } }

end Sys2Proof.Machine
end

