-- ==== Sys2Proof/Machine/Flags.lean ====
section
/-! DEFINITION. Status codes (11 R393) and the result record (06 R197, R198). -/

namespace Sys2Proof.Machine

namespace St
/-- The completion status table (11 R393). -/
abbrev success := 0x00
abbrev noMatch := 0x01
abbrev partial_ := 0x02
abbrev evicted := 0x03
abbrev queueEmpty := 0x04
abbrev aborted := 0x08
abbrev abortTooLate := 0x09
abbrev contextDisabled := 0x10
abbrev locked := 0x11
abbrev noRoom := 0x12
abbrev privilege := 0x13
abbrev malformed := 0x14
abbrev indexRange := 0x15
abbrev staleGeneration := 0x16
abbrev poisoned := 0x20
end St

/-- Whether a status reports an evaluated search, so that the record carries its tick (06 R198). -/
def Outc.evaluated (o : Outc) : Bool :=
  o.status == St.success || o.status == St.noMatch || o.status == St.poisoned || o.status == St.partial_

/-- The result record of 32 B (06 R197), word 3 highest. -/
def resultRecord (o : Outc) : BitVec 256 :=
  let ev := o.evaluated
  let w0 : Word := if o.hit && o.status != St.poisoned then o.res else 0
  let w1 : Word := if ev then BitVec.ofNat 64 o.tick else 0
  let w2 : Word := putFld (putFld (putFld (putFld 0 48 16 (if ev then o.gen else 0)) 32 16 (if ev then o.count else 0))
    24 8 o.table) 0 8 o.status
  let w3 : Word := if o.hit then
      putFld (putFld (putFld (putFld (putFld 0 40 1 (if o.partner then 1 else 0)) 39 1 (if o.multi then 1 else 0)) 38 1 1)
        22 16 o.prio) 0 22 o.handle
    else putFld 0 39 1 (if o.multi then 1 else 0)
  w3 ++ w2 ++ w1 ++ w0

/-- The record of a request that was never evaluated: STATUS and TABLE, every other field zero (06 R198). -/
def refusal (table status : Nat) : Outc := { status := status, table := table }

end Sys2Proof.Machine
end

