-- ==== Sys2Proof/Machine/Operands.lean ====
section
/-! DEFINITION. The operand forms: profiles, rows, keys and key sets, ranks (03, 04). -/

namespace Sys2Proof.Machine

/-! ### The profile image (04 R110) -/

namespace Prof
/-- PMASK, words 0 to 2. -/
def pmask (p : Line) : Key := p.extractLsb' 0 160
/-- LEAVE_SET, word 3. -/
def leaveSet (p : Line) : BitVec 40 := p.extractLsb' 192 40
/-- KEY_USED, word 4. -/
def keyUsed (p : Line) : BitVec 40 := p.extractLsb' 256 40
/-- A field of the image at bit `lo`. -/
def field (p : Line) (lo n : Nat) : Nat := (p.extractLsb' lo n).toNat
def canopyHi (p : Line) : Nat := field p 320 6
def canopyLo (p : Line) : Nat := field p 328 6
def gladeTarget (p : Line) : Nat := field p 336 7
def evict (p : Line) : Nat := field p 344 2
def pairMode (p : Line) : Nat := field p 346 2
def tenantEnum (p : Line) : Bool := p.getLsbD 348
def tenantSearch (p : Line) : Bool := p.getLsbD 349
def sweepPeriod (p : Line) : Nat := field p 384 20
def keyBits (p : Line) : Nat := field p 448 8
def stridePlan (p : Line) : Nat := field p 456 4
def idxBits (p : Line) : Nat := field p 464 5
def idxLsb (p : Line) : Nat := field p 472 8
/-- The profile of a new table: zero but for GLADE_TARGET 16 (04 R112). -/
def initial : Line := (16 : Line) <<< 336
/-- Bits that the profile image defines for a kind (04 R110); every other bit must be zero (R111). -/
def used (kind : Nat) : Line :=
  let m (lo n : Nat) : Line := (BitVec.ofNat 512 (2 ^ n - 1)) <<< lo
  let any := m 346 2
  let search := any ||| m 349 1
  let array := search ||| m 0 160 ||| m 192 40 ||| m 256 40 ||| m 348 1 ||| m 344 2 ||| m 336 7 ||| m 328 6 ||| m 320 6
  if kind = 3 then array
  else if kind = 4 then array ||| m 384 20
  else if kind = 2 then search ||| m 448 8 ||| m 456 4
  else if kind = 1 then search ||| m 464 5 ||| m 472 8
  else any
end Prof

/-- Kinds 3 MASKED and 4 LEARNING are the array kinds (04 R101). -/
def isArray (kind : Nat) : Bool := kind == 3 || kind == 4

/-- The fields that SET_PROFILE may change on an OPEN or DISABLED table (04 R117). -/
def Prof.changeable : Line :=
  let m (lo n : Nat) : Line := (BitVec.ofNat 512 (2 ^ n - 1)) <<< lo
  m 0 160 ||| m 192 40 ||| m 349 1 ||| m 348 1 ||| m 344 2 ||| m 336 7 ||| m 384 20

/-- The pair modes a kind may select (04 R101): 0 LOCAL, 1 MIRROR, 2 CASCADE. -/
def pairModeAllowed (kind mode : Nat) : Bool :=
  mode == 0 || (mode == 1 && (kind == 1 || kind == 2 || kind == 3 || kind == 4)) || (mode == 2 && kind == 3)

/-- A nibble's value is within a mask by nibbles: PMASK only where LEAVE_SET is set (04 R113). -/
def pmaskInLeave (p : Line) : Bool :=
  (List.range 40).all (fun n => (Prof.leaveSet p).getLsbD n || ((Prof.pmask p).extractLsb' (4 * n) 4) == 0)

/-! ### Rows (03 R69 to R71) -/

namespace Row
def src (r : Row) : Nat := fld r.ctl 51 12
def a (r : Row) : Bool := bit r.ctl 50
def h (r : Row) : Bool := bit r.ctl 49
def stat (r : Row) : Bool := bit r.ctl 48
def g (r : Row) : Bool := bit r.ctl 47
def v (r : Row) : Bool := bit r.ctl 46
def table (r : Row) : Nat := fld r.ctl 38 8
def prio (r : Row) : Nat := fld r.ctl 22 16
def handle (r : Row) : Nat := fld r.ctl 0 22
/-- The rank (PRIORITY << 22) | HANDLE (03 R86). -/
def rank (r : Row) : BitVec 38 := r.ctl.extractLsb' 0 38
def live (r : Row) : Bool := r.v && !r.g
def staged (r : Row) : Bool := !r.v && r.g
/-- Staged, live or invalid: counted in the canopy set (03 R71, R91). -/
def counted (r : Row) : Bool := r.v || r.g
def isFree (r : Row) : Bool := !r.v && !r.g
/-- Cell `n` of a row (03 R69). -/
def cell (r : Row) (n : Nat) : BitVec 16 := r.cells.extractLsb' (16 * n) 16
/-- Control-word updates; the device never stores bit 63 (03 R70). -/
def setBit (r : Row) (i : Nat) (b : Bool) : Row := { r with ctl := putFld r.ctl i 1 (if b then 1 else 0) }
def setV (r : Row) (b : Bool) : Row := r.setBit 46 b
def setG (r : Row) (b : Bool) : Row := r.setBit 47 b
def setH (r : Row) (b : Bool) : Row := r.setBit 49 b
def setA (r : Row) (b : Bool) : Row := r.setBit 50 b
def setSrc (r : Row) (x : Nat) : Row := { r with ctl := putFld r.ctl 51 12 x }
def setHandle (r : Row) (x : Nat) : Row := { r with ctl := putFld r.ctl 0 22 x }
def setTable (r : Row) (x : Nat) : Row := { r with ctl := putFld r.ctl 38 8 x }
/-- H, A, SRC and the result word of `o` on row `n`, as a switch, COMMIT or cut-over copies them (05 R164). -/
def takeState (n o : Row) : Row := { ((n.setH o.h).setA o.a).setSrc o.src with res := o.res }
/-- The staged copy of an entry: G set, V clear; H, A and SRC are copied when it goes live (03 R72; 05 R163, R184). -/
def bare (r : Row) : Row := ((((r.setH false).setA false).setSrc 0).setV false).setG true
/-- The 96 B row image of R78. -/
def image (r : Row) : List Byte := bytesOf 80 r.cells ++ bytesOf 8 r.ctl ++ bytesOf 8 r.res
end Row

/-- A row from a 96 B row image (03 R78). -/
def Row.ofImage (bs : List Byte) : Row :=
  ⟨BitVec.ofNat 640 (le bs 0 80), BitVec.ofNat 64 (le bs 80 8), BitVec.ofNat 64 (le bs 88 8)⟩

/-! ### Canopy sets (03 R89) -/

/-- {16 h + l : h in hi, l in lo} as a set of 256 bytes. -/
def byteSet (hi lo : BitVec 16) : BitVec 256 :=
  (List.range 16).foldl (fun z h => if hi.getLsbD h then z ||| ((lo.setWidth 256) <<< (16 * h)) else z) 0

/-- E(r): the row's canopy set under a profile (03 R89). -/
def Row.canopy (r : Row) (p : Line) : BitVec 256 := byteSet (r.cell (Prof.canopyHi p)) (r.cell (Prof.canopyLo p))

/-- Q: a search's canopy set under a profile (03 R89). -/
def keyCanopy (k : Cells) (p : Line) : BitVec 256 :=
  byteSet (k.extractLsb' (16 * Prof.canopyHi p) 16) (k.extractLsb' (16 * Prof.canopyLo p) 16)

/-! ### Key sets (03 R79 to R82) -/

/-- The values accepted at one nibble: those that agree with `k` outside the ignored bits `e` (03 R80). -/
def nibbleSet (k e : BitVec 4) : BitVec 16 :=
  (List.range 16).foldl (fun (b : BitVec 16) (v : Nat) =>
    if ((BitVec.ofNat 4 v ^^^ k) &&& ~~~e) = 0 then b ||| (1 <<< v) else b) 0

/-- Key set assembly at t1 (03 R80). -/
def keySets (k : SearchKey) (pmask : Key) : Cells :=
  match k.set with
  | some s => s
  | none => (List.range 40).foldl (fun (c : Cells) (n : Nat) =>
      let e := k.gmask.extractLsb' (4 * n) 4 |||
        (if k.leave.getLsbD n then pmask.extractLsb' (4 * n) 4 else 0)
      c ||| (((nibbleSet (k.key.extractLsb' (4 * n) 4) e).setWidth 640) <<< (16 * n))) 0

/-- A one-hot key (03 R80 with no mask bit set). -/
def oneHot (k : Key) : SearchKey := { key := k }

/-- The checks of R81 and R82 that no profile decides: PRIVILEGE for a tenant's global mask or set key, MALFORMED for a
set key with LEAVE, GMASK or an empty set. -/
def keyRefusal (k : SearchKey) (tenant : Bool) : Option Nat :=
  if tenant && (k.gmask != 0 || k.set.isSome) then some St.privilege
  else match k.set with
  | none => none
  | some c =>
    if k.leave != 0 || k.gmask != 0 || (List.range 40).any (fun n => c.extractLsb' (16 * n) 16 == 0)
    then some St.malformed else none

/-- The checks of t1 against the profile in force (04 R118, R659): a LEAVE bit outside the leave set (03 R81), a tenant
without TENANT_SEARCH or TENANT_ENUM (04 R121). -/
def t1Refusal (p : Line) (k : SearchKey) (tenant enum : Bool) : Option Nat :=
  if (k.leave &&& ~~~(Prof.leaveSet p)) != 0 then some St.privilege
  else if tenant && !(if enum then Prof.tenantEnum p else Prof.tenantSearch p) then some St.privilege
  else none

/-- Every cell meets its key set (03 R83). -/
def cellsMeet (c k : Cells) : Bool :=
  (List.range 40).all (fun n => ((c &&& k).extractLsb' (16 * n) 16) != 0)

/-! ### Row images supplied to the device (05 R143, 03 R85, 04 R114) -/

/-- No cell is empty (03 R85), and every cell outside KEY_USED is 0xFFFF (04 R114). -/
def cellsOk (r : Row) (p : Line) : Bool :=
  (List.range 40).all (fun n =>
    r.cell n != 0 && ((Prof.keyUsed p).getLsbD n || r.cell n == 0xFFFF))

/-- The fields of a supplied row image (05 R143). `load`: a bulk-load record. -/
def imageOk (r : Row) (table kind : Nat) (load : Bool) : Bool :=
  !bit r.ctl 63 && (kind == 4 || r.src == 0) &&
  ((load && kind == 4) || (!r.a && !r.h)) && !r.g && !r.v && (r.table == 0 || r.table == table)

/-- The opcode names a table (R385, R658). -/
def namesTable (op : Nat) : Bool := !(op == 0 || op == 3 || op == 4 || op == 0x20 || op == 0x21)

/-! ### Logical row addresses (03 R67) -/

def blockOf (addr : Nat) : Nat := addr / 16384
def segOf (addr : Nat) : Nat := addr / 256

end Sys2Proof.Machine
end

