-- ==== Sys2Proof/Machine/Done.lean ====
section
/-! DEFINITION. Where outcomes go: requests of contexts, window lines, the command-register path, the stages inside. -/

namespace Sys2Proof.Machine

/-- The table record of table `t`. -/
def State.tb (s : State) (t : Nat) : Tbl := SMap.get (fun _ => {}) s.tbl t
/-- The governing profile of a table's rows: that of a bulk load in progress (05 R189), or the profile in force. -/
def Tbl.gov (r : Tbl) : Line := match r.bulk with | some b => b.profile.getD r.profile | none => r.profile
/-- Replace the record of table `t`. -/
def State.setTb (s : State) (t : Nat) (r : Tbl) : State := { s with tbl := SMap.set (fun _ => {}) s.tbl t r }
/-- Change the record of table `t`. -/
def State.updTb (s : State) (t : Nat) (f : Tbl → Tbl) : State := s.setTb t (f (s.tb t))

/-- Context `c`. -/
def State.cx (s : State) (c : Nat) : Ctx := SMap.get (fun _ => {}) s.ctx c
/-- Replace context `c`. -/
def State.setCx (s : State) (c : Nat) (r : Ctx) : State := { s with ctx := SMap.set (fun _ => {}) s.ctx c r }
/-- Change context `c`. -/
def State.updCx (s : State) (c : Nat) (f : Ctx → Ctx) : State := s.setCx c (f (s.cx c))

/-- Queue pair `q`. -/
def State.qp (s : State) (q : Nat) : QPair := SMap.get (fun _ => {}) s.mq q
/-- Replace queue pair `q`. -/
def State.setQp (s : State) (q : Nat) (r : QPair) : State := { s with mq := SMap.set (fun _ => {}) s.mq q r }
/-- Change queue pair `q`. -/
def State.updQp (s : State) (q : Nat) (f : QPair → QPair) : State := s.setQp q (f (s.qp q))

/-- Change the request with number `n`: a descriptor by its count, a window search by its number. -/
def Ctx.updReq (c : Ctx) (win : Bool) (n : Nat) (f : Req → Req) : Ctx :=
  { c with reqs := c.reqs.map (fun r => if r.n == n && r.window.isSome == win then f r else r) }

/-- The request with number `n`. -/
def Ctx.req? (c : Ctx) (win : Bool) (n : Nat) : Option Req :=
  c.reqs.find? (fun r => r.n == n && r.window.isSome == win)

/-- A request ends with an outcome at a tick; a request that has ended keeps the outcome it has. -/
def Req.finish (r : Req) (o : Outc) (t : Nat) : Req :=
  if r.phase = 3 then r else { r with phase := 3, outc := some o, endTick := t }

/-- A table starts its sweeps: pass 0 is due at `due` (07 R243). -/
def Learn.opened (l : Learn) (t due : Nat) : Learn :=
  { l with sweeps := SMap.set (fun _ => none) l.sweeps t (some { due := due }) }

/-- A destroyed table leaves the learn stages. -/
def Learn.closed (l : Learn) (t : Nat) : Learn :=
  { ops := l.ops.filter (fun o => o.table != t), last := l.last.filter (fun e => e.1 != t),
    sweeps := l.sweeps.filter (fun e => e.1 != t) }

/-! ### The pair's state as PAIR_STATUS shows it (15 R554) -/

/-- PAIR_STATUS fields: STATE, ROLE, STRAP_ROLE, KEEP_CAUSE, ALIVE_IN, JOINER, LINK_FAIL, EPOCH. -/
abbrev fPst : F := ⟨0x3c0008, 61, 3⟩
abbrev fRole : F := ⟨0x3c0008, 60, 1⟩
abbrev fStrapRole : F := ⟨0x3c0008, 59, 1⟩
abbrev fKeepCause : F := ⟨0x3c0008, 56, 3⟩
abbrev fAliveIn : F := ⟨0x3c0008, 55, 1⟩
abbrev fJoiner : F := ⟨0x3c0008, 54, 1⟩
abbrev fLinkFail : F := ⟨0x3c0008, 40, 8⟩
abbrev fEpoch : F := ⟨0x3c0008, 0, 32⟩
/-- PAIR_CTRL.EN: the device is a pair member (15 R511). -/
abbrev fPairEn : F := ⟨0x3c0000, 3, 1⟩

/-- The number of a pair state (15 R554). -/
def PairState.num : PairState → Nat
  | .unpaired => 0 | .linking => 1 | .paired => 2 | .tossing => 3 | .keeper => 4 | .benched => 5 | .resync => 6

/-- The pair state of a number; 7 is reserved and no write stores it. -/
def PairState.ofNum : Nat → PairState
  | 1 => .linking | 2 => .paired | 3 => .tossing | 4 => .keeper | 5 => .benched | 6 => .resync | _ => .unpaired

/-- The member's pair state. -/
def State.pst (s : State) : PairState := PairState.ofNum (s.f fPst)
/-- The current role is away. -/
def State.isAway (s : State) : Bool := s.f fRole == 1

/-- This member is benched for mirrored data (15 R541, R548). -/
def State.benchedNow (s : State) : Bool := s.pst == .benched || (s.pst == .resync && s.f fJoiner == 1)

/-- Queue a message to the partner (15 R514). -/
def State.linkSend (s : State) (m : LinkMsg) : State := { s with pair := { s.pair with waiting := s.pair.waiting ++ [m] } }

/-- An outcome as MUT_DONE carries it (15 R515). -/
def Outc.mutBody (r : Outc) : MutBody :=
  { status := BitVec.ofNat 8 r.status, handle := BitVec.ofNat 22 r.handle, victim := BitVec.ofNat 22 r.victim,
    count := BitVec.ofNat 32 r.count, outcome := BitVec.ofNat 8 r.outcome }

/-- The outcome that a MUT_DONE brings for table `t`, at tick `x` of this member. -/
def mutOutc (b : MutBody) (t x : Nat) : Outc :=
  { status := b.status.toNat, tick := x, table := t, handle := b.handle.toNat, victim := b.victim.toNat,
    count := b.count.toNat, outcome := b.outcome.toNat }

/-- Deliver an outcome to where its operation came from. Stages inside the block find it in their inbox. -/
def State.resolve (s : State) (o : Origin) (r : Outc) : State :=
  let t := if r.tick = 0 then s.tick else r.tick
  match o with
  | .req c n => s.updCx c (·.updReq false n (·.finish r t))
  | .window c n => s.updCx c (·.updReq true n (·.finish r s.tick))
  | .cmdPath => { s with mnt := { s.mnt with cmd := s.mnt.cmd.map (fun p => (p.1, some { r with tick := t })) } }
  | .fwd q => s.linkSend (.mutDone q r.tick r.mutBody)
  | .tm | .tally | .tallyOut | .dirtyFill | .sweep _ | .place | .owner _ => s
  | .partner _ | .resync _ => s
  | .learn _ | .dir _ | .rule _ _ _ | .mirror _ _ => { s with inbox := s.inbox ++ [(o, r)] }

/-- Take the first inbox entry whose origin satisfies `p`. -/
def State.takeInbox (s : State) (p : Origin → Bool) : Option ((Origin × Outc) × State) :=
  match s.inbox.find? (fun e => p e.1) with
  | some e => some (e, { s with inbox := s.inbox.erase e })
  | none => none

end Sys2Proof.Machine
end

