-- ==== Sys2Proof/Machine/Array.lean ====
section
/-! DEFINITION. The Septora array and its issue arbiter (02, 03): issue queues, grants, canopy, governor, evaluation. -/

namespace Sys2Proof.Machine

/-! ### Rows and the handle map -/

/-- The row at a logical row address. -/
def State.arow (s : State) (a : Nat) : ArrRow := SMap.get (fun _ => {}) s.arr.rows a
/-- Store a row. -/
def State.setArow (s : State) (a : Nat) (r : ArrRow) : State :=
  { s with arr := { s.arr with rows := SMap.set (fun _ => {}) s.arr.rows a r } }
/-- The content of a row. -/
abbrev State.row (s : State) (a : Nat) : Row := (s.arow a).row

/-- Key of a handle map entry. -/
def hkey (t h : Nat) : Nat := t * 2 ^ 22 + h
/-- The row address that the handle map gives a handle (03 R68). -/
def State.hrow (s : State) (t h : Nat) : Option Nat :=
  match num s.arr.hmap (hkey t h) with
  | 0 => none
  | a + 1 => some a
/-- Point a handle at a row. -/
def State.setHrow (s : State) (t h : Nat) (a : Option Nat) : State :=
  { s with arr := { s.arr with
      hmap := setNum s.arr.hmap (hkey t h) (match a with | none => 0 | some a => a + 1),
      hmapBad := setFlag s.arr.hmapBad (hkey t h) false } }

/-- The live row of a handle: its address (05 R147). -/
def State.liveRow (s : State) (t h : Nat) : Option Nat :=
  match s.hrow t h with
  | some a => if (s.row a).live && (s.row a).table == t && (s.row a).handle == h then some a else none
  | none => none

/-- The rows of table `t`: address and content, by ascending address. -/
def State.rowsOf (s : State) (t : Nat) : List (Nat × Row) :=
  (s.arr.rows.filter (fun e => e.2.row.counted && e.2.row.table == t)).map (fun e => (e.1, e.2.row))
/-- LIVE and STAGED of TBL_ROWS (04 R107). -/
def State.liveCount (s : State) (t : Nat) : Nat := ((s.rowsOf t).filter (fun e => e.2.live)).length
def State.stagedCount (s : State) (t : Nat) : Nat := ((s.rowsOf t).filter (fun e => e.2.staged)).length

/-- Both placements of a table (03 R83). -/
def Tbl.placement (r : Tbl) : BlockSet := r.blocks ||| r.mig

/-- One block as a set. -/
def blockBit (b : Nat) : BlockSet := (1 : BlockSet) <<< b

/-! ### The shadow queue (16 R562, R563) -/

/-- A commit places the row's new content in the shadow queue: in place, or at its end; with the queue full the row
becomes shadow-dirty. -/
def State.shadowPut (s : State) (a : Nat) (r : Row) : State :=
  let s := { s with ras := { s.ras with rowTick := setNum s.ras.rowTick a (s.tick + 1) } }
  let q := s.ras.shadowQ
  if q.any (fun e => e.1 == a) then
    { s with ras := { s.ras with shadowQ := q.map (fun e => if e.1 == a then (a, r) else e),
                                 shadowQBad := setFlag s.ras.shadowQBad a false,
                                 dirty := setFlag s.ras.dirty a false } }
  else if q.length < 16384 then
    { s with ras := { s.ras with shadowQ := q ++ [(a, r)], dirty := setFlag s.ras.dirty a false } }
  else { s with ras := { s.ras with dirty := setFlag s.ras.dirty a true } }

/-- The shadow content of a row (16 R562). -/
def State.shadowOf (s : State) (a : Nat) : Row :=
  match s.ras.shadowQ.find? (fun e => e.1 == a) with
  | some e => e.2
  | none => SMap.get (fun _ => {}) s.ras.shadow a

/-- Write a row at a commit tick: content, correct parity (03 R75), last-write tick, shadow. A freed row is all zero. -/
def State.commitRow (s : State) (a : Nat) (r : Row) (lastWrite : Nat) : State :=
  let r := if r.isFree then {} else r
  (s.setArow a ⟨r, 0, if r.isFree then 0 else lastWrite⟩).shadowPut a r

/-- Free a row and clear its handle map entry where that names the row. -/
def State.freeRow (s : State) (a : Nat) : State :=
  let r := s.row a
  let s := if s.hrow r.table r.handle == some a then s.setHrow r.table r.handle none else s
  s.commitRow a {} 0

/-- A row leaves its segment: the tightening clock of 05 R162 starts. -/
def State.rowLeft (s : State) (a : Nat) : State :=
  if num s.mnt.left (segOf a) = 0 then
    { s with mnt := { s.mnt with left := setNum s.mnt.left (segOf a) (s.tick + 1) } } else s

/-- Report a row to the tally engine: a queue of 16, drops counted (16 R568). -/
def State.report (s : State) (a : Nat) : State :=
  if s.ras.reports.contains a then s
  else if s.ras.reports.length < 16 then { s with ras := { s.ras with reports := s.ras.reports ++ [a] } }
  else s.inc ⟨0x3e0038, 48, 16⟩

/-! ### Issue queues (02 R55, R56) -/

/-- PORT_MASK of an input (02 R56). -/
def State.portMask (s : State) (n : Nat) : Nat := fld (s.reg (0x10100 + 8 * n)) 0 8

/-- The next port of a mask after the port last assigned, wrapping (02 R56); port 7 counts as last before the first. -/
def nextPort (mask last : Nat) : Option Nat :=
  ((List.range 8).map (fun i => (last + 1 + i) % 8)).find? (fun p => mask.testBit p)

/-- The interface of an input at a port. -/
def State.iface (s : State) (n p : Nat) : Iface := SMap.get (fun _ => {}) s.arb.ifaces (8 * n + p)
/-- Replace an interface. -/
def State.setIface (s : State) (n p : Nat) (i : Iface) : State :=
  { s with arb := { s.arb with ifaces := SMap.set (fun _ => {}) s.arb.ifaces (8 * n + p) i } }

/-- Put an operation into the queue of interface (n, p). -/
def State.enqAt (s : State) (n p : Nat) (op : ArrOp) : State :=
  let i := s.iface n p
  s.setIface n p { i with q := i.q ++ [{ op with enq := max op.enq s.tick }] }

/-- Queue an operation at an input: inputs 0 to 7 have one port, 8 to 14 take the ports of their mask in turn
(02 R55, R56). -/
def State.enqOp (s : State) (n : Nat) (op : ArrOp) : State :=
  if n < 8 then s.enqAt n n op
  else match nextPort (s.portMask n) (SMap.get (fun _ => 7) s.arb.lastPort n) with
  | some p =>
    let s := s.enqAt n p op
    { s with arb := { s.arb with lastPort := SMap.set (fun (_ : Nat) => 7) s.arb.lastPort n p } }
  | none => s

/-- Every queued operation, with its input and port. -/
def State.queuedOps (s : State) : List (Nat × Nat × ArrOp) :=
  s.arb.ifaces.flatMap (fun e => e.2.q.map (fun op => (e.1 / 8, e.1 % 8, op)))

/-- Drop the queued operations that satisfy `p`. -/
def State.dropOps (s : State) (p : ArrOp → Bool) : State :=
  let m := s.arb.ifaces.map (fun e => (e.1, { e.2 with q := e.2.q.filter (fun op => !p op) }))
  { s with arb := { s.arb with ifaces := m.filter (fun e => e.2 != ({} : Iface)) } }

/-! ### Classes of operation (02 R44, 03 R95) -/

/-- Search-class operations: the governor gates them, a spare rebuild pauses them (03 R97, 16 R571). -/
def ArrOp.isSearch (op : ArrOp) : Bool :=
  match op.act with
  | .search .. | .pass .. => true
  | _ => false

/-- The write stages a row under a lock, or frees a staged row. -/
def ArrOp.stages (op : ArrOp) : Bool :=
  match op.act with | .write _ _ .stage | .write _ _ .unstage => true | _ => false

/-- The span in ticks (02 R44). -/
def ArrOp.span (op : ArrOp) : Nat :=
  match op.act with
  | .search .. => 1
  | .pass .. => 9
  | .write .. | .read .. => 2
  | .upd .. => 1

/-- The blocks of a lock's marked rows (05 R173). -/
def State.lockBlocks (s : State) (t : Nat) : BlockSet :=
  match (s.tb t).lock with
  | none => 0
  | some l =>
    let a := l.live.foldl (fun b r => b ||| blockBit (blockOf r)) (0 : BlockSet)
    l.retire.foldl (fun b h => match s.hrow t h with | some r => b ||| blockBit (blockOf r) | none => b) a

/-- The blocks in which an operation takes a lane (02 R44; 05 R163, R173, R184). -/
def State.opBlocks (s : State) (op : ArrOp) : BlockSet :=
  match op.act with
  | .search .. | .pass .. => (s.tb op.table).placement
  | .write a _ _ | .read a => blockBit (blockOf a)
  | .upd h u =>
    let row := match s.hrow op.table h with | some a => blockBit (blockOf a) | none => 0
    match u with
    | .switch new => row ||| blockBit (blockOf new)
    | .lockCommit | .lockDiscard => s.lockBlocks op.table
    | .cutover => (s.tb op.table).placement
    | .tighten seg _ _ => blockBit (seg / 64)
    | _ => row

/-- Whether an operation takes its lanes in the tick after its grant too (02 R44). -/
def ArrOp.twoLanes (op : ArrOp) : Bool :=
  match op.act with
  | .write .. | .read .. => true
  | _ => false

/-- Blocks with one and with two lanes taken. -/
structure Lanes where
  one : BlockSet := 0
  two : BlockSet := 0
  deriving DecidableEq, Repr

/-- Take one lane in each of the blocks. -/
def Lanes.take (l : Lanes) (b : BlockSet) : Lanes := ⟨l.one ||| b, l.two ||| (l.one &&& b)⟩
/-- One lane is free in each of the blocks (02 R43). -/
def Lanes.free (l : Lanes) (b : BlockSet) : Bool := (l.two &&& b) == 0

/-! ### Arbitration (02 R57 to R61) -/

/-- A spare rebuild pauses the searches of a table (16 R571). -/
def State.paused (s : State) (table tick : Nat) : Bool :=
  s.ras.rebuilds.any (fun r => r.table == table && decide (r.f ≤ tick) && decide (tick < r.f + 4098))

/-- A learn's change follows the grants of the learns of its table that come before it (07 R232). -/
def State.learnTurn (s : State) (id t : Nat) : Bool :=
  match s.lrn.ops.find? (fun o => o.id == id) with
  | none => true
  | some o =>
    (s.lrn.ops.takeWhile (fun x => x.id != id)).all (fun x => x.table != o.table ||
      s.arb.flights.any (fun f => f.op.origin == .learn x.id && decide (f.g < t) &&
        (match f.op.act with | .write .. | .upd .. => true | _ => false)))

/-- A request of the directory path makes its change after every request that comes before it has made its own, but for one
that was looked up afresh, and no two in one tick (07 R232, R259). -/
def State.dirTurn (s : State) (id t : Nat) : Bool :=
  let change (x : Nat) (p : Nat → Bool) : Bool := s.arb.flights.any (fun f => f.op.origin == .dir x && p f.g &&
    (match f.op.act with | .write .. | .upd .. => true | _ => false))
  let done (x : DirReq) : Bool :=
    match x.what with
    | .pin _ _ | .unpin _ _ => x.commit.isSome && x.change != .none
    | _ => x.phase == 6 || x.commit.isSome || change x.id (fun g => decide (g < t))
  (s.dir.reqs.takeWhile (fun x => x.id != id)).all (fun x => x.again || done x) &&
  !s.dir.reqs.any (fun x => x.id != id && change x.id (fun g => g == t))

/-- A state update that waits for earlier ticks: COMMIT and discard follow the lock's last staged row write
(05 R173, R174), a switch follows step 1's commit by at least one tick (05 R163). -/
def State.opReady (s : State) (op : ArrOp) (t : Nat) : Bool :=
  decide (op.enq ≤ t) &&
  match op.act with
  | .upd h (.switch new) =>
    s.mnt.relocs.any (fun r => r.table == op.table && r.handle == h && r.new == new &&
      (match r.staged with | some c => decide (c < t) | none => false))
  | .upd _ .lockCommit | .upd _ .lockDiscard =>
    (match (s.tb op.table).lock with | some l => decide (l.lastStage < t) && (l.ready || l.lstate == 3) | none => true) &&
    !(s.arb.flights.any (fun f => f.op.table == op.table && !f.committed && f.op.stages)) &&
    -- COMMIT follows every mutation accepted before it (05 R173)
    (op.act != .upd 0 .lockCommit || !(s.queuedOps.any (fun e => e.2.2.table == op.table && e.2.2.stages) ||
      (s.mnt.placeQ ++ s.mnt.tmQ ++ s.mnt.tmWait.map (fun e => e.2)).any (fun i => i.table == op.table && i.lock.isSome)))
  | .write .. | .upd .. => (match op.origin with | .learn id => s.learnTurn id t | .dir id => s.dirTurn id t | _ => true)
  | _ => true

/-- The governor permits an operation: search-class ones while BAL is 0 or more (03 R97). -/
def State.govOk (s : State) (op : ArrOp) : Bool := !op.isSearch || decide (0 ≤ s.arr.bal)

/-- The port is held in tick `t` (02 R61). -/
def State.heldBy (s : State) (p t : Nat) : Option Nat :=
  match SMap.get (fun _ => none) s.arb.holds p with
  | some h => match h.until_ with
    | some u => if t < u then some h.input else none
    | none => some h.input
  | none => none

/-- A reservation of port `p` that covers some tick of [t, t + n). -/
def State.resvIn (s : State) (p t n : Nat) : Bool :=
  s.arb.resvs.any (fun r => r.port == p && decide (r.first < t + n) && decide (t < r.first + r.len))

/-- An interface requests its port in tick `t`, leaving the governor aside (02 R57). -/
def State.wants (s : State) (n p t : Nat) : Option ArrOp :=
  let i := s.iface n p
  match i.q with
  | [] => none
  | op :: _ =>
    if decide (i.nextReq ≤ t) && s.heldBy p t != some n && s.opReady op t &&
       !(op.isSearch && s.paused op.table t) then some op else none

/-- An interface requests its port in tick `t` (02 R57). -/
def State.requests (s : State) (n p t : Nat) : Option ArrOp :=
  match s.wants n p t with
  | some op => if s.govOk op then some op else none
  | none => none

/-- The owner input of a port's slot t mod 64 in the active fixtures (02 R58, R63). -/
def State.owner (s : State) (p t : Nat) : Nat :=
  let j := t % 64
  fld (s.reg (0x10300 + 8 * (4 * p + j / 16))) (4 * (j % 16)) 4

/-- A requester that requests and is not granted loses; its wait doubles from 1 to 64 ticks (02 R60). -/
def Iface.lose (i : Iface) (t : Nat) : Iface :=
  { i with losses := i.losses + 1, nextReq := t + 2 ^ min i.losses 6 }

/-- A grant takes the head operation and clears the losses (02 R60). -/
def Iface.win (i : Iface) : Iface := { i with q := i.q.tail, losses := 0, nextReq := 0 }

/-- Take in an operation at port `p` in tick `t` (02 R44): it becomes a flight and holds its port for its span. A row
write is recorded for the tightening check of 03 R92. -/
def State.enterPort (s : State) (op : ArrOp) (n p t : Nat) : State :=
  let arb := { s.arb with
    flights := s.arb.flights ++ [{ op := op, input := n, port := p, g := t }],
    holds := SMap.set (fun _ => none) s.arb.holds p (some ⟨n, t, some (t + op.span)⟩) }
  let arr := match op.act with
    | .write a _ _ => { s.arr with segWrite := setNum s.arr.segWrite (segOf a) (t + 1) }
    | _ => s.arr
  { s with arb := arb, arr := arr }

/-- The interfaces of port `p` that request in tick `t`, highest input first. -/
def State.requesters (s : State) (p t : Nat) : List (Nat × ArrOp) :=
  ((List.range 16).reverse).filterMap (fun n => (s.requests n p t).map (fun op => (n, op)))

/-- The head of interface (n, p) is withdrawn without admission (04 R138, 05 R166). -/
def State.withdrawHead (s : State) (n p : Nat) : State :=
  let i := s.iface n p
  match i.q with
  | [] => s
  | op :: rest =>
    let s := s.setIface n p { i with q := rest }
    { s with arb := { s.arb with withdrawn := s.arb.withdrawn ++ [op] } }

/-- Resolve one port in tick `t` (02 R58): a reservation, a hold, the owner of the slot, or the highest input. `l0` and
`l1` are the lanes taken at t and t + 1. An operation that would be granted and that `ok` refuses is withdrawn, and the port
is resolved again, at most as often as the first argument says. -/
def State.arbPort (ok : State → ArrOp → Bool) (t p : Nat) : Nat → State → Lanes → Lanes → State × Lanes × Lanes
  | 0, s, l0, l1 => (s, l0, l1)
  | k + 1, s, l0, l1 =>
  let reqs := s.requesters p t
  let lose (s : State) (won : Option Nat) : State :=
    reqs.foldl (fun s r => if some r.1 == won then s else s.setIface r.1 p ((s.iface r.1 p).lose t)) s
  match s.arb.resvs.find? (fun r => r.port == p && r.first == t) with
  | some r =>
    let s := { s with arb := { s.arb with resvs := s.arb.resvs.erase r } }
    (lose (s.enterPort r.op r.input p t) none, l0, l1)
  | none =>
    if (s.heldBy p t).isSome || s.resvIn p t 1 then (lose s none, l0, l1)
    else
      let elig := reqs.filter (fun r =>
        l0.free (s.opBlocks r.2) && (!r.2.twoLanes || l1.free (s.opBlocks r.2)) && !s.resvIn p t r.2.span)
      let win := match elig.find? (fun r => r.1 == s.owner p t) with
        | some r => some r
        | none => elig.head?
      match win with
      | none => (lose s none, l0, l1)
      | some (n, op) =>
        if !ok s op then State.arbPort ok t p k (s.withdrawHead n p) l0 l1 else
        let b := s.opBlocks op
        let s := s.setIface n p (s.iface n p).win
        (lose (s.enterPort op n p t) (some n), l0.take b, if op.twoLanes then l1.take b else l1)

/-- Lanes taken at tick `x` before its arbitration: row operations granted at x - 1, and reservations (02 R59). -/
def State.lanesAt (s : State) (x : Nat) : Lanes :=
  let l := s.arb.flights.foldl (fun l f =>
    if f.op.twoLanes && f.g + 1 == x then l.take (s.opBlocks f.op) else l) ({} : Lanes)
  s.arb.resvs.foldl (fun l r =>
    if r.first == x || (r.op.twoLanes && r.first + 1 == x) then l.take (s.opBlocks r.op) else l) l

/-- Steps of the port loop of R59 for ports (t + k) mod 8. -/
def State.arbLoop (ok : State → ArrOp → Bool) (t : Nat) : List Nat → State → Lanes → Lanes → State
  | [], s, _, _ => s
  | k :: ks, s, l0, l1 =>
    let r := State.arbPort ok t ((t + k) % 8) (s.queuedOps.length + 1) s l0 l1
    State.arbLoop ok t ks r.1 r.2.1 r.2.2

/-- ARRAY_GOV_DELAY[t] counts a tick in which only the closed gate keeps an interface of table t from requesting
(03 R98). -/
def State.countDelay (s : State) (t : Nat) : State :=
  if 0 ≤ s.arr.bal then s else
  let tables := (s.arb.ifaces.filterMap (fun e =>
    match s.wants (e.1 / 8) (e.1 % 8) t with
    | some op => if op.isSearch then some op.table else none
    | none => none)).eraseDups
  tables.foldl (fun s tb => s.inc ⟨0x20800 + 8 * tb, 0, 32⟩) s

/-- The arbitration of tick `t` (02 R59), after the delay counters of 03 R98. `ok` is the check that table maintenance makes
at the tick of a grant. -/
def State.arbitrate (s : State) (t : Nat) (ok : State → ArrOp → Bool) : State :=
  State.arbLoop ok t (List.range 8) (s.countDelay t) (s.lanesAt t) (s.lanesAt (t + 1))

/-! ### t1, t2 and t4 of the ledger (02 R46, 03 R79 to R93) -/

/-- Update every flight. -/
def State.mapFlights (s : State) (f : Flight → Flight) : State :=
  { s with arb := { s.arb with flights := s.arb.flights.map f } }

/-- t1: key sets from the profile in force, or a refusal (03 R79, 04 R118, R659). -/
def Flight.t1 (s : State) (x : Nat) (f : Flight) : Flight :=
  if f.g + 1 ≠ x then f else
  let p := (s.tb f.op.table).profile
  match f.op.act with
  | .search k ten _ | .pass k ten _ _ _ =>
    match f.op.cells with
    | some c => { f with keys := some c }
    | none =>
      let enum := match f.op.act with | .pass .. => true | _ => false
      let dir := match f.op.origin with | .dir _ | .learn _ => true | _ => false
      match if dir then none else t1Refusal p k ten enum with
      | some st => { f with refused := some st }
      | none => { f with keys := some (keySets k (Prof.pmask p)) }
  | _ => f

/-- The segments of a placement. -/
def segsOf (b : BlockSet) : List Nat := (members b).flatMap (fun n => (List.range 64).map (fun i => 64 * n + i))

/-- Z of a segment (03 R90). -/
def State.zOf (s : State) (seg : Nat) : BitVec 256 := SMap.get (fun _ => 0) s.arr.z seg
/-- Words of Z of a segment whose parity fails. -/
def State.zBadOf (s : State) (seg : Nat) : BitVec 4 := SMap.get (fun _ => 0) s.arr.zBad seg
/-- Write Z anew: every word that changes is written with correct parity (03 R93). -/
def State.setZ (s : State) (seg : Nat) (z : BitVec 256) (words : BitVec 4) : State :=
  { s with arr := { s.arr with
      z := SMap.set (fun _ => 0) s.arr.z seg z,
      zBad := SMap.set (fun _ => 0) s.arr.zBad seg (s.zBadOf seg &&& ~~~words),
      zSeen := SMap.set (fun _ => 0) s.arr.zSeen seg (SMap.get (fun _ => 0) s.arr.zSeen seg &&& ~~~words) } }

/-- The words of Z in which two sets differ. -/
def wordsDiff (a b : BitVec 256) : BitVec 4 :=
  (List.range 4).foldl (fun (m : BitVec 4) (j : Nat) =>
    if (a ^^^ b).extractLsb' (64 * j) 64 != 0 then m ||| (1 <<< j) else m) 0

/-- Z as the canopy stage reads it: every byte of a failing word is present (03 R93). -/
def State.zRead (s : State) (seg : Nat) : BitVec 256 :=
  (List.range 4).foldl (fun (z : BitVec 256) (j : Nat) =>
    if (s.zBadOf seg).getLsbD j then z ||| ((BitVec.ofNat 256 (2 ^ 64 - 1)) <<< (64 * j)) else z) (s.zOf seg)

/-- Widen Z at g + 2 of a row write (03 R92). -/
def State.widen (s : State) (seg : Nat) (e : BitVec 256) : State :=
  let z := s.zOf seg
  if e &&& ~~~z = 0 then s else s.setZ seg (z ||| e) (wordsDiff z (z ||| e))

/-- Apply a tightening at g + 2, or discard it: a row write to the segment was granted at or after the tick it read,
or it lacks a byte of a staged, live or invalid row (03 R92). -/
def State.tightenZ (s : State) (table seg : Nat) (z : BitVec 256) (read : Nat) : State :=
  let p := (s.tb table).gov
  let need := (s.arr.rows.filter (fun e => segOf e.1 == seg && e.2.row.counted)).foldl
    (fun b e => b ||| e.2.row.canopy p) (0 : BitVec 256)
  if read < num s.arr.segWrite seg || (need &&& ~~~z) != 0 then s
  else { s.setZ seg z 15 with mnt := { s.mnt with left := setNum s.mnt.left seg 0 } }

/-- A failing word is reported once, and a tightening of the segment is requested (03 R93). -/
def State.zParity (s : State) (table seg : Nat) : State :=
  let new := s.zBadOf seg &&& ~~~(SMap.get (fun _ => 0) s.arr.zSeen seg)
  if new = 0 then s else
  let s := { s with
    arr := { s.arr with zSeen := SMap.set (fun _ => 0) s.arr.zSeen seg (SMap.get (fun _ => 0) s.arr.zSeen seg ||| new) },
    mnt := { s.mnt with left := setNum s.mnt.left seg (s.tick + 1) } }
  (List.range 4).foldl (fun s j => if new.getLsbD j then s.raise .canopyParity table (seg + j * 2 ^ 62) else s) s

/-- t2 of one flight: the row write's widening, the tightening, the canopy decision and the credits (03 R90 to R95). -/
def State.t2 (s : State) (x : Nat) (f : Flight) : State :=
  if f.g + 2 ≠ x then s else
  let p := (s.tb f.op.table).gov
  let charge (s : State) (n : Nat) : State := { s with arr := { s.arr with charges := s.arr.charges + n } }
  match f.op.act with
  | .write a r _ => charge (if r.counted then s.widen (segOf a) (r.canopy p) else s) 1
  | .read _ => charge s 1
  | .upd _ (.tighten seg z rd) => s.tightenZ f.op.table seg z rd
  | .upd .. => s
  | .search .. | .pass .. =>
    match f.keys with
    | none => s
    | some k =>
      let segs := segsOf (s.tb f.op.table).placement
      let q := keyCanopy k p
      let s := segs.foldl (fun s seg => s.zParity f.op.table seg) s
      charge s (segs.filter (fun seg => (s.zRead seg &&& q) != 0)).length

/-- The rows that match key sets `k` on table `t` (03 R83), in ascending rank order (R88). By R84 the canopy decision
does not change them. -/
def State.matches_ (s : State) (t : Nat) (k : Cells) (floor : Option (BitVec 38)) : List Win :=
  let place := (s.tb t).placement
  let ms := (s.arr.rows.filter (fun e =>
    e.2.row.live && e.2.row.table == t && place.getLsbD (blockOf e.1) && cellsMeet e.2.row.cells k &&
    (match floor with | some f => decide (f < e.2.row.rank) | none => true))).map
      (fun e => ({ addr := e.1, rank := e.2.row.rank, row := e.2.row, bad := e.2.bad } : Win))
  sortBy (fun (w : Win) => w.rank.toNat) ms

/-- t4: the search sees the rows as they stand at its evaluate tick (01 R19, 03 R83, R88). -/
def Flight.t4 (s : State) (x : Nat) (f : Flight) : Flight :=
  if f.g + 4 ≠ x then f else
  match f.op.act, f.keys with
  | .search .., some k =>
    let ms := s.matches_ f.op.table k none
    { f with found := some ⟨x, (s.tb f.op.table).gen, min ms.length 65535, ms.take 1⟩ }
  | .pass _ _ fl _ _, some k =>
    let ms := s.matches_ f.op.table k fl
    { f with found := some ⟨x, (s.tb f.op.table).gen, min ms.length 65535, ms.take 32⟩ }
  | _, _ => f

/-- A learn notes at its probe's evaluate tick the row of the winner (07 R235). -/
def State.noteProbe (s : State) (x : Nat) (f : Flight) : State :=
  if f.g + 4 ≠ x then s else
  match f.op.origin, f.op.act, f.found with
  | .learn id, .search .., some fd =>
    let at_ := fd.wins.head?.map (fun w => w.addr)
    { s with lrn := { s.lrn with ops := s.lrn.ops.map (fun (o : LearnOp) =>
      if o.id == id && o.phase == 0 then { o with row := at_ } else o) } }
  | _, _, _ => s

/-- The read of t12 or t20 and its check (02 R46, R48; 03 R68, R76): the handle map names the row whose control and result
words are checked; an entry that has left since the evaluate tick is checked as it stood then (log 37). `full`: a READ_BY_KEY
checks all 12 words as of its evaluate tick (05 R152). A failing handle map entry fails the check. -/
def State.checkWin (s : State) (t : Nat) (full : Bool) (w : Win) : Win :=
  let h := w.row.handle
  let at_ := s.liveRow t h
  let bad := match at_ with | some a => (s.arow a).bad | none => w.bad
  { w with addr := at_.getD w.addr,
           fails := (if full then w.bad != 0 else bad.getLsbD 10 || bad.getLsbD 11) || flag s.arr.hmapBad (hkey t h) }

/-- The tick at which the winners' words are read: t12 of a search, t20 of a pass. -/
def Flight.readAt (f : Flight) : Nat :=
  match f.op.act with
  | .pass .. => f.g + 20
  | _ => f.g + 12

/-- t12 or t20 of a flight. -/
def Flight.check (s : State) (x : Nat) (f : Flight) : Flight :=
  if f.readAt ≠ x then f else
  match f.found with
  | some fd =>
    let full := match f.op.act with | .search _ _ im => im | _ => false
    { f with found := some { fd with wins := fd.wins.map (s.checkWin f.op.table full) } }
  | none => f

/-- t13 or t21: failing winners are reported to the tally engine (03 R77). -/
def State.reportFails (s : State) (x : Nat) (f : Flight) : State :=
  if f.readAt + 1 ≠ x then s else
  match f.found with
  | some fd => fd.wins.foldl (fun s w => if w.fails then s.report w.addr else s) s
  | none => s

/-- A row read observes its row as of g + 5 (02 R45). -/
def Flight.observe5 (s : State) (x : Nat) (f : Flight) : Flight :=
  if f.g + 5 ≠ x then f else
  match f.op.act with
  | .read a => { f with seen := some { row := s.arow a } }
  | _ => f

/-- Take flights out of the array; the credit of a row write or row read not yet charged stays due (03 R95). -/
def State.cutFlights (s : State) (p : Flight → Bool) : State :=
  { s with
    arb := { s.arb with flights := s.arb.flights.filter (fun f => !p f) },
    arr := { s.arr with owed := s.arr.owed ++
      (s.arb.flights.filter (fun f => p f && f.op.twoLanes && decide (s.tick ≤ f.g + 2))).map (fun f => f.g) } }

/-- Charge at g + 2 what withdrawn row operations owe (03 R95). -/
def State.chargeOwed (s : State) (x : Nat) : State :=
  { s with arr := { s.arr with
      charges := s.arr.charges + (s.arr.owed.filter (fun g => g + 2 == x)).length,
      owed := s.arr.owed.filter (fun g => g + 2 != x) } }

/-! ### The governor (03 R96, R99) -/

/-- Credits per tick C (03 R99), lowered by the throttle (19 R650): min(max(CREDITS_PER_TICK, 1), 160), at most
THERM_CTRL.THR_CREDITS while the throttle acts. -/
def State.credits (s : State) : Nat :=
  let c := min (max (fld (s.reg 0x20100) 0 8) 1) 160
  if bit (s.reg 0xc08) 63 then min c (max (fld (s.reg 0xc00) 40 8) 1) else c

/-- BAL at the start of tick x + 1 (03 R96). The charges of the last 1 ms stay for PWR_STAT (19 R657). -/
def State.govern (s : State) : State :=
  { s with arr := { s.arr with
      recent := (if s.arr.charges = 0 then s.arr.recent else (s.tick, s.arr.charges) :: s.arr.recent).filter
        (fun e => decide (s.tick < e.1 + 500000)),
      bal := min (Int.ofNat (fld (s.reg 0x20100) 16 16)) (s.arr.bal + Int.ofNat s.credits - Int.ofNat s.arr.charges),
      charges := 0 } }

/-- The array's work when tick `x` closes: t1, t2, t4, the checks of t12, t13, t20 and t21, and the governor. -/
def State.arrayClose (s : State) : State :=
  let x := s.tick
  let s := s.mapFlights (Flight.t1 s x)
  let s := s.arb.flights.foldl (fun s f => s.t2 x f) s
  let s := s.mapFlights (Flight.t4 s x)
  let s := s.arb.flights.foldl (fun s f => s.noteProbe x f) s
  let s := s.mapFlights (Flight.check s x)
  let s := s.arb.flights.foldl (fun s f => s.reportFails x f) s
  let s := s.mapFlights (Flight.observe5 s x)
  (s.chargeOwed x).govern

end Sys2Proof.Machine
end

