-- ==== Sys2Proof/Machine/Pipe.lean ====
section
/-! DEFINITION. The search pipeline's commands (02): delivery, cascade, backoff, watchdog, fixtures. -/

namespace Sys2Proof.Machine

/-! ### The domain table and the LD map (08 R288 to R290) -/

/-- A word of direct SRAM. -/
def State.dword (s : State) (a : Nat) : Word := SMap.get (fun _ => 0) s.dsram.words a
/-- Write a word of direct SRAM with correct parity. -/
def State.setDword (s : State) (a : Nat) (w : Word) : State :=
  { s with dsram := { s.dsram with words := SMap.set (fun _ => 0) s.dsram.words a w,
                                   bad := setFlag s.dsram.bad a false } }
/-- The domain table entry of domain `d` (08 R288, R290). -/
abbrev domAddr (d : Nat) : Nat := 0x100400 + d
def State.domEnabled (s : State) (d : Nat) : Bool := bit (s.dword (domAddr d)) 63
def State.domRotating (s : State) (d : Nat) : Bool := bit (s.dword (domAddr d)) 36
def State.domSlot (s : State) (d : Nat) : Nat := fld (s.dword (domAddr d)) 0 12
def State.domNext (s : State) (d : Nat) : Nat := fld (s.dword (domAddr d)) 24 12
/-- Address of copy `q` of LD map entry `n` (08 R288). -/
def ldMapAddr (n q : Nat) : Nat := 0x100000 + 32 * q + (n + q) % 32
/-- LD map entry `n`: VALID and DOMAIN (08 R289). -/
def State.ldMap (s : State) (n : Nat) : Word := s.dword (ldMapAddr n 0)
def State.ldValid (s : State) (n : Nat) : Bool := bit (s.ldMap n) 63
def State.ldDomain (s : State) (n : Nat) : Nat := fld (s.ldMap n) 0 12
/-- A write of an LD map entry writes its 32 copies at one tick (08 R289). -/
def State.setLdMap (s : State) (n : Nat) (w : Word) : State :=
  (List.range 32).foldl (fun s q => s.setDword (ldMapAddr n q) w) s

/-- Firmware, or an LD whose BAR0_EN is 1 and whose LD map entry is valid, may reach BAR0 (10 R343, R356, 18 R618). -/
def State.mayBar0 (s : State) : Who → Bool
  | .fw => true
  | .ld n => s.f (ldBar0 n.val) == 1 && s.ldValid n.val

/-- Remove a flight. -/
def State.dropFlight (s : State) (f : Flight) : State :=
  { s with arb := { s.arb with flights := s.arb.flights.erase f } }

/-- The result of the local part of a search, as t12 to t14 form it (02 R46, 03 R77, R88, 05 R152). -/
def Flight.localOutc (f : Flight) : Outc :=
  match f.refused, f.found with
  | some st, _ => refusal f.op.table st
  | none, none => refusal f.op.table St.noMatch
  | none, some fd =>
    match fd.wins.head? with
    | none => { status := St.noMatch, tick := fd.tick, gen := fd.gen, table := f.op.table }
    | some w =>
      let full := match f.op.act with | .search _ _ im => im | _ => false
      { status := if w.fails then St.poisoned else St.success, tick := fd.tick, gen := fd.gen, table := f.op.table,
        count := fd.count, multi := decide (2 ≤ fd.count), handle := w.row.handle, prio := w.row.prio,
        res := if w.fails then 0 else w.row.res, hit := true,
        image := if full && !w.fails then some w.row else none }

/-- A cascade-in of the partner is delivered at t51 or t59 and framed in the tick after (02 R50, 06 R205). -/
def Flight.framing (f : Flight) : Nat := match f.op.origin with | .partner _ => 1 | _ => 0

/-- The flight of a local best-match search that is due at its result port: granted 15 ticks ago or earlier, or 16 for the
partner's. -/
def Flight.bestDue (f : Flight) (port t : Nat) : Bool :=
  f.port == port && !f.cascaded && !f.stuck && decide (f.g + 15 + f.framing ≤ t) &&
  match f.op.act with | .search .. => true | _ => false

/-- SEARCH_RESULT_DELIVER (02 R46, 03 R77, 06 R197, R198): the record is formed and delivered. A cascade-in's record
goes to the partner as a reply (02 R50). -/
def State.searchDeliver (s : State) (port : Nat) : State :=
  match s.arb.flights.find? (fun f => f.bestDue port s.tick) with
  | none => s
  | some f =>
    let o := f.localOutc
    let s := s.dropFlight f
    match f.op.origin with
    | .partner t0 => s.linkSend (.casReply t0 o.status o.hit o.count o.handle o.prio o.res)
    | og => s.resolve og o

/-- SEARCH_RESULT_DELIVER. -/
def execSearchResultDeliver (port : SPort) (s : State) : Res := whileUp s (fun s => s.searchDeliver port.val)

/-- BACKOFF_EXPIRY (02 R60): the wait is over and the interface requests again. Its losses stay counted. -/
def execBackoffExpiry (input : Fin 16) (port : SPort) (s : State) : Res :=
  whileUp s (fun s =>
    let i := s.iface input.val port.val
    s.when (decide (0 < i.losses) && decide (i.nextReq ≤ s.tick))
      (fun s => s.setIface input.val port.val { i with nextReq := 0 }))

/-- The operation that holds the port in its span does not reach its break point: its hold has no end, and it does not
commit (02 R65, a requester fault; log 38). -/
def State.stick (s : State) (port input g : Nat) : State :=
  let s := s.mapFlights (fun f => if f.port == port && f.input == input && f.g == g then { f with stuck := true } else f)
  { s with arb := { s.arb with holds := SMap.set (fun _ => none) s.arb.holds port (some ⟨input, g, none⟩) } }

/-- ARB_WATCHDOG_FIRE (02 R65): an interface has held the port for 4,096 ticks without a break point. Its operation is
discarded and ends ABORTED, its queue stays, its losses are zero, the port is free from the next tick. No command makes a
requester fail: the first of these commands within an operation's span is the fault (log 38). -/
def State.wdogFire (s : State) (port : Nat) : State :=
  match SMap.get (fun _ => none) s.arb.holds port with
  | some ⟨input, g, some u⟩ => if s.tick < u then s.stick port input g else s
  | some ⟨input, g, none⟩ =>
    if s.tick < g + 4096 then s else
    let i := s.iface input port
    let s := s.setIface input port { i with losses := 0 }
    let s := { s with arb := { s.arb with holds := SMap.set (fun _ => none) s.arb.holds port none } }
    let s := match s.arb.flights.find? (fun f => f.port == port && f.input == input && f.g == g) with
      | some f => (s.dropFlight f).resolve f.op.origin { refusal f.op.table St.aborted with tick := s.tick }
      | none => s
    let s := s.setF ⟨0x10018, 0, 3⟩ port
    let s := s.setF ⟨0x10018, 4, 4⟩ input
    let s := s.setF ⟨0x10018, 8 + port, 1⟩ 1
    s.raise .arbWdog (port + input * 16) 0
  | _ => s

/-- ARB_WATCHDOG_FIRE. -/
def execArbWatchdogFire (port : SPort) (s : State) : Res := whileUp s (fun s => s.wdogFire port.val)

/-- FIX_APPLY (02 R63): every staged fixture register is copied into the active one. -/
def State.fixApply (s : State) : State :=
  (List.range 32).foldl (fun s n => s.setReg (0x10300 + 8 * n) (s.reg (0x10200 + 8 * n))) s

/-- FIX_APPLY: a write of 1 to ARB_CTRL.FIX_APPLY. DESIGN CHOICE (log 39): a staged register written in the same tick is
copied with its old value by this command, and with its new one by a REGISTER_WRITE of ARB_CTRL, which takes effect after
it; the manual says of neither. -/
def execFixApply (who : Who) (s : State) : Res :=
  whileUp s (fun s => s.when (s.mayBar0 who) State.fixApply)

/-- ARB_PORT_MASK_WRITE (02 R62, R64): inputs 0 to 7 have a fixed mask; a zero mask of inputs 8 to 14 is ignored. -/
def execArbPortMaskWrite (who : Who) (input : Fin 16) (mask : BitVec 8) (s : State) : Res :=
  whileUp s (fun s => s.when (s.mayBar0 who && decide (8 ≤ input.val) && (input.val == 15 || mask != 0))
    (fun s => s.setF ⟨0x10100 + 8 * input.val, 0, 8⟩ mask.toNat))

/-! ### Cascade (02 R50 to R54, 06 R199) -/

/-- ARB_CASCADE_STAT.DECLINED and PARTIAL_LOCAL. -/
abbrev fDeclined : F := ⟨0x10020, 32, 32⟩
abbrev fPartialLocal : F := ⟨0x10020, 0, 32⟩

/-- PAIR_OFFSET: the partner's tick count minus the local one, two's complement (01 R25). -/
def State.offset (s : State) : Int := (s.reg 0x3c0010).toInt

/-- A partner tick in local ticks (01 R25). -/
def State.localTick (s : State) (p : Nat) : Int := Int.ofNat p - s.offset

/-- The lanes that reservations take at tick `x`. -/
def State.resvLanes (s : State) (x : Nat) : Lanes :=
  s.arb.resvs.foldl (fun l r =>
    if r.first == x || (r.op.twoLanes && r.first + 1 == x) then l.take (s.opBlocks r.op) else l) {}

/-- The first port, ascending, that meets R51 for a cascade-in of `n` ticks from tick `x` (02 R51, R54). -/
def State.cascadePort (s : State) (blocks : BlockSet) (x n : Nat) : Option Nat :=
  lowest 8 (fun p =>
    (s.portMask 15).testBit p && (List.range n).all (fun i => s.owner p (x + i) == 15) && !s.resvIn p x n &&
    (s.resvLanes x).free blocks)

/-- Decline a cascade-in (02 R53): the reply says so, and DECLINED counts it. -/
def State.decline (s : State) (t0 : Nat) : State := (s.linkSend (.casDecline t0)).inc fDeclined

/-- PAIR_LINK_CNT.LATE (15 R518, R554). -/
abbrev fLate : F := ⟨0x3c0018, 32, 16⟩

/-- CAS_REQ (02 R51, R53, R54; 15 R532): the request is decoded at t27; t36 is reserved or the request declined. -/
def State.casReq (s : State) (m : CasMsg) : State :=
  let t27 := s.localTick m.t0 + 27
  let tb := s.tb m.table.val
  let s := if Int.ofNat s.tick > t27 then s.inc fLate else s
  if Int.ofNat s.tick > t27 || tb.state != 2 || Prof.pairMode tb.profile != 2 then s.decline m.t0
  else
    let x := (s.localTick m.t0 + 36).toNat
    let n := if m.enum then 9 else 1
    if s.paused m.table.val x then s.decline m.t0 else
    match s.cascadePort tb.placement x n with
    | none => s.decline m.t0
    | some p =>
      let act := if m.enum then Act.pass {} false m.floor 0 true else Act.search {} false false
      let op : ArrOp := { table := m.table.val, act := act, origin := .partner m.t0, cells := some m.keys }
      { s with arb := { s.arb with resvs := s.arb.resvs ++ [⟨p, x, n, 15, op⟩] } }

/-- CAS_REQ. -/
def execCasReq (m : CasMsg) (s : State) : Res := whileServing s (fun s => s.casReq m)

/-- The oldest cascaded flight that satisfies `p`. -/
def State.cascFlight (s : State) (p : Flight → Bool) : Option Flight := s.arb.flights.find? (fun f => f.cascaded && p f)

/-- Replace a flight. -/
def State.putFlight (s : State) (f f' : Flight) : State := s.mapFlights (fun x => if x = f then f' else x)

/-- CAS_REPLY (02 R50, 15 R532): the reply is received at t77, checked, and held for the merge; a reply at any other
tick, or one that fails its check, is no valid reply (R53). -/
def State.casReply (s : State) (r : CasRep) : State :=
  match s.cascFlight (fun f => f.g + 77 == s.tick && f.reply.isNone && !f.declined &&
      (match f.op.act with | .search .. => true | _ => false)) with
  | some f => if r.intact then s.putFlight f { f with reply := some r } else s
  | none => if (s.cascFlight (fun f => decide (f.g + 77 < s.tick) && f.reply.isNone)).isSome then s.inc fLate else s

/-- CAS_REPLY. -/
def execCasReply (r : CasRep) (s : State) : Res := whileUp s (fun s => s.casReply r)

/-- CAS_DECLINE (02 R53, 06 R211): the cascaded search or pass whose request carried the local tick `t0`, the first of these
that waits, learns that no reply will come (log 11). -/
def State.casDecline (s : State) (t0 : Nat) : State :=
  match s.cascFlight (fun f => f.g == t0 && f.reply.isNone && !f.declined) with
  | some f => s.putFlight f { f with declined := true }
  | none => s

/-- CAS_DECLINE. -/
def execCasDecline (t0 : Nat) (s : State) : Res := whileUp s (fun s => s.casDecline t0)

/-- The merge of t78 (06 R199): the lower rank wins; counts are summed, saturating. -/
def mergeCascade (l : Outc) (r : CasRep) : Outc :=
  let rank (p h : Nat) : Nat := p * 2 ^ 22 + h
  let sum := min (l.count + r.count.toNat) 65535
  let partnerWins := r.hit && (!l.hit || decide (rank r.prio.toNat r.handle.toNat < rank l.prio l.handle))
  if partnerWins then
    { l with status := r.status.toNat, handle := r.handle.toNat, prio := r.prio.toNat, res := r.res, hit := true,
             partner := true, count := sum, multi := decide (2 ≤ sum) }
  else if l.hit then { l with count := sum, multi := decide (2 ≤ sum) }
  else { l with status := St.noMatch, count := sum, multi := decide (2 ≤ sum) }

/-- CASCADE_MERGE (02 R50, R53; 06 R199): at t79 the merged record is delivered, or the local best as PARTIAL. A search
refused at t1 delivers its refusal (04 R659). -/
def State.cascadeMerge (s : State) (port : Nat) : State :=
  match s.cascFlight (fun f => f.port == port && !f.stuck && decide (f.g + 79 ≤ s.tick) &&
      (match f.op.act with | .search .. => true | _ => false)) with
  | none => s
  | some f =>
    let l := f.localOutc
    let s := s.dropFlight f
    if f.refused.isSome then s.resolve f.op.origin l else
    match f.reply with
    | some r => s.resolve f.op.origin (mergeCascade l r)
    | none =>
      let s := s.inc fPartialLocal
      s.resolve f.op.origin (if l.status = St.poisoned then l else { l with status := St.partial_ })

/-- CASCADE_MERGE. -/
def execCascadeMerge (port : SPort) (s : State) : Res := whileUp s (fun s => s.cascadeMerge port.val)

/-- t2 of a cascaded search or pass: the request is framed while the partner is reachable (02 R50). -/
def State.frameCascade (s : State) (x : Nat) : State :=
  s.arb.flights.foldl (fun s f =>
    if f.g + 2 == x && f.op.isSearch && Prof.pairMode (s.tb f.op.table).profile == 2 && f.input != 15 &&
       (match f.op.act with | .pass _ _ _ q _ => !(s.qp q).part | _ => true) then
      let s := s.putFlight f { f with cascaded := true }
      match f.keys with
      | some k =>
        if s.pst = .paired then
          s.linkSend (.casReq ⟨Fin.ofNat 256 f.op.table, f.g, (match f.op.act with | .pass .. => true | _ => false),
            (match f.op.act with | .pass _ _ fl _ _ => fl | _ => none), k⟩)
        else s
      | none => s
    else s) s

end Sys2Proof.Machine
end

