-- ==== Sys2Proof/Machine/OwnerCmd.lean ====
section
/-! DEFINITION. Owner commands: authority, completion, and the capacity they take (17 R602, 18 R626 to R631, 04 R141). -/

namespace Sys2Proof.Machine

/-- LC_STATUS.STATE and LOCK (17 R587, R591). -/
abbrev fLcState : F := ⟨0x800, 0, 3⟩
abbrev fLcLock : F := ⟨0x800, 3, 1⟩

/-- A firmware owner command has ended: its status, its commit tick, zero when it has none, and its result wait for
completion (18 R626); the next command may run (R627). -/
def State.ownerEnd (s : State) (via : OwnerPath) (code status : Nat) (result : List Byte := [])
    (commit : Option Nat := none) : State :=
  let e : OwnerRes := ⟨via, code, status, if status = St.success then commit.getD s.tick else 0, result⟩
  { s with mbox := { s.mbox with done := s.mbox.done ++ [e], running := none } }

/-- R602: in OPERATIONAL and SERVICE, a command on the mailbox while the life-cycle lock is clear, or inside an owner
session, is accepted; every other owner command ends PRIVILEGE. -/
def State.ownerOk (s : State) (via : OwnerPath) : Bool :=
  (s.f fLcState == 2 || s.f fLcState == 3) &&
  match via with
  | .mailbox _ => s.f fLcLock == 0
  | .fmApi session => session

/-- BOOT_STAT.PHASE and FAIL_CODE (17 R597, R599). -/
abbrev fPhase : F := ⟨0x810, 0, 3⟩
abbrev fFailCode : F := ⟨0x810, 56, 8⟩

/-- Firmware runs and accepts owner commands (01 R38, 17 R597 phase READY); until then they wait. -/
def State.fwReady (s : State) : Bool := s.ras.mpRunning && s.f fPhase == 4

/-- Firmware can take up an owner command: it executes one at a time (18 R627). -/
def State.fwFree (s : State) : Bool := s.fwReady && s.mbox.running.isNone

/-- Execute an owner command: firmware runs it (18 R627, 01 R38), R602 is examined first (R628), then `bad` gives the
status of the first check that fails; otherwise `eff` is its effect, ended with SUCCESS. -/
def State.owner1 (s : State) (via : OwnerPath) (code : Nat) (bad : Option Nat) (eff : State → State) : State :=
  if !s.fwFree then s
  else if !s.ownerOk via then s.ownerEnd via code St.privilege
  else match bad with
    | some st => s.ownerEnd via code st
    | none => (eff s).ownerEnd via code St.success

/-- A command whose effect has not ended it runs on (18 R627). -/
def State.runsLong (s t : State) (via : OwnerPath) : State :=
  if t.mbox.done.length = s.mbox.done.length then { t with mbox := { t.mbox with running := some via } } else t

/-- As `owner1`, for a command whose effect runs long or ends with a result of its own: `eff` ends it. -/
def State.ownerLong (s : State) (via : OwnerPath) (code : Nat) (bad : Option Nat) (eff : State → State) : State :=
  if !s.fwFree then s
  else if !s.ownerOk via then s.ownerEnd via code St.privilege
  else match bad with
    | some st => s.ownerEnd via code st
    | none => s.runsLong (eff s) via

/-- The status of the first check that fails: a list of (failed, status). -/
def firstBad (cs : List (Bool × Nat)) : Option Nat := (cs.find? (fun c => c.1)).map (fun c => c.2)

/-! ### Capacity (04 R123, R127, R131, R141) -/

/-- TBL_BLOCK_FREE as one set. -/
def State.blockFree (s : State) : BlockSet := s.reg 0x4c008 ++ s.reg 0x4c000
/-- Store TBL_BLOCK_FREE. -/
def State.setBlockFree (s : State) (b : BlockSet) : State :=
  (s.setReg 0x4c000 (b.extractLsb' 0 64)).setReg 0x4c008 (b.extractLsb' 64 64)
/-- TBL_HMAP_FREE as one set. -/
def State.hmapFree (s : State) : BlockSet := s.reg 0x4c018 ++ s.reg 0x4c010
/-- Store TBL_HMAP_FREE. -/
def State.setHmapFree (s : State) (b : BlockSet) : State :=
  (s.setReg 0x4c010 (b.extractLsb' 0 64)).setReg 0x4c018 (b.extractLsb' 64 64)
/-- TBL_CAP.PREFIX_FREE. -/
abbrev fPrefixFree : F := ⟨0x4c020, 32, 21⟩

/-- The lowest run of `len` free units below `n` (04 R127, R131). -/
def lowestRun (n len : Nat) (free : Nat → Bool) : Option Nat :=
  lowest (n + 1 - len) (fun b => (List.range len).all (fun i => free (b + i)))

/-- The set of `len` units from `base`. -/
def runSet (w base len : Nat) : BitVec w := (BitVec.ofNat w (2 ^ len - 1)) <<< base

/-- The longest run of free units below `n`. -/
def longestRun (n : Nat) (free : Nat → Bool) : Nat :=
  ((List.range n).foldl (fun (p : Nat × Nat) i => if free i then (p.1 + 1, max p.2 (p.1 + 1)) else (0, p.2)) (0, 0)).2

/-- Take or return direct SRAM units, and show TBL_CAP.DIRECT_FREE and DIRECT_RUN (04 R141). -/
def State.setUnits (s : State) (taken : BitVec 1024) : State :=
  let s := { s with dsram := { s.dsram with taken := taken } }
  let s := s.setF ⟨0x4c020, 0, 11⟩ (1024 - ones taken)
  s.setF ⟨0x4c020, 16, 11⟩ (longestRun 1024 (fun i => !taken.getLsbD i))

/-- An LD has an HDM-DB region: a committed decoder with BI set (10 R347, 04 R104). -/
def Ld.hasDb (l : Ld) : Bool :=
  l.decoders.any (fun e => e.2.committed && (match e.2.set with | some d => d.bi | none => false))

end Sys2Proof.Machine
end

