-- ==== Sys2Proof/Machine/Mem.lean ====
section
/-! DEFINITION. The memory path: DRAM mapping and queues (13), frames (12 R427, 17 R596), the placement stage (12), the
block coder (12 R422 to R426). -/

namespace Sys2Proof.Machine

/-! ### DRAM geometry (13 R456 to R464) -/

/-- DRG_MAP fields. -/
abbrev fMapValid : F := ⟨0x2f0000, 63, 1⟩
abbrev fMapErr : F := ⟨0x2f0000, 62, 1⟩
abbrev fRawBase : F := ⟨0x2f0000, 12, 31⟩
abbrev fRankBits : F := ⟨0x2f0000, 10, 2⟩
abbrev fRowBits : F := ⟨0x2f0000, 5, 5⟩
/-- DRG_RETIRE fields. -/
abbrev fRState : F := ⟨0x2f0080, 62, 2⟩
abbrev fRChan : F := ⟨0x2f0080, 32, 4⟩
abbrev fRBound : F := ⟨0x2f0080, 0, 32⟩

/-- Bytes of a channel (R456). -/
def State.chanBytes (s : State) : Nat := 2 ^ (19 + s.f fRowBits + s.f fRankBits)
/-- DRAM address of media address 0 (R456). -/
def State.rawBase (s : State) : Nat := 4096 * s.f fRawBase
/-- The number of frames N of the raw data space (12 R443). -/
def State.nFrames (s : State) : Nat := (12 * s.chanBytes - s.rawBase) / 4096
/-- Granules per channel P and withdrawn granules per channel K (R462). -/
def State.granules (s : State) : Nat := 2 ^ (11 + s.f fRowBits + s.f fRankBits)
def State.withdrawnK (s : State) : Nat := (s.granules + 11) / 12

/-- Parity of the ones of a number below 2^64. -/
def parity (n : Nat) : Nat := ones (BitVec.ofNat 64 n) % 2

/-- Where a line lies: channel, sub-channel, rank, bank (BG × 4 + BA), row, column, and the channel-local address. -/
structure Place where
  chan : Nat
  sub : Nat
  rank : Nat
  bank : Nat
  row : Nat
  col : Nat
  loc : Nat
  deriving DecidableEq, Repr

/-- The fields of channel-local address `c` on channel `ch` (R459). -/
def State.fieldsOf (s : State) (ch c : Nat) : Place :=
  let h (k : Nat) : Nat := parity (c &&& fld (s.reg (0x2f0020 + 8 * k)) 0 40)
  { chan := ch, sub := h 0, bank := (h 1 + 2 * h 2 + 4 * h 3) * 4 + (h 4 + 2 * h 5), row := c / 2 ^ 19 % 2 ^ s.f fRowBits,
    rank := c / 2 ^ (19 + s.f fRowBits) % 2 ^ s.f fRankBits, col := (c / 2 ^ 14 % 32) * 4 + c / 64 % 4, loc := c }

/-- The stand-in of granule (x, L) (R462). -/
def State.standIn (s : State) (x l : Nat) : Nat × Nat :=
  let ss := (List.range 12).filter (fun c => c != x)
  (ss.getD (l % 11) 0, s.granules - s.withdrawnK + l / 11)

/-- The channel and the channel-local granule of DRAM address `a` (R458). -/
def State.rawChan (s : State) (a : Nat) : Nat × Nat :=
  let g := a / 256
  let t := g % 3
  let r := g / 3
  let chx (k : Nat) : Nat := parity (r &&& fld (s.reg (0x2f0008 + 8 * k)) 0 33)
  (4 * t + Nat.xor (r % 4) (2 * chx 1 + chx 0), r / 4)

/-- The place of DRAM address `a` (R458, R459), with the redirection of a retired channel (R463). -/
def State.dramPlace (s : State) (a : Nat) : Place :=
  let (ch, l) := s.rawChan a
  let st := s.f fRState
  if (st == 2 || st == 3) && ch == s.f fRChan && decide (l < s.f fRBound) then
    let (c', l') := s.standIn ch l
    s.fieldsOf c' (l' * 256 + a % 256)
  else s.fieldsOf ch (l * 256 + a % 256)

/-! ### Queues of the channels (13 R465 to R467, R481 to R486) -/

/-- e of R482 for LD `n`, and g = ⌊224 e / 256⌋. -/
def State.gLd (s : State) (n : Nat) : Nat := 224 * fld (s.reg (0x2f0200 + 8 * n)) 24 8 / 256

/-- U and S (R481, R483). DRG_QOS_STAT. -/
abbrev fU : F := ⟨0x2f0108, 16, 16⟩
abbrev fS : F := ⟨0x2f0108, 32, 16⟩
abbrev fUnder : F := ⟨0x2f0108, 48, 1⟩

/-- An effective minimum (R482). -/
def effMin (m sum u : Nat) : Nat := if sum ≤ u then m else m * u / sum

/-- g of a requester: an LD 0 to 31, 32 SCAN, 33 MAINT. -/
def State.gOf (s : State) (j : Nat) : Nat :=
  if j < 32 then s.gLd j
  else 224 * effMin (fld (s.reg 0x2f0100) (if j = 32 then 0 else 8) 8) (s.f fS) (s.f fU) / 256

/-- The requester of a general read: its LD, SCAN or MAINT. -/
def DReq.who (r : DReq) : Nat := if r.cls = 3 then 32 else if r.cls = 4 then 33 else r.ld

/-- Whether a request may take a queue entry of its channel now (R466, R482). -/
def State.mayEnter (s : State) (r : DReq) : Bool :=
  let q := s.dram.queue.filter (fun x => x.chan == r.chan && decide (1 ≤ x.stage) && x.write == r.write)
  if r.write then
    let shp := (q.filter (fun x => decide (x.cls ≤ 1))).length
    if r.cls ≤ 1 then decide (q.length < 64) else decide (q.length + (8 - min 8 shp) < 64)
  else
    let own := (q.filter (fun x => x.cls == r.cls)).length
    let general := (q.filter (fun x => decide (2 ≤ x.cls))).length
    if r.cls = 0 && own < 16 then true
    else if r.cls = 1 && own < 16 then true
    else if r.cls ≤ 1 then false
    else
      let held (j : Nat) : Nat := (q.filter (fun x => decide (2 ≤ x.cls) && x.who == j)).length
      let free := 224 - general
      let need := (List.range 34).foldl (fun n k => if k == r.who then n else n + (s.gOf k - held k)) 0
      let cap := if r.cls = 2 then fld (s.reg (0x2f0200 + 8 * r.ld)) 16 8 else 0
      decide (0 < free) && (decide (held r.who < s.gOf r.who) || decide (need < free)) &&
      (cap == 0 || decide (held r.who < max 1 (224 * cap / 256)))

/-- Let waiting requests take entries, in arrival order. -/
def State.enterAll (s : State) : State :=
  s.dram.queue.foldl (fun s r =>
    if r.stage == 0 && s.mayEnter r then
      { s with dram := { s.dram with queue := s.dram.queue.map (fun x => if x = r then { x with stage := 1 } else x) } }
    else s) s

/-- The line has a queued write. -/
def State.writeQueued (s : State) (dpa : Nat) : Bool :=
  s.dram.queue.any (fun x => x.write && x.dpa / 64 == dpa / 64 && decide (x.stage < 2))

/-- Put a request into the queues. A write to a line with a queued write replaces its data in place, and a read takes
its data from that write and does not reach DRAM (R467). -/
def State.dramPush (s : State) (r : DReq) : State :=
  if s.writeQueued r.dpa then s
  else
    let ahead := s.dram.queue.any (fun x => x.stage == 0 && x.chan == r.chan && x.write == r.write && x.cls == r.cls &&
      (x.write || x.who == r.who))
    let r := if !ahead && s.mayEnter r then { r with stage := 1 } else r
    { s with dram := { s.dram with queue := s.dram.queue ++ [r] } }

/-- DevLoad of a response to LD `n` served by channel `ch` (10 R362, 13 R486). -/
def State.devLoad (s : State) (n : Nat) (ch : Option Nat) : Nat :=
  let g := s.gLd n
  let o := match ch with
    | none => 0
    | some c =>
      let q := s.dram.queue.filter (fun x => x.chan == c && !x.write && decide (1 ≤ x.stage) && decide (2 ≤ x.cls))
      if g = 0 then 100 * q.length / 224 else 100 * (q.filter (fun x => x.cls == 2 && x.ld == n)).length / g
  let r := s.reg 0x300400
  let q := if o < fld r 0 8 then 0 else if o < fld r 8 8 then 1 else if o < fld r 16 8 then 2 else 3
  max q (s.f ⟨0x300408, 0, 2⟩)

/-! ### Frames (12 R427, R428; 17 R596) -/

/-- Frame `f`. -/
def State.frame (s : State) (f : Nat) : Frame := SMap.get (fun _ => {}) s.tier.frames f
/-- Replace frame `f`. -/
def State.setFrame (s : State) (f : Nat) (x : Frame) : State :=
  { s with tier := { s.tier with frames := SMap.set (fun _ => {}) s.tier.frames f x } }

/-- Frame `f` is withdrawn from the free pool (13 R463, 14 R507). -/
def State.isOut (s : State) (f : Nat) : Bool := s.tier.outs.any (fun r => decide (r.1 ≤ f) && decide (f < r.2))

/-- The number of withdrawn frames from frame `z` on: ranges overlap only in pairs, a rank's and a retired channel's. -/
def State.outCount (s : State) (z : Nat) : Nat :=
  let o := s.tier.outs.map (fun r => (max r.1 z, max r.2 z))
  (o.foldl (fun n r => n + (r.2 - r.1)) 0) -
    (o.foldl (fun n r => o.foldl (fun n q => if r.1 < q.1 then n + (min r.2 q.2 - q.1) else n) n) 0)

/-- FREE_FRAMES F (12 R427, R443): frames neither used, nor split, nor withdrawn. -/
def State.freeFrames (s : State) : Nat :=
  s.nFrames - s.outCount 0 - (s.tier.frames.filter (fun e => e.2.use != 0 && !s.isOut e.1)).length

/-- RESERVE_PERMILLE as it acts (12 R455), and Rf (R443). -/
def State.rf (s : State) : Nat :=
  s.nFrames * (min 200 (max 10 (fld (s.reg 0x380008) 32 10))) / 1000

/-- The lowest number at or above `n` that no entry lists. -/
def firstGap (n : Nat) : SMap Frame → Nat
  | [] => n
  | (k, _) :: m => if k = n then firstGap (n + 1) m else if k < n then firstGap n m else n

/-- The lowest frame in the free pool, at or above `n`, that no entry lists. -/
def State.gapFrom (s : State) (n : Nat) : Option Nat :=
  ((n :: (s.tier.outs.map (fun r => r.2)).filter (fun e => decide (n ≤ e))).map (fun a => firstGap a s.tier.frames)).foldl
    (fun best g => if s.isOut g || decide (s.nFrames ≤ g) then best else match best with
      | some b => some (min b g)
      | none => some g) none

/-- The lowest zeroed free frame (17 R596). -/
def State.zeroedFrame (s : State) : Option Nat :=
  let rest := (s.tier.zeroed.find? (fun e => s.frame e.1 == {} && decide (e.1 < s.nFrames) && !s.isOut e.1)).map (fun e => e.1)
  match s.gapFrom 0 with
  | some g => if g < s.tier.zeroPos then some g else rest
  | none => rest

/-- Take the lowest zeroed free frame whole: its number. -/
def State.takeFrame (s : State) : Option (Nat × State) :=
  match s.zeroedFrame with
  | some f => some (f, (s.setFrame f { use := 1, used := 15 }) |> fun s =>
      { s with tier := { s.tier with zeroed := setFlag s.tier.zeroed f false } })
  | none => none

/-- Take a part of size class `n` (2 halves, 4 quarters): its first 1 KiB unit (12 R428). -/
def State.takePart (s : State) (n : Nat) : Option (Nat × State) :=
  let ok (x : Frame) (i : Nat) : Bool := !x.used.getLsbD i && !x.unz.getLsbD i
  match s.tier.frames.find? (fun e => e.2.use == n && !s.isOut e.1 && (List.range n).any (ok e.2)) with
  | some (f, x) =>
    match (List.range n).find? (ok x) with
    | some i => some (4 * f + i * (4 / n), s.setFrame f { x with used := x.used ||| (1 <<< i) })
    | none => none
  | none => match s.zeroedFrame with
    | some f => some (4 * f, { s.setFrame f { use := n, used := 1 } with
        tier := { (s.setFrame f { use := n, used := 1 }).tier with zeroed := setFlag s.tier.zeroed f false } })
    | none => none

/-- Free a frame or part by its first unit and size class (1 whole, 2, 4): it enters the zeroing queue, and a split
frame whose last part is freed becomes free (12 R427, 17 R596). -/
def State.freeUnit (s : State) (unit n : Nat) : State :=
  let f := unit / 4
  let x := s.frame f
  let i := (unit % 4) / (4 / n)
  let used := x.used &&& ~~~((1 : BitVec 4) <<< i)
  if n = 1 || used = 0 then
    let s := s.setFrame f { use := 0, used := 0, unz := 15 }
    { s with tier := { s.tier with zeroQ := s.tier.zeroQ.filter (fun e => e.1 != f) ++ [(f, 0, 1)] } }
  else
    let s := s.setFrame f { x with used := used, unz := x.unz ||| (1 <<< i) }
    { s with tier := { s.tier with zeroQ := s.tier.zeroQ ++ [(f, i, n)] } }

/-- The size class of a page's frame: 1 whole, 2 half, 4 quarter; 0 for none. -/
def Page.cls (p : Page) : Nat := if p.st = 1 then 1 else if p.st = 2 then 2 else if p.st = 3 then 4 else 0

/-- Free the frame of a page descriptor. -/
def State.freePageFrame (s : State) (p : Page) : State :=
  if p.cls = 0 then s else s.freeUnit p.frame p.cls

/-- The frame of a page descriptor is freed at the next tick (R432 step 4, R435). -/
def State.leaveFrame (s : State) (p : Page) : State :=
  if p.cls = 0 then s else { s with tier := { s.tier with leaving := s.tier.leaving ++ [(p.frame, p.cls)] } }

/-- The frames that the last tick left are freed. -/
def State.freeLeft (s : State) : State :=
  s.tier.leaving.foldl (fun (s : State) e => s.freeUnit e.1 e.2) { s with tier := { s.tier with leaving := [] } }

/-! ### Page descriptors and regions (12 R415 to R418; 08 R282, R283) -/

/-- The descriptor of page `q` in the page map. -/
def State.page (s : State) (q : Nat) : Page := SMap.get (fun _ => {}) s.tier.pages q
/-- Whether a prefix of `len` bits at the top of a `kb`-bit key covers key `k` (08 R276). -/
def pfxCovers (kb : Nat) (pfx len k : Nat) : Bool := decide (len ≤ kb) && pfx / 2 ^ (kb - len) == k / 2 ^ (kb - len)

/-- The trie's admission slots of this tick that are taken, at most 8 (08 R264): by the placement stage, and by lookups. -/
def State.trieSlots (s : State) : Nat :=
  (if s.trie.placedAt = s.tick then s.trie.placed else 0) + (s.trie.flights.filter (fun f => f.t0 == s.tick)).length

/-- A lookup of the placement stage takes a slot of this tick (08 R264). -/
def State.takeSlot (s : State) : State :=
  let n := if s.trie.placedAt = s.tick then s.trie.placed else 0
  { s with trie := { s.trie with placed := n + 1, placedAt := s.tick } }

/-- Accesses that a bank of direct SRAM has performed in this tick, at most 4 (08 R265). -/
def State.bankUse (s : State) (bank : Nat) : Nat :=
  if s.dsram.servedAt = s.tick then (s.dsram.served.filter (· == bank)).length else 0

/-- A bank performs an access in this tick. -/
def State.useBank (s : State) (bank : Nat) : State :=
  let old := if s.dsram.servedAt = s.tick then s.dsram.served else []
  { s with dsram := { s.dsram with served := old ++ [bank], servedAt := s.tick } }

/-- The longest installed prefix that covers a key (08 R271). -/
def lpm (kb : Nat) (ps : List (BitVec 128 × Nat × Word)) (k : Nat) : Option (BitVec 128 × Nat × Word) :=
  ps.foldl (fun best p =>
    if pfxCovers kb p.1.toNat p.2.1 k then
      match best with
      | some b => if b.2.1 ≤ p.2.1 then some p else best
      | none => some p
    else best) none

/-- The placement of page `q` by table 254 (08 R282): TYPE, and BASE + p. -/
def State.region (s : State) (q : Nat) : Option (Nat × Nat) :=
  match lpm 32 (s.tb 254).prefixes q with
  | some (pfx, _, res) => some (fld res 62 2, fld res 0 32 + (q - pfx.toNat))
  | none => none

/-- The number of page `q`'s descriptor: the order of the page map (R415). -/
def State.mapIdx (s : State) (q : Nat) : Option Nat :=
  match s.region q with
  | some (2, n) => some n
  | _ => none

/-- An access of the page map, of the shadow or of a frame that is zeroed: no DPA names it, and `dpa` shows its DRAM address beyond them all. -/
def State.rawReq (s : State) (a : Nat) (write : Bool) (cls : Nat) : DReq :=
  let pl := s.dramPlace a
  { chan := pl.chan, rank := pl.rank, bank := pl.bank, sub := pl.sub, row := pl.row, dpa := 2 ^ 44 + a / 64 * 64, write := write,
    cls := cls, ld := 0, arrive := s.tick }
/-- The DRAM address of the page-map line of descriptor `n`: the map follows the shadow (log 17). -/
def mapLine (n : Nat) : Nat := 201326592 + n / 8 * 64

/-- The way of page `q`, if it is cached, is dirty: only HEAT has changed (R419). -/
def State.cacheDirty (s : State) (q : Nat) : State :=
  { s with tier := { s.tier with cache := s.tier.cache.map (fun e => if e.1 = q then (q, true) else e) } }

/-- Replace the descriptor of page `q`. A change of another field than HEAT is written to the page map at once (R419), in class
MAINT (log 44). -/
def State.setPage (s : State) (q : Nat) (p : Page) : State :=
  let old := s.page q
  let s := { s with tier := { s.tier with pages := SMap.set (fun _ => {}) s.tier.pages q p } }
  if old = p then s
  else if { old with heat := p.heat } = p then s.cacheDirty q
  else match s.mapIdx q with
  | some n => s.dramPush (s.rawReq (mapLine n) true 4)
  | none => s

/-- The DPA lies in a PAGED or UNIFORM region. -/
def State.placed (s : State) (q : Nat) : Bool :=
  match s.region q with
  | some (t, _) => t == 1 || t == 2
  | none => false

/-- The descriptor in force for page `q`: of a UNIFORM region as R417 derives it; of a MIGRATING page its source's. -/
def State.pageNow (s : State) (q : Nat) : Page :=
  match s.region q with
  | some (1, b) => { st := 1, frame := 4 * b }
  | _ =>
    let p := s.page q
    if p.st = 4 then
      match SMap.get (fun _ => none) s.tier.slots (p.frame % 256) with
      | some m => m.src
      | none => p
    else p

/-- The LDs that map a DPA (10 R339) and whose LD map entry is valid (08 R289). -/
def State.ldsOf (s : State) (dpa : Nat) : List Nat :=
  (List.range 32).filter (fun n => s.ldValid n && ((s.ld n).offsetOf dpa).isSome)

/-- The domain of a page is the domain of every LD that maps it (12 R420). -/
def State.domainOf (s : State) (dpa : Nat) : Option Nat := (s.ldsOf dpa).head?.map s.ldDomain

/-- The page test of R305 (09): a page belongs to domain `d`. -/
def State.pageOf (s : State) (d q : Nat) : Bool :=
  !(s.ldsOf (4096 * q)).isEmpty && (s.ldsOf (4096 * q)).all (fun n => s.ldDomain n == d)

/-! ### The block coder (12 R422 to R426) -/

/-- The 32 words of the block that holds byte `a`. -/
def blockWords (m : List Host.Cell) (a : Nat) : List Nat :=
  (List.range 32).map (fun i => ofBytes (Mem.read m (a / 256 * 256 + 8 * i) 8))

/-- The size S of a coded block (R422, R423): 0 for ZERO, none when the block fits no class. -/
def blockSize (xs : List Nat) : Option Nat :=
  match xs.filter (fun x => x != 0) with
  | [] => some 0
  | b :: ds =>
    let fits (w : Nat) : Bool := ds.all (fun d =>
      let e : Int := (BitVec.ofNat 64 (d + 2 ^ 64 - b)).toInt
      if w = 0 then e == 0 else decide (-(2 ^ (w - 1) : Int) ≤ e) && decide (e < (2 ^ (w - 1) : Int)))
    match [0, 8, 16, 32].find? fits with
    | some w => some (14 + ds.length * w / 8)
    | none => none

/-- The code of a block (R423); none for a ZERO block and one that fits no class. -/
def blockCode (xs : List Nat) : Option (List Byte) :=
  match xs.zipIdx.filter (fun x => x.1 != 0), blockSize xs with
  | (b, i0) :: ds, some n =>
    let w := if ds.isEmpty then 0 else (n - 14) / ds.length      -- bytes of a delta
    let header := (if w = 4 then 3 else w) + 4 * i0
    let zbits := xs.zipIdx.foldl (fun z x => if x.1 = 0 then z + 2 ^ x.2 else z) 0
    some (leBytes 2 header ++ leBytes 4 zbits ++ leBytes 8 b ++
      ds.flatMap (fun d => leBytes w ((d.1 + 2 ^ 64 - b) % 2 ^ 64 % 2 ^ (8 * w))))
  | _, _ => none

/-- The 32 words that a code stands for (R423). None where a reserved header bit is set, BASE_IDX names a zero word, or is not
the lowest clear bit of ZBITS (R426). -/
def decodeBlock (c : List Byte) : Option (List Nat) :=
  let header := le c 0 2
  let zbits := le c 2 4
  let b := le c 6 8
  let w := [0, 1, 2, 4].getD (header % 4) 0
  let i0 := header / 4 % 32
  if 128 ≤ header || zbits.testBit i0 || lowest 32 (fun i => !zbits.testBit i) != some i0 then none
  else
    let rest := (List.range 32).filter (fun i => i != i0 && !zbits.testBit i)
    let delta (k : Nat) : Nat := ((BitVec.ofNat (8 * w) (le c (14 + k * w) w)).signExtend 64).toNat
    some ((List.range 32).map (fun i =>
      if zbits.testBit i then 0 else if i = i0 then b else (b + delta (rest.idxOf i)) % 2 ^ 64))

/-- Whether the block at `a` fits a slot of `n` bytes (R424, R425). -/
def blockFits (m : List Host.Cell) (a n : Nat) : Bool :=
  match blockSize (blockWords m a) with
  | some k => decide (k ≤ n)
  | none => false

/-- The ZMAP bits of a page: its ZERO blocks (R415). -/
def zmapOf (m : List Host.Cell) (q : Nat) : BitVec 16 :=
  (List.range 16).foldl (fun (z : BitVec 16) b =>
    if blockSize (blockWords m (4096 * q + 256 * b)) = some 0 then z ||| (1 <<< b) else z) 0

/-! ### Poison and lost data (01 R30, 10 R368, 12 R448, 16 R558) -/

/-- Record a line in the poison list of every LD that maps it, at most 256 each (10 R368). -/
def State.recordPoison (s : State) (dpa : Nat) : State :=
  (s.ldsOf dpa).foldl (fun s n =>
    match (s.ld n).offsetOf (dpa / 64 * 64) with
    | some o => s.updLd n (fun l =>
        if l.poison.contains o then l
        else if l.poison.length < 256 then { l with poison := l.poison ++ [o] }
        else { l with poisonOvf := some s.tick })
    | none => s) s

/-- A full-line write or Clear Poison removes the record (10 R368). -/
def State.dropPoison (s : State) (dpa : Nat) : State :=
  (s.ldsOf dpa).foldl (fun s n =>
    match (s.ld n).offsetOf (dpa / 64 * 64) with
    | some o => s.updLd n (fun l => { l with poison := l.poison.filter (fun x => x != o) })
    | none => s) s

/-- A line becomes poisoned: its mark is set and it is recorded (01 R30, 16 R558). -/
def State.poisonLine (s : State) (dpa : Nat) : State := (s.setPoison dpa true).recordPoison dpa

/-- TIER_CNT fields (12 R455): register j, low bit. -/
abbrev fTierCnt (j lo : Nat) : F := ⟨0x380020 + 8 * j, lo, 32⟩
/-- TIER_STAT.LEVEL. -/
abbrev fLevel : F := ⟨0x380010, 62, 2⟩
/-- TIER_LR.LR_USED and LR_LINES. -/
abbrev fLrUsed : F := ⟨0x380018, 32, 17⟩
abbrev fLrLines : F := ⟨0x380018, 0, 17⟩

/-- A lost write (12 R448). -/
def State.loseWrite (s : State) (dpa : Nat) : State :=
  ((s.poisonLine dpa).inc (fTierCnt 3 0)).raise .tierWriteLost 0 (dpa / 64 * 64)

/-! ### Heat (12 R438) -/

/-- TIER_DOM of domain `d`. -/
def State.tierDom (s : State) (d : Nat) : Word := s.reg (0x381000 + 8 * d)

/-- The lowest free migration slot. -/
def State.freeSlot (s : State) : Option Nat :=
  lowest 256 (fun i => (SMap.get (fun _ => none) s.tier.slots i).isNone)

/-- Start a migration of page `q` to a target descriptor (12 R435). -/
def State.startMig (s : State) (q kind : Nat) (tgt : Page) : State :=
  match s.freeSlot with
  | some i =>
    let src := s.page q
    let s := s.setPage q { src with st := 4, zmap := 0, frame := i }
    { s with tier := { s.tier with slots := SMap.set (fun _ => none) s.tier.slots i (some ⟨q, src, tgt, kind, s.tick⟩) } }
  | none => s

/-- Whether a newly written page of `q`'s domain takes NEWKEY (12 R453 step 2). -/
def State.newkeyFor (s : State) (q : Nat) : Bool :=
  match s.tier.rot with
  | some r => s.domainOf (4096 * q) == some r.dom
  | none => false

/-- A hot or pin promotion of a compressed page to RAW (12 R439, R444): none at WARN or above. -/
def State.hotPromote (s : State) (q : Nat) : State :=
  let p := s.page q
  if (p.st != 2 && p.st != 3) || decide (2 ≤ s.f fLevel) || s.tier.noRetry.contains q || s.freeSlot.isNone ||
      s.tier.promos.any (fun m => m.page == q) || !s.tier.lrLines.isEmpty then s else
  match s.takeFrame with
  | some (f, s) => s.startMig q 1 { p with st := 1, frame := 4 * f, zmap := 0, newkey := s.newkeyFor q }
  | none => s

/-- One sampled access of a page of a PAGED region (12 R438, R439). -/
def State.touch (s : State) (q : Nat) : State :=
  match s.region q with
  | some (2, _) =>
    let l := s.tier.lfsr
    let l' := if l.getLsbD 0 then (l >>> 1) ^^^ 0xB400 else l >>> 1
    let s := { s with tier := { s.tier with lfsr := l' } }
    if l'.toNat % 2 ^ fld (s.reg 0x380008) 8 4 = 0 then
      let p := s.page q
      let h := min 15 (p.heat + 1)
      let s := s.setPage q { p with heat := h }
      if (p.st == 2 || p.st == 3) && h == fld (s.tierDom ((s.domainOf (4096 * q)).getD 0)) 4 4 then s.hotPromote q else s
    else s
  | _ => s

/-! ### The placement cache (12 R419, R420) -/

/-- Protected ways of a domain. -/
def State.resWays (s : State) (d : Nat) : Nat := min 8 (fld (s.reg (0x380100 + 8 * (d / 16))) (4 * (d % 16)) 4)

/-- The set of page `q`. -/
def cacheSet (q : Nat) : Nat := Nat.xor (q % 65536) (q / 65536 % 65536)

/-- PLC_CNT.MISSES and WRITEBACKS. -/
abbrev fMisses : F := ⟨0x380000, 32, 32⟩
abbrev fWritebacks : F := ⟨0x380000, 0, 32⟩

/-- Whether the descriptor of page `q` is cached. -/
def State.cached (s : State) (q : Nat) : Bool := s.tier.cache.any (fun e => e.1 == q)

/-- A hit makes the way the most recently used. -/
def State.cacheUse (s : State) (q : Nat) : State :=
  match s.tier.cache.find? (fun e => e.1 == q) with
  | some e => { s with tier := { s.tier with cache := e :: s.tier.cache.filter (fun x => x.1 != q) } }
  | none => s

/-- The page-map write of a page's descriptor has not completed (R419). -/
def State.mapWriting (s : State) (q : Nat) : Bool :=
  match s.mapIdx q with
  | some n => s.writeQueued (2 ^ 44 + mapLine n)
  | none => false

/-- Install a descriptor, replacing the victim of R420 in a full set; a dirty victim is written back (R419). A way whose
page-map write has not completed is no victim; where every way is such, the descriptor is used without a way. -/
def State.cacheInstall (s : State) (q : Nat) : State :=
  if s.cached q then s else
  let ways := s.tier.cache.filter (fun e => cacheSet e.1 == cacheSet q)
  let put (s : State) : State := { s with tier := { s.tier with cache := (q, false) :: s.tier.cache } }
  if ways.length < 16 then put s else
  let dom (e : Nat × Bool) := s.domainOf (4096 * e.1)
  let cnt (d : Option Nat) := (ways.filter (fun e => dom e == d)).length
  let prot (e : Nat × Bool) : Bool := match dom e with
    | some d => decide (cnt (some d) ≤ s.resWays d)
    | none => false
  let me := s.domainOf (4096 * q)
  let lru := ways.reverse.filter (fun e => !s.mapWriting e.1)
  let v := match lru.find? (fun e => !prot e) with
    | some e => some e
    | none => match lru.find? (fun e => dom e == me) with
      | some e => some e
      | none => lru.head?
  match v with
  | some e =>
    let s := put { s with tier := { s.tier with cache := s.tier.cache.filter (fun x => x.1 != e.1) } }
    match e.2, s.mapIdx e.1 with
    | true, some n => (s.inc fWritebacks).dramPush (s.rawReq (mapLine n) true 4)
    | _, _ => s
  | none => s

/-! ### Writing and reading a page (12 R429 to R434, R436) -/

/-- Whether the line at a DPA is under NEXT_SLOT while its domain rotates (12 R451). -/
def State.underNext (s : State) (dpa : Nat) : Bool :=
  match s.tier.rot with
  | some r => s.domainOf dpa == some r.dom &&
      ((s.page (dpa / 4096)).newkey ||
       (match s.region (dpa / 4096) with
        | some (1, _) => r.step ≥ 4 || !r.lines.any (fun x => decide (x.1 ≤ dpa / 64) && decide (dpa / 64 < x.2))
        | _ => false))
  | none => false

/-- The key slot of an access (01 R28, 12 R451). -/
def State.keySlotOf (s : State) (dpa : Nat) : Option Nat :=
  (s.domainOf dpa).map (fun d => if s.domRotating d && s.underNext dpa then s.domNext d else s.domSlot d)

/-- The key pair of an access (12 R451). -/
def State.keyOf (s : State) (dpa : Nat) : Option (BitVec 512) :=
  ((s.keySlotOf dpa).bind (fun k => SMap.get (fun _ => none) s.life.keys k)).map (fun p => p.1 ++ p.2)

/-- The line was encrypted under another key pair than the one of an access now: both of them (01 R28). -/
def State.foreign (s : State) (dpa : Nat) : Option (BitVec 512 × BitVec 512) :=
  match SMap.get (fun _ => none) s.tier.sealed (dpa / 64), s.keyOf dpa with
  | some a, some b => if a = b then none else some (a, b)
  | _, _ => none

/-- The lines that one stored unit of a page holds: all four of a compressed block. -/
def State.unitLines (s : State) (dpa : Nat) : List Nat :=
  let p := s.pageNow (dpa / 4096)
  if p.st = 2 || p.st = 3 then (List.range 4).map (fun i => dpa / 256 * 256 + 64 * i) else [dpa / 64 * 64]

/-- The tweak of unit `u` of a page's frame, or of a line (12 R450). -/
def Page.tweak (p : Page) (dpa u : Nat) : Nat :=
  if p.st = 2 then dpa / 4096 * 4096 + u * 2 ^ 44 + 2 ^ 50
  else if p.st = 3 then dpa / 4096 * 4096 + u * 2 ^ 44 + 2 * 2 ^ 50
  else dpa / 64 * 64

/-- The code of the block at `dpa` as the crypto stage returns it under key pair `b`, stored under `a` (12 R450). -/
def State.foreignCode (s : State) (p : Page) (a b : BitVec 512) (dpa : Nat) : List Byte :=
  let n := if p.st = 2 then 2 else 1
  let i := dpa / 256 % 16
  let code := (blockCode (blockWords s.mem dpa)).getD []
  (List.range n).flatMap (fun j =>
    let unit : Line := BitVec.ofNat 512 (ofBytes ((code.drop (64 * j)).take 64))
    bytesOf 64 (Config.otherKey a b (p.tweak dpa (n * i + j)) unit))

/-- What a read of a line returns: its plaintext; under another key than the one it was stored with, what the crypto and coder
stages make of it (01 R28; 12 R450, R451), and none where the code is bad (12 R426). -/
def State.readOut (s : State) (dpa : Nat) : Option Line :=
  match s.foreign dpa with
  | none => some (s.line (dpa / 64 * 64))
  | some (a, b) =>
    let p := s.pageNow (dpa / 4096)
    if (p.st = 2 || p.st = 3) && !flag s.tier.lrLines (dpa / 64) then
      if p.zmap.getLsbD (dpa / 256 % 16) then some 0
      else (decodeBlock (s.foreignCode p a b dpa)).map (fun ws =>
        BitVec.ofNat 512 (ofBytes (((ws.drop (dpa / 64 % 4 * 8)).take 8).flatMap (leBytes 8))))
    else some (Config.otherKey a b (dpa / 64 * 64) (s.line (dpa / 64 * 64)))

/-- A read of a block with a bad code: every line of the block is poisoned (12 R426, 01 R30). -/
def State.decodeCheck (s : State) (dpa : Nat) : State :=
  if (s.readOut dpa).isSome then s else (s.unitLines dpa).foldl State.poisonLine s

/-- The lines of a unit hold from now on what an access reads of them, under the key of that access. -/
def State.reopen (s : State) (dpa : Nat) : State :=
  if (s.foreign dpa).isNone then s else
  let s := s.decodeCheck dpa
  let now := (s.unitLines dpa).map (fun a => (a, (s.readOut a).getD (s.line a)))
  now.foldl (fun s e => { s with mem := Mem.write s.mem e.1 (bytesOf 64 e.2),
                                 tier := { s.tier with sealed := SMap.set (fun _ => none) s.tier.sealed (e.1 / 64) (s.keyOf e.1) } }) s

/-- A page is read for a copy to another frame or key. -/
def State.reopenPage (s : State) (q : Nat) : State :=
  (List.range 64).foldl (fun s i => s.reopen (4096 * q + 64 * i)) s
/-- The stored lines of a page are encrypted under the key that its descriptor now names (12 R451). -/
def State.sealPage (s : State) (q : Nat) : State :=
  let sl := s.tier.sealed.map (fun e => if e.1 / 64 = q then (e.1, s.keyOf (64 * e.1)) else e)
  { s with tier := { s.tier with sealed := sl.filter (fun e => e.2.isSome) } }

/-- Merge bytes of a line into memory, under the key of the access. A full-line write clears the poison mark and its record
(16 R558, 10 R368). -/
def State.putLine (s : State) (dpa : Nat) (data : Line) (mask : BitVec 64) : State :=
  let a := dpa / 64 * 64
  let s := s.reopen a
  let s := { s with tier := { s.tier with sealed := SMap.set (fun _ => none) s.tier.sealed (a / 64) (s.keyOf a) } }
  let s := { s with mem := Mem.writeMask s.mem a (fun i => mask.getLsbD i) 0 (bytesOf 64 data),
                    ras := { s.ras with wrTick := setNum s.ras.wrTick (a / 64) (s.tick + 1) } }
  if mask = BitVec.allOnes 64 then
    let s := { s with ras := { s.ras with inj := setNum s.ras.inj (a / 64) 0 } }
    if s.poisoned a then (s.setPoison a false).dropPoison a else s
  else s

/-- Cancel the migration of page `q` (R436). -/
def State.cancelMig (s : State) (q : Nat) : State :=
  let p := s.page q
  if p.st != 4 then s else
  let i := p.frame % 256
  match SMap.get (fun _ => none) s.tier.slots i with
  | some m =>
    let s := s.setPage q { m.src with heat := p.heat, pin := p.pin, lr := p.lr }
    let s := s.freePageFrame m.tgt
    let s := { s with tier := { s.tier with slots := SMap.set (fun _ => none) s.tier.slots i none,
                                            noRetry := if m.kind ≤ 1 then s.tier.noRetry ++ [q] else s.tier.noRetry } }
    s.inc (fTierCnt 1 0)
  | none => s

/-- The media address of the line or of the block's slot that a page descriptor gives for byte `a` (R416, R423). -/
def Page.media (p : Page) (a : Nat) : Nat :=
  if p.st = 2 then 1024 * p.frame + 128 * (a / 256 % 16) + a / 64 % 2 * 64
  else if p.st = 3 then 1024 * p.frame + 64 * (a / 256 % 16)
  else 1024 * p.frame + a % 4096 / 64 * 64

/-- Queue a DRAM access for byte `a` of page descriptor `p`. -/
def State.dramFor (s : State) (p : Page) (a : Nat) (write : Bool) (cls ld tag : Nat) : DReq :=
  let pl := s.dramPlace (s.rawBase + p.media a)
  { chan := pl.chan, rank := pl.rank, bank := pl.bank, sub := pl.sub, row := pl.row, dpa := a / 64 * 64, write := write,
    cls := cls, ld := ld, tag := tag, arrive := s.tick,
    data := (s.readOut a).getD (s.line (a / 64 * 64)), poison := s.poisoned a }

/-- Store a line in the last-resort area, or lose it (R446 steps 4 and 5, R447, R448). Its write is in no queue (log 44). -/
def State.lastResort (s : State) (dpa : Nat) (data : Line) (mask : BitVec 64) : State :=
  let n := dpa / 64
  let cap := min 65536 (s.f fLrLines)
  if flag s.tier.lrLines n then s.putLine dpa data mask
  else if s.f fLrUsed < cap then
    let s := (s.putLine dpa data mask).inc (fTierCnt 3 32)
    let s := s.setF fLrUsed (s.f fLrUsed + 1)
    let q := dpa / 4096
    let s := s.setPage q { s.page q with lr := true }
    { s with tier := { s.tier with lrLines := setFlag s.tier.lrLines n true } }
  else s.loseWrite dpa

/-- How an access ended: served, or to be accepted again later (R418, R432). -/
inductive Acc where
  | served
  | held      -- a promotion or switch holds the page
  | noZero    -- free frames exist, but none is zeroed (17 R596)
  deriving DecidableEq, Repr

/-- The page is held by a promotion (R432). -/
def State.pageHeld (s : State) (q : Nat) : Bool := s.tier.promos.any (fun p => p.page == q)

/-- Start the promotion of a page whose recode was abandoned (R432, R433): at the next tick, or once fewer than 32 run.
Without a free frame the line goes to the last-resort area (R434, R446). -/
def State.promote (s : State) (dpa : Nat) (data : Line) (mask : BitVec 64) : State × Acc :=
  let q := dpa / 4096
  let s := s.inc (fTierCnt 2 32)
  match s.takeFrame with
  | some (f, s) =>
    let running := (s.tier.promos.filter (fun p => p.start.isSome)).length
    let st := if running < 32 then some (s.tick + 1) else none
    ({ s with tier := { s.tier with promos := s.tier.promos ++ [⟨q, st, 4 * f⟩] } }, .held)
  | none => if s.freeFrames = 0 then (s.lastResort dpa data mask, .served) else (s, .noZero)

/-- A write of a line accepted by the placement stage (R430, R431, R436). -/
def State.writePage (s : State) (dpa : Nat) (data : Line) (mask : BitVec 64) (cls ld : Nat) : State × Acc :=
  let q := dpa / 4096
  match s.region q with
  | some (1, b) =>
    let s := s.putLine dpa data mask
    (s.dramPush (s.dramFor { st := 1, frame := 4 * b } dpa true cls ld 0), .served)
  | some (2, _) =>
    if s.pageHeld q then (s, .held) else
    let s := s.cancelMig q
    let p := s.page q
    let s := s.setPage q { p with nofit := false }
    let p := s.page q
    if p.lr && flag s.tier.lrLines (dpa / 64) then (s.putLine dpa data mask, .served)
    else if p.st = 1 then
      let s := s.putLine dpa data mask
      (s.dramPush (s.dramFor p dpa true cls ld 0), .served)
    else if p.st = 0 then
      match s.takeFrame with
      | some (f, s) =>
        let p := { p with st := 1, frame := 4 * f, newkey := s.newkeyFor q }
        let s := (s.setPage q p).putLine dpa data mask
        (s.dramPush (s.dramFor p dpa true cls ld 0), .served)
      | none => if s.freeFrames = 0 then (s.lastResort dpa data mask, .served) else (s, .noZero)
    else
      let m := Mem.writeMask s.mem (dpa / 64 * 64) (fun i => mask.getLsbD i) 0 (bytesOf 64 data)
      if blockFits m dpa (if p.st = 2 then 128 else 64) then
        let s := s.putLine dpa data mask
        let b := dpa / 256 % 16
        let z := blockSize (blockWords s.mem dpa) == some 0
        let s := s.setPage q { p with zmap := if z then p.zmap ||| (1 <<< b) else p.zmap &&& ~~~((1 : BitVec 16) <<< b) }
        (s.dramPush (s.dramFor p dpa true cls ld 0), .served)
      else s.promote dpa data mask
  | _ => (s, .served)

/-! ### The pair's part of the memory path (15 R534 to R541; 14 R508) -/

/-- The mirrored region that holds a DPA, with its side (15 R534, R554). -/
def State.mirRegion (s : State) (dpa : Nat) : Option Nat :=
  lowest 64 (fun n =>
    let w := s.reg (0x3c0100 + 8 * n)
    let b := fld w 0 16 * 2 ^ 28
    bit w 63 && decide (b ≤ dpa) && decide (dpa < b + fld w 32 16 * 2 ^ 28))
/-- This member is the writer of mirrored region `n`: its role equals the region's side (15 R534). -/
def State.isWriter (s : State) (n : Nat) : Bool := bit (s.reg (0x3c0100 + 8 * n)) 62 == s.isAway
/-- Writes of mirrored regions go to the partner: PAIRED, or the keeper in RESYNC (15 R535, R548). -/
def State.mirrorsMem (s : State) : Bool := s.pst == .paired || (s.pst == .resync && s.f fJoiner == 0)

/-- CAL_RANK[k] of channel `c`: RSTATE (14 R510). -/
abbrev fRstate (c k : Nat) : F := ⟨0x206840 + 0x10000 * c + 8 * k, 61, 3⟩

/-- The rank whose run holds a line's frame (14 R505). -/
def State.rankOf (s : State) (dpa : Nat) : Nat :=
  (s.dramPlace (s.rawBase + (s.pageNow (dpa / 4096)).media dpa)).rank

/-- The line's frame lies in the range of a rank that the partner serves (14 R508). -/
def State.redirected (s : State) (dpa : Nat) : Bool :=
  match s.trn.retrain with
  | some r =>
    let st := s.f (fRstate r.chan r.rank)
    r.partner && s.rankOf dpa == r.rank && (st == 3 || st == 4 || st == 6 || (st == 5 && r.pages.contains (dpa / 4096)))
  | none => false

/-- Frame the MIRROR copy of a write applied at the writer, which waits for MEM_ACK (15 R535). -/
def State.mirrorCopy (s : State) (dpa : Nat) (data : Line) (mask : BitVec 64) (source : Option (Nat × Nat)) : State :=
  let n := s.pair.memSeq + 1
  let s := { s with pair := { s.pair with memSeq := n, memWait := s.pair.memWait ++ ([⟨n, dpa, mask, data, false, source⟩] : List MemWait) } }
  s.linkSend (.memWr true dpa mask n data)

/-- Forward a write to the writer; it waits for the writer's MIRROR copy (15 R535). -/
def State.forwardWrite (s : State) (dpa : Nat) (data : Line) (mask : BitVec 64) (source : Option (Nat × Nat)) : State :=
  let n := s.pair.memSeq + 1
  let s := { s with pair := { s.pair with memSeq := n, memWait := s.pair.memWait ++ ([⟨n, dpa, mask, data, true, source⟩] : List MemWait) } }
  s.linkSend (.memWr false dpa mask n data)

/-- Mark a page in the dirty bitmap (15 R547). -/
def State.markDirty (s : State) (q : Nat) : State :=
  { s with pair := { s.pair with dirty := setFlag s.pair.dirty q true } }

/-! ### Accesses of the device's own engines (01 R13, R14, R33) -/

/-- The DPA of a request; none below RAW_BASE. -/
def DReq.hdm (r : DReq) : Option Nat := if r.dpa < 2 ^ 44 then some r.dpa else none

/-- Page `q` misses the placement cache, and table 254 marks it paged with descriptor `n`: the refill of its map line is a
static-high-priority request (01 R14, 12 R421). -/
def State.refillReq (s : State) (n : Nat) (eng : Bool) : State :=
  (s.inc fMisses).dramPush { s.rawReq (mapLine n) false 0 with eng := eng }

/-- What stands in the way of an access of the device's own engines to a line (01 R13). -/
inductive LineGate where
  | go
  | hold      -- the page is held (12 R418), or the region is (15 R541): the engine offers the access again (01 R16)
  | dead      -- a read returns poison, a write is dropped (12 R421, 15 R541, 14 R508, 08 R283)
  deriving DecidableEq, Repr

/-- The gate of one line. -/
def State.gateLine (s : State) (dpa : Nat) : LineGate :=
  let q := dpa / 4096
  let mir := (s.mirRegion dpa).isSome
  if !s.placed q then .dead
  else if !s.cached q && flag s.tier.badMap q then .dead
  else if mir && s.benchedNow then .dead
  else if mir && s.pst == .tossing then .hold
  else if s.redirected dpa && s.pst != .paired then .dead
  else if s.pageHeld q then .hold
  else .go

/-- The lines of a run. -/
def runLines (a n : Nat) : List Nat := (List.range ((a % 64 + n + 63) / 64)).map (fun i => a / 64 * 64 + 64 * i)
/-- Some line of a run must wait. -/
def State.runHeld (s : State) (a n : Nat) : Bool := (runLines a n).any (fun x => s.gateLine x == .hold)
/-- Some line of a run returns poison. -/
def State.runPoison (s : State) (a n : Nat) : Bool := (runLines a n).any (fun x => s.poisoned x || s.gateLine x == .dead)

/-- The placement stage takes up an access of an engine to a page: it probes the cache, and on a miss looks the region up and
installs the descriptor (01 R14, 12 R417, R419), and counts the access (12 R438). -/
def State.probePage (s : State) (q : Nat) : State :=
  let s := if s.cached q then s.cacheUse q
    else match s.region q with
    | some (1, _) => ((s.takeSlot).inc fMisses).cacheInstall q
    | some (2, n) => if flag s.tier.badMap q then s.takeSlot.refillReq n true else (s.takeSlot.refillReq n true).cacheInstall q
    | _ => s.takeSlot.raise .placementMiss 0 (4096 * q)
  s.touch q

/-- The bytes of a run as the engine receives them. -/
def State.hdmBytes (s : State) (a n : Nat) : List Byte :=
  if (runLines a n).all (fun x => (s.foreign x).isNone) then Mem.read s.mem a n
  else (((runLines a n).flatMap (fun x => bytesOf 64 ((s.readOut x).getD 0))).drop (a % 64)).take n

/-- A device write of a whole line to HDM (rings, buffers, reports, captures): applied at once, whatever becomes of the
page's frame (log 12). In a mirrored region it is a write of R535; one that its gate drops changes nothing. -/
def State.deviceLine (s : State) (cls ld dpa : Nat) (data : Line) (mask : BitVec 64) : State :=
  let s := s.probePage (dpa / 4096)
  if s.gateLine dpa == .dead then s else
  let region := s.mirRegion dpa
  let sync := region.isSome && s.mirrorsMem
  if sync && !s.isWriter (region.getD 0) then s.forwardWrite dpa data mask none
  else
    let r := s.writePage dpa data mask cls ld
    let s := match r.2 with
      | .served => r.1
      | _ => r.1.putLine dpa data mask
    if sync then s.mirrorCopy dpa data mask none
    else if region.isSome && s.pst == .keeper then s.markDirty (dpa / 4096) else s

/-- A device write of bytes to HDM, line by line, in a class of 13 R465 and charged to an LD. -/
def State.deviceWrite (s : State) (cls ld a : Nat) (bs : List Byte) : State :=
  let n := (a % 64 + bs.length + 63) / 64
  (List.range n).foldl (fun s i =>
    let base := (a / 64 + i) * 64
    let get (j : Nat) : Byte := if a ≤ base + j then bs.getD (base + j - a) 0 else 0
    let inR (j : Nat) : Bool := decide (a ≤ base + j) && decide (base + j < a + bs.length)
    let mask : BitVec 64 := (List.range 64).foldl (fun (m : BitVec 64) j => if inR j then m ||| (1 <<< j) else m) 0
    s.deviceLine cls ld base (BitVec.ofNat 512 (ofBytes ((List.range 64).map get))) mask) s

/-- A read's data and whether it needs the DRAM (R429): UNWRITTEN pages and ZERO blocks return zeros without one. -/
def State.readNeedsDram (s : State) (dpa : Nat) : Bool :=
  let q := dpa / 4096
  let p := s.pageNow q
  flag s.tier.lrLines (dpa / 64) || p.st = 1 ||
  ((p.st = 2 || p.st = 3) && !p.zmap.getLsbD (dpa / 256 % 16))

/-! ### ECC (16 R555 to R559) -/

/-- RAS_ECC_CNT[c] fields (16 R586). -/
abbrev fCorrected (c : Nat) : F := ⟨0x3e0100 + 8 * c, 32, 32⟩
abbrev fUncorrectable (c : Nat) : F := ⟨0x3e0100 + 8 * c, 16, 16⟩
abbrev fPoisonReads (c : Nat) : F := ⟨0x3e0100 + 8 * c, 0, 16⟩

/-- The corrected line, or the poison mark, is written back in class MAINT (16 R556, R557), where the line is stored. -/
def State.markBack (s : State) (a : Nat) : State :=
  if s.readNeedsDram a then s.dramPush (s.dramFor (s.pageNow (a / 4096)) a true 4 0 0) else s

/-- A corrected read of a rank (16 R556): counters, and the write-back unless the line has been written since. -/
def State.eccCorrected (s : State) (c k : Nat) (dpa : Option Nat) (since : Nat) : State :=
  let s := s.inc (fCorrected c)
  let n := num s.ras.ce (8 * c + k) + 1
  let s := if max 1 (s.f ⟨0x3e0080, 48, 16⟩) ≤ n then
      ({ s with ras := { s.ras with ce := setNum s.ras.ce (8 * c + k) 0 } }).raise .dramCeThreshold (argCK c k) n
    else { s with ras := { s.ras with ce := setNum s.ras.ce (8 * c + k) n } }
  match dpa with
  | some a =>
    if since < num s.ras.wrTick (a / 64) then s
    else
      let s := { s with ras := { s.ras with inj := setNum s.ras.inj (a / 64) 0 } }
      s.markBack a
  | none => s

/-- An uncorrectable read (16 R557): its lines are poisoned and recorded, and the mark is written. -/
def State.eccUncorrectable (s : State) (c k : Nat) (dpa : Option Nat) : State :=
  let s := s.inc (fUncorrectable c)
  match dpa with
  | some a =>
    let s := (s.unitLines a).foldl (fun (s : State) x => s.poisonLine x) s
    let s := { s with ras := { s.ras with inj := setNum s.ras.inj (a / 64) 0 } }
    let s := s.markBack a
    s.raise .dramUncorrectable (argCK c k) (a / 64 * 64)
  | none =>
    let r := s.free   -- no DPA maps to the address: the manual gives ARG1 no value (log 2)
    r.2.raise .dramUncorrectable (argCK c k) (r.1.toNat % 2 ^ 44)

/-- The number of devices of a line whose check bits are inverted (16 R585). -/
def State.injDevs (s : State) (a : Nat) : Nat := ones (BitVec.ofNat 64 (num s.ras.inj (a / 64)))

/-- A read of one line by an engine of the device, in a class of 13 R465 and charged to an LD: an injected error fails its check
(16 R585), a marked line counts as a poison read (R558). -/
def State.readLine (s : State) (cls ld a : Nat) : State :=
  let s := s.decodeCheck a
  let d := { s.dramFor (s.pageNow (a / 4096)) a false cls ld 0 with eng := true }
  let s := if s.readNeedsDram a then s.dramPush d else s
  if s.poisoned a then s.inc (fPoisonReads d.chan)
  else if s.injDevs a = 1 then s.eccCorrected d.chan d.rank (some a) s.tick
  else if 2 ≤ s.injDevs a then s.eccUncorrectable d.chan d.rank (some a)
  else s

/-- A read of `n` bytes by an engine of the device: page by page through the placement stage, line by line. -/
def State.readCheck (s : State) (cls ld a n : Nat) : State :=
  let pages := ((runLines a n).map (fun x => x / 4096)).eraseDups
  let s := pages.foldl State.probePage s
  ((runLines a n).filter (fun x => s.gateLine x == .go)).foldl (fun (s : State) x => s.readLine cls ld x) s

end Sys2Proof.Machine
end

