-- ==== Sys2Proof/Machine/Ring.lean ====
section
/-! DEFINITION. Rings and completion entries (11 R376 to R392), and context faults (R410). -/

namespace Sys2Proof.Machine

/-- Registers of context `c` (11 R413). -/
abbrev offCtxCtrl (c : Nat) : Nat := 0x80000 + 0x40 * c
abbrev offSq (c : Nat) : Nat := 0x80008 + 0x40 * c
abbrev offCq (c : Nat) : Nat := 0x80010 + 0x40 * c
abbrev offRbuf (c : Nat) : Nat := 0x80018 + 0x40 * c
abbrev offCtxCnt (c : Nat) : Nat := 0x80030 + 0x40 * c

/-- BASE, HOST and LOG2 of a ring register (R413). -/
def State.ringBase (s : State) (off : Nat) : Nat := 4096 * fld (s.reg off) 12 52
def State.ringHost (s : State) (off : Nat) : Bool := bit (s.reg off) 11
def State.ringLog (s : State) (off : Nat) : Nat := fld (s.reg off) 0 4

/-- (a - b) modulo 2^32 (R377). -/
def sub32 (a b : Nat) : Nat := (a + 2 ^ 32 - b % 2 ^ 32) % 2 ^ 32

/-- Write bytes to HDM, or to host memory by CXL.io DMA through the port of the context's LD (R376). -/
def State.busWrite (s : State) (host : Bool) (c a : Nat) (bs : List Byte) : State :=
  if host then { s with host := Mem.write s.host ((s.cx c).ldid / 16 * 2 ^ 64 + a) bs }
  else s.deviceWrite 2 (s.cx c).ldid a bs

/-- Whether every HDM page of a run belongs to the context's domain (R378, R410; 09 R305). -/
def State.runOk (s : State) (c a n : Nat) : Bool :=
  (List.range ((a % 4096 + n + 4095) / 4096)).all (fun i => s.pageOf (s.cx c).domain (a / 4096 + i))

/-- The pages of a ring or buffer are in order: host memory, or HDM pages of the domain. -/
def State.ringOk (s : State) (c off n : Nat) : Bool := s.ringHost off || s.runOk c (s.ringBase off) n

/-! ### Context faults and the end of a context's work (R408 to R410) -/

/-- FAULT_CODE of CTX_CTRL. -/
abbrev fFaultCode (c : Nat) : F := ⟨offCtxCtrl c, 56, 8⟩

/-! ### Completion entries (R390 to R392) -/

/-- A header (R390): PHASE, KIND, COUNT, SLOT, OPCODE, TABLE, OUTCOME, STATUS and USER_TAG. -/
def cqHeader (phase : Bool) (kind count slot opcode table outcome status : Nat) (tag : Word) : BitVec 128 :=
  let w0 : Word := putFld (putFld (putFld (putFld (putFld (putFld (putFld (putFld 0 63 1 (if phase then 1 else 0))
    48 8 kind) 44 2 count) 32 12 slot) 24 8 opcode) 16 8 table) 8 8 outcome) 0 8 status
  tag ++ w0

/-- The body of most operations (R392): TICK, HANDLE, VICTIM, COUNT. -/
def opBody (opcode : Nat) (o : Outc) : BitVec 384 :=
  if opcode = 1 then (resultRecord o).setWidth 384
  else
    let v := if o.status = St.evicted then o.victim else 0
    let c := if opcode = 0x14 || opcode = 0x19 then o.count else 0
    (BitVec.ofNat 384 o.tick) ||| ((BitVec.ofNat 384 (o.handle % 2 ^ 22)) <<< 64) |||
    ((BitVec.ofNat 384 (v % 2 ^ 22)) <<< 96) ||| ((BitVec.ofNat 384 (c % 2 ^ 32)) <<< 128)

/-- The completion producer's room: an entry of count i may be written while i - CQ_CONS is below 2^LOG2 (R391). -/
def State.cqRoom (s : State) (c : Nat) : Bool :=
  decide (sub32 (s.cx c).cqProd (s.cx c).cqCons < 2 ^ s.ringLog (offCq c))

/-- Room for an entry beside the reserved ones (R384, 06 R218). -/
def State.cqFree (s : State) (c : Nat) : Bool :=
  decide (sub32 ((s.cx c).cqProd + (s.cx c).reserved) (s.cx c).cqCons < 2 ^ s.ringLog (offCq c))

/-- Write entry `cqProd` of the completion ring with a header built by `h` of its PHASE (R391). -/
def State.cqWrite (s : State) (c : Nat) (h : Bool → BitVec 128) (body : BitVec 384) : State :=
  let x := s.cx c
  let lg := s.ringLog (offCq c)
  let i := x.cqProd
  let line : Line := body ++ h (i / 2 ^ lg % 2 == 0)
  let s := s.busWrite (s.ringHost (offCq c)) c (s.ringBase (offCq c) + 64 * (i % 2 ^ lg)) (bytesOf 64 line)
  s.updCx c (fun x => { x with cqProd := (x.cqProd + 1) % 2 ^ 32 })

end Sys2Proof.Machine
end

