-- ==== Sys2Proof/Machine/Mirror.lean ====
section
/-! DEFINITION. Mirrored and cascaded changes: framing, journal, and the end of a mutation (15 R526 to R533, R547). -/

namespace Sys2Proof.Machine

/-- Table `t` is a MIRROR table. -/
def State.isMirror (s : State) (t : Nat) : Bool := Prof.pairMode (s.tb t).profile == 1
/-- Table `t` is a CASCADE table. -/
def State.isCascade (s : State) (t : Nat) : Bool := Prof.pairMode (s.tb t).profile == 2

/-- This member frames its mirrored changes: home of a PAIRED pair, or the keeper in RESYNC (15 R526, R548). -/
def State.mirrors (s : State) (t : Nat) : Bool :=
  s.isMirror t && !s.isAway && (s.pst == .paired || (s.pst == .resync && s.f fJoiner == 0))

/-- This member carries the role home of a pair that is or was linked, so it journals (15 R547). -/
def State.journals (s : State) (t : Nat) : Bool :=
  s.isMirror t && !s.isAway && (s.pst == .paired || s.pst == .keeper || s.pst == .tossing || s.pst == .resync)

/-- Frame a MIR_OP with the table's next sequence number (15 R526). -/
def State.mirFrame (s : State) (m : MirMsg) : State × Nat :=
  let q := num s.pair.mirSeq m.table.val + 1
  let s := { s with pair := { s.pair with mirSeq := setNum s.pair.mirSeq m.table.val q } }
  (s.linkSend (.mirOp { m with seq := q }), q)

/-- A message about table `t` with home commit tick `c`. -/
def mirMsg (t : Nat) (k : MirKind) (h c : Nat) : MirMsg :=
  { table := Fin.ofNat 256 t, kind := k, handle := BitVec.ofNat 22 h, victim := 0, seq := 0, home := c, cells := 0, ctl := 0,
    res := 0, pfx := 0, len := 0, prof := 0, absent := false }

/-- A sweeper visit granted in flight `f` will remove the entry: its row has A set, H and S clear, and no learn that commits
before it sets H (07 R236, R241). -/
def State.willRemove (s : State) (f : Flight) (h : Nat) : Bool :=
  match s.liveRow f.op.table h with
  | none => false
  | some a =>
    let r := s.row a
    !r.h && r.a && !r.stat && !s.arb.flights.any (fun x => x.op.table == f.op.table && decide (x.g < f.g) &&
      (match x.op.act with | .upd k .hit => k == h | .write _ w .learnMove => w.handle == h | _ => false))

/-- The MIR_OP of a granted operation, if its kind is mirrored (15 R526). A visit that removes its entry is a deletion
(07 R238), and another is sent as such (`len` 1), and away applies R241 to its own row; a staged row of a bulk load is marked by `len` 1; an UPDATE carries H as 0. -/
def State.mirOf (s : State) (f : Flight) : Option MirMsg :=
  let t := f.op.table
  let c := f.g + 5
  let rowMsg (k : MirKind) (r : Row) (v : Nat) : MirMsg :=
    { mirMsg t k r.handle c with victim := BitVec.ofNat 22 v, cells := r.cells, ctl := r.ctl, res := r.res }
  match f.op.act with
  | .write a r k =>
    match k with
    | .insert v | .learnInsert v => match v with
      | some v => some (rowMsg .evict r v)
      | none => some (rowMsg .put r 0)
    | .update => some (rowMsg .put (r.setH false) 0)
    | .learnMove =>
      let o := s.row a
      some (rowMsg .put ({ (o.setSrc r.src).setH true with res := r.res }) 0)
    | .free => some (mirMsg t .delete (s.row a).handle c)
    | .stage => some { rowMsg .stage r 0 with len := if (s.tb t).bulk.isSome then 1 else 0 }
    | .unstage => some { mirMsg t .stage (s.row a).handle c with absent := true }
    | .copy | .migCopy | .repair _ | .erase _ | .dirMove => none
  | .upd h u =>
    match u with
    | .hit => some (mirMsg t .hit h c)
    | .visit => if s.willRemove f h then some (mirMsg t .delete h c) else some { mirMsg t .hit h c with len := 1 }
    | .remove => some (mirMsg t .delete h c)
    | .lockCommit => some (match (s.tb t).bulk.bind (fun b => b.profile) with
      | some p => { mirMsg t .commit 0 c with len := 1, prof := p }
      | none => mirMsg t .commit 0 c)
    | .lockDiscard => some (mirMsg t .discard 0 c)
    | .switch n =>
      match s.mnt.relocs.find? (fun x => x.table == t && x.new == n) with
      | some x => x.row.map (fun r => rowMsg .put (r.setH false) 0)
      | none => none
    | .dirChange .. | .cutover | .tighten .. => none
  | _ => none

/-- Home frames the MIR_OP of each change in the tick after its grant (15 R526). -/
def State.mirrorGrants (s : State) (x : Nat) : State :=
  s.arb.flights.foldl (fun s f =>
    if f.g + 1 == x && f.mseq.isNone && s.mirrors f.op.table then
      match s.mirOf f with
      | some m =>
        let r := s.mirFrame m
        r.1.mapFlights (fun x => if x = f then { f with mseq := some r.2 } else x)
      | none => s
    else s) s

/-- PAIR_JOURNAL fields. -/
abbrev fBroken : F := ⟨0x3c0020, 63, 1⟩
abbrev fPendingJ : F := ⟨0x3c0020, 42, 21⟩
abbrev fWritePtr : F := ⟨0x3c0020, 20, 20⟩
abbrev fRewind : F := ⟨0x3c0020, 0, 20⟩

/-- Write one journal entry at the commit of a mirrored change, or break the journal (15 R547). `seq` 0: the change was
not framed, so no APPLIED will cover it. -/
def State.journal (s : State) (id : Ident) (seq : Nat) : State :=
  if !s.journals id.table || s.f fBroken == 1 then s
  else if s.f fPendingJ = 1048576 then (s.setF fBroken 1).raise .journalBroken (s.f fEpoch) 0
  else
    let s := { s with pair := { s.pair with journal := s.pair.journal ++ ([⟨id, if seq = 0 then 2 ^ 64 else seq, s.tick⟩] : List JEntry) } }
    (s.setF fPendingJ (s.f fPendingJ + 1)).incMod fWritePtr

/-- Drop covered entries from the rewind mark on. -/
def dropCovered : List JEntry → Nat × List JEntry
  | e :: js => if e.seq = 0 then ((dropCovered js).1 + 1, (dropCovered js).2) else (0, e :: js)
  | [] => (0, [])

/-- An APPLIED covers the entries of its table up to its sequence; the rewind mark moves past covered entries
(15 R530, R547). -/
def State.cover (s : State) (t seq : Nat) : State :=
  let js := s.pair.journal.map (fun e => if e.id.table == t && decide (e.seq ≤ seq) then { e with seq := 0 } else e)
  let r := dropCovered js
  let s := { s with pair := { s.pair with journal := r.2 } }
  (s.setF fPendingJ (s.f fPendingJ - r.1)).incMod fRewind r.1

/-- A mutation ends at its commit: at home of a PAIRED pair its completion waits for the APPLIED that covers it
(15 R530). -/
def State.endMut (s : State) (t : Nat) (mseq : Option Nat) (og : Origin) (o : Outc) : State :=
  match mseq, og with
  | some q, .req _ _ | some q, .cmdPath =>
    if s.pst == .paired then
      { s with pair := { s.pair with awaitApplied := s.pair.awaitApplied ++ [(t, q, og, { o with tick := s.tick })] } }
    else s.resolve og o
  | _, _ => s.resolve og o

/-- A descriptor of two slots' header only: opcode and table. -/
def descLine (op t : Nat) : Line := BitVec.ofNat 512 (op + t * 2 ^ 40)

/-- Forward a mutation to the partner: its completion returns in a MUT_DONE (15 R153, R154, R530, R532). -/
def State.forward (s : State) (og : Origin) (ctx acc : Nat) (l1 l2 : Line) : State :=
  let q := s.pair.fwdSeq + 1
  let s := { s with pair := { s.pair with fwdSeq := q, awaitDone := s.pair.awaitDone ++ [(q, og)] } }
  s.linkSend (.fwdMut q ctx acc l1 l2)

/-- The partner sent the request (15 R532). -/
def Origin.isFwd : Origin → Bool
  | .fwd _ => true
  | _ => false

/-- PARTNER rows by handle: whether a handle of a CASCADE table belongs to this member's range (04 R128, R129). -/
def Tbl.ownsHandle (r : Tbl) (h : Nat) : Bool :=
  decide (r.handleBase ≤ h) && decide (h < r.handleBase + 16384 * r.maxBlocks)

end Sys2Proof.Machine
end

