-- ==== Sys2Proof/Machine/Queue.lean ====
section
/-! DEFINITION. Match-queue pairs (06 R200 to R225). -/

namespace Sys2Proof.Machine

/-! ### Banks (R203 to R206) -/

/-- Bank `b` of a pair. -/
def QPair.bank (q : QPair) (b : Nat) : Bank := if b % 2 = 0 then q.bank0 else q.bank1
/-- Replace bank `b`. -/
def QPair.setBank (q : QPair) (b : Nat) (x : Bank) : QPair := if b % 2 = 0 then { q with bank0 := x } else { q with bank1 := x }

/-- The rank of a record (03 R86). -/
def MqRec.rank (r : MqRec) : Nat := r.prio.toNat * 2 ^ 22 + r.handle.toNat

/-- The pass that a flight runs for pair `q`, while the enumeration it belongs to is still held. -/
def State.passFor (s : State) (f : Flight) : Option Nat :=
  match f.op.act with
  | .pass _ _ _ q false =>
    let p := s.qp q
    match f.op.origin with
    | .req c n => if p.state != 0 && p.ctx == c && p.n == n then some q else none
    | _ => none
  | _ => none

/-- A pass admitted at tick `x` fills its bank: the first pass bank 0, each later pass the other bank (R203, R204). -/
def State.fillBanks (s : State) (x : Nat) : State :=
  s.arb.flights.foldl (fun s f =>
    if f.g == x then
      match s.passFor f with
      | some q => s.updQp q (fun p =>
          let k := match f.op.act with | .pass _ _ (some _) _ _ => p.pass + 1 | _ => 0
          { (p.setBank k { st := 1, pass := k }) with pass := k })
      | none => s
    else s) s

/-- The record of a winner: TAG POISON when its check at t21 failed (R206, R214). -/
def Win.mqRec (partner : Bool) (w : Win) : MqRec :=
  { res := if w.fails then 0 else w.row.res, prio := BitVec.ofNat 16 w.row.prio, handle := BitVec.ofNat 22 w.row.handle,
    poison := w.fails, partner := partner }

/-- The flight of an enumerate pass that is due at a port: granted 23 ticks ago or earlier, or 24 for the partner's, and not
yet delivered. -/
def Flight.passDue (f : Flight) (port t : Nat) : Bool :=
  f.port == port && !f.stuck && decide (f.g + 23 + f.framing ≤ t) && !f.committed &&
  match f.op.act with | .pass .. => true | _ => false

/-- ENUM_PASS_DELIVER (02 R48, R205, R219): up to 32 records in rank order are written at t23 and the bank becomes READY
at t24, or at t88 on a CASCADE table; a cascade-in sends its records to the partner. -/
def State.passDeliver (s : State) (port : Nat) : State :=
  match s.arb.flights.find? (fun f => f.passDue port s.tick) with
  | none => s
  | some f =>
    let wins := match f.found with | some fd => fd.wins | none => []
    let cnt := match f.found with | some fd => fd.count | none => 0
    match f.op.origin with
    | .partner t0 =>
      (s.dropFlight f).linkSend (.enumReply t0 cnt (wins.map (fun w =>
        let r := w.mqRec true
        ⟨r.res, r.prio, r.handle, r.poison⟩)))
    | _ =>
      let keep := f.cascaded && f.refused.isNone
      let s' := if keep then s.putFlight f { f with committed := true } else s.dropFlight f
      match s.passFor f with
      | none => s'
      | some q => s'.updQp q (fun p =>
          let k := p.pass
          let b := p.bank k
          let ready := f.g + (if s.isCascade f.op.table then 88 else 24)
          let p := p.setBank k { b with local_ := wins.map (Win.mqRec false), readyAt := some ready }
          let p := { p with countL := cnt, countP := 0, endStatus := p.endStatus.or f.refused }
          if k = 0 then
            match f.found with
            | some fd => { p with firstTick := fd.tick, firstGen := fd.gen, firstCount := cnt }
            | none => p
          else p)

/-- ENUM_PASS_DELIVER. -/
def execEnumPassDeliver (port : SPort) (s : State) : Res := whileUp s (fun s => s.passDeliver port.val)

/-- ENUM_REPLY (R205): the partner's records of the oldest cascaded pass that waits are placed at t87, in rank order; a
later reply is no valid reply (02 R53). -/
def State.enumReply (s : State) (count : Nat) (recs : List MsgRec) : State :=
  match s.cascFlight (fun f => f.committed && f.reply.isNone && !f.declined) with
  | none => s
  | some f =>
    if f.g + 87 < s.tick then s else
    let s' := s.dropFlight f
    match s.passFor f with
    | none => s'
    | some q => s'.updQp q (fun p =>
        let k := p.pass
        let b := p.bank k
        let rs := (recs.take 32).map (fun r => (⟨r.res, r.prio, r.handle, r.poison, true, 0⟩ : MqRec))
        let p := p.setBank k { b with partner := rs, readyAt := some (f.g + 88) }
        { p with countP := count, firstCount := if k = 0 then min 65535 (p.firstCount + count) else p.firstCount })

/-- A cascaded pass without records of the partner by the end of its t87: R211 applies, whether the partner declined or no
reply came, and the pass is over (02 R53). -/
def State.expirePasses (s : State) (x : Nat) : State :=
  (s.arb.flights.filter (fun f => f.cascaded && f.committed && decide (f.g + 87 ≤ x) && f.op.isSearch)).foldl (fun s f =>
    let s' := s.dropFlight f
    match s.passFor f with
    | some q => s'.updQp q (fun p => { p with part := true })
    | none => s') s

/-- ENUM_REPLY. -/
def execEnumReply (count : BitVec 16) (recs : List MsgRec) (s : State) : Res :=
  whileUp s (fun s => s.enumReply count.toNat recs)

/-- The rank of a side's last record when the side is open (R207). -/
def openRank (count : Nat) (rs : List MqRec) : Option Nat :=
  match rs.getLast? with
  | some r => if rs.length < count then some r.rank else none
  | none => none

/-- The lower of two optional ranks. -/
def minOpt (a b : Option Nat) : Option Nat :=
  match a, b with
  | some x, some y => some (min x y)
  | some x, none => some x
  | none, y => y

/-- BANK_READY (R205, R207, R208, R211, R219): the bank becomes READY at its tick; the continuation decision discards
records above the floor and queues the next pass, or the enumeration is exhausted. -/
def State.bankReady (s : State) (q : Nat) : State :=
  let p := s.qp q
  let k := p.pass
  let b := p.bank k
  match b.readyAt with
  | none => s
  | some t =>
    if p.state = 0 || b.st != 1 || s.tick < t then s else
    let floor := minOpt (openRank p.countL b.local_) (openRank p.countP b.partner)
    let cut (rs : List MqRec) : List MqRec :=
      match floor with | some f => rs.filter (fun r => decide (r.rank ≤ f)) | none => rs
    let stop := p.endStatus.isSome || (s.tb p.table).state != 2
    let p := p.setBank k { b with st := 2, readyAt := none, local_ := cut b.local_, partner := cut b.partner }
    match floor with
    | none => s.setQp q { p with state := 2 }
    | some f =>
      if stop then
        s.setQp q { p with state := 2, endStatus := p.endStatus.or (some St.contextDisabled) }
      else s.setQp q { p with next := some (BitVec.ofNat 38 f), nextAt := s.tick + 1 }

/-- BANK_READY. -/
def execBankReady (qp : TableId) (s : State) : Res := whileUp s (fun s => s.bankReady qp.val)

/-- CONTINUATION_QUEUE (R208, R210, R211): the pass with rank floor F enters the queue of input 14 for the tick after the
READY tick, or after its bank became EMPTY. -/
def State.continueQ (s : State) (q : Nat) : State :=
  let p := s.qp q
  match p.next with
  | none => s
  | some f =>
    if s.tick + 1 < p.nextAt || (p.bank (p.pass + 1)).st != 0 || p.state != 1 then s else
    let op : ArrOp := { table := p.table, act := .pass p.key p.tenant (some f) q false, origin := .req p.ctx p.n,
                         enq := p.nextAt }
    (s.setQp q { p with next := none }).enqOp 14 op

/-- CONTINUATION_QUEUE. -/
def execContinuationQueue (qp : TableId) (s : State) : Res := whileUp s (fun s => s.continueQ qp.val)

/-! ### Draining (R212 to R214) -/

/-- The bank under drain. -/
def QPair.draining (p : QPair) : Option Nat :=
  if p.bank0.st = 3 then some 0 else if p.bank1.st = 3 then some 1 else none

/-- BANK_DRAIN_TAKE (R212): a READY bank is taken when the other bank is EMPTY. A bank without a record is EMPTY at once
(R203). -/
def State.drainTake (s : State) (q : Nat) : State :=
  let p := s.qp q
  match p.draining with
  | some _ => s
  | none =>
    match [0, 1].find? (fun b => (p.bank b).st == 2) with
    | none => s
    | some b =>
      let x := p.bank b
      if (p.bank (b + 1)).st ≠ 0 then s
      else if x.local_.isEmpty && x.partner.isEmpty then
        s.setQp q { p.setBank b {} with nextAt := max p.nextAt (s.tick + 1) }
      else s.setQp q (p.setBank b { x with st := 3 })

/-- BANK_DRAIN_TAKE. -/
def execBankDrainTake (qp : TableId) (s : State) : Res := whileUp s (fun s => s.drainTake qp.val)

/-- The next record of a bank by the merge of R212, and the bank without it. -/
def Bank.head? (b : Bank) : Option (MqRec × Bank) :=
  match b.local_, b.partner with
  | l :: ls, p :: ps =>
    if l.rank ≤ p.rank then some (l, { b with local_ := ls, takenL := b.takenL + 1 })
    else some (p, { b with partner := ps, takenP := b.takenP + 1 })
  | l :: ls, [] => some (l, { b with local_ := ls, takenL := b.takenL + 1 })
  | [], p :: ps => some (p, { b with partner := ps, takenP := b.takenP + 1 })
  | [], [] => none

/-- A record of 16 B (R206). -/
def recBits (tag : Nat) (partner : Bool) (pass seq prio handle : Nat) (res : Word) : BitVec 128 :=
  let w1 : Word := putFld (putFld (putFld (putFld (putFld (putFld 0 62 2 tag) 61 1 (if partner then 1 else 0))
    54 6 (pass % 64)) 38 16 (seq % 65536)) 22 16 prio) 0 22 handle
  w1 ++ res

/-- Deliver one record of the draining bank: its 16 bytes, and the state after it is consumed (R212 to R214, R217). -/
def State.takeRecord (s : State) (q : Nat) : Option (BitVec 128 × State) :=
  let p := s.qp q
  match p.draining with
  | none => none
  | some b =>
    let x := p.bank b
    match x.head? with
    | none => none
    | some (r, x') =>
      let bits := if r.bad != 0 then recBits 2 false x.pass p.seq 0 0 0
        else recBits (if r.poison then 2 else 1) r.partner x.pass p.seq r.prio.toNat r.handle.toNat
          (if r.poison then 0 else r.res)
      let s := if r.bad != 0 then s.raise .mqParity (q + p.ctx * 2 ^ 8) (p.seq % 65536) else s
      let empty := x'.local_.isEmpty && x'.partner.isEmpty
      let p := p.setBank b (if empty then {} else x')
      some (bits, s.setQp q { p with
        seq := p.seq + 1, delivered := satAdd (2 ^ 32 - 1) p.delivered 1,
        poisonSeen := p.poisonSeen || r.bad != 0 || r.poison,
        nextAt := if empty then max p.nextAt (s.tick + 1) else p.nextAt })

/-- Every record has been delivered and no pass is under way (R219). -/
def QPair.spent (p : QPair) : Bool := p.state == 2 && p.bank0.st == 0 && p.bank1.st == 0

/-- The STATUS of the END record (R221). -/
def QPair.outcome (p : QPair) : Nat :=
  match p.endStatus with
  | some st => st
  | none => if p.poisonSeen then St.poisoned else if p.part then St.partial_
    else if p.delivered = 0 then St.noMatch else St.success

/-- The END record (R220). -/
def QPair.endRec (p : QPair) : BitVec 128 :=
  recBits 3 false p.pass p.seq 0 0
    (putFld (putFld (putFld 0 48 16 p.firstCount) 16 32 p.delivered) 0 8 p.outcome)

/-- The body of the ENUMERATE's completion (11 R392). -/
def QPair.endBody (p : QPair) : BitVec 384 :=
  (p.endRec.setWidth 384) ||| ((BitVec.ofNat 384 p.firstTick) <<< 128) ||| ((BitVec.ofNat 384 p.firstGen) <<< 192)

/-- The END record is consumed: the pair is FREE and the ENUMERATE ends with its outcome (R219). -/
def State.endConsumed (s : State) (q : Nat) : State :=
  let p := s.qp q
  let s := s.updCx p.ctx (fun c => { (c.updReq false p.n (fun r =>
    { (r.finish { status := p.outcome, table := p.table } s.tick) with body := some p.endBody })) with mq := none })
  s.setQp q {}

/-- A line whose low 16 bytes hold a record (R215). -/
def recLine (r : BitVec 128) : Line := r.setWidth 512

/-- A NOT_VALID record (R216). -/
def notValid (held : Bool) : BitVec 128 :=
  let w0 : Word := putFld (BitVec.ofNat 64 St.queueEmpty) 8 1 (if held then 1 else 0)
  (0 : BitVec 64) ++ w0

/-- NEXT_READ (R215 to R217, 11 R395, R400): from the bound LD, the read returns and consumes one record, the END record,
or returns a NOT_VALID record; from another LD the page reads as zero. -/
def State.nextRead (s : State) (ld c : Nat) : State :=
  let x := s.cx c
  if !x.assigned || x.ldid != ld then s.send (.line ld c 63 0) else
  match x.mq with
  | none => s.send (.line ld c 63 (recLine (notValid false)))
  | some q =>
    let p := s.qp q
    if p.ring then s.send (.line ld c 63 (recLine (notValid true))) else
    match s.takeRecord q with
    | some (r, s) => s.send (.line ld c 63 (recLine r))
    | none =>
      if p.spent then (s.endConsumed q).send (.line ld c 63 (recLine p.endRec))
      else s.send (.line ld c 63 (recLine (notValid true)))

/-- NEXT_READ. -/
def execNextRead (ld : LdId) (ctx : Id12) (s : State) : Res := whileServing s (fun s => s.nextRead ld.val ctx.val)

/-- Take up to `n` records of the bank under drain. -/
def State.takeRecords (s : State) (q b : Nat) : Nat → List (BitVec 128) × State
  | 0 => ([], s)
  | n + 1 =>
    if (s.qp q).draining != some b then ([], s) else
    match s.takeRecord q with
    | some (r, s) => let rest := s.takeRecords q b n; (r :: rest.1, rest.2)
    | none => ([], s)

/-- MATCH_ENTRY_WRITE (R218): 1 to 3 records of one bank are written in a MATCH entry while the ring has room beside the
reserved entries; the records are consumed. -/
def State.matchWrite (s : State) (q n : Nat) : State :=
  let p := s.qp q
  match p.draining with
  | none => s
  | some b =>
    if !p.ring || n = 0 || !s.cqFree p.ctx || (s.cx p.ctx).state = 3 then s else
    let r := s.takeRecords q b n
    if r.1.isEmpty then s else
    let body : BitVec 384 := (r.1.zip [0, 128, 256]).foldl (fun (w : BitVec 384) e => w ||| ((e.1.setWidth 384) <<< e.2)) 0
    match (s.cx p.ctx).req? false p.n with
    | some rq =>
      let slot := rq.n % 2 ^ s.ringLog (offSq p.ctx)
      r.2.cqWrite p.ctx (fun ph => cqHeader ph 2 r.1.length slot 2 p.table 0 St.success rq.tag) body
    | none => s

/-- MATCH_ENTRY_WRITE. -/
def execMatchEntryWrite (qp : TableId) (n : Fin 4) (s : State) : Res := whileUp s (fun s => s.matchWrite qp.val n.val)

/-! ### Claims and resets (R201, R222 to R224) -/

/-- The lowest-numbered FREE pair (R201). -/
def State.freePair (s : State) : Option Nat := lowest 256 (fun q => (s.qp q).state == 0)

/-- An ENUMERATE that ends before its enumeration starts gives its pair back (R201). -/
def State.dropPair (s : State) (c : Nat) : State :=
  match (s.cx c).mq with
  | some q => (s.updCx c (fun x => { x with mq := none })).setQp q {}
  | none => s

/-- A queue reset (R222, R223): queued passes are withdrawn, records discarded, the pair is FREE, and its ENUMERATE ends
ABORTED. An admitted pass runs on and its records find no pair. The pair is FREE at the tick at which the reset takes effect, so that
QSTATE never reads 3 RESETTING (R222 "returns it to FREE"; log 39). -/
def State.resetQueue (s : State) (q : Nat) : State :=
  let p := s.qp q
  if p.state = 0 then s else
  let s := s.dropOps (fun op => match op.act with | .pass _ _ _ q' false => q' == q | _ => false)
  let s := s.updCx p.ctx (fun c => { (c.updReq false p.n (fun r =>
    { r with phase := 3, outc := some (refusal p.table St.aborted), endTick := s.tick, body := some 0 })) with mq := none })
  s.setQp q {}

/-- What the match-queue side does at the end of a tick without waiting for a command: banks become READY at their tick, and
the drain side takes a READY bank whose other bank is EMPTY (R205, R212). -/
def State.queueClose (s : State) : State :=
  s.mq.foldl (fun s e => (s.bankReady e.1).drainTake e.1) (s.expirePasses s.tick)

/-- The continuation passes that are due enter the queue of input 14 (R208). -/
def State.queueOpen (s : State) : State := s.mq.foldl (fun s e => s.continueQ e.1) s

/-- Reset every pair that satisfies `f`. -/
def State.resetQueuesOf (s : State) (f : QPair → Bool) : State :=
  (s.mq.filter (fun e => f e.2)).foldl (fun s e => s.resetQueue e.1) s

/-- A DISABLE ends the enumerations of its table whose next pass is not admitted (R219, R221). -/
def State.disableQueues (s : State) (t : Nat) : State :=
  (s.mq.filter (fun e => e.2.table == t && e.2.state == 1)).foldl (fun s e =>
    let q := e.1
    let s := s.dropOps (fun op => match op.act with | .pass _ _ _ q' false => q' == q | _ => false)
    let running := s.arb.flights.any (fun f => s.passFor f == some q && !f.committed) ||
      (s.qp q).bank0.st == 1 || (s.qp q).bank1.st == 1
    s.updQp q (fun p => { p with state := if running then p.state else 2, next := none,
                                 endStatus := some St.contextDisabled })) s

end Sys2Proof.Machine
end

