-- ==== Sys2Proof/Machine/Tables.lean ====
section
/-! DEFINITION. Tables: creation, resizing, destruction, migration (04, 05 R183 to R186). -/

namespace Sys2Proof.Machine

/-- The profile of table 255 (07 R248). -/
def dirProfileOf (sweep glade : Nat) : Line :=
  ((BitVec.ofNat 512 0x3FF) <<< 256) ||| ((BitVec.ofNat 512 3) <<< 320) ||| ((BitVec.ofNat 512 2) <<< 328) |||
  ((BitVec.ofNat 512 (glade % 128)) <<< 336) ||| ((BitVec.ofNat 512 2) <<< 344) |||
  ((BitVec.ofNat 512 (sweep % 2 ^ 20)) <<< 384)

/-- The least SWEEP_PERIOD of a table (07 R246). -/
def minSweep (maxBlocks : Nat) : Nat := max 1 ((maxBlocks + 7) / 8)

/-- CREATE_TABLE's storage parameters are in the ranges of R131, and the fields the kind does not use are zero. -/
def createParamsOk (kind maxBlocks : Nat) (blocks : BlockSet) (count units : Nat) : Bool :=
  if isArray kind then
    decide (1 ≤ maxBlocks) && decide (maxBlocks ≤ 128) && decide (1 ≤ ones blocks) &&
    decide (ones blocks ≤ maxBlocks) && count == 0 && units == 0
  else if kind == 1 then
    maxBlocks == 0 && blocks == 0 && decide (1 ≤ count) && decide (count ≤ 1048576) &&
    decide ((count + 1023) / 1024 ≤ units) && decide (1 ≤ units) && decide (units ≤ 1024)
  else if kind == 2 then
    maxBlocks == 0 && blocks == 0 && decide (1 ≤ count) && decide (count ≤ 1048576) && units == 0
  else maxBlocks == 0 && blocks == 0 && count == 0 && units == 0

/-- Table 255 is created as a LEARNING table; its ID may be used for nothing else, nor 254 (04 R103, R104). -/
def createIdOk (table kind : Nat) : Bool := decide (table < 254) || (table == 255 && kind == 4)

/-- The storage a CREATE_TABLE asks for is free (04 R131). -/
def State.createRoom (s : State) (kind maxBlocks : Nat) (blocks : BlockSet) (count units : Nat) : Bool :=
  if isArray kind then
    (blocks &&& ~~~s.blockFree) == 0 && (lowestRun 128 maxBlocks (fun i => s.hmapFree.getLsbD i)).isSome
  else if kind == 1 then (lowestRun 1024 units (fun i => !s.dsram.taken.getLsbD i)).isSome
  else if kind == 2 then decide (count ≤ s.f fPrefixFree)
  else true

/-- The effect of a CREATE_TABLE that passes its checks (04 R131, R112): storage taken, the table DEFINED; table 255
takes the profile of R248 and is left OPEN (R104). -/
def State.create (s : State) (t kind domain maxBlocks : Nat) (blocks : BlockSet) (count units : Nat) : State :=
  let sys := t == 255
  let r : Tbl := { state := if sys then 2 else 1, kind := kind, domain := if sys then 0 else domain, sys := sys,
                   profile := if sys then dirProfileOf 1024 16 else Prof.initial }
  let s := if sys then { s with lrn := s.lrn.opened t (s.tick + 500000 * 1024) } else s
  if isArray kind then
    let base := (lowestRun 128 maxBlocks (fun i => s.hmapFree.getLsbD i)).getD 0
    let s := s.setBlockFree (s.blockFree &&& ~~~blocks)
    let s := s.setHmapFree (s.hmapFree &&& ~~~(runSet 128 base maxBlocks))
    s.setTb t { r with blocks := blocks, hmapBase := base, maxBlocks := maxBlocks }
  else if kind == 1 then
    let base := (lowestRun 1024 units (fun i => !s.dsram.taken.getLsbD i)).getD 0
    let s := s.setUnits (s.dsram.taken ||| runSet 1024 base units)
    s.setTb t { r with regionBase := base, regionSize := units, count := count }
  else if kind == 2 then
    (s.setF fPrefixFree (s.f fPrefixFree - count)).setTb t { r with count := count }
  else s.setTb t r

/-- CREATE_TABLE (04 R131; 18 R629, R631). -/
def execCreateTable (via : OwnerPath) (table : TableId) (kind : Byte) (domain : BitVec 16) (maxBlocks : Byte)
    (blocks : BlockSet) (count : BitVec 32) (units : BitVec 16) (s : State) : Res :=
  whileUp s (fun s =>
    let k := kind.toNat
    let bad := firstBad [
      (decide (4096 ≤ domain.toNat), St.malformed),
      ((s.tb table.val).state != 0 || k == 0 || decide (5 < k) || !createIdOk table.val k ||
        !createParamsOk k maxBlocks.toNat blocks count.toNat units.toNat, St.malformed),
      (!s.createRoom k maxBlocks.toNat blocks count.toNat units.toNat, St.noRoom)]
    s.owner1 via 0x20 bad (fun s => s.create table.val k domain.toNat maxBlocks.toNat blocks count.toNat units.toNat))

/-! ### Rows of a block set -/

/-- The rows of table `t` that lie in a block set. -/
def State.rowsIn (s : State) (t : Nat) (b : BlockSet) : List (Nat × Row) :=
  (s.rowsOf t).filter (fun e => b.getLsbD (blockOf e.1))

/-- Bring blocks to the state of R124: every row free, Z zero, result words zero. -/
def State.clearBlocks (s : State) (b : BlockSet) : State :=
  let s := { s with arr := { s.arr with
    rows := s.arr.rows.filter (fun e => !b.getLsbD (blockOf e.1)),
    z := s.arr.z.filter (fun e => !b.getLsbD (e.1 / 64)),
    zBad := s.arr.zBad.filter (fun e => !b.getLsbD (e.1 / 64)),
    zSeen := s.arr.zSeen.filter (fun e => !b.getLsbD (e.1 / 64)) } }
  { s with
    ras := { s.ras with shadow := s.ras.shadow.filter (fun e => !b.getLsbD (blockOf e.1)),
                        shadowQ := s.ras.shadowQ.filter (fun e => !b.getLsbD (blockOf e.1)),
                        dirty := s.ras.dirty.filter (fun e => !b.getLsbD (blockOf e.1)) },
    mnt := { s.mnt with left := s.mnt.left.filter (fun e => !b.getLsbD (e.1 / 64)) } }

/-- Rows of table `t`'s blocks that are in use or reserved by a write queued or granted, a relocation or a waiting
insert. -/
def State.takenRows (s : State) : List Nat :=
  let ops := (s.queuedOps.map (fun e => e.2.2)) ++ s.arb.flights.map (fun f => f.op) ++ s.arb.resvs.map (fun r => r.op)
  ((s.arr.rows.map (fun e => e.1)) ++
   (ops.filterMap (fun op => match op.act with | .write a _ _ => some a | _ => none)) ++
   s.mnt.relocs.flatMap (fun r => [r.old, r.new]) ++
   s.mnt.tmWait.filterMap (fun e => e.2.reservedRow) ++
   s.dir.reqs.filterMap (fun r => r.write.map (fun w => w.1))).eraseDups

/-! ### Resizing (04 R133, R134) -/

/-- The checks of R133 made before any condition: PRIVILEGE for 254, MALFORMED for FREE and AUTOMATON,
CONTEXT_DISABLED while DESTROYING, MALFORMED for a field the kind does not use. -/
def resizeBad (t : Nat) (r : Tbl) (blocks : BlockSet) (count : Nat) : Option Nat :=
  firstBad [(t == 254, St.privilege), (r.state == 0 || r.kind == 5, St.malformed), (r.state == 4, St.contextDisabled),
    (isArray r.kind && count != 0, St.malformed), (!isArray r.kind && blocks != 0, St.malformed)]

/-- Zero entries [lo, hi) of a DIRECT region (04 R133, R140). -/
def State.zeroEntries (s : State) (base lo hi : Nat) : State :=
  { s with dsram := { s.dsram with
      words := s.dsram.words.filter (fun e => !(decide (base + lo ≤ e.1) && decide (e.1 < base + hi))),
      bad := s.dsram.bad.filter (fun e => !(decide (base + lo ≤ e.1) && decide (e.1 < base + hi))) } }

/-- Start a shrink: step 1 of R134 at commit tick s1, or wait for the lock to end. -/
def State.shrinkStart (s : State) (t : Nat) (via : OwnerPath) (leaving : BlockSet) : State :=
  s.updTb t (fun r => if r.lock.isSome then { r with shrinkWait := some (via, leaving) }
    else { r with shrinking := true, leaving := leaving, shrinkVia := some via, shrinkWait := none })

/-- The status of a resize that passed `resizeBad` (04 R133, R168, R185; 18 R629), or none. -/
def State.resizeCond (s : State) (t : Nat) (r : Tbl) (blocks : BlockSet) (count : Nat) : Option Nat :=
  if isArray r.kind then
    let grow := (r.blocks &&& ~~~blocks) == 0 && blocks != r.blocks
    let shrink := (blocks &&& ~~~r.blocks) == 0 && blocks != r.blocks
    firstBad [
      (r.migration.isSome || r.shrinking || r.shrinkWait.isSome, St.locked),
      (grow && (r.lock.isSome || r.migWait.isSome), St.locked),
      (!grow && !shrink, St.malformed),
      (grow && decide (r.maxBlocks < ones blocks), St.malformed),
      (grow && ((blocks &&& ~~~r.blocks) &&& ~~~s.blockFree) != 0, St.noRoom),
      (shrink && decide (16384 * ones blocks < (s.rowsOf t).length), St.noRoom)]
  else if r.kind == 1 then
    let ib := Prof.idxBits r.profile
    firstBad [(count == 0 || decide (1024 * r.regionSize < count) || (ib != 0 && decide (2 ^ ib < count)), St.noRoom)]
  else
    firstBad [(decide (s.f fPrefixFree + r.count < count) || decide (count < r.prefixes.length) || count == 0, St.noRoom)]

/-- The effect of a resize that passes its conditions (04 R133). -/
def State.resize (s : State) (t : Nat) (r : Tbl) (via : OwnerPath) (blocks : BlockSet) (count : Nat) : State :=
  if isArray r.kind then
    if (r.blocks &&& ~~~blocks) == 0 then
      let s := s.setBlockFree (s.blockFree &&& ~~~(blocks &&& ~~~r.blocks))
      (s.setTb t { r with blocks := blocks, gen := (r.gen + 1) % 65536 }).ownerEnd via 0x21 St.success
    else s.shrinkStart t via (r.blocks &&& ~~~blocks)
  else if r.kind == 1 then
    let s := if count < r.count then s.zeroEntries (1024 * r.regionBase) count r.count else s
    (s.setTb t { r with count := count }).ownerEnd via 0x21 St.success
  else
    let s := s.setF fPrefixFree (s.f fPrefixFree + r.count - count)
    (s.setTb t { r with count := count }).ownerEnd via 0x21 St.success

/-- RESIZE_TABLE (04 R133, R134). -/
def execResizeTable (via : OwnerPath) (table : TableId) (blocks : BlockSet) (count : BitVec 32) (s : State) : Res :=
  whileUp s (fun s =>
    let r := s.tb table.val
    let bad := (resizeBad table.val r blocks count.toNat).or (s.resizeCond table.val r blocks count.toNat)
    s.ownerLong via 0x21 bad (fun s => s.resize table.val r via blocks count.toNat))

/-- A waiting shrink or migration starts once the lock has ended (04 R134, 05 R183). -/
def State.afterLock (s : State) (t : Nat) : State :=
  let r := s.tb t
  if r.lock.isSome then s else
  match r.shrinkWait with
  | some (via, leaving) => s.shrinkStart t via leaving
  | none => match r.migWait with
    | some (via, target) =>
      let s := s.setBlockFree (s.blockFree &&& ~~~target)
      s.updTb t (fun r => { r with mig := target, migration := some { via := via, target := target }, migWait := none })
    | none => s

/-- SHRINK_END (04 R134 step 5): no row of the leaving blocks is staged, live or invalid, nor the target of a write decided
before step 1, so they leave at s2. -/
def State.shrinkEnd (s : State) (t : Nat) : State :=
  let r := s.tb t
  s.when (r.shrinking && r.s2.isNone && s.takenRows.all (fun a => !r.leaving.getLsbD (blockOf a)))
    (fun s => s.setTb t { r with blocks := r.blocks &&& ~~~r.leaving, shrinking := false, s2 := some s.tick,
                                 gen := (r.gen + 1) % 65536 })

/-- SHRINK_BLOCK_CLEAR (04 R134 step 6): from s2 + 24 the leaving blocks are cleared and returned; the shrink
completes. -/
def State.shrinkClear (s : State) (t : Nat) : State :=
  let r := s.tb t
  match r.s2 with
  | some s2 =>
    if s.tick < s2 + 24 then s else
    let s := s.clearBlocks r.leaving
    let s := s.setBlockFree (s.blockFree ||| r.leaving)
    let s := s.setTb t { r with leaving := 0, s2 := none, shrinkVia := none }
    match r.shrinkVia with
    | some via => s.ownerEnd via 0x21 St.success
    | none => s
  | none => s

/-- SHRINK_BLOCK_CLEAR. -/
def execShrinkBlockClear (table : TableId) (s : State) : Res := whileUp s (fun s => s.shrinkClear table.val)

/-! ### Destruction (04 R136 to R140) -/

/-- Everything that names table `t` and has not been admitted ends CONTEXT_DISABLED (04 R137): accepted descriptors and window
searches not at their engine, queued array, trie and direct operations, queued maintenance, mutations that the partner
forwarded and that wait; reservations of cascade-ins are declined (R138). -/
def State.refuseQueued (s : State) (t : Nat) : State :=
  let ops := (s.queuedOps.filter (fun e => e.2.2.table == t)).map (fun e => e.2.2.origin) ++
    (s.mnt.placeQ.filter (fun i => i.table == t)).map (fun i => i.origin) ++
    (s.mnt.tmQ.filter (fun i => i.table == t)).map (fun i => i.origin) ++
    (s.mnt.tmWait.filter (fun i => i.2.table == t)).map (fun i => i.2.origin) ++
    (s.trie.waiting.filter (fun o => o.table == t)).map (fun o => o.origin) ++
    (s.trie.muts.filter (fun o => o.table == t)).map (fun o => o.origin) ++
    (s.dsram.waiting.filter (fun o => o.table == t)).map (fun o => o.origin) ++
    (s.lrn.ops.filter (fun o => o.table == t)).map (fun o => o.origin) ++
    (s.trie.builds.filterMap (fun e => e.2.bind (fun b => if b.op.table == t then some b.op.origin else none))) ++
    (match (s.tb t).bulk with | some b => [b.origin] | none => []) ++
    (s.ctx.flatMap (fun e => (e.2.reqs.filter (fun r => r.phase ≤ 1 && r.table == t && namesTable r.opcode)).map (fun r =>
      if r.window.isSome then Origin.window e.1 r.n else Origin.req e.1 r.n))) ++
    (s.pair.fwdIn.filter (fun e => lineLe e.2.2.2.1 5 1 == t)).map (fun e => Origin.fwd e.1) ++
    (if s.mnt.cmdWait && s.f ⟨0x4d000, 24, 8⟩ == t then [Origin.cmdPath] else [])
  let resv := s.arb.resvs.filter (fun r => r.op.table == t)
  let s := s.dropOps (fun op => op.table == t)
  let s := { s with
    mnt := { s.mnt with placeQ := s.mnt.placeQ.filter (fun i => i.table != t),
                        tmQ := s.mnt.tmQ.filter (fun i => i.table != t),
                        tmWait := s.mnt.tmWait.filter (fun i => i.2.table != t),
                        relocs := s.mnt.relocs.filter (fun r => r.table != t),
                        cmdWait := s.mnt.cmdWait && s.f ⟨0x4d000, 24, 8⟩ != t },
    pair := { s.pair with fwdIn := s.pair.fwdIn.filter (fun e => lineLe e.2.2.2.1 5 1 != t) },
    trie := { s.trie with waiting := s.trie.waiting.filter (fun o => o.table != t),
                          muts := s.trie.muts.filter (fun o => o.table != t),
                          builds := s.trie.builds.filter (fun e => e.1 != t) },
    lrn := { s.lrn with ops := s.lrn.ops.filter (fun o => o.table != t) },
    dsram := { s.dsram with waiting := s.dsram.waiting.filter (fun o => o.table != t) },
    arb := { s.arb with resvs := s.arb.resvs.filter (fun r => r.op.table != t) } }
  let s := resv.foldl (fun s r => match r.op.origin with | .partner t0 => s.decline t0 | _ => s) s
  ops.foldl (fun s o => s.resolve o { refusal t St.contextDisabled with tick := 0 }) s

/-- The lock is discarded: one taken by LOCK counts in DISCARDS (05 R177). -/
def Tbl.dropLock (l : Lock) (r : Tbl) : Tbl :=
  { r with lock := none, discards := if l.bulk then r.discards else satAdd (2 ^ 32 - 1) r.discards 1 }

/-- Free every staged row of a lock and drop its marks (05 R174). -/
def State.discardLock (s : State) (t : Nat) : State :=
  match (s.tb t).lock with
  | none => s
  | some l =>
    let s := l.live.foldl (fun s a => (s.freeRow a).rowLeft a) s
    s.updTb t (Tbl.dropLock l)

/-- DESTROY_TABLE at its commit tick d (04 R136, R137). A lock ends discarded; its staged rows stay as they are until the
storage is cleared (R139). -/
def State.destroyStart (s : State) (t : Nat) (via : OwnerPath) : State :=
  let s := match (s.tb t).lock with | some l => s.updTb t (Tbl.dropLock l) | none => s
  let s := s.resetQueuesOf (fun q => q.table == t)
  let s := s.refuseQueued t
  s.updTb t (fun r => { r with state := 4, destroy := some (via, s.tick), bulk := none, shrinkWait := none,
                               migWait := none })

/-- Whether some LD has an HDM-DB region: a decoder with BI, committed (10 R347, 04 R104). -/
def State.anyDb (s : State) : Bool := (List.range 32).any (fun n => (s.ld n).hasDb)

/-- DESTROY_TABLE (04 R136). -/
def execDestroyTable (via : OwnerPath) (table : TableId) (s : State) : Res :=
  whileUp s (fun s =>
    let r := s.tb table.val
    let bad := firstBad [(table.val == 254 || (table.val == 255 && s.anyDb), St.privilege),
      (r.state == 0, St.malformed), (r.state == 4, St.contextDisabled)]
    s.ownerLong via 0x22 bad (fun s => s.destroyStart table.val via))

/-- Bring segment `i` of each of some blocks to the state of R124. -/
def State.clearSegs (s : State) (b : BlockSet) (i : Nat) : State :=
  let keep (g : Nat) : Bool := g % 64 != i || !b.getLsbD (g / 64)
  let s := { s with arr := { s.arr with
    rows := s.arr.rows.filter (fun e => keep (segOf e.1)),
    z := s.arr.z.filter (fun e => keep e.1),
    zBad := s.arr.zBad.filter (fun e => keep e.1),
    zSeen := s.arr.zSeen.filter (fun e => keep e.1) } }
  { s with
    ras := { s.ras with shadow := s.ras.shadow.filter (fun e => keep (segOf e.1)),
                        shadowQ := s.ras.shadowQ.filter (fun e => keep (segOf e.1)),
                        dirty := s.ras.dirty.filter (fun e => keep (segOf e.1)) },
    mnt := { s.mnt with left := s.mnt.left.filter (fun e => keep e.1) } }

/-- DESTROY_CLEAR_START (04 R140): at d + 24 the table's storage starts to be cleared: the handle map's window, the region,
the prefixes or the image at once, the blocks one segment per tick. -/
def State.destroyClear (s : State) (t : Nat) : State :=
  let r := s.tb t
  match r.destroy with
  | some (_, d) =>
    if s.tick < d + 24 || r.clearStarted then s else
    let s := { s with arr := { s.arr with
      hmap := s.arr.hmap.filter (fun e => e.1 / 2 ^ 22 != t),
      hmapBad := s.arr.hmapBad.filter (fun e => e.1 / 2 ^ 22 != t) } }
    let s := if r.kind == 1 then s.zeroEntries (1024 * r.regionBase) 0 (1024 * r.regionSize) else s
    s.updTb t (fun r => { r with prefixes := [], image := [], clearStarted := true })
  | none => s

/-- DESTROY_CLEAR_START. -/
def execDestroyClearStart (table : TableId) (s : State) : Res := whileUp s (fun s => s.destroyClear table.val)

/-- Segment x - d - 24 of the blocks of a table being destroyed is cleared in tick x, up to d + 87; the clearing starts at
d + 24 whether or not its command has come (04 R140). A migration's old blocks are cleared alike from c + 24 (05 R184). -/
def State.clearTick (s : State) : State :=
  s.tbl.foldl (fun s e =>
    let s := s.destroyClear e.1
    let r := s.tb e.1
    let s := match r.destroy with
      | some (_, d) => s.when (r.clearStarted && decide (d + 24 ≤ s.tick) && decide (s.tick < d + 88))
          (fun s => s.clearSegs (r.placement ||| r.leaving) (s.tick - d - 24))
      | none => s
    match r.migration with
    | some m => match m.cut with
      | some c => s.when (decide (c + 24 ≤ s.tick) && decide (s.tick < c + 88)) (fun s => s.clearSegs m.oldBlocks (s.tick - c - 24))
      | none => s
    | none => s) s

/-- The destruction of a table clears its counters of 07 R263: LRN_CNT[t], and DIR_CNT with table 255. -/
def State.clearCounts (s : State) (t : Nat) : State :=
  let offs := (List.range 4).map (fun j => 0x4e000 + 0x20 * t + 8 * j) ++
    (if t = 255 then [0x4d210, 0x4d218, 0x4d220] else [])
  offs.foldl (fun s o => s.setF ⟨o, 0, 64⟩ 0) s

/-- DESTROY_ID_FREE (04 R140): at d + 88 the ID is FREE and the storage returns to the capacity registers; the command
completes. -/
def State.destroyFree (s : State) (t : Nat) : State :=
  let r := s.tb t
  match r.destroy with
  | some (via, d) =>
    if s.tick < d + 88 || !r.clearStarted then s else
    let s := s.setBlockFree (s.blockFree ||| r.placement ||| r.leaving)
    let s := if isArray r.kind then s.setHmapFree (s.hmapFree ||| runSet 128 r.hmapBase r.maxBlocks) else s
    let s := if r.kind == 1 then s.setUnits (s.dsram.taken &&& ~~~(runSet 1024 r.regionBase r.regionSize)) else s
    let s := if r.kind == 2 then s.setF fPrefixFree (s.f fPrefixFree + r.count) else s
    let s := { s with lrn := s.lrn.closed t }
    let s := s.clearCounts t
    (s.setTb t {}).ownerEnd via 0x22 St.success (commit := some d)
  | none => s

/-- DESTROY_ID_FREE. -/
def execDestroyIdFree (table : TableId) (s : State) : Res := whileUp s (fun s => s.destroyFree table.val)

/-! ### Migration (05 R183 to R186) -/

/-- The checks of R183 in its order. A target set of no block holds no row: NO_ROOM where the table has rows to hold. The
checks are made when the command is taken up, before any wait for a lock or a bulk load (DESIGN CHOICE, log 39). -/
def State.migrateBad (s : State) (t : Nat) (r : Tbl) (target : BlockSet) : Option Nat :=
  firstBad [(t == 254, St.privilege), (r.state == 0 || !isArray r.kind, St.malformed), (r.state == 4, St.contextDisabled),
    (decide (r.maxBlocks < ones target) || (target &&& ~~~s.blockFree) != 0, St.malformed),
    (decide (16384 * ones target < s.liveCount t + s.stagedCount t), St.noRoom),
    (r.shrinking || r.shrinkWait.isSome || r.s2.isSome || r.migration.isSome || r.migWait.isSome, St.locked)]

/-- MIGRATE_TABLE at m0: the target set leaves TBL_BLOCK_FREE and the table is dual-homed (05 R184); while a lock or
bulk load is held it waits (R183). -/
def State.migrate (s : State) (t : Nat) (via : OwnerPath) (target : BlockSet) : State :=
  (s.updTb t (fun r => { r with migWait := some (via, target) })).afterLock t

/-- MIGRATE_TABLE. -/
def execMigrateTable (via : OwnerPath) (table : TableId) (blocks : BlockSet) (s : State) : Res :=
  whileUp s (fun s =>
    s.ownerLong via 0x23 (s.migrateBad table.val (s.tb table.val) blocks) (fun s => s.migrate table.val via blocks))

/-- MIGRATION_CUTOVER (05 R184 step 3): every live row of the old placement has a staged copy; the cut-over state
update is queued at input 12. -/
def State.cutoverStart (s : State) (t : Nat) : State :=
  let r := s.tb t
  match r.migration with
  | some m =>
    let todo := (s.rowsIn t r.blocks).filter (fun e => e.2.live && !(m.copies.any (fun c => c.1 == e.2.handle)))
    if m.cut.isSome || !todo.isEmpty || s.mnt.relocs.any (fun x => x.table == t) ||
       (s.queuedOps.map (fun e => e.2.2) ++ s.arb.flights.map (fun f => f.op)).any (fun op =>
         op.table == t && op.act == .upd 0 .cutover) then s else
    s.enqOp 12 { table := t, act := .upd 0 .cutover, origin := .tm }
  | none => s

/-- The cut-over of table `t` is queued or granted. -/
def State.cutting (s : State) (t : Nat) : Bool :=
  (s.queuedOps.map (fun e => e.2.2) ++ s.arb.flights.map (fun f => f.op)).any (fun op => op.table == t && op.act == .upd 0 .cutover)

/-- The cut-over at its commit tick c (05 R184 step 3): copies whose source is live go live with its H, A, SRC and
result word, source rows retire, the other copies are freed, the placement switches, GENERATION rises. -/
def State.cutover (s : State) (t : Nat) : State :=
  let r := s.tb t
  match r.migration with
  | none => s
  | some m =>
    let s := m.copies.foldl (fun s c =>
      match s.liveRow t c.1 with
      | some o =>
        if r.blocks.getLsbD (blockOf o) then
          let n := (((s.row c.2).takeState (s.row o)).setV true).setG false
          let lw := (s.arow o).lastWrite
          let s := s.commitRow o {} 0
          (s.commitRow c.2 n lw).setHrow t c.1 (some c.2)
        else (s.commitRow c.2 {} 0).rowLeft c.2
      | none => (s.commitRow c.2 {} 0).rowLeft c.2) s
    s.updTb t (fun r => { r with blocks := r.mig, mig := 0, gen := (r.gen + 1) % 65536,
                                 migration := some { m with cut := some s.tick, oldBlocks := r.blocks, copies := [],
                                                            moved := m.copies.map (fun c => c.1) } })

/-- MIGRATION_OLD_CLEAR (05 R184 step 4): the old blocks, cleared from c + 24 one segment per tick, are free at c + 88; the
command completes, no earlier than c + 89. -/
def State.migOldClear (s : State) (t : Nat) : State :=
  let r := s.tb t
  match r.migration with
  | some m =>
    match m.cut with
    | some c =>
      if s.tick < c + 88 then s else
      let s := s.setBlockFree (s.blockFree ||| m.oldBlocks)
      (s.updTb t (fun r => { r with migration := none })).ownerEnd m.via 0x23 St.success (commit := some c)
    | none => s
  | none => s

/-- MIGRATION_OLD_CLEAR. -/
def execMigrationOldClear (table : TableId) (s : State) : Res := whileUp s (fun s => s.migOldClear table.val)

/-! ### Other table commands -/

/-- DIR_PROFILE (07 R248, 04 R113, R118): SWEEP_PERIOD and GLADE_TARGET of table 255. -/
def execDirProfile (via : OwnerPath) (sweep : BitVec 32) (glade : Byte) (s : State) : Res :=
  whileUp s (fun s =>
    let r := s.tb 255
    let bad := firstBad [(r.state == 0, St.malformed), (r.state == 4, St.contextDisabled),
      (decide (64 < glade.toNat) || decide (sweep.toNat < minSweep r.maxBlocks) || decide (1048575 < sweep.toNat),
        St.malformed)]
    s.owner1 via 0x25 bad (fun s => s.updTb 255 (fun r =>
      let p := dirProfileOf sweep.toNat glade.toNat
      { r with profile := p, gen := if p = r.profile then r.gen else (r.gen + 1) % 65536 })))

end Sys2Proof.Machine
end

