-- ==== Sys2Proof/Machine/Hold.lean ====
section
/-! DEFINITION. Handles held (05 R151), rows reserved, candidate segments (05 R155), snoops of the directory path (07 R253). -/

namespace Sys2Proof.Machine

/-! ### R151: one operation per handle -/

/-- The handles an array operation works on. -/
def State.opHandles (s : State) (op : ArrOp) : List Nat :=
  match op.act with
  | .write a r k =>
    match k with
    | .insert v | .learnInsert v => r.handle :: v.toList
    | .update | .stage | .copy | .migCopy | .learnMove | .dirMove => [r.handle]
    | .free | .unstage => [(s.row a).handle]
    | .repair _ | .erase _ => []
  | .upd h u =>
    match u with
    | .hit | .visit | .remove | .dirChange .. | .switch _ => [h]
    | .lockCommit | .lockDiscard | .cutover | .tighten .. => []
  | .read _ => (match op.origin with | .resync h => [h] | _ => [])
  | .search .. | .pass .. => []

/-- A queued relocation step 1 holds nothing until its grant (05 R166). -/
def ArrOp.isCopy (op : ArrOp) : Bool :=
  match op.act with | .write _ _ .copy => true | _ => false

/-- The sweeper's record of table `t`. -/
def State.sweepOf (s : State) (t : Nat) : Option Sweep := SMap.get (fun _ => none) s.lrn.sweeps t

/-- Handle `h` of table `t` is held (05 R151): by an operation queued or granted, an UPDATE carried out as a relocation (R185),
a relocation between its step 1 and its switch, an INSERT that gives it, a learn's claim (07 R235), or a sweeper visit
(07 R244). `but`: a relocation that is left aside. -/
def State.heldH (s : State) (t h : Nat) (but : Option Reloc := none) : Bool :=
  s.arb.flights.any (fun f => f.op.table == t && !f.committed && (s.opHandles f.op).contains h) ||
  s.queuedOps.any (fun e => e.2.2.table == t && !e.2.2.isCopy && (s.opHandles e.2.2).contains h) ||
  s.mnt.relocs.any (fun r => r.table == t && r.handle == h && (r.staged.isSome || r.row.isSome) && some r != but) ||
  (s.mnt.placeQ ++ s.mnt.tmQ ++ s.mnt.tmWait.map (fun e => e.2)).any (fun i =>
    i.table == t && (i.given == some h || i.victim == some h)) ||
  s.lrn.ops.any (fun o => o.table == t && o.handle == some h && o.phase == 2) ||
  (match s.sweepOf t with | some w => w.visits.contains h | none => false) ||
  (t == 255 && s.dir.reqs.any (fun r => r.victim == some h))

/-- A row or handle that a lock marks (05 R175). -/
def State.lockMarked (s : State) (t h : Nat) : Bool :=
  match (s.tb t).lock with
  | some l => l.retire.contains h || l.reserved.contains h || l.live.any (fun a => (s.row a).handle == h)
  | none => false

/-- A movable row (05 R156): S clear, no mark of a lock, its handle not held. -/
def State.movable (s : State) (t : Nat) (r : Row) : Bool :=
  r.live && !r.stat && !s.lockMarked t r.handle && !s.heldH t r.handle

/-! ### Free rows and candidate segments (05 R155, 04 R134) -/

/-- free(s) for the rows taken. -/
def freeIn (taken : List Nat) (seg : Nat) : Nat := 256 - (taken.filter (fun a => segOf a == seg)).length

/-- The lowest free row of a segment. -/
def lowRow (taken : List Nat) (seg : Nat) : Option Nat :=
  (lowest 256 (fun i => !taken.contains (256 * seg + i))).map (fun i => 256 * seg + i)

/-- The blocks that take new placements: the target set of a migration, or the placement without the leaving blocks. -/
def Tbl.openBlocks (r : Tbl) : BlockSet := if r.mig != 0 then r.mig else r.blocks &&& ~~~r.leaving

/-- Whether a shrink refuses an insert: the remaining blocks keep a free row for each row of the leaving blocks
(04 R134 step 3). -/
def State.shrinkFull (s : State) (t : Nat) (taken : List Nat) : Bool :=
  let r := s.tb t
  r.shrinking &&
  decide ((segsOf r.openBlocks).foldl (fun n g => n + freeIn taken g) 0 ≤ (s.rowsIn t r.leaving).length)

/-- The candidate segments C with free rows left aside: (segment, free, growth) (05 R155). -/
def State.cands (s : State) (t : Nat) (taken : List Nat) (e : BitVec 256) : List (Nat × Nat × Nat) :=
  (segsOf (s.tb t).openBlocks).map (fun g => (g, freeIn taken g, ones (e &&& ~~~s.zOf g)))

/-- The better-most of some segments: the higher free(s), then the lower address (05 R155). The list ascends. -/
def betterMost (l : List (Nat × Nat × Nat)) : Option Nat :=
  (l.foldl (fun b x => match b with
    | some y => if y.2.1 < x.2.1 then some x else some y
    | none => some x) (none : Option (Nat × Nat × Nat))).map (fun x => x.1)

/-- The segment of least growth, ties by better (05 R156). -/
def leastGrowth (l : List (Nat × Nat × Nat)) : Option Nat :=
  (l.foldl (fun b x => match b with
    | some y => if x.2.2 < y.2.2 || (x.2.2 == y.2.2 && decide (y.2.1 < x.2.1)) then some x else some y
    | none => some x) (none : Option (Nat × Nat × Nat))).map (fun x => x.1)

/-! ### Handles (05 R145, R146) -/

/-- A handle is free: no row carries it, no mark reserves it, no decision in progress has chosen it. -/
def State.handleFree (s : State) (t h : Nat) : Bool :=
  !(s.rowsOf t).any (fun e => e.2.handle == h) &&
  (match (s.tb t).lock with | some l => !l.reserved.contains h | none => true) &&
  !(s.mnt.placeQ ++ s.mnt.tmQ ++ s.mnt.tmWait.map (fun e => e.2)).any (fun i => i.table == t && i.given == some h) &&
  !((s.queuedOps.map (fun e => e.2.2)) ++ s.arb.flights.map (fun f => f.op)).any (fun op =>
    op.table == t && (match op.act with | .write _ r _ => r.handle == h && r.counted | _ => false)) &&
  !s.dir.reqs.any (fun r => t == 255 && (match r.write with | some w => w.2.handle == h | none => false))

/-- The lowest free handle of the member's range (05 R145). -/
def State.lowHandle (s : State) (t : Nat) : Option Nat :=
  let r := s.tb t
  (lowest (16384 * r.maxBlocks) (fun i => s.handleFree t (r.handleBase + i))).map (fun i => r.handleBase + i)

/-! ### The directory path's snoops (07 R253, R258) -/

/-- DIR_CNT and DIR_STAT fields (07 R263). -/
abbrev fDirMoves : F := ⟨0x4d210, 32, 32⟩
abbrev fDirSnoops : F := ⟨0x4d210, 0, 32⟩
abbrev fDirEvict : F := ⟨0x4d218, 32, 32⟩
abbrev fDirAged : F := ⟨0x4d218, 0, 32⟩
abbrev fDirTimeouts : F := ⟨0x4d220, 32, 32⟩
abbrev fDirSplits : F := ⟨0x4d220, 0, 32⟩
abbrev fSnoopsOpen : F := ⟨0x4d208, 0, 32⟩
abbrev fClaims : F := ⟨0x4d208, 32, 9⟩

/-- DIR_COARSE, MOVE_EVENTS and BI_TIMEOUT_US of DIR_CTRL (07 R263). -/
abbrev fCoarse : F := ⟨0x4d200, 1, 1⟩
abbrev fMoveEvents : F := ⟨0x4d200, 2, 1⟩
abbrev fBiTimeout : F := ⟨0x4d200, 48, 16⟩

/-- The request holds a claim (07 R257). -/
def DirReq.claims (r : DirReq) : Bool := decide (1 ≤ r.phase) && decide (r.phase ≤ 5)
/-- The lines that a request names: its own, and its victim's (07 R257, R258); each a whole page where the second is true. -/
def DirReq.spans (r : DirReq) : List (Nat × Bool) := (r.line, r.page) :: r.also.toList
/-- Two lines or pages have a line in common. -/
def spanMeets (a b : Nat × Bool) : Bool := a.1 / 4096 == b.1 / 4096 && (a.2 || b.2 || a.1 / 64 == b.1 / 64)
/-- Two requests name a common line. -/
def DirReq.meets (a b : DirReq) : Bool := a.spans.any (fun x => b.spans.any (spanMeets x))
/-- The claims that some lines take: 64 for a page (07 R257). -/
def spanClaims (l : List (Nat × Bool)) : Nat := l.foldl (fun n x => n + if x.2 then 64 else 1) 0
/-- The claims held. -/
def State.claimsHeld (s : State) : Nat :=
  (s.dir.reqs.filter DirReq.claims).foldl (fun n r => n + spanClaims r.spans) 0

/-- Change a directory request. -/
def State.updDir (s : State) (id : Nat) (f : DirReq → DirReq) : State :=
  { s with dir := { s.dir with reqs := s.dir.reqs.map (fun r => if r.id == id then f r else r) } }

/-- The port of an LD has left L0 and is down (10 R369, R371): it has lost L0 before, and its rate reads 0. -/
def State.portLost (s : State) (ld : Nat) : Bool :=
  s.f ⟨0x300000 + 0x8000 * (ld / 16), 0, 3⟩ == 0 && s.f ⟨0x300000 + 0x8000 * (ld / 16), 32, 8⟩ != 0

/-- The request is looked up afresh (R235, R257). -/
def State.dirAgain (s : State) (id : Nat) : State :=
  s.updDir id (fun r => { r with phase := 0, found := none, change := .none, queued := false, commit := none, move := none,
                                 split := false, victim := none, write := none, also := none, again := true })

/-- Issue a snoop for a directory request (R253); an LD of a lost port holds nothing (10 R369). -/
def State.snoop (s : State) (id ld line : Nat) (k : BiKind) : State :=
  if s.portLost ld then s else
  let s := s.updDir id (fun r => { r with snoops := r.snoops ++ [(ld, line, s.tick, k)] })
  let s := (s.inc fDirSnoops).setF fSnoopsOpen (s.f fSnoopsOpen + 1)
  s.send (.biSnp ld line k)

/-- The LDs of a SHARERS word. -/
def sharersOf (x : Nat) : List Nat := (List.range 32).filter (fun i => x.testBit i)

/-- Fields of a directory result word (07 R251). -/
def dirState (w : Word) : Nat := fld w 32 2
def dirSharers (w : Word) : Nat := fld w 0 32
def dirCoarse (w : Word) : Bool := bit w 34
/-- A directory result word. -/
def dirWord (coarse : Bool) (st sharers : Nat) : Word :=
  putFld (putFld (putFld 0 34 1 (if coarse then 1 else 0)) 32 2 st) 0 32 sharers

/-- The nibble that a cell names: its lowest member. -/
def nib (c : BitVec 16) : Nat := (lowest 16 (fun i => c.getLsbD i)).getD 0

/-- The line DPA of a directory row (07 R249): of a coarse entry, its page. -/
def dirDpa (r : Row) : Nat :=
  let q := (List.range 8).foldl (fun n i => n + nib (r.cell (i + 2)) * 16 ^ i) 0
  let l := if dirCoarse r.res then 0 else nib (r.cell 0) + 16 * nib (r.cell 1)
  4096 * q + 64 * l

/-- Snoop with BISnpInv every LD of an entry: once for a line entry, for each of the 64 lines of a coarse one; none for
state NONE (R258). `not`: an LD left out. -/
def State.snoopEntry (s : State) (id : Nat) (r : Row) (except : Option Nat) : State :=
  if dirState r.res = 0 then s else
  let lds := (sharersOf (dirSharers r.res)).filter (fun n => some n != except)
  let base := dirDpa r
  let lines := if dirCoarse r.res then (List.range 64).map (fun i => base + 64 * i) else [base]
  lds.foldl (fun s n => lines.foldl (fun s l => s.snoop id n l .inv) s) s

end Sys2Proof.Machine
end

