-- ==== Sys2Proof/Machine/Maint.lean ====
section
/-! DEFINITION. Placement, background work, locks and relocations of table maintenance (05 R149 to R182). -/

namespace Sys2Proof.Machine

/-! ### Locks (05 R167 to R177) -/

/-- Change the lock of a table. -/
def State.updLock (s : State) (t : Nat) (f : Lock → Lock) : State :=
  s.updTb t (fun r => { r with lock := r.lock.map f })

/-- Marks held (05 R177). -/
def Lock.marks (l : Lock) : Nat := l.live.length + l.retire.length + l.reserved.length

/-- Context `c` owns the lock of table `t`, taken by LOCK. -/
def State.ownsLock (s : State) (t c : Nat) : Bool :=
  match (s.tb t).lock with | some l => l.owner == c && !l.bulk | none => false

/-- The lease of a lock taken by LOCK here has ended (05 R172). A lock that repeats the partner's ends with it (log 23). -/
def Lock.expired (l : Lock) (x : Nat) : Bool := !l.bulk && decide (l.owner < 4096) && decide (l.endTick ≤ x)

/-- Whether a lock refuses a mutation of context `c` (05 R168, R172, R173, R179): LOCKED. -/
def State.lockRefuses (s : State) (t c : Nat) : Bool :=
  match (s.tb t).lock with
  | some l => l.bulk || l.owner != c || l.lstate != 1 || l.expired s.tick
  | none => false

/-- A mutation accepted under the lock renews the lease (05 R172). -/
def State.renew (s : State) (t : Nat) : State := s.updLock t (fun l => { l with endTick := s.tick + 500 * l.leaseUs })

/-- Queue an operation of table maintenance on table `t`. -/
def State.enqM (s : State) (t : Nat) (act : Act) (og : Origin) (lock : Option Nat := none) (at_ : Nat := 0) : State :=
  s.enqOp 12 { table := t, act := act, origin := og, lock := lock, enq := at_ }

/-- LRN_CNT fields: word j, low bit, width (07 R263). -/
abbrev fLrn (t j lo n : Nat) : F := ⟨0x4e000 + 0x20 * t + 8 * j, lo, n⟩

/-- Remove a learn that has ended, and note its tick (07 R235). -/
def State.endLearn (s : State) (o : LearnOp) (r : Outc) (mseq : Option Nat := none) : State :=
  let s := { s with lrn := { s.lrn with ops := s.lrn.ops.filter (fun x => x.id != o.id),
                                        last := setNum s.lrn.last o.table s.tick } }
  s.endMut o.table mseq o.origin { r with tick := s.tick }

/-- The origin is a learn. -/
def State.isLearn (_ : State) (og : Origin) : Bool := match og with | .learn _ => true | _ => false

/-- A lock held for both members of a CASCADE table, or for a MIRROR table at home, ends at the partner too (05 R174, R176):
from the member of its owner, an ABANDON goes to the other. -/
def State.discardFar (s : State) (t : Nat) (l : Lock) (ender : Option Origin) : State :=
  s.when (s.isCascade t && !l.bulk && decide (l.owner < 4096) && s.pst == .paired && (!s.isAway || ender.isNone))
    (fun s => s.forward .tm l.owner s.tick (BitVec.ofNat 512 (0x18 + t * 2 ^ 40)) 0)

/-- The learns of a lock's owner whose change is not granted end LOCKED (05 R174, 07 R237). -/
def State.endLockLearns (s : State) (t : Nat) : State :=
  let granted (o : LearnOp) : Bool := s.arb.flights.any (fun f => f.op.origin == .learn o.id &&
    (match f.op.act with | .write .. => true | _ => false)) ||
    (s.queuedOps.any (fun e => e.2.2.origin == .learn o.id && (match e.2.2.act with | .write _ _ .unstage => true | _ => false)))
  (s.lrn.ops.filter (fun o => o.table == t && o.lock.isSome && !granted o)).foldl
    (fun s o => s.endLearn o (refusal t St.locked)) s

/-- Begin a discard (05 R174): no further staged write of the lock is granted; the owner's mutations whose staged writes are
not yet granted and its COMMIT end LOCKED; the discard is queued. A row write that frees a staged row already replaced is
left to the discard: its mutation has its staged row. -/
def State.startDiscard (s : State) (t : Nat) (ender : Option Origin) : State :=
  match (s.tb t).lock with
  | none => s
  | some l =>
    let mine (op : ArrOp) : Bool := op.table == t && op.stages
    let replaced (op : ArrOp) : Bool := match op.act with
      | .write a _ .unstage => l.live.any (fun b => b != a && (s.row b).handle == (s.row a).handle)
      | _ => false
    let queued := (s.queuedOps.map (fun e => e.2.2)).filter mine
    let drop := (queued.filter (fun op => !replaced op)).map (fun op => op.origin) ++
      ((s.mnt.placeQ ++ s.mnt.tmQ ++ s.mnt.tmWait.map (fun e => e.2)).filter (fun i => i.table == t && i.lock.isSome)).map
        (fun i => i.origin)
    let done := queued.filter replaced
    let commit := (s.queuedOps.filter (fun e => e.2.2.table == t && e.2.2.act == .upd 0 .lockCommit)).map (fun e => e.2.2.origin)
    let granted := s.arb.flights.any (fun f => f.op.table == t && f.op.act == .upd 0 .lockCommit)
    if granted then s else
    let s := s.endLockLearns t
    let s := s.dropOps (fun op => mine op || (op.table == t && op.act == .upd 0 .lockCommit))
    let s := done.foldl (fun s op =>
      let h := match op.act with | .write a _ _ => (s.row a).handle | _ => 0
      match s.lrn.ops.find? (fun o => op.origin == .learn o.id) with
      | some o => s.endLearn o { status := St.success, table := t, handle := h, outcome := o.outcome }
      | none => s.resolve op.origin { status := St.success, tick := op.enq, table := t, handle := h }) s
    let drop := drop.filter (fun og => !s.isLearn og)
    let s := { s with mnt := { s.mnt with
      placeQ := s.mnt.placeQ.filter (fun i => !(i.table == t && i.lock.isSome)),
      tmQ := s.mnt.tmQ.filter (fun i => !(i.table == t && i.lock.isSome)),
      tmWait := s.mnt.tmWait.filter (fun e => !(e.2.table == t && e.2.lock.isSome)) } }
    let s := (drop ++ commit).foldl (fun s o => s.resolve o (refusal t St.locked)) s
    let s := s.updLock t (fun l => { l with lstate := 3, reserved := [], accept := s.tick, ender := ender })
    if l.lstate = 3 then s else (s.enqM t (.upd 0 .lockDiscard) .tm none (s.tick + 1)).discardFar t l ender

/-- LEASE_EXPIRY (05 R172, R174). -/
def execLeaseExpiry (table : TableId) (s : State) : Res :=
  whileUp s (fun s => match (s.tb table.val).lock with
    | some l => s.when (l.lstate == 1 && l.expired s.tick) (fun s => s.startDiscard table.val none)
    | none => s)

/-- The leases that end in this tick, and were not renewed or committed, are discarded (05 R172, R174). -/
def State.leaseClose (s : State) : State :=
  s.tbl.foldl (fun s e => match (s.tb e.1).lock with
    | some l => s.when (l.lstate == 1 && l.expired s.tick) (fun s => s.startDiscard e.1 none)
    | none => s) s

/-- The load is home's, of which away holds the staged records (15 R529). -/
def Bulk.isMirror (b : Bulk) : Bool := match b.origin with | .mirror .. => true | _ => false

/-- A bulk load fails: its request ends, its staged rows and lock are discarded, nodes built for it are dropped (05 R182). One
whose commit is granted has been admitted and completes. -/
def State.failLoad (s : State) (t st : Nat) : State :=
  match (s.tb t).bulk with
  | some b =>
    if s.arb.flights.any (fun f => f.op.table == t && f.op.act == .upd 0 .lockCommit) then s else
    let s := s.updTb t (fun r => { r with bulk := none })
    let s := { s with trie := { s.trie with
      muts := s.trie.muts.filter (fun o => o.table != t || o.act != TAct.load),
      builds := s.trie.builds.filter (fun e => match e.2 with | some x => e.1 != t || x.op.act != TAct.load | none => true) } }
    (s.resolve b.origin (refusal t st)).startDiscard t none
  | none => s

/-! ### Ends of inserts -/

/-- A learn that makes no change takes a decision tick (07 R232, R235): no learn of its table comes before it, and the tick is
later than the last one assigned. -/
def State.learnFirst (s : State) (o : LearnOp) : Bool :=
  decide (num s.lrn.last o.table < s.tick) &&
  (match s.lrn.ops.find? (fun x => x.table == o.table) with | some x => x.id == o.id | none => true)

/-- An insert finds no room (05 R157): its request ends NO_ROOM; a learn takes outcome NO_ROOM (07 R229, R239); a bulk load
fails; a directory insert waits and is placed again (01 R16). -/
def State.noRoom (s : State) (i : Ins) : State :=
  match i.origin with
  | .learn id =>
    match s.lrn.ops.find? (fun o => o.id == id) with
    | some o =>
      if !s.learnFirst o then
        { s with mnt := { s.mnt with placeQ := s.mnt.placeQ ++ [{ i with at_ := s.tick - 3, reservedRow := none }] } }
      else
      let s := s.inc (fLrn o.table 2 0 16)
      let s := s.raise .learnNoRoom (argTH o.table 0 o.src) 0
      s.endLearn o { status := St.noRoom, table := o.table, outcome := 5 }
    | none => s
  | .dir _ => { s with mnt := { s.mnt with placeQ := s.mnt.placeQ ++ [{ i with at_ := s.tick }] } }
  | og =>
    if i.bulk then s.failLoad i.table St.noRoom
    else
      let s := match i.given with
        | some h => s.updLock i.table (fun l => { l with reserved := l.reserved.erase h })
        | none => s
      s.resolve og { refusal i.table St.noRoom with tick := s.tick }

/-! ### Placement (05 R149, R156 to R160) -/

/-- The row an insert writes: handle, TABLE, and V or, under a lock or load, G (05 R142, R163, R169). -/
def Ins.rowOf (i : Ins) (h : Nat) : Row :=
  let r := ((i.row.setHandle h).setTable i.table)
  if i.lock.isSome then (r.setV false).setG true else (r.setV true).setG false

/-- The input of an insert's row write (02 R55, 07 R258). -/
def Ins.input (i : Ins) : Nat :=
  match i.origin with | .learn _ => 10 | .dir _ => 9 | _ => 12

/-- Queue the row write of a placed insert at the tick after the decision (05 R149). -/
def State.placeAt (s : State) (i : Ins) (h a : Nat) (victim : Option Nat) : State :=
  let k : WKind := if i.lock.isSome then .stage else if i.learn then .learnInsert victim else .insert victim
  let s := match i.lock with
    | some _ => if i.upd then s else s.updLock i.table (fun l => { l with reserved := l.reserved.erase h ++ [h] })
    | none => s
  let op : ArrOp := { table := i.table, act := .write a (i.rowOf h) k, origin := i.origin, enq := s.tick + 1, lock := i.lock,
                      named := i.given.map (fun g => (4096, g)) }
  let s := s.enqOp i.input op
  match i.origin with
  | .learn id => if i.upd then s else { s with lrn := { s.lrn with ops := s.lrn.ops.map (fun o =>
      if o.id == id then { o with handle := some h, row := some a } else o) } }
  | _ => s

/-- The LFSR step of R159. -/
def evictStep (s : Nat) : Nat := if s % 2 = 1 then Nat.xor (s / 2) 0x80200003 else s / 2

/-- MAINT_EVICT_SEED.STATE (05 R194). -/
abbrev fEvictSeed : F := ⟨0x4d020, 0, 32⟩

/-- Lines claimed by directory requests (07 R257): the page or line of a row. -/
def State.dirClaimed (s : State) (r : Row) : Bool :=
  s.dir.reqs.any (fun q => q.claims && q.spans.any (spanMeets (dirDpa r, dirCoarse r.res)))

/-- The victims that may be chosen for entry `e` (05 R157, 07 R258): (row, content). -/
def State.victims (s : State) (t : Nat) (e : BitVec 256) : List (Nat × Row) :=
  let c := segsOf (s.tb t).openBlocks
  let cov := c.filter (fun g => (e &&& ~~~s.zOf g) == 0)
  let segs := if cov.isEmpty then c else cov
  (s.rowsOf t).filter (fun x => segs.contains (segOf x.1) && s.movable t x.2 &&
    !s.mnt.tmWait.any (fun w => w.2.reservedRow == some x.1) && (t != 255 || !s.dirClaimed x.2))

/-- The order of R158: a tuple that is least for the oldest row. -/
def State.ageKey (s : State) (x : Nat × Row) : Nat :=
  (((if x.2.a then 0 else 1) * 2 + (if x.2.h then 1 else 0)) * 2 ^ 64 + (s.arow x.1).lastWrite % 2 ^ 64) * 2 ^ 22 + x.2.handle

/-- The first element of a list with the least key. -/
def leastBy {α : Type} (f : α → Nat) (l : List α) : Option α :=
  l.foldl (fun b x => match b with
    | some y => if f x < f y then some x else some y
    | none => some x) none

/-- The victim of step 4 by the profile's EVICT (05 R157 to R159): its row and content. -/
def State.victim (s : State) (t : Nat) (e : BitVec 256) : Option (Nat × Row) × State :=
  let vs := s.victims t e
  match Prof.evict (s.tb t).profile with
  | 1 =>
    if vs.isEmpty then (none, s) else
    let n := evictStep (s.f fEvictSeed)
    let sorted := sortBy (fun (e : Nat × Row) => e.2.handle) vs
    (sorted[n % sorted.length]?, s.setF fEvictSeed n)
  | 2 => (leastBy s.ageKey vs, s)
  | _ => (none, s)

/-- A relocation of handle `h` of table `t` is queued or under way. -/
def State.moving (s : State) (t h : Nat) : Bool := s.mnt.relocs.any (fun r => r.table == t && r.handle == h)

/-- Step 4 (05 R157, R160; 07 R258): an insert under a lock or a bulk record never evicts. A directory victim is snooped
before its row is reused, and its lines are claimed till then. Where no handle is free, the new entry takes the victim's, which
its own commit frees (DESIGN CHOICE, log 39). -/
def State.evictOr (s : State) (i : Ins) (h : Option Nat) : State :=
  if i.lock.isSome then s.noRoom i else
  let r := s.victim i.table (i.row.canopy (s.tb i.table).gov)
  match r.1 with
  | none => r.2.noRoom i
  | some (a, v) =>
    let h := h.getD v.handle
    match i.origin with
    | .dir id =>
      let span := (dirDpa v, dirCoarse v.res)
      if 256 < r.2.claimsHeld + spanClaims [span] then r.2.noRoom i else
      let s := r.2.updDir id (fun q => { q with victim := some v.handle, write := some (a, i.rowOf h), also := some span })
      (s.inc fDirEvict).snoopEntry id v none
    | _ => r.2.placeAt i h a (some v.handle)

/-- The placement engine's decision on one insert: steps 1, 2 and 4; step 3 waits for the table manager (05 R156). A
mirrored placement at away runs step 3b here (15 R528). -/
def State.decideIns (s : State) (i : Ins) : State :=
  let t := i.table
  match (match i.given with | some h => some h | none => s.lowHandle t) with
  | none => s.evictOr i none
  | some h =>
    match i.victim, i.mirrored with
    | some v, true =>
      match s.hrow t v with
      | some a => s.placeAt i h a (some v)
      | none => s.noRoom i
    | _, _ =>
      let p := (s.tb t).gov
      let taken := s.takenRows
      let full := s.shrinkFull t taken && !i.mirrored
      let cs := if full then [] else (s.cands t taken (i.row.canopy p)).filter (fun c => decide (1 ≤ c.2.1))
      let put (g : Nat) : State := match lowRow taken g with
        | some a => s.placeAt i h a none
        | none => s
      match betterMost (cs.filter (fun c => c.2.2 == 0)) with
      | some g => put g
      | none =>
        match leastGrowth (cs.filter (fun c => decide (Prof.gladeTarget p < c.2.1))) with
        | some g => put g
        | none =>
          if cs.isEmpty && (s.ras.mpRunning || i.mirrored) then s.evictOr i (some h)
          else if i.mirrored then (match leastGrowth cs with | some g => put g | none => s)
          else { s with mnt := { s.mnt with tmQ := s.mnt.tmQ ++ [i] } }

/-- A record of a bulk load waits while an earlier one of its image waits for the table manager (05 R181). -/
def State.imageTurn (s : State) (i : Ins) : Bool :=
  !i.bulk || !(s.mnt.tmQ ++ s.mnt.tmWait.map (fun e => e.2)).any (fun x => x.bulk && x.table == i.table)

/-- PLACEMENT_DECISION (05 R149): one insert per tick, in arrival order, at a + 4 or later. -/
def State.placement (s : State) : State :=
  if s.mnt.lastDecision == some s.tick then s else
  match s.mnt.placeQ.find? s.imageTurn with
  | none => s
  | some i =>
    if s.tick < i.at_ + 4 then s else
    let s := { s with mnt := { s.mnt with placeQ := s.mnt.placeQ.erase i, lastDecision := some s.tick } }
    s.decideIns i

/-- PLACEMENT_DECISION. -/
def execPlacementDecision (s : State) : Res := whileUp s State.placement

/-! ### Relocation (05 R161 to R166) -/

/-- The staged row of step 1: the entry's cells, PRIORITY, HANDLE, S and result word, with G set and V clear; H, A and SRC
follow at the switch (05 R163, R164, 03 R72). An UPDATE in a migration carries its own image, with its SRC (05 R185). -/
def State.copyRow (s : State) (r : Reloc) : Row :=
  match r.row with
  | some i => ((i.setH false).setA false |>.setV false).setG true
  | none => (s.row r.old).bare

/-- Queue step 1 of a relocation: row `n` staged with the entry (05 R163), or with the updated image of an UPDATE in a
migration (05 R185). -/
def State.startReloc (s : State) (t old new : Nat) (image : Option Row) (og : Origin) : State :=
  let r : Reloc := { table := t, handle := (s.row old).handle, old := old, new := new, row := image, origin := og }
  let s := { s with mnt := { s.mnt with relocs := s.mnt.relocs ++ [r] } }
  s.enqM t (.write new (s.copyRow r) .copy) og

/-- The relocation whose step 1 an operation is. -/
def State.relocOf (s : State) (op : ArrOp) : Option Reloc :=
  match op.act with
  | .write n _ .copy => s.mnt.relocs.find? (fun r => r.new == n && r.table == op.table && r.staged.isNone)
  | _ => none

/-- Step 1 of a relocation writes the entry as it stands when it is granted (05 R163, R166): queued copies follow their row. -/
def State.refreshCopies (s : State) : State :=
  let fresh (op : ArrOp) : ArrOp :=
    match op.act, s.relocOf op with
    | .write n _ .copy, some r => { op with act := .write n (s.copyRow r) .copy }
    | _, _ => op
  { s with arb := { s.arb with ifaces := s.arb.ifaces.map (fun e => (e.1, { e.2 with q := e.2.q.map fresh })) } }

/-- The check of R166 on a step 1: row o live, its handle not held, no lock mark. -/
def State.relocOk (s : State) (r : Reloc) : Bool :=
  (s.row r.old).live && (s.row r.old).handle == r.handle && (s.row r.old).table == r.table &&
  !s.lockMarked r.table r.handle && !s.heldH r.table r.handle (some r)

/-- The check at the tick of a grant: no operation on a table that is being destroyed (04 R138), and R166 for step 1 of a
relocation. -/
def State.grantOk (s : State) (op : ArrOp) : Bool :=
  (s.tb op.table).state != 4 &&
  (match op.act with
   | .write _ _ .copy => (match s.relocOf op with | some r => s.relocOk r | none => false)
   | _ => true)

/-- An insert that waits on the relocation of handle `h` goes on (05 R156 step 3a): it takes the row left in the next
tick, or is placed afresh from step 1 when the entry has not left it. -/
def State.releaseWait (s : State) (t h : Nat) : State :=
  match s.mnt.tmWait.find? (fun e => e.1 == h && e.2.table == t) with
  | none => s
  | some e =>
    let i := e.2
    let s := { s with mnt := { s.mnt with tmWait := s.mnt.tmWait.erase e } }
    match i.reservedRow with
    | some y =>
      if (s.row y).isFree then
        match (match i.given with | some g => some g | none => s.lowHandle t) with
        | some g => s.placeAt i g y none
        | none => s.noRoom i
      else { s with mnt := { s.mnt with placeQ := { i with reservedRow := none, at_ := s.tick - 3 } :: s.mnt.placeQ } }
    | none => s

/-- What the arbitration of this tick withdrew: a relocation does not start, and an insert that waits on it goes on (05 R166);
another operation of a table that is being destroyed ends CONTEXT_DISABLED (04 R137, R138). -/
def State.settleWithdrawn (s : State) : State :=
  let ops := s.arb.withdrawn
  let s := { s with arb := { s.arb with withdrawn := [] } }
  ops.foldl (fun s op =>
    match s.relocOf op with
    | some r =>
      let s := { s with mnt := { s.mnt with relocs := s.mnt.relocs.erase r } }
      let s := match r.origin with
        | .tm => s
        | og => s.resolve og { refusal r.table St.noMatch with tick := s.tick }
      s.releaseWait r.table r.handle
    | none =>
      if op.isCopy then s else s.resolve op.origin { refusal op.table St.contextDisabled with tick := s.tick }) s

/-- TABLE_MANAGER_PLACEMENT (05 R156 steps 3a and 3b): the first insert that waits for the table manager. -/
def State.tmPlace (s : State) : State :=
  if !s.ras.mpRunning then s else
  match s.mnt.tmQ with
  | [] => s
  | i :: rest =>
    let s := { s with mnt := { s.mnt with tmQ := rest } }
    let t := i.table
    let p := (s.tb t).gov
    let taken := s.takenRows
    let cs := if s.shrinkFull t taken then [] else s.cands t taken (i.row.canopy p)
    let dest (g : Nat) (y : Row) : Option Nat := betterMost ((s.cands t taken (y.canopy p)).filter (fun c =>
      c.1 != g && decide (1 ≤ c.2.1) && c.2.2 == 0))
    let pick := (cs.filter (fun c => c.2.2 == 0)).findSome? (fun c =>
      ((s.rowsOf t).filter (fun e => segOf e.1 == c.1 && s.movable t e.2 && !s.moving t e.2.handle)).findSome? (fun e =>
        (dest c.1 e.2).map (fun u => (e.1, e.2.handle, u))))
    match pick with
    | some (y, h, u) =>
      match lowRow taken u with
      | some n =>
        let s := s.startReloc t y n none .tm
        { s with mnt := { s.mnt with tmWait := s.mnt.tmWait ++ [(h, { i with reservedRow := some y })] } }
      | none => s
    | none =>
      let fs := cs.filter (fun c => decide (1 ≤ c.2.1))
      match (match i.given with | some h => some h | none => s.lowHandle t) with
      | none => s.noRoom i
      | some h =>
        match leastGrowth fs with
        | some g => (match lowRow taken g with | some a => s.placeAt i h a none | none => s)
        | none => s.evictOr i h

/-- TABLE_MANAGER_PLACEMENT. -/
def execTableManagerPlacement (s : State) : Res := whileUp s State.tmPlace

/-- The bytes that Z of a segment must hold: those of its staged, live and invalid rows, and of the row writes granted to it
that have not committed (03 R91). -/
def State.segCanopy (s : State) (p : Line) (seg : Nat) : BitVec 256 :=
  let rows := (s.arr.rows.filter (fun e => segOf e.1 == seg && e.2.row.counted)).map (fun e => e.2.row)
  let writes := s.arb.flights.filterMap (fun f => match f.op.act with
    | .write a r _ => if segOf a == seg && r.counted && !f.committed then some r else none
    | _ => none)
  (rows ++ writes).foldl (fun b r => b ||| r.canopy p) 0

/-- The table whose placement holds a block. -/
def State.tableOf (s : State) (b : Nat) : Option Nat :=
  (s.tbl.find? (fun e => isArray e.2.kind && e.2.placement.getLsbD b)).map (fun e => e.1)

/-- The segment a row of a leaving block moves to: as R156 places an entry, steps 1, 2 and 3b (04 R134). -/
def State.moveTo (s : State) (t : Nat) (taken : List Nat) (r : Row) : Option Nat :=
  let p := (s.tb t).gov
  let cs := (s.cands t taken (r.canopy p)).filter (fun c => decide (1 ≤ c.2.1))
  match betterMost (cs.filter (fun c => c.2.2 == 0)) with
  | some g => some g
  | none => match leastGrowth (cs.filter (fun c => decide (Prof.gladeTarget p < c.2.1))) with
    | some g => some g
    | none => leastGrowth cs

/-- Start the relocations of the rows of the leaving blocks (04 R134 step 2). -/
def State.shrinkMoves (s : State) (t : Nat) : State :=
  if !(s.tb t).shrinking || !s.ras.mpRunning then s else
  (s.rowsIn t (s.tb t).leaving).foldl (fun s e =>
    if !e.2.live || s.moving t e.2.handle || s.heldH t e.2.handle then s else
    let taken := s.takenRows
    match s.moveTo t taken e.2 with
    | some g => (match lowRow taken g with | some n => s.startReloc t e.1 n none .tm | none => s)
    | none => s) s

/-- GLADE_RESTORE (05 R161): one movable row leaves a segment whose free rows fell below GLADE_TARGET, for a segment that
covers it and has more free rows than the target. In a leaving block, the row leaves for the remaining blocks. -/
def State.gladeRestore (s : State) (seg : Nat) : State :=
  if !s.ras.mpRunning then s else
  match s.tableOf (seg / 64) with
  | none => s
  | some t =>
    let r := s.tb t
    if r.shrinking && r.leaving.getLsbD (seg / 64) then s.shrinkMoves t else
    let taken := s.takenRows
    let g := Prof.gladeTarget r.profile
    if r.state = 4 || g ≤ freeIn taken seg || !r.openBlocks.getLsbD (seg / 64) then s else
    let rows := (s.rowsOf t).filter (fun e => segOf e.1 == seg && s.movable t e.2 && !s.moving t e.2.handle)
    let pick := rows.findSome? (fun e =>
      (betterMost ((if s.shrinkFull t taken then [] else s.cands t taken (e.2.canopy r.profile)).filter (fun c =>
        c.1 != seg && decide (g < c.2.1) && c.2.2 == 0))).map (fun u => (e.1, u)))
    match pick with
    | some (y, u) => (match lowRow taken u with | some n => s.startReloc t y n none .tm | none => s)
    | none => s

/-- GLADE_RESTORE. -/
def execGladeRestore (seg : Fin 8192) (s : State) : Res := whileUp s (fun s => s.gladeRestore seg.val)

/-- CANOPY_TIGHTEN (05 R162, 03 R92, R93): the table manager computes Z of a segment anew and issues a tightening when it
is smaller or a word fails its parity. -/
def State.canopyTighten (s : State) (seg : Nat) : State :=
  if !s.ras.mpRunning || num s.mnt.left seg = 0 then s else
  match s.tableOf (seg / 64) with
  | none => s
  | some t =>
    let p := (s.tb t).gov
    let z := s.segCanopy p seg
    let pend := (s.queuedOps.map (fun e => e.2.2)).any (fun op => match op.act with | .upd _ (.tighten g _ _) => g == seg | _ => false)
    if pend || (s.tb t).state = 4 then s
    else if (z &&& s.zOf seg) == z && z != s.zOf seg || s.zBadOf seg != 0 then
      s.enqM t (.upd 0 (.tighten seg z s.tick)) .tm
    else { s with mnt := { s.mnt with left := setNum s.mnt.left seg 0 } }

/-- CANOPY_TIGHTEN. -/
def execCanopyTighten (seg : Fin 8192) (s : State) : Res := whileUp s (fun s => s.canopyTighten seg.val)

/-! ### Migration copies (05 R181, R184) -/

/-- Copy the live rows of the old placement that have no copy yet into the target set, placed by R181 when it is empty
and by R156 otherwise (05 R184 step 2). -/
def State.migCopies (s : State) (t : Nat) : State :=
  let r := s.tb t
  match r.migration with
  | none => s
  | some m =>
    if !s.ras.mpRunning || m.cut.isSome then s else
    let pend (h : Nat) : Bool := (s.queuedOps.map (fun e => e.2.2) ++ s.arb.flights.map (fun f => f.op)).any (fun op =>
      op.table == t && (match op.act with | .write _ x .migCopy => x.handle == h | _ => false))
    let todo := sortBy (fun (e : Nat × Row) =>
        (lowest 256 (fun i => (e.2.canopy r.profile).getLsbD i)).getD 256 * 2 ^ 22 + e.2.handle)
      ((s.rowsIn t r.blocks).filter (fun e => e.2.live && !m.copies.any (fun c => c.1 == e.2.handle) &&
        !pend e.2.handle && !s.heldH t e.2.handle))
    let empty := s.takenRows.all (fun a => !m.target.getLsbD (blockOf a))
    todo.foldl (fun s e =>
      let taken := s.takenRows
      let seg := if empty then
          (match (segsOf m.target).find? (fun g => decide (Prof.gladeTarget r.profile < freeIn taken g)) with
           | some g => some g
           | none => (segsOf m.target).find? (fun g => decide (1 ≤ freeIn taken g)))
        else s.moveTo t taken e.2
      match seg with
      | some g => (match lowRow taken g with
        | some n => s.enqM t (.write n e.2.bare .migCopy) .tm
        | none => s)
      | none => s) s

/-- SHRINK_END (04 R134): with rows left in the leaving blocks the table manager starts their relocations. -/
def execShrinkEnd (table : TableId) (s : State) : Res :=
  whileUp s (fun s => (s.shrinkEnd table.val).shrinkMoves table.val)

/-- MIGRATION_CUTOVER (05 R184): with copies missing the table manager queues them. -/
def execMigrationCutover (table : TableId) (s : State) : Res :=
  whileUp s (fun s => (s.cutoverStart table.val).migCopies table.val)

/-- The operation is a step of relocation `r`. -/
def ArrOp.ofReloc (op : ArrOp) (r : Reloc) : Bool :=
  op.table == r.table && (match op.act with
    | .write a _ .copy => a == r.new
    | .upd _ (.switch n) => n == r.new
    | _ => false)

/-- Withdraw a relocation: its queued and granted steps, and its staged copy (05 R166). -/
def State.dropReloc (s : State) (r : Reloc) : State :=
  let s := s.dropOps (fun op => op.ofReloc r)
  let s := s.cutFlights (fun f => !f.committed && f.op.ofReloc r)
  let s := { s with mnt := { s.mnt with relocs := s.mnt.relocs.erase r } }
  if r.staged.isSome then (s.commitRow r.new {} 0).rowLeft r.new else s

end Sys2Proof.Machine
end

