-- ==== Sys2Proof/Machine/Desc.lean ====
section
/-! DEFINITION. Descriptors: the header, the bodies, and the checks of R658 (11 R385 to R389). -/

namespace Sys2Proof.Machine

/-! ### Bodies (R386, R387) -/

/-- The bits of `n` bytes from byte `o` of a slot. -/
def span (o n : Nat) : Line := (BitVec.ofNat 512 (2 ^ (8 * n) - 1)) <<< (8 * o)
/-- The bits of a field of `n` bits from byte `o`. -/
def spanBits (o n : Nat) : Line := (BitVec.ofNat 512 (2 ^ n - 1)) <<< (8 * o)

namespace Req
/-- The row image of an INSERT or UPDATE. -/
def image (r : Req) : Row := Row.ofImage ((bytesOf 64 r.slot1).drop 16 ++ ((bytesOf 64 r.slot2).drop 8).take 48)
/-- HANDLE at 0x10, and HANDLE of an array UPDATE at slot 2 0x38. -/
def handle1 (r : Req) : Nat := lineLe r.slot1 0x10 4
def handle2 (r : Req) : Nat := lineLe r.slot2 0x38 4
/-- PREFIX, LENGTH and RESULT of a PREFIX body. -/
def pfx (r : Req) : BitVec 128 := r.slot1.extractLsb' 128 128
def len (r : Req) : Nat := lineLe r.slot1 0x28 1
def pfxRes (r : Req) : Word := r.slot1.extractLsb' 256 64
/-- ENTRY of a DIRECT body. -/
def entry (r : Req) : Word := r.slot1.extractLsb' 192 64
/-- Flag bit 0. -/
def flag0 (r : Req) : Bool := r.flags.testBit 0
/-- Flag bit 1. -/
def flag1 (r : Req) : Bool := r.flags.testBit 1
/-- The search key of the request: a window line (R396), a set-key body, or a key body (R387). -/
def key (r : Req) : SearchKey :=
  if r.window.isSome then
    { key := r.slot1.extractLsb' 0 160, gmask := r.slot1.extractLsb' 160 160, leave := r.slot1.extractLsb' 320 40 }
  else if r.flag0 then { set := some (r.slot2.extractLsb' 64 256 ++ r.slot1.extractLsb' 128 384) }
  else { key := r.slot1.extractLsb' 128 160, gmask := r.slot1.extractLsb' 288 160, leave := r.slot1.extractLsb' 448 40 }
/-- The given handle of an array INSERT. -/
def given (r : Req) : Option Nat := if r.flag0 then some r.image.handle else none
/-- The handle that an array request names. -/
def target (r : Req) : Option Nat :=
  if r.opcode = 0x10 then r.given
  else if r.opcode = 0x11 then some r.handle2
  else if r.opcode = 0x12 || r.opcode = 0x13 then some r.handle1
  else none
/-- The profile image of a SET_PROFILE (R386, 04 R110). -/
def profile (r : Req) : Line := (r.slot2.extractLsb' 64 128 ++ r.slot1.extractLsb' 128 384 : BitVec 512)
end Req

/-- The bits of slots 1 and 2 that the body of an opcode uses (R386). -/
def bodyMask (op flags kind : Nat) : Line × Line :=
  let key : Line × Line := if flags.testBit 0 then (span 0x10 0x30, span 0x08 0x20) else (span 0x10 0x2D, 0)
  let pfx : Line := span 0x10 16 ||| span 0x28 1
  match op with
  | 0x01 | 0x02 => key
  | 0x04 => (span 0x10 4, 0)
  | 0x10 | 0x11 =>
    if isArray kind then (span 0x10 0x30, span 0x08 0x30 ||| (if op = 0x11 then spanBits 0x38 22 else 0))
    else if kind = 2 then (pfx ||| span 0x20 8, 0)
    else (spanBits 0x10 22 ||| span 0x18 8, 0)
  | 0x12 => if kind = 2 then (pfx, 0) else (spanBits 0x10 22, 0)
  | 0x13 => (spanBits 0x10 22, 0)
  | 0x14 => if kind = 2 then (pfx, 0) else key
  | 0x15 => (span 0x10 20 ||| spanBits 0x24 12 ||| span 0x26 2 ||| span 0x28 8, 0)
  | 0x16 => (span 0x10 2, 0)
  | 0x19 => (span 0x10 16, span 0x08 0x38)
  | 0x1A => (span 0x10 0x30, span 0x08 0x10)
  | 0x20 => (span 0x10 8, 0)
  | 0x21 => (spanBits 0x10 12 ||| span 0x12 6, 0)
  | 0x28 | 0x29 => (((BitVec.ofNat 512 (2 ^ 32 - 1)) <<< (8 * 0x10 + 12)) ||| span 0x18 1, 0)
  | _ => (0, 0)

/-- SLOTS as R386 requires: the number of slots of an opcode. -/
def slotsFor (op flags kind : Nat) : Nat :=
  match op with
  | 0x01 | 0x02 => if flags.testBit 0 then 2 else 1
  | 0x10 | 0x11 => if isArray kind then 2 else 1
  | 0x14 => if isArray kind && flags.testBit 0 then 2 else 1
  | 0x19 | 0x1A => 2
  | _ => 1

/-- The defined opcodes (R386). -/
def opDefined (op : Nat) : Bool :=
  op ≤ 4 || (decide (0x10 ≤ op) && decide (op ≤ 0x1D)) || op == 0x20 || op == 0x21 || op == 0x28 || op == 0x29

/-- The flag bits that an opcode defines. -/
def flagMask (op : Nat) : Nat :=
  if op = 0x02 then 3 else if op = 0x01 || op = 0x10 || op = 0x14 || op = 0x19 || op = 0x20 then 1 else 0

/-- Step 1 of R658: opcode, reserved header bits, TABLE of R385. -/
def Req.step1 (r : Req) : Bool :=
  opDefined r.opcode &&
  (r.slot1 &&& (spanBits 1 24 ||| ((0x7F : Line) <<< 49))) == 0 &&
  Nat.land r.flags (255 - flagMask r.opcode) == 0 &&
  (namesTable r.opcode || r.table == 0) &&
  ((r.opcode != 0x28 && r.opcode != 0x29) || r.table == 255)

/-- Steps 2 and 3 of R658 for a request of domain `d` (R103, R104, R106, R121). -/
def State.step23 (s : State) (op t d : Nat) : Option Nat :=
  let tb := s.tb t
  let pin := op == 0x28 || op == 0x29
  if t = 254 || (t = 255 && !pin) then some St.privilege
  else if t < 254 && tb.state != 0 && tb.domain != d then some St.privilege
  else match tb.state with
  | 0 => some St.malformed
  | 1 => if op == 0x1A || op == 0x1B || op == 0x19 then none else some St.malformed
  | 2 => none
  | 3 => if op == 0x1A || op == 0x1D || op == 0x19 then none else some St.contextDisabled
  | _ => some St.contextDisabled

/-- Step 4 of R658: the table of R121, with the class of the context. -/
def kindClass (op kind : Nat) (steward masked : Bool) : Option Nat :=
  let arr := isArray kind
  let only (ok : Bool) : Option Nat := if !ok then some St.malformed else if !steward then some St.privilege else none
  match op with
  | 0x01 =>
    if kind = 5 || (masked && !arr) then some St.malformed else if masked && !steward then some St.privilege else none
  | 0x02 => if !arr then some St.malformed else if masked && !steward then some St.privilege else none
  | 0x10 | 0x11 | 0x12 | 0x13 => only (kind != 5)
  | 0x14 => only (kind != 5 && !(masked && !arr))
  | 0x15 => only (kind == 4)
  | 0x16 | 0x17 | 0x18 => only arr
  | _ => only true

/-- A handle lies in the range of the table (04 R128): the member's, or for a CASCADE table the two ranges, which lie side by
side from 0 (04 R129; log 13). -/
def State.inRange (s : State) (t h : Nat) : Bool :=
  if s.isCascade t then decide (h < 16384 * ((s.tb t).maxBlocks + (s.tb t).peerBlocks)) else (s.tb t).ownsHandle h

/-- The value rules of step 5 that no profile decides (R658): the status of the rule that fails. -/
def State.valueBad (s : State) (r : Req) : Option Nat :=
  let tb := s.tb r.table
  let kind := tb.kind
  match r.opcode with
  | 0x01 | 0x02 => keyRefusal r.key false
  | 0x10 | 0x11 =>
    if isArray kind then
      firstBad [(!imageOk r.image r.table kind false || (r.opcode == 0x10 && !r.flag0 && r.image.handle != 0), St.malformed),
        (match r.target with | some h => !s.inRange r.table h | none => false, St.indexRange)]
    else if kind = 1 then firstBad [(decide (tb.count ≤ r.handle1), St.indexRange)]
    else none
  | 0x12 =>
    if isArray kind then firstBad [(!s.inRange r.table r.handle1, St.indexRange)]
    else if kind = 1 then firstBad [(decide (tb.count ≤ r.handle1), St.indexRange)] else none
  | 0x13 =>
    if isArray kind then firstBad [(!s.inRange r.table r.handle1, St.indexRange)]
    else if kind = 2 then firstBad [(decide (tb.count ≤ r.handle1), St.indexRange)] else none
  | 0x14 => if kind = 2 then none else keyRefusal r.key false
  | 0x16 => firstBad [(lineLe r.slot1 0x10 2 == 0, St.malformed)]
  | 0x1B | 0x1D => firstBad [(tb.state == 2, St.malformed)]
  | _ => none

/-- The checks of R658 on an accepted descriptor of context `c`; the status of the first that fails. -/
def State.descBad (s : State) (c : Nat) (r : Req) : Option Nat :=
  let x := s.cx c
  let kind := (s.tb r.table).kind
  let masked := (r.opcode == 1 || r.opcode == 2 || (r.opcode == 0x14 && kind != 2)) && (r.key.gmask != 0 || r.key.set.isSome)
  let m := bodyMask r.opcode r.flags kind
  let layout := r.slots == slotsFor r.opcode r.flags kind &&
    (r.slot1 &&& ~~~(m.1 ||| span 0 16)) == 0 && (r.slot2 &&& ~~~(m.2 ||| span 7 1)) == 0 &&
    (r.opcode != 0x14 || isArray kind || !r.flag0)
  firstBad [(!r.step1 || r.cut, St.malformed)] |>.or <|
  (if namesTable r.opcode then s.step23 r.opcode r.table x.domain else none).or <|
  (if namesTable r.opcode then kindClass r.opcode kind x.steward masked else none).or <|
  (firstBad [(!layout, St.malformed)]).or <|
  (s.valueBad r).or <|
  firstBad [((r.opcode == 0x13 || r.opcode == 0x14) && !bit (s.reg (offRbuf c)) 0, St.malformed)]

/-- The line form of a window search (R396): its reserved bytes. -/
def windowForm (l : Line) : Bool := (l &&& (span 0x2E 10 ||| span 0x3C 4)) == 0

/-- The checks of R658 on a window search: steps 2 to 4, then the line form. -/
def State.windowBad (s : State) (c : Nat) (r : Req) : Option Nat :=
  let x := s.cx c
  (s.step23 1 r.table x.domain).or <|
  (kindClass 1 (s.tb r.table).kind x.steward (r.key.gmask != 0)).or <|
  (firstBad [(!windowForm r.slot1, St.malformed)]).or <|
  keyRefusal r.key false

/-! ### The requests of a context in hand -/

/-- A request not state-changing by R403. -/
def Req.passive (r : Req) : Bool :=
  r.window.isSome || r.opcode ≤ 4 || r.opcode == 0x13 || r.opcode == 0x14 || r.opcode == 0x20

/-- The dispatched request that a command names: its number and opcode, not yet at its engine. -/
def State.ready (s : State) (c n op : Nat) : Option Req :=
  match (s.cx c).req? false n with
  | some r => if r.phase == 1 && r.opcode == op then some r else none
  | none => none

/-- The request is at its engine, unless it has ended. -/
def State.atEngine (s : State) (c : Nat) (win : Bool) (n : Nat) : State :=
  s.updCx c (·.updReq win n (fun r => if r.phase = 1 then { r with phase := 2 } else r))

/-- The pair's rule for a request on a MIRROR table (15 R541, R548): wait while TOSSING, STALE_GENERATION while BENCHED
or joining, otherwise go on. -/
inductive Gate where
  | go | wait | stale
  deriving DecidableEq, Repr

/-- The gate of table `t`. -/
def State.gate (s : State) (t : Nat) : Gate :=
  if !s.isMirror t then .go
  else match s.pst with
  | .tossing => .wait
  | .benched => .stale
  | .resync => if s.f fJoiner == 1 then .stale else .go
  | _ => .go

/-- Run a dispatched descriptor: `f` answers the state after the request is taken up, or none while it must wait
(05 R151). It ends STALE_GENERATION on a benched member. -/
def State.runDesc (s : State) (c n op : Nat) (f : State → Req → Option State) : State :=
  match s.ready c n op with
  | none => s
  | some r =>
    -- a request not admitted before its table is destroyed (04 R137)
    if namesTable op && (s.tb r.table).state == 4 then
      (s.resolve (.req c n) (refusal r.table St.contextDisabled)).when (op == 2) (·.dropPair c)
    else
    match if namesTable op then s.gate r.table else .go with
    | .wait => s
    | .stale => (s.resolve (.req c n) (refusal r.table St.staleGeneration)).when (op == 2) (·.dropPair c)
    | .go =>
      match f s r with
      | some s => s.atEngine c false n
      | none => s

end Sys2Proof.Machine
end

