-- ==== Sys2Proof/Machine/Entry.lean ====
section
/-! DEFINITION. Entry operations as table maintenance takes them up (05 R142 to R176), profiles and table states
(04 R110 to R132). -/

namespace Sys2Proof.Machine

/-! ### Where a mutation is carried out (05 R153, R154; 15 R530 to R533) -/

/-- Carry out a mutation here, or forward it to the partner: of a MIRROR table to home; of a CASCADE table to the member
whose range holds the handle, and while the pair is not PAIRED such a one ends PARTIAL. A mutation of a lock's owner that is
forwarded renews the lease here too (05 R172, R176). -/
def State.route (s : State) (og : Origin) (c : Nat) (r : Req) (here : State → Option State) : Option State :=
  match og with
  | .fwd _ => here s
  | _ =>
    let renewed (s : State) : State := if r.opcode != 0x13 && s.ownsLock r.table c && !s.lockRefuses r.table c then
      s.renew r.table else s
    if s.isMirror r.table && s.isAway && s.pst == .paired && r.opcode != 0x13 then
      some (s.forward og c r.accept r.slot1 r.slot2)
    else if s.isCascade r.table then
      match r.target with
      | some h =>
        if (s.tb r.table).ownsHandle h then here s
        else if s.pst == .paired then some ((renewed s).forward og c r.accept r.slot1 r.slot2)
        else some (s.resolve og (refusal r.table St.partial_))
      | none => here s
    else here s

/-- A request of a paired table that home carries out first: SET_PROFILE, OPEN, DISABLE, ENABLE (04 R120, R132), and LOCK,
COMMIT and ABANDON (05 R176). -/
def State.routeHome (s : State) (og : Origin) (c : Nat) (r : Req) (here : State → State) : State :=
  match og with
  | .fwd _ => here s
  | _ =>
    if (s.isMirror r.table || s.isCascade r.table) && s.isAway && s.pst == .paired then
      s.forward og c r.accept r.slot1 r.slot2
    else here s

/-! ### The owner's view (05 R170) -/

/-- The staged row of handle `h` under the table's lock. -/
def State.stagedOf (s : State) (t h : Nat) : Option Nat :=
  match (s.tb t).lock with
  | some l => l.live.find? (fun a => (s.row a).handle == h)
  | none => none

/-- The live row of `h` is marked to retire. -/
def State.retiring (s : State) (t h : Nat) : Bool :=
  match (s.tb t).lock with | some l => l.retire.contains h | none => false

/-- Context `c` has the owner's view: it owns the table's lock here, or holds it at home (05 R170, R176). -/
def State.ownsView (s : State) (t c : Nat) : Bool :=
  match (s.tb t).lock with | some l => !l.bulk && (l.owner == c || l.owner == 12288 + c) | none => false

/-- The row of handle `h` as context `c` sees it. -/
def State.viewRow (s : State) (t c h : Nat) : Option Nat :=
  if s.ownsView t c then
    match s.stagedOf t h with
    | some a => some a
    | none => if s.retiring t h then none else s.liveRow t h
  else s.liveRow t h

/-- The marks that the accepted mutations of the lock have still to give (05 R169, R171): of an INSERT not yet placed one, of
an UPDATE two where the lock holds no staged row of its handle. An INSERT that is placed has its handle reserved. -/
def State.pendingMarks (s : State) (t : Nat) : Nat :=
  match (s.tb t).lock with
  | none => 0
  | some l =>
    let ofUpd (h : Nat) : Nat := if l.reserved.contains h || (s.stagedOf t h).isSome then 0 else 2
    let ins := (s.mnt.placeQ ++ s.mnt.tmQ ++ s.mnt.tmWait.map (fun e => e.2)).filter (fun i => i.table == t && i.lock.isSome)
    let ops := s.queuedOps.map (fun e => e.2.2) ++ s.arb.flights.map (fun f => f.op)
    (ins.map (fun i => if i.upd then ofUpd (i.given.getD 0) else 1)).sum +
    (ops.map (fun op => match op.act with
      | .write _ r .stage => if op.table == t then ofUpd r.handle else 0
      | _ => 0)).sum

/-- Whether the table's lock has room for `n` more marks (05 R171). -/
def State.marksOk (s : State) (t n : Nat) : Bool :=
  match (s.tb t).lock with | some l => decide (l.marks + s.pendingMarks t + n ≤ 16384) | none => true

/-- The lock under which context `c` works on table `t`. -/
def State.lockOf (s : State) (t c : Nat) : Option Nat := if s.ownsLock t c then some c else none

/-! ### INSERT, UPDATE, DELETE of an array entry (05 R145 to R151, R168 to R171, R185) -/

/-- INSERT: it reaches the placement engine. -/
def State.arrInsert (s : State) (og : Origin) (c : Nat) (r : Req) : Option State :=
  let t := r.table
  if s.lockRefuses t c then some (s.resolve og (refusal t St.locked))
  else if !cellsOk r.image (s.tb t).profile then some (s.resolve og (refusal t St.malformed))
  else match r.given with
  | some h =>
    if s.heldH t h then none
    else if !s.handleFree t h then some (s.resolve og (refusal t St.malformed))
    else if !s.marksOk t 1 then some (s.resolve og (refusal t St.noRoom))
    else
      let s := if s.ownsLock t c then s.renew t else s
      some { s with mnt := { s.mnt with placeQ := s.mnt.placeQ ++
        [{ origin := og, table := t, row := r.image, given := some h, at_ := s.tick, lock := s.lockOf t c }] } }
  | none =>
    if !s.marksOk t 1 then some (s.resolve og (refusal t St.noRoom))
    else
      let s := if s.ownsLock t c then s.renew t else s
      some { s with mnt := { s.mnt with placeQ := s.mnt.placeQ ++
        [{ origin := og, table := t, row := r.image, given := none, at_ := s.tick, lock := s.lockOf t c }] } }

/-- The row that an UPDATE writes in place over row `o`: the image's cells, PRIORITY, S and result word, and SRC in LEARNING
tables; HANDLE, H and A kept (05 R142, 03 R72). A staged row has H and A clear until it goes live (R175). -/
def updatedRow (o image : Row) (t : Nat) : Row :=
  ((((image.setHandle o.handle).setTable t).setV true).setG false |>.setH o.h).setA o.a

/-- UPDATE: the entry's row rewritten in place; under a lock a staged row of the same handle; in a migration, a relocation
of an entry still in the old placement (05 R150, R169, R185), which ends NO_ROOM where the target set has no free row: R185
names no status (DESIGN CHOICE, log 39). It waits while the cut-over is queued or granted, which would move the entry. -/
def State.arrUpdate (s : State) (og : Origin) (c h : Nat) (image : Row) (t : Nat) : Option State :=
  if s.lockRefuses t c then some (s.resolve og (refusal t St.locked))
  else if !cellsOk image (s.tb t).profile then some (s.resolve og (refusal t St.malformed))
  else if s.heldH t h then none
  else match s.viewRow t c h with
  | none => some (s.resolve og { refusal t St.noMatch with tick := s.tick })
  | some a =>
    if s.ownsLock t c then
      let more := if (s.stagedOf t h).isSome then 0 else 2
      if !s.marksOk t more then some (s.resolve og (refusal t St.noRoom))
      else
        let s := s.renew t
        some { s with mnt := { s.mnt with placeQ := s.mnt.placeQ ++
          [{ origin := og, table := t, row := (image.setHandle h).setTable t, given := some h, at_ := s.tick, lock := some c,
             upd := true }] } }
    else
      let r := s.tb t
      let new := updatedRow (s.row a) image t
      if r.mig != 0 && r.blocks.getLsbD (blockOf a) then
        if s.cutting t then none else
        let taken := s.takenRows
        match s.moveTo t taken new with
        | some g => (match lowRow taken g with
          | some n => some (s.startReloc t a n (some new) og)
          | none => some (s.resolve og (refusal t St.noRoom)))
        | none => some (s.resolve og (refusal t St.noRoom))
      else some (s.enqM t (.write a new .update) og)

/-- Put a mark to retire on the live row of `h`. -/
def State.markRetire (s : State) (t h : Nat) : State :=
  s.updLock t (fun l => { l with retire := if l.retire.contains h then l.retire else l.retire ++ [h] })

/-- DELETE: the entry's row freed; under a lock its live row marked, or the lock's staged row freed (05 R169, R170). -/
def State.arrDelete (s : State) (og : Origin) (c h : Nat) (t : Nat) : Option State :=
  if s.lockRefuses t c then some (s.resolve og (refusal t St.locked))
  else if s.heldH t h then none
  else match s.viewRow t c h with
  | none => some (s.resolve og { refusal t St.noMatch with tick := s.tick })
  | some a =>
    if s.ownsLock t c then
      match s.stagedOf t h with
      | some a => some ((s.renew t).enqM t (.write a {} .unstage) og (some c))
      | none =>
        if !s.marksOk t 1 then some (s.resolve og (refusal t St.noRoom))
        else
          let s := (s.renew t).markRetire t h
          let r := if s.mirrors t then s.mirFrame (mirMsg t .retire h s.tick) else (s, 0)
          some (r.1.endMut t (if s.mirrors t then some r.2 else none) og
            { status := St.success, tick := s.tick, table := t, handle := h })
    else some (s.enqM t (.write a {} .free) og)

/-! ### Reads (05 R147, R152, R165) -/

/-- READ_BY_HANDLE of an array entry: its row read is queued, or it ends NO_MATCH at this tick. -/
def State.arrRead (s : State) (og : Origin) (c h t : Nat) : State :=
  match s.viewRow t c h with
  | none => s.resolve og { refusal t St.noMatch with tick := s.tick }
  | some a => s.enqOp 12 { table := t, act := .read a, origin := og, named := some (c, h) }

/-- The image of a row that a read returns (05 R144): V is 1 and G is 0. -/
def Row.returned (r : Row) : Row := (r.setV true).setG false

/-- The observation of a row read of handle `h` at its tick g + 5 (05 R142, R144, R165; 03 R76). -/
def State.observe (s : State) (og : Origin) (t c h : Nat) : State :=
  match s.viewRow t c h with
  | none => s.resolve og { refusal t St.noMatch with tick := s.tick }
  | some a =>
    let x := s.arow a
    if x.bad != 0 then (s.report a).resolve og { refusal t St.poisoned with tick := s.tick, handle := h }
    else s.resolve og { status := St.success, tick := s.tick, table := t, handle := h, image := some x.row.returned,
                        hit := true }

/-! ### Locks (05 R167, R168, R173, R174) -/

/-- LOCK. -/
def State.lockTable (s : State) (og : Origin) (c t lease : Nat) : State :=
  let r := s.tb t
  if lease = 0 then s.resolve og (refusal t St.malformed)
  else if r.lock.isSome || r.shrinking || r.migration.isSome || r.bulk.isSome then s.resolve og (refusal t St.locked)
  else
    let s := s.updTb t (fun r => { r with lock := some { owner := c, leaseUs := lease, endTick := s.tick + 500 * lease } })
    s.resolve og { status := St.success, tick := s.tick, table := t }

/-- COMMIT: LSTATE becomes 2, and the state update is queued for the next tick; on a framed MIRROR table PREPARE goes
first (15 R529). -/
def State.commitTable (s : State) (og : Origin) (c t : Nat) : State :=
  if !s.ownsLock t c || s.lockRefuses t c then s.resolve og (refusal t St.locked)
  else
    let two := s.mirrors t
    let s := s.updLock t (fun l => { l with lstate := 2, accept := s.tick, ender := some og, ready := !two })
    let s := if two then
        let r := s.mirFrame (mirMsg t .prepare 0 s.tick)
        r.1.updLock t (fun l => { l with prep := some r.2 })
      else s
    s.enqM t (.upd 0 .lockCommit) og none (s.tick + 1)

/-- ABANDON. -/
def State.abandonTable (s : State) (og : Origin) (c t : Nat) : State :=
  if !s.ownsLock t c || s.lockRefuses t c then s.resolve og (refusal t St.locked)
  else s.startDiscard t (some og)

/-! ### Learns (07 R226 to R232) -/

/-- The arrival order of learns (R232): directory requests first, then descending SRC, then ascending context. -/
def learnBefore (a b : LearnOp) : Bool :=
  if a.arrive != b.arrive then decide (a.arrive < b.arrive)
  else if a.src != b.src then decide (b.src < a.src)
  else decide (a.ctx ≤ b.ctx)

/-- Insert a learn in its place. -/
def insertLearn (o : LearnOp) : List LearnOp → List LearnOp
  | [] => [o]
  | x :: xs => if learnBefore x o then x :: insertLearn o xs else o :: x :: xs

/-- KEY, SRC, PRIORITY and RESULT of a LEARN (11 R386). -/
def Req.learnKey (r : Req) : Key := r.slot1.extractLsb' 128 160
def Req.learnSrc (r : Req) : Nat := lineLe r.slot1 0x24 2
def Req.learnPrio (r : Req) : Nat := lineLe r.slot1 0x26 2
def Req.learnRes (r : Req) : Word := r.slot1.extractLsb' 320 64

/-- Queue the probe of a learn (R228). -/
def State.probe (s : State) (id t : Nat) (key : Key) : State :=
  s.enqOp 10 { table := t, act := .search { key := key } false false, origin := .learn id }

/-- LEARN: it arrives at the learn stage and is probed. -/
def State.learnStart (s : State) (og : Origin) (c : Nat) (r : Req) : State :=
  let t := r.table
  if s.lockRefuses t c then s.resolve og (refusal t St.locked)
  else
    let id := s.ids
    let s := if s.ownsLock t c then s.renew t else s
    let o : LearnOp := { id := id, table := t, key := r.learnKey, src := r.learnSrc, prio := r.learnPrio, res := r.learnRes,
                         origin := og, arrive := s.tick, ctx := c, lock := s.lockOf t c }
    let s := { s with ids := id + 1, lrn := { s.lrn with ops := insertLearn o s.lrn.ops } }
    s.probe id t o.key

/-! ### Profiles and table states (04 R111 to R132, 05 R189) -/

/-- R267: the largest KEY_BITS of a stride plan; 0 for an undefined one (08 R266). -/
def planBits (p : Nat) : Nat := match p with | 0 => 128 | 1 => 80 | 2 => 72 | 3 => 64 | 4 => 44 | 5 => 32 | _ => 0

/-- The conditions of R111 and R113 on a profile image for table `r`. -/
def profileOk (r : Tbl) (p : Line) (member : Bool) : Bool :=
  let ku := Prof.keyUsed p
  (p &&& ~~~(Prof.used r.kind)) == 0 &&
  (!isArray r.kind ||
    (decide (2 ≤ ones ku) && decide (Prof.canopyHi p ≤ 39) && decide (Prof.canopyLo p ≤ 39) &&
     Prof.canopyHi p != Prof.canopyLo p && ku.getLsbD (Prof.canopyHi p) && ku.getLsbD (Prof.canopyLo p) &&
     (Prof.leaveSet p &&& ~~~ku) == 0 && pmaskInLeave p && decide (Prof.gladeTarget p ≤ 64) && Prof.evict p != 3)) &&
  (r.kind != 4 || decide (minSweep r.maxBlocks ≤ Prof.sweepPeriod p)) &&
  (r.kind != 2 || (decide (1 ≤ Prof.keyBits p) && decide (Prof.keyBits p ≤ planBits (Prof.stridePlan p)))) &&
  (r.kind != 1 || (decide (1 ≤ Prof.idxBits p) && decide (Prof.idxBits p ≤ 20) &&
     decide (Prof.idxLsb p + Prof.idxBits p ≤ 160) && decide (r.count ≤ 2 ^ Prof.idxBits p))) &&
  pairModeAllowed r.kind (Prof.pairMode p) && (member || Prof.pairMode p == 0)

/-- Put a valid profile in force: GENERATION rises when a field changes (R109). A table that becomes CASCADE learns the
partner's MAX_BLOCKS, which no message carries: a free value of 1 to 128; at the away member HANDLE_BASE is 16,384 × it
(04 R129; log 13). -/
def State.putProfile (s : State) (t : Nat) (p : Line) : State :=
  let r := s.tb t
  let gen := if p = r.profile then r.gen else (r.gen + 1) % 65536
  if Prof.pairMode p == 2 && Prof.pairMode r.profile != 2 then
    let (w, s) := s.free
    let peer := 1 + w.toNat % 128
    s.setTb t { r with profile := p, gen := gen, peerBlocks := peer, handleBase := if s.isAway then 16384 * peer else 0 }
  else s.setTb t { r with profile := p, gen := gen }

/-- The profile section of a load takes effect at its commit tick, and is journalled as a SET_PROFILE is (R189; 15 R547). -/
def State.loadProfile (s : State) (t : Nat) (p : Option Line) (mseq : Option Nat) : State :=
  match p with
  | some p => (s.putProfile t p).journal ⟨t, 3, 0, 0, 0⟩ (mseq.getD 0)
  | none => s

/-- Home frames changes of the table's profile and state: it is a MIRROR or CASCADE table (15 R526, 04 R120, R132). -/
def State.framesState (s : State) (t : Nat) : Bool :=
  s.mirrors t || (s.isCascade t && !s.isAway && s.pst == .paired)

/-- Frame a change of a paired table's profile or state. `was`: it was framed before the change too, so that a table that
leaves its pair mode leaves it at both members (04 R120). -/
def State.frameState (s : State) (t : Nat) (m : MirMsg) (was : Bool) : State × Option Nat :=
  if s.framesState t || was then
    let r := s.mirFrame m
    (r.1, some r.2)
  else (s, none)

/-- A BULK_LOAD of table `t` accepted before tick `x` has not ended (R189). -/
def State.loadBefore (s : State) (t x : Nat) : Bool :=
  (s.tb t).bulk.isSome ||
  s.ctx.any (fun e => e.2.reqs.any (fun q => q.opcode == 0x19 && q.table == t && decide (q.phase ≤ 2) && decide (q.accept < x)))

/-- SET_PROFILE: none while an accepted bulk load of the table runs (R189). -/
def State.setProfile (s : State) (og : Origin) (r : Req) : Option State :=
  let t := r.table
  let tb := s.tb t
  if s.loadBefore t r.accept then none
  else if !profileOk tb r.profile (s.f fPairEn == 1) ||
     (tb.state != 1 && ((r.profile ^^^ tb.profile) &&& ~~~Prof.changeable) != 0) then
    some (s.resolve og (refusal t St.malformed))
  else
    let was := s.framesState t
    let s := s.putProfile t r.profile
    let m := s.frameState t { mirMsg t .profile 0 s.tick with prof := r.profile } was
    let s := m.1.journal ⟨t, 3, 0, 0, 0⟩ (m.2.getD 0)
    some (s.endMut t m.2 og { status := St.success, tick := s.tick, table := t })

/-- The changes that a table's new state brings at its commit tick: OPEN sets GENERATION to 0 and starts the sweeps
(R109, 07 R243); DISABLE ends queued work (11 R412). -/
def State.putState (s : State) (t st : Nat) : State :=
  let r := s.tb t
  if st = 2 && r.state = 1 then
    let s := s.setTb t { r with state := 2, gen := 0 }
    if r.kind = 4 then
      { s with lrn := s.lrn.opened t (s.tick + 500000 * Prof.sweepPeriod r.profile) }
    else s
  else if st = 3 then
    let s := s.updTb t (fun r => { r with state := 3 })
    s.disableQueues t
  else s.updTb t (fun r => { r with state := st })

/-- The status of OPEN, DISABLE or ENABLE in a state that does not allow it, at the tick at which it is carried out
(R106, R132). -/
def moveBad (op state : Nat) : Option Nat :=
  match state with
  | 0 => some St.malformed
  | 1 => if op = 0x1B then none else some St.malformed
  | 2 => if op = 0x1C then none else some St.malformed
  | 3 => if op = 0x1D then none else some St.contextDisabled
  | _ => some St.contextDisabled

/-- OPEN, DISABLE and ENABLE (R132). OPEN of a paired table needs the partner's table, which this member cannot read: a
free value (log 13). -/
def State.moveState (s : State) (og : Origin) (r : Req) (st : Nat) : State :=
  let t := r.table
  let tb := s.tb t
  match moveBad r.opcode tb.state with
  | some e => s.resolve og (refusal t e)
  | none =>
  let paired := Prof.pairMode tb.profile != 0
  let ask := st = 2 && tb.state = 1 && paired
  let (w, s) := if ask then s.free else (0, s)
  if st = 2 && tb.state = 1 && (!profileOk tb tb.profile (s.f fPairEn == 1) || (ask && (s.pst != .paired || !w.getLsbD 0))) then
    s.resolve og (refusal t St.malformed)
  else
    let s := s.putState t st
    let m := s.frameState t (mirMsg t .state st s.tick) false
    let s := m.1.journal ⟨t, 3, 0, 0, 0⟩ (m.2.getD 0)
    s.endMut t m.2 og { status := St.success, tick := s.tick, table := t }

/-! ### One request, from a descriptor, the command-register path or the partner -/

/-- Queue a trie mutation or read, or a direct access. -/
def State.trieMut (s : State) (t : Nat) (a : TAct) (og : Origin) : State :=
  { s with trie := { s.trie with muts := s.trie.muts ++ [{ table := t, act := a, origin := og, enq := s.tick }] } }
def State.trieLook (s : State) (t : Nat) (a : TAct) (og : Origin) (enq : Nat := 0) : State :=
  { s with trie := { s.trie with waiting := s.trie.waiting ++ [{ table := t, act := a, origin := og, enq := max enq (s.tick + 1) }] } }
def State.directOp (s : State) (t : Nat) (a : DAct) (og : Origin) (enq : Nat := 0) : State :=
  { s with dsram := { s.dsram with waiting := s.dsram.waiting ++ [{ table := t, act := a, origin := og, enq := max enq (s.tick + 1) }] } }

/-- A prefix fits R276. -/
def prefixOk (kb : Nat) (pfx : BitVec 128) (len : Nat) : Bool :=
  decide (len ≤ kb) && pfx.toNat % 2 ^ (kb - len) == 0 && decide (pfx.toNat < 2 ^ kb)

/-- A PREFIX request whose PREFIX or LENGTH breaks R276 completes MALFORMED. -/
def State.withPrefix (s : State) (og : Origin) (r : Req) (f : State → State) : State :=
  if prefixOk (Prof.keyBits (s.tb r.table).profile) r.pfx r.len then f s else s.resolve og (refusal r.table St.malformed)

/-- INSERT on a table of any kind. -/
def State.doInsert (s : State) (og : Origin) (c : Nat) (r : Req) : Option State :=
  s.route og c r (fun s =>
    let k := (s.tb r.table).kind
    if isArray k then s.arrInsert og c r
    else if k = 2 then some (s.withPrefix og r (fun s => s.trieMut r.table (.insert r.pfx r.len r.pfxRes false) og))
    else some (s.directOp r.table (.write r.handle1 r.entry) og))

/-- UPDATE on a table of any kind. -/
def State.doUpdate (s : State) (og : Origin) (c : Nat) (r : Req) : Option State :=
  s.route og c r (fun s =>
    let k := (s.tb r.table).kind
    if isArray k then s.arrUpdate og c r.handle2 r.image r.table
    else if k = 2 then some (s.withPrefix og r (fun s => s.trieMut r.table (.insert r.pfx r.len r.pfxRes true) og))
    else some (s.directOp r.table (.write r.handle1 r.entry) og))

/-- DELETE on a table of any kind. -/
def State.doDelete (s : State) (og : Origin) (c : Nat) (r : Req) : Option State :=
  s.route og c r (fun s =>
    let k := (s.tb r.table).kind
    if isArray k then s.arrDelete og c r.handle1 r.table
    else if k = 2 then some (s.withPrefix og r (fun s => s.trieMut r.table (.delete r.pfx r.len) og))
    else some (s.directOp r.table (.write r.handle1 0) og))

/-- READ_BY_HANDLE on a table of any kind. A PREFIX read names a position (08 R275): it carries its handle as the length
above 128. -/
def State.doRead (s : State) (og : Origin) (c : Nat) (r : Req) : Option State :=
  s.route og c r (fun s =>
    let k := (s.tb r.table).kind
    if isArray k then some (s.arrRead og c r.handle1 r.table)
    else if k = 2 then some (s.trieLook r.table (.read 0 (129 + r.handle1)) og)
    else some (s.directOp r.table (.readIdx r.handle1) og))

/-- A best-match search or lookup (11 R374), requestable from tick `enq`. -/
def State.doSearch (s : State) (og : Origin) (c : Nat) (t : Nat) (key : SearchKey) (image : Bool) (enq : Nat := 0) : State :=
  let x := s.cx c
  let k := (s.tb t).kind
  let tenant := !x.steward
  if isArray k then
    s.enqOp x.sport { table := t, act := .search key tenant image, origin := og, enq := enq }
  else if k = 2 then s.trieLook t (.lookup key.key tenant image (key.leave != 0)) og enq
  else s.directOp t (.lookup key.key tenant image (key.leave != 0)) og enq

/-- READ_BY_KEY on a table of any kind. -/
def State.doReadKey (s : State) (og : Origin) (c : Nat) (r : Req) (enq : Nat := 0) : State :=
  if (s.tb r.table).kind = 2 then s.withPrefix og r (fun s => s.trieLook r.table (.read r.pfx r.len) og enq)
  else s.doSearch og c r.table r.key true enq

/-- LOCK: of a CASCADE table, home's lock is taken at the partner too (05 R176). -/
def State.doLock (s : State) (og : Origin) (c : Nat) (r : Req) : State :=
  s.routeHome og c r (fun s =>
    let t := r.table
    let s' := s.lockTable og c t (lineLe r.slot1 0x10 2)
    if s.isCascade t && !s.isAway && s.pst == .paired && !og.isFwd && (s.tb t).lock.isNone && (s'.tb t).lock.isSome then
      s'.forward .tm c s.tick r.slot1 0
    else s')

/-- COMMIT. -/
def State.doCommit (s : State) (og : Origin) (c : Nat) (r : Req) : State :=
  s.routeHome og c r (fun s => s.commitTable og c r.table)

/-- ABANDON: the discard of a lock of a CASCADE table goes to the partner too (05 R176). -/
def State.doAbandon (s : State) (og : Origin) (c : Nat) (r : Req) : State :=
  s.routeHome og c r (fun s =>
    let t := r.table
    s.abandonTable og c t)

/-- LEARN. -/
def State.doLearn (s : State) (og : Origin) (c : Nat) (r : Req) : Option State :=
  s.route og c r (fun s => some (s.learnStart og c r))

/-- The command-register path's registers (05 R194). -/
abbrev fMaintHandle : F := ⟨0x4d008, 32, 22⟩
abbrev fMaintGiven : F := ⟨0x4d008, 16, 1⟩
abbrev fMaintLease : F := ⟨0x4d008, 0, 16⟩
abbrev fMaintBusy : F := ⟨0x4d000, 63, 1⟩
abbrev fMaintStatus : F := ⟨0x4d000, 48, 8⟩
abbrev fMaintCtx : F := ⟨0x4d000, 36, 12⟩
abbrev fMaintTable : F := ⟨0x4d000, 24, 8⟩
abbrev fMaintOp : F := ⟨0x4d000, 4, 4⟩

end Sys2Proof.Machine
end

