-- ==== Sys2Proof/Machine/Commit.lean ====
section
/-! DEFINITION. The commit of row writes and state updates at g + 5 (02 R44; 05; 07 R228 to R242; 16 R567). -/

namespace Sys2Proof.Machine

/-! ### The end of an operation at its commit -/

/-- Away's commit of a mirrored change: APPLIED is framed, and a forwarded mutation whose result came back completes
(15 R530). -/
def State.mirApplied (s : State) (t q : Nat) : State :=
  match s.pair.mirIn.find? (fun e => e.1.table.val == t && e.1.seq == q) with
  | none => s
  | some e =>
    let c := e.1.home
    let done := s.pair.doneWait.filter (fun d => d.2.1 == c)
    let s := { s with pair := { s.pair with mirIn := s.pair.mirIn.erase e,
                                            doneWait := s.pair.doneWait.filter (fun d => d.2.1 != c) } }
    let s := s.linkSend (.applied t q c)
    done.foldl (fun s d => s.resolve d.1 (mutOutc d.2.2 t s.tick)) s

/-- The change of a directory request commits: its counters and events (07 R239, R256, R258, R263). A victim's lines are no
longer claimed. -/
def State.dirCommitted (s : State) (id : Nat) : State :=
  match s.dir.reqs.find? (fun r => r.id == id) with
  | none => s
  | some r =>
    let s := s.updDir id (fun r => { r with commit := some s.tick, queued := false, also := none })
    let s := match r.move with
      | some (o, n) =>
        let s := s.inc fDirMoves
        if s.f fMoveEvents = 1 then s.raise .dirMove (argTH 0 0 o n) r.line else s
      | none => s
    let s := if r.split then s.inc fDirSplits else s
    match r.what with | .remove _ => s.inc fDirAged | _ => s

/-- An array operation ends at its commit tick with an outcome. -/
def State.endOp (s : State) (f : Flight) (o : Outc) : State :=
  match f.op.origin with
  | .mirror t q => s.mirApplied t q
  | .dir id => s.dirCommitted id
  | og => s.endMut f.op.table f.mseq og { o with tick := s.tick }

/-- The journal entry of an array handle (15 R547). -/
def State.journalH (s : State) (f : Flight) (h : Nat) : State :=
  s.journal ⟨f.op.table, 0, h, 0, 0⟩ (f.mseq.getD 0)

/-- Drop a migration copy of handle `h` (05 R185). -/
def State.dropCopy (s : State) (t h : Nat) : State :=
  match (s.tb t).migration with
  | some m =>
    match m.copies.find? (fun c => c.1 == h) with
    | some c => ((s.commitRow c.2 {} 0).rowLeft c.2).updTb t (fun r => { r with migration := some { m with copies := m.copies.erase c } })
    | none => s
  | none => s

/-- A directory entry that leaves no longer waits for its ageing removal (07 R242), and has no sharers to leave out. -/
def State.unage (s : State) (t h : Nat) : State :=
  s.when (t == 255) (fun s => { s with dir := { s.dir with aged := s.dir.aged.filter (fun x => x != h), stale := setNum s.dir.stale h 0 } })

/-- A live row leaves: it is freed, with its handle. -/
def State.removeRow (s : State) (a : Nat) : State :=
  let r := s.row a
  (((s.freeRow a).rowLeft a).dropCopy r.table r.handle).unage r.table r.handle

/-! ### Learns at their commit (07 R228 to R236) -/

/-- The winner of a learn's key now. -/
def State.learnWinner (s : State) (o : LearnOp) : Option Win :=
  (s.matches_ o.table (keySets (oneHot o.key) 0) none).head?

/-- The later learns of a key that were decided against learn `o` are withdrawn and will be decided again (R236). -/
def State.withdrawAfter (s : State) (o : LearnOp) : State :=
  let later := (((s.lrn.ops.dropWhile (fun x => x.id != o.id)).drop 1).filter (fun x =>
    x.table == o.table && x.key == o.key && x.phase == 2)).map (fun x => x.id)
  let mine (og : Origin) : Bool := match og with | .learn id => later.contains id | _ => false
  let s := (s.cutFlights (fun f => mine f.op.origin)).dropOps (fun op => mine op.origin)
  { s with
    mnt := { s.mnt with placeQ := s.mnt.placeQ.filter (fun i => !mine i.origin),
                        tmQ := s.mnt.tmQ.filter (fun i => !mine i.origin),
                        tmWait := s.mnt.tmWait.filter (fun e => !mine e.2.origin) },
    lrn := { s.lrn with ops := s.lrn.ops.map (fun (x : LearnOp) =>
      if later.contains x.id then { x with phase := 1, handle := none } else x) } }

/-- The learn is probed again (R235). -/
def State.relearn (s : State) (o : LearnOp) : State :=
  let s := (s.withdrawAfter o).inc (fLrn o.table 2 16 16)
  let s := { s with lrn := { s.lrn with ops := s.lrn.ops.map (fun (x : LearnOp) =>
    if x.id == o.id then { x with phase := 0, probe := none, row := none, handle := none } else x) } }
  s.probe o.id o.table o.key

/-- The state before its commit tick no longer holds for a learn's decision: it is decided again (R235, R236). An entry that
left its row at an earlier tick makes the learn stage probe again; one that the sweeper removed in this tick leaves the key
absent. -/
def State.redecide (s : State) (o : LearnOp) : State :=
  let left := match o.row, o.handle with
    | some a, some h => o.outcome != 0 && o.outcome != 4 && s.liveRow o.table h != some a && num s.ras.rowTick a != s.tick + 1
    | _, _ => false
  if left then s.relearn o
  else
    let s := s.withdrawAfter o
    { s with lrn := { s.lrn with ops := s.lrn.ops.map (fun (x : LearnOp) =>
      if x.id == o.id then { x with phase := 1, row := none, handle := none } else x) } }

/-- Count the outcome of a learn that commits: INSERTED, MOVED or EVICTED (07 R239, R263); a move raises LEARN_MOVE. -/
def State.countLearn (s : State) (o : LearnOp) (h oldSrc newSrc : Nat) (evicted : Bool) : State :=
  if o.outcome = 2 then
    (s.inc (fLrn o.table 0 32 32)).raise .learnMove (argTH o.table h oldSrc newSrc) 0
  else if o.outcome = 0 then
    let s := s.inc (fLrn o.table 0 0 32)
    if evicted then s.inc (fLrn o.table 1 32 32) else s
  else s

/-- The learn of an operation. -/
def State.learnOf (s : State) (f : Flight) : Option LearnOp :=
  match f.op.origin with
  | .learn id => s.lrn.ops.find? (fun o => o.id == id)
  | _ => none

/-- Whether the decision of a learn outside a lock still holds for the state before its commit (R235). -/
def State.learnHolds (s : State) (o : LearnOp) (k : WKind) : Bool :=
  match k, s.learnWinner o with
  | .learnInsert _, none => true
  | .learnMove, some w => some w.row.handle == o.handle && w.row.src != o.src && !w.row.stat
  | .update, some w => some w.row.handle == o.handle && w.row.src == o.src      -- HIT
  | _, _ => false

/-! ### Row writes -/

/-- A row write that cannot be made is placed afresh from step 1 (05 R160). -/
def State.replaceIns (s : State) (f : Flight) (r : Row) (learn : Bool) : State :=
  let t := f.op.table
  let given := f.op.named.map (fun x => x.2)
  let upd := f.op.lock.isSome && (given.isSome && (s.liveRow t r.handle).isSome) && (s.tb t).bulk.isNone
  let s := match s.learnOf f with | some o => s.withdrawAfter o | none => s
  { s with mnt := { s.mnt with placeQ := s.mnt.placeQ ++
    [{ origin := f.op.origin, table := t, row := r, given := given, at_ := s.tick, lock := f.op.lock, learn := learn,
       bulk := f.op.lock.isSome && (s.tb t).bulk.isSome, upd := upd }] } }

/-- A coarse entry is installed only while no entry covers a line of its page (07 R255), as the table stands before the commit
(R235, R259). -/
def State.installHolds (s : State) (f : Flight) (r : Row) : Bool :=
  match f.op.origin with
  | .dir _ => r.stat || !dirCoarse r.res ||
    !(s.rowsOf 255).any (fun e => e.2.live && dirDpa e.2 / 4096 == dirDpa r / 4096)
  | _ => true

/-- The commit of an insert or an eviction (05 R149, R160; 07 R229). -/
def State.commitInsert (s : State) (f : Flight) (a : Nat) (r : Row) (v : Option Nat) (learn : Bool) : State :=
  let t := f.op.table
  let o? := s.learnOf f
  match (match o? with | some o => if learn && !s.learnHolds o (.learnInsert v) then some o else none | none => none) with
  | some o => s.redecide o
  | none =>
    if !s.installHolds f r then (match f.op.origin with | .dir id => s.dirAgain id | _ => s) else
    if (match v with | some h => s.liveRow t h != some a | none => false) then s.replaceIns f r learn
    else
      let old := s.row a
      let s := match v with
        | some h => (((s.setHrow t h none).dropCopy t h).unage t h).rowLeft a
        | none => s
      let s := (s.commitRow a r s.tick).setHrow t r.handle (some a)
      let s := match v with | some h => s.journalH f h | none => s
      let s := s.journalH f r.handle
      let home := match f.op.origin with | .mirror .. => false | _ => true
      let s := match v with
        | some h =>
          if t = 255 || !home then s
          else if learn then s.raise .learnEvict (argTH t h old.src) r.handle
          else s.raise .tableEvict (argTH t h) r.handle
        | none => s
      let out : Outc := { status := if v.isSome then St.evicted else St.success, table := t, handle := r.handle,
                          victim := v.getD 0, outcome := if learn then (if v.isSome then 4 else 0) else 0 }
      match o? with
      | some o => (s.countLearn o r.handle 0 0 v.isSome).endLearn o out f.mseq
      | none => s.endOp f out

/-- The commit of a staged row under a lock or a bulk load (05 R169, R170, R179). -/
def State.commitStage (s : State) (f : Flight) (a : Nat) (r : Row) : State :=
  let t := f.op.table
  let h := r.handle
  let prev := (s.stagedOf t h).filter (fun b => b != a)
  let live := s.liveRow t h
  let oldSrc := match prev, live with
    | some b, _ | none, some b => (s.row b).src
    | none, none => 0
  let s := s.commitRow a r s.tick
  let s := if live.isSome then s else s.setHrow t h (some a)
  let s := s.updLock t (fun l => { l with live := l.live.erase a ++ [a], reserved := l.reserved.erase h,
                                          learned := l.learned.erase h, lastStage := s.tick })
  let s := if live.isSome then s.markRetire t h else s
  match (s.tb t).bulk with
  | some b => s.updTb t (fun x => { x with bulk := some { b with staged := b.staged + 1 } })
  | none =>
    match prev with
    | some b => s.enqM t (.write b {} .unstage) f.op.origin f.op.lock
    | none =>
      match s.learnOf f with
      | some o =>
        (s.countLearn o h oldSrc r.src false).endLearn o
          { status := St.success, table := t, handle := h, outcome := o.outcome } f.mseq
      | none => s.endOp f { status := St.success, table := t, handle := h }

/-- The commit of the row write that frees a lock's staged row (05 R170). -/
def State.commitUnstage (s : State) (f : Flight) (a : Nat) : State :=
  let t := f.op.table
  let h := (s.row a).handle
  let oldSrc := (s.row a).src
  let s := (s.freeRow a).rowLeft a
  let s := s.updLock t (fun l => { l with live := l.live.erase a, lastStage := s.tick })
  let s := match s.stagedOf t h with
    | some b => if (s.liveRow t h).isSome then s else s.setHrow t h (some b)
    | none => s
  match s.learnOf f with
  | some o =>
    let src := match s.stagedOf t h with | some b => (s.row b).src | none => oldSrc
    (s.countLearn o h oldSrc src false).endLearn o
      { status := St.success, table := t, handle := h, outcome := o.outcome } f.mseq
  | none => s.endOp f { status := St.success, table := t, handle := h }

/-- A learn from outside the lock has changed the live row of a handle that the lock marks: COMMIT takes its SRC (05 R175). -/
def State.noteLearned (s : State) (t h : Nat) : State :=
  s.updLock t (fun l => { l with learned := if l.learned.contains h then l.learned else l.learned ++ [h] })

/-- The commit of a learn move or a directory change written as a row write (07 R229, R254): SRC and result word, H set;
the rest as the row stands. -/
def State.commitMove (s : State) (f : Flight) (a : Nat) (r : Row) (dir : Bool) : State :=
  let t := f.op.table
  match s.liveRow t r.handle with
  | none =>
    (match s.learnOf f, f.op.origin with
     | some o, _ => s.redecide o
     | none, .dir id => s.dirAgain id
     | none, _ => s.endOp f (refusal t St.noMatch))
  | some b =>
    let o := s.row b
    let o? := s.learnOf f
    if (b != a && !dir) || (match o? with | some l => !dir && !s.learnHolds l .learnMove | none => false) then
      (match o? with | some l => s.redecide l | none => s.endOp f (refusal t St.noMatch))
    else
      let n := { (o.setSrc r.src).setH (if dir then o.h else true) with res := r.res }
      let s := s.commitRow b n (if dir then (s.arow b).lastWrite else s.tick)
      let s := s.noteLearned t r.handle
      let s := s.journalH f r.handle
      match o? with
      | some l =>
        let s := s.countLearn { l with outcome := 2 } r.handle o.src r.src false
        s.endLearn l { status := St.success, table := t, handle := r.handle, outcome := 2 } f.mseq
      | none => s.endOp f { status := St.success, table := t, handle := r.handle }

/-- Change the RAS record. -/
def State.updRas (s : State) (f : Ras → Ras) : State := { s with ras := f s.ras }

/-! ### Lost rows (15 R531, 16 R573) -/

/-- The owner of a handle has lost its entry: on a MIRROR table the loss is a mirrored change (15 R531). -/
def State.loseHandle (s : State) (t h : Nat) : State :=
  let id : Ident := ⟨t, 0, h, 0, 0⟩
  if !s.isMirror t then s
  else if s.mirrors t then
    let r := s.mirFrame (mirMsg t .delete h s.tick)
    r.1.journal id r.2
  else if s.pst == .paired then s.forward .tm 0 s.tick (descLine 0x12 t ||| (BitVec.ofNat 512 h <<< 128)) 0
  else if s.benchedNow then { s with pair := { s.pair with keptIds := (s.pair.keptIds ++ [id]).eraseDups } }
  else s.journal id 0

/-- Handle map entries that name row `a`, as (table, handle). -/
def State.namersOf (s : State) (a : Nat) : List (Nat × Nat) :=
  (s.arr.hmap.filter (fun e => e.2 == a + 1)).map (fun e => (e.1 / 2 ^ 22, e.1 % 2 ^ 22))

/-- A row's content disappears: it is written free, what names it is cleared, and a lock or relocation drops it. -/
def State.eraseRow (s : State) (a : Nat) : State :=
  let ns := s.namersOf a
  let s := ns.foldl (fun s n => (s.setHrow n.1 n.2 none).loseHandle n.1 n.2) s
  let tbl := s.tbl.map (fun (e : Nat × Tbl) => (e.1, { e.2 with lock := e.2.lock.map (fun l => { l with live := l.live.erase a }) }))
  let s := { s with tbl := tbl }
  let s := (s.mnt.relocs.filter (fun r => r.old == a || r.new == a)).foldl (fun s r => (s.dropReloc r).releaseWait r.table r.handle) s
  (s.commitRow a {} 0).rowLeft a

/-- A lost row (16 R573). -/
def State.loseRow (s : State) (a : Nat) : State :=
  let t := (s.tableOf (blockOf a)).getD 0
  (s.eraseRow a).raise .arrayRowLost t a

/-- The commit of the row write of input 13 that writes a row free (16 R573): a row on which another operation has committed
since the visit is no longer lost, and is visited again out of turn. -/
def State.commitErase (s : State) (a : Nat) (visit : Option Nat) : State :=
  match visit with
  | none => if (s.row a).counted then (s.freeRow a).rowLeft a else s
  | some v =>
    let s := s.updRas (fun x => { x with repairs := x.repairs.filter (fun r => r.row != a) })
    if v + 1 < num s.ras.rowTick a then s.updRas (fun x => { x with revisit := x.revisit ++ [a] }) else s.loseRow a

/-! ### Repairs of the tally engine -/

/-- TALLY_CNT fields (16 R586): REPAIRS, ERRORS, DISCARDED, DIRTY_FILLS. -/
abbrev fTallyRepairs : F := ⟨0x3e0030, 32, 32⟩
abbrev fTallyErrors : F := ⟨0x3e0030, 0, 32⟩
abbrev fTallyDiscarded : F := ⟨0x3e0038, 32, 16⟩
abbrev fDirtyFills : F := ⟨0x3e0038, 0, 32⟩

/-- The flight is a repair of the tally engine, or its row write that frees a lost row. -/
def Flight.isRepair (f : Flight) : Bool :=
  match f.op.act with | .write _ _ (.repair _) | .write _ _ (.erase (some _)) => true | _ => false

/-- The commit of a repair (16 R567). -/
def State.commitRepair (s : State) (a visit : Nat) : State :=
  let s := { s with ras := { s.ras with repairs := s.ras.repairs.filter (fun r => r.row != a) } }
  if visit + 1 < num s.ras.rowTick a then
    { s.inc fTallyDiscarded with ras := { s.ras with revisit := s.ras.revisit ++ [a] } }
  else
    let lw := (s.arow a).lastWrite
    let r := s.shadowOf a
    let s := s.commitRow a r lw
    let s := if r.counted && ((r.live) || (s.liveRow r.table r.handle).isNone) then s.setHrow r.table r.handle (some a) else s
    (s.inc fTallyRepairs).raise .arrayRowRepaired r.table a

/-- The commit of a row write. -/
def State.commitWrite (s : State) (f : Flight) (a : Nat) (r : Row) (k : WKind) : State :=
  let t := f.op.table
  match k with
  | .insert v => s.commitInsert f a r v false
  | .learnInsert v => s.commitInsert f a r v true
  | .update =>
    match s.liveRow t r.handle with
    | some b =>
      let o := s.row b
      let n := (r.setH o.h).setA o.a
      let s := s.commitRow b n s.tick
      (s.journalH f r.handle).endOp f { status := St.success, table := t, handle := r.handle }
    | none => s.endOp f (refusal t St.noMatch)
  | .free =>
    let o := s.row a
    if o.live && o.table == t then
      ((s.removeRow a).journalH f o.handle).endOp f { status := St.success, table := t, handle := o.handle }
    else s.endOp f (refusal t St.noMatch)
  | .stage => s.commitStage f a r
  | .unstage => s.commitUnstage f a
  | .copy =>
    match s.mnt.relocs.find? (fun x => x.table == t && x.new == a) with
    | some x =>
      let s := s.commitRow a r (s.arow x.old).lastWrite
      let s := { s with mnt := { s.mnt with relocs := s.mnt.relocs.map (fun y =>
        if y = x then { x with staged := some s.tick } else y) } }
      s.enqM t (.upd x.handle (.switch a)) x.origin none (s.tick + 1)
    | none => s
  | .migCopy =>
    match (s.tb t).migration with
    | some m =>
      let lw := match s.liveRow t r.handle with | some o => (s.arow o).lastWrite | none => 0
      (s.commitRow a r lw).updTb t (fun x => { x with migration := some { m with copies := m.copies ++ [(r.handle, a)] } })
    | none => s
  | .repair visit => s.commitRepair a visit
  | .erase visit => s.commitErase a visit
  | .learnMove => s.commitMove f a r false
  | .dirMove => s.commitMove f a r true

/-! ### State updates -/

/-- The switch of a relocation (05 R163, R164, R185). -/
def State.commitSwitch (s : State) (f : Flight) (h new : Nat) : State :=
  let t := f.op.table
  match s.mnt.relocs.find? (fun x => x.table == t && x.handle == h && x.new == new) with
  | none => s
  | some x =>
    let o := s.row x.old
    let s := { s with mnt := { s.mnt with relocs := s.mnt.relocs.erase x } }
    let s := if o.live && o.handle == h && o.table == t then
        let n := s.row new
        let n := if x.row.isSome then (n.setH o.h).setA o.a else n.takeState o
        let lw := if x.row.isSome then s.tick else (s.arow x.old).lastWrite
        let s := (s.commitRow x.old {} 0).rowLeft x.old
        let s := (s.commitRow new ((n.setV true).setG false) lw).setHrow t h (some new)
        let s := s.dropCopy t h
        if x.row.isSome then (s.journalH f h).endOp f { status := St.success, table := t, handle := h }
        else s.endOp f { status := St.success, table := t, handle := h }
      else ((s.commitRow new {} 0).rowLeft new).endOp f (refusal t St.noMatch)
    s.releaseWait t h

/-- COMMIT of a lock or a bulk load at its commit tick (05 R173, R179): staged rows go live; rows marked to retire are freed.
A staged row takes the H that its live row holds, and its SRC where a learn from outside the lock has changed it since the
staging; else it keeps the SRC that the owner's mutation wrote (R175, log 28). -/
def State.commitLock (s : State) (f : Flight) : State :=
  let t := f.op.table
  match (s.tb t).lock with
  | none => s
  | some l =>
    let gone := l.retire.filterMap (fun h => (s.liveRow t h).map (fun a => (h, a)))
    let s := l.live.foldl (fun s a =>
      let n := s.row a
      let n := match gone.find? (fun g => g.1 == n.handle) with
        | some g =>
          let o := s.row g.2
          let n := n.setH o.h
          if l.learned.contains g.1 then n.setSrc o.src else n
        | none => n
      s.commitRow a ((n.setV true).setG false) s.tick) s
    let s := gone.foldl (fun s g => (s.commitRow g.2 {} 0).rowLeft g.2 |>.setHrow t g.1 none) s
    let s := l.live.foldl (fun s a => s.setHrow t (s.row a).handle (some a)) s
    let s := ((l.live.map (fun a => (s.row a).handle)) ++ gone.map (fun g => g.1)).eraseDups.foldl
      (fun s h => s.journalH f h) s
    let s := s.updTb t (fun r => { r with lock := none, commits := if l.bulk then r.commits else satAdd (2 ^ 32 - 1) r.commits 1 })
    let s := if s.isCascade t && !s.isAway && s.pst == .paired && !l.bulk && !Origin.isFwd (l.ender.getD .tm) then
        s.forward .tm l.owner s.tick (descLine 0x17 t) 0
      else s
    match (s.tb t).bulk with
    | some b =>
      let s := (s.updTb t (fun r => { r with bulk := none })).loadProfile t b.profile f.mseq
      (s.afterLock t).endMut t f.mseq b.origin { status := St.success, tick := s.tick, table := t, count := b.records }
    | none => (s.afterLock t).endOp f { status := St.success, table := t }

/-- The discard of a lock at its commit tick (05 R174). -/
def State.commitDiscard (s : State) (f : Flight) : State :=
  let t := f.op.table
  match (s.tb t).lock with
  | none => s
  | some l =>
    let s := s.discardLock t
    let s := (s.afterLock t)
    let s := match l.ender with
      | some og => s.resolve og { status := St.success, tick := s.tick, table := t }
      | none => s
    s.endOp { f with op := { f.op with origin := match f.op.origin with | .mirror a b => .mirror a b | _ => .tm } }
      { status := St.success, table := t }

/-- A sweeper visit at its commit tick (07 R241, R242, R244). -/
def State.commitVisit (s : State) (f : Flight) (h : Nat) : State :=
  let t := f.op.table
  let upd (s : State) (g : Sweep → Sweep) : State :=
    { s with lrn := { s.lrn with sweeps := SMap.set (fun _ => none) s.lrn.sweeps t ((s.sweepOf t).map g) } }
  let s := upd s (fun w => { w with visits := w.visits.erase h, lastVisit := s.tick,
                                    period := Prof.sweepPeriod (s.tb t).profile })
  let moved := match (s.tb t).migration with
    | some m => (match m.cut with | some c => decide (f.g < c) && m.moved.contains h | none => false)
    | none => false
  if moved then upd s (fun w => { w with again := w.again ++ [h] })
  else match s.liveRow t h with
  | none => s.endOp f (refusal t St.noMatch)
  | some a =>
    let r := s.row a
    let lw := (s.arow a).lastWrite
    let done (s : State) : State := (s.journalH f h).endOp f { status := St.success, table := t, handle := h }
    if r.h then done (s.commitRow a ((r.setH false).setA false) lw)
    else if !r.a then done (s.commitRow a (r.setA true) lw)
    else if r.stat then s.endOp f { status := St.success, table := t, handle := h }
    else if t = 255 then
      s.when (!s.dir.aged.contains h) (fun s => { s with dir := { s.dir with aged := s.dir.aged ++ [h] } })
    else
      let s := (s.removeRow a).inc (fLrn t 2 32 32)
      let s := match f.op.origin with
        | .mirror .. => s
        | _ => s.raise .learnAgeOut (argTH t h r.src) 0
      done s

/-- The commit of a state update. -/
def State.commitUpd (s : State) (f : Flight) (h : Nat) (u : Upd) : State :=
  let t := f.op.table
  match u with
  | .hit =>
    match s.learnOf f, s.liveRow t h with
    | some o, some a =>
      if s.learnHolds o .update || o.lock.isSome then
        let s := (s.commitRow a ((s.row a).setH true) (s.arow a).lastWrite).noteLearned t h
        (s.journalH f h).endLearn o { status := St.success, table := t, handle := h, outcome := 1 } f.mseq
      else s.redecide o
    | some o, none => s.redecide o
    | none, some a => (s.commitRow a ((s.row a).setH true) (s.arow a).lastWrite).endOp f { status := St.success, table := t }
    | none, none => (match f.op.origin with | .dir id => s.dirAgain id | _ => s.endOp f (refusal t St.noMatch))
  | .visit => s.commitVisit f h
  | .remove =>
    match s.liveRow t h with
    | some a => ((s.removeRow a).journalH f h).endOp f { status := St.success, table := t, handle := h }
    | none => s.endOp f (refusal t St.noMatch)
  | .dirChange src res hb =>
    match s.liveRow t h with
    | some a =>
      let r := s.row a
      let n := { (r.setSrc src.toNat).setH (r.h || hb) with res := res }
      (s.commitRow a n (s.arow a).lastWrite).endOp f { status := St.success, table := t, handle := h }
    | none => s.endOp f (refusal t St.noMatch)
  | .switch new => s.commitSwitch f h new
  | .lockCommit => s.commitLock f
  | .lockDiscard => s.commitDiscard f
  | .cutover => s.cutover t
  | .tighten .. => s

/-! ### Row reads, and the commit of one flight -/

/-- The observation of a row read at g + 5 (02 R45). The tally engine and the shadow writer observe theirs by their own
commands. -/
def State.commitRead (s : State) (f : Flight) (a : Nat) : State :=
  match f.op.origin with
  | .tally | .tallyOut | .dirtyFill | .resync _ => s
  | og =>
    match f.op.named with
    | some (c, h) => s.observe og f.op.table c h
    | none => s.observe og f.op.table 4096 (s.row a).handle

/-- The flight takes effect. -/
def State.commitFlight (s : State) (f : Flight) : State :=
  let s := s.dropFlight f
  match f.op.act with
  | .write a r k => s.commitWrite f a r k
  | .upd h u => s.commitUpd f h u
  | .read a => s.commitRead f a
  | .search .. | .pass .. => s

/-- The flight is a row read. -/
def Flight.isRead (f : Flight) : Bool := match f.op.act with | .read _ => true | _ => false

/-- A row operation whose commit tick is here; that of a stuck requester does not commit (log 38). Visits of the tally engine and the shadow writer wait for their own
commands. -/
def Flight.commitDue (f : Flight) (t : Nat) : Bool :=
  decide (f.g + 5 ≤ t) && !f.stuck &&
  match f.op.act with
  | .search .. | .pass .. => false
  | .read _ => (match f.op.origin with | .tally | .tallyOut | .dirtyFill | .resync _ => false | _ => true)
  | _ => true

/-- The order of commits (07 R236): by tick, then the sweeper, the learn stage and the directory, table maintenance; row reads
observe every commit of their tick (02 R45). -/
def Flight.commitKey (f : Flight) : Nat :=
  f.g * 4 + (if f.isRead then 3 else if f.input = 11 then 0 else if f.input = 9 || f.input = 10 then 1 else 2)

/-- The next flight to commit that satisfies `p`. -/
def State.nextCommit (s : State) (p : Flight → Bool) : Option Flight :=
  leastBy Flight.commitKey (s.arb.flights.filter (fun f => f.commitDue s.tick && p f))

/-- The flight is a relocation's switch. -/
def Flight.isSwitch (f : Flight) : Bool := match f.op.act with | .upd _ (.switch _) => true | _ => false

/-- Commit the next due flight that satisfies `p`. -/
def State.commitNext (s : State) (p : Flight → Bool) : State :=
  match s.nextCommit p with
  | some f => s.commitFlight f
  | none => s

/-- A mirrored change commits by MIR_OP_COMMIT (15 R527). -/
def Flight.isMirrored (f : Flight) : Bool := match f.op.origin with | .mirror .. => true | _ => false

/-- ROW_COMMIT (02 R44). A relocation's switch commits by RELOCATION_SWITCH, a mirrored change by MIR_OP_COMMIT, a repair by
TALLY_REPAIR. -/
def State.rowCommit (s : State) : State :=
  s.commitNext (fun f => !f.isSwitch && !f.isMirrored && !f.isRepair)

/-- ROW_COMMIT. -/
def execRowCommit (s : State) : Res := whileUp s State.rowCommit

/-- RELOCATION_SWITCH (05 R164). -/
def execRelocationSwitch (table : TableId) (handle : BitVec 22) (s : State) : Res :=
  whileUp s (fun s => s.commitNext (fun f => f.isSwitch && f.op.table == table.val &&
    (match f.op.act with | .upd h _ => h == handle.toNat | _ => false)))

/-- Commit everything due at this tick that satisfies `p`, at most `n` flights. -/
def State.commitAll (p : Flight → Bool) (s : State) : Nat → State
  | 0 => s
  | n + 1 => match s.nextCommit (fun f => !f.isMirrored && p f) with
    | some f => State.commitAll p (s.commitFlight f) n
    | none => s

end Sys2Proof.Machine
end

