-- ==== Sys2Proof/Machine/Rangers.lean ====
section
/-! DEFINITION. Rangers and automaton scanning (09). -/

namespace Sys2Proof.Machine

/-! ### Images (R294 to R297) -/

namespace Img
def states (i : List Byte) : Nat := le i 0x08 4
def start (i : List Byte) : Nat := le i 0x0C 2
def reach (i : List Byte) : Nat := le i 0x0E 2
def accepts (i : List Byte) : Nat := le i 0x10 4
/-- Transition entry `v` of state `s` (R295). -/
def trans (i : List Byte) (s v : Nat) : Nat := le i (0x40 + 32 * s + 2 * v) 2
def next (e : Nat) : Nat := e % 2 ^ 14
def acc (e : Nat) : Bool := e.testBit 15
/-- Accept record `k` (R296). -/
def record (i : List Byte) (k : Nat) : Nat := le i (0x40 + 32 * states i + 8 * k) 8
def recState (r : Nat) : Nat := r % 2 ^ 14
def recId (r : Nat) : Nat := r / 2 ^ 16 % 2 ^ 16
def recLen (r : Nat) : Nat := r / 2 ^ 32 % 2 ^ 13
/-- The accept records of a state, in table order. -/
def recordsOf (i : List Byte) (s : Nat) : List Nat :=
  ((List.range (accepts i)).map (record i)).filter (fun r => recState r == s)
/-- Transition and accept banks (R299). -/
def tBanks (i : List Byte) : Nat := (states i + 1023) / 1024
def aBanks (i : List Byte) : Nat := (accepts i + 511) / 512
/-- Ticks of a load at 128 B per tick (R300). -/
def loadTicks (i : List Byte) : Nat := (32 * states i + 8 * accepts i + 127) / 128
end Img

/-- The CRC-32C of R188 over bytes. -/
def crc32c (bs : List Byte) : Nat :=
  let step (c : Nat) : Nat := if c % 2 = 1 then Nat.xor (c / 2) 0x82F63B78 else c / 2
  Nat.xor (bs.foldl (fun c b =>
    step (step (step (step (step (step (step (step (Nat.xor c b.toNat))))))))) 0xFFFFFFFF) 0xFFFFFFFF

/-- CHECK at 0x3C of a header agrees with the image, CHECK taken as zero (R188, R294). -/
def checkOk (i : List Byte) : Bool :=
  le i 0x3C 4 == crc32c (i.take 0x3C ++ [0, 0, 0, 0] ++ i.drop 0x40)

/-- The bytes [o, o + n) are zero. -/
def zeroBytes (i : List Byte) (o n : Nat) : Bool := le i o n == 0

/-- The conditions of R294 to R297 on a compiled image. -/
def imageValid (i : List Byte) : Bool :=
  let n := Img.states i
  let k := Img.accepts i
  let recs := (List.range k).map (Img.record i)
  let key (r : Nat) : Nat := Img.recState r * 2 ^ 16 + Img.recId r
  le i 0 4 == 0x41465A4E && le i 4 2 == 1 && zeroBytes i 6 2 && decide (1 ≤ n) && decide (n ≤ 16384) &&
  decide (Img.start i < n) && decide (1 ≤ Img.reach i) && decide (Img.reach i ≤ 4096) && decide (k ≤ 8192) &&
  zeroBytes i 0x14 4 && le i 0x18 4 == 0x40 && le i 0x1C 4 == 0x40 + 32 * n && le i 0x20 8 == 0x40 + 32 * n + 8 * k &&
  i.length == 0x40 + 32 * n + 8 * k && zeroBytes i 0x28 20 && checkOk i &&
  recs.all (fun r => r / 2 ^ 45 == 0 && r / 2 ^ 14 % 4 == 0 && decide (Img.recState r < n) &&
    decide (1 ≤ Img.recLen r) && decide (Img.recLen r ≤ Img.reach i)) &&
  (recs.zip recs.tail).all (fun p => decide (key p.1 < key p.2)) &&
  (Img.recordsOf i (Img.start i)).isEmpty &&
  (recs.map Img.recState).eraseDups.all (fun s => decide ((Img.recordsOf i s).length ≤ 8)) &&
  (List.range (16 * n)).all (fun j =>
    let e := Img.trans i (j / 16) (j % 16)
    !e.testBit 14 && decide (Img.next e < n) && Img.acc e == !(Img.recordsOf i (Img.next e)).isEmpty)

/-! ### Jobs and threads -/

/-- Thread `k` = 4 · ranger + thread. -/
def State.thread (s : State) (k : Nat) : Option ScanThread := SMap.get (fun _ => none) s.rng.threads k
/-- Replace a thread; one that becomes idle is idle at the start of the next tick (R311). -/
def State.setThread (s : State) (k : Nat) (t : Option ScanThread) : State :=
  { s with rng := { s.rng with threads := SMap.set (fun _ => none) s.rng.threads k t,
                               freed := if t.isNone then setNum s.rng.freed k (s.tick + 1) else s.rng.freed } }
/-- The job with an identifier. -/
def State.job? (s : State) (id : Nat) : Option ScanJob := s.rng.jobs.find? (fun j => j.id == id)
/-- Change a job. -/
def State.updJob (s : State) (id : Nat) (f : ScanJob → ScanJob) : State :=
  { s with rng := { s.rng with jobs := s.rng.jobs.map (fun j => if j.id == id then f j else j) } }

/-- Chunks of a range (R308). -/
def chunksOf (len : Nat) : Nat := (len + 65535) / 65536
/-- All chunks of a job. -/
def ScanJob.total (j : ScanJob) : Nat := (j.ranges.map (fun r => chunksOf r.2)).foldl (· + ·) 0

/-- Range index and chunk within the range of chunk number `seq` (R308). -/
def chunkAt : List (Nat × Nat) → Nat → Nat → Option (Nat × Nat)
  | [], _, _ => none
  | r :: rs, i, seq => if seq < chunksOf r.2 then some (i, seq) else chunkAt rs (i + 1) (seq - chunksOf r.2)

/-- Every page of a run of DPA belongs to a domain (R305). -/
def State.dpaOk (s : State) (d a n : Nat) : Bool :=
  (List.range ((a % 4096 + n + 4095) / 4096)).all (fun i => s.pageOf d (a / 4096 + i))

/-! ### Acceptance (R302 to R307) -/

/-- A rule record at byte `o` of the job block (R304). -/
def ruleAt (b : List Byte) (o : Nat) : ScanRule :=
  { table := le b o 1, post := le b (o + 1) 1 % 4, swap := (le b (o + 1) 1).testBit 2, extBytes := le b (o + 2) 1,
    extOff := (BitVec.ofNat 16 (le b (o + 4) 2)).toInt, lo := le b (o + 6) 2, hi := le b (o + 8) 2,
    leave := BitVec.ofNat 40 (le b (o + 10) 5) }

/-- The format rules of a rule record. -/
def ruleOk (b : List Byte) (o : Nat) : Bool :=
  let r := ruleAt b o
  le b (o + 1) 1 / 8 == 0 && r.post != 3 && zeroBytes b (o + 3) 1 && zeroBytes b (o + 15) 1 &&
  decide (1 ≤ r.extBytes) && decide (r.extBytes ≤ 20) && decide (-4096 ≤ r.extOff) && decide (r.extOff ≤ 4095) &&
  decide (r.extOff + r.extBytes ≤ 4096) && decide (r.lo ≤ r.hi)

/-- The fields of a job block that need no range list (R302, R305). -/
def jobFormat (b : List Byte) : Bool :=
  let fl := le b 0x19 1
  let rc := le b 3 1
  le b 0 2 / 4096 == 0 && decide (rc ≤ 8) && decide (1 ≤ le b 4 2) && decide (le b 4 2 ≤ 4096) &&
  le b 8 8 % 64 == 0 && le b 0x10 8 % 4096 == 0 && decide (6 ≤ le b 0x18 1) && decide (le b 0x18 1 ≤ 20) &&
  fl / 8 % 8 == 0 && decide (le b 0x1A 1 ≤ 128) && zeroBytes b 0x1B 5 && zeroBytes b 0x24 28 &&
  (fl.testBit 0 || decide (le b 8 8 < 2 ^ 44)) && (fl.testBit 1 || decide (le b 0x10 8 < 2 ^ 44)) &&
  (List.range 8).all (fun i => if i < rc then ruleOk b (0x40 + 16 * i) else zeroBytes b (0x40 + 16 * i) 16)

/-- The range records (R303). -/
def rangesOf (n : Nat) (b : List Byte) : List (Nat × Nat) :=
  (List.range n).map (fun i => (le b (16 * i) 8, le b (16 * i + 8) 8))

/-- A range lies within R303. -/
def rangeOk (r : Nat × Nat) : Bool :=
  decide (r.1 < 2 ^ 44) && decide (1 ≤ r.2) && decide (r.2 ≤ 2 ^ 44) && decide (r.1 + r.2 ≤ 2 ^ 44)

/-- A rule's table may be searched by the context, and its LEAVE passes R81 (R305). -/
def State.ruleBad (s : State) (c : Nat) (r : ScanRule) : Option Nat :=
  let x := s.cx c
  let tb := s.tb r.table
  (s.step23 1 r.table x.domain).or <| (kindClass 1 tb.kind x.steward false).or <|
  firstBad [((!x.steward && !Prof.tenantSearch tb.profile) || (r.leave &&& ~~~(Prof.leaveSet tb.profile)) != 0, St.privilege)]

/-- The image table of a job (R305, R121, R106). -/
def State.imageBad (s : State) (c t : Nat) : Option Nat :=
  (s.step23 1 t (s.cx c).domain).or <| firstBad [((s.tb t).kind != 5, St.malformed)]

/-- How a SCAN goes on: a fault of its context, a status, or the accepted job. -/
inductive ScanAnswer where
  | fault
  | ends (st : Nat)
  | job (j : ScanJob)
  deriving DecidableEq, Repr

/-- A read of the job block or of the range list meets a held page, and the descriptor waits (01 R13, R16). -/
def State.scanWaits (s : State) (c : Nat) (r : Req) : Bool :=
  let d := (s.cx c).domain
  let addr := lineLe r.slot1 0x10 8
  !r.flag0 && addr % 64 == 0 && decide (addr < 2 ^ 44) && s.dpaOk d addr 192 &&
  (s.runHeld addr 192 ||
    (let b := s.hdmBytes addr 192
     jobFormat b && !(le b 0x19 1).testBit 0 && s.dpaOk d (le b 8 8) (16 * le b 4 2) && s.runHeld (le b 8 8) (16 * le b 4 2)))

/-- The reads of a job block and a range list that lie in HDM (16 R555). -/
def State.scanRead (s : State) (c : Nat) (r : Req) (hostJob : List Byte) : State :=
  let d := (s.cx c).domain
  let addr := lineLe r.slot1 0x10 8
  if !r.flag0 && (addr % 64 != 0 || decide (2 ^ 44 ≤ addr) || !s.dpaOk d addr 192) then s else
  let s := if r.flag0 then s else s.readCheck 2 (s.cx c).ldid addr 192
  let b := if r.flag0 then hostJob.take 192 else s.hdmBytes addr 192
  let k := le b 4 2
  let la := le b 8 8
  if (!r.flag0 && s.runPoison addr 192) || !jobFormat b || (le b 0x19 1).testBit 0 || !s.dpaOk d la (16 * k) then s
  else s.readCheck 2 (s.cx c).ldid la (16 * k)

/-- The checks of R305 in table order. `hostJob` and `hostRanges` are what CXL.io DMA returned. -/
def State.scanCheck (s : State) (c n : Nat) (r : Req) (hostJob hostRanges : List Byte) : ScanAnswer :=
  let x := s.cx c
  let addr := lineLe r.slot1 0x10 8
  if addr % 64 != 0 || (!r.flag0 && decide (2 ^ 44 ≤ addr)) then .ends St.malformed
  else if !r.flag0 && !s.dpaOk x.domain addr 192 then .ends St.privilege
  else if (if r.flag0 then decide (hostJob.length < 192) else s.runPoison addr 192) then .fault
  else
    let b := if r.flag0 then hostJob.take 192 else s.hdmBytes addr 192
    if !jobFormat b then .ends St.malformed
    else
      let k := le b 4 2
      let la := le b 8 8
      let lh := (le b 0x19 1).testBit 0
      if !lh && !s.dpaOk x.domain la (16 * k) then .ends St.privilege
      else if (if lh then decide (hostRanges.length < 16 * k) else s.runPoison la (16 * k)) then .fault
      else
        let rs := rangesOf k (if lh then hostRanges else s.hdmBytes la (16 * k))
        let d := le b 0 2
        let rules := (List.range (le b 3 1)).map (fun i => ruleAt b (0x40 + 16 * i))
        let fl := le b 0x19 1
        let ringBytes := 32 * 2 ^ le b 0x18 1
        let bad :=
          (firstBad [(!rs.all rangeOk, St.malformed), (d != x.domain, St.privilege)]).or <|
          (s.imageBad c (le b 2 1)).or <|
          (rules.findSome? (s.ruleBad c)).or <|
          firstBad [(!rs.all (fun q => s.dpaOk d q.1 q.2) || (!fl.testBit 1 && !s.dpaOk d (le b 0x10 8) ringBytes), St.privilege),
            (s.rng.jobs.any (fun j => j.ctx == c && j.ringIndex == fl / 64), St.locked)]
        match bad with
        | some st => .ends st
        | none => .job { id := s.ids, ctx := c, n := n, accept := s.tick, tag := le b 6 2, image := le b 2 1, ranges := rs,
                         rules := rules, ringBase := le b 0x10 8, ringLog := le b 0x18 1, ringHost := fl.testBit 1,
                         ringIndex := fl / 64, marks := fl.testBit 2,
                         maxThreads := if le b 0x1A 1 = 0 then 128 else le b 0x1A 1,
                         mask := if le b 0x20 4 = 0 then BitVec.allOnes 32 else BitVec.ofNat 32 (le b 0x20 4) }

/-- SCAN_RETARGET (R313): the oldest uncompleted job of that context and tag, of the requester's own domain. -/
def State.scanRetarget (s : State) (og : Origin) (c : Nat) (r : Req) : State :=
  let x := s.cx c
  let jc := lineLe r.slot1 0x10 2
  let tag := lineLe r.slot1 0x12 2
  let m := lineLe r.slot1 0x14 4
  if !x.steward then s.resolve og (refusal 0 St.privilege)
  else match s.rng.jobs.find? (fun j => j.ctx == jc && j.tag == tag && (s.cx j.ctx).domain == x.domain) with
  | some j => (s.updJob j.id (fun j => { j with mask := if m = 0 then BitVec.allOnes 32 else BitVec.ofNat 32 m })).resolve og
      { status := St.success, tick := s.tick }
  | none => s.resolve og { refusal 0 St.noMatch with tick := s.tick }

/-! ### Taking chunks (R299, R300, R311, R329) -/

/-- The image of a table. -/
def State.imageOf (s : State) (t : Nat) : List Byte := (s.tb t).image

/-- Images resident in a ranger. -/
def State.residents (s : State) (r : Nat) : List Resident := SMap.get (fun _ => []) s.rng.resident r

/-- The threads of ranger `r` at work. -/
def State.busyThreads (s : State) (r : Nat) : List ScanThread := (List.range 4).filterMap (fun k => s.thread (4 * r + k))

/-- A thread of the ranger runs the image of table `t`. -/
def State.runsImage (s : State) (r t : Nat) : Bool :=
  (s.busyThreads r).any (fun th => match s.job? th.job with | some j => j.image == t && !th.ended | none => false)

/-- Discard resident images that no thread runs, the one whose latest take is oldest first, until image `i` fits; none
when it cannot (R300). -/
def State.makeRoom (s : State) (r : Nat) (i : List Byte) : Nat → List Resident → Option (List Resident)
  | 0, _ => none
  | fuel + 1, res =>
    let t := (res.map (fun e => Img.tBanks e.image)).foldl (· + ·) 0
    let a := (res.map (fun e => Img.aBanks e.image)).foldl (· + ·) 0
    if t + Img.tBanks i ≤ 16 && a + Img.aBanks i ≤ 16 then some res
    else match leastBy (fun (e : Resident) => e.take * 256 + e.table) (res.filter (fun e => !s.runsImage r e.table)) with
    | some e => State.makeRoom s r i fuel (res.erase e)
    | none => none

/-- RNG_ENABLE. -/
abbrev offRngEnable := 0x70000

/-- The image that a table holds now is resident. -/
def State.hasImage (s : State) (res : List Resident) (t : Nat) : Bool :=
  res.any (fun e => e.table == t && e.image == s.imageOf t)

/-- The job is eligible for ranger `r` (R311), with the resident images after the take. -/
def State.eligible (s : State) (r : Nat) (j : ScanJob) : Option (List Resident) :=
  if decide (s.tick ≤ j.accept) || decide (j.total ≤ j.next) || !j.mask.getLsbD r || !bit (s.reg offRngEnable) r ||
     decide (j.maxThreads ≤ (s.rng.threads.filter (fun e => match e.2 with | some t => t.job == j.id && !t.ended | none => false)).length)
  then none
  else
    let res := s.residents r
    if s.hasImage res j.image then some res
    else s.makeRoom r (s.imageOf j.image) 20 res

/-- The threads of a ranger that may scan: four, and THR_THREADS while the throttle acts (19 R650). -/
def State.threadLimit (s : State) : Nat := if bit (s.reg 0xc08) 63 then min 4 (max 1 (fld (s.reg 0xc00) 32 3)) else 4

/-- The job of which thread `n` takes a chunk, with the resident images after the take: the oldest eligible one (R311). -/
def State.takes (s : State) (n : Nat) : Option (ScanJob × List Resident) :=
  let r := n / 4
  if (s.thread n).isSome || decide (s.tick < num s.rng.freed n) ||
    decide (s.threadLimit ≤ ((s.busyThreads r).filter (fun t => !t.ended)).length) then none
  else (sortBy (fun (j : ScanJob) => j.accept * 4096 + j.ctx) s.rng.jobs).findSome? (fun j => (s.eligible r j).map (fun res => (j, res)))

/-- CHUNK_TAKE: the idle threads of a tick take chunks in ascending order of 4 · ranger + thread (R311), so a thread before
which another can still take one waits. -/
def State.chunkTake (s : State) (r k : Nat) : State :=
  if (List.range (4 * r + k)).any (fun n => (s.takes n).isSome) then s else
    match s.takes (4 * r + k) with
    | none => s
    | some (j, res) =>
      match chunkAt j.ranges 0 j.next with
      | none => s
      | some (ri, ci) =>
        let rg := j.ranges.getD ri (0, 0)
        let img := s.imageOf j.image
        let c0 := 65536 * ci
        let c1 := min (65536 * (ci + 1)) rg.2
        let w := min (65536 * (ci + 1) + Img.reach img) rg.2
        let here := s.hasImage res j.image
        let res := res.filter (fun e => !(e.table == j.image && e.image == img)) ++ [⟨j.image, s.tick, img⟩]
        let loading := (s.busyThreads r).findSome? (fun t =>
          match s.job? t.job with | some q => if q.image == j.image && decide (s.tick < t.loadAt) then some t.loadAt else none | none => none)
        let loadAt := if here then loading.getD s.tick else s.tick + Img.loadTicks img - 1
        let s := { s with rng := { s.rng with resident := SMap.set (fun _ => []) s.rng.resident r res } }
        let s := s.updJob j.id (fun q => { q with next := q.next + 1 })
        let th : ScanThread :=
          { job := j.id, seq := j.next, range := ri, c0 := c0, c1 := c1, wEnd := w, pos := c0, st := Img.start img, image := img,
            loadAt := loadAt, start := if here && loading.isNone then some (s.tick + 1) else none }
        if s.dpaOk (s.cx j.ctx).domain (rg.1 + c0) (w - c0) then s.setThread (4 * r + k) (some th)
        else
          (s.updJob j.id (fun q => { q with skipped := true })).setThread (4 * r + k)
            (some { th with ended := true, start := some s.tick, pos := w, buf := [{ pos := 0, kind := 3, off := c0 }] ++
              (if j.marks then [{ pos := 1, kind := 4, off := c0 }] else []) })

/-- CHUNK_TAKE. -/
def execChunkTake (ranger : Fin 32) (thread : Fin 4) (s : State) : Res :=
  whileServing s (fun s => s.chunkTake ranger.val thread.val)

/-- IMAGE_LOAD_DONE (R300): scanning begins in the next tick. -/
def execImageLoadDone (ranger : Fin 32) (thread : Fin 4) (s : State) : Res :=
  whileUp s (fun s => match s.thread (4 * ranger.val + thread.val) with
    | some t => s.when (t.start.isNone && decide (t.loadAt ≤ s.tick))
        (fun s => s.setThread (4 * ranger.val + thread.val) (some { t with start := some (s.tick + 1) }))
    | none => s)

/-! ### Scanning a byte (R298, R309, R315 to R318, R328) -/

/-- The bytes a rule extracts as a key, or none when one lies outside the range or in a poisoned line beyond the window
(R316, R317, R328). -/
def State.extract (s : State) (rg : Nat × Nat) (c0 wEnd a : Nat) (r : ScanRule) : Option Key :=
  let first : Int := Int.ofNat a + r.extOff
  if first < 0 || decide (Int.ofNat rg.2 < first + r.extBytes) then none
  else
    let f := first.toNat
    let bs := s.hdmBytes (rg.1 + f) r.extBytes
    let outside := (List.range r.extBytes).any (fun i =>
      (decide (f + i < c0) || decide (wEnd ≤ f + i)) && s.runPoison (rg.1 + f + i) 1)
    if outside then none
    else some (BitVec.ofNat 160 (ofBytes (if r.swap then bs.reverse else bs)))

/-- A kept match: its rule's lookup is issued, or its outcome is known (R315 to R318). -/
def State.keepMatch (s : State) (t : ScanThread) (j : ScanJob) (start len id : Nat) : State × ScanThread :=
  let e : RepEntry := { pos := t.matches_, kind := 1, off := start, len := len, id := id }
  let t := { t with matches_ := t.matches_ + 1 }
  match (List.range j.rules.length).find? (fun i =>
      match j.rules[i]? with | some r => decide (r.lo ≤ id) && decide (id ≤ r.hi) | none => false) with
  | none => (s, { t with buf := t.buf ++ [e] })
  | some i =>
    match j.rules[i]? with
    | none => (s, t)
    | some r =>
      match s.extract (j.ranges.getD t.range (0, 0)) t.c0 t.wEnd start r with
      | none => (s, { t with buf := t.buf ++ [{ e with rule := some i, outc := some (refusal r.table St.indexRange) }] })
      | some key =>
        let tb := s.tb r.table
        let tenant := !(s.cx j.ctx).steward
        if tb.state != 2 then
          (s, { t with buf := t.buf ++ [{ e with rule := some i, outc := some (refusal r.table St.contextDisabled) }] })
        else if s.gate r.table == .stale then
          (s, { t with buf := t.buf ++ [{ e with rule := some i, outc := some (refusal r.table St.staleGeneration) }] })
        else
          let og := Origin.rule t.job t.seq e.pos
          let s := if isArray tb.kind then
              s.enqOp 8 { table := r.table, act := .search { key := key, leave := r.leave } tenant false, origin := og }
            else if tb.kind = 2 then s.trieLook r.table (.lookup key tenant false (r.leave != 0)) og
            else s.directOp r.table (.lookup key tenant false (r.leave != 0)) og
          (s, { t with buf := t.buf ++ [{ e with rule := some i, await := true }] })

/-- The report stage takes the next accept record of the last byte, while the buffer has room (R293, R309). -/
def State.takeAccept (s : State) (t : ScanThread) (j : ScanJob) : State × ScanThread :=
  match t.todo with
  | [] => (s, t)
  | (o, r) :: rest =>
    if 64 ≤ t.buf.length then (s, t) else
    let t := { t with todo := rest }
    let l := Img.recLen r
    if l ≤ o + 1 && t.c0 ≤ o + 1 - l && o + 1 - l < t.c1 then s.keepMatch t j (o + 1 - l) l (Img.recId r) else (s, t)

/-- The high nibble of the next byte (R298), or the poisoned line at which the scan stops (R328); whether the thread stalls,
because the byte's page is held. -/
def State.highNibble (s : State) (k : Nat) (t : ScanThread) (j : ScanJob) : State × Bool :=
  let rg := j.ranges.getD t.range (0, 0)
  let a := rg.1 + t.pos
  if s.runHeld a 1 then (s, true) else
  let s := if a % 64 = 0 || t.pos = t.c0 then s.readCheck 3 0 a 1 else s
  if s.runPoison a 1 then
    ((s.updJob j.id (fun q => { q with poison := true })).setThread k
      (some { t with wEnd := t.pos, stop := some (a / 64 * 64 - rg.1) }), false)
  else
    let b := ofBytes (s.hdmBytes a 1)
    (s.setThread k (some { t with st := Img.next (Img.trans t.image t.st (b / 16)), low := some (b % 16) }), false)

/-- The low nibble: the byte is scanned, and its accept records wait for the report stage (R298). -/
def State.lowNibble (s : State) (k : Nat) (t : ScanThread) (j : ScanJob) (b : Nat) : State :=
  let e := Img.trans t.image t.st b
  let todo := if Img.acc e then (Img.recordsOf t.image (Img.next e)).map (fun r => (t.pos, r)) else []
  let s := s.setThread k (some { t with st := Img.next e, pos := t.pos + 1, low := none, todo := todo })
  let s := s.updJob j.id (fun q => { q with bytes := q.bytes + 1 })
  s.inc ⟨0x70200 + 8 * (k / 4), 0, 64⟩

/-- One core clock of a thread (R292, R293): the report stage, then a nibble; whether the thread stalls. -/
def State.scanClock (s : State) (k : Nat) : State × Bool :=
  match s.thread k with
  | none => (s, false)
  | some t =>
    match s.job? t.job with
    | none => (s, false)
    | some j =>
      let p := s.takeAccept t j
      let t := p.2
      let s := p.1.setThread k (some t)
      if t.wEnd ≤ t.pos then (s, false)
      else if 64 ≤ t.buf.length then (s, true)
      else match t.low with
      | none => s.highNibble k t j
      | some b => if t.todo.isEmpty then (s.lowNibble k t j b, false) else (s, true)

/-- A thread's work of a tick: four core clocks; a tick with a stalled clock counts as stalled (R293, R335; log 43). -/
def State.scanTick (s : State) (k : Nat) : State :=
  match s.thread k with
  | none => s
  | some t =>
    match t.start with
    | none => s
    | some f =>
      if t.ended || s.tick < f then s
      else
        let p := (List.range 4).foldl (fun (p : State × Bool) _ => let q := p.1.scanClock k; (q.1, p.2 || q.2)) (s, false)
        p.1.when p.2 (·.inc ⟨0x70300 + 8 * (k / 4), 32, 32⟩)

/-- All threads at the close of a tick. -/
def State.scanAll (s : State) : State := s.rng.threads.foldl (fun s e => s.scanTick e.1) s

/-- CHUNK_END (R309, R322, R328): the window's end, or a poisoned line, is reached; a CHUNK_END record is the chunk's last when CHUNK_MARKS is set. -/
def State.chunkEnd (s : State) (k : Nat) : State :=
  match s.thread k with
  | none => s
  | some t =>
    match s.job? t.job with
    | none => s.setThread k none
    | some j =>
      if t.ended || t.start.isNone || t.pos < t.wEnd || !t.todo.isEmpty then s
      else
        let bad : List RepEntry := match t.stop with | some a => [{ pos := t.matches_, kind := 2, off := a }] | none => []
        let mark : List RepEntry := if j.marks then [{ pos := t.matches_ + 1, kind := 4, off := t.c0 }] else []
        let buf := t.buf ++ bad ++ mark
        let s := s.updJob j.id (fun q => { q with scanned := q.scanned + 1 })
        s.setThread k (if buf.isEmpty then none else some { t with ended := true, buf := buf })

/-- CHUNK_END. -/
def execChunkEnd (ranger : Fin 32) (thread : Fin 4) (s : State) : Res :=
  whileUp s (fun s => s.chunkEnd (4 * ranger.val + thread.val))

/-! ### Reports (R319 to R324) -/

/-- Whether a report is posted (R319). -/
def postsReport (post : Nat) (o : Outc) : Bool :=
  if o.status = St.success || (o.status = St.partial_ && o.hit) then post == 0 || post == 2
  else if o.status = St.noMatch || o.status = St.partial_ || o.status = St.indexRange then post == 1 || post == 2
  else true

/-- A report record of 32 B (R321). -/
def reportBits (j : ScanJob) (t : ScanThread) (e : RepEntry) (phase : Bool) : BitVec 256 :=
  let o := e.outc.getD { status := 0 }
  let hitClass := o.status == St.success || (o.status == St.partial_ && o.hit)
  let w0 : Word := putFld (putFld 0 52 12 t.range) 0 44 e.off
  let w1 : Word := if e.kind = 4 then BitVec.ofNat 64 t.posted else if hitClass && e.outc.isSome then o.res else 0
  let w2 : Word := putFld (putFld (putFld (putFld (putFld (putFld (putFld 0 56 8 (if e.outc.isSome then o.status else 0))
    55 1 (if e.outc.isSome && o.hit then 1 else 0)) 54 1 (if e.rule.isSome then 1 else 0)) 51 3 (e.rule.getD 0))
    48 3 e.kind) 16 13 e.len) 0 16 e.id
  let w3 : Word := putFld (putFld (putFld 0 63 1 (if phase then 1 else 0)) 32 16 j.tag) 0 32 t.seq
  w3 ++ w2 ++ w1 ++ w0

/-- Take lookup results from the inbox into a thread's buffer. -/
def State.takeLookups (s : State) (k : Nat) : State :=
  match s.thread k with
  | none => s
  | some t =>
    let mine (e : Origin × Outc) : Option (Nat × Outc) :=
      match e.1 with | .rule jb sq p => if jb == t.job && sq == t.seq then some (p, e.2) else none | _ => none
    let got := s.inbox.filterMap mine
    let s := { s with inbox := s.inbox.filter (fun e => (mine e).isNone) }
    let buf := t.buf.map (fun e => if e.await then
      match got.find? (fun g => g.1 == e.pos) with
      | some g => { e with await := false, outc := some g.2 }
      | none => e
      else e)
    if got.any (fun g => g.2.status == St.poisoned) then
      (s.updJob t.job (fun j => { j with poison := true })).setThread k (some { t with buf := buf })
    else s.setThread k (some { t with buf := buf })

/-- The report ring has room (R323). -/
def State.reportRoom (s : State) (j : ScanJob) : Bool :=
  decide (sub32 j.posted (num (s.cx j.ctx).reportCons j.ringIndex) < 2 ^ j.ringLog)

/-- REPORT_POST: the thread's next report is posted, or dropped by R319. -/
def State.reportPost (s : State) (k : Nat) : State :=
  let s := s.takeLookups k
  match s.thread k with
  | none => s
  | some t =>
    match s.job? t.job, t.buf with
    | some j, e :: rest =>
      if e.await then s else
      let after (t : ScanThread) : Option ScanThread := if t.ended && rest.isEmpty then none else some { t with buf := rest }
      let rule := e.rule.bind (fun i => j.rules[i]?)
      let post := match rule, e.outc with | some r, some o => postsReport r.post o | _, _ => true
      if !post then s.setThread k (after t)
      else if !s.reportRoom j || (s.cx j.ctx).state = 3 then s
      else
        let phase := j.posted / 2 ^ j.ringLog % 2 == 0
        let a := j.ringBase + 32 * (j.posted % 2 ^ j.ringLog)
        let s := s.busWrite j.ringHost j.ctx a (bytesOf 32 (reportBits j t e phase))
        let s := s.updJob j.id (fun q => { q with posted := q.posted + 1, lastPost := s.tick })
        let s := s.inc ⟨0x70300 + 8 * (k / 4), 0, 32⟩
        s.setThread k (after { t with posted := if e.kind ≤ 2 then t.posted + 1 else t.posted })
    | _, _ => s

/-- REPORT_POST. -/
def execReportPost (ranger : Fin 32) (thread : Fin 4) (s : State) : Res :=
  whileUp s (fun s => s.reportPost (4 * ranger.val + thread.val))

/-! ### The end of a job (R330 to R333) -/

/-- RNG_JOBS.HELD follows the jobs held. -/
def State.showJobs (s : State) : State := s.setF ⟨0x70008, 0, 11⟩ s.rng.jobs.length

/-- JOB_COMPLETE: every chunk has ended and every report is posted. -/
def State.jobComplete (s : State) (c n : Nat) : State :=
  match s.rng.jobs.find? (fun j => j.ctx == c && j.n == n) with
  | none => s
  | some j =>
    let busy := s.rng.threads.any (fun e => match e.2 with | some t => t.job == j.id | none => false)
    if busy || (j.next < j.total && !j.dropped) || (0 < j.posted && s.tick ≤ j.lastPost) then s else
    let st := if j.dropped then St.contextDisabled else if j.skipped then St.privilege
      else if j.poison then St.poisoned else St.success
    let body : BitVec 384 := (BitVec.ofNat 384 j.scanned) ||| ((BitVec.ofNat 384 j.posted) <<< 64) |||
      ((BitVec.ofNat 384 j.bytes) <<< 128) ||| ((BitVec.ofNat 384 s.tick) <<< 192)
    let s := { s with rng := { s.rng with jobs := s.rng.jobs.filter (fun x => x.id != j.id) } }
    let s := s.updCx c (·.updReq false n (fun r => { (r.finish { status := st } s.tick) with body := some body }))
    s.showJobs

/-- JOB_COMPLETE. -/
def execJobComplete (ctx : Id12) (n : BitVec 32) (s : State) : Res :=
  whileUp s (fun s => s.jobComplete ctx.val n.toNat)

/-- Drop the unstarted chunks of the jobs that satisfy `p` (R332). -/
def State.dropJobs (s : State) (p : ScanJob → Bool) : State :=
  { s with rng := { s.rng with jobs := s.rng.jobs.map (fun j =>
    if p j && decide (j.next < j.total) then { j with next := j.total, dropped := true } else
    if p j then { j with dropped := true } else j) } }

/-- An abort stops a job at once (R333). -/
def State.abortJob (s : State) (c n : Nat) : State :=
  match s.rng.jobs.find? (fun j => j.ctx == c && j.n == n) with
  | none => s
  | some j =>
    let body : BitVec 384 := (BitVec.ofNat 384 j.scanned) ||| ((BitVec.ofNat 384 j.posted) <<< 64) |||
      ((BitVec.ofNat 384 j.bytes) <<< 128) ||| ((BitVec.ofNat 384 s.tick) <<< 192)
    let s := { s with rng := { s.rng with jobs := s.rng.jobs.filter (fun x => x.id != j.id) } }
    let s := s.rng.threads.foldl (fun (s : State) e =>
      match e.2 with | some t => if t.job = j.id then s.setThread e.1 none else s | none => s) s
    let s := s.updCx c (·.updReq false n (fun r => { (r.finish { status := St.aborted } s.tick) with body := some body }))
    s.showJobs

/-- SCAN (R305 to R307): the job is accepted, its consumer word set to zero; 1,024 jobs held make it wait. -/
def State.scan (s : State) (c n : Nat) (hostJob hostRanges : List Byte) (fault : State → State) : State :=
  match s.ready c n 0x20 with
  | none => s
  | some r =>
    if 1024 ≤ s.rng.jobs.length || s.scanWaits c r then s else
    let s := s.scanRead c r hostJob
    match s.scanCheck c n r hostJob hostRanges with
    | .fault => fault s
    | .ends st => s.updCx c (·.updReq false n (fun r => { (r.finish { status := st } s.tick) with
        body := some ((BitVec.ofNat 384 s.tick) <<< 192) }))
    | .job j =>
      let s := { s with ids := s.ids + 1, rng := { s.rng with jobs := s.rng.jobs ++ [j] } }
      let s := s.updCx c (fun x => { x with reportCons := setNum x.reportCons j.ringIndex 0 })
      (s.atEngine c false n).showJobs

/-- RNG_ENABLE_WRITE (R314). -/
def execRngEnableWrite (who : Who) (mask : BitVec 32) (s : State) : Res :=
  whileUp s (fun s => s.when (s.mayBar0 who) (fun s => s.setF ⟨offRngEnable, 0, 32⟩ mask.toNat))

/-- REPORT_CONS_WRITE (11 R379, R380; R324): from the bound LD of an ENABLED context. -/
def execReportConsWrite (ld : LdId) (ctx : Id12) (i : Fin 4) (v : BitVec 32) (s : State) : Res :=
  whileUp s (fun s =>
    let x := s.cx ctx.val
    s.when (x.assigned && x.ldid == ld.val && x.state == 1 && s.ldValid ld.val)
      (fun s => s.updCx ctx.val (fun x => { x with reportCons := setNum x.reportCons i.val v.toNat })))

end Sys2Proof.Machine
end

