-- ==== Sys2Proof/Machine/Ctx.lean ====
section
/-! DEFINITION. Contexts: enabling, draining, resets, faults and aborts (11 R372 to R380, R406 to R411). -/

namespace Sys2Proof.Machine

/-! ### Work of one origin that is not yet admitted, or not yet committed -/

/-- An operation of this origin waits for admission. -/
def State.waits (s : State) (og : Origin) : Bool :=
  s.queuedOps.any (fun e => e.2.2.origin == og) ||
  (s.mnt.placeQ ++ s.mnt.tmQ ++ s.mnt.tmWait.map (fun e => e.2)).any (fun i => i.origin == og) ||
  s.trie.waiting.any (fun o => o.origin == og) || s.trie.muts.any (fun o => o.origin == og) ||
  s.dsram.waiting.any (fun o => o.origin == og)

/-- A handle that an array operation reserved under a lock is free again (05 R145). -/
def State.unreserve (s : State) (op : ArrOp) : State :=
  match op.act with
  | .write _ r .stage => s.updLock op.table (fun l => { l with reserved := l.reserved.erase r.handle })
  | _ => s

/-- Withdraw what waits for admission. -/
def State.unqueue (s : State) (og : Origin) : State :=
  let mine := (s.queuedOps.filter (fun e => e.2.2.origin == og)).map (fun e => e.2.2)
  let s := mine.foldl State.unreserve s
  let s := s.dropOps (fun op => op.origin == og)
  { s with
    mnt := { s.mnt with placeQ := s.mnt.placeQ.filter (fun i => i.origin != og),
                        tmQ := s.mnt.tmQ.filter (fun i => i.origin != og),
                        tmWait := s.mnt.tmWait.filter (fun e => e.2.origin != og) },
    trie := { s.trie with waiting := s.trie.waiting.filter (fun o => o.origin != og),
                          muts := s.trie.muts.filter (fun o => o.origin != og) },
    dsram := { s.dsram with waiting := s.dsram.waiting.filter (fun o => o.origin != og) } }

/-- Discard granted row writes and state updates before their commit tick, with everything that waits (R406). -/
def State.discardOps (s : State) (og : Origin) : State :=
  let s := s.unqueue og
  let gone (f : Flight) : Bool := f.op.origin == og && !f.committed && (match f.op.act with
    | .write _ _ _ | .upd _ _ => true | _ => false)
  let s := (s.arb.flights.filter gone).foldl (fun s f => s.unreserve f.op) s
  let s := s.cutFlights gone
  let s := { s with
    trie := { s.trie with builds := s.trie.builds.filter (fun e =>
      match e.2 with | some b => b.op.origin != og | none => false) } }
  (s.mnt.relocs.filter (fun r => r.origin == og && !r.switched)).foldl State.dropReloc s

/-! ### Ends of a context's work (R408, R409, R410) -/

/-- The tables whose lock context `c` owns by LOCK. -/
def State.locksOf (s : State) (c : Nat) : List Nat :=
  (s.tbl.filter (fun e => match e.2.lock with | some l => !l.bulk && l.owner == c | none => false)).map (fun e => e.1)

/-- The MIRROR tables whose lock context `c` of the away member holds at home: their discard is home's (05 R174, R176). -/
def State.farLocksOf (s : State) (c : Nat) : List Nat :=
  if s.pst != .paired then [] else
  (s.tbl.filter (fun e => match e.2.lock with | some l => l.owner == 12288 + c | none => false)).map (fun e => e.1)

/-- The tables that a bulk load of context `c` loads. -/
def State.loadsOf (s : State) (c : Nat) : List Nat :=
  (s.tbl.filter (fun e => match e.2.bulk with
    | some b => (match b.origin with | .req x _ => x == c | _ => false)
    | none => false)).map (fun e => e.1)

/-- A request ends CONTEXT_DISABLED unless its work is admitted. -/
def State.endUnadmitted (s : State) (c : Nat) (r : Req) : State :=
  let og : Origin := if r.window.isSome then .window c r.n else .req c r.n
  if r.phase ≤ 1 then
    s.updCx c (·.updReq r.window.isSome r.n (·.finish (refusal r.table St.contextDisabled) s.tick))
  else if r.phase = 2 && r.opcode != 2 && s.waits og then
    (s.unqueue og).resolve og (refusal r.table St.contextDisabled)
  else s

/-- End what a context has not got admitted: accepted requests CONTEXT_DISABLED; its locks and bulk loads discarded; its
queue pair reset; unstarted chunks of its jobs dropped (R408). -/
def State.endWork (s : State) (c : Nat) : State :=
  let s := (s.cx c).reqs.foldl (fun s r => s.endUnadmitted c r) s
  let s := (s.loadsOf c).foldl (fun s t => s.failLoad t St.contextDisabled) s
  let s := (s.locksOf c).foldl (fun s t => s.startDiscard t none) s
  let s := (s.farLocksOf c).foldl (fun s t => s.forward .tm c s.tick (descLine 0x18 t) 0) s
  let s := s.resetQueuesOf (fun p => p.state != 0 && p.ctx == c)
  s.dropJobs (fun j => j.ctx == c)

/-- No completion and no window result will be written for the context's requests. -/
def Ctx.silence (x : Ctx) : Ctx :=
  { x with reqs := x.reqs.map (fun r => { r with silent := true }), fetched := [], firstFetch := none }

/-- The ring counts read zero and every line is IDLE (R409). -/
def Ctx.zeroed (x : Ctx) : Ctx :=
  { x with sqProd := 0, sqCons := 0, cqProd := 0, cqCons := 0, reserved := 0, lines := [], firsts := [] }

/-- Enter DRAINING, by R408, or by the reset of R409; a reset of a context that is draining makes its work silent. -/
def State.drain (s : State) (c : Nat) (reset : Bool) : State :=
  let s := if (s.cx c).state = 2 then s else s.endWork c
  s.updCx c (fun x =>
    let x := { x with state := 2, resetting := x.resetting || reset, fetched := [], firstFetch := none }
    if reset then x.silence.zeroed else x)

/-- The operation in progress on the command-register path ends when its context is reset (05 R196). -/
def State.endMaintOf (s : State) (c : Nat) : State :=
  match s.mnt.cmd with
  | some (_, none) =>
    if s.f fMaintCtx = c then
      (s.discardOps .cmdPath).resolve .cmdPath (refusal (s.f fMaintTable) St.contextDisabled)
    else s
  | _ => s

/-- A reset of a context (R409). A DISABLED one is reset at once. -/
def State.resetCtx (s : State) (c : Nat) : State :=
  let s := s.endMaintOf c
  if (s.cx c).state = 0 then
    s.updCx c (fun x => { x.zeroed with incarnation := (x.incarnation + 1) % 65536 })
  else s.drain c true

/-- A fault of an ENABLED context (R410). -/
def State.faultCtx (s : State) (c code : Nat) : State :=
  if (s.cx c).state != 1 then s else
  let s := s.endWork c
  let s := s.updCx c (fun x => { x.silence with state := 3 })
  let s := s.setF (fFaultCode c) code
  s.raise .contextFault c code

/-- CTX_CTRL.FAULT_CODE (R413). -/
abbrev fcSetup := 1
abbrev fcDoorbell := 2
abbrev fcStamp := 3
abbrev fcFetch := 4
abbrev fcWrite := 5
abbrev fcDomain := 6

/-- The contexts bound to an LD whose state satisfies `p`. -/
def State.ctxOfLd (s : State) (ld : Nat) (p : Nat → Bool) : List Nat :=
  (s.ctx.filter (fun e => e.2.assigned && e.2.ldid == ld && p e.2.state)).map (fun e => e.1)

/-- Every context bound to an LD enters DRAINING (R411), or is reset by a function-level reset or a port reset (R375,
R409: from ENABLED, or while it drains). -/
def State.drainLd (s : State) (ld : Nat) (reset : Bool) : State :=
  let cs := s.ctxOfLd ld (fun st => st == 1 || (reset && st == 2))
  cs.foldl (fun s c => (if reset then s.endMaintOf c else s).drain c reset) s

/-! ### Commands -/

/-- CTX_ENABLE_WRITE (R378). -/
def State.ctxEnable (s : State) (c : Nat) : State :=
  let x := s.cx c
  if x.state != 0 then s else
  let okLog (off : Nat) : Bool := decide (6 ≤ s.ringLog off) && decide (s.ringLog off ≤ 12)
  if !x.assigned || !okLog (offSq c) || !okLog (offCq c) then s.setF (fFaultCode c) fcSetup
  else
    let nsq := 2 ^ s.ringLog (offSq c)
    let pages := s.ringOk c (offSq c) (64 * nsq) && s.ringOk c (offCq c) (64 * 2 ^ s.ringLog (offCq c)) &&
      (!bit (s.reg (offRbuf c)) 0 || s.ringOk c (offRbuf c) (128 * nsq))
    if !pages then s.setF (fFaultCode c) fcDomain
    else
      let s := s.updCx c (fun x => { x.zeroed with state := 1, resetting := false, fetched := [], firstFetch := none, reqs := [] })
      s.setF (fFaultCode c) 0

/-- CTX_ENABLE_WRITE: CTX_CTRL.ENABLE written to 1. -/
def execCtxEnableWrite (who : Who) (ctx : Id12) (s : State) : Res :=
  whileUp s (fun s => s.when (s.mayBar0 who) (·.ctxEnable ctx.val))

/-- CTX_DISABLE_WRITE (R408): CTX_CTRL.ENABLE written to 0. -/
def execCtxDisableWrite (who : Who) (ctx : Id12) (s : State) : Res :=
  whileUp s (fun s => s.when (s.mayBar0 who && (s.cx ctx.val).state == 1) (·.drain ctx.val false))

/-- CTX_RESET_WRITE (R409): CTX_CTRL.RESET written to 1. -/
def execCtxResetWrite (who : Who) (ctx : Id12) (s : State) : Res :=
  whileUp s (fun s => s.when (s.mayBar0 who) (·.resetCtx ctx.val))

/-- Whether the last work of a draining context has ended (R408, R409). -/
def State.drained (s : State) (c : Nat) : Bool :=
  let x := s.cx c
  x.reqs.all (fun r => r.silent && r.phase == 3) && x.mq.isNone && (s.locksOf c).isEmpty && (s.loadsOf c).isEmpty &&
  !s.rng.jobs.any (fun j => j.ctx == c)

/-- CONTEXT_DRAINED (R375): the last work has ended and the context is DISABLED; after a reset INCARNATION rises. -/
def execContextDrained (ctx : Id12) (s : State) : Res :=
  whileUp s (fun s => s.when ((s.cx ctx.val).state == 2 && s.drained ctx.val) (fun s =>
    s.updCx ctx.val (fun x =>
      { x with state := 0, reqs := [], resetting := false,
               incarnation := if x.resetting then (x.incarnation + 1) % 65536 else x.incarnation })))

/-- A doorbell write of R380 comes from the bound LD of an ENABLED context; BAR2 answers only an LD whose LD map entry is
valid (10 R343). -/
def State.doorbellOk (s : State) (ld c : Nat) : Bool :=
  let x := s.cx c
  x.assigned && x.ldid == ld && x.state == 1 && s.ldValid ld

/-- SQ_PROD_WRITE (R380). -/
def execSqProdWrite (ld : LdId) (ctx : Id12) (v : BitVec 32) (s : State) : Res :=
  whileUp s (fun s => s.when (s.doorbellOk ld.val ctx.val) (fun s =>
    let c := ctx.val
    if 2 ^ s.ringLog (offSq c) < sub32 v.toNat (s.cx c).sqCons then s.faultCtx c fcDoorbell
    else s.updCx c (fun x => { x with sqProd := v.toNat })))

/-- CQ_CONS_WRITE (R380): a count beyond the completion producer count faults the context. -/
def execCqConsWrite (ld : LdId) (ctx : Id12) (v : BitVec 32) (s : State) : Res :=
  whileUp s (fun s => s.when (s.doorbellOk ld.val ctx.val) (fun s =>
    let c := ctx.val
    let x := s.cx c
    if sub32 x.cqProd x.cqCons < sub32 v.toNat x.cqCons then s.faultCtx c fcDoorbell
    else s.updCx c (fun x => { x with cqCons := v.toNat })))

/-! ### Aborts (R406, R407) -/

/-- A search or read of this origin has reached its commit point, t14, or t78 when it is cascaded (R406). -/
def State.recordFormed (s : State) (og : Origin) : Bool :=
  s.arb.flights.any (fun f => f.op.origin == og && decide (f.g + (if f.cascaded then 78 else 14) ≤ s.tick) &&
    (match f.op.act with | .search _ _ _ => true | _ => false))

/-- A mutation of this origin has committed here, or the partner has it in hand (15 R530, R532). -/
def State.beyond (s : State) (og : Origin) : Bool :=
  s.pair.awaitApplied.any (fun e => e.2.2.1 == og) || s.pair.awaitDone.any (fun e => e.2 == og)

/-- An operation of this origin, or the end of table `t`'s lock, has its commit tick now or before (R406, R407). -/
def State.dueNow (s : State) (og : Origin) (t : Nat) : Bool :=
  s.arb.flights.any (fun f => !f.committed && decide (f.g + 5 ≤ s.tick) && (match f.op.act with
    | .upd _ .lockCommit | .upd _ .lockDiscard => f.op.table == t && (match (s.tb t).lock with
        | some l => l.ender == some og || l.bulk | none => false)
    | .write _ _ _ | .upd _ _ => f.op.origin == og
    | _ => false)) ||
  s.trie.builds.any (fun e => match e.2 with
    | some b => b.ready && decide (b.swap ≤ s.tick) && (b.op.origin == og || (e.1 == t && b.op.act == .load))
    | none => false)

/-- A winning abort withdraws COMMIT: the lock is held as before; or ABANDON (R406). -/
def State.relock (s : State) (t : Nat) : State :=
  let ends (op : ArrOp) : Bool := op.table == t && (op.act == .upd 0 .lockCommit || op.act == .upd 0 .lockDiscard)
  let s := s.dropOps ends
  let s := s.cutFlights (fun f => !f.committed && ends f.op)
  s.updLock t (fun l => { l with lstate := 1, ender := none, prep := none, ready := true })

/-- Stop request `r` of context `c`, or none when its commit point has passed (R406). -/
def State.stopReq (s : State) (c : Nat) (r : Req) : Option State :=
  let og : Origin := .req c r.n
  let aborted (s : State) : State := s.resolve og (refusal r.table St.aborted)
  if r.opcode = 2 then
    match (s.cx c).mq with
    | some q => if r.phase = 3 || (s.qp q).n != r.n then none else some (s.resetQueue q)
    | none => if r.phase ≤ 1 then some (aborted s) else none
  else if r.phase = 3 then none
  else if r.phase ≤ 1 then some (aborted s)
  else match r.opcode with
  | 0x01 | 0x13 | 0x14 => if s.recordFormed og then none else some (aborted (s.unqueue og))
  | 0x15 | 0x28 | 0x29 => none
  | 0x17 | 0x18 => if s.beyond og || s.dueNow og r.table then none else some (aborted (s.relock r.table))
  | 0x19 =>
    if s.beyond og || s.dueNow og r.table then none
    else
      let s := (s.discardOps og).dropOps (fun (op : ArrOp) => op.table == r.table && op.act == Act.upd 0 .lockCommit)
      let s := s.cutFlights (fun f => !f.committed && f.op.table == r.table && f.op.act == Act.upd 0 .lockCommit)
      some (s.failLoad r.table St.aborted)
  | 0x20 => some (s.abortJob c r.n)
  | _ => if s.beyond og || s.dueNow og r.table then none else some (aborted (s.discardOps og))

/-- The status with which an ABORT ends, and its effect (R407). -/
def State.abort (s : State) (c : Nat) (r : Req) : State :=
  let tgt := lineLe r.slot1 0x10 4
  let fin (s : State) (st : Nat) : State := s.resolve (.req c r.n) { status := st, tick := r.accept }
  let back := sub32 r.n tgt
  match (s.cx c).firsts.find? (fun f => f.1 == tgt) with
  | none => fin s St.malformed
  | some f =>
    if back = 0 || 2 ^ 31 < back || f.2 == 0 || f.2 == 3 || f.2 == 4 then fin s St.malformed
    else
      match (s.cx c).req? false tgt with
      | none => fin s St.abortTooLate
      | some t => match s.stopReq c t with
        | some s => fin s St.success
        | none => fin s St.abortTooLate

/-- ABORT: the dispatched abort `n` of context `ctx` is decided. -/
def execAbort (ctx : Id12) (n : BitVec 32) (s : State) : Res :=
  whileUp s (fun s => match s.ready ctx.val n.toNat 4 with
    | some r => s.abort ctx.val r
    | none => s)

/-- RESET_QUEUE (06 R222, R223): the context's queue pair is reset; without one it ends QUEUE_EMPTY. -/
def execResetQueue (ctx : Id12) (n : BitVec 32) (s : State) : Res :=
  whileUp s (fun s => match s.ready ctx.val n.toNat 3 with
    | some _ =>
      let og : Origin := .req ctx.val n.toNat
      match (s.cx ctx.val).mq with
      | some q => (s.resetQueue q).resolve og { status := St.success, tick := s.tick }
      | none => s.resolve og { status := St.queueEmpty, tick := s.tick }
    | none => s)

end Sys2Proof.Machine
end

