-- ==== Sys2Proof/Machine/Slots.lean ====
section
/-! DEFINITION. Submission slots, acceptance and dispatch, completion entries and window lines (11 R381 to R405). -/

namespace Sys2Proof.Machine

/-! ### Fetching slots (R381, R382) -/

/-- Fields of a header: STAMP, SLOTS, TABLE, FLAGS, OPCODE, USER_TAG (R385). -/
def hStamp (l : Line) : Nat := (l.extractLsb' 56 8).toNat
def hSlots (l : Line) : Bool := l.getLsbD 48
def hTable (l : Line) : Nat := (l.extractLsb' 40 8).toNat
def hFlags (l : Line) : Nat := (l.extractLsb' 32 8).toNat
def hOp (l : Line) : Nat := (l.extractLsb' 0 8).toNat
def hTag (l : Line) : Word := l.extractLsb' 64 64

/-- The expected stamp of the next descriptor. -/
def State.stamp (s : State) (c : Nat) : Nat := ((s.cx c).sqCons / 2 ^ s.ringLog (offSq c) + 1) % 256

/-- The two-slot descriptor whose header is `l` begins in the last slot of the ring, and is no NOP (R382, R385). -/
def State.isCut (s : State) (c : Nat) (l : Line) : Bool :=
  hSlots l && hOp l != 0 && (s.cx c).sqCons % 2 ^ s.ringLog (offSq c) + 1 == 2 ^ s.ringLog (offSq c)

/-- The descriptor in hand is complete: its slots have been fetched. -/
def State.complete (s : State) (c : Nat) : Bool :=
  match (s.cx c).fetched with
  | [] => false
  | [l] => !hSlots l || s.isCut c l
  | _ => true

/-- SQ_PROD covers the next slot to fetch. -/
def State.covered (s : State) (c : Nat) : Bool :=
  decide ((s.cx c).fetched.length < sub32 (s.cx c).sqProd (s.cx c).sqCons)

/-- STAMP_WAITS and ACCEPTED of CTX_CNT (R413). -/
abbrev fStampWaits (c : Nat) : F := ⟨offCtxCnt c, 32, 32⟩
abbrev fAccepted (c : Nat) : F := ⟨offCtxCnt c, 0, 32⟩

/-- One fetch of the awaited slot: `host` is what CXL.io DMA returned, none when it failed. A page that left the domain
faults the context with DOMAIN, poison or a failed DMA with FETCH (R410). `miss` acts on another stamp. -/
def State.fetchSlot (s : State) (c : Nat) (host : Option Line) (miss : State → State) : State :=
  let x := s.cx c
  let a := s.ringBase (offSq c) + 64 * ((x.sqCons + x.fetched.length) % 2 ^ s.ringLog (offSq c))
  if !s.ringHost (offSq c) && !s.runOk c a 64 then s.faultCtx c fcDomain
  else if !s.ringHost (offSq c) && s.runHeld a 64 then s      -- the access is offered again (01 R16)
  else
    let s := if s.ringHost (offSq c) then s else s.readCheck 2 (s.cx c).ldid a 64
    let got : Option Line := if s.ringHost (offSq c) then host else if s.runPoison a 64 then none else s.readOut a
    match got with
    | none => s.faultCtx c fcFetch
    | some l =>
      if hStamp l = s.stamp c then s.updCx c (fun x => { x with fetched := x.fetched ++ [l], firstFetch := none })
      else miss s

/-- DESCRIPTOR_FETCH: the first fetch of a covered slot. -/
def State.fetch (s : State) (c : Nat) (host : Option Line) : State :=
  let x := s.cx c
  if x.state != 1 || x.firstFetch.isSome || s.complete c || !s.covered c then s else
  s.fetchSlot c host (fun s => s.updCx c (fun x => { x with firstFetch := some s.tick, nextFetch := s.tick + 256 }))

/-- STAMP_REFETCH: a repeated fetch, every 256 ticks. -/
def State.refetch (s : State) (c : Nat) (host : Option Line) : State :=
  let x := s.cx c
  match x.firstFetch with
  | some f =>
    if x.state != 1 || s.tick < x.nextFetch || f + 500000 ≤ s.tick then s else
    (s.inc (fStampWaits c)).fetchSlot c host (fun s => s.updCx c (fun x => { x with nextFetch := x.nextFetch + 256 }))
  | none => s

/-- STAMP_TIMEOUT: the last fetch, 500,000 ticks after the first; another stamp faults the context. -/
def State.lastFetch (s : State) (c : Nat) (host : Option Line) : State :=
  let x := s.cx c
  match x.firstFetch with
  | some f =>
    if x.state != 1 || s.tick < f + 500000 then s else
    (s.inc (fStampWaits c)).fetchSlot c host (fun s => s.faultCtx c fcStamp)
  | none => s

/-- DESCRIPTOR_FETCH. -/
def execDescriptorFetch (ctx : Id12) (host : Option Line) (s : State) : Res := whileUp s (·.fetch ctx.val host)
/-- STAMP_REFETCH. -/
def execStampRefetch (ctx : Id12) (host : Option Line) (s : State) : Res := whileUp s (·.refetch ctx.val host)
/-- STAMP_TIMEOUT. -/
def execStampTimeout (ctx : Id12) (host : Option Line) (s : State) : Res := whileUp s (·.lastFetch ctx.val host)

/-! ### Acceptance (R384, 06 R201) -/

/-- The request of the descriptor in hand. -/
def State.newReq (s : State) (c : Nat) (l : Line) : Req :=
  let x := s.cx c
  { n := x.sqCons, slots := if hSlots l then 2 else 1, accept := s.tick, opcode := hOp l, table := hTable l,
    flags := hFlags l, tag := hTag l, slot1 := l, slot2 := (x.fetched.drop 1).headD 0, cut := s.isCut c l }

/-- Pair `q` goes to an ENUMERATE. -/
def State.takePair (s : State) (c : Nat) (r : Req) (q : Nat) : State :=
  let s := s.setQp q { state := 1, ctx := c, n := r.n, table := r.table, ring := r.flag1, key := r.key,
                       tenant := !(s.cx c).steward }
  s.updCx c (fun x => { x with mq := some q })

/-- An ENUMERATE claims the lowest FREE pair, or ends MALFORMED or NO_ROOM (06 R201). Claims of one tick are put in the order
of their contexts at its end (`settleClaims`). -/
def State.claimPair (s : State) (c : Nat) (r : Req) : State :=
  let og : Origin := .req c r.n
  if (s.cx c).mq.isSome then s.resolve og (refusal r.table St.malformed)
  else match s.freePair with
  | none => s.resolve og (refusal r.table St.noRoom)
  | some q => s.takePair c r q

/-- The request is an ENUMERATE accepted in this tick whose claim is not settled: it holds a pair, or its claim found none. -/
def State.claiming (s : State) (r : Req) : Bool :=
  r.window.isNone && r.opcode == 2 && !r.cut && r.accept == s.tick &&
  (r.phase == 0 || (r.phase == 3 && r.endTick == s.tick &&
    (match r.outc with | some o => o.status == St.noRoom || o.status == St.malformed | none => false)))

/-- Give the pairs claimed in this tick, and the claims that found none, in ascending order of context number (06 R201). -/
def State.settleClaims (s : State) : State :=
  let cs := s.ctx.flatMap (fun e => (e.2.reqs.filter s.claiming).map (fun r => (e.1, r)))
  if cs.length < 2 then s else
  let own := (s.mq.filter (fun e => e.2.state == 1 && cs.any (fun x => x.1 == e.2.ctx && x.2.n == e.2.n))).map (fun e => e.1)
  let s := own.foldl (fun s q => (s.updCx (s.qp q).ctx (fun x => { x with mq := none })).setQp q {}) s
  let s := cs.foldl (fun s x => s.updCx x.1 (·.updReq false x.2.n (fun r => { r with phase := 0, outc := none, endTick := 0 }))) s
  (cs.foldl (fun (p : State × List Nat) x =>
    let s := p.1
    let og : Origin := .req x.1 x.2.n
    if (s.cx x.1).mq.isSome then (s.resolve og (refusal x.2.table St.malformed), p.2)
    else match p.2 with
    | [] => (s.resolve og (refusal x.2.table St.noRoom), [])
    | q :: qs => (s.takePair x.1 x.2 q, qs)) (s, own)).1

/-- The requests of a context with descriptor `r` accepted: it comes before the window writes of its tick (R402). -/
def Ctx.afterEarlier (x : Ctx) (r : Req) : List Req :=
  let later (q : Req) : Bool := q.window.isSome && q.accept == r.accept && q.phase == 0
  x.reqs.filter (fun q => !later q) ++ [r] ++ x.reqs.filter later

/-- Consume the descriptor in hand: SQ_CONS passes it, and it is accepted. -/
def State.accept (s : State) (c : Nat) : State :=
  let x := s.cx c
  if x.state != 1 || !s.complete c then s else
  match x.fetched with
  | [] => s
  | l :: _ =>
    let r := s.newReq c l
    let nop := r.opcode == 0
    if !nop && !s.cqFree c then s else
    let s := s.updCx c (fun x => { x with
      sqCons := (x.sqCons + x.fetched.length) % 2 ^ 32, fetched := [], firsts := (r.n, r.opcode) :: x.firsts,
      reserved := if nop then x.reserved else x.reserved + 1, reqs := if nop then x.reqs else x.afterEarlier r })
    let s := s.inc (fAccepted c)
    if r.opcode = 2 && !r.cut then s.claimPair c r else s

/-- DESCRIPTOR_ACCEPT (R384). -/
def execDescriptorAccept (ctx : Id12) (s : State) : Res := whileUp s (·.accept ctx.val)

/-- NOP (R385): a NOP in hand is consumed with no effect and no completion. -/
def execNop (ctx : Id12) (s : State) : Res :=
  whileServing s (fun s => s.when ((s.cx ctx.val).fetched.head?.map hOp == some 0) (·.accept ctx.val))

/-! ### Dispatch (R402, R403, R658) -/

/-- The state-changing request has committed or ended in an earlier tick. -/
def State.settled (s : State) (c : Nat) (r : Req) : Bool :=
  r.passive || (r.phase == 3 && decide (r.endTick < s.tick)) ||
  s.pair.awaitApplied.any (fun e => e.2.2.1 == .req c r.n && decide (e.2.2.2.tick < s.tick))

/-- The next request to dispatch: from the tick after its acceptance (01 R15) and in order; ABORT and RESET_QUEUE wait for
nothing. -/
def State.nextDispatch (s : State) (c : Nat) : List Req → Bool → Option Req
  | [], _ => none
  | r :: rs, free =>
    let now := r.window.isNone && (r.opcode == 3 || r.opcode == 4)
    if r.phase = 0 && (now || (free && decide (r.accept < s.tick))) then some r
    else s.nextDispatch c rs (free && s.settled c r && r.phase != 0)

/-- Dispatch one request: a failed check ends it, an ENUMERATE's pair then returns to FREE; a window search goes to its
engine. -/
def State.dispatch (s : State) (c : Nat) : State :=
  match s.nextDispatch c (s.cx c).reqs true with
  | none => s
  | some r =>
    match r.window with
    | some _ =>
      match s.windowBad c r with
      | some st => s.updCx c (·.updReq true r.n (·.finish (refusal r.table st) (r.accept + 2)))
      | none =>
        let go := s.updCx c (·.updReq true r.n (fun r => { r with phase := 2 }))
        match s.gate r.table with
        | .stale => go.resolve (.window c r.n) (refusal r.table St.staleGeneration)
        | .wait => s
        | .go => go.doSearch (.window c r.n) c r.table r.key false (r.accept + 7)
    | none =>
      match s.descBad c r with
      | some st =>
        let s := s.resolve (.req c r.n) (refusal r.table st)
        (match (s.cx c).mq with
         | some q => if r.opcode = 2 && (s.qp q).n = r.n then (s.setQp q {}).updCx c (fun x => { x with mq := none }) else s
         | none => s)
      | none => s.updCx c (·.updReq false r.n (fun r => { r with phase := 1 }))

/-- DESCRIPTOR_DISPATCH. -/
def execDescriptorDispatch (ctx : Id12) (s : State) : Res :=
  whileServing s (fun s => s.when ((s.cx ctx.val).state == 1 || (s.cx ctx.val).state == 2) (·.dispatch ctx.val))

/-- DESC_UNDEFINED_OPCODE (R386, R658): an accepted descriptor with an undefined opcode ends MALFORMED. -/
def execDescUndefinedOpcode (ctx : Id12) (n : BitVec 32) (s : State) : Res :=
  whileServing s (fun s => match (s.cx ctx.val).req? false n.toNat with
    | some r => s.when (r.phase == 0 && !opDefined r.opcode) (·.resolve (.req ctx.val n.toNat) (refusal r.table St.malformed))
    | none => s)

/-! ### Completions (R389 to R392, R404, R405) -/

/-- The requests whose results become visible in acceptance order (R404). -/
def Req.ordered (r : Req) : Bool := r.window.isSome || r.opcode == 1 || r.opcode == 0x14

/-- `n` bytes of free values (log 2). -/
def State.freeBytes (s : State) : Nat → List Byte × State
  | 0 => ([], s)
  | n + 1 =>
    let (w, s) := s.free
    let (bs, s) := s.freeBytes n
    (bytesOf 8 w ++ bs, s)

/-- The body record of R190 for a read of table kind `kind`: a row image, a prefix record or a direct record. An entry
that the partner read returns free values (log 13). -/
def State.readRecord (s : State) (kind : Nat) (o : Outc) : List Byte × State :=
  match o.image with
  | some r =>
    if kind = 2 then
      (bytesOf 16 (r.cells.extractLsb' 0 128) ++ bytesOf 8 r.res ++ bytesOf 8 (r.cells.extractLsb' 128 8 |>.setWidth 64), s)
    else if kind = 1 then (bytesOf 8 (BitVec.ofNat 64 o.handle) ++ bytesOf 8 r.res, s)
    else (r.image, s)
  | none => s.freeBytes (if kind = 2 then 4 else if kind = 1 then 2 else 12)

/-- The body of a completion entry (R392). -/
def Req.compBody (r : Req) (o : Outc) : BitVec 384 :=
  match r.body with
  | some b => b
  | none =>
    if r.opcode = 1 then (resultRecord o).setWidth 384
    else if r.opcode = 2 then 0
    else if r.opcode = 0x20 then (BitVec.ofNat 384 r.endTick) <<< 192
    else opBody r.opcode { o with tick := if o.tick = 0 then r.endTick else o.tick }

/-- The ended request with the least commit point, by acceptance among equals, of the requests that `p` picks. -/
def leastEnd (p : Req → Bool) (l : List Req) : Option Req :=
  l.foldl (fun (b : Option Req) r =>
    if p r then (match b with
      | some x => if r.endTick < x.endTick then some r else b
      | none => some r)
    else b) none

/-- The next completion of a context: the head of the ordered requests when it has ended, or the ended request of the
others with the least commit point; the one that ended first. An ENUMERATE's may be written at the tick its END record is
consumed (06 R219), any other from the tick after (01 R22). -/
def State.nextCompletion (s : State) (c : Nat) : Option Req :=
  let done (r : Req) : Bool :=
    r.phase == 3 && (decide (r.endTick < s.tick) || (r.opcode == 2 && r.window.isNone && r.endTick == s.tick)) && !r.silent
  let l := (s.cx c).reqs
  let a := match l.find? Req.ordered with
    | some r => if done r && r.window.isNone then some r else none
    | none => none
  let b := leastEnd (fun r => done r && !r.ordered) l
  match a, b with
  | some a, some b => if a.endTick ≤ b.endTick then some a else some b
  | some a, none => some a
  | none, b => b

/-- Write the completion of a request: its read buffer, then its entry. `ok` false: the write fails and the context
faults with WRITE; a ring page that left the domain faults it with DOMAIN (R410). -/
def State.writeCompletion (s : State) (c : Nat) (r : Req) (ok : Bool) : State :=
  match r.outc with
  | none => s
  | some o =>
    let a := s.ringBase (offCq c) + 64 * ((s.cx c).cqProd % 2 ^ s.ringLog (offCq c))
    if !s.ringHost (offCq c) && !s.runOk c a 64 then s.faultCtx c fcDomain
    else if !ok then s.faultCtx c fcWrite
    else
      let slot := r.n % 2 ^ s.ringLog (offSq c)
      let s := if (r.opcode == 0x13 || r.opcode == 0x14) && o.status == St.success then
          let (bs, s) := s.readRecord (s.tb r.table).kind o
          s.busWrite (s.ringHost (offRbuf c)) c (s.ringBase (offRbuf c) + 128 * slot) bs
        else s
      let out := if r.opcode = 0x15 then o.outcome else 0
      let s := s.cqWrite c (fun ph => cqHeader ph 1 0 slot r.opcode r.table out o.status r.tag) (r.compBody o)
      s.updCx c (fun x => { x with reserved := x.reserved - 1,
                                   reqs := x.reqs.filter (fun q => !(q.n == r.n && q.window.isNone)) })

/-- Under RING delivery the END record is written as the ENUMERATE's completion, after the entries with earlier commit points:
it is consumed, and the pair returns to FREE, when that entry is written (06 R218, R219; R405). -/
def State.ringEnd (s : State) (c : Nat) (ok : Bool) : State :=
  match (s.cx c).mq with
  | some q =>
    if !(s.qp q).ring || !(s.qp q).spent then s
    else if !s.ringHost (offCq c) && !s.runOk c (s.ringBase (offCq c) + 64 * ((s.cx c).cqProd % 2 ^ s.ringLog (offCq c))) 64 then
      s.faultCtx c fcDomain
    else if !ok then s.faultCtx c fcWrite
    else
      let s := s.endConsumed q
      match s.nextCompletion c with
      | some r => s.writeCompletion c r true
      | none => s
  | none => s

/-! ### Window lines (R395 to R400) -/

/-- Line `i` of context `c`. -/
def Ctx.wline (x : Ctx) (i : Nat) : WLine := SMap.get (fun _ => {}) x.lines i
/-- Replace a line. -/
def Ctx.setWline (x : Ctx) (i : Nat) (l : WLine) : Ctx := { x with lines := SMap.set (fun _ => {}) x.lines i l }

/-- A window result becomes visible: the line becomes READY when the search is the line's latest (R399). -/
def Ctx.showWindow (x : Ctx) (r : Req) (i : Nat) (o : Outc) : Ctx :=
  let l := x.wline i
  let x := { x with reqs := x.reqs.filter (fun q => !(q.n == r.n && q.window.isSome)) }
  if l.id = r.n && l.st = 1 then x.setWline i { l with st := 2, record := resultRecord o } else x

/-- Show the window results that are due, 7 ticks after their delivery, in acceptance order (01 w22 to w29; R396, R404). -/
def State.settleWindow (s : State) (c : Nat) : Nat → State
  | 0 => s
  | k + 1 =>
    match (s.cx c).reqs.find? Req.ordered with
    | some r =>
      match r.window, r.outc with
      | some i, some o =>
        if r.phase = 3 && decide (r.endTick + 7 < s.tick) && !r.silent then
          (s.updCx c (·.showWindow r i o)).settleWindow c k
        else s
      | _, _ => s
    | none => s

/-- The windows of every context. -/
def State.settleWindows (s : State) : State :=
  (s.ctx.filter (fun e => e.2.reqs.any (fun r => r.window.isSome))).foldl
    (fun s e => s.settleWindow e.1 e.2.reqs.length) s

/-- COMPLETION_WRITE. -/
def State.complWrite (s : State) (c : Nat) (ok : Bool) : State :=
  if (s.cx c).state != 1 && (s.cx c).state != 2 then s else
  if !s.cqRoom c then s else
  match s.nextCompletion c with
  | some r => s.writeCompletion c r ok
  | none => s.ringEnd c ok

/-- The entries of context `c` up to that of an ENUMERATE whose END record was consumed in this tick (06 R219). -/
def State.endWrites (s : State) (c : Nat) : Nat → State
  | 0 => s
  | k + 1 =>
    let x := s.cx c
    if x.reqs.any (fun r => r.opcode == 2 && r.window.isNone && r.phase == 3 && r.endTick == s.tick && !r.silent &&
        (match r.body with | some b => b != 0 | none => false)) && (x.state == 1 || x.state == 2) && s.cqRoom c then
      match s.nextCompletion c with
      | some r => (s.writeCompletion c r true).endWrites c k
      | none => s
    else s

/-- At the end of a tick, the completions of the ENUMERATEs whose END records it consumed are written, where no command has
(log 40). -/
def State.endsClose (s : State) : State :=
  (s.ctx.filter (fun e => e.2.reqs.any (fun r => r.opcode == 2 && r.phase == 3 && r.endTick == s.tick))).foldl
    (fun s e => s.endWrites e.1 e.2.reqs.length) s

/-- COMPLETION_WRITE. -/
def execCompletionWrite (ctx : Id12) (ok : Bool) (s : State) : Res := whileUp s (fun s => s.settleWindows.complWrite ctx.val ok)

/-- A window line as read (R397). -/
def WLine.asRead (l : WLine) : Line :=
  if l.st = 0 then 0 else
  ((if l.st = 2 then l.record else 0 : BitVec 256).setWidth 512) ||| ((l.tag.setWidth 512) <<< 256) |||
    ((BitVec.ofNat 512 l.st) <<< 288) ||| ((BitVec.ofNat 512 l.accept) <<< 320)

/-- TAG and TABLE of a window line as written (R396). -/
def wTag (l : Line) : BitVec 32 := l.extractLsb' 448 32
def wTable (l : Line) : Nat := lineLe l 0x2D 1

/-- WINDOW_WRITE (R395, R396, R399, R400). -/
def State.windowWrite (s : State) (ld c i : Nat) (part : Bool) (data : Line) : State :=
  let x := s.cx c
  if !x.assigned || x.ldid != ld || 63 ≤ i then s
  else if x.state != 1 then
    s.updCx c (·.setWline i { st := 2, tag := wTag data, accept := s.tick, id := 0,
                              record := resultRecord (refusal (wTable data) St.contextDisabled) })
  else
    let id := s.ids
    let r : Req := { n := id, slots := 1, accept := s.tick, opcode := 1, table := wTable data, flags := 0, tag := 0,
                     slot1 := data, window := some i }
    let r := if part then r.finish (refusal r.table St.malformed) (s.tick + 2) else r
    let s := { s with ids := id + 1 }
    let s := s.updCx c (fun x => { (x.setWline i { st := 1, tag := wTag data, accept := s.tick, id := id }) with
                                    reqs := x.reqs ++ [r] })
    s.inc (fAccepted c)

/-- WINDOW_WRITE. -/
def execWindowWrite (ld : LdId) (ctx : Id12) (line : Fin 64) (partialWr : Bool) (data : Line) (s : State) : Res :=
  whileServing s (fun s => s.windowWrite ld.val ctx.val line.val partialWr data)

/-- What a read of a search line of context `c` returns from its bound LD (R397, R400). The record of a context that is not ENABLED
names no table: TABLE 0 (DESIGN CHOICE, log 39; 06 R198). -/
def State.windowLine (s : State) (c i : Nat) : Line :=
  let x := s.cx c
  let l := x.wline i
  if x.state = 1 || (l.st = 2 && (l.record.extractLsb' 128 8).toNat = St.contextDisabled) then l.asRead
  else ({ l with st := 2, record := resultRecord (refusal 0 St.contextDisabled) } : WLine).asRead

/-- WINDOW_READ (R397, R398): a PENDING line holds the read while the port has room; line 63 is the NEXT line (R395). -/
def State.windowRead (s : State) (ld c i : Nat) : State :=
  let x := s.cx c
  if i = 63 then s.nextRead ld c
  else if !x.assigned || x.ldid != ld then s.send (.line ld c i 0)
  else if (x.wline i).st = 1 && x.state = 1 &&
      decide ((s.heldReads.filter (fun h => h.ld / 16 == ld / 16)).length < 1024) then
    { s with heldReads := s.heldReads ++ [{ ld := ld, ctx := c, line := i, at_ := s.tick }] }
  else s.send (.line ld c i (s.windowLine c i))

/-- WINDOW_READ. -/
def execWindowRead (ld : LdId) (ctx : Id12) (line : Fin 64) (s : State) : Res :=
  whileUp s (fun s => s.settleWindows.windowRead ld.val ctx.val line.val)

/-- WINDOW_READ_HOLD_EXPIRY (R398, R408): the oldest held read of the line returns the line as it stands, READY or after 50
ticks. -/
def State.holdExpiry (s : State) (ld c i : Nat) : State :=
  match s.heldReads.find? (fun h => h.ld == ld && h.ctx == c && h.line == i) with
  | none => s
  | some h =>
    if ((s.cx c).wline i).st = 1 && (s.cx c).state != 0 && s.tick < h.at_ + 50 then s
    else ({ s with heldReads := s.heldReads.erase h }).send (.line ld c i ((s.cx c).wline i).asRead)

/-- WINDOW_READ_HOLD_EXPIRY. -/
def execWindowReadHoldExpiry (ld : LdId) (ctx : Id12) (line : Fin 64) (s : State) : Res :=
  whileUp s (fun s => s.settleWindows.holdExpiry ld.val ctx.val line.val)

end Sys2Proof.Machine
end

