-- ==== Sys2Proof/Machine/Cmds.lean ====
section
/-! DEFINITION. The dispatched descriptors of a context taken up by their engines (11 R374, R386), and the
command-register path (05 R193 to R196). -/

namespace Sys2Proof.Machine

/-- A dispatched search reaches the arbiter 5 ticks after its dispatch: w2 to w7 of the ledger (01, a ring-submitted search
follows the same stages). -/
abbrev toPort : Nat := 5
/-- The tick in which a dispatched search enters its port: w7 of the ledger at the earliest. -/
def State.portTick (s : State) (r : Req) : Nat := max s.tick (r.accept + 2) + toPort

/-- SEARCH (11 R374, R386): a best-match search or lookup. -/
def execSearch (ctx : Id12) (n : BitVec 32) (s : State) : Res :=
  whileServing s (fun s => s.runDesc ctx.val n.toNat 1 (fun s r =>
    some (s.doSearch (.req ctx.val n.toNat) ctx.val r.table r.key false (s.portTick r))))

/-- The first pass of an enumeration enters input SPORT (06 R202). -/
def State.firstPass (s : State) (c : Nat) (r : Req) : State :=
  match (s.cx c).mq with
  | none => s
  | some q =>
    s.enqOp (s.cx c).sport { table := r.table, act := .pass r.key (s.qp q).tenant none q false, origin := .req c r.n,
                             enq := s.portTick r }

/-- ENUMERATE (06 R202). -/
def execEnumerate (ctx : Id12) (n : BitVec 32) (s : State) : Res :=
  whileServing s (fun s => s.runDesc ctx.val n.toNat 2 (fun s r => some (s.firstPass ctx.val r)))

/-- INSERT (05 R145 to R149). -/
def execInsert (ctx : Id12) (n : BitVec 32) (s : State) : Res :=
  whileServing s (fun s => s.runDesc ctx.val n.toNat 0x10 (fun s r => s.doInsert (.req ctx.val n.toNat) ctx.val r))

/-- UPDATE (05 R150). -/
def execUpdate (ctx : Id12) (n : BitVec 32) (s : State) : Res :=
  whileServing s (fun s => s.runDesc ctx.val n.toNat 0x11 (fun s r => s.doUpdate (.req ctx.val n.toNat) ctx.val r))

/-- DELETE (05 R150). -/
def execDelete (ctx : Id12) (n : BitVec 32) (s : State) : Res :=
  whileServing s (fun s => s.runDesc ctx.val n.toNat 0x12 (fun s r => s.doDelete (.req ctx.val n.toNat) ctx.val r))

/-- READ_BY_HANDLE (05 R147). -/
def execReadByHandle (ctx : Id12) (n : BitVec 32) (s : State) : Res :=
  whileServing s (fun s => s.runDesc ctx.val n.toNat 0x13 (fun s r => s.doRead (.req ctx.val n.toNat) ctx.val r))

/-- READ_BY_KEY (05 R152, 11 R374). -/
def execReadByKey (ctx : Id12) (n : BitVec 32) (s : State) : Res :=
  whileServing s (fun s => s.runDesc ctx.val n.toNat 0x14 (fun s r =>
    some (s.doReadKey (.req ctx.val n.toNat) ctx.val r (s.portTick r))))

/-- LEARN (07 R227). -/
def execLearn (ctx : Id12) (n : BitVec 32) (s : State) : Res :=
  whileServing s (fun s => s.runDesc ctx.val n.toNat 0x15 (fun s r => s.doLearn (.req ctx.val n.toNat) ctx.val r))

/-- LOCK (05 R167). -/
def execLock (ctx : Id12) (n : BitVec 32) (s : State) : Res :=
  whileServing s (fun s => s.runDesc ctx.val n.toNat 0x16 (fun s r => some (s.doLock (.req ctx.val n.toNat) ctx.val r)))

/-- COMMIT (05 R173). -/
def execCommit (ctx : Id12) (n : BitVec 32) (s : State) : Res :=
  whileServing s (fun s => s.runDesc ctx.val n.toNat 0x17 (fun s r => some (s.doCommit (.req ctx.val n.toNat) ctx.val r)))

/-- ABANDON (05 R174). -/
def execAbandon (ctx : Id12) (n : BitVec 32) (s : State) : Res :=
  whileServing s (fun s => s.runDesc ctx.val n.toNat 0x18 (fun s r => some (s.doAbandon (.req ctx.val n.toNat) ctx.val r)))

/-- SET_PROFILE (04 R109 to R120): home's first on a paired table. -/
def execSetProfile (ctx : Id12) (n : BitVec 32) (s : State) : Res :=
  whileServing s (fun s => s.runDesc ctx.val n.toNat 0x1A (fun s r =>
    let og : Origin := .req ctx.val n.toNat
    if (s.isMirror r.table || s.isCascade r.table) && s.isAway && s.pst == .paired then
      some (s.forward og ctx.val r.accept r.slot1 r.slot2)
    else s.setProfile og r))

/-- OPEN (04 R132). -/
def execOpenTable (ctx : Id12) (n : BitVec 32) (s : State) : Res :=
  whileServing s (fun s => s.runDesc ctx.val n.toNat 0x1B (fun s r =>
    let og : Origin := .req ctx.val n.toNat
    some (s.routeHome og ctx.val r (fun s => s.moveState og r 2))))

/-- DISABLE (04 R132, 11 R412). -/
def execDisable (ctx : Id12) (n : BitVec 32) (s : State) : Res :=
  whileServing s (fun s => s.runDesc ctx.val n.toNat 0x1C (fun s r =>
    let og : Origin := .req ctx.val n.toNat
    some (s.routeHome og ctx.val r (fun s => s.moveState og r 3))))

/-- ENABLE (04 R132). -/
def execEnable (ctx : Id12) (n : BitVec 32) (s : State) : Res :=
  whileServing s (fun s => s.runDesc ctx.val n.toNat 0x1D (fun s r =>
    let og : Origin := .req ctx.val n.toNat
    some (s.routeHome og ctx.val r (fun s => s.moveState og r 2))))

/-- SCAN (09 R305): `job` and `ranges` are the job block and range list that CXL.io DMA returned for a job in host
memory. -/
def execScan (ctx : Id12) (n : BitVec 32) (job : List Byte) (ranges : List Byte) (s : State) : Res :=
  whileServing s (fun s => s.scan ctx.val n.toNat job ranges (fun s => s.faultCtx ctx.val fcFetch))

/-- SCAN_RETARGET (09 R313). -/
def execScanRetarget (ctx : Id12) (n : BitVec 32) (s : State) : Res :=
  whileServing s (fun s => s.runDesc ctx.val n.toNat 0x21 (fun s r =>
    some (s.scanRetarget (.req ctx.val n.toNat) ctx.val r)))

/-! ### The command-register path (05 R193 to R195) -/

/-- MAINT_CMD_DATA as 96 bytes. -/
def State.maintData (s : State) : List Byte :=
  (List.range 12).flatMap (fun w => bytesOf 8 (s.reg (0x4d040 + 8 * w)))

/-- The descriptor opcode of a command-path opcode. -/
def maintOpcode (op : Nat) : Nat :=
  match op with
  | 1 => 0x10 | 2 => 0x11 | 3 => 0x12 | 4 => 0x13 | 5 => 0x14 | 6 => 0x16 | 7 => 0x17 | 8 => 0x18 | _ => 0xFF

/-- The request that the registers spell, in the form of a descriptor (R194). A given handle stands in the image. -/
def State.maintReq (s : State) : Req :=
  let op := maintOpcode (s.f fMaintOp)
  let bs := s.maintData
  let img := Row.ofImage bs
  let given := op == 0x10 && s.f fMaintGiven == 1
  let bs := if given then (img.setHandle (s.f fMaintHandle)).image else bs
  let h := s.f fMaintHandle
  let body1 : Line :=
    if op = 0x10 || op = 0x11 then BitVec.ofNat 512 (ofBytes (bs.take 48)) <<< 128
    else if op = 0x14 then BitVec.ofNat 512 (le bs 0 20) <<< 128
    else if op = 0x16 then BitVec.ofNat 512 (s.f fMaintLease) <<< 128
    else if op = 0x12 || op = 0x13 then BitVec.ofNat 512 h <<< 128
    else 0
  let body2 : Line :=
    if op = 0x10 || op = 0x11 then (BitVec.ofNat 512 (ofBytes (bs.drop 48)) <<< 64) |||
      (if op = 0x11 then BitVec.ofNat 512 h <<< 448 else 0)
    else 0
  { n := 0, slots := 2, accept := s.tick, opcode := op, table := s.f fMaintTable, flags := if given then 1 else 0, tag := 0,
    slot1 := body1 ||| descLine op (s.f fMaintTable), slot2 := body2 }

/-- The checks of an operation on the path: the context of R193, R106 and R121, and the value rules. An entry of a PREFIX
or DIRECT table has no form in MAINT_CMD_DATA to be written from, and a prefix none to be named by (log 14). R193 asks for an
enabled context and names no status for another: CONTEXT_DISABLED (DESIGN CHOICE, log 39). -/
def State.maintBad (s : State) (r : Req) : Option Nat :=
  let x := s.cx (s.f fMaintCtx)
  let k := (s.tb r.table).kind
  firstBad [(r.opcode == 0xFF, St.malformed), (!x.steward, St.privilege), (x.state != 1, St.contextDisabled)] |>.or <|
  (s.step23 r.opcode r.table x.domain).or <|
  (kindClass r.opcode k true false).or <|
  (firstBad [(!isArray k && (r.opcode == 0x10 || r.opcode == 0x11), St.malformed),
    (k == 2 && (r.opcode == 0x12 || r.opcode == 0x14), St.malformed),
    (r.opcode == 0x10 && r.flag0 && (Row.ofImage s.maintData).handle != 0, St.malformed)]).or <|
  s.valueBad r

/-- Run the operation of the path; while it must wait it is tried again (05 R151). -/
def State.maintRun (s : State) : State :=
  let r := s.maintReq
  let c := s.f fMaintCtx
  let og : Origin := .cmdPath
  let wait : State := { s with mnt := { s.mnt with cmdWait := true } }
  let start (s : State) : State := { s with mnt := { s.mnt with cmdWait := false } }
  match s.maintBad r with
  | some st => (start s).resolve og (refusal r.table st)
  | none =>
    match s.gate r.table with
    | .wait => wait
    | .stale => (start s).resolve og (refusal r.table St.staleGeneration)
    | .go =>
      let s' : Option State := match r.opcode with
        | 0x10 => s.doInsert og c r
        | 0x11 => s.doUpdate og c r
        | 0x12 => s.doDelete og c r
        | 0x13 => s.doRead og c r
        | 0x14 => some (s.doReadKey og c r)
        | 0x16 => some (s.doLock og c r)
        | 0x17 => some (s.doCommit og c r)
        | _ => some (s.doAbandon og c r)
      match s' with
      | some s => start s
      | none => wait

/-- The path's waiting operation is tried again in the next tick. -/
def State.maintRetry (s : State) : State :=
  match s.mnt.cmd with
  | some (_, none) => if s.mnt.cmdWait then s.maintRun else s
  | _ => s

/-- A write of MAINT_CMD_CTRL that holds opcode `op` (R194, R195): with GO it starts the operation. -/
def State.maintWrite (s : State) (who : Who) (op : Nat) (w : Word) : State :=
  if !s.mayBar0 who || s.f fMaintBusy = 1 then s else
  let m : Word := 0xfff0ff0000f0
  let old := s.reg 0x4d000
  let s := s.setReg 0x4d000 ((old &&& ~~~m) ||| (putFld w 4 4 op &&& m))
  if bit w 0 then
    let s := s.setF fMaintBusy 1
    ({ s with mnt := { s.mnt with cmd := some (op, none), cmdWait := false } }).maintRun
  else s

/-- MAINT_INSERT. -/
def execMaintInsert (who : Who) (w : Word) (s : State) : Res := whileServing s (·.maintWrite who 1 w)
/-- MAINT_UPDATE. -/
def execMaintUpdate (who : Who) (w : Word) (s : State) : Res := whileServing s (·.maintWrite who 2 w)
/-- MAINT_DELETE. -/
def execMaintDelete (who : Who) (w : Word) (s : State) : Res := whileServing s (·.maintWrite who 3 w)
/-- MAINT_READ_BY_HANDLE. -/
def execMaintReadByHandle (who : Who) (w : Word) (s : State) : Res := whileServing s (·.maintWrite who 4 w)
/-- MAINT_READ_BY_KEY. -/
def execMaintReadByKey (who : Who) (w : Word) (s : State) : Res := whileServing s (·.maintWrite who 5 w)
/-- MAINT_LOCK. -/
def execMaintLock (who : Who) (w : Word) (s : State) : Res := whileServing s (·.maintWrite who 6 w)
/-- MAINT_COMMIT. -/
def execMaintCommit (who : Who) (w : Word) (s : State) : Res := whileServing s (·.maintWrite who 7 w)
/-- MAINT_ABANDON. -/
def execMaintAbandon (who : Who) (w : Word) (s : State) : Res := whileServing s (·.maintWrite who 8 w)
/-- MAINT_RESERVED_OPCODE: opcodes 9 to 15 end MALFORMED (R194). Opcode 0, which R194 calls reserved without a status, does too
(DESIGN CHOICE, log 39). -/
def execMaintReservedOpcode (who : Who) (w : Word) (s : State) : Res :=
  whileServing s (fun s => s.maintWrite who (if fld w 4 4 = 0 then 0 else max 9 (fld w 4 4)) w)

/-- MAINT_CMD_COMPLETE (R195): STATUS, TICK, VICTIM, HANDLE and a returned image are set, then BUSY is cleared, no earlier
than the tick after the commit tick. -/
def State.maintDone (s : State) : State :=
  match s.mnt.cmd with
  | some (op, some o) =>
    if s.tick ≤ o.tick then s else
    let s := s.setF fMaintStatus o.status
    let s := s.setReg 0x4d010 (BitVec.ofNat 64 o.tick)
    let s := s.setReg 0x4d018 (putFld 0 32 22 (if o.status = St.evicted then o.victim else 0))
    let ok := o.status == St.success || o.status == St.evicted
    let s := if op = 1 && ok then s.setF fMaintHandle o.handle else s
    let s := if (op = 4 || op = 5) && o.status = St.success then
        let (bs, s) := s.readRecord (s.tb (s.f fMaintTable)).kind o
        (List.range ((bs.length + 7) / 8)).foldl (fun s w => s.setReg (0x4d040 + 8 * w) (BitVec.ofNat 64 (le bs (8 * w) 8))) s
      else s
    ({ s with mnt := { s.mnt with cmd := none, cmdWait := false } }).setF fMaintBusy 0
  | _ => s

/-- MAINT_CMD_COMPLETE. -/
def execMaintCmdComplete (s : State) : Res := whileUp s State.maintDone

/-- MAINT_EVICT_SEED_WRITE (R194): a write of zero has no effect. -/
def execMaintEvictSeedWrite (who : Who) (w : Word) (s : State) : Res :=
  whileUp s (fun s => s.when (s.mayBar0 who && fld w 0 32 != 0) (·.setF fEvictSeed (fld w 0 32)))

end Sys2Proof.Machine
end

