-- ==== Sys2Proof/Machine/Bulk.lean ====
section
/-! DEFINITION. Table images and bulk loads (05 R178 to R192, 11 R388). -/

namespace Sys2Proof.Machine

namespace TImg
/-- Fields of a table image's header (05 R187). -/
def kind (b : List Byte) : Nat := le b 6 1
def mode (b : List Byte) : Nat := le b 7 1
def count (b : List Byte) : Nat := le b 8 4
def recSize (b : List Byte) : Nat := le b 0xC 2
def hasProfile (b : List Byte) : Bool := (le b 0xE 2).testBit 0
def bodyLen (b : List Byte) : Nat := le b 0x10 8
def bodyOff (b : List Byte) : Nat := le b 0x28 4
/-- The profile section. -/
def profile (b : List Byte) : Line := BitVec.ofNat 512 (le b 0x40 64)
/-- The body. -/
def body (b : List Byte) : List Byte := b.drop (if hasProfile b then 0x80 else 0x40)
/-- RECORD_SIZE of a kind. -/
def sizeOf (kind : Nat) : Nat := if isArray kind then 96 else if kind = 2 then 32 else if kind = 1 then 16 else 0
/-- Record `i` of a body whose records have `n` bytes. -/
def record (b : List Byte) (n i : Nat) : List Byte := ((body b).drop (n * i)).take n
/-- The records. -/
def records (b : List Byte) : List (List Byte) := (List.range (count b)).map (record b (recSize b))
/-- Array records as rows (R190). -/
def rows (b : List Byte) : List Row := (records b).map Row.ofImage
/-- PREFIX records: prefix, length, result word (R190). -/
def prefixes (b : List Byte) : List (BitVec 128 × Nat × Word) :=
  (records b).map (fun r => (BitVec.ofNat 128 (le r 0 16), le r 0x18 1, BitVec.ofNat 64 (le r 0x10 8)))
/-- DIRECT records: index and entry (R190). -/
def entries (b : List Byte) : List (Nat × Word) :=
  (records b).map (fun r => (le r 0 4, BitVec.ofNat 64 (le r 8 8)))
end TImg

/-- No element occurs twice. -/
def noDup {α : Type} [BEq α] : List α → Bool
  | [] => true
  | x :: xs => !xs.contains x && noDup xs

/-- The header of an image for a table of kind `kind`, `len` bytes in all (R187, R191, 11 R388). -/
def headerOk (b : List Byte) (kind len : Nat) : Bool :=
  decide (64 ≤ b.length) && le b 0 4 == 0x49534B54 && le b 4 2 == 1 && checkOk b && TImg.kind b == kind &&
  (TImg.mode b == 0 || (TImg.mode b == 1 && isArray kind)) && decide (le b 0xE 2 ≤ 1) &&
  zeroBytes b 0x25 3 && zeroBytes b 0x2C 16 && decide (le b 0x22 2 < 4096) &&
  TImg.recSize b == TImg.sizeOf kind && TImg.bodyOff b == (if TImg.hasProfile b then 0x80 else 0x40) &&
  TImg.bodyOff b + TImg.bodyLen b == len &&
  (if kind = 5 then TImg.count b == 1 && TImg.bodyLen b == le (TImg.body b) 0x20 8
   else TImg.bodyLen b == TImg.count b * TImg.recSize b)

/-- The governing profile of a load (R189). -/
def govOf (r : Tbl) (b : List Byte) : Line := if TImg.hasProfile b then TImg.profile b else r.profile

/-- The records of an image against the governing profile `p` (R143, R85, R114, R191, 08 R276). -/
def recordsOk (t : Nat) (r : Tbl) (b : List Byte) (p : Line) : Bool :=
  if isArray r.kind then
    decide (TImg.count b ≤ 16384 * r.maxBlocks) &&
    (TImg.rows b).all (fun w => imageOk w t r.kind true && cellsOk w p && r.ownsHandle w.handle) &&
    noDup ((TImg.rows b).map Row.handle)
  else if r.kind = 2 then
    decide (TImg.count b ≤ r.count) &&
    (TImg.records b).all (fun w => zeroBytes w 0x19 7) &&
    (TImg.prefixes b).all (fun e => prefixOk (Prof.keyBits p) e.1 e.2.1) &&
    noDup ((TImg.prefixes b).map (fun e => (e.1, e.2.1)))
  else if r.kind = 1 then
    decide (TImg.count b ≤ r.count) &&
    (TImg.records b).all (fun w => zeroBytes w 4 4 && decide (le w 0 4 < r.count)) &&
    noDup ((TImg.entries b).map (fun e => e.1))
  else imageValid (TImg.body b)

/-- The whole check of an image (R189, R191). -/
def State.imageOkFor (s : State) (t : Nat) (b : List Byte) (len : Nat) : Bool :=
  let r := s.tb t
  let p := govOf r b
  headerOk b r.kind len && (!TImg.hasProfile b || r.state == 1) &&
  ((r.kind == 5 && !TImg.hasProfile b) || profileOk r p (s.f fPairEn == 1)) && recordsOk t r b p

/-- The kinds and states in which a load is accepted (R178). -/
def loadState (r : Tbl) : Bool :=
  if isArray r.kind || r.kind = 2 then r.state == 1 || r.state == 2 || r.state == 3 else r.state == 1 || r.state == 3

/-- The order of R181: the lowest byte of E(r), then HANDLE. -/
def loadKey (p : Line) (r : Row) : Nat :=
  (lowest 256 (fun i => (r.canopy p).getLsbD i)).getD 256 * 2 ^ 22 + r.handle

/-- The rows of the segments in the order in which a load fills an empty table (R181). -/
def fillOrder (segs : List Nat) (glade : Nat) : List Nat :=
  segs.flatMap (fun g => (List.range (256 - glade)).map (fun i => 256 * g + i)) ++
  segs.flatMap (fun g => (List.range glade).map (fun i => 256 * g + (256 - glade) + i))

/-- Stage the records of an array load (R179 to R181). The image has passed its checks. -/
def State.loadArray (s : State) (og : Origin) (c t : Nat) (b : List Byte) : State :=
  let r := s.tb t
  let p := govOf r b
  let rows := TImg.rows b
  let replace := TImg.mode b == 1
  let taken := s.takenRows
  let free := (segsOf r.openBlocks).foldl (fun n g => n + freeIn taken g) 0
  if rows.any (fun w => !(s.handleFree t w.handle || (replace && (s.liveRow t w.handle).isSome))) then
    s.resolve og (refusal t St.malformed)
  else if free < rows.length then s.resolve og (refusal t St.noRoom)
  else
    let live := (s.rowsOf t).filter (fun e => e.2.live)
    let bulk : Bulk := { origin := og, replace := replace, rows := rows, records := rows.length,
                         profile := if TImg.hasProfile b then some p else none }
    let lock : Lock := { owner := c, leaseUs := 0, endTick := 0, bulk := true,
                         retire := if replace then live.map (fun e => e.2.handle) else [] }
    let s := s.updTb t (fun r => { r with bulk := some bulk, lock := some lock })
    if (s.rowsOf t).isEmpty then
      let order := (fillOrder (segsOf r.openBlocks) (Prof.gladeTarget p)).filter (fun a => !taken.contains a)
      let sorted := sortBy (loadKey p) rows
      let s := s.updTb t (fun r => { r with bulk := some { bulk with target := order.take rows.length } })
      (sorted.zip order).foldl (fun s e =>
        s.enqM t (.write e.2 (((e.1.setTable t).setV false).setG true) .stage) og (some c)) s
    else
      rows.foldl (fun s w => { s with mnt := { s.mnt with placeQ := s.mnt.placeQ ++
        [{ origin := og, table := t, row := w, given := some w.handle, at_ := s.tick, lock := some c, bulk := true }] } }) s

/-- Take up the load of an image whose checks have passed, by the table's kind. -/
def State.loadStart (s : State) (og : Origin) (c t : Nat) (b : List Byte) : State :=
  let r := s.tb t
  let p := govOf r b
  let base : Bulk := { origin := og, replace := false, records := TImg.count b,
                       profile := if TImg.hasProfile b then some p else none }
  if isArray r.kind then s.loadArray og c t b
  else if r.kind = 2 then
    if (TImg.prefixes b).any (fun e => r.prefixes.any (fun q => q.1 == e.1 && q.2.1 == e.2.1)) then
      s.resolve og (refusal t St.malformed)
    else (s.updTb t (fun r => { r with bulk := some { base with prefixes := TImg.prefixes b } })).trieMut t .load og
  else if r.kind = 1 then s.updTb t (fun r => { r with bulk := some { base with entries := TImg.entries b } })
  else s.updTb t (fun r => { r with bulk := some { base with image := TImg.body b } })

/-- BULK_LOAD at the member that carries it out (05 R178, R188 to R191; 11 R388): `host` is what CXL.io DMA returned for
an image in host memory. None while an earlier load of the table runs. A load issued in the dual phase of a migration runs, as
R185 lists it under nothing that ends LOCKED (DESIGN CHOICE, log 39). -/
def State.bulkLoad (s : State) (og : Origin) (c : Nat) (r : Req) (host : List Byte) (fault : State → State) : Option State :=
  let t := r.table
  let tb := s.tb t
  let a := lineLe r.slot1 0x10 8
  let n := lineLe r.slot1 0x18 8
  if s.lockRefuses t c then some (s.resolve og (refusal t St.locked))
  else if !loadState tb || tb.lock.isSome then some (s.resolve og (refusal t St.malformed))
  else if tb.bulk.isSome then none
  else if !r.flag0 && !og.isFwd && !s.runOk c a n then some (s.resolve og (refusal t St.privilege))
  else if !r.flag0 && s.runHeld a n then none
  else
  let s := if r.flag0 then s else s.readCheck 2 (s.cx c).ldid a n
  if (!r.flag0 && s.runPoison a n) || (r.flag0 && host.length != n) then some (fault s)
  else
    let b := if r.flag0 then host else s.hdmBytes a n
    if b.take 56 != (bytesOf 64 r.slot2).drop 8 || !s.imageOkFor t b n then some (s.resolve og (refusal t St.malformed))
    else some (s.loadStart og c t b)

/-- BULK_LOAD. -/
def execBulkLoad (ctx : Id12) (n : BitVec 32) (host : List Byte) (s : State) : Res :=
  whileUp s (fun s => s.runDesc ctx.val n.toNat 0x19 (fun s r =>
    let og : Origin := .req ctx.val n.toNat
    if s.isMirror r.table && s.isAway && s.pst == .paired then some (s.forward og ctx.val r.accept r.slot1 r.slot2)
    else s.bulkLoad og ctx.val r host (fun s => s.faultCtx ctx.val fcFetch)))

/-- Home frames the commit of a load of a MIRROR table, with its profile where it has one (15 R526). -/
def State.frameLoad (s : State) (t : Nat) (b : Bulk) : State × Option Nat :=
  if s.mirrors t then
    let m := mirMsg t .commit 0 s.tick
    let r := s.mirFrame (match b.profile with | some p => { m with len := 1, prof := p } | none => m)
    (r.1, some r.2)
  else (s, none)

/-- The end of a DIRECT or AUTOMATON load at its commit tick, which is this tick: its profile takes effect, and its request
ends with the records loaded. -/
def State.loadDone (s : State) (t : Nat) (b : Bulk) (mseq : Option Nat) : State :=
  let s := s.updTb t (fun r => { r with bulk := none })
  let s := s.loadProfile t b.profile mseq
  s.endMut t mseq b.origin { status := St.success, tick := s.tick, table := t, count := b.records }

/-- The entries of a DIRECT load are written (R178). -/
def State.putEntries (s : State) (t : Nat) (es : List (Nat × Word)) : State :=
  es.foldl (fun s e => s.setDword (1024 * (s.tb t).regionBase + e.1) e.2) s

/-- The commit of a DIRECT load: its entries, at one tick, as one mirrored change of a MIRROR table (R178; 15 R526). -/
def State.loadEntries (s : State) (t : Nat) (b : Bulk) : State × Option Nat :=
  let m := (s.putEntries t b.entries).frameLoad t b
  (b.entries.foldl (fun s e => s.journal ⟨t, 2, e.1, 0, 0⟩ (m.2.getD 0)) m.1, m.2)

/-- The staged records that away needs before a load's PREPARE (15 R526, R529). -/
def State.frameRecords (s : State) (t : Nat) (ps : List (BitVec 128 × Nat × Word)) (es : List (Nat × Word)) : State :=
  let s := ps.foldl (fun s p =>
    (s.mirFrame { mirMsg t .stage 0 s.tick with pfx := p.1, len := BitVec.ofNat 8 p.2.1, res := p.2.2 }).1) s
  es.foldl (fun s e => (s.mirFrame { mirMsg t .stage e.1 s.tick with res := e.2 }).1) s

/-- BULK_LOAD_COMMIT: an array load whose rows are all staged queues its state update, as COMMIT does (R173, R179); a
DIRECT load takes effect; an AUTOMATON load once no chunk runs the previous image (09 R301). A PREFIX load commits by its
swap. -/
def State.bulkCommit (s : State) (t : Nat) : State :=
  let r := s.tb t
  match r.bulk with
  | none => s
  | some b =>
    if b.isMirror then s
    else if isArray r.kind then
      match r.lock with
      | none => s
      | some l =>
        if b.staged < b.records || l.lstate != 1 then s else
        let two := s.mirrors t
        let s := s.updLock t (fun l => { l with lstate := 2, accept := s.tick, ready := !two })
        let s := if two then
            let m := s.mirFrame (mirMsg t .prepare 0 s.tick)
            m.1.updLock t (fun l => { l with prep := some m.2 })
          else s
        s.enqM t (.upd 0 .lockCommit) b.origin none (s.tick + 1)
    else if r.kind = 1 then
      if s.mirrors t && b.prep.isNone then
        let s := s.frameRecords t [] b.entries
        let m := s.mirFrame (mirMsg t .prepare 0 s.tick)
        m.1.updTb t (fun r => { r with bulk := some { b with prep := some m.2, ready := false } })
      else if !b.ready then s else
      let (s, m) := s.loadEntries t b
      s.loadDone t b m
    else if r.kind = 5 then
      if (List.range 32).any (fun k => s.runsImage k t) then s else
      let s := s.updTb t (fun r => { r with image := b.image })
      let s := { s with rng := { s.rng with
        resident := (List.range 32).foldl (fun m k =>
          SMap.set (fun _ => []) m k ((SMap.get (fun _ => []) m k).filter (fun e => e.table != t))) s.rng.resident } }
      s.loadDone t b none
    else s

/-- BULK_LOAD_COMMIT. -/
def execBulkLoadCommit (table : TableId) (s : State) : Res := whileUp s (·.bulkCommit table.val)

end Sys2Proof.Machine
end

