-- ==== Sys2Proof/Machine/Learning.lean ====
section
/-! DEFINITION. The learn stage and the sweeper (07 R226 to R247). -/

namespace Sys2Proof.Machine

/-! ### Rows that learns and the directory store -/

/-- The cells of a learned key: one-hot in every nibble of KEY_USED, 0xFFFF elsewhere (R227). -/
def learnCells (key : Key) (used : BitVec 40) : Cells :=
  (List.range 40).foldl (fun (c : Cells) n =>
    let cell : BitVec 16 := if used.getLsbD n then 1 <<< (key.extractLsb' (4 * n) 4).toNat else 0xFFFF
    c ||| ((cell.setWidth 640) <<< (16 * n))) 0

/-- A row with cells, PRIORITY, SRC, S and a result word, its other control bits clear. -/
def newRow (cells : Cells) (prio src : Nat) (stat : Bool) (res : Word) : Row :=
  ⟨cells, putFld (putFld (putFld 0 22 16 prio) 51 12 src) 48 1 (if stat then 1 else 0), res⟩

/-- The row that a learn inserts (R227). -/
def LearnOp.row0 (o : LearnOp) (p : Line) : Row :=
  newRow (learnCells o.key (Prof.keyUsed p)) o.prio o.src false o.res

/-! ### Decisions (R228 to R237) -/

/-- Change a learn. -/
def State.updLearn (s : State) (id : Nat) (f : LearnOp → LearnOp) : State :=
  { s with lrn := { s.lrn with ops := s.lrn.ops.map (fun (o : LearnOp) => if o.id == id then f o else o) } }

/-- The learns of a table take their probe results from the inbox. -/
def State.takeProbes (s : State) (t : Nat) : State :=
  s.lrn.ops.foldl (fun s o =>
    if o.table != t then s else
    match s.takeInbox (fun og => og == .learn o.id) with
    | some (e, s) =>
      s.updLearn o.id (fun x => if x.phase = 0 then { x with phase := 1, probe := some e.2 } else x)
    | none => s) s

/-- The learn makes no change: it takes this tick as its decision tick, or waits for a later one (R230, R232, R235). -/
def State.learnStatic (s : State) (o : LearnOp) (h entrySrc : Nat) : State :=
  if !s.learnFirst o then s else
  let s := s.inc (fLrn o.table 1 0 32)
  let s := s.raise .learnStaticConflict (argTH o.table h entrySrc o.src) 0
  s.endLearn o { status := St.success, table := o.table, handle := h, outcome := 3 }

/-- The learn is decided with an outcome on a handle, and is in flight. -/
def State.decided (s : State) (o : LearnOp) (outcome : Nat) (h row : Option Nat) : State :=
  s.updLearn o.id (fun x => { x with phase := 2, outcome := outcome, handle := h, row := row })

/-- Outcome HIT or MOVED on handle `h` at row `a` (R229, R231); under a lock both stage a replacement of the row that the
owner sees (R237, 05 R169). -/
def State.learnOn (s : State) (o : LearnOp) (h a src : Nat) (base : Row) : State :=
  let moved := src != o.src
  match o.lock with
  | some c =>
    let n := if moved then { ((base.setSrc o.src).setH true) with res := o.res } else base.setH true
    let i : Ins := { origin := .learn o.id, table := o.table, row := n, given := some h, at_ := s.tick, lock := some c,
                     learn := true, upd := true }
    if !s.marksOk o.table (if (s.stagedOf o.table h).isSome then 0 else 2) then s.noRoom i
    else
      let s := s.decided o (if moved then 2 else 1) (some h) (some a)
      { s with mnt := { s.mnt with placeQ := s.mnt.placeQ ++ [i] } }
  | none =>
    if moved then
      (s.decided o 2 (some h) (some a)).enqOp 10
        { table := o.table, act := .write a ({ ((base.setSrc o.src).setH true) with res := o.res }) .learnMove,
          origin := .learn o.id }
    else (s.decided o 1 (some h) (some a)).enqOp 10 { table := o.table, act := .upd h .hit, origin := .learn o.id }

/-- The key is absent: the learn's entry is placed (R229, R231). -/
def State.learnAbsent (s : State) (o : LearnOp) : State :=
  let i : Ins := { origin := .learn o.id, table := o.table, row := o.row0 (s.tb o.table).profile, given := none,
                   at_ := s.tick, lock := o.lock, learn := true }
  if !s.marksOk o.table 1 && o.lock.isSome then s.noRoom i
  else
    let s := s.decided o 0 none none
    { s with mnt := { s.mnt with placeQ := s.mnt.placeQ ++ [i] } }

/-- Decide a learn against the winner of its key now, in the owner's view under a lock (R235, R237). -/
def State.decideNow (s : State) (o : LearnOp) : State :=
  let t := o.table
  match s.learnWinner o with
  | none => s.learnAbsent o
  | some w =>
    let h := w.row.handle
    match o.lock, s.stagedOf t h with
    | some _, some b =>
      let r := s.row b
      if r.src != o.src && r.stat then s.learnStatic o h r.src else s.learnOn o h w.addr r.src r
    | some _, none =>
      if s.retiring t h then s.learnAbsent o
      else if w.row.src != o.src && w.row.stat then s.learnStatic o h w.row.src
      else s.learnOn o h w.addr w.row.src w.row
    | none, _ =>
      if w.row.src != o.src && w.row.stat then s.learnStatic o h w.row.src
      else s.learnOn o h w.addr w.row.src w.row

/-- Decide a learn against the decided outcome of an earlier learn of its key that is in flight: the entry then holds the
earlier learn's SRC (R233, R235). It waits until the earlier one's row is known. -/
def State.decideAfter (s : State) (o p : LearnOp) : State :=
  match p.handle, p.row with
  | some h, some a =>
    let stat := p.outcome == 1 && (s.row a).stat
    if o.src != p.src && stat then s
    else
      let base := if p.outcome = 0 || p.outcome = 4 then
          ((((p.row0 (s.tb o.table).profile).setHandle h).setTable o.table).setV true)
        else s.row a
      s.learnOn o h a p.src base
  | _, _ => s

/-- The winning entry of a learn has left its row (R235). -/
def State.winnerMoved (s : State) (o : LearnOp) : Bool :=
  match o.phase, o.row with
  | 1, some a =>
    (match o.probe with | some r => r.status == St.success && s.liveRow o.table r.handle != some a | none => false)
  | 2, some a => (o.outcome == 1 || o.outcome == 2) &&
      !s.lrn.ops.any (fun x => x.id != o.id && x.table == o.table && x.key == o.key && x.phase == 2 && x.handle == o.handle) &&
      (match o.handle with | some h => s.liveRow o.table h != some a | none => false)
  | _, _ => false

/-- LEARN_DECIDE: the first undecided learn of the table in the order of R232, once its probe is known. The outcome of an
earlier learn of its key in flight stands in place of the probe's; a winner that has left its row is probed again (R235). -/
def State.learnDecide (s : State) (t : Nat) : State :=
  let s := s.takeProbes t
  match s.lrn.ops.find? (fun o => o.table == t && o.phase != 2) with
  | none => s
  | some o =>
    match o.probe with
    | none => s
    | some r =>
      if o.phase != 1 then s else
      match (s.lrn.ops.filter (fun x => x.table == t && x.key == o.key && x.phase == 2)).getLast? with
      | some p => if o.lock.isSome then s else s.decideAfter o p
      | none =>
        if s.winnerMoved o then s.relearn o
        else if r.status = St.poisoned then
          s.when (s.learnFirst o) (·.endLearn o { status := St.poisoned, table := t, handle := r.handle, outcome := 6 })
        else if r.status != St.success && r.status != St.noMatch then
          s.when (s.learnFirst o) (·.endLearn o { status := r.status, table := t })
        else s.decideNow o

/-- LEARN_DECIDE. -/
def execLearnDecide (table : TableId) (s : State) : Res := whileUp s (·.learnDecide table.val)

/-- LEARN_RETRY: the first learn whose winning entry was moved or removed is probed again; its change is withdrawn. -/
def State.learnRetry (s : State) (t : Nat) : State :=
  let s := s.takeProbes t
  match s.lrn.ops.find? (fun o => o.table == t && s.winnerMoved o) with
  | none => s
  | some o => (s.discardOps (.learn o.id)).relearn o

/-- LEARN_RETRY. -/
def execLearnRetry (table : TableId) (s : State) : Res := whileUp s (·.learnRetry table.val)

/-! ### The sweeper (R241 to R247) -/

/-- Change the sweep record of a table. -/
def State.updSweep (s : State) (t : Nat) (f : Sweep → Sweep) : State :=
  { s with lrn := { s.lrn with sweeps := SMap.set (fun _ => none) s.lrn.sweeps t ((s.sweepOf t).map f) } }

/-- The sweeper serves a table: LEARNING, OPEN or DISABLED, and at home where it is mirrored (R238, R243). -/
def State.sweeps (s : State) (t : Nat) : Bool :=
  let r := s.tb t
  r.kind == 4 && (r.state == 2 || r.state == 3) && !(s.isMirror t && s.isAway)

/-- SWEEP_PASS_START (R243, R245). -/
def State.passStart (s : State) (t : Nat) : State :=
  match s.sweepOf t with
  | none => s
  | some w =>
    if !s.sweeps t || w.running || s.tick < w.due then s else
    let late := match w.limit with | some l => decide (l < w.due) | none => false
    let s := if late then s.inc (fLrn t 3 0 32) else s
    s.updSweep t (fun w => { w with running := true, pos := 0, again := [], lastVisit := w.due,
                                    period := Prof.sweepPeriod (s.tb t).profile })

/-- SWEEP_PASS_START. -/
def execSweepPassStart (table : TableId) (s : State) : Res := whileUp s (·.passStart table.val)

/-- The lowest live handle at or above `pos` whose row carries no lock mark (R244). -/
def State.nextVisit (s : State) (t pos : Nat) : Option Nat :=
  (s.rowsOf t).foldl (fun (b : Option Nat) e =>
    let h := e.2.handle
    if e.2.live && decide (pos ≤ h) && s.liveRow t h == some e.1 && !s.lockMarked t h &&
        (match b with | some x => decide (h < x) | none => true)
    then some h else b) none

/-- The pass has visited its last handle: the next one starts by R243. -/
def State.passEnd (s : State) (t : Nat) : State :=
  let s := s.inc (fLrn t 3 32 32)
  s.updSweep t (fun w =>
    let next := w.due + 500000 * w.period
    { w with running := false, due := max (w.lastVisit + 1) next, limit := some next })

/-- SWEEPER_VISIT: the visit of the next handle is requested at input 11, once no hold delays it (R244); a pass with
nothing left ends. -/
def State.sweeperVisit (s : State) (t : Nat) : State :=
  match s.sweepOf t with
  | none => s
  | some w =>
    if !s.sweeps t || !w.running then s else
    let ask (s : State) (h : Nat) : State := s.enqOp 11 { table := t, act := .upd h .visit, origin := .sweep t }
    match w.again with
    | h :: rest =>
      if (s.liveRow t h).isNone || s.lockMarked t h then s.updSweep t (fun w => { w with again := rest })
      else if s.heldH t h then s
      else (ask s h).updSweep t (fun w => { w with again := rest, visits := w.visits ++ [h] })
    | [] =>
      match s.nextVisit t w.pos with
      | some h =>
        if s.heldH t h then s
        else (ask s h).updSweep t (fun w => { w with pos := h + 1, visits := w.visits ++ [h] })
      | none => if w.visits.isEmpty then s.passEnd t else s

/-- SWEEPER_VISIT. -/
def execSweeperVisit (table : TableId) (s : State) : Res := whileUp s (·.sweeperVisit table.val)

end Sys2Proof.Machine
end

