-- ==== Sys2Proof/Machine/Dir.lean ====
section
/-! DEFINITION. The coherence directory: claims, lookups, resolution, snoops, pins and ageing (07 R248 to R262). -/

namespace Sys2Proof.Machine

/-! ### Keys and entries (R249 to R251) -/

/-- The directory key of a line DPA (R249). -/
def dirKey (d : Nat) : Key := BitVec.ofNat 160 (d / 64 % 64 + d / 4096 * 256)
/-- KEY_USED of table 255 (R248). -/
abbrev dirUsed : BitVec 40 := 0x3FF
/-- Cells of a line entry, and of a coarse entry (R250). -/
def lineCells (d : Nat) : Cells := learnCells (dirKey d) dirUsed
def pageCells (d : Nat) : Cells := ((lineCells d >>> 32) <<< 32) ||| 0x000FFFFF
/-- The coarse entry of LD `ld` over a page. -/
def coarseRow (d ld : Nat) (stat : Bool) : Row := newRow (pageCells d) 1 ld stat (dirWord true 3 (2 ^ ld))
/-- A line entry. -/
def lineRow (d st sharers src : Nat) : Row := newRow (lineCells d) 0 src false (dirWord false st sharers)

/-- The live rows of table 255 that cover some line of a page. -/
def State.pageRows (s : State) (q : Nat) : List (Nat × Row) :=
  (s.rowsOf 255).filter (fun e => e.2.live && dirDpa e.2 / 4096 == q)
/-- A coarse entry covers a line's page. -/
def State.hasCoarse (s : State) (d : Nat) : Bool := (s.pageRows (d / 4096)).any (fun e => dirCoarse e.2.res)

/-! ### Claims (R257) -/

/-- DIR_STAT.CLAIMS shows the claims held. -/
def State.showClaims (s : State) : State := s.setF fClaims s.claimsHeld

/-- A request enters the directory path. -/
def State.dirEnter (s : State) (ld line : Nat) (what : DirWhat) (page : Bool) : State :=
  let r : DirReq := { id := s.ids, ld := ld, line := line / 64 * 64, what := what, arrive := s.tick, page := page }
  { s with ids := s.ids + 1, dir := { s.dir with reqs := s.dir.reqs ++ [r] } }

/-- Queue a lookup of table 255 at input 9: of a line, or of a whole page (R255). -/
def State.dirLookup (s : State) (id line : Nat) (probe : Bool) : State :=
  let k : SearchKey := if probe then
      { set := some (((keySets (oneHot (dirKey line)) 0 >>> 32) <<< 32) ||| 0x000FFFFF) }
    else { key := dirKey line }
  s.enqOp 9 { table := 255, act := .search k false false, origin := .dir id }

/-- The first waiting request, in arrival order, that meets no claim and no earlier waiting request of its lines. -/
def nextClaim : List DirReq → List DirReq → Option DirReq
  | _, [] => none
  | before, r :: rs =>
    if r.phase = 0 && !before.any (fun b => b.phase != 6 && b.meets r) && !rs.any (fun b => b.claims && b.meets r) then some r
    else nextClaim (before ++ [r]) rs

/-! ### Resolution (R254 to R256) -/

/-- What the resolution table says of a request: snoops, the change, a move, and whether a line entry is split off. -/
structure DirPlan where
  snoops : List (Nat × BiKind) := []
  change : DirChange := .none
  move : Option (Nat × Nat) := none
  split : Bool := false
  deriving DecidableEq, Repr

/-- The resolution of class `cls` from LD `r` against winner row `w` (R254). A line entry split off for NOCACHE or WRITE, where
no owner changes and no sharer is added, takes the SRC of the coarse entry (DESIGN CHOICE, log 39). -/
def dirPlan (w : Row) (cls r : Nat) : DirPlan :=
  let h := w.handle
  let x := dirSharers w.res
  let st := dirState w.res
  let has := x.testBit r
  let me := 2 ^ r
  let o := (sharersOf x).headD 0
  let others := (sharersOf x).filter (fun n => n != r)
  let hit : DirPlan := { change := .hit h }
  if dirCoarse w.res then
    if has then hit
    else if cls = 1 then { snoops := [(o, .data)], change := .line 1 (2 ^ o + me) r, split := true }
    else if cls = 0 then { snoops := [(o, .data)], change := .line 1 (2 ^ o) w.src, split := true }
    else if cls = 2 then { snoops := [(o, .inv)], change := .line 2 me r, move := some (o, r), split := true }
    else { snoops := [(o, .inv)], change := .line 0 0 w.src, split := true }
  else if st = 1 then
    if cls = 1 then if has then hit else { change := .set h 1 (x + me) r true }
    else if cls = 0 then if has then hit else {}
    else if cls = 2 then { snoops := others.map (fun n => (n, .inv)), change := .set h 2 me r true }
    else { snoops := others.map (fun n => (n, BiKind.inv)), change := if has then DirChange.set h 1 me 0 false else DirChange.set h 0 0 0 false }
  else if st = 2 then
    if has then hit
    else if cls = 1 then { snoops := [(o, .data)], change := .set h 1 (2 ^ o + me) r true }
    else if cls = 0 then { snoops := [(o, .data)], change := .set h 1 (2 ^ o) 0 false }
    else if cls = 2 then { snoops := [(o, .inv)], change := .set h 2 me r true, move := some (o, r) }
    else { snoops := [(o, .inv)], change := .set h 0 0 0 false }
  else if cls = 1 then { change := .set h 1 me r true }
  else if cls = 2 then { change := .set h 2 me r true }
  else {}

/-- Leave the LDs of lost ports, and those of the set `dead`, out of the SHARERS that a change stores (10 R369). -/
def State.dropDead (s : State) (dead st x : Nat) : Nat × Nat :=
  let keep := (sharersOf x).filter (fun n => !s.portLost n && !dead.testBit n)
  let y := keep.foldl (fun n i => n + 2 ^ i) 0
  (if y = 0 then 0 else st, y)

/-! ### Changes (R254, R258) -/

/-- Queue a row write of table 255 for a request. -/
def State.dirWrite (s : State) (id a : Nat) (r : Row) (k : WKind) : State :=
  (s.enqOp 9 { table := 255, act := .write a r k, origin := .dir id }).updDir id (fun q => { q with queued := true, commit := none })

/-- Send an entry of table 255 to the placement engine for a request. -/
def State.dirInsert (s : State) (id : Nat) (r : Row) : State :=
  let s := { s with mnt := { s.mnt with placeQ := s.mnt.placeQ ++
    ([{ origin := .dir id, table := 255, row := r, given := none, at_ := s.tick, learn := true }] : List Ins) } }
  s.updDir id (fun q => { q with queued := true, commit := none })

/-- Remove an entry by handle; an entry that is gone already needs no change. -/
def State.dirRemove (s : State) (id h : Nat) : State :=
  match s.liveRow 255 h with
  | some a => s.dirWrite id a {} .free
  | none => s.updDir id (fun q => { q with queued := true, commit := some s.tick })

/-- An LD that the entry serves now holds its line whatever its port lost before (10 R369). -/
def State.freshSharer (s : State) (h ld : Nat) : State :=
  let m := num s.dir.stale h
  { s with dir := { s.dir with stale := setNum s.dir.stale h (if m.testBit ld then m - 2 ^ ld else m) } }

/-- Queue the change of a request whose snoops are complete. -/
def State.dirChange (s : State) (r : DirReq) : State :=
  match r.change with
  | .none => s.updDir r.id (fun q => { q with queued := true, commit := some s.tick })
  | .hit h => ((s.freshSharer h r.ld).enqOp 9 { table := 255, act := .upd h .hit, origin := .dir r.id }).updDir r.id (fun q => { q with queued := true })
  | .set h st x src own =>
    let s := s.freshSharer h r.ld
    let (st, x) := s.dropDead (num s.dir.stale h) st x
    let s := { s with dir := { s.dir with stale := setNum s.dir.stale h 0 } }
    if st = 0 && !s.hasCoarse r.line then s.dirRemove r.id h
    else match s.liveRow 255 h with
    | none => s.dirAgain r.id
    | some a =>
      let o := s.row a
      let n := { (if own then o.setSrc src else o) with res := dirWord false st x }
      s.dirWrite r.id a n .dirMove
  | .line st x src =>
    let (st, x) := s.dropDead 0 st x
    s.dirInsert r.id (lineRow r.line st x src)
  | .coarse stat => s.dirInsert r.id (coarseRow r.line r.ld stat)
  | .remove h => s.dirRemove r.id h

/-- A pin or unpin of a page, once its snoops are complete: the other entries are removed, then the coarse entry of the
named LD takes S, or loses it (R261). -/
def State.pinStep (s : State) (r : DirReq) (pin : Bool) : State :=
  let busy := (s.queuedOps.map (fun e => e.2.2) ++ (s.arb.flights.filter (fun f => !f.committed)).map (fun f => f.op)).any
      (fun op => op.origin == .dir r.id) || s.mnt.placeQ.any (fun i => i.origin == .dir r.id) ||
      s.mnt.tmQ.any (fun i => i.origin == .dir r.id) || r.write.isSome
  if busy then s else
  let rows := s.pageRows (r.line / 4096)
  let mine (e : Nat × Row) : Bool := dirCoarse e.2.res && dirSharers e.2.res == 2 ^ r.ld
  let rest := rows.filter (fun e => !mine e)
  if pin && !rest.isEmpty then rest.foldl (fun s e => s.dirWrite r.id e.1 {} .free) s
  else
    match rows.find? mine with
    | some e =>
      (s.dirWrite r.id e.1 (e.2.setBit 48 pin) .update).updDir r.id (fun q => { q with change := .coarse pin })
    | none => (s.dirInsert r.id (coarseRow r.line r.ld true)).updDir r.id (fun q => { q with change := .coarse pin })

/-- A request whose snoops are complete goes on: a victim's row is reused (R258), or its change is queued. -/
def State.dirAdvance (s : State) (id : Nat) : State :=
  match s.dir.reqs.find? (fun r => r.id == id) with
  | none => s
  | some r =>
    if r.phase != 5 || !r.snoops.isEmpty then s else
    match r.write with
    | some (a, w) =>
      (s.dirWrite id a w (.learnInsert r.victim)).updDir id (fun q => { q with write := none, victim := none })
    | none =>
      match r.what with
      | .pin _ _ => if r.change = .none then s.pinStep r true else s
      | .unpin _ _ => if r.change = .none then s.pinStep r false else s
      | _ => if r.queued || r.commit.isSome then s else s.dirChange r

/-- Carry out a plan: its snoops are issued, and its change follows when they are complete. -/
def State.dirBegin (s : State) (r : DirReq) (p : DirPlan) : State :=
  let s := s.updDir r.id (fun q => { q with phase := 5, change := p.change, move := p.move, split := p.split })
  let s := p.snoops.foldl (fun s n => s.snoop r.id n.1 r.line n.2) s
  s.dirAdvance r.id

/-- Take the lookup result of a request from the inbox. -/
def State.dirFound (s : State) (r : DirReq) : DirReq × State :=
  match s.takeInbox (fun og => og == .dir r.id) with
  | some (e, s) =>
    let r' := { r with found := some e.2, phase := if r.phase = 3 then 4 else 2 }
    (r', s.updDir r.id (fun _ => r'))
  | none => (r, s)

/-- A pin's lookup is known: LOCKED by a static coarse entry of another LD; otherwise the snoops of R261. -/
def State.pinBegin (s : State) (r : DirReq) (c n : Nat) (pin : Bool) : State :=
  let rows := s.pageRows (r.line / 4096)
  let mine (e : Nat × Row) : Bool := dirCoarse e.2.res && dirSharers e.2.res == 2 ^ r.ld
  let done (s : State) (st : Nat) : State :=
    let s := { s with dir := { s.dir with reqs := s.dir.reqs.filter (fun q => q.id != r.id) } }
    (s.resolve (.req c n) { refusal 255 st with tick := s.tick }).showClaims
  if pin then
    if rows.any (fun e => dirCoarse e.2.res && e.2.stat && !mine e) then done s St.locked
    else
      let s := s.updDir r.id (fun q => { q with phase := 5 })
      let s := rows.foldl (fun s e => s.snoopEntry r.id e.2 (some r.ld)) s
      s.dirAdvance r.id
  else if rows.any mine then (s.updDir r.id (fun q => { q with phase := 5 })).dirAdvance r.id
  else done s St.noMatch

/-- Resolve a request whose lookup, or page probe, is known. A lookup whose winner fails its check is made again. -/
def State.dirDecide (s : State) (r : DirReq) : State :=
  match r.what, r.found with
  | .pin c n, some _ => s.pinBegin r c n true
  | .unpin c n, some _ => s.pinBegin r c n false
  | .mem cls _, some o =>
    if o.status = St.poisoned then (s.updDir r.id (fun q => { q with phase := 1, found := none })).dirLookup r.id r.line false
    else if r.phase = 4 then
      s.dirBegin r { change := if o.status = St.noMatch then .coarse false
                               else .line (if cls = 1 then 1 else 2) (2 ^ r.ld) r.ld }
    else if o.status = St.noMatch then
      if cls = 0 || cls = 3 then s.dirBegin r {}
      else if s.f fCoarse = 1 then (s.updDir r.id (fun q => { q with phase := 3, found := none })).dirLookup r.id r.line true
      else s.dirBegin r { change := .line (if cls = 1 then 1 else 2) (2 ^ r.ld) r.ld }
    else match s.liveRow 255 o.handle with
    | some a => s.dirBegin r (dirPlan (s.row a) cls r.ld)
    | none => (s.updDir r.id (fun q => { q with phase := 1, found := none })).dirLookup r.id r.line false
  | _, _ => s

/-! ### Commands -/

/-- DIR_REQUEST (R257): the first waiting request that may claim its lines does so and is looked up; a removal is snooped. -/
def State.dirRequest (s : State) : State :=
  match nextClaim [] s.dir.reqs with
  | none => s
  | some r =>
    if 256 < s.claimsHeld + spanClaims r.spans then s else
    let s := s.updDir r.id (fun q => { q with phase := 1 })
    let s := match r.what with
      | .mem _ _ => s.dirLookup r.id r.line false
      | .pin _ _ | .unpin _ _ => s.dirLookup r.id r.line true
      | .remove h | .settle h =>
        let s := s.updDir r.id (fun q => { q with phase := 5, change := .remove h })
        match s.liveRow 255 h with
        | some a =>
          -- an entry pinned meanwhile is not aged (R261)
          if (s.row a).stat && (match r.what with | .remove _ => true | _ => false) then
            (s.updDir r.id (fun q => { q with change := .none })).dirAdvance r.id
          else (s.snoopEntry r.id (s.row a) none).dirAdvance r.id
        | none => s.dirAdvance r.id
    s.showClaims

/-- DIR_REQUEST. -/
def execDirRequest (s : State) : Res := whileUp s State.dirRequest

/-- DIR_RESOLVE (R254): the claim on a line whose lookup is known is resolved. -/
def State.dirResolve (s : State) (line : Nat) : State :=
  match s.dir.reqs.find? (fun r => r.claims && r.line / 64 == line / 64) with
  | none => s
  | some r =>
    let (r, s) := s.dirFound r
    let s := if r.phase = 2 || r.phase = 4 then s.dirDecide r else s.dirAdvance r.id
    s.showClaims

/-- DIR_RESOLVE. -/
def execDirResolve (line : Dpa) (s : State) : Res := whileUp s (·.dirResolve line.toNat)

/-- DIR_CLAIM_END (R257): the change has committed, or there was none. A memory request stays until its data returns; a pin
completes. -/
def State.claimEnd (s : State) (line : Nat) : State :=
  match s.dir.reqs.find? (fun r => r.phase == 5 && r.line / 64 == line / 64 && r.snoops.isEmpty && r.commit.isSome &&
      r.write.isNone && (match r.what with | .pin _ _ | .unpin _ _ => r.change != .none | _ => r.queued || r.commit.isSome)) with
  | none => s
  | some r =>
    let drop (s : State) : State := { s with dir := { s.dir with reqs := s.dir.reqs.filter (fun q => q.id != r.id) } }
    let fin (c n : Nat) : State :=
      let h := ((s.pageRows (r.line / 4096)).find? (fun e => dirCoarse e.2.res)).map (fun e => e.2.handle)
      (drop s).resolve (.req c n) { status := St.success, tick := r.commit.getD s.tick, table := 255, handle := h.getD 0 }
    let s := match r.what with
      | .mem _ (.memspecrd _ _) => drop s   -- its data has returned, or its port was lost
      | .mem _ _ => s.updDir r.id (fun q => { q with phase := 6 })
      | .pin c n | .unpin c n => fin c n
      | .remove _ | .settle _ => drop s
    s.showClaims

/-- DIR_CLAIM_END. -/
def execDirClaimEnd (line : Dpa) (s : State) : Res := whileUp s (·.claimEnd line.toNat)

/-- DIR_AGE_REMOVAL (R242, R258): an aged entry is removed by the directory path, once its lines are not claimed; one that is
pinned meanwhile stays (R261). -/
def State.ageRemoval (s : State) (h : Nat) : State :=
  if !s.dir.aged.contains h then s else
  let s' := { s with dir := { s.dir with aged := s.dir.aged.erase h } }
  match s.liveRow 255 h with
  | none => s'
  | some a =>
    let r := s.row a
    if r.stat then s' else
    let q : DirReq := { id := 0, ld := 0, line := dirDpa r, what := .remove h, arrive := s.tick, page := dirCoarse r.res }
    if s.dir.reqs.any (fun b => b.claims && b.meets q) then s
    else (s'.dirEnter 0 (dirDpa r) (.remove h) (dirCoarse r.res)).dirRequest

/-- DIR_AGE_REMOVAL. -/
def execDirAgeRemoval (handle : BitVec 22) (s : State) : Res := whileUp s (·.ageRemoval handle.toNat)

/-- A snoop to an LD about a line is complete (R253): the requests that wait for it go on. -/
def State.snoopDone (s : State) (ld line : Nat) : State :=
  match s.dir.reqs.find? (fun r => r.snoops.any (fun n => n.1 == ld && n.2.1 / 64 == line / 64)) with
  | none => s
  | some r =>
    match r.snoops.find? (fun n => n.1 == ld && n.2.1 / 64 == line / 64) with
    | none => s
    | some n =>
      let s := s.updDir r.id (fun q => { q with snoops := q.snoops.erase n })
      (s.setF fSnoopsOpen (s.f fSnoopsOpen - 1)).dirAdvance r.id

/-- A snooped LD is treated as holding nothing (R262): the change under way does not record it. -/
def DirReq.without (r : DirReq) (ld : Nat) : DirReq :=
  let cut (x : Nat) : Nat := if x.testBit ld && ld != r.ld then x - 2 ^ ld else x
  match r.change with
  | .set h st x src own => { r with change := .set h (if cut x = 0 then 0 else st) (cut x) src own }
  | .line st x src => { r with change := .line (if cut x = 0 then 0 else st) (cut x) src }
  | _ => r

/-- DIR_BI_TIMEOUT (R262): an unanswered snoop older than BI_TIMEOUT_US, at least 10 µs. -/
def State.biTimeout (s : State) (ld line : Nat) : State :=
  let limit := 500 * max 10 (s.f fBiTimeout)
  match s.dir.reqs.find? (fun r => r.snoops.any (fun n => n.1 == ld && n.2.1 / 64 == line / 64 && decide (n.2.2.1 + limit ≤ s.tick))) with
  | none => s
  | some r =>
    let s := (s.raise .dirBiTimeout (argTH 0 0 ld) (line / 64 * 64)).inc fDirTimeouts
    let s := s.poisonLine line
    let s := s.updDir r.id (·.without ld)
    s.snoopDone ld line

/-- DIR_BI_TIMEOUT. -/
def execDirBiTimeout (ld : LdId) (line : Dpa) (s : State) : Res := whileUp s (·.biTimeout ld.val line.toNat)

/-! ### Pins (R260, R261) -/

/-- The page of a DPA lies in an HDM-DB region of a domain: some LD of the domain reaches it through a committed decoder
with BI set (10 R344, R347). -/
def State.dbPage (s : State) (d dpa : Nat) : Bool :=
  (List.range 32).any (fun n =>
    s.ldValid n && s.ldDomain n == d &&
    (match (s.ld n).offsetOf dpa with
     | some off => (s.ld n).decoders.any (fun e => e.2.committed && (match e.2.set with
        | some x => x.bi && decide (x.dpa.toNat ≤ off) &&
            decide (off < x.dpa.toNat + x.size.toNat / (match x.iw.val with | 0 => 1 | n => n))
        | none => false))
     | none => false))

/-- DIR_PIN and DIR_UNPIN at the directory path. -/
def State.dirPin (s : State) (c n : Nat) (r : Req) (pin : Bool) : State :=
  let page := lineLe r.slot1 0x10 8
  let ld := lineLe r.slot1 0x18 1
  let d := (s.cx c).domain
  let og : Origin := .req c n
  if !s.dbPage d page || 32 ≤ ld || !s.ldValid ld || s.ldDomain ld != d then s.resolve og (refusal 255 St.privilege)
  else s.dirEnter ld page (if pin then .pin c n else .unpin c n) true

/-- DIR_PIN. -/
def execDirPin (ctx : Id12) (n : BitVec 32) (s : State) : Res :=
  whileUp s (fun s => s.runDesc ctx.val n.toNat 0x28 (fun s r => some (s.dirPin ctx.val n.toNat r true)))

/-- DIR_UNPIN. -/
def execDirUnpin (ctx : Id12) (n : BitVec 32) (s : State) : Res :=
  whileUp s (fun s => s.runDesc ctx.val n.toNat 0x29 (fun s r => some (s.dirPin ctx.val n.toNat r false)))

end Sys2Proof.Machine
end

