-- ==== Sys2Proof/Machine/Trie.lean ====
section
/-! DEFINITION. The prefix trie and direct SRAM (08 R264 to R291). -/

namespace Sys2Proof.Machine

/-! ### Nodes (R266, R267, R270, R281) -/

/-- The strides of a plan. -/
def strides (plan : Nat) : List Nat :=
  match plan with
  | 0 => [16, 16, 16, 16, 16, 16, 16, 16]
  | 1 => [16, 16, 8, 8, 8, 8, 8, 8]
  | 2 => [16, 8, 8, 8, 8, 8, 8, 8]
  | 3 => [8, 8, 8, 8, 8, 8, 8, 8]
  | 4 => [16, 4, 4, 4, 4, 4, 4, 4]
  | 5 => [4, 4, 4, 4, 4, 4, 4, 4]
  | _ => []

/-- b_j: the key bits that stages 1 to j consume. -/
def bAt (plan j : Nat) : Nat := ((strides plan).take j).foldl (· + ·) 0

/-- Stage `j` (1 to 8) serves a table of `kb` key bits. -/
def usesStage (kb plan j : Nat) : Bool := j == 1 || decide (bAt plan (j - 1) < kb)

/-- The slots of a node of stage `j`: 2 to its effective stride. -/
def nodeSize (kb plan j : Nat) : Nat := 2 ^ (min (bAt plan j) kb - bAt plan (j - 1))

/-- The stages 1 to m that a table of `kb` key bits uses: m is the least j with b_j ≥ KEY_BITS (R267). -/
def usedStages (kb plan : Nat) : List Nat := ((List.range 8).map (· + 1)).filter (usesStage kb plan)

/-- The index of stage `j`: key bits [KEY_BITS − 1 − b_{j−1} : KEY_BITS − min(b_j, KEY_BITS)] (R267). -/
def stageIndex (kb plan j k : Nat) : Nat := k / 2 ^ (kb - min (bAt plan j) kb) % nodeSize kb plan j

/-- The fields of a slot that the prefix set fixes (R268, R270): CV, and the prefix that LV, LEN and LEAF name. CHILD and the
index of a leaf are the device's own arrangement. -/
structure TSlot where
  cv : Bool
  leaf : Option (BitVec 128 × Nat × Word)
  deriving DecidableEq, Repr

/-- Prefix `p` ends in a node of stage `j` (R270). -/
def endsIn (plan j : Nat) (p : BitVec 128 × Nat × Word) : Bool :=
  if p.2.1 = 0 then j == 1 else decide (bAt plan (j - 1) < p.2.1) && decide (p.2.1 ≤ bAt plan j)

/-- The slot of stage `j` on the path of key `k`: LV and LEAF name the longest prefix that ends in its node and covers it, and
CV says that the child exists (R270). -/
def slotAt (kb plan j : Nat) (ps : List (BitVec 128 × Nat × Word)) (k : Nat) : TSlot :=
  { cv := ps.any (fun p => decide (bAt plan j < p.2.1) && p.1.toNat / 2 ^ (kb - bAt plan j) == k / 2 ^ (kb - bAt plan j)),
    leaf := lpm kb (ps.filter (endsIn plan j)) k }

/-- The walk of R271 from a stage on, with the best leaf so far: it ends at the first slot without a child. -/
def trieWalk (kb plan : Nat) (ps : List (BitVec 128 × Nat × Word)) (k : Nat) :
    List Nat → Option (BitVec 128 × Nat × Word) → Option (BitVec 128 × Nat × Word)
  | [], best => best
  | j :: js, best =>
    let slot := slotAt kb plan j ps k
    let best := slot.leaf.or best
    if slot.cv then trieWalk kb plan ps k js best else best

/-- The match of key `k`: none where the table has no root (R269, R271). -/
def trieMatch (kb plan : Nat) (ps : List (BitVec 128 × Nat × Word)) (k : Nat) : Option (BitVec 128 × Nat × Word) :=
  if ps.isEmpty then none else trieWalk kb plan ps k (usedStages kb plan) none

/-- The nodes of stage `j` for a prefix set: the values of the top b_{j-1} key bits (R270). -/
def nodesOf (kb plan j : Nat) (ps : List (BitVec 128 × Nat × Word)) : List Nat :=
  if !usesStage kb plan j then []
  else if j = 1 then (if ps.isEmpty then [] else [0])
  else
    let b := bAt plan (j - 1)
    ((ps.filter (fun p => decide (b < p.2.1))).map (fun p => p.1.toNat / 2 ^ (kb - b))).eraseDups

/-- The stage in whose node a prefix of length `len` ends. -/
def endStage (plan len : Nat) : Nat :=
  if len = 0 then 1 else ((List.range 8).find? (fun i => decide (len ≤ bAt plan (i + 1)))).getD 7 + 1

/-- Slots of stages 1 to 8 that a prefix set takes (R281). -/
def slotsOf (kb plan : Nat) (ps : List (BitVec 128 × Nat × Word)) : List Nat :=
  (List.range 8).map (fun i => (nodesOf kb plan (i + 1) ps).length * nodeSize kb plan (i + 1))

/-- Element-wise sum and difference of stage counts. -/
def addStages (a b : List Nat) : List Nat := (List.range 8).map (fun i => a.getD i 0 + b.getD i 0)
def subStages (a b : List Nat) : List Nat := (List.range 8).map (fun i => a.getD i 0 - b.getD i 0)

/-- KEY_BITS and STRIDE_PLAN of a profile. -/
def kbOf (p : Line) : Nat := Prof.keyBits p
def planOf (p : Line) : Nat := Prof.stridePlan p

/-- Slots of the committed nodes of table `t`: TRIE_TBL[t].SLOTS by stage (R281, R291). -/
def State.tblSlots (s : State) (t : Nat) : List Nat :=
  let r := s.tb t
  slotsOf (kbOf r.profile) (planOf r.profile) r.prefixes

/-- Slots in use by stage: committed nodes, nodes being built, and nodes that a swap disconnected less than 12 ticks ago
(R279). -/
def State.usedSlots (s : State) : List Nat :=
  let z := List.replicate 8 0
  let a := s.tbl.foldl (fun u e => if e.2.kind = 2 then addStages u (s.tblSlots e.1) else u) z
  let b := s.trie.builds.foldl (fun u e => match e.2 with | some b => addStages u b.need | none => u) a
  (s.trie.freeing.filter (fun f => decide (s.tick < f.at_))).foldl (fun u f => addStages u f.slots) b

/-- Leaves in use. -/
def State.usedLeaves (s : State) : Nat :=
  s.tbl.foldl (fun n e => n + e.2.prefixes.length) 0 +
  s.trie.builds.foldl (fun n e => match e.2 with | some b => n + b.leaves | none => n) 0 +
  (s.trie.freeing.filter (fun f => decide (s.tick < f.at_))).foldl (fun n f => n + f.leaves) 0

/-- TRIE_STAGE_FREE[j], TRIE_LEAF_FREE and TRIE_TBL[t] (R291), as functions of the prefixes, builds and freed nodes. -/
def State.stageFree (s : State) (j : Nat) : Nat := 1048576 - s.usedSlots.getD j 0
def State.leafFree (s : State) : Nat := 1048576 - s.usedLeaves
def State.trieTbl (s : State) (t : Nat) : Word :=
  let busy := match SMap.get (fun _ => none) s.trie.builds t with | some _ => 1 | none => 0
  putFld (putFld 0 0 24 ((s.tblSlots t).foldl (· + ·) 0)) 63 1 busy

/-! ### Lookups (R264, R271 to R274) -/

/-- The prefix at position `h` of the ascending (LENGTH, PREFIX) order (R275). -/
def prefixAt (ps : List (BitVec 128 × Nat × Word)) (h : Nat) : Option (BitVec 128 × Nat × Word) :=
  ps.find? (fun p => (ps.filter (fun q => decide (q.2.1 < p.2.1) || (q.2.1 == p.2.1 && decide (q.1.toNat < p.1.toNat)))).length == h)

/-- A prefix entry as a read returns it: PREFIX in the low cells, LENGTH above, and the result word. -/
def prefixImage (p : BitVec 128 × Nat × Word) : Row :=
  { cells := (p.1.setWidth 640) ||| ((BitVec.ofNat 640 p.2.1) <<< 128), res := p.2.2 }

/-- What a lookup or read finds at its evaluate tick. -/
def State.trieFinds (s : State) (op : TOp) : Outc :=
  let r := s.tb op.table
  let base : Outc := { status := St.noMatch, tick := s.tick, gen := r.gen, table := op.table }
  match op.act with
  | .lookup key tenant _ leave =>
    if leave || (tenant && !Prof.tenantSearch r.profile) then refusal op.table St.privilege
    else
      let kb := kbOf r.profile
      match trieMatch kb (planOf r.profile) r.prefixes (key.toNat % 2 ^ kb) with
      | some p => { base with status := St.success, count := 1, prio := p.2.1, res := p.2.2, hit := true, image := some (prefixImage p) }
      | none => base
  | .read pfx len =>
    let found := if len ≤ 128 then r.prefixes.find? (fun p => p.1 == pfx && p.2.1 == len) else prefixAt r.prefixes (len - 129)
    (match found with
     | some p => { base with status := St.success, count := 1, prio := p.2.1, res := p.2.2, image := some (prefixImage p) }
     | none => if 129 ≤ len && decide (r.count ≤ len - 129) then refusal op.table St.indexRange else base)
  | _ => base

/-- The lookup is the ranger group's (R264). -/
def TOp.ranger (o : TOp) : Bool := match o.origin with | .rule _ _ _ => true | _ => false

/-- The arrangement of nodes in memory is the device's own (R270), so whether a lookup reads a slot with an injected parity
error is a free value. The failure is reported and the node rebuilt (R274). -/
def State.trieParity (s : State) (t : Nat) (o : Outc) : Outc × State :=
  match s.trie.badSlots with
  | [] => (o, s)
  | b :: rest =>
    let (w, s) := s.free
    if w.getLsbD 0 && o.evaluated && !(s.tb t).prefixes.isEmpty then
      let s := s.raise .trieParity t ((b / 2 ^ 61 + 1) * 2 ^ 60 + b % 2 ^ 20)
      ({ refusal t St.poisoned with tick := o.tick, gen := o.gen, count := 1, hit := true }, { s with trie := { s.trie with badSlots := rest } })
    else (o, s)

/-- The next lookup to take in: the context engine takes the first remaining slot in even ticks, the ranger group in odd
ticks, and they alternate (R264). -/
def State.nextTrie (s : State) : Option TOp :=
  let k := s.trieSlots
  if 8 ≤ k then none else
  let ready := s.trie.waiting.filter (fun o => decide (o.enq ≤ s.tick) && (s.tb o.table).state != 4)
  match ready.find? (fun o => o.origin == .place) with
  | some o => some o
  | none =>
    let turn := (s.tick + k) % 2 == 1
    match ready.find? (fun o => o.ranger == turn) with
    | some o => some o
    | none => ready.head?

/-! ### Mutations (R275 to R281) -/

/-- A mutation of the trie ends without a swap. -/
def State.trieEnds (s : State) (op : TOp) (st : Nat) : State :=
  match op.act, op.origin with
  | .load, _ => s.failLoad op.table st
  | _, .mirror t q => s.mirApplied t q
  | _, og => s.resolve og { refusal op.table st with tick := s.tick }

/-- The prefix set after a mutation, or the status with which it ends (R275, R280, R281). -/
def State.triePlan (s : State) (op : TOp) : Sum Nat (List (BitVec 128 × Nat × Word)) :=
  let r := s.tb op.table
  let ps := r.prefixes
  let at_ (p : BitVec 128) (l : Nat) (q : BitVec 128 × Nat × Word) : Bool := q.1 == p && q.2.1 == l
  match op.act with
  | .insert p l res upd =>
    if upd then
      if ps.any (at_ p l) then .inr (ps.map (fun q => if at_ p l q then (p, l, res) else q)) else .inl St.noMatch
    else if ps.any (at_ p l) then .inl St.malformed
    else if r.count ≤ ps.length || s.leafFree = 0 then .inl St.noRoom
    else .inr (ps ++ [(p, l, res)])
  | .delete p l => if ps.any (at_ p l) then .inr (ps.filter (fun q => !at_ p l q)) else .inl St.noMatch
  | .load =>
    (match r.bulk with
     | some b =>
       if b.prefixes.any (fun e => ps.any (at_ e.1 e.2.1)) then .inl St.malformed
       else if r.count < ps.length + b.prefixes.length || s.leafFree < b.prefixes.length then .inl St.noRoom
       else .inr (ps ++ b.prefixes)
     | none => .inl St.aborted)
  | _ => .inl St.malformed

/-- The slots that a mutation builds by stage (R277): new nodes; a shadow copy of the node in which its prefix ends when
that node stays; the whole trie of a load. -/
def buildSlots (kb plan : Nat) (op : TOp) (before after : List (BitVec 128 × Nat × Word)) : List Nat :=
  match op.act with
  | .load => slotsOf kb plan after
  | .insert _ _ _ true => List.replicate 8 0
  | .insert _ l _ false | .delete _ l =>
    let fresh (i : Nat) : Nat := ((nodesOf kb plan (i + 1) after).filter (fun v => !(nodesOf kb plan (i + 1) before).contains v)).length
    let lost := (List.range 8).any (fun i => (nodesOf kb plan (i + 1) after).length < (nodesOf kb plan (i + 1) before).length)
    let anyNew := (List.range 8).any (fun i => decide (0 < fresh i))
    (List.range 8).map (fun i =>
      let shadow := if !anyNew && !lost && endStage plan l = i + 1 then 1 else 0
      (fresh i + shadow) * nodeSize kb plan (i + 1))
  | _ => List.replicate 8 0

/-- The PREPARE of a prefix change (15 R529): `absent` marks a removal, `len` 255 a load, whose prefixes follow. -/
def TOp.prepare (op : TOp) (c : Nat) : MirMsg :=
  let m := mirMsg op.table .prepare 0 c
  match op.act with
  | .insert p l res upd => { m with pfx := p, len := BitVec.ofNat 8 l, res := res, victim := if upd then 1 else 0 }
  | .delete p l => { m with pfx := p, len := BitVec.ofNat 8 l, absent := true }
  | _ => { m with len := 255 }

/-- TRIE_MUTATION_TAKE (R277): the updater takes up the next mutation of a table and builds its shadow nodes. The arrangement of
nodes in memory is the device's own (R270); this model's is one in which free slots always form a run long enough, so no node
move of R281 delays a mutation (DESIGN CHOICE, log 39). -/
def State.trieTake (s : State) (t : Nat) : State :=
  match SMap.get (fun _ => none) s.trie.builds t, s.trie.muts.find? (fun o => o.table == t) with
  | none, some op =>
    let s := { s with trie := { s.trie with muts := s.trie.muts.erase op } }
    let r := s.tb t
    match s.triePlan op with
    | .inl st => s.trieEnds op st
    | .inr after =>
      let p := r.gov
      let need := buildSlots (kbOf p) (planOf p) op r.prefixes after
      if (List.range 8).any (fun j => decide (s.stageFree j < need.getD j 0)) then s.trieEnds op St.noRoom
      else
        let old := s.tblSlots t
        let new := slotsOf (kbOf p) (planOf p) after
        let most := need.foldl max 0
        let b : TBuild :=
          { op := op, swap := s.tick + max 1 ((most + 15) / 16), prefixes := after, need := need,
            leaves := after.length - r.prefixes.length, freed := subStages (addStages old need) new,
            freedLeaves := r.prefixes.length - after.length }
        let m : State × Option Nat := if s.mirrors t then
            let s := match op.act, (s.tb t).bulk with | .load, some k => s.frameRecords t k.prefixes [] | _, _ => s
            let q := s.mirFrame (op.prepare s.tick)
            (q.1, some q.2)
          else (s, none)
        let b := { b with ready := m.2.isNone, prep := m.2 }
        let s := m.1
        { s with trie := { s.trie with builds := SMap.set (fun _ => none) s.trie.builds t (some b) } }
  | _, _ => s

/-- TRIE_MUTATION_TAKE. -/
def execTrieMutationTake (table : TableId) (s : State) : Res := whileUp s (·.trieTake table.val)

/-- The placement cache drops the descriptors that a changed prefix of table 254 covers (R284). -/
def State.dropCached (s : State) (pfx : BitVec 128) (len : Nat) : State :=
  { s with tier := { s.tier with cache := s.tier.cache.filter (fun e => !pfxCovers 32 pfx.toNat len e.1) } }

/-- The identity and message of a prefix change (15 R526, R546). -/
def State.prefixChange (s : State) (t : Nat) (k : MirKind) (p : BitVec 128) (l : Nat) (res : Word) : State × Option Nat :=
  let m : State × Option Nat := if s.mirrors t then
      let r := s.mirFrame { mirMsg t k 0 s.tick with pfx := p, len := BitVec.ofNat 8 l, res := res }
      (r.1, some r.2)
    else (s, none)
  (m.1.journal ⟨t, 1, 0, l, p⟩ (m.2.getD 0), m.2)

/-- TRIE_SWAP (R278, R279): the swap commits; what it disconnects is freed 12 ticks later. -/
def State.trieSwap (s : State) (t : Nat) : State :=
  match SMap.get (fun _ => none) s.trie.builds t with
  | none => s
  | some b =>
    if s.tick < b.swap || !b.ready then s else
    let s := { s with trie := { s.trie with builds := SMap.set (fun _ => none) s.trie.builds t none,
                                            freeing := s.trie.freeing ++ ([⟨t, s.tick + 12, b.freed, b.freedLeaves⟩] : List TFree) } }
    let s := s.updTb t (fun r => { r with prefixes := b.prefixes })
    let done (s : State) (m : Option Nat) : State :=
      match b.op.origin with
      | .mirror t q => s.mirApplied t q
      | og => s.endMut t m og { status := St.success, tick := s.tick, table := t }
    match b.op.act with
      | .insert p l res _ =>
        let s := if t = 254 then s.dropCached p l else s
        let r := s.prefixChange t .prefixPut p l res
        done r.1 r.2
      | .delete p l =>
        let s := if t = 254 then s.dropCached p l else s
        let r := s.prefixChange t .prefixDel p l 0
        done r.1 r.2
      | _ =>
        match (s.tb t).bulk with
        | some k =>
          let s := if t = 254 then k.prefixes.foldl (fun s (e : BitVec 128 × Nat × Word) => s.dropCached e.1 e.2.1) s else s
          let m := s.frameLoad t k
          let s := k.prefixes.foldl (fun s (e : BitVec 128 × Nat × Word) => s.journal ⟨t, 1, 0, e.2.1, e.1⟩ (m.2.getD 0)) m.1
          s.loadDone t k m.2
        | none => s

/-- TRIE_SWAP. -/
def execTrieSwap (table : TableId) (s : State) : Res := whileUp s (·.trieSwap table.val)

/-- The swaps that are due. -/
def State.swapsDue (s : State) : State :=
  (s.trie.builds.map (fun e => e.1)).foldl State.trieSwap s

/-- TRIE_ADMIT (R264, R272): a lookup takes a slot of this tick, which is its evaluate tick. -/
def State.trieAdmit (s : State) : State :=
  let s := s.swapsDue
  match s.nextTrie with
  | none => s
  | some op =>
    let (o, s) := s.trieParity op.table (s.trieFinds op)
    { s with trie := { s.trie with waiting := s.trie.waiting.erase op, flights := s.trie.flights ++ ([⟨op, s.tick, o⟩] : List TFlight) } }

/-- TRIE_ADMIT. -/
def execTrieAdmit (s : State) : Res := whileServing s State.trieAdmit

/-- TRIE_LOOKUP_DELIVER (R272): the oldest lookup that is at t11 delivers its record. -/
def State.trieDeliver (s : State) : State :=
  match s.trie.flights.find? (fun f => decide (f.t0 + 11 ≤ s.tick)) with
  | none => s
  | some f => ({ s with trie := { s.trie with flights := s.trie.flights.erase f } }).resolve f.op.origin f.outc

/-- TRIE_LOOKUP_DELIVER. -/
def execTrieLookupDeliver (s : State) : Res := whileUp s State.trieDeliver

/-- TRIE_NODE_FREE (R279). -/
def State.nodeFree (s : State) (t : Nat) : State :=
  { s with trie := { s.trie with freeing := s.trie.freeing.filter (fun f => f.table != t || decide (s.tick < f.at_)) } }

/-- TRIE_NODE_FREE. -/
def execTrieNodeFree (table : TableId) (s : State) : Res := whileUp s (·.nodeFree table.val)

/-! ### Direct SRAM (R265, R286, R287) -/

/-- The index of an access (04 R115). -/
def State.dIndex (s : State) (op : DOp) : Nat :=
  let p := (s.tb op.table).profile
  match op.act with
  | .lookup key _ _ _ => key.toNat / 2 ^ Prof.idxLsb p % 2 ^ Prof.idxBits p
  | .readIdx i => i
  | .write i _ => i

/-- The absolute address of an access. -/
def State.dAddr (s : State) (op : DOp) : Nat := 1024 * (s.tb op.table).regionBase + s.dIndex op

/-- The access writes. -/
def DOp.isWrite (op : DOp) : Bool := match op.act with | .write _ _ => true | _ => false

/-- The next access of a bank: writes first, then lookups and reads in arrival order, at most 4 in a tick (R265), of tables
that are not being destroyed (04 R138). -/
def State.nextDirect (s : State) (bank : Nat) : Option DOp :=
  if 4 ≤ s.bankUse bank then none else
  let mine := s.dsram.waiting.filter (fun o => decide (o.enq ≤ s.tick) && s.dAddr o % 32 == bank && (s.tb o.table).state != 4)
  (mine.find? DOp.isWrite).or mine.head?

/-- A write of a DIRECT entry at its SRAM write tick (R287). -/
def State.directWrite (s : State) (op : DOp) (i : Nat) (v : Word) : State :=
  let t := op.table
  let ends (s : State) (m : Option Nat) (o : Outc) : State :=
    match op.origin with
    | .mirror t q => s.mirApplied t q
    | og => s.endMut t m og o
  if (s.tb t).count ≤ i then ends s none { refusal t St.indexRange with tick := s.tick }
  else
    let s := s.setDword (s.dAddr op) v
    let m : State × Option Nat := if s.mirrors t then
        let r := s.mirFrame { mirMsg t .direct i s.tick with res := v }
        (r.1, some r.2)
      else (s, none)
    let s := m.1.journal ⟨t, 2, i, 0, 0⟩ (m.2.getD 0)
    ends s m.2 { status := St.success, tick := s.tick, table := t, handle := i }

/-- What a lookup or read of an entry finds at this tick (R286, R287). -/
def State.directFinds (s : State) (op : DOp) : Outc × State :=
  let t := op.table
  let r := s.tb t
  let i := s.dIndex op
  let a := s.dAddr op
  let refused := match op.act with | .lookup _ x _ leave => leave || (x && !Prof.tenantSearch r.profile) | _ => false
  if refused then (refusal t St.privilege, s)
  else if r.count ≤ i then (refusal t St.indexRange, s)
  else if flag s.dsram.bad a then
    ({ refusal t St.poisoned with tick := s.tick, gen := r.gen, count := 1, handle := i, hit := true }, s.raise .directParity t a)
  else
    let v := s.dword a
    ({ status := St.success, tick := s.tick, gen := r.gen, table := t, count := 1, handle := i, res := v, hit := true,
       image := some { res := v } }, s)

/-- DIRECT_ACCESS (R265): the bank serves its next access. -/
def State.directAccess (s : State) (bank : Nat) : State :=
  match s.nextDirect bank with
  | none => s
  | some op =>
    let s := ({ s with dsram := { s.dsram with waiting := s.dsram.waiting.erase op } }).useBank bank
    match op.act with
    | .write i v => s.directWrite op i v
    | _ =>
      let (o, s) := s.directFinds op
      { s with dsram := { s.dsram with flights := s.dsram.flights ++ [(op, s.tick, o)] } }

/-- DIRECT_ACCESS. -/
def execDirectAccess (bank : Fin 32) (s : State) : Res := whileServing s (·.directAccess bank.val)

/-- DIRECT_LOOKUP_DELIVER (R286): 3 ticks after its read a lookup delivers its record. -/
def State.directDeliver (s : State) : State :=
  match s.dsram.flights.find? (fun f => decide (f.2.1 + 3 ≤ s.tick)) with
  | none => s
  | some f => ({ s with dsram := { s.dsram with flights := s.dsram.flights.erase f } }).resolve f.1.origin f.2.2

/-- DIRECT_LOOKUP_DELIVER. -/
def execDirectLookupDeliver (s : State) : Res := whileUp s State.directDeliver

end Sys2Proof.Machine
end

