-- ==== Sys2Proof/Machine/Place.lean ====
section
/-! DEFINITION. CXL.mem requests at the placement stage: acceptance, holds, mirrored regions, redirected ranks (12 R418,
R429 to R434; 08 R283; 15 R534 to R541; 14 R508). -/

namespace Sys2Proof.Machine

/-- A CXL.mem access: LD, tag, whether it writes, data and byte mask. -/
structure MReq where
  ld : Nat
  tag : Nat
  write : Bool
  data : Line
  mask : BitVec 64
  deriving DecidableEq, Repr

/-- The access that a request makes at the placement stage. -/
def memReq : Instr → Option MReq
  | .memrd ld _ _ tag | .memrddata ld _ _ tag => some ⟨ld.val, tag.toNat, false, 0, 0⟩
  | .memwr ld _ _ data tag => some ⟨ld.val, tag.toNat, true, data, BitVec.allOnes 64⟩
  | .memwrptl ld _ _ data mask tag => some ⟨ld.val, tag.toNat, true, data, mask⟩
  | _ => none

/-- The LD of a waiting request; a message of the partner has none. -/
def opLd (op : Instr) : Option Nat := (memReq op).map (fun q => q.ld)

/-- Whether port `p` is in L0. -/
def State.portUp (s : State) (p : Nat) : Bool := s.f ⟨0x300000 + 0x8000 * p, 0, 3⟩ != 0

/-- The channel that serves a line (R486). -/
def State.chanOf (s : State) (dpa : Nat) : Nat :=
  (s.dramPlace (s.rawBase + (s.pageNow (dpa / 4096)).media dpa)).chan
/-- MemData with DevLoad. A device that is fatal completes no CXL.mem request (16 R584). -/
def State.answerData (s : State) (ld tag : Nat) (data : Line) (poison : Bool) (ch : Option Nat) : State :=
  if s.pins.fatal then s else s.send (.memData ld tag data poison (s.devLoad ld ch))
/-- Cmp (0), Cmp-S (1) or Cmp-E (2) with DevLoad. -/
def State.answerCmp (s : State) (ld tag st : Nat) (ch : Option Nat) : State :=
  if s.pins.fatal then s else s.send (.cmp ld tag st (s.devLoad ld ch))

/-- A line of free values (log 2): the data of a MemData whose poison says that there is none. -/
def State.freeLine (s : State) : Line × State :=
  (List.range 8).foldl (fun (p : Line × State) i =>
    let r := p.2.free
    (p.1 ||| (r.1.setWidth 512 <<< (64 * i)), r.2)) (0, s)

/-- A read returns poison without data, and a write completes with Cmp and changes nothing (10 R343, R346; 08 R283). -/
def State.answerDead (s : State) (q : MReq) : State :=
  if q.write then s.answerCmp q.ld q.tag 0 none
  else
    let r := s.freeLine
    r.2.answerData q.ld q.tag r.1 true none

/-! ### The pair (15 R534 to R541; 14 R508) -/

/-- Carry a request to the partner, or answer it as poison or dropped while the pair is partitioned (14 R508). -/
def State.redirect (s : State) (dpa : Nat) (op : Instr) (q : MReq) : State :=
  if s.pst != .paired then s.answerDead q
  else
    let s := if q.write then s.putLine dpa q.data q.mask else s
    let s := { s with pair := { s.pair with rdr := s.pair.rdr ++ [(dpa, op)] } }
    s.linkSend (.rdrReq q.write (dpa / 64 * 64) (if q.write then s.line (dpa / 64 * 64) else 0))

/-! ### Acceptance -/

/-- Hold a request (R418, R432). -/
def State.holdReq (s : State) (dpa : Nat) (op : Instr) : State :=
  { s with tier := { s.tier with hold := s.tier.hold ++ [(dpa, op)] } }
/-- A write that waits until a frame is zeroed (17 R596). -/
def State.zeroHold (s : State) (dpa : Nat) (op : Instr) : State :=
  { s with tier := { s.tier with zeroWait := s.tier.zeroWait ++ [(dpa, op)] } }

/-- The line has an earlier write of the same source that awaits its Cmp (15 R535). -/
def State.srcWaits (s : State) (dpa : Nat) (op : Instr) : Bool :=
  s.pair.memWait.any (fun w => w.dpa / 64 == dpa / 64 && w.source.isSome && w.source.map (fun x => x.1) == opLd op)

/-- An earlier read of the same source and line waits for its data (01 R29). -/
def State.readWaits (s : State) (dpa : Nat) (op : Instr) : Bool :=
  s.dram.queue.any (fun x => !x.write && x.cls == 2 && x.dpa / 64 == dpa / 64 && some x.ld == opLd op)

/-- A request is held: its page is, or an earlier write or read of its source is not complete, or an earlier request of its
line or page is itself held. -/
def State.heldNow (s : State) (dpa : Nat) (op : Instr) : Bool :=
  s.pageHeld (dpa / 4096) || s.srcWaits dpa op || s.readWaits dpa op ||
  s.tier.hold.any (fun e => e.1 / 64 == dpa / 64 || (e.1 / 4096 == dpa / 4096 && !s.srcWaits e.1 e.2 && !s.readWaits e.1 e.2)) ||
  s.tier.zeroWait.any (fun e => e.1 / 64 == dpa / 64)

/-- A write that the placement stage carries out now (R430 to R434), with the Cmp that R535 and R541 give it. -/
def State.placeWrite (s : State) (dpa : Nat) (op : Instr) (q : MReq) : State :=
  let region := s.mirRegion dpa
  let sync := region.isSome && s.mirrorsMem
  if sync && !s.isWriter (region.getD 0) then s.forwardWrite dpa q.data q.mask (some (q.ld, q.tag))
  else
    let r := s.writePage dpa q.data q.mask 2 q.ld
    match r.2 with
    | .held => r.1.holdReq dpa op
    | .noZero => r.1.zeroHold dpa op
    | .served =>
      if sync then r.1.mirrorCopy dpa q.data q.mask (some (q.ld, q.tag))
      else
        let s := if region.isSome && s.pst == .keeper then r.1.markDirty (dpa / 4096) else r.1
        s.answerCmp q.ld q.tag 0 (some (s.chanOf dpa))

/-- A read that the placement stage serves now (R429). -/
def State.placeRead (s : State) (dpa : Nat) (q : MReq) : State :=
  let s := s.decodeCheck dpa
  let data := (s.readOut dpa).getD (s.line (dpa / 64 * 64))
  if s.readNeedsDram dpa && s.writeQueued dpa then
    s.answerData q.ld q.tag data (s.poisoned dpa) (some (s.chanOf dpa))
  else if s.readNeedsDram dpa then s.dramPush (s.dramFor (s.pageNow (dpa / 4096)) dpa false 2 q.ld q.tag)
  else s.answerData q.ld q.tag data (s.poisoned dpa) none

/-- The placement stage takes a request whose descriptor is at hand: `again` for one that it accepted before. -/
def State.placeNow (s : State) (dpa : Nat) (op : Instr) (q : MReq) (again : Bool) : State :=
  let region := s.mirRegion dpa
  if region.isSome && s.benchedNow then
    if q.write then ((s.raise .benchedWrite (argPL q.ld) dpa).answerCmp q.ld q.tag 0 none) else s.answerDead q
  else if region.isSome && s.pst == .tossing then { s with pair := { s.pair with held := s.pair.held ++ [(dpa, op)] } }
  else if s.redirected dpa then s.redirect dpa op q
  else
    let s := if again then s else s.touch (dpa / 4096)
    if !again && s.heldNow dpa op then s.holdReq dpa op
    else if q.write then s.placeWrite dpa op q
    else s.placeRead dpa q

/-- Acceptance of a decoded request by the placement stage (01 R14, 12 R418, R419, R421; 08 R283): it probes the cache, and on a
miss looks the region up in table 254, in one of the trie's slots of the tick (08 R264); a request that finds none waits. -/
def State.place (s : State) (dpa : Nat) (op : Instr) (again : Bool) : State :=
  match memReq op with
  | none => s
  | some q =>
    let pg := dpa / 4096
    if s.cached pg then (s.cacheUse pg).placeNow dpa op q again
    else if 8 ≤ s.trieSlots then ((if again then s else s.touch pg)).holdReq dpa op
    else
      let s := s.takeSlot
      match s.region pg with
      | some (1, _) => ((s.inc fMisses).cacheInstall pg).placeNow dpa op q again
      | some (2, n) =>
        let s := if s.tier.miss.any (fun e => e.1 / 4096 == pg) then s.inc fMisses else s.refillReq n false
        { s with tier := { s.tier with miss := s.tier.miss ++ [(dpa, op)] } }
      | _ => (s.raise .placementMiss 0 dpa).answerDead q

/-! ### Messages of the partner about memory (15 R535) -/

/-- A Cmp that the host of a waiting write receives. -/
def State.cmpWait (s : State) (w : MemWait) : State :=
  match w.source with
  | some (ld, tag) => s.answerCmp ld tag 0 (some (s.chanOf w.dpa))
  | none => s

/-- MEM_WR decoded: a FORWARD is applied as a write accepted at the writer; a MIRROR copy is applied in class SHP and
acknowledged, and completes the forwarded write that it carries (R535). -/
def State.memWrIn (s : State) (op : Instr) : State :=
  match op with
  | .memWrMsg mirror dpa mask seq data =>
    let d := dpa.toNat
    if s.pageHeld (d / 4096) || s.tier.hold.any (fun e => e.1 / 4096 == d / 4096) then s.holdReq d op
    else
      let r := s.writePage d data mask (if mirror then 0 else 2) 0
      match r.2 with
      | .held => r.1.holdReq d op
      | .noZero => r.1.zeroHold d op
      | .served =>
        let s := r.1
        if mirror then
          let s := s.linkSend (.memAck seq)
          match s.pair.memWait.find? (fun w => w.fwd && w.dpa == d && w.mask == mask && w.data == data) with
          | some w => ({ s with pair := { s.pair with memWait := s.pair.memWait.erase w } }).cmpWait w
          | none => s
        else s.mirrorCopy d data mask none
  | _ => s

/-- Take up a request that waited. -/
def State.resume (s : State) (dpa : Nat) (op : Instr) : State :=
  match op with
  | .memWrMsg .. => s.memWrIn op
  | _ => s.place dpa op true

/-- The requests whose hold has ended are accepted again, in arrival order (R418, R432). -/
def State.releaseHolds (s : State) : State :=
  s.tier.hold.foldl (fun (s : State) e => if s.heldNow e.1 e.2 then s.holdReq e.1 e.2 else s.resume e.1 e.2)
    { s with tier := { s.tier with hold := [] } }

/-- The requests that wait for a zeroed frame try again, in arrival order (17 R596). -/
def State.retryZero (s : State) : State :=
  s.tier.zeroWait.foldl (fun (s : State) e =>
      if s.tier.zeroWait.any (fun x => x.1 / 64 == e.1 / 64) then s.zeroHold e.1 e.2 else s.resume e.1 e.2)
    { s with tier := { s.tier with zeroWait := [] } }

/-- The eight pages of a page-map line carry, or lose, the mark of a failed refill (R421). -/
def State.markMap (s : State) (pg : Nat) (bad : Bool) : State :=
  let m := (List.range 8).foldl (fun (m : SMap Bool) i => setFlag m (pg / 8 * 8 + i) bad) s.tier.badMap
  { s with tier := { s.tier with badMap := m } }

/-- The refill's read of a map line returns; its request, if the DRAM still holds it, is done (13 R465). -/
def State.mapRead (s : State) (n : Nat) (ecc : Ecc) : State :=
  match s.dram.queue.find? (fun r => !r.write && !r.eng && r.dpa == 2 ^ 44 + mapLine n) with
  | none => s
  | some r =>
    let s := ({ s with dram := { s.dram with queue := s.dram.queue.erase r } }).enterAll
    match ecc with
    | .corrected => s.eccCorrected r.chan r.rank none r.arrive
    | .uncorrectable => s.eccUncorrectable r.chan r.rank none
    | .clean | .mark => s

/-- PLACEMENT_REFILL: the descriptor of a missing page is installed, and its requests are accepted (01 R14, R419). A map
line that fails makes every access to its eight pages fail until a later refill finds it rebuilt (R421). -/
def State.refill (s : State) (pg n : Nat) (ecc : Ecc) : State :=
  let mine := s.tier.miss.filter (fun e => e.1 / 4096 == pg)
  if mine.isEmpty || s.dram.queue.any (fun r => !r.write && !r.eng && r.dpa == 2 ^ 44 + mapLine n && decide (r.stage < 2)) then s else
  let bad := ecc == .uncorrectable || ecc == .mark
  let s := s.mapRead n ecc
  let s := { s with tier := { s.tier with miss := s.tier.miss.filter (fun e => e.1 / 4096 != pg) } }
  if bad then
    let s := (s.markMap pg true).raise .pageMapPoison 0 (pg / 8 * 8 * 4096)
    let s := { s with tier := { s.tier with cache := s.tier.cache.filter (fun e => e.1 / 8 != pg / 8) } }
    mine.foldl (fun s e => match memReq e.2 with | some q => s.answerDead q | none => s) s
  else
    let s := (s.markMap pg false).cacheInstall pg
    mine.foldl (fun s e => s.place e.1 e.2 false) s

/-- PLACEMENT_REFILL. -/
def execPlacementRefill (page : BitVec 32) (ecc : Ecc) (s : State) : Res :=
  whileUp s (fun s =>
    match s.region page.toNat with
    | some (2, n) => s.refill page.toNat n ecc
    | _ => s)

/-- DIR_DATA_RETURN (07 R259): a request whose change has committed in an earlier tick, and whose snoops are complete,
returns its data or applies its write. The Cmp follows its class (10 R349). -/
def State.dirData (s : State) (line : Nat) : State :=
  match s.dir.reqs.find? (fun r => r.line / 64 == line / 64 && r.snoops.isEmpty && r.write.isNone &&
      (match r.what with | .mem _ _ => true | _ => false) &&
      (r.phase == 5 || r.phase == 6) && (match r.commit with | some c => decide (c < s.tick) || r.change == .none | none => false)) with
  | none => s
  | some r =>
    let rest := if r.phase = 6 then s.dir.reqs.filter (fun q => q.id != r.id)
      else s.dir.reqs.map (fun q => if q.id == r.id then { q with what := .mem 0 (.memspecrd 0 0) } else q)
    let s := { s with dir := { s.dir with reqs := rest } }
    match r.what with
    | .mem cls op =>
      let st := if cls = 1 then 1 else if cls = 2 then 2 else 0
      match op with
      | .meminv ld _ _ tag | .meminvnt ld _ _ tag => s.answerCmp ld.val tag.toNat st none
      | _ =>
        let s := s.place r.line op false
        match memReq op with
        | some q => if q.write || st = 0 then s else s.answerCmp q.ld q.tag st none
        | none => s
    | _ => s

/-- DIR_DATA_RETURN. -/
def execDirDataReturn (line : Dpa) (s : State) : Res := whileUp s (·.dirData line.toNat)

end Sys2Proof.Machine
end

