-- ==== Sys2Proof/Machine/Cxl.lean ====
section
/-! DEFINITION. The host ports: links, IDE, HDM decoders, CXL.mem requests, loss and reset of a port (10 R336 to R351,
R360 to R362, R369, R370; 19 R642, R644). -/

namespace Sys2Proof.Machine

/-! ### Port registers (R371) -/

abbrev offPort (p : Nat) : Nat := 0x300000 + 0x8000 * p
abbrev fRate (p : Nat) : F := ⟨offPort p, 0, 3⟩
abbrev fWidth (p : Nat) : F := ⟨offPort p, 3, 5⟩
abbrev fFlit (p : Nat) : F := ⟨offPort p, 12, 1⟩
abbrev fIde (p : Nat) : F := ⟨offPort p, 16, 2⟩
abbrev fDownCount (p : Nat) : F := ⟨offPort p, 32, 8⟩
abbrev fUnmapped (p : Nat) : F := ⟨offPort p + 16, 32, 32⟩
abbrev fUnsupported (p : Nat) : F := ⟨offPort p + 16, 0, 32⟩

/-- Port `p`. -/
def State.port (s : State) (p : Nat) : Port := SMap.get (fun _ => {}) s.prt.ports p
/-- Change port `p`. -/
def State.updPort (s : State) (p : Nat) (f : Port → Port) : State :=
  { s with prt := { s.prt with ports := SMap.set (fun _ => {}) s.prt.ports p (f (s.port p)) } }

/-- 256 MiB: the unit of segments, extents and windows. -/
abbrev unit256 : Nat := 0x10000000

/-- The window range (11 R394): CTX_WIN_BASE gives DPA bits; the range is 8 GiB. -/
def State.winBase (s : State) : Nat := s.f ⟨0x0c1000, 33, 11⟩ * 2 ^ 33
def State.inWindow (s : State) (dpa : Nat) : Bool :=
  s.f ⟨0x0c1000, 0, 1⟩ == 1 && decide (s.winBase ≤ dpa) && decide (dpa < s.winBase + 32 * unit256)

/-! ### HDM decoders (R344 to R347) -/

/-- The interleave ways that the device supports (R344), and the least significant bits and factor of each. -/
def waysOf (w : Nat) : Option (Nat × Bool) :=
  match w with
  | 1 => some (0, false) | 2 => some (1, false) | 4 => some (2, false) | 8 => some (3, false)
  | 3 => some (0, true) | 6 => some (1, true) | 12 => some (2, true)
  | _ => none

/-- The decoder-relative offset D of HPA offset `h` (R345). -/
def decOffset (h g k : Nat) (three : Bool) : Nat :=
  let q := h / 2 ^ (g + k)
  (if three then q / 3 else q) * 2 ^ g + h % 2 ^ g

/-- The LD offset of an HPA through a decoder's setting. -/
def decLdOffset (d : DecoderSet) (hpa : Nat) : Option Nat :=
  match waysOf d.iw.val with
  | some (k, three) =>
    if d.base.toNat ≤ hpa && decide (hpa < d.base.toNat + d.size.toNat) then
      some (d.dpa.toNat + decOffset (hpa - d.base.toNat) d.ig.val k three)
    else none
  | none => none

/-- The number of LD offsets that a decoder reaches from its DPA base. -/
def decSpan (d : DecoderSet) : Nat := d.size.toNat / max 1 d.iw.val

/-- The setting is one that the device supports (R344). -/
def decSupported (d : DecoderSet) : Bool :=
  (waysOf d.iw.val).isSome && decide (8 ≤ d.ig.val) && decide (d.ig.val ≤ 14) && d.base.toNat % unit256 == 0 &&
  d.size.toNat % unit256 == 0 && decide (0 < d.size.toNat)

/-- Decoder `i` of an LD. -/
def Ld.decoder (l : Ld) (i : Nat) : Decoder := SMap.get (fun _ => {}) l.decoders i

/-- The decoder reaches an LD offset that maps into the window range (R347). -/
def State.decMeetsWindow (s : State) (l : Ld) (d : DecoderSet) : Bool :=
  l.segs.any (fun g => decide (g.off < d.dpa.toNat + decSpan d) && decide (d.dpa.toNat < g.off + g.len) && s.inWindow g.dpa)

/-- DECODER_COMMIT (R344, R347): a decoder locked on commit is not changed; a refused commit sets Commit Error. -/
def State.decoderCommit (s : State) (ld i : Nat) (d : DecoderSet) : State :=
  let l := s.ld ld
  let cur := l.decoder i
  let locked := cur.committed && (match cur.set with | some c => c.lock | none => false)
  if locked then s
  else
    let bad := !decSupported d || (d.bi && ((s.tb 255).state != 2 || s.decMeetsWindow l d))
    s.updLd ld (fun l => { l with decoders := SMap.set (fun _ => {}) l.decoders i { set := some d, committed := !bad, err := bad } })

/-- DECODER_COMMIT. -/
def execDecoderCommit (ld : LdId) (i : Fin 8) (d : DecoderSet) (s : State) : Res :=
  whileUp s (·.decoderCommit ld.val i.val d)

/-- The LD offset of an HPA, and whether its decoder has BI set, through the lowest committed decoder that holds it. -/
def Ld.decode (l : Ld) (hpa : Nat) : Option (Nat × Bool) :=
  (List.range 8).findSome? (fun i =>
    let d := l.decoder i
    match d.committed, d.set with
    | true, some x => (decLdOffset x hpa).map (fun o => (o, x.bi))
    | _, _ => none)

/-- The DPA of an LD offset (R339, R345). -/
def Ld.dpaOf (l : Ld) (off : Nat) : Option Nat :=
  (l.segs.find? (fun g => decide (g.off ≤ off) && decide (off < g.off + g.len))).map (fun g => g.dpa + (off - g.off))

/-! ### CXL.mem requests (R343 to R351) -/

/-- The directory class of a read (07 R252). -/
def metaCls : Meta → Nat
  | .noUpdate => 0
  | .shared => 1
  | .any => 2

/-- The port accepts flits: not in reset, and no IDE failure (R361, 19 R642). -/
def State.portTakes (s : State) (p : Nat) : Bool := !(s.port p).perst && !(s.port p).failed && !s.pins.fatal

/-- The LD map is read for the access (08 R289), and the domain entry it names (01 R28), each as an access of its bank
(08 R265): a copy that fails parity raises DIRECT_PARITY (R286). -/
def State.readLdMap (s : State) (ld : Nat) : State :=
  let a := ldMapAddr ld (s.dsram.ldSeq % 32)
  let s := { s with dsram := { s.dsram with ldSeq := s.dsram.ldSeq + 1 } }
  let s := (s.useBank (a % 32)).useBank (domAddr (s.ldDomain ld) % 32)
  if flag s.dsram.bad a then s.raise .directParity 0 a else s

/-- An access that reaches no segment (R343, R346). -/
def State.unmapped (s : State) (q : MReq) (off : Option Nat) : State :=
  let s := s.inc (fUnmapped (q.ld / 16))
  let s := match off with
    | some o => s.raise .unmappedAccess (argPL q.ld) o
    | none => s
  s.answerDead q

/-- A window request is handed to the context engine (R348, 11 R394, R395); a write to it completes with Cmp. -/
def State.windowReq (s : State) (dpa : Nat) (q : MReq) : State :=
  let o := dpa - s.winBase
  let slice := o / unit256
  let c := o % unit256 / 4096
  let i := o % 4096 / 64
  if q.write then
    let s := if slice = q.ld && c < 4096 then s.windowWrite q.ld c i (q.mask != BitVec.allOnes 64) q.data else s
    s.answerCmp q.ld q.tag 0 none
  else if slice = q.ld && c < 4096 then s.windowRead q.ld c i
  else s.answerData q.ld q.tag 0 false none

/-- A read or a write of class `cls`: decoding, the window range, the directory path or the placement stage. -/
def State.memCmd (s : State) (op : Instr) (q : MReq) (hpa cls : Nat) : State :=
  if !s.portTakes (q.ld / 16) then s else
  let s := s.readLdMap q.ld
  if !s.ldValid q.ld then s.unmapped q none else
  let l := s.ld q.ld
  match l.decode hpa with
  | none => s.unmapped q (some hpa)
  | some (off, bi) =>
    match l.dpaOf off with
    | none => s.unmapped q (some off)
    | some dpa =>
      if s.inWindow dpa then s.windowReq dpa q
      else if bi then
        if (s.mirRegion dpa).isSome then s.unmapped q (some off) else s.dirEnter q.ld dpa (.mem cls op) false
      else s.place dpa op false

/-- A request of no data: directory work for HDM-DB, and Cmp with no effect for HDM-H (R349). -/
def State.memInvCmd (s : State) (op : Instr) (ld tag hpa cls : Nat) : State :=
  if !s.portTakes (ld / 16) then s else
  let s := s.readLdMap ld
  let q : MReq := ⟨ld, tag, true, 0, 0⟩
  if !s.ldValid ld then s.unmapped q none else
  let l := s.ld ld
  match l.decode hpa with
  | none => s.unmapped q (some hpa)
  | some (off, bi) =>
    match l.dpaOf off with
    | none => s.unmapped q (some off)
    | some dpa =>
      if bi && (s.mirRegion dpa).isSome then s.unmapped q (some off)
      else if bi then s.dirEnter ld dpa (.mem cls op) false
      else s.answerCmp ld tag 0 none

/-- MEMRD. -/
def execMemrd (ld : LdId) (hpa : BitVec 64) (m : Meta) (tag : BitVec 16) (s : State) : Res :=
  whileUp s (·.memCmd (.memrd ld hpa m tag) ⟨ld.val, tag.toNat, false, 0, 0⟩ hpa.toNat (metaCls m))

/-- MEMRDDATA. -/
def execMemrddata (ld : LdId) (hpa : BitVec 64) (m : Meta) (tag : BitVec 16) (s : State) : Res :=
  whileUp s (·.memCmd (.memrddata ld hpa m tag) ⟨ld.val, tag.toNat, false, 0, 0⟩ hpa.toNat (metaCls m))

/-- MEMINV. -/
def execMeminv (ld : LdId) (hpa : BitVec 64) (m : Meta) (tag : BitVec 16) (s : State) : Res :=
  whileUp s (·.memInvCmd (.meminv ld hpa m tag) ld.val tag.toNat hpa.toNat (metaCls m))

/-- MEMINVNT. -/
def execMeminvnt (ld : LdId) (hpa : BitVec 64) (m : Meta) (tag : BitVec 16) (s : State) : Res :=
  whileUp s (·.memInvCmd (.meminvnt ld hpa m tag) ld.val tag.toNat hpa.toNat (metaCls m))

/-- MEMSPECRD (R349): the device drops the hint; it is never answered. -/
def execMemspecrd (_ : LdId) (_ : BitVec 64) (s : State) : Res := .next s

/-- MEMCLNEVCT (R349): Cmp, and no change to the directory. -/
def execMemclnevct (ld : LdId) (_ : BitVec 64) (tag : BitVec 16) (s : State) : Res :=
  whileUp s (fun s => s.when (s.portTakes (ld.val / 16)) (·.answerCmp ld.val tag.toNat 0 none))

/-- MEMWR. -/
def execMemwr (ld : LdId) (hpa : BitVec 64) (m : Meta) (data : Line) (tag : BitVec 16) (s : State) : Res :=
  whileUp s (·.memCmd (.memwr ld hpa m data tag) ⟨ld.val, tag.toNat, true, data, BitVec.allOnes 64⟩ hpa.toNat 3)

/-- MEMWRPTL. -/
def execMemwrptl (ld : LdId) (hpa : BitVec 64) (m : Meta) (data : Line) (mask : BitVec 64) (tag : BitVec 16) (s : State) : Res :=
  whileUp s (·.memCmd (.memwrptl ld hpa m data mask tag) ⟨ld.val, tag.toNat, true, data, mask⟩ hpa.toNat 3)

/-- An unsupported request (R351): poison for the read class, Cmp for the write class; counted and reported. -/
def State.unsupported (s : State) (ld tag op : Nat) (write : Bool) : State :=
  if !s.portTakes (ld / 16) then s else
  let s := (s.inc (fUnsupported (ld / 16))).raise .unsupportedRequest (argPL ld) op
  s.answerDead ⟨ld, tag, write, 0, 0⟩

/-- MEMRDFWD. The opcode numbers of these requests are the CXL specification's (log 15). -/
def execMemrdfwd (ld : LdId) (tag : BitVec 16) (s : State) : Res := whileUp s (·.unsupported ld.val tag.toNat 3 false)
/-- MEMWRFWD. -/
def execMemwrfwd (ld : LdId) (tag : BitVec 16) (s : State) : Res := whileUp s (·.unsupported ld.val tag.toNat 4 true)
/-- MEMRDTEE. -/
def execMemrdtee (ld : LdId) (tag : BitVec 16) (s : State) : Res := whileUp s (·.unsupported ld.val tag.toNat 5 false)
/-- MEMWRTEE. -/
def execMemwrtee (ld : LdId) (tag : BitVec 16) (s : State) : Res := whileUp s (·.unsupported ld.val tag.toNat 9 true)
/-- RESERVED_MEM_OPCODE. -/
def execReservedMemOpcode (ld : LdId) (op : BitVec 4) (readClass : Bool) (tag : BitVec 16) (s : State) : Res :=
  whileUp s (·.unsupported ld.val tag.toNat op.toNat (!readClass))

/-- BICONFLICT (R349). -/
def execBiconflict (ld : LdId) (_ : Dpa) (tag : BitVec 16) (s : State) : Res :=
  whileUp s (fun s => s.when (s.portTakes (ld.val / 16)) (·.send (.biConflictAck ld.val tag.toNat)))

/-- A BIRsp (07 R253): its write-back is applied to the line, and the snoop is complete. A response to no snoop in
flight has no effect. -/
def State.birsp (s : State) (ld line : Nat) (data : Option Line) : State :=
  if !s.portTakes (ld / 16) then s
  else if !s.dir.reqs.any (fun r => r.snoops.any (fun n => n.1 == ld && n.2.1 / 64 == line / 64)) then s
  else
    let s := match data with
      | some d => s.deviceLine 2 ld (line / 64 * 64) d (BitVec.allOnes 64)
      | none => s
    s.snoopDone ld line

/-- BIRSPI. -/
def execBirspi (ld : LdId) (line : Dpa) (data : Option Line) (s : State) : Res := whileUp s (·.birsp ld.val line.toNat data)
/-- BIRSPS. -/
def execBirsps (ld : LdId) (line : Dpa) (data : Option Line) (s : State) : Res := whileUp s (·.birsp ld.val line.toNat data)
/-- BIRSPE. -/
def execBirspe (ld : LdId) (line : Dpa) (data : Option Line) (s : State) : Res := whileUp s (·.birsp ld.val line.toNat data)

/-! ### Loss and reset of a port (R369, 17 R592, 19 R642) -/

/-- A waiting request is a read of port `p`. -/
def portRead (p : Nat) (op : Instr) : Bool :=
  match memReq op with
  | some q => !q.write && q.ld / 16 == p
  | none => false

/-- The reads of port `p` in flight are discarded. -/
def State.dropReads (s : State) (p : Nat) : State :=
  let keep (l : List (Nat × Instr)) : List (Nat × Instr) := l.filter (fun e => !portRead p e.2)
  let dirs := s.dir.reqs.map (fun r =>
    match r.what with
    | .mem cls op => if portRead p op then { r with what := .mem cls (.memspecrd 0 0) } else r
    | _ => r)
  { s with heldReads := s.heldReads.filter (fun h => h.ld / 16 != p),
           tier := { s.tier with miss := keep s.tier.miss, hold := keep s.tier.hold, zeroWait := keep s.tier.zeroWait },
           pair := { s.pair with held := keep s.pair.held, rdr := keep s.pair.rdr },
           dram := { s.dram with queue := s.dram.queue.filter (fun r => r.write || r.cls != 2 || r.ld / 16 != p) },
           dir := { s.dir with reqs := dirs } }

/-- The outstanding snoops to the LDs of port `p` complete at once. -/
def State.dropSnoops (s : State) (p : Nat) : State :=
  (s.dir.reqs.flatMap (fun r => r.snoops)).foldl (fun s n => if n.1 / 16 = p then s.snoopDone n.1 n.2.1 else s) s

/-- A directory entry records an LD of port `p` as EXCLUSIVE owner, or as the owner of a coarse entry. -/
def ownedBy (p : Nat) (r : Row) : Bool :=
  r.live && (dirCoarse r.res || dirState r.res == 2) && (sharersOf (dirSharers r.res)).any (fun n => n / 16 == p)

/-- The lines of a directory entry. -/
def entryLines (r : Row) : List Nat :=
  if dirCoarse r.res then (List.range 64).map (fun i => dirDpa r / 4096 * 4096 + 64 * i) else [dirDpa r]

/-- A port leaves L0 other than for power management (R369). -/
def State.portLoss (s : State) (p : Nat) : State :=
  if s.f (fRate p) = 0 then s else
  let s := ((s.setF (fRate p) 0).setF (fWidth p) 0).setF (fFlit p) 0
  let s := (s.inc (fDownCount p)).dropReads p
  let s := s.dropSnoops p
  let owned := (s.rowsOf 255).filter (fun e => ownedBy p e.2)
  let lines := owned.flatMap (fun e => entryLines e.2)
  let ofPort (x : Nat) : Nat := x / 2 ^ (16 * p) % 2 ^ 16 * 2 ^ (16 * p)
  let s := ((s.rowsOf 255).filter (fun e => e.2.live && !dirCoarse e.2.res && dirState e.2.res == 1)).foldl (fun (s : State) e =>
    let m := num s.dir.stale e.2.handle ||| ofPort (dirSharers e.2.res)
    { s with dir := { s.dir with stale := setNum s.dir.stale e.2.handle m } }) s
  let s := lines.foldl State.poisonLine s
  let s := owned.foldl (fun (s : State) e => s.dirEnter 0 (dirDpa e.2) (.settle e.2.handle) (dirCoarse e.2.res)) s
  s.raise .portDown (p * 2 ^ 8) lines.length

/-- A reset of port `p` (17 R592): R369 for CXL.mem, and R409 and 06 R222 for the contexts of its LDs. -/
def State.portReset (s : State) (p : Nat) : State :=
  let s := s.portLoss p
  let s := (List.range 16).foldl (fun (s : State) i => s.drainLd (16 * p + i) true) s
  match s.mbox.holder with   -- 18 R625: the claim of an LD of the port ends, once BUSY is clear
  | some h =>
    if h.val / 16 = p then
      if s.mbox.arrived.isSome then { s with mbox := { s.mbox with releasePending := true } }
      else { s with mbox := { s.mbox with holder := none } }
    else s
  | none => s

/-- PORT_LINK_LOSS: a loss of L0 is a port reset (17 R592). -/
def execPortLinkLoss (port : HPort) (s : State) : Res :=
  whileUp s (fun s => s.when (s.f (fRate port.val) != 0) (·.portReset port.val))

/-- PERST_ASSERT (19 R642): the port reset takes effect, and the port is held in reset. -/
def execPerstAssert (port : HPort) (s : State) : Res :=
  whileUp s (fun s => (s.portReset port.val).updPort port.val (fun p => { p with perst := true }))

/-- FUNCTION_LEVEL_RESET (R370; 11 R409; 06 R222; 18 R625). -/
def execFunctionLevelReset (ld : LdId) (s : State) : Res :=
  whileUp s (fun s =>
    let s := s.drainLd ld.val true
    if s.mbox.holder = some ld then
      if s.mbox.arrived.isSome then { s with mbox := { s.mbox with releasePending := true } }
      else { s with mbox := { s.mbox with holder := none } }
    else s)

/-- The lanes of a trained width. -/
def lanesOf (w : Nat) : Nat := if w = 0 then 16 else if w = 1 then 8 else 4

/-- LINK_TRAIN (R337, 19 R644): a partner without 256 B flits, or with SRIS, keeps the port out of L0. Training takes a
port that PERST# held out of reset: it can train only once the input reads high. -/
def State.linkTrain (s : State) (p rate width : Nat) (flit low sris : Bool) : State :=
  let s := s.updPort p (fun q => { q with perst := false, sris := sris })
  if s.f (fRate p) != 0 then s
  else if rate = 0 || sris then s
  else if !flit then s.raise .flitMismatch (p * 2 ^ 8) 0
  else
    let s := ((s.setF (fRate p) rate).setF (fWidth p) (lanesOf width)).setF (fFlit p) (if low then 1 else 0)
    if (s.port p).failed then (s.updPort p (fun q => { q with cxlKey := none, ioKey := none })).setF (fIde p) 0 else s

/-- LINK_TRAIN. -/
def execLinkTrain (port : HPort) (rate : Fin 5) (width : Fin 3) (flit256 lowLatency sris : Bool) (s : State) : Res :=
  whileUp s (·.linkTrain port.val rate.val width.val flit256 lowLatency sris)

/-- The usable bandwidth of a port in MB/s: the raw rate × 236/256 (R338). -/
def State.usableMBs (s : State) (p : Nat) : Nat :=
  let gt := if s.f (fRate p) = 0 then 0 else 8 * 2 ^ s.f (fRate p)
  1000 * gt * s.f (fWidth p) / 8 * 236 / 256

/-- IDE_FAILURE (R361, 16 R583): the port discards every flit until a link reset and a new key exchange. -/
def State.ideFailure (s : State) (p : Nat) (io : Bool) : State :=
  let active := if io then (s.port p).ioKey.isSome else (s.port p).cxlKey.isSome
  if !active then s else
  let s := (s.updPort p (fun q => { q with failed := true })).setF (fIde p) 3
  let s := s.raise .ideFailure (p * 2 ^ 8) (if io then 1 else 0)
  (List.range 16).foldl (fun (s : State) i => s.send (.aer (16 * p + i) false)) s

/-- IDE_FAILURE. -/
def execIdeFailure (port : HPort) (io : Bool) (s : State) : Res := whileUp s (·.ideFailure port.val io)

/-- IDE_KM (R360): keys come only in a secured session through the DOE of LD 0 of the port or from the owner over MCTP.
A port in the FAILED state takes keys only after the link has been reset. -/
def State.ideKm (s : State) (p : Nat) (io skid via : Bool) (sess : Session) (key : BitVec 256) : State :=
  if !via || sess == .none then s
  else if (s.port p).failed && s.f (fIde p) = 3 then s
  else if io then s.updPort p (fun q => { q with ioKey := some key, failed := false })
  else (s.updPort p (fun q => { q with cxlKey := some key, skid := skid, failed := false })).setF (fIde p) (if skid then 2 else 1)

/-- IDE_KM. -/
def execIdeKm (port : HPort) (io skid viaLd0orOwner : Bool) (sess : Session) (key : BitVec 256) (s : State) : Res :=
  whileUp s (·.ideKm port.val io skid viaLd0orOwner sess key)

end Sys2Proof.Machine
end

