-- ==== Sys2Proof/Machine/Fm.lean ====
section
/-! DEFINITION. The device mailbox of an LD, dynamic capacity, and the FM API with its bandwidth shares (10 R339 to R341,
R352 to R354, R359, R363 to R368; 13 R481 to R485; 18 R627). -/

namespace Sys2Proof.Machine

/-! ### Return codes of the CXL specification (log 15) -/

abbrev rcSuccess : Nat := 0x0000
abbrev rcInvalidInput : Nat := 0x0002
abbrev rcUnsupported : Nat := 0x0003
abbrev rcBusy : Nat := 0x0006
abbrev rcResources : Nat := 0x0013
abbrev rcPayloadLength : Nat := 0x0016

/-- Answer a device mailbox command of an LD. -/
def State.mboxAns (s : State) (ld code rc : Nat) (payload : List Byte := []) : State := s.send (.mbox ld code rc payload)
/-- Answer an FM API command. -/
def State.fmAns (s : State) (code rc : Nat) (payload : List Byte := []) : State := s.send (.fm code rc payload)

/-! ### Bandwidth shares (13 R481 to R485) -/

/-- Fields of DRG_QOS_LD[n] and DRG_QOS_CLASS. -/
abbrev fQMin (n : Nat) : F := ⟨0x2f0200 + 8 * n, 0, 8⟩
abbrev fQCap (n : Nat) : F := ⟨0x2f0200 + 8 * n, 16, 8⟩
abbrev fQEff (n : Nat) : F := ⟨0x2f0200 + 8 * n, 24, 8⟩
abbrev fScanMin : F := ⟨0x2f0100, 0, 8⟩
abbrev fMaintMin : F := ⟨0x2f0100, 8, 8⟩
abbrev fChState (c : Nat) : F := ⟨0x200000 + 0x10000 * c, 0, 2⟩
abbrev fDouble (c k : Nat) : F := ⟨0x200040 + 0x10000 * c + 8 * k, 48, 1⟩

/-- U (R483). -/
def State.qosU (s : State) : Nat :=
  let live := (List.range 12).filter (fun c => s.f (fChState c) != 2)
  let dbl := live.any (fun c => (List.range 8).any (fun k => s.f (fDouble c k) == 1))
  179 * (if dbl then 236 else 256) * live.length / (256 * 12)

/-- The sum of the minimums of the bound LDs (R481). -/
def State.qosLds (s : State) : Nat :=
  (List.range 32).foldl (fun n i => if s.f (ldBound i) = 1 then n + s.f (fQMin i) else n) 0

/-- S (R481). -/
def State.qosS (s : State) : Nat := s.qosLds + s.f fScanMin + s.f fMaintMin

/-- Recompute U, S, the effective minimums and UNDERWATER (R482, R483, R485). -/
def State.qosUpdate (s : State) : State :=
  let u := s.qosU
  let t := s.qosS
  let s := (s.setF fU u).setF fS t
  let s := (List.range 32).foldl (fun (s : State) i => s.setF (fQEff i) (effMin (s.f (fQMin i)) t u)) s
  let now := decide (u < t)
  if now && s.f fUnder = 0 then ((s.setF fUnder 1).setIrq Irq.underwater).raise .underwater u t
  else if !now && s.f fUnder = 1 then ((s.setF fUnder 0).setIrq Irq.underwater).raise .underwaterClear u t
  else s

/-! ### DPA units and segments (R339 to R341, R352 to R354) -/

/-- A segment covers unit `u` of 256 MiB. -/
def Seg.has (g : Seg) (u : Nat) : Bool := decide (g.dpa / unit256 ≤ u) && decide (u < (g.dpa + g.len) / unit256)
/-- Two runs of offsets overlap. -/
def runsMeet (a n b m : Nat) : Bool := decide (a < b + m) && decide (b < a + n)

/-- Some LD maps the unit, or it is offered to one. -/
def State.unitMapped (s : State) (u : Nat) : Bool := s.lds.any (fun e => (e.2.segs ++ e.2.offers).any (·.has u))
/-- The unit is not free: mapped, offered, in the window range, or waiting for zeroing. -/
def State.unitTaken (s : State) (u : Nat) : Bool :=
  s.unitMapped u || s.prt.zeroing.contains u || s.inWindow (u * unit256)
/-- The first `n` free units, in ascending order. -/
def State.freeUnits (s : State) (n : Nat) : List Nat := ((List.range 65536).filter (fun u => !s.unitTaken u)).take n

/-- Units that are presented, and those of them that are savings extents (12 R445). -/
def State.presented (s : State) : Nat := ((List.range 65536).filter s.unitMapped).length
def State.savings (s : State) : Nat :=
  (s.lds.flatMap (fun e => e.2.segs ++ e.2.offers)).foldl (fun n g => if g.kind = 3 then n + g.len / unit256 else n) 0

/-- Units that may still be allocated other than as savings: no more than the raw data space holds (log 16), and a presented
capacity of at most 12 TiB (00 R1). -/
def State.allocatable (s : State) : Nat :=
  min (s.nFrames / 65536 - (s.presented - s.savings)) (49152 - s.presented)

/-- Segments for pairs of an LD offset and a unit, merged where both are consecutive. -/
def mkSegs (kind : Nat) : List (Nat × Nat) → List Seg
  | [] => []
  | (o, u) :: l =>
    match mkSegs kind l with
    | g :: gs =>
      if g.off = o + unit256 && g.dpa = (u + 1) * unit256 then { g with off := o, dpa := u * unit256, len := g.len + unit256 } :: gs
      else { off := o, dpa := u * unit256, len := unit256, kind := kind } :: g :: gs
    | [] => [{ off := o, dpa := u * unit256, len := unit256, kind := kind }]

/-- Firmware keeps every mapped unit covered by a placement prefix: a PAGED one of length 16 (08 R283; log 16). -/
def State.coverUnit (s : State) (u : Nat) : State :=
  if (s.region (u * 65536)).isSome then s
  else s.updTb 254 (fun t => { t with
    prefixes := t.prefixes ++ [(BitVec.ofNat 128 (u * 65536), 16, BitVec.ofNat 64 (2 * 2 ^ 62 + u * 65536))] })

/-- Map segments into an LD. -/
def State.mapSegs (s : State) (ld : Nat) (gs : List Seg) : State :=
  let s := s.updLd ld (fun l => { l with segs := l.segs ++ gs })
  gs.foldl (fun (s : State) g => (List.range (g.len / unit256)).foldl (fun (s : State) i => s.coverUnit (g.dpa / unit256 + i)) s) s

/-- A unit that no LD maps any longer loses its contents: its pages become UNWRITTEN, their frames are zeroed, and what
waits for them is answered as unmapped (R354, 12 R414). -/
def State.wipeUnit (s : State) (u : Nat) : State :=
  let a := u * unit256
  let inU (d : Nat) : Bool := d / unit256 == u
  let pgs := s.tier.pages.filter (fun e => inU (e.1 * 4096))
  let s := pgs.foldl (fun (s : State) e => ((s.cancelMig e.1).freePageFrame ((s.cancelMig e.1).page e.1)).setPage e.1 {}) s
  let gone := s.tier.promos.filter (fun p => inU (p.page * 4096))
  let s := gone.foldl (fun (s : State) p => s.freeUnit p.frame 1) s
  let waits := (s.tier.miss ++ s.tier.hold ++ s.tier.zeroWait).filter (fun e => inU e.1)
  let keep (l : List (Nat × Instr)) : List (Nat × Instr) := l.filter (fun e => !inU e.1)
  let lines (m : SMap Bool) : SMap Bool := m.filter (fun e => !inU (e.1 * 64))
  let lost := (s.tier.lrLines.filter (fun e => inU (e.1 * 64))).length
  let s := s.setF fLrUsed (s.f fLrUsed - lost)
  let s := { s with
    tier := { s.tier with promos := s.tier.promos.filter (fun p => !inU (p.page * 4096)), miss := keep s.tier.miss,
                          hold := keep s.tier.hold, zeroWait := keep s.tier.zeroWait, lrLines := lines s.tier.lrLines,
                          cache := s.tier.cache.filter (fun e => !inU (e.1 * 4096)) },
    ras := { s.ras with mark := lines s.ras.mark, inj := s.ras.inj.filter (fun e => !inU (e.1 * 64)),
                        wrTick := s.ras.wrTick.filter (fun e => !inU (e.1 * 64)) },
    pair := { s.pair with dirty := s.pair.dirty.filter (fun e => !inU (e.1 * 4096)) },
    prt := { s.prt with zeroing := s.prt.zeroing ++ [u] },
    mem := s.mem.filter (fun c => decide (c.1 < a) || decide (a + unit256 ≤ c.1)) }
  waits.foldl (fun s e => match memReq e.2 with | some q => s.answerDead q | none => s) s

/-- Remove a segment from an LD, and wipe the units that no LD maps any longer. -/
def State.unmapSeg (s : State) (ld : Nat) (g : Seg) : State :=
  let s := s.updLd ld (fun l => { l with segs := l.segs.erase g, releasing := l.releasing.filter (fun o => o != g.off),
                                         relReq := l.relReq.filter (fun o => o != g.off) })
  (List.range (g.len / unit256)).foldl (fun (s : State) i =>
    if s.unitMapped (g.dpa / unit256 + i) then s else s.wipeUnit (g.dpa / unit256 + i)) s

/-- The directory entries that cover a line of a segment. -/
def State.dirCovers (s : State) (g : Seg) : List Row :=
  ((s.rowsOf 255).filter (fun e => e.2.live && decide (g.dpa ≤ dirDpa e.2 + 4095) && decide (dirDpa e.2 < g.dpa + g.len))).map
    (fun e => e.2)

/-- A release that has taken effect: entries that cover the extent are back-invalidated first, then the extent leaves
the segment map (R354). -/
def State.releaseStep (s : State) (ld off : Nat) : State :=
  match (s.ld ld).segs.find? (fun g => g.off == off) with
  | none => s.updLd ld (fun l => { l with releasing := l.releasing.filter (fun o => o != off) })
  | some g =>
    let rows := s.dirCovers g
    if rows.isEmpty then s.unmapSeg ld g
    else
      let s := rows.foldl (fun (s : State) r =>
        if s.dir.reqs.any (fun q => q.what == .settle r.handle) then s
        else s.dirEnter 0 (dirDpa r) (.settle r.handle) (dirCoarse r.res)) s
      s.updLd ld (fun l => { l with releasing := if l.releasing.contains off then l.releasing else l.releasing ++ [off] })

/-- The releases in progress go on. -/
def State.releaseSteps (s : State) : State :=
  s.lds.foldl (fun (s : State) e => e.2.releasing.foldl (fun (s : State) o => s.releaseStep e.1 o) s) s

/-- A Dynamic Capacity event of an LD (R353, R354): sent, and kept in the log of 64 records (R367). -/
def State.dcEvent (s : State) (ld kind off len : Nat) : State :=
  let s := s.send (.dcEvent ld kind off len)
  let s := s.updLd ld (fun l =>
    if l.dcLog.length < 64 then { l with dcLog := l.dcLog ++ [(kind, off, len)] }
    else { l with logOverflow := setNum l.logOverflow 4 (num l.logOverflow 4 + 1) })
  s.logIrq ld 4

/-- Request the release of an extent by its host (R354). -/
def State.askRelease (s : State) (ld off len : Nat) : State :=
  (s.dcEvent ld 1 off len).updLd ld (fun l => { l with relReq := if l.relReq.contains off then l.relReq else l.relReq ++ [off] })

/-- Free LD offsets of a dynamic-capacity region, in ascending order, by unit. -/
def Ld.freeOffsets (l : Ld) (r : Nat) : List Nat :=
  match l.regions.find? (fun e => e.1 == r) with
  | some (_, b, n) =>
    ((List.range (n / unit256)).map (fun i => b + i * unit256)).filter (fun o =>
      !(l.segs ++ l.offers).any (fun g => decide (g.off ≤ o) && decide (o < g.off + g.len)))
  | none => []

/-- Offer `n` units as extents of a region (R353): the lowest free DPA blocks at the lowest free offsets. None when the
region, the DPA space or the segment map has no room. -/
def State.offer (s : State) (ld r n kind : Nat) : Option State :=
  let l := s.ld ld
  let offs := (l.freeOffsets r).take n
  let us := s.freeUnits n
  let gs := mkSegs kind (offs.zip us)
  if offs.length < n || us.length < n || 1024 < l.segs.length + l.offers.length + gs.length then none
  else
    let s := s.updLd ld (fun l => { l with offers := l.offers ++ gs })
    some (gs.foldl (fun (s : State) g => s.dcEvent ld 0 g.off g.len) s)

/-! ### The device mailbox (R359, R367, R368) -/

/-- A mailbox command runs while firmware does. -/
def mboxCmd (s : State) (f : State → State) : Res := whileUp s (fun s => s.when s.ras.mpRunning f)

/-- The 32 B of an event record (16 R578). -/
def Evt.bytes (e : Evt) (arg1 : Word) : List Byte :=
  leBytes 8 (e.ev.code * 2 ^ 48 + e.ev.sev * 2 ^ 46 + e.seq % 2 ^ 32) ++ leBytes 8 e.tick ++ leBytes 8 e.arg0.toNat ++
  leBytes 8 arg1.toNat

/-- An event as an LD's log shows it: a DPA is reported as the LD offset (R367). -/
def Ld.evtBytes (l : Ld) (e : Evt) : List Byte :=
  match e.ev.cxl with
  | .gm => e.bytes (BitVec.ofNat 64 ((l.offsetOf e.arg1.toNat).getD 0))
  | _ => e.bytes e.arg1

/-- The length of an LD's static allocation. -/
def Ld.static (l : Ld) : Nat := l.segs.foldl (fun n g => if g.kind = 0 then n + g.len else n) 0

/-- IDENTIFY. The codes of mailbox and FM API commands are the CXL specification's (log 15). -/
def execIdentify (ld : LdId) (s : State) : Res :=
  mboxCmd s (fun s => s.mboxAns ld.val 0x0001 rcSuccess (leBytes 2 (s.f ⟨0, 0, 16⟩) ++ leBytes 2 0x8820 ++ leBytes 8 (s.reg 0x10).toNat))

/-- The opcodes that the CEL lists: exactly the supported commands (R359). -/
def celOpcodes : List Nat :=
  [0x0001, 0x0100, 0x0101, 0x0102, 0x0103, 0x0200, 0x0201, 0x0202, 0x0300, 0x0301, 0x0400, 0x0401, 0x4000, 0x4200,
   0x4300, 0x4301, 0x4302, 0x4800, 0x4801, 0x4802, 0x4803]

/-- GET_SUPPORTED_LOGS: one log, the CEL, and its size. -/
def execGetSupportedLogs (ld : LdId) (s : State) : Res :=
  mboxCmd s (fun s => s.mboxAns ld.val 0x0400 rcSuccess (leBytes 2 1 ++ leBytes 4 (2 * celOpcodes.length)))

/-- GET_LOG: the CEL. -/
def execGetLog (ld : LdId) (s : State) : Res :=
  mboxCmd s (fun s => s.mboxAns ld.val 0x0401 rcSuccess (celOpcodes.flatMap (leBytes 2)))

/-- GET_EVENT_RECORDS. -/
def execGetEventRecords (ld : LdId) (log : Fin 5) (s : State) : Res :=
  mboxCmd s (fun s =>
    let l := s.ld ld.val
    let recs := if log.val = 4 then l.dcLog.flatMap (fun e => leBytes 1 e.1 ++ leBytes 8 e.2.1 ++ leBytes 8 e.2.2)
      else (SMap.get (fun _ => []) l.logs log.val).flatMap l.evtBytes
    s.mboxAns ld.val 0x0100 rcSuccess (leBytes 2 (num l.logOverflow log.val) ++ recs))

/-- CLEAR_EVENT_RECORDS: the oldest `n` records of a log. -/
def execClearEventRecords (ld : LdId) (log : Fin 5) (n : Nat) (s : State) : Res :=
  mboxCmd s (fun s =>
    let s := s.updLd ld.val (fun l =>
      let ovf := setNum l.logOverflow log.val 0
      if log.val = 4 then { l with dcLog := l.dcLog.drop n, logOverflow := ovf }
      else { l with logs := SMap.set (fun _ => []) l.logs log.val ((SMap.get (fun _ => []) l.logs log.val).drop n),
                    logOverflow := ovf })
    s.mboxAns ld.val 0x0101 rcSuccess)

/-- GET_EVENT_INTERRUPT_POLICY. -/
def execGetEventInterruptPolicy (ld : LdId) (s : State) : Res :=
  mboxCmd s (fun s => s.mboxAns ld.val 0x0102 rcSuccess (leBytes 5 (s.ld ld.val).policy.toNat))

/-- SET_EVENT_INTERRUPT_POLICY. -/
def execSetEventInterruptPolicy (ld : LdId) (policy : BitVec 40) (s : State) : Res :=
  mboxCmd s (fun s => (s.updLd ld.val (fun l => { l with policy := policy })).mboxAns ld.val 0x0103 rcSuccess)

/-- The event time of an LD: the last Set Timestamp plus 2 ns for each tick since (R367). -/
def State.stampNs (s : State) (ld : Nat) : Nat := (s.ld ld).tsBase + 2 * (s.tick - (s.ld ld).tsTick)

/-- GET_TIMESTAMP. -/
def execGetTimestamp (ld : LdId) (s : State) : Res :=
  mboxCmd s (fun s => s.mboxAns ld.val 0x0300 rcSuccess (leBytes 8 (s.stampNs ld.val)))

/-- SET_TIMESTAMP. -/
def execSetTimestamp (ld : LdId) (ns : BitVec 64) (s : State) : Res :=
  mboxCmd s (fun s => (s.updLd ld.val (fun l => { l with tsBase := ns.toNat, tsTick := s.tick })).mboxAns ld.val 0x0301 rcSuccess)

/-- GET_HEALTH_INFO: temperature, error counts; life used reads 0. -/
def execGetHealthInfo (ld : LdId) (s : State) : Res :=
  mboxCmd s (fun s =>
    let sum (lo n : Nat) : Nat := (List.range 12).foldl (fun k c => k + s.f ⟨0x3e0100 + 8 * c, lo, n⟩) 0
    s.mboxAns ld.val 0x4200 rcSuccess
      (leBytes 1 0 ++ leBytes 2 (s.f ⟨0xc08, 0, 16⟩) ++ leBytes 4 (sum 32 32) ++ leBytes 4 (sum 16 16)))

/-- IDENTIFY_MEMORY_DEVICE: total and volatile capacity, persistent capacity 0, LSA 0, partition alignment 0, a poison
list of 256 records. -/
def execIdentifyMemoryDevice (ld : LdId) (s : State) : Res :=
  mboxCmd s (fun s =>
    let n := (s.ld ld.val).static / unit256
    s.mboxAns ld.val 0x4000 rcSuccess (leBytes 8 n ++ leBytes 8 n ++ leBytes 8 0 ++ leBytes 4 0 ++ leBytes 8 0 ++ leBytes 2 256))

/-- GET_POISON_LIST: LD offsets, with the overflow flag and time. -/
def execGetPoisonList (ld : LdId) (s : State) : Res :=
  mboxCmd s (fun s =>
    let l := s.ld ld.val
    s.mboxAns ld.val 0x4300 rcSuccess
      (leBytes 1 (if l.poisonOvf.isSome then 1 else 0) ++
       leBytes 8 (match l.poisonOvf with | some t => l.tsBase + 2 * (t - l.tsTick) | none => 0) ++
       leBytes 2 l.poison.length ++ l.poison.flatMap (leBytes 8)))

/-- INJECT_POISON: accepted only while POISON_INJ_EN is 1, of a mapped line. -/
def execInjectPoison (ld : LdId) (ldOffset : BitVec 64) (s : State) : Res :=
  mboxCmd s (fun s =>
    if s.f (ldInj ld.val) = 0 then s.mboxAns ld.val 0x4301 rcUnsupported
    else match (s.ld ld.val).dpaOf ldOffset.toNat with
    | some d => (s.poisonLine (d / 64 * 64)).mboxAns ld.val 0x4301 rcSuccess
    | none => s.mboxAns ld.val 0x4301 rcInvalidInput)

/-- CLEAR_POISON (R368): the supplied line is written in full, and the record is removed. -/
def execClearPoison (ld : LdId) (ldOffset : BitVec 64) (data : Line) (s : State) : Res :=
  mboxCmd s (fun s =>
    if s.f (ldInj ld.val) = 0 then s.mboxAns ld.val 0x4302 rcUnsupported
    else match (s.ld ld.val).dpaOf ldOffset.toNat with
    | some d =>
      (((s.deviceLine 2 ld.val (d / 64 * 64) data (BitVec.allOnes 64)).setPoison d false).dropPoison d).mboxAns ld.val 0x4302 rcSuccess
    | none => s.mboxAns ld.val 0x4302 rcInvalidInput)

/-- GET_DYNAMIC_CAPACITY_CONFIG. -/
def execGetDynamicCapacityConfig (ld : LdId) (s : State) : Res :=
  mboxCmd s (fun s =>
    s.mboxAns ld.val 0x4800 rcSuccess ((s.ld ld.val).regions.flatMap (fun e => leBytes 1 e.1 ++ leBytes 8 e.2.1 ++ leBytes 8 e.2.2 ++
      leBytes 8 unit256)))

/-- GET_DYNAMIC_CAPACITY_EXTENTS: accepted extents. -/
def execGetDynamicCapacityExtents (ld : LdId) (s : State) : Res :=
  mboxCmd s (fun s =>
    s.mboxAns ld.val 0x4801 rcSuccess (((s.ld ld.val).segs.filter (fun g => g.kind == 1 || g.kind == 3)).flatMap
      (fun g => leBytes 8 g.off ++ leBytes 8 g.len)))

/-- ADD_DYNAMIC_CAPACITY_RESPONSE (R353): the accepted extents enter the segment map at this tick, and the other blocks
return to the free pool. -/
def execAddDynamicCapacityResponse (ld : LdId) (accepted : List (BitVec 64)) (s : State) : Res :=
  mboxCmd s (fun s =>
    let offers := (s.ld ld.val).offers
    let take := offers.filter (fun g => accepted.any (fun a => a.toNat == g.off))
    let known := accepted.all (fun a => offers.any (fun g => a.toNat == g.off))
    if !known then s.mboxAns ld.val 0x4802 rcInvalidInput
    else ((s.updLd ld.val (fun l => { l with offers := [] })).mapSegs ld.val take).mboxAns ld.val 0x4802 rcSuccess)

/-- RELEASE_DYNAMIC_CAPACITY (R354): the host's answer makes the release take effect. -/
def execReleaseDynamicCapacity (ld : LdId) (ldOffset : BitVec 64) (s : State) : Res :=
  mboxCmd s (fun s =>
    if (s.ld ld.val).segs.any (fun g => g.off == ldOffset.toNat && (g.kind == 1 || g.kind == 3)) then
      (s.releaseStep ld.val ldOffset.toNat).mboxAns ld.val 0x4803 rcSuccess
    else s.mboxAns ld.val 0x4803 rcInvalidInput)

/-- UNSUPPORTED_MAILBOX_CMD. -/
def execUnsupportedMailboxCmd (ld : LdId) (code : BitVec 16) (s : State) : Res :=
  mboxCmd s (fun s => s.mboxAns ld.val code.toNat rcUnsupported)

/-! ### The FM API (R340, R352 to R354, R363 to R366) -/

/-- The static allocation changes from `cur` to `n` units (R340). None: the request fails with Invalid Input or for lack
of free runs, by the code given. -/
def State.setAlloc (s : State) (ld n : Nat) : Nat × State :=
  let l := s.ld ld
  let cur := l.static / unit256
  if n < cur then
    let covered := l.decoders.any (fun e => e.2.committed && (match e.2.set with
      | some d => decide (n * unit256 < d.dpa.toNat + decSpan d) && decide (d.dpa.toNat < cur * unit256)
      | none => false))
    if covered then (rcInvalidInput, s)
    else
      let cut := l.segs.filter (fun g => g.kind == 0 && decide (n * unit256 < g.off + g.len))
      let s := cut.foldl (fun (s : State) g =>
        let keep := n * unit256 - g.off
        let s := if g.off < n * unit256 then
            s.updLd ld (fun l => { l with segs := l.segs.map (fun x => if x = g then { g with len := keep } else x) ++
              [{ g with off := g.off + keep, dpa := g.dpa + keep, len := g.len - keep }] })
          else s
        let rest := if g.off < n * unit256 then { g with off := g.off + keep, dpa := g.dpa + keep, len := g.len - keep } else g
        s.unmapSeg ld rest) s
      (rcSuccess, s)
  else
    let clash := l.segs.any (fun g => g.kind != 0 && runsMeet (cur * unit256) ((n - cur) * unit256) g.off g.len) ||
      l.regions.any (fun e => runsMeet (cur * unit256) ((n - cur) * unit256) e.2.1 e.2.2)
    let us := s.freeUnits (n - cur)
    let gs := mkSegs 0 ((List.range (n - cur)).map (fun i => (cur + i) * unit256) |>.zip us)
    if clash then (rcInvalidInput, s)
    else if us.length < n - cur || s.allocatable < n - cur || 1024 < l.segs.length + gs.length then (rcResources, s)
    else (rcSuccess, s.mapSegs ld gs)

/-- SET_LD_ALLOCATIONS. -/
def execSetLdAllocations (ld : LdId) (units : BitVec 16) (s : State) : Res :=
  mboxCmd s (fun s =>
    let r := s.setAlloc ld.val units.toNat
    r.2.fmAns 0x5402 r.1 (leBytes 8 (((r.2.ld ld.val).static) / unit256)))

/-- BIND_LD: refused when its MIN would make S exceed U (13 R484). -/
def execBindLd (ld : LdId) (s : State) : Res :=
  mboxCmd s (fun s =>
    let m := s.f (fQMin ld.val)
    if s.f (ldBound ld.val) = 1 then s.fmAns 0x5201 rcSuccess
    else if m != 0 && decide (s.qosU < s.qosS + m) then s.fmAns 0x5201 rcInvalidInput
    else ((s.setF (ldBound ld.val) 1).qosUpdate).fmAns 0x5201 rcSuccess)

/-- UNBIND_LD (11 R411, 18 R625). -/
def execUnbindLd (ld : LdId) (s : State) : Res :=
  mboxCmd s (fun s =>
    let s := ((s.setF (ldBound ld.val) 0).drainLd ld.val false).qosUpdate
    let s := if s.mbox.holder = some ld then
        (if s.mbox.arrived.isSome then { s with mbox := { s.mbox with releasePending := true } }
         else { s with mbox := { s.mbox with holder := none } })
      else s
    s.fmAns 0x5202 rcSuccess)

/-- SET_QOS_ALLOCATED_BW (R363, 13 R484). -/
def execSetQosAllocatedBw (ld : LdId) (min : Byte) (s : State) : Res :=
  mboxCmd s (fun s =>
    let after := (s.setF (fQMin ld.val) min.toNat).qosS
    if s.qosU < after then s.fmAns 0x5407 rcInvalidInput
    else ((s.setF (fQMin ld.val) min.toNat).qosUpdate).fmAns 0x5407 rcSuccess)

/-- SET_QOS_BW_LIMIT (R363). -/
def execSetQosBwLimit (ld : LdId) (cap : Byte) (s : State) : Res :=
  mboxCmd s (fun s => (s.setF (fQCap ld.val) cap.toNat).fmAns 0x5409 rcSuccess)

/-- SET_QOS_CONTROL (R363): the fields are stored and returned. -/
def execSetQosControl (enables egress interval : Byte) (s : State) : Res :=
  mboxCmd s (fun s =>
    ({ s with prt := { s.prt with qosEnables := enables.toNat, qosEgress := egress.toNat, qosInterval := interval.toNat } }).fmAns
      0x5404 rcSuccess (leBytes 1 enables.toNat ++ leBytes 1 egress.toNat ++ leBytes 1 interval.toNat))

/-- SET_DC_REGION_CONFIG (R352): clear of the static allocation and of every other region. -/
def execSetDcRegionConfig (ld : LdId) (region : Fin 8) (base length : BitVec 64) (s : State) : Res :=
  mboxCmd s (fun s =>
    let l := s.ld ld.val
    let b := base.toNat
    let n := length.toNat
    let bad := b % unit256 != 0 || n % unit256 != 0 || runsMeet b n 0 l.static ||
      l.regions.any (fun e => e.1 != region.val && runsMeet b n e.2.1 e.2.2) ||
      l.segs.any (fun g => g.kind == 2 && runsMeet b n g.off g.len)
    if bad then s.fmAns 0x5602 rcInvalidInput
    else (s.updLd ld.val (fun l => { l with regions := SMap.set (fun _ => (0, 0)) l.regions region.val (b, n) })).fmAns 0x5602 rcSuccess)

/-- INITIATE_DC_ADD (R353). -/
def execInitiateDcAdd (ld : LdId) (region : Fin 8) (length : BitVec 64) (s : State) : Res :=
  mboxCmd s (fun s =>
    let n := length.toNat / unit256
    if length.toNat % unit256 != 0 || n = 0 || (s.ld ld.val).regions.all (fun e => e.1 != region.val) then
      s.fmAns 0x5604 rcInvalidInput
    else if s.allocatable < n then s.fmAns 0x5604 rcResources
    else match s.offer ld.val region.val n 1 with
    | some s => s.fmAns 0x5604 rcSuccess
    | none => s.fmAns 0x5604 rcResources)

/-- INITIATE_DC_RELEASE (R354): a forced release takes effect at this tick. -/
def execInitiateDcRelease (ld : LdId) (ldOffset : BitVec 64) (forced : Bool) (s : State) : Res :=
  mboxCmd s (fun s =>
    match (s.ld ld.val).segs.find? (fun g => g.off == ldOffset.toNat && (g.kind == 1 || g.kind == 3)) with
    | none => s.fmAns 0x5605 rcInvalidInput
    | some g =>
      if forced then ((s.dcEvent ld.val 2 g.off g.len).releaseStep ld.val g.off).fmAns 0x5605 rcSuccess
      else (s.askRelease ld.val g.off g.len).fmAns 0x5605 rcSuccess)

/-- GET_MULTI_HEADED_INFO (R364): 2 heads of 16 LDs each. -/
def execGetMultiHeadedInfo (s : State) : Res :=
  mboxCmd s (fun s => s.fmAns 0x5500 rcSuccess (leBytes 1 32 ++ leBytes 1 2 ++ leBytes 1 16 ++ leBytes 1 16))

/-- The other FM API commands that the device supports (R364): Information and Status, MLD Component, Multi-Headed Device
and DCD Management. -/
def fmSupported (c : Nat) : Bool :=
  [0x0001, 0x0002, 0x0003, 0x0004, 0x0005, 0x5400, 0x5401, 0x5403, 0x5405, 0x5406, 0x5408, 0x5501, 0x5600, 0x5601,
   0x5603, 0x5606, 0x5607].contains c

/-- What such a command reports, where the manual gives it a value. -/
def State.fmReport (s : State) (c : Nat) : List Byte :=
  match c with
  | 0x5401 => (List.range 32).flatMap (fun n => leBytes 8 ((s.ld n).static / unit256))
  | 0x5403 => leBytes 1 s.prt.qosEnables ++ leBytes 1 s.prt.qosEgress ++ leBytes 1 s.prt.qosInterval
  | 0x5406 => (List.range 32).flatMap (fun n => leBytes 1 (s.f (fQMin n)))
  | 0x5408 => (List.range 32).flatMap (fun n => leBytes 1 (s.f (fQCap n)))
  | 0x5601 => (List.range 32).flatMap (fun n => (s.ld n).regions.flatMap (fun e => leBytes 1 n ++ leBytes 1 e.1 ++ leBytes 8 e.2.1 ++
      leBytes 8 e.2.2))
  | 0x5603 => (List.range 32).flatMap (fun n => ((s.ld n).segs.filter (fun g => g.kind == 1 || g.kind == 3)).flatMap (fun g =>
      leBytes 1 n ++ leBytes 8 g.off ++ leBytes 8 g.len))
  | _ => []

/-- FM_API_OTHER_COMMAND. -/
def execFmApiOtherCommand (code : BitVec 16) (s : State) : Res :=
  mboxCmd s (fun s =>
    if fmSupported code.toNat then s.fmAns code.toNat rcSuccess (s.fmReport code.toNat)
    else s.fmAns code.toNat rcUnsupported)

/-- FM_API_OWNER_COMMAND (R365, R366; 18 R627): the payload's checks; a command that passes them arrives, while fewer than
16 have arrived and not completed. -/
def execFmApiOwnerCommand (payload : List Byte) (session : Bool) (s : State) : Res :=
  whileUp s (fun s =>
    let n := le payload 6 2
    if le payload 0 2 != 0x4149 || le payload 2 1 != 1 || le payload 3 1 != 0 || 1024 < n then s.fmAns 0xC820 rcInvalidInput
    else if payload.length != 8 + n then s.fmAns 0xC820 rcPayloadLength
    else if 16 ≤ s.mbox.fm.length then s.fmAns 0xC820 rcBusy
    else { s with mbox := { s.mbox with fm := s.mbox.fm ++ [(payload, session, s.tick)] } })

end Sys2Proof.Machine
end

