-- ==== Sys2Proof/Machine/Tier.lean ====
section
/-! DEFINITION. The migration engine, headroom, zeroing and key rotation (12 R432 to R449, R453; 17 R595, R596; 19 R652). -/

namespace Sys2Proof.Machine

/-! ### Traffic of page copies (13 R465) -/

/-- Queue the reads or writes of a whole page in a class: the lines of a RAW page, the units of a compressed one. -/
def State.pageTraffic (s : State) (q : Nat) (p : Page) (write : Bool) (cls : Nat) : State :=
  let per := if p.st = 1 then 4 else if p.st = 2 then 2 else if p.st = 3 then 1 else 0
  (List.range 16).foldl (fun (s : State) b =>
    if p.st != 1 && p.zmap.getLsbD b then s
    else (List.range per).foldl (fun (s : State) l => s.dramPush (s.dramFor p (4096 * q + 256 * b + 64 * l) write cls 0 0)) s) s

/-! ### Promotions on write (R432 to R434) -/

/-- Promotions that waited start while fewer than 32 run (R433). -/
def State.startPromos (s : State) : State :=
  let running := (s.tier.promos.filter (fun p => p.start.isSome)).length
  let r := s.tier.promos.foldl (fun (acc : List Promo × Nat) p =>
    if p.start.isNone && acc.2 < 32 then (acc.1 ++ [{ p with start := some (s.tick + 1) }], acc.2 + 1) else (acc.1 ++ [p], acc.2))
    (([] : List Promo), running)
  { s with tier := { s.tier with promos := r.1 } }

/-- PROMOTION_COMMIT: STATE becomes RAW in the new frame, ZMAP and NOFIT clear, the triggering write is merged, and the
old part is freed. The other held requests are accepted at the next tick. -/
def State.promoCommit (s : State) (q : Nat) : State :=
  match s.tier.promos.find? (fun p => p.page == q && (match p.start with | some t => decide (t ≤ s.tick) | none => false)) with
  | none => s
  | some m =>
    let old := s.page q
    let new : Page := { old with st := 1, frame := m.frame, zmap := 0, nofit := false, newkey := s.newkeyFor q }
    let s := (((s.reopenPage q).pageTraffic q old false 1).setPage q new).sealPage q
    let s := s.leaveFrame old
    let s := { s with tier := { s.tier with promos := s.tier.promos.filter (fun p => p.page != q) } }
    let s := (s.pageTraffic q new true 1).inc (fTierCnt 0 0)
    let s := match s.tier.hold.find? (fun e => e.1 / 4096 == q) with
      | some e => ({ s with tier := { s.tier with hold := s.tier.hold.erase e } }).resume e.1 e.2
      | none => s
    s.startPromos

/-- PROMOTION_COMMIT. -/
def execPromotionCommit (page : BitVec 32) (s : State) : Res := whileUp s (·.promoCommit page.toNat)

/-! ### Demotions, promotions and compaction (R428, R435 to R439, R446) -/

/-- The migration engine may start work other than the drain of the last-resort area (R447). -/
def State.migFree (s : State) : Bool := s.freeSlot.isSome && (s.tier.lrLines.isEmpty || s.f fLevel == 3)

/-- Demote a RAW page (R437). -/
def State.demote (s : State) (q : Nat) : State :=
  let p := s.page q
  let sizes := (List.range 16).map (fun b => blockSize (blockWords s.mem (4096 * q + 256 * b)))
  let fits (n : Nat) : Bool := sizes.all (fun x => match x with | some k => decide (k ≤ n) | none => false)
  let quarter := bit (s.tierDom ((s.domainOf (4096 * q)).getD 0)) 9
  let go (s : State) (st n : Nat) : State :=
    match s.takePart n with
    | some (u, s) => (s.pageTraffic q p false 4).startMig q 0
        { p with st := st, frame := u, zmap := zmapOf s.mem q, newkey := s.newkeyFor q }
    | none => s
  let marked := (List.range 64).any (fun i => s.poisoned (4096 * q + 64 * i))   -- 16 R576
  if marked then (s.setPage q { p with nofit := true }).inc (fTierCnt 2 0)
  else if fits 0 then s.startMig q 0 { p with st := 0, frame := 0, zmap := 0, nofit := false, newkey := false }
  else if quarter && fits 64 then go s 3 4
  else if fits 128 then go s 2 2
  else (s.setPage q { p with nofit := true }).inc (fTierCnt 2 0)

/-- A page may be demoted at heat `h` or below (R439, R442, R446). -/
def State.canDemote (s : State) (q h : Nat) : Bool :=
  let p := s.page q
  match s.domainOf (4096 * q) with
  | some d => p.st == 1 && !p.pin && !p.nofit && bit (s.tierDom d) 8 && s.f ⟨0x380008, 0, 1⟩ == 1 && decide (p.heat ≤ h) &&
      !s.tier.noRetry.contains q && !s.pageHeld q
  | none => false

/-- The sweep of one descriptor (R439). -/
def State.sweepPage (s : State) (q : Nat) : State :=
  match s.region q with
  | some (2, _) =>
    let p := s.page q
    let s := s.setPage q { p with heat := p.heat / 2 }
    let p := s.page q
    let w := s.tierDom ((s.domainOf (4096 * q)).getD 0)
    if s.canDemote q (fld w 0 4) then s.demote q
    else if (p.st = 2 || p.st = 3) && (fld w 4 4 ≤ p.heat || p.pin) then s.hotPromote q
    else s
  | _ => s

/-- Walk pages in page-map order, one after another while a migration slot is free: the state, and the page at which
the walk waits. -/
def walkPages (f : State → Nat → State) : List Nat → State → State × Option Nat
  | [], s => (s, none)
  | q :: qs, s => if s.freeSlot.isNone then (s, some q) else walkPages f qs (f s q)

/-- Insert a page by its descriptor number. -/
def insertPage (x : Nat × Nat) : List (Nat × Nat) → List (Nat × Nat)
  | [] => [x]
  | y :: ys => if x.1 < y.1 then x :: y :: ys else y :: insertPage x ys

/-- The pages of PAGED regions in page-map order (R439), from page `a` on where the walk waits at it. -/
def State.pagesFrom (s : State) (a : Option Nat) : List Nat :=
  let all := s.tier.pages.filterMap (fun e => (s.mapIdx e.1).map (fun n => (n, e.1)))
  let lo := (a.bind s.mapIdx).getD 0
  ((all.filter (fun x => decide (lo ≤ x.1))).foldl (fun l x => insertPage x l) ([] : List (Nat × Nat))).map (fun x => x.2)

/-- The heat sweep period in ticks: HEAT_PERIOD_MS of 500,000 ticks, at least 10 (R455). -/
def State.heatPeriod (s : State) : Nat := 500000 * max 10 (s.f ⟨0x380008, 48, 16⟩)

/-- HEAT_SWEEP (R439): a sweep that is due starts, or one that waits goes on. -/
def State.heatSweep (s : State) : State :=
  let go (s : State) (a : Option Nat) : State :=
    let r := walkPages State.sweepPage (s.pagesFrom a) s
    { r.1 with tier := { r.1.tier with sweepAt := r.2 } }
  match s.tier.sweepAt with
  | some a => if s.migFree then go s (some a) else s
  | none =>
    if s.tick < s.tier.nextSweep || !s.migFree then s
    else go { s with tier := { s.tier with nextSweep := s.tick + s.heatPeriod, noRetry := [] } } none

/-- HEAT_SWEEP. -/
def execHeatSweep (s : State) : Res := whileUp s State.heatSweep

/-- EMERGENCY_DEMOTION_PASS (R446 step 3): at CRITICAL, one pass with the heat limit h, which rises after a pass that ends
with LEVEL still CRITICAL. -/
def State.emergencyPass (s : State) : State :=
  if s.f fLevel != 3 then s else
  let r := walkPages (fun s q => if s.canDemote q s.tier.heatLim then s.demote q else s) (s.pagesFrom s.tier.emergAt) s
  let lim := if r.2.isNone then min 15 (s.tier.heatLim + 1) else s.tier.heatLim
  { r.1 with tier := { r.1.tier with emergAt := r.2, heatLim := lim } }

/-- EMERGENCY_DEMOTION_PASS. -/
def execEmergencyDemotionPass (s : State) : Res := whileUp s State.emergencyPass

/-- A part of class `n` in a split frame other than `f`, which is already split (R428). -/
def State.takeSplit (s : State) (n f : Nat) : Option (Nat × State) :=
  let ok (x : Frame) (i : Nat) : Bool := !x.used.getLsbD i && !x.unz.getLsbD i
  match s.tier.frames.find? (fun e => e.1 != f && e.2.use == n && !s.isOut e.1 && (List.range n).any (ok e.2)) with
  | some (g, x) =>
    match (List.range n).find? (ok x) with
    | some i => some (4 * g + i * (4 / n), s.setFrame g { x with used := x.used ||| (1 <<< i) })
    | none => none
  | none => none

/-- COMPACTION (R428): at NOTICE or higher, a compressed page leaves a split frame that is at most half used. -/
def State.compact (s : State) (q : Nat) : State :=
  let p := s.page q
  let f := p.frame / 4
  if s.f fLevel = 0 || (p.st != 2 && p.st != 3) || !s.migFree || s.tier.noRetry.contains q || s.pageHeld q ||
      p.cls < 2 * ones (s.frame f).used then s
  else match s.takeSplit p.cls f with
  | some (u, s) => (s.pageTraffic q p false 4).startMig q 4 { p with frame := u, newkey := s.newkeyFor q }
  | none => s

/-- COMPACTION. -/
def execCompaction (page : BitVec 32) (s : State) : Res := whileUp s (·.compact page.toNat)

/-! ### The last-resort area (R447) -/

/-- The last-resort entries of a page are freed, and its LR clears. -/
def State.freeLr (s : State) (q : Nat) : State :=
  let mine := s.tier.lrLines.filter (fun e => e.1 / 64 == q)
  let s := s.setF fLrUsed (s.f fLrUsed - mine.length)
  let s := { s with tier := { s.tier with lrLines := s.tier.lrLines.filter (fun e => e.1 / 64 != q) } }
  s.setPage q { s.page q with lr := false }

/-- LR_DRAIN: at WARN or lower, the lowest page with LR set is promoted; a RAW page takes its lines back at once. -/
def State.lrDrain (s : State) : State :=
  if s.f fLevel = 3 || s.freeSlot.isNone then s else
  match (s.tier.lrLines.map (fun e => e.1 / 64)).find? (fun q => (s.page q).st != 4 && !s.pageHeld q) with
  | none => s
  | some q =>
    let p := s.page q
    if p.st = 1 then s.freeLr q
    else match s.takeFrame with
    | some (f, s) => (s.pageTraffic q p false 4).startMig q 3 { p with st := 1, frame := 4 * f, zmap := 0, newkey := s.newkeyFor q }
    | none => s

/-- LR_DRAIN. -/
def execLrDrain (s : State) : Res := whileUp s State.lrDrain

/-! ### Key rotation (R453) -/

abbrev fRotActive : F := ⟨0x380040, 63, 1⟩
abbrev fRotStep : F := ⟨0x380040, 60, 3⟩
abbrev fRotDom : F := ⟨0x380040, 32, 12⟩
abbrev fRotLeft : F := ⟨0x380040, 0, 32⟩

/-- The rotation goes on with `r`, shown in KEY_ROT_STAT; a step that has no work left is over. -/
def State.setRot (s : State) (r : Rot) : State :=
  let r := if r.step = 2 && r.pages.isEmpty then { r with step := 3 } else r
  let r := if r.step = 3 && r.lines.isEmpty then { r with step := 4 } else r
  let s := { s with tier := { s.tier with rot := some r } }
  ((s.setF fRotStep r.step).setF fRotLeft r.pages.length).setF fRotActive 1

/-- A page of the rotation has been copied, or needs no copy. -/
def State.rotDone (s : State) (q : Nat) : State :=
  match s.tier.rot with
  | some r => if r.pages.contains q then s.setRot { r with pages := r.pages.erase q } else s
  | none => s

/-- ROTATION_PAGE_COPY: a written page is copied to a new frame of the same state under NEXT_SLOT. Below WARN (R444). -/
def State.rotCopy (s : State) (q : Nat) : State :=
  match s.tier.rot with
  | none => s
  | some r =>
    if r.step != 2 || !r.pages.contains q || 2 ≤ s.f fLevel || !s.migFree || s.pageHeld q then s else
    let p := s.page q
    if p.st = 4 then s
    else if p.st = 0 || p.newkey then s.rotDone q
    else
      let take := if p.st = 1 then (s.takeFrame).map (fun x => (4 * x.1, x.2)) else s.takePart p.cls
      match take with
      | some (u, s) => (s.pageTraffic q p false 4).startMig q 2 { p with frame := u, newkey := true }
      | none => s

/-- ROTATION_PAGE_COPY. -/
def execRotationPageCopy (page : BitVec 32) (s : State) : Res := whileUp s (·.rotCopy page.toNat)

/-- ROTATION_LINE_ADVANCE (step 3): one line is read with KEY_SLOT and written with NEXT_SLOT; the boundary advances. -/
def State.rotLine (s : State) : State :=
  match s.tier.rot with
  | some r =>
    match r.step, r.lines with
    | 3, (a, b) :: ls =>
      let pg := s.pageNow (a / 64)
      let s := s.reopen (64 * a)
      let s := (s.dramPush (s.dramFor pg (64 * a) false 4 0 0)).dramPush (s.dramFor pg (64 * a) true 4 0 0)
      let s := s.setRot { r with lines := if a + 1 < b then (a + 1, b) :: ls else ls }
      if (SMap.get (fun _ => none) s.tier.sealed a).isSome then
        { s with tier := { s.tier with sealed := SMap.set (fun _ => none) s.tier.sealed a (s.keyOf (64 * a)) } }
      else s
    | _, _ => s
  | none => s

/-- ROTATION_LINE_ADVANCE. -/
def execRotationLineAdvance (s : State) : Res := whileUp s State.rotLine

/-! ### Migration switches (R435) -/

/-- TIER_MIGRATION_SWITCH: the descriptor becomes the target's, and the source frame is freed. -/
def State.migSwitch (s : State) (i : Nat) : State :=
  match SMap.get (fun _ => none) s.tier.slots i with
  | none => s
  | some m =>
    if s.tick ≤ m.start then s else
    let cur := s.page m.page
    let s := (s.reopenPage m.page).pageTraffic m.page m.tgt true 4
    let s := (s.setPage m.page { m.tgt with heat := cur.heat, pin := cur.pin, lr := cur.lr }).sealPage m.page
    let s := s.leaveFrame m.src
    let s := { s with tier := { s.tier with slots := SMap.set (fun _ => none) s.tier.slots i none } }
    match m.kind with
    | 0 => s.inc (fTierCnt 0 32)
    | 1 => s.inc (fTierCnt 1 32)
    | 2 => s.rotDone m.page
    | 3 => s.freeLr m.page
    | _ => s

/-- TIER_MIGRATION_SWITCH. -/
def execTierMigrationSwitch (slot : TableId) (s : State) : Res := whileUp s (·.migSwitch slot.toNat)

/-! ### Headroom (R443, R446, R449; 19 R652) -/

/-- CXLP_DEVLOAD_STAT.FLOOR: the higher of the thermal source and the headroom source (19 R652). -/
def State.setFloor (s : State) : State :=
  let th := if s.f ⟨0xc08, 63, 1⟩ = 1 then s.f ⟨0xc00, 24, 2⟩ else 0
  let hd := if s.f fLevel = 3 then 3 else 0
  s.setF ⟨0x300408, 0, 2⟩ (max th hd)

/-- The 1 KiB units that the pages of a DPA run hold. -/
def State.unitsHeld (s : State) (dpa len : Nat) : Nat :=
  s.tier.pages.foldl (fun n e =>
    if dpa ≤ e.1 * 4096 && decide (e.1 * 4096 < dpa + len) then
      let p := s.pageNow e.1
      n + (if p.cls = 0 then 0 else 4 / p.cls)
    else n) 0

/-- Insert an extent in descending order of units held, ties by descending DPA. -/
def insertExtent (x : Nat × Nat × Seg) : List (Nat × Nat × Seg) → List (Nat × Nat × Seg)
  | [] => [x]
  | y :: ys => if y.1 < x.1 || (y.1 == x.1 && decide (y.2.2.dpa < x.2.2.dpa)) then x :: y :: ys else y :: insertExtent x ys

/-- At WARN, savings extents are asked back until the frames requested reach 2 Rf + ⌊Rf / 4⌋ - F (R446 step 2). -/
def State.askSavings (s : State) : State :=
  let need := 4 * (2 * s.rf + s.rf / 4 - s.freeFrames)
  let all := s.lds.flatMap (fun e => (e.2.segs.filter (fun g => g.kind == 3)).map (fun g => (s.unitsHeld g.dpa g.len, e.1, g)))
  let sorted := all.foldl (fun l x => insertExtent x l) ([] : List (Nat × Nat × Seg))
  (sorted.foldl (fun (acc : State × Nat) x =>
    if acc.2 < need then (acc.1.askRelease x.2.1 x.2.2.off x.2.2.len, acc.2 + x.1) else acc) (s, 0)).1

/-- The level rises by one (R443, R446). -/
def State.levelUp (s : State) : State :=
  let l := s.f fLevel + 1
  let f := s.freeFrames
  let s := (s.setF fLevel l).setIrq Irq.headroom
  if l = 1 then s.raise .headroomNotice 0 f
  else if l = 2 then (s.raise .headroomWarn 0 f).askSavings
  else (s.raise .headroomCritical 0 f).setFloor

/-- TIER_STAT: FREE_FRAMES, RESERVE_FRAMES and LEVEL at this tick (R443, R449). -/
def State.headroom (s : State) : State :=
  let f := s.freeFrames
  let rf := s.rf
  let s := (s.setF ⟨0x380010, 0, 31⟩ f).setF ⟨0x380010, 31, 31⟩ rf
  let want := if f < rf then 3 else if f < 2 * rf then 2 else if f < 3 * rf then 1 else 0
  let l := s.f fLevel
  if l < want then (List.range (want - l)).foldl (fun (s : State) _ => s.levelUp) s
  else if 0 < l && (4 - l) * rf + rf / 4 ≤ f then
    let s := (s.setF fLevel (l - 1)).setIrq Irq.headroom
    let s := s.raise .headroomClear (l - 1) f
    { s with tier := { s.tier with heatLim := 0, emergAt := none } }.setFloor
  else s

/-! ### Zeroing (17 R595, R596) -/

/-- ZERO_STAT. -/
abbrev fPassDone : F := ⟨0x838, 63, 1⟩
abbrev fZeroPending : F := ⟨0x838, 0, 31⟩

/-- Free frames not yet zeroed. -/
def State.zeroPending (s : State) : Nat :=
  let inPool (f : Nat) : Bool := decide (s.tier.zeroPos ≤ f) && !s.isOut f
  let freed := (s.tier.frames.filter (fun e => e.2.use == 0 && e.2.unz != 0 && !s.isOut e.1)).length
  let listed := (s.tier.frames.filter (fun e => inPool e.1)).length
  let ahead := (s.tier.zeroed.filter (fun e => inPool e.1 && s.frame e.1 == {})).length
  freed + (s.nFrames - s.tier.zeroPos - s.outCount s.tier.zeroPos - listed - ahead)

/-- The writes that zero a frame or part, in class MAINT (13 R465). -/
def State.zeroTraffic (s : State) (f i n : Nat) : State :=
  let a := s.rawBase + 4096 * f + 4096 / n * i
  (List.range (64 / n)).foldl (fun (s : State) l => s.dramPush (s.rawReq (a + 64 * l) true 4)) s

/-- A frame or part is zeroed: it may be handed out again. -/
def State.zeroOne (s : State) (f i n : Nat) : State :=
  let x := s.frame f
  let s := s.zeroTraffic f i n
  if n = 1 then
    let s := s.setFrame f { x with unz := 0 }
    { s with tier := { s.tier with zeroed := if s.tier.zeroPos ≤ f then setFlag s.tier.zeroed f true else s.tier.zeroed } }
  else s.setFrame f { x with unz := x.unz &&& ~~~((1 : BitVec 4) <<< i) }

/-- A frame of a range that returns is zeroed, and joins the free pool (14 R507 step 5). -/
def State.zeroBack (s : State) : State :=
  match s.tier.backs with
  | (a, b) :: rest =>
    let next := if a + 1 < b then [(a + 1, b)] else []
    let outs := s.tier.outs.filter (fun r => r != (a, b)) ++ next
    ({ s with tier := { s.tier with backs := next ++ rest, outs := outs } }).zeroOne a 0 1
  | [] => s

/-- ZERO_FRAME_DONE: the zeroing engine finishes one frame or part: of the zeroing queue, of a range that returns, and
otherwise of its pass. -/
def State.zeroFrame (s : State) : State :=
  let s := match s.tier.zeroQ with
    | (f, i, n) :: rest => ({ s with tier := { s.tier with zeroQ := rest } }).zeroOne f i n
    | [] =>
      if !s.tier.backs.isEmpty then s.zeroBack
      else if s.tier.zeroing && decide (s.tier.zeroPos < s.nFrames) then
        let p := s.tier.zeroPos + 1
        let s := { s with tier := { s.tier with zeroPos := p, zeroed := setFlag s.tier.zeroed (p - 1) false } }.zeroTraffic (p - 1) 0 1
        if s.nFrames ≤ p then ({ s with tier := { s.tier with zeroing := false } }).setF fPassDone 1 else s
      else s
  let s := if s.tier.zeroQ.isEmpty then { s with prt := { s.prt with zeroing := [] } } else s
  s.retryZero.setF fZeroPending s.retryZero.zeroPending

/-- ZERO_FRAME_DONE. -/
def execZeroFrameDone (s : State) : Res := whileUp s State.zeroFrame

/-- The lowest free frame that is not zeroed. -/
def State.unzeroedFrame (s : State) : Option Nat :=
  let a := (s.tier.frames.find? (fun e => e.2.use == 0 && e.2.unz != 0 && !s.isOut e.1)).map (fun e => e.1)
  let b := s.gapFrom s.tier.zeroPos
  match a, b with
  | some x, some y => some (min x y)
  | some x, none => some x
  | none, y => y

/-- ON_DEMAND_ZERO: free frames exist, none is zeroed, and a request waits: the lowest unzeroed one is zeroed. -/
def State.onDemand (s : State) : State :=
  if s.tier.zeroWait.isEmpty || s.zeroedFrame.isSome then s else
  match s.unzeroedFrame with
  | none => s
  | some f =>
    let s := { s with tier := { s.tier with zeroQ := s.tier.zeroQ.filter (fun e => e.1 != f) } }
    (s.zeroOne f 0 1).retryZero

/-- ON_DEMAND_ZERO. -/
def execOnDemandZero (s : State) : Res := whileUp s State.onDemand

end Sys2Proof.Machine
end

