-- ==== Sys2Proof/Machine/Owner.lean ====
section
/-! DEFINITION. Owner commands about domains, LDs, contexts, captures, tiers and keys (18 R628 to R631, and the rules that
its table names). -/

namespace Sys2Proof.Machine

/-! ### Key slots (17 R604) -/

/-- The key pair of slot `n`, if it is loaded. -/
def State.key (s : State) (n : Nat) : Option (BitVec 256 × BitVec 256) := SMap.get (fun _ => none) s.life.keys n
/-- Load or erase slot `n`. -/
def State.setKey (s : State) (n : Nat) (k : Option (BitVec 256 × BitVec 256)) : State :=
  { s with life := { s.life with keys := SMap.set (fun _ => none) s.life.keys n k } }
/-- An enabled domain names the slot in KEY_SLOT, or in NEXT_SLOT while it rotates. -/
def State.slotBound (s : State) (n : Nat) : Bool :=
  (List.range 4096).any (fun d => s.domEnabled d && (s.domSlot d == n || (s.domRotating d && s.domNext d == n)))
/-- The slot state: 0 EMPTY, 1 LOADED, 2 BOUND. -/
def State.slotState (s : State) (n : Nat) : Nat :=
  if (s.key n).isNone then 0 else if s.slotBound n then 2 else 1

/-! ### Domains and the LD map -/

/-- DOMAIN_CREATE. -/
def execDomainCreate (via : OwnerPath) (domain slot : BitVec 16) (s : State) : Res :=
  whileUp s (fun s =>
    let d := domain.toNat
    let k := slot.toNat
    let bad := firstBad [(decide (4096 ≤ d) || decide (4096 ≤ k), St.malformed), (s.domEnabled d, St.malformed),
      (s.slotState k == 0, St.malformed), (s.slotState k == 2, St.locked)]
    s.owner1 via 0x01 bad (·.setDword (domAddr d) (BitVec.ofNat 64 (2 ^ 63 + k))))

/-- Something names the domain: a table, a context, an LD map entry, a mirrored region or a rotation. -/
def State.domNamed (s : State) (d : Nat) : Bool :=
  s.tbl.any (fun e => e.2.state != 0 && !e.2.sys && e.2.domain == d) ||
  s.ctx.any (fun e => e.2.assigned && e.2.domain == d) ||
  (List.range 32).any (fun n => s.ldValid n && s.ldDomain n == d) ||
  (List.range 64).any (fun n => bit (s.reg (0x3c0100 + 8 * n)) 63 && fld (s.reg (0x3c0100 + 8 * n)) 48 12 == d) ||
  (match s.tier.rot with | some r => r.dom == d | none => false)

/-- DOMAIN_DESTROY. -/
def execDomainDestroy (via : OwnerPath) (domain : BitVec 16) (s : State) : Res :=
  whileUp s (fun s =>
    let d := domain.toNat
    let bad := firstBad [(decide (4096 ≤ d), St.malformed), (s.domNamed d, St.locked)]
    s.owner1 via 0x02 bad (·.setDword (domAddr d) 0))

/-- Another LD, of another domain, maps a DPA run that this LD maps (10 R341). -/
def State.sharesAcross (s : State) (ld d : Nat) : Bool :=
  (List.range 32).any (fun n => n != ld && s.ldValid n && s.ldDomain n != d &&
    (s.ld n).segs.any (fun g => (s.ld ld).segs.any (fun h => runsMeet g.dpa g.len h.dpa h.len)))

/-- LD_MAP_SET. -/
def execLdMapSet (via : OwnerPath) (ldid : Byte) (valid : Bool) (domain : BitVec 16) (s : State) : Res :=
  whileUp s (fun s =>
    let n := ldid.toNat
    let d := domain.toNat
    let bad := firstBad [(decide (32 ≤ n) || decide (4096 ≤ d), St.malformed), (valid && !s.domEnabled d, St.malformed),
      (valid && s.sharesAcross n d, St.malformed)]
    s.owner1 via 0x03 bad (fun s =>
      let s := s.setLdMap n (BitVec.ofNat 64 ((if valid then 2 ^ 63 else 0) + d))
      if valid then s else s.drainLd n false))

/-- WINDOW_MAP (11 R394). -/
def execWindowMap (via : OwnerPath) (ldid : Byte) (map : Bool) (ldOffset : BitVec 64) (s : State) : Res :=
  whileUp s (fun s =>
    let n := ldid.toNat
    let o := ldOffset.toNat
    let l := s.ld n
    let bad := firstBad [(decide (32 ≤ n) || o % unit256 != 0, St.malformed),
      (map && (l.segs.any (fun g => runsMeet o unit256 g.off g.len || g.kind == 2) ||
        l.regions.any (fun e => runsMeet o unit256 e.2.1 e.2.2)), St.malformed),
      (map && decide (1024 ≤ l.segs.length), St.noRoom)]
    s.owner1 via 0x04 bad (·.updLd n (fun l =>
      if map then { l with segs := l.segs ++ [{ off := o, dpa := s.winBase + n * unit256, len := unit256, kind := 2 }] }
      else { l with segs := l.segs.filter (fun g => g.kind != 2) })))

/-- LD_MGMT_SET (10 R357). -/
def execLdMgmtSet (via : OwnerPath) (ldid : Byte) (bar0 inj : Bool) (s : State) : Res :=
  whileUp s (fun s =>
    let n := ldid.toNat
    let bad := firstBad [(decide (32 ≤ n), St.malformed), (s.f fLcLock == 1, St.locked)]
    s.owner1 via 0x05 bad (fun s =>
      (s.setF (ldBar0 n) (if bar0 then 1 else 0)).setF (ldInj n) (if inj then 1 else 0)))

/-! ### Contexts -/

/-- CTX_ASSIGN (11 R372, R373). -/
def execCtxAssign (via : OwnerPath) (ctx domain : BitVec 16) (steward ldid sport : Byte) (s : State) : Res :=
  whileUp s (fun s =>
    let c := ctx.toNat
    let d := domain.toNat
    let n := ldid.toNat
    let bad := firstBad [
      (decide (4096 ≤ c) || decide (4096 ≤ d) || decide (2 ≤ steward.toNat) || decide (32 ≤ n) || decide (8 ≤ sport.toNat),
        St.malformed),
      ((s.cx c).state != 0, St.locked), (!s.ldValid n || s.ldDomain n != d, St.privilege)]
    s.owner1 via 0x10 bad (·.updCx c (fun x =>
      { x with assigned := true, domain := d, steward := steward == 1, ldid := n, sport := sport.toNat })))

/-- CTX_DISABLE (11 R408, R409). -/
def execCtxDisable (via : OwnerPath) (ctx : BitVec 16) (reset : Bool) (s : State) : Res :=
  whileUp s (fun s =>
    let c := ctx.toNat
    s.owner1 via 0x11 (firstBad [(decide (4096 ≤ c), St.malformed)]) (fun s =>
      if reset then s.resetCtx c else if (s.cx c).state = 1 then s.drain c false else s))

/-- Word 0 of the context table entry (11 R373), as CTX_ASSIGN shows it. -/
def Ctx.entry0 (x : Ctx) : Word :=
  BitVec.ofNat 64 (x.state * 2 ^ 62 + (if x.steward then 2 ^ 61 else 0) + x.sport * 2 ^ 58 + x.ldid * 2 ^ 53 +
    (if x.assigned then 2 ^ 12 else 0) + x.domain)
/-- Word 1. -/
def Ctx.entry1 (x : Ctx) : Word :=
  BitVec.ofNat 64 (x.incarnation * 2 ^ 48 + (match x.mq with | some q => 2 ^ 8 + q | none => 0))

/-! ### Captures (05 R187, R192; 18 R629) -/

/-- The body of the image of table `t` and its record count (R190, R192). -/
def State.imageBody (s : State) (t : Nat) : List Byte × Nat :=
  let r := s.tb t
  if isArray r.kind then
    let rows := sortBy Row.handle (((s.rowsOf t).filter (fun e => e.2.live)).map (fun e => e.2))
    (rows.flatMap (fun w => (((w.setV false).setG false).setTable 0).image), rows.length)
  else if r.kind = 2 then
    let ps := sortBy (fun (e : BitVec 128 × Nat × Word) => e.2.1 * 2 ^ 128 + e.1.toNat) r.prefixes
    (ps.flatMap (fun e => leBytes 16 e.1.toNat ++ leBytes 8 e.2.2.toNat ++ leBytes 8 e.2.1), ps.length)
  else if r.kind = 1 then
    let es := ((List.range r.count).map (fun i => (i, s.dword (r.regionBase * 1024 + i)))).filter (fun e => e.2 != 0)
    (es.flatMap (fun e => leBytes 8 e.1 ++ leBytes 8 e.2.toNat), es.length)
  else (r.image, 1)

/-- The table image of table `t` (R187, R188, R192). -/
def State.tableImage (s : State) (t : Nat) : List Byte :=
  let r := s.tb t
  let b := s.imageBody t
  let head := leBytes 4 0x49534B54 ++ leBytes 2 1 ++ leBytes 1 r.kind ++ leBytes 1 (if isArray r.kind then 1 else 0) ++
    leBytes 4 b.2 ++ leBytes 2 (TImg.sizeOf r.kind) ++ leBytes 2 1 ++ leBytes 8 b.1.length ++ leBytes 8 s.tick ++
    leBytes 2 r.gen ++ leBytes 2 r.domain ++ leBytes 1 t ++ leBytes 3 0 ++ leBytes 4 0x80 ++ leBytes 16 0
  let rest := leBytes 64 r.profile.toNat ++ b.1
  head ++ leBytes 4 (crc32c (head ++ leBytes 4 0 ++ rest)) ++ rest

/-- TABLE_CAPTURE. -/
def execTableCapture (via : OwnerPath) (table : TableId) (dest len : BitVec 64) (s : State) : Res :=
  whileUp s (fun s =>
    let r := s.tb table.val
    let img := s.tableImage table.val
    let a := dest.toNat
    let pages := (a % 4096 + len.toNat + 4095) / 4096
    let bad := firstBad [(r.state == 0 || a % 64 != 0 || decide (2 ^ 44 < a + len.toNat), St.malformed),
      (!(List.range pages).all (fun i => s.pageOf r.domain (a / 4096 + i)), St.privilege),
      (decide (len.toNat < img.length), St.noRoom)]
    s.ownerLong via 0x24 bad (fun s => (s.deviceWrite 4 0 a img).ownerEnd via 0x24 St.success (leBytes 8 img.length)))

/-! ### Tier commands of a steward (12 R440, R441, R445; 18 R630) -/

/-- A steward command is accepted only from the mailbox, while its holder is the bound LD of the named, enabled steward
context. -/
def State.stewardOk (s : State) (via : OwnerPath) (c : Nat) : Bool :=
  let x := s.cx c
  match via with
  | .mailbox _ => x.state == 1 && x.steward && s.mbox.holder.map (fun n => n.val) == some x.ldid
  | .fmApi _ => false

/-- Execute a steward command; R602 does not govern it, and the FM API never carries it (18 R630). -/
def State.stewardCmd (s : State) (via : OwnerPath) (code : Nat) (bad : Option Nat) (eff : State → State) : State :=
  if !s.fwFree then s
  else match (match via with | .fmApi _ => some St.privilege | .mailbox _ => bad) with
    | some st => s.ownerEnd via code st
    | none => (eff s).ownerEnd via code St.success

/-- TIER_SET_POLICY. -/
def execTierSetPolicy (via : OwnerPath) (ctx : BitVec 16) (demote quarter : Bool) (coldMax hotMin : Byte) (s : State) : Res :=
  whileUp s (fun s =>
    let c := ctx.toNat
    let lo := coldMax.toNat
    let hi := hotMin.toNat
    let bad := firstBad [(decide (4096 ≤ c), St.malformed), (!s.stewardOk via c, St.privilege),
      (decide (hi ≤ lo) || decide (15 < hi), St.malformed)]
    let w := (if quarter then 2 ^ 9 else 0) + (if demote then 2 ^ 8 else 0) + hi * 16 + lo
    s.stewardCmd via 0x30 bad (·.setReg (0x381000 + 8 * (s.cx c).domain) (BitVec.ofNat 64 w)))

/-- The checks of TIER_PIN and TIER_UNPIN (R441). -/
def State.pinBad (s : State) (via : OwnerPath) (c a n : Nat) : Option Nat :=
  firstBad [(decide (4096 ≤ c) || a % 4096 != 0 || n == 0 || decide (262144 < n), St.malformed),
    (!s.stewardOk via c, St.privilege),
    (!(List.range n).all (fun i => (match s.region (a / 4096 + i) with | some (2, _) => true | _ => false) &&
        s.pageOf (s.cx c).domain (a / 4096 + i)), St.privilege)]

/-- Set or clear PIN on a run of pages. -/
def State.pinPages (s : State) (a n : Nat) (v : Bool) : State :=
  (List.range n).foldl (fun (s : State) i => s.setPage (a / 4096 + i) { s.page (a / 4096 + i) with pin := v }) s

/-- TIER_PIN. -/
def execTierPin (via : OwnerPath) (ctx : BitVec 16) (dpa : BitVec 64) (count : BitVec 32) (s : State) : Res :=
  whileUp s (fun s => s.stewardCmd via 0x31 (s.pinBad via ctx.toNat dpa.toNat count.toNat)
    (·.pinPages dpa.toNat count.toNat true))

/-- TIER_UNPIN. -/
def execTierUnpin (via : OwnerPath) (ctx : BitVec 16) (dpa : BitVec 64) (count : BitVec 32) (s : State) : Res :=
  whileUp s (fun s => s.stewardCmd via 0x32 (s.pinBad via ctx.toNat dpa.toNat count.toNat)
    (·.pinPages dpa.toNat count.toNat false))

/-- The units of savings that may be offered (R445). -/
def State.offerable (s : State) : Nat := min ((s.freeFrames - 2 * s.rf) / 65536) (49152 - s.presented)

/-- TIER_OFFER. -/
def execTierOffer (via : OwnerPath) (ldid region : Byte) (length : BitVec 64) (s : State) : Res :=
  whileUp s (fun s =>
    let n := ldid.toNat
    let k := length.toNat / unit256
    let bad := firstBad [
      (decide (32 ≤ n) || decide (8 ≤ region.toNat) || length.toNat % unit256 != 0 || k == 0, St.malformed),
      (decide (s.offerable < k) || (s.offer n region.toNat k 3).isNone, St.noRoom)]
    s.ownerLong via 0x33 bad (fun s =>
      ((s.offer n region.toNat k 3).getD s).ownerEnd via 0x33 St.success (leBytes 8 length.toNat)))

/-! ### Key rotation (12 R453) -/

/-- The UNIFORM runs of lines of a domain: first line and end line. -/
def State.uniformLines (s : State) (d : Nat) : List (Nat × Nat) :=
  (s.tb 254).prefixes.filterMap (fun e =>
    let q := e.1.toNat
    if fld e.2.2 62 2 = 1 && s.domainOf (4096 * q) == some d then some (64 * q, 64 * (q + 2 ^ (32 - e.2.1))) else none)

/-- KEY_ROTATE. -/
def execKeyRotate (via : OwnerPath) (domain slot : BitVec 16) (s : State) : Res :=
  whileUp s (fun s =>
    let d := domain.toNat
    let k := slot.toNat
    let bad := firstBad [(decide (4096 ≤ d) || decide (4096 ≤ k), St.malformed), (!s.domEnabled d, St.malformed),
      (s.tier.rot.isSome, St.locked), (s.slotState k == 0, St.malformed), (s.slotState k == 2, St.locked)]
    s.ownerLong via 0x34 bad (fun s =>
      let w := putFld (putFld (s.dword (domAddr d)) 24 12 k) 36 1 1
      let s := (s.setDword (domAddr d) w).setF fRotDom d
      let pages := (s.tier.pages.filter (fun e => e.2.st != 0 && s.domainOf (4096 * e.1) == some d)).map (fun e => e.1)
      s.setRot { via := via, dom := d, step := 2, pages := pages, lines := s.uniformLines d }))

/-- ROTATION_FINISH: KEY_SLOT takes NEXT_SLOT, NEWKEY clears in every descriptor of the domain, ROTATING clears and the
old slot is erased. Step changes wait for firmware (17 R609). -/
def State.rotFinish (s : State) : State :=
  match s.tier.rot with
  | some r =>
    if r.step < 4 || !s.ras.mpRunning then s else
    let old := s.domSlot r.dom
    let w := s.dword (domAddr r.dom)
    let w := putFld (putFld (putFld w 0 12 (s.domNext r.dom)) 36 1 0) 24 12 0
    let s := (s.setDword (domAddr r.dom) w).setKey old none
    let mine := (s.tier.pages.filter (fun e => e.2.newkey && s.domainOf (4096 * e.1) == some r.dom)).map (fun e => e.1)
    let s := mine.foldl (fun (s : State) q => s.setPage q { s.page q with newkey := false }) s
    let done (p : Page) : Page := { p with newkey := false }
    let slots := s.tier.slots.map (fun e => (e.1, e.2.map (fun m =>
      if s.domainOf (4096 * m.page) == some r.dom then { m with src := done m.src, tgt := done m.tgt } else m)))
    let s := { s with tier := { s.tier with rot := none, slots := slots } }
    let s := (s.setReg 0x380040 0)
    s.ownerEnd r.via 0x34 St.success
  | none => s

/-- ROTATION_FINISH. -/
def execRotationFinish (s : State) : Res := whileUp s State.rotFinish

/-- OWNER_CMD_UNKNOWN (R628). -/
def execOwnerCmdUnknown (via : OwnerPath) (code : BitVec 16) (s : State) : Res :=
  whileUp s (fun s => s.owner1 via code.toNat (some St.malformed) (fun s => s))

end Sys2Proof.Machine
end

