-- ==== Sys2Proof/Machine/Cal.lean ====
section
/-! DEFINITION. Delay values, nudges, shadow samplers and the user store (14 R488 to R504), shared by the DRAM channels and
the training commands. -/

namespace Sys2Proof.Machine

/-- Offset `o` of channel `c`. -/
abbrev chOff (c o : Nat) : Nat := 0x200000 + 0x10000 * c + o

/-- DLY_LANE[k][l] fields. -/
abbrev offLane (c k l : Nat) : Nat := chOff c (0x2000 + 0x80 * k + 8 * l)
abbrev fRdDqs (c k l : Nat) : F := ⟨offLane c k l, 0, 10⟩
abbrev fRdVref (c k l : Nat) : F := ⟨offLane c k l, 32, 8⟩
abbrev fTrVref (c k l : Nat) : F := ⟨offLane c k l, 40, 8⟩
abbrev fTrDqs (c k l : Nat) : F := ⟨offLane c k l, 48, 10⟩
/-- CAL_NUDGE[k], CAL_RANK[k] and CAL_CTRL fields. -/
abbrev offNudge (c k : Nat) : Nat := chOff c (0x6800 + 8 * k)
abbrev fNudgePend (c k : Nat) : F := ⟨offNudge c k, 63, 1⟩
abbrev fNudges (c k : Nat) : F := ⟨chOff c (0x6840 + 8 * k), 16, 16⟩
abbrev fDrift (c k : Nat) : F := ⟨chOff c (0x6840 + 8 * k), 0, 10⟩
abbrev fDriftMax (c : Nat) : F := ⟨chOff c 0x6880, 0, 8⟩

/-! ### The user store (R497 to R500) -/

/-- A register that the user store holds: DRC_TIMING, DLY_LANE or DLY_BIT of a channel. -/
def calReg (off : Nat) : Bool :=
  let o := off % 0x10000
  decide (0x200000 ≤ off) && decide (off < 0x2c0000) &&
  (o == 0x1000 || o == 0x1008 || (decide (0x2000 ≤ o) && decide (o < 0x2400)) || (decide (0x3000 ≤ o) && decide (o < 0x5000)))

/-- The valid copy with the higher SEQ. -/
def State.calBest (s : State) : Option CalCopy :=
  match s.trn.copyA, s.trn.copyB with
  | some a, some b => some (if a.seq < b.seq then b else a)
  | some a, none => some a
  | none, b => b

/-- The chosen copy's record of a channel is of the modules that the channel holds now (R499). -/
def State.spdMatch (s : State) (x : CalCopy) (c : Nat) : Bool :=
  SMap.get (fun _ => 0) x.spd c == SMap.get (fun _ => 0) s.dram.spd c

/-- Firmware writes the copy that it did not choose, with SEQ one higher. -/
def State.storeCal (s : State) : State :=
  if !s.ras.mpRunning then s else
  let new (n : Nat) : CalCopy := { seq := n, vals := s.regs.filter (fun e => calReg e.1), spd := s.dram.spd }
  let toB := match s.trn.copyA, s.trn.copyB with
    | some a, some b => decide (b.seq ≤ a.seq)
    | some _, none => true
    | none, _ => false
  let c := new ((s.calBest.map (fun c => c.seq)).getD 0 + 1)
  let s := { s with trn := { s.trn with lastStore := s.tick + 1 } }
  if toB then { s with trn := { s.trn with copyB := some c } } else { s with trn := { s.trn with copyA := some c } }

/-! ### Shadow samplers (R501, R502) -/

/-- The live counters of the sampler of lane `l`. -/
def State.sampler (s : State) (c k l : Nat) : Sampler := SMap.get (fun _ => {}) s.trn.samplers ((8 * c + k) * 10 + l)
/-- Replace them. -/
def State.setSampler (s : State) (c k l : Nat) (x : Sampler) : State :=
  { s with trn := { s.trn with samplers := SMap.set (fun _ => {}) s.trn.samplers ((8 * c + k) * 10 + l) x } }

/-- A burst that the sampler takes counts on its side; a side stops at 65,535 samples. -/
def Sampler.take (x : Sampler) (err : Bool) : Sampler :=
  let e := if err then 1 else 0
  if x.hi then
    if x.sampHi < 65535 then { x with skip := 0, hi := false, sampHi := x.sampHi + 1, errHi := x.errHi + e }
    else { x with skip := 0, hi := false }
  else
    if x.sampLo < 65535 then { x with skip := 0, hi := true, sampLo := x.sampLo + 1, errLo := x.errLo + e }
    else { x with skip := 0, hi := true }

/-- A read burst of sub-channel `sub` of a rank, clean or corrected, passes the enabled samplers of its five lanes: each
takes every 16th. -/
def State.sampleBurst (s : State) (c k sub : Nat) (laneBad : BitVec 10) : State :=
  (List.range 5).foldl (fun (s : State) i =>
    let l := 5 * sub + i
    if s.f ⟨chOff c (0x6000 + 0x80 * k + 8 * l), 63, 1⟩ = 0 then s
    else
      let x := s.sampler c k l
      s.setSampler c k l (if x.skip < 15 then { x with skip := x.skip + 1 } else x.take (laneBad.getLsbD l))) s

/-- A snapshot of a channel: the live counters go to CAL_MARGIN and clear (R502). -/
def State.snapshot (s : State) (c : Nat) : State :=
  (List.range 80).foldl (fun (s : State) i =>
    let k := i / 10
    let l := i % 10
    let x := s.sampler c k l
    let s := s.setReg (chOff c (0x6400 + 0x80 * k + 8 * l))
      (BitVec.ofNat 64 (x.sampLo + 2 ^ 16 * x.errLo + 2 ^ 32 * x.sampHi + 2 ^ 48 * x.errHi))
    s.setSampler c k l { x with sampLo := 0, errLo := 0, sampHi := 0, errHi := 0 }) s

/-! ### Nudges (R503, R504) -/

/-- The step of a code: none, +1 or -1. -/
def nudgeStep (code : Nat) : Int := if code = 1 then 1 else if code = 3 then -1 else 0

/-- One coded step of a lane: RD_DQS, or RD_VREF. A step that would leave the reach of DRIFT_MAX from the trained value is
refused: DRIFT and CAL_DRIFT. Past the end of the field the manual states no result: a free value (log 2). -/
def State.nudgeField (s : State) (c k l code : Nat) (val trained : F) : State :=
  let d := nudgeStep code
  if d = 0 then s else
  let new : Int := (s.f val : Int) + d
  if (new - (s.f trained : Int)).natAbs > s.f (fDriftMax c) then
    let bits := (BitVec.ofNat 10 (s.f (fDrift c k))) ||| ((1 : BitVec 10) <<< l)
    (s.setF (fDrift c k) bits.toNat).raise .calDrift (argCK c k) bits.toNat
  else if 0 ≤ new && new < (2 ^ val.n : Nat) then s.setF val new.toNat
  else
    let r := s.free
    r.2.setF val (r.1.toNat % 2 ^ val.n)

/-- The staged nudge of a rank takes effect (R503), and firmware keeps the values, at most once in 10 minutes (R498). -/
def State.applyNudge (s : State) (c k : Nat) : State :=
  if s.f (fNudgePend c k) = 0 then s else
  let w := s.reg (offNudge c k)
  let s := (List.range 10).foldl (fun (s : State) l =>
    let dq := fld w (2 * l) 2
    let vr := fld w (20 + 2 * l) 2
    let s := s.nudgeField c k l dq (fRdDqs c k l) (fTrDqs c k l)
    let s := s.nudgeField c k l vr (fRdVref c k l) (fTrVref c k l)
    if nudgeStep dq = 0 && nudgeStep vr = 0 then s
    else s.setSampler c k l { s.sampler c k l with sampLo := 0, errLo := 0, sampHi := 0, errHi := 0 }) s
  let s := (s.setF (fNudgePend c k) 0).inc (fNudges c k)
  if s.trn.lastStore = 0 || decide (s.trn.lastStore + 300000000000 ≤ s.tick + 1) then s.storeCal else s

end Sys2Proof.Machine
end

