-- ==== Sys2Proof/Machine/Dram.lean ====
section
/-! DEFINITION. The DRAM controllers: command selection, refresh, power states, ECC, mapping, shares, channel retirement
(13; 16 R555 to R559). -/

namespace Sys2Proof.Machine

/-! ### Ranks and banks -/

/-- DRC_REF_STAT[c][k], DRC_PAGE_CNT, RAS_ECC_CNT fields. -/
abbrev fDebt (c k : Nat) : F := ⟨chOff c (0x40 + 8 * k), 0, 8⟩
abbrev fPstate (c k : Nat) : F := ⟨chOff c (0x40 + 8 * k), 24, 2⟩
abbrev fPullIns (c k : Nat) : F := ⟨chOff c (0x40 + 8 * k), 32, 16⟩
abbrev fHits (c : Nat) : F := ⟨chOff c 0x180, 32, 32⟩
abbrev fActivates (c : Nat) : F := ⟨chOff c 0x180, 0, 32⟩

/-- The controller's record of rank `k` of channel `c`. -/
def State.rk (s : State) (c k : Nat) : RankSt := SMap.get (fun _ => {}) s.dram.ranks (8 * c + k)
/-- Change it. -/
def State.updRk (s : State) (c k : Nat) (f : RankSt → RankSt) : State :=
  { s with dram := { s.dram with ranks := SMap.set (fun _ => {}) s.dram.ranks (8 * c + k) (f (s.rk c k)) } }

/-- The rank serves requests and owes refresh: ACTIVE, EVACUATING, REDIRECTED or RESTORING (14 R509, R510). -/
def State.rankLive (s : State) (c k : Nat) : Bool :=
  let r := s.f (fRstate c k)
  (r == 1 || r == 2 || r == 3 || r == 5) && s.f (fChState c) != 2

/-- The refresh interval of a rank (R473). -/
def State.refInterval (s : State) (c k : Nat) : Nat :=
  let t := s.f ⟨chOff c 0x18, 32, 16⟩
  if s.f (fDouble c k) = 1 then t / 2 else t

/-- Same-bank mode (R473). -/
def State.sameBank (s : State) (c : Nat) : Bool := s.f ⟨chOff c 0x18, 0, 1⟩ == 1

/-- The key of the bank of a request. -/
def bankKey (c sub k b : Nat) : Nat := ((c * 2 + sub) * 8 + k) * 32 + b
/-- The key of a request's bank and row. -/
def DReq.bank' (r : DReq) : Nat := bankKey r.chan r.sub r.rank r.bank
def DReq.rowKey (r : DReq) : Nat := r.bank' * 2 ^ 18 + r.row

/-- The bank of a request. -/
def State.bankOf (s : State) (r : DReq) : BankSt := SMap.get (fun _ => {}) s.dram.banks r.bank'

/-- Change the banks of a rank whose number satisfies `p`. -/
def State.updBanks (s : State) (c k : Nat) (p : Nat → Bool) (f : BankSt → BankSt) : State :=
  let of (key : Nat) : Bool := (key / 32 == (c * 2) * 8 + k || key / 32 == (c * 2 + 1) * 8 + k) && p (key % 32)
  let m := s.dram.banks.map (fun e => if of e.1 then (e.1, f e.2) else e)
  let m := m.filter (fun e => e.2 != ({} : BankSt))
  { s with dram := { s.dram with banks := m } }

/-- A request of the rank holds a queue entry or waits for one. -/
def State.rankQueued (s : State) (c k : Nat) : Bool :=
  s.dram.queue.any (fun x => x.chan == c && x.rank == k && decide (x.stage < 2))

/-! ### Refresh (R473 to R478, 14 R503, R504) -/

/-- One refresh command of a rank, with its banks closed: a REFab pays 4 quarters and applies a staged nudge, and a
REFsb pays 1. A staged nudge makes it a REFab. -/
def State.refresh (s : State) (c k : Nat) (urgent : Bool) : State :=
  let nudge := s.f (fNudgePend c k) == 1
  let dq := s.f (fDebt c k)
  let sb := (s.rk c k).sb
  let s := if urgent then s.inc (fPullIns c k) else s
  let s := if s.f (fPstate c k) = 1 then s.setF (fPstate c k) 0 else s
  if s.sameBank c && !nudge then
    let s := s.updBanks c k (fun b => b % 4 == sb) (fun b => { b with opened := false })
    let s := s.setF (fDebt c k) (dq - 1)
    s.updRk c k (fun r => { r with sb := (sb + 1) % 4, busy := s.tick + s.f ⟨chOff c 0x18, 24, 8⟩, last := s.tick })
  else
    let s := s.updBanks c k (fun _ => true) (fun b => { b with opened := false })
    let s := s.setF (fDebt c k) (dq - 4)
    let s := s.updRk c k (fun r => { r with sb := if s.sameBank c then 0 else r.sb, busy := s.tick + s.f ⟨chOff c 0x18, 48, 16⟩, last := s.tick })
    s.applyNudge c k

/-- No SHP burst of the rank is in progress (R470). -/
def State.atBoundary (s : State) (c k : Nat) : Bool :=
  [2 * c, 2 * c + 1].all (fun i => let v := num s.dram.burst i; v == 0 || v / 8 / 2 ^ 18 / 32 % 8 != k)

/-- The refresh work of a channel: urgent at a burst boundary, and otherwise on a rank without a request (R468, R475). -/
def State.refreshWork (s : State) (c : Nat) : State :=
  (List.range 8).foldl (fun (s : State) k =>
    let dq := s.f (fDebt c k)
    if !s.rankLive c k || decide (2 ≤ s.f (fPstate c k)) || decide (s.tick < (s.rk c k).busy) || !s.atBoundary c k then s
    else if 16 < dq then s.refresh c k true
    else if !s.rankQueued c k && decide ((if s.sameBank c then 1 else 4) ≤ dq) then s.refresh c k false
    else s) s

/-- REFRESH_INTERVAL (R473): a rank's interval ends, and its debt rises by 4. -/
def execRefreshInterval (chan : Fin 12) (rank : Fin 8) (s : State) : Res :=
  whileUp s (fun s =>
    let c := chan.val
    let k := rank.val
    let r := s.rk c k
    s.when (s.rankLive c k && decide (s.f (fPstate c k) < 2) && decide (r.due ≤ s.tick)) (fun s =>
      (s.setF (fDebt c k) (min 255 (s.f (fDebt c k) + 4))).updRk c k (fun r => { r with due := r.due + max 1 (s.refInterval c k) })))

/-- MR4_READ_DUE (R476): a rank in self-refresh is read as the first command after its exit. -/
def execMr4ReadDue (chan : Fin 12) (rank : Fin 8) (s : State) : Res :=
  whileUp s (fun s =>
    let c := chan.val
    let k := rank.val
    s.when (s.rankLive c k && s.tick % 8000000 == 83333 * (8 * c + k) % 8000000) (·.updRk c k (fun r => { r with mr4 := true })))

/-- MR4_RESULT (R476, R477): a change of rate rescales the debt, restarts the interval timer and moves U. -/
def State.mr4Result (s : State) (c k code : Nat) : State :=
  if !(s.rk c k).mr4 || !s.rankLive c k || decide (2 ≤ s.f (fPstate c k)) then s else
  let s := s.updRk c k (fun r => { r with mr4 := false })
  let dbl := decide (s.f ⟨chOff c 0x18, 8, 3⟩ ≤ code)
  let was := s.f (fDouble c k) == 1
  if dbl == was then s else
  let dq := s.f (fDebt c k)
  let s := s.setF (fDouble c k) (if dbl then 1 else 0)
  let s := s.setF (fDebt c k) (min 255 (if dbl then 2 * dq else (dq + 1) / 2))
  (s.updRk c k (fun r => { r with due := s.tick + s.refInterval c k })).qosUpdate

/-- MR4_RESULT. -/
def execMr4Result (chan : Fin 12) (rank : Fin 8) (code : BitVec 3) (s : State) : Res :=
  whileUp s (·.mr4Result chan.val rank.val code.toNat)

/-! ### Power-down and self-refresh (R479, R480) -/

/-- PD_TIMER, at least 64, and the self-refresh time (0: disabled). -/
def State.pdTime (s : State) (c : Nat) : Nat := max 64 (s.f ⟨chOff c 0x20, 0, 16⟩)
def State.srTime (s : State) (c : Nat) : Nat := 1024 * s.f ⟨chOff c 0x20, 48, 16⟩

/-- The rank has been idle for `n` ticks. -/
def State.idleFor (s : State) (c k n : Nat) : Bool :=
  s.rankLive c k && !s.rankQueued c k && decide (s.f (fDebt c k) ≤ 16) && decide ((s.rk c k).last + n ≤ s.tick) &&
  decide ((s.rk c k).busy ≤ s.tick)

/-- POWER_DOWN_ENTER: a rank whose self-refresh time is not longer goes straight to self-refresh. -/
def execPowerDownEnter (chan : Fin 12) (rank : Fin 8) (s : State) : Res :=
  whileUp s (fun s =>
    let c := chan.val
    let k := rank.val
    s.when (s.f (fPstate c k) == 0 && s.idleFor c k (s.pdTime c) && !(decide (0 < s.srTime c) && decide (s.srTime c ≤ s.pdTime c)))
      (·.setF (fPstate c k) 1))

/-- Refresh commands until the debt is zero. -/
def State.payDebt (s : State) (c k : Nat) : State :=
  (List.range (s.f (fDebt c k))).foldl (fun (s : State) _ => if s.f (fDebt c k) = 0 then s else s.refresh c k false) s

/-- SELF_REFRESH_ENTER: the rank first pays its debt to zero. -/
def execSelfRefreshEnter (chan : Fin 12) (rank : Fin 8) (s : State) : Res :=
  whileUp s (fun s =>
    let c := chan.val
    let k := rank.val
    s.when (decide (s.f (fPstate c k) < 2) && decide (0 < s.srTime c) && s.idleFor c k (s.srTime c))
      (fun s => (s.payDebt c k).setF (fPstate c k) 2))

/-- SELF_REFRESH_EXIT: debt and page histories are zero, the timer restarts, and a staged nudge applies (14 R504). -/
def execSelfRefreshExit (chan : Fin 12) (rank : Fin 8) (s : State) : Res :=
  whileUp s (fun s =>
    let c := chan.val
    let k := rank.val
    s.when (s.f (fPstate c k) == 2 && s.rankLive c k && s.rankQueued c k) (fun s =>
      let s := ((s.setF (fPstate c k) 0).setF (fDebt c k) 0).updRk c k (fun r => { r with due := s.tick + s.refInterval c k, last := s.tick })
      (s.updBanks c k (fun _ => true) (fun b => { b with hist := 0, opened := false })).applyNudge c k))

/-! ### Command selection (R467 to R472) -/

/-- The column command of a request: history, page policy, byte count (R471, R472, R487). -/
def State.column (s : State) (r : DReq) : State :=
  let b := s.bankOf r
  let same := b.row == some r.row
  let open_ := same && b.opened
  let hist : BitVec 4 := (b.hist <<< 1) ||| (if same then 1 else 0)
  let s := s.inc (if open_ then fHits r.chan else fActivates r.chan)
  let q := if r.write || r.eng then s.dram.queue.erase r else s.dram.queue.map (fun x => if x = r then { x with stage := 2 } else x)
  let want := q.any (fun x => x.stage == 1 && x.rowKey == r.rowKey)
  let keep := want || bit (s.reg (chOff r.chan 0x10)) hist.toNat
  let banks := SMap.set (fun _ => {}) s.dram.banks r.bank' { hist := hist, row := some r.row, opened := keep }
  let s := { s with dram := { s.dram with queue := q, banks := banks } }
  let s := s.incMod ⟨chOff r.chan (0x100 + 8 * (2 * r.cls + (if r.write then 1 else 0))), 0, 64⟩ 64
  (s.setF (fPstate r.chan r.rank) 0).updRk r.chan r.rank (fun x => { x with last := s.tick })

/-- A request may issue: it arrived in an earlier tick (01 R15), its rank is ready, and a write follows the earlier read of its source and line (R467). -/
def State.mayIssue (s : State) (c sub : Nat) (r : DReq) : Bool :=
  r.chan == c && r.sub == sub && r.stage == 1 && decide (r.arrive < s.tick) && s.rankLive c r.rank && decide ((s.rk c r.rank).busy ≤ s.tick) &&
  decide (s.f (fPstate c r.rank) < 2) &&
  !(r.write && s.dram.queue.any (fun x => !x.write && decide (x.stage < 2) && x.dpa / 64 == r.dpa / 64 && x.who == r.who &&
      decide (x.arrive < r.arrive)))

/-- Among requests in arrival order: the oldest that has reached AGE_MAX, else the oldest to an open row, else the oldest
(R468). -/
def State.pickOne (s : State) (c : Nat) (rs : List DReq) : Option DReq :=
  match rs.find? (fun r => decide (r.arrive + s.f ⟨chOff c 8, 48, 16⟩ ≤ s.tick)) with
  | some r => some r
  | none =>
    match rs.find? (fun r => (s.bankOf r).opened && (s.bankOf r).row == some r.row) with
    | some r => some r
    | none => rs.head?

/-- One command slot of a sub-channel (R468, R470): one column command in each tick (log 19). -/
def State.slot (s : State) (c sub : Nat) : State :=
  let i := 2 * c + sub
  let v := num s.dram.burst i
  let all := s.dram.queue.filter (fun r => s.mayIssue c sub r)
  let setBurst (s : State) (n : Nat) : State := { s with dram := { s.dram with burst := setNum s.dram.burst i n } }
  match (if v = 0 then none else all.find? (fun r => r.cls == 0 && r.rowKey == v / 8)) with
  | some r => setBurst (s.column r) (if v % 8 = 1 then 0 else v - 1)
  | none =>
    let s := setBurst s 0
    let cs := all.filter (fun r => decide (s.f (fDebt c r.rank) ≤ 16))
    match cs.find? (fun r => r.cls == 0) with
    | some r => setBurst (s.column r) (8 * r.rowKey + 7)
    | none =>
      match cs.find? (fun r => r.cls == 1) with
      | some r => s.column r
      | none =>
        let drain := flag s.dram.drain c
        let reads := cs.filter (fun r => !r.write)
        let writes := cs.filter (fun r => r.write)
        match s.pickOne c (if drain then writes else reads) with
        | some r => s.column r
        | none =>
          match (if reads.isEmpty then s.pickOne c writes else none) with
          | some r => s.column r
          | none => s

/-- Write drain (R469). -/
def State.setDrain (s : State) (c : Nat) : State :=
  let hi := s.f ⟨chOff c 8, 0, 7⟩
  let lo := s.f ⟨chOff c 8, 8, 7⟩
  let (hi, lo) := if 64 < hi || hi = 0 || hi ≤ lo then (48, 16) else (hi, lo)
  let n := (s.dram.queue.filter (fun r => r.chan == c && r.write && r.stage == 1)).length
  let d := if hi ≤ n then true else if n ≤ lo then false else flag s.dram.drain c
  { s with dram := { s.dram with drain := setFlag s.dram.drain c d } }

/-- The DRAM channels in one tick: nothing issues while MAP_VALID is 0 (R461). -/
def State.dramTick (s : State) : State :=
  if s.f fMapValid = 0 then s else
  (List.range 12).foldl (fun (s : State) c =>
    let s := (s.setDrain c).refreshWork c
    (s.slot c 0).slot c 1) s.enterAll

/-! ### ECC (16 R555 to R559) -/

/-- The result of a read of a line: the poison mark and injected errors of the state come before what the command says.
A mark where the state has none cannot be (log 20): none. -/
def State.eccOf (s : State) (dpa : Option Nat) (marked : Bool) (ecc : Ecc) : Option Ecc :=
  let n := match dpa with | some a => s.injDevs a | none => 0
  if marked then some .mark
  else if n = 1 then some .corrected
  else if 2 ≤ n then some .uncorrectable
  else if ecc == .mark then none else some ecc

/-- DRAM_READ_RETURN (16 R555 to R558; 14 R501): the oldest read of the channel that has been issued returns. A read of
a host is answered. A map line's read returns by PLACEMENT_REFILL. -/
def State.readReturn (s : State) (c : Nat) (ecc : Ecc) (laneBad : BitVec 10) : State :=
  match s.dram.queue.find? (fun r => r.chan == c && r.stage == 2 && r.hdm.isSome) with
  | none => s
  | some r =>
    match s.eccOf (some r.dpa) r.poison ecc with
    | none => s
    | some e =>
      let ans (s : State) (poison : Bool) : State :=
        if r.cls = 2 then s.answerData r.ld r.tag r.data poison (some c) else s
      let fin (s : State) : State := ({ s with dram := { s.dram with queue := s.dram.queue.erase r } }).enterAll
      match e with
      | .clean => fin (ans (s.sampleBurst c r.rank r.sub laneBad) false)
      | .corrected => fin (ans ((s.sampleBurst c r.rank r.sub laneBad).eccCorrected c r.rank (some r.dpa) r.arrive) false)
      | .uncorrectable => fin (ans (s.eccUncorrectable c r.rank (some r.dpa)) true)
      | .mark => fin (ans (s.inc (fPoisonReads c)) true)

/-- DRAM_READ_RETURN. -/
def execDramReadReturn (chan : Fin 12) (ecc : Ecc) (laneBad : BitVec 10) (s : State) : Res :=
  whileUp s (·.readReturn chan.val ecc laneBad)

/-- The DPA whose data lies at DRAM address `a`: through the page that holds the frame, or a UNIFORM region. -/
def State.dpaAt (s : State) (a : Nat) : Option Nat :=
  if a < s.rawBase then none else
  let m := a - s.rawBase
  let mine (q : Nat) : Bool :=
    let p := s.pageNow q
    let n := if p.st = 1 then 4 else if p.st = 2 then 2 else if p.st = 3 then 1 else 0
    (match s.region q with | some (2, _) => true | _ => false) && decide (p.frame ≤ m / 1024) && decide (m / 1024 < p.frame + n)
  match s.tier.pages.find? (fun e => mine e.1) with
  | some (q, _) =>
    let p := s.pageNow q
    let off := m - 1024 * p.frame
    some (4096 * q + (if p.st = 1 then off / 64 * 64 else if p.st = 2 then off / 128 * 256 else off / 64 * 256))
  | none =>
    let f := m / 4096
    (s.tb 254).prefixes.findSome? (fun p =>
      let base := fld p.2.2 0 32
      let q := p.1.toNat + (f - base)
      if fld p.2.2 62 2 = 1 && base ≤ f && f < base + 2 ^ (32 - p.2.1) && s.region q == some (1, f) then
        some (4096 * q + m % 4096 / 64 * 64) else none)

/-- The row whose shadow image holds DRAM address `a` (16 R561): the shadow takes the first 192 MiB (log 17). -/
def shadowRow (a : Nat) : Option Nat := if a < 201326592 then some (a / 96) else none

/-- The DRAM address of a stand-in granule's data: the inverse of R462. -/
def State.standInOf (s : State) (c l : Nat) : Option (Nat × Nat) :=
  let x := s.f fRChan
  let st := s.f fRState
  if (st == 2 || st == 3) && decide (s.granules - s.withdrawnK ≤ l) && c != x then
    let j := ((List.range 12).filter (fun n => n != x)).idxOf c
    let l0 := 11 * (l - (s.granules - s.withdrawnK)) + j
    if l0 < s.f fRBound then some (x, l0) else none
  else none

/-- The DRAM address of granule `l` of channel `c`: the inverse of R458. -/
def State.granuleAddr (s : State) (c l : Nat) : Nat :=
  let chx (k : Nat) : Nat := parity ((4 * l) &&& fld (s.reg (0x2f0008 + 8 * k)) 0 33)
  let r := 4 * l + Nat.xor (c % 4) (2 * chx 1 + chx 0)
  256 * (3 * r + c / 4)

/-- PATROL_SCRUB (16 R559): the next line of the DRAM address space; ranks in TRAINING and retired channels are skipped. -/
def State.patrolScrub (s : State) (ecc : Ecc) : State :=
  if s.f ⟨0x3e0080, 0, 8⟩ = 0 || s.f fMapValid = 0 then s else
  let lines := 12 * s.chanBytes / 64
  let i := s.ras.scrub
  let a := 64 * i
  let (c, l) := s.rawChan a
  let k := (s.fieldsOf c (256 * l + a % 256)).rank
  let next (s : State) : State := { s with ras := { s.ras with scrub := if i + 1 < lines then i + 1 else 0 } }
  if s.f (fChState c) = 2 || s.f (fRstate c k) = 4 then next s else
  let src := match s.standInOf c l with
    | some (x, l0) => s.granuleAddr x l0 + a % 256
    | none => a
  let dpa := s.dpaAt src
  match s.eccOf dpa (match dpa with | some d => s.poisoned d | none => false) ecc with
  | none => s
  | some e =>
    let s := next (s.incMod ⟨chOff c 0x140, 0, 64⟩ 64)
    match e with
    | .clean => s
    | .corrected => s.eccCorrected c k dpa s.tick
    | .mark => s.inc (fPoisonReads c)
    | .uncorrectable =>
      let s := s.eccUncorrectable c k dpa
      match shadowRow src with
      | some r => if src < s.rawBase then
          { s with ras := { s.ras with shadowPoison := setFlag (setFlag s.ras.shadowPoison r true) ((src + 63) / 96) true } } else s
      | none => s

/-- PATROL_SCRUB. -/
def execPatrolScrub (ecc : Ecc) (s : State) : Res := whileUp s (·.patrolScrub ecc)

/-! ### Mapping and shares (R456, R460, R461, R484) -/

/-- The masks obey R460, and the fields describe DRAM that is populated (R456). -/
def State.mapOk (s : State) : Bool :=
  let rb := s.f fRowBits
  let kb := s.f fRankBits
  (List.range 6).all (fun k =>
    let m := s.reg (0x2f0020 + 8 * k) &&& ((1 <<< 40) - 1)
    bit m (8 + k) && decide (ones m ≤ 8) &&
      (members m).all (fun i => i == 8 + k || (decide (19 ≤ i) && decide (i < 19 + rb + kb)))) &&
  (List.range 2).all (fun k =>
    let m := s.reg (0x2f0008 + 8 * k) &&& ((1 <<< 33) - 1)
    !bit m 0 && !bit m 1 && decide (ones m ≤ 7)) &&
  decide (14 ≤ rb) && decide (rb ≤ 18) && decide (s.chanBytes ≤ s.dram.pop)

/-- Boot enters FAILED (17 R599). -/
def State.bootFail (s : State) (code : Nat) : State := (s.setF fPhase 7).setF fFailCode code

/-- The frames with bytes in the DRAM addresses [a, b). -/
def State.framesIn (s : State) (a b : Nat) : Nat × Nat :=
  ((a - s.rawBase) / 4096, min s.nFrames ((b - s.rawBase + 4095) / 4096))

/-- Withdraw a range of frames from the free pool. -/
def State.withdraw (s : State) (r : Nat × Nat) : State :=
  if s.tier.outs.contains r then s else { s with tier := { s.tier with outs := s.tier.outs ++ [r] } }

/-- DRAM address from which a retirement withdraws (R462). -/
def State.retireFrom (s : State) : Nat := 3072 * (s.granules - s.withdrawnK)

/-- MAP_VALID_WRITE: a write of DRG_MAP. One with MAP_VALID 1 applies and locks the mapping, or is refused (R461). -/
def execMapValidWrite (who : Who) (w : Word) (s : State) : Res :=
  whileUp s (fun s =>
    s.when (s.mayBar0 who && s.f fMapValid == 0) (fun s =>
      let s := ((s.setF fRawBase (fld w 12 31)).setF fRankBits (fld w 10 2)).setF fRowBits (fld w 5 5)
      if !bit w 63 then s
      else if s.mapOk then
        let s := s.setF fMapValid 1
        if s.f fRState = 3 then
          (s.setF fRBound (s.granules - s.withdrawnK)).withdraw (s.framesIn s.retireFrom (12 * s.chanBytes))
        else s
      else
        let s := s.setF fMapErr 1
        if s.f fPhase = 2 then s.bootFail 3 else s))

/-- QOS_CLASS_WRITE (R484): refused when S would exceed U. -/
def execQosClassWrite (who : Who) (w : Word) (s : State) : Res :=
  whileUp s (fun s => s.when (s.mayBar0 who) (fun s =>
    let t := (s.setF fScanMin (fld w 0 8)).setF fMaintMin (fld w 8 8)
    if t.qosU < t.qosS then s.setF ⟨0x2f0108, 0, 1⟩ 1 else t.qosUpdate))

/-! ### Evacuation and channel retirement (R462 to R464; 14 R506, R507) -/

/-- The frames of a range in use, whole or split. -/
def State.usedIn (s : State) (r : Nat × Nat) : List (Nat × Frame) :=
  s.tier.frames.filter (fun e => e.2.use != 0 && decide (r.1 ≤ e.1) && decide (e.1 < r.2))

/-- A UNIFORM region has a frame in the range. -/
def State.uniformIn (s : State) (r : Nat × Nat) : Bool :=
  (s.tb 254).prefixes.any (fun p =>
    fld p.2.2 62 2 == 1 && runsMeet (fld p.2.2 0 32) (2 ^ (32 - p.2.1)) r.1 (r.2 - r.1))

/-- The capacity test for evacuation of the DRAM addresses [a, b) (14 R506). -/
def State.evacOk (s : State) (a b : Nat) : Bool :=
  let r := s.framesIn a b
  let out := (s.withdraw r).freeFrames
  decide (s.rawBase ≤ a) && !s.uniformIn r && decide (2 * s.rf + s.rf / 4 + (s.usedIn r).length ≤ out)

/-- The migration engine moves the pages whose frame is withdrawn, in their own state (14 R507 step 2), while a
CHAN_RETIRE withdraws its range or a rank is EVACUATING. -/
def State.evacStep (s : State) : State :=
  let on := s.f fRState = 1 ||
    (match s.trn.retrain with | some r => s.f (fRstate r.chan r.rank) == 2 | none => false)
  if !on then s else
  (s.tier.pages.filter (fun e => e.2.cls != 0 && s.isOut (e.2.frame / 4))).foldl (fun (s : State) e =>
    let q := e.1
    let p := s.page q
    if p.cls = 0 || !s.migFree || s.pageHeld q then s else
    let go (u : Nat) (s : State) : State :=
      (s.pageTraffic q p false 4).startMig q 5 { p with frame := u, newkey := s.newkeyFor q }
    if p.cls = 1 then
      match s.takeFrame with
      | some (f, s) => go (4 * f) s
      | none => s
    else
      match s.takePart p.cls with
      | some (u, s) => go u s
      | none => s) s

/-- CHAN_RETIRE (R463 steps 1 and 2). -/
def execChanRetire (via : OwnerPath) (chan : Byte) (s : State) : Res :=
  whileUp s (fun s =>
    let c := chan.toNat
    let a := s.retireFrom
    let b := 12 * s.chanBytes
    s.ownerLong via 0x40 (firstBad [(decide (12 ≤ c), St.malformed),
        (s.f fRState != 0 || !s.evacOk a b, St.noRoom)]) (fun s =>
      let s := s.withdraw (s.framesIn a b)
      let s := (((s.setF fRState 1).setF fRChan c).setF fRBound 0).setF (fChState c) 1
      { s with dram := { s.dram with retire := some via } }))

/-- A channel enters RETIRED: its ranks are in self-refresh, what it had queued goes to the stand-ins, and U follows
(R463 step 5, R464, R485). -/
def State.chanRetired (s : State) (c : Nat) : State :=
  let s := (((s.setF fRState 3).setF fRChan c).setF fRBound (s.granules - s.withdrawnK)).setF (fChState c) 2
  let s := (List.range 8).foldl (fun (s : State) k => if s.f (fPstate c k) = 3 then s else s.setF (fPstate c k) 2) s
  let move (r : DReq) : DReq :=
    if r.chan = c && r.stage < 2 then
      let pl := s.dramPlace (match r.hdm with
        | some d => s.rawBase + (s.pageNow (d / 4096)).media d
        | none => r.dpa - 2 ^ 44)
      { r with chan := pl.chan, rank := pl.rank, bank := pl.bank, sub := pl.sub, row := pl.row, stage := 0 }
    else r
  let s := { s with dram := { s.dram with queue := s.dram.queue.map move } }
  (s.raise .chanRetired c 0).qosUpdate

/-- A frame above the boundary of the retirement still holds data (13 R463). -/
def State.retireBusy (s : State) : Bool := !(s.usedIn (s.framesIn s.retireFrom (12 * s.chanBytes))).isEmpty

/-- Granule `b` of the channel goes to its stand-in (R463 step 4). -/
def State.granuleMove (s : State) (b : Nat) : State :=
  let c := s.f fRChan
  let c' := (s.standIn c b).1
  let s := (s.setF fRState 2).setF fRBound (b + 1)
  (s.incMod ⟨chOff c 0x140, 0, 64⟩ 256).incMod ⟨chOff c' 0x148, 0, 64⟩ 256

/-- The last granule is copied: the channel is retired and CHAN_RETIRE completes (R463 step 5). -/
def State.retireEnd (s : State) : State :=
  let via := s.dram.retire
  let s := s.chanRetired (s.f fRChan)
  match via with
  | some via => ({ s with dram := { s.dram with retire := none } }).ownerEnd via 0x40 St.success
  | none => s

/-- RETIRE_GRANULE_COPY (R463 steps 3 to 5): once no frame of the withdrawn range is in use, granule after granule. -/
def State.granuleCopy (s : State) : State :=
  let st := s.f fRState
  if (st = 1 && s.retireBusy) || (st != 1 && st != 2) then s
  else
    let last := decide (s.granules - s.withdrawnK ≤ s.f fRBound + 1)
    let s := s.granuleMove (s.f fRBound)
    if last then s.retireEnd else s

/-- RETIRE_GRANULE_COPY. -/
def execRetireGranuleCopy (s : State) : Res := whileUp s State.granuleCopy

end Sys2Proof.Machine
end

