-- ==== Sys2Proof/Machine/Train.lean ====
section
/-! DEFINITION. Training helpers, delay values, nudges, retraining of a rank in use and its partner path (14 R488 to
R509). -/

namespace Sys2Proof.Machine

/-- TRN_STAT fields. -/
abbrev fTrnBusy (c : Nat) : F := ⟨chOff c 0x1110, 63, 1⟩
abbrev fTrnRefused (c : Nat) : F := ⟨chOff c 0x1110, 62, 1⟩
abbrev fTrnTotal (c : Nat) : F := ⟨chOff c 0x1110, 0, 32⟩
/-- TRN_BITERR[b] and TRN_EYE[b]. -/
abbrev fBitErr (c b : Nat) : F := ⟨chOff c (0x1200 + 8 * b), 0, 32⟩
abbrev offEye (c b : Nat) : Nat := chOff c (0x1800 + 8 * b)

/-- The field that a sweep steps (TRN_SWEEP.FIELD): none where it is reserved. -/
def sweepField (c k l fieldNo : Nat) : Option F :=
  if 9 < l then none
  else if fieldNo = 0 then some (fRdDqs c k l)
  else if fieldNo = 1 then some ⟨offLane c k l, 16, 10⟩
  else if fieldNo = 2 then some (fRdVref c k l)
  else none

/-- The sweep that TRN_SWEEP selects for rank `k`, if EN is 1. -/
def State.trnSweep (s : State) (c k : Nat) : Option F :=
  let w := s.reg (chOff c 0x1108)
  if bit w 63 then sweepField c k (fld w 32 4) (fld w 30 2) else none

/-- The helpers may act on a rank (R491). -/
def State.trnMay (s : State) (c k : Nat) : Bool :=
  s.f (fRstate c k) == 4 || s.f fMapValid == 0 || s.f fLcState == 0 || s.f fLcState == 3

/-- One step of the LFSR x^31 + x^28 + 1; its output is the top bit (R492; log 42). -/
def prbsStep (x : Nat) : Nat := (2 * x + (x / 2 ^ 30 + x / 2 ^ 27) % 2) % 2 ^ 31
/-- `n` outputs of the LFSR from state `x`. -/
def prbsBits (x : Nat) : Nat → List Bool
  | 0 => []
  | n + 1 => x.testBit 30 :: prbsBits (prbsStep x) n

/-- The expected data of bit `b` at bit times 0 to `n` − 1 of a run (R492). -/
def expectedBits (ctrl : Word) (b n : Nat) : List Bool :=
  let row (f : Nat → Bool) := (List.range n).map f
  if fld ctrl 0 4 = 3 then row (Config.trnData 8 b) else
  match fld ctrl 12 3 with
  | 0 => prbsBits (b + 1) n
  | 1 => row (fun _ => false)
  | 2 => row (fun _ => true)
  | 3 => row (fun t => t % 80 == b)
  | 4 => row (fun t => (t + b) % 2 == 1)
  | p => row (Config.trnData p b)

/-- Bit times of a run, or of a point of its sweep: 16 a burst (PRESUMED: DDR5's burst length, log 42); none without an operation. -/
def runBits (ctrl : Word) : Nat := if fld ctrl 0 4 = 0 || decide (4 ≤ fld ctrl 0 4) then 0 else 16 * fld ctrl 24 24
/-- The mismatches of bit `b` at point `i` of a run, `reads` being the data it read by point and bit time (R493). Bits of a
sub-channel that takes no part are not compared; a bit time not given read as expected. -/
def mismatches (ctrl : Word) (reads : List (List (BitVec 80))) (i b : Nat) : Nat :=
  if (fld ctrl 8 2 / 2 ^ (b / 40)) % 2 = 0 then 0 else
  let n := runBits ctrl
  let got := ((reads.getD i []).take n).map (fun x => x.getLsbD b)
  ((got.zip ((expectedBits ctrl b (n * i + got.length)).drop (n * i))).filter (fun x => x.1 != x.2)).length

/-- TRN_START (R491 to R494): a write of TRN_CTRL. With START 1 a run begins, or is refused; while a run is in progress a
START has no effect (log 21). -/
def State.trnStart (s : State) (c : Nat) (w : Word) : State :=
  let keep (s : State) : State := s.setReg (chOff c 0x1100) (w &&& 0x0000ffffff00737f)
  if !bit w 63 then keep s
  else
    let k := fld w 4 3
    if !s.trnMay c k then s.setF (fTrnRefused c) 1
    else if s.f (fTrnBusy c) = 1 then s
    else
      let s := keep s
      let s := (List.range 80).foldl (fun (s : State) b => s.setF (fBitErr c b) 0) s
      let s := (s.setF (fTrnBusy c) 1).setF (fTrnTotal c) 0
      let saved := (s.trnSweep c k).map (fun f => (f.off, s.reg f.off))
      let s := { s with trn := { s.trn with runs := SMap.set (fun _ => none) s.trn.runs c (some { rank := k, ctrl := w, sweep := s.reg (chOff c 0x1108), saved := saved }) } }
      match s.trnSweep c k with
      | some f => s.setF f (fld (s.reg (chOff c 0x1108)) 0 10)
      | none => s

/-- TRN_START. -/
def execTrnStart (who : Who) (chan : Fin 12) (w : Word) (s : State) : Res :=
  whileUp s (fun s => s.when (s.mayBar0 who) (·.trnStart chan.val w))

/-- TRAINING_RUN_DONE (R493, R494): the last burst has been compared; `reads` is the data read, by sweep point and bit time. -/
def State.trnDone (s : State) (c : Nat) (reads : List (List (BitVec 80))) : State :=
  match SMap.get (fun _ => none) s.trn.runs c with
  | none => s
  | some r =>
    let points := match r.saved with | some _ => min 64 (fld r.sweep 40 7) | none => 1
    let miss (i b : Nat) : Nat := mismatches r.ctrl reads i b
    let s := (List.range 80).foldl (fun (s : State) b =>
      let n := ((List.range points).map (fun i => miss i b)).foldl (· + ·) 0
      (s.inc (fBitErr c b) n).inc (fTrnTotal c) n) s
    let s := match sweepField c r.rank (fld r.sweep 32 4) (fld r.sweep 30 2), r.saved with
      | some f, some (_, old) =>
        let s := (List.range 8).foldl (fun (s : State) j =>
          let b := 8 * fld r.sweep 32 4 + j
          s.setReg (offEye c b) (BitVec.ofNat 64 ((List.range points).foldl (fun e i => if miss i b = 0 then e + 2 ^ i else e) 0))) s
        s.setF f (fld old f.lo f.n)
      | _, _ => s
    let s := s.setF (fTrnBusy c) 0
    { s with trn := { s.trn with runs := SMap.set (fun _ => none) s.trn.runs c none } }

/-- TRAINING_RUN_DONE. -/
def execTrainingRunDone (chan : Fin 12) (reads : List (List (BitVec 80))) (s : State) : Res :=
  whileUp s (·.trnDone chan.val reads)

/-- DLY_WRITE (R489, R496). -/
def State.dlyWrite (s : State) (c : Nat) (bitReg : Bool) (k i : Nat) (w : Word) : State :=
  let boot := s.f fMapValid == 0
  if !boot && s.f (fRstate c k) != 4 then s
  else if bitReg then s.setReg (chOff c (0x3000 + 0x400 * k + 8 * i)) (w &&& 0x3f3f)
  else if 9 < i then s
  else
    let s := ((s.setF (fRdDqs c k i) (fld w 0 10)).setF ⟨offLane c k i, 16, 10⟩ (fld w 16 10)).setF (fRdVref c k i) (fld w 32 8)
    if boot then (s.setF (fTrVref c k i) (fld w 40 8)).setF (fTrDqs c k i) (fld w 48 10) else s

/-- DLY_WRITE. -/
def execDlyWrite (who : Who) (chan : Fin 12) (bitReg : Bool) (rank : Fin 8) (i : Fin 80) (w : Word) (s : State) : Res :=
  whileUp s (fun s => s.when (s.mayBar0 who) (·.dlyWrite chan.val bitReg rank.val i.val w))

/-- DRC_TIMING_WRITE (R490). -/
def execDrcTimingWrite (who : Who) (chan : Fin 12) (j : Fin 2) (w : Word) (s : State) : Res :=
  whileUp s (fun s => s.when (s.mayBar0 who && s.f fMapValid == 0)
    (·.setReg (chOff chan.val (0x1000 + 8 * j.val)) (w &&& 0x03ff03ff03ff03ff)))

/-- CAL_SNAP (R502). -/
def execCalSnap (who : Who) (chan : Fin 12) (s : State) : Res :=
  whileUp s (fun s => s.when (s.mayBar0 who) (·.snapshot chan.val))

/-- CAL_NUDGE_WRITE (R503): no effect while PENDING is 1; a coded step stages the nudge. -/
def execCalNudgeWrite (who : Who) (chan : Fin 12) (rank : Fin 8) (w : Word) (s : State) : Res :=
  whileUp s (fun s =>
    let c := chan.val
    let k := rank.val
    let coded := (List.range 20).any (fun i => nudgeStep (fld w (2 * i) 2) != 0)
    s.when (s.mayBar0 who && s.f (fNudgePend c k) == 0) (·.setReg (offNudge c k) (putFld (w &&& 0xffffffffff) 63 1 (if coded then 1 else 0))))

/-! ### Retraining (R505 to R509) -/

/-- The DRAM addresses of rank `k` on every channel (R459, R505). -/
def State.rankSpan (s : State) (k : Nat) : Nat × Nat :=
  let r := 12 * 2 ^ (19 + s.f fRowBits)
  (k * r, (k + 1) * r)

/-- The frames of W. -/
def State.rankFrames (s : State) (k : Nat) : Nat × Nat := s.framesIn (s.rankSpan k).1 (s.rankSpan k).2

/-- The pages whose frame lies in W. -/
def State.rankPages (s : State) (k : Nat) : List Nat :=
  let r := s.rankFrames k
  (s.tier.pages.filter (fun e =>
    let p := s.pageNow e.1
    p.cls != 0 && decide (r.1 ≤ p.frame / 4) && decide (p.frame / 4 < r.2))).map (fun e => e.1)

/-- The UNIFORM runs of pages with a frame in W, by 256 MiB unit. -/
def State.rankUniform (s : State) (k : Nat) : List Nat :=
  let r := s.rankFrames k
  (s.tb 254).prefixes.flatMap (fun p =>
    let base := fld p.2.2 0 32
    let n := 2 ^ (32 - p.2.1)
    if fld p.2.2 62 2 = 1 && runsMeet base n r.1 (r.2 - r.1) then
      let lo := p.1.toNat + (r.1 - base)
      let hi := p.1.toNat + (min r.2 (base + n) - base)
      (List.range (hi / 65536 + 1 - lo / 65536)).map (fun i => (lo / 65536 + i) * 65536)
    else [])

/-- The UNIFORM pages with a frame in W. -/
def State.rankPlain (s : State) (k : Nat) : List Nat :=
  let r := s.rankFrames k
  (s.tb 254).prefixes.flatMap (fun p =>
    let base := fld p.2.2 0 32
    let lo := max base r.1
    let hi := min (base + 2 ^ (32 - p.2.1)) r.2
    if fld p.2.2 62 2 = 1 then ((List.range (hi - lo)).map (fun i => p.1.toNat + (lo + i - base))).filter (fun q => s.region q == some (1, base + (q - p.1.toNat)))
    else [])

/-- The test of the partner path (R508). -/
def State.partnerOk (s : State) (k : Nat) : Bool :=
  s.pst == .paired && decide (s.rawBase ≤ (s.rankSpan k).1) &&
  (s.rankPages k ++ s.rankUniform k).all (fun q => (s.mirRegion (4096 * q)).isSome)

/-- The test of the evacuation path (R506). -/
def State.evacuateOk (s : State) (k : Nat) : Bool := s.evacOk (s.rankSpan k).1 (s.rankSpan k).2

/-- Some rank of the device is EVACUATING, REDIRECTED, TRAINING or RESTORING. -/
def State.rankBusy (s : State) : Bool :=
  (List.range 96).any (fun i => let r := s.f (fRstate (i / 8) (i % 8)); decide (2 ≤ r) && decide (r ≤ 5))

/-- RANK_RETRAIN (R505): path 0 AUTO, 1 EVACUATE, 2 PARTNER. A nudge pending at that tick is discarded (R504). -/
def execRankRetrain (via : OwnerPath) (chan rank path : Byte) (s : State) : Res :=
  whileUp s (fun s =>
    let c := chan.toNat
    let k := rank.toNat
    let p := path.toNat
    let viaPartner := p != 1 && s.partnerOk k
    let viaEvac := p != 2 && s.evacuateOk k
    s.ownerLong via 0x41 (firstBad [(decide (12 ≤ c) || decide (8 ≤ k) || decide (3 ≤ p), St.malformed),
        (s.f (fRstate c k) == 0 || s.f (fChState c) == 1 || s.f (fChState c) == 2, St.malformed),
        (s.rankBusy || s.dram.retire.isSome, St.locked),
        (!viaPartner && !viaEvac, St.noRoom)]) (fun s =>
      let s := s.setF (fNudgePend c k) 0
      let s := { s with trn := { s.trn with retrain := some { via := via, chan := c, rank := k, partner := viaPartner } } }
      if viaPartner then s.setF (fRstate c k) 3
      else (s.withdraw (s.rankFrames k)).setF (fRstate c k) 2))

/-- EVACUATION_DONE (R507 step 3): no frame of W is in use, so the rank enters TRAINING. -/
def execEvacuationDone (s : State) : Res :=
  whileUp s (fun s =>
    match s.trn.retrain with
    | some r => s.when (s.f (fRstate r.chan r.rank) == 2 && (s.usedIn (s.rankFrames r.rank)).isEmpty)
        (·.setF (fRstate r.chan r.rank) 4)
    | none => s)

/-- A REDIRECTED rank enters TRAINING once the requests accepted earlier have completed (R508 steps 1 and 2). -/
def State.retrainStep (s : State) : State :=
  match s.trn.retrain with
  | some r =>
    if s.f (fRstate r.chan r.rank) = 3 && !s.dram.queue.any (fun x => x.rank == r.rank) then
      s.setF (fRstate r.chan r.rank) 4 else s
  | none => s

/-- A rank that leaves TRAINING owes nothing, its timer restarts and its page histories are zero (R509). -/
def State.rankFresh (s : State) (c k : Nat) : State :=
  let s := (s.setF (fDebt c k) 0).updRk c k (fun r => { r with due := s.tick + s.refInterval c k, last := s.tick })
  let s := s.updBanks c k (fun _ => true) (fun b => { b with hist := 0, opened := false })
  if s.f (fPstate c k) = 3 then s.setF (fPstate c k) 0 else s

/-- The trained values become the reference of R503 (R496). -/
def State.keepTrained (s : State) (c k : Nat) : State :=
  (List.range 10).foldl (fun (s : State) l =>
    (s.setF (fTrDqs c k l) (s.f (fRdDqs c k l))).setF (fTrVref c k l) (s.f (fRdVref c k l))) s

/-- The rank still holds the read values of the user store: it was restored and verified, not trained (R499). -/
def State.restored (s : State) (c k : Nat) : Bool :=
  match s.calBest with
  | some x => s.spdMatch x c && (List.range 10).all (fun l =>
      let old := SMap.get regReset x.vals (offLane c k l)
      fld old 0 10 == s.f (fRdDqs c k l) && fld old 32 8 == s.f (fRdVref c k l) && old != 0)
  | none => false

/-- A rank fails training: FAILED, and TRAIN_FAIL (R495). -/
def State.rankFailed (s : State) (c k : Nat) : State := (s.setF (fRstate c k) 6).raise .trainFail (argCK c k) 0

/-- At start-up a channel that fails training is retired at once; a second one stops the boot (R464, 17 R599). -/
def State.bootChannelFailed (s : State) (c : Nat) : State :=
  if s.f fRState = 3 then (if s.f fRChan = c then s else s.bootFail 3)
  else s.chanRetired c

/-- The retraining of R505 has ended. -/
def State.retrainEnd (s : State) (r : Retrain) : State :=
  ({ s with trn := { s.trn with retrain := none } }).ownerEnd r.via 0x41 St.success

/-- RANK_TRAINING_EXIT (R495, R496, R507 to R509). -/
def State.trainingExit (s : State) (c k : Nat) (ok : Bool) : State :=
  if s.f fPhase = 2 && s.f fMapValid = 0 then
    if s.f (fRstate c k) != 0 && s.f (fRstate c k) != 4 then s
    else if ok then
      let s := if s.restored c k then s else s.keepTrained c k
      (s.setF (fRstate c k) 1).rankFresh c k
    else (s.rankFailed c k).bootChannelFailed c
  else
    match s.trn.retrain with
    | none => s
    | some r =>
      if r.chan != c || r.rank != k || s.f (fRstate c k) != 4 then s
      else if !ok then
        let s := (s.rankFailed c k).rankFresh c k
        if r.partner then s.ownerEnd r.via 0x41 St.success else s.retrainEnd r
      else
        let s := (s.keepTrained c k).rankFresh c k
        if r.partner then
          let pages := s.rankPages k ++ s.rankPlain k
          let s := (s.setF (fRstate c k) 5).storeCal
          let s := { s with trn := { s.trn with retrain := some { r with pages := pages, blocks := 0 } } }
          match pages with
          | q :: _ => s.linkSend (.pageReq q)
          | [] => s
        else
          let w := s.rankFrames k
          let s := (s.setF (fRstate c k) 1).storeCal
          ({ s with tier := { s.tier with backs := s.tier.backs ++ [w] } }).retrainEnd r

/-- RANK_TRAINING_EXIT. -/
def execRankTrainingExit (chan : Fin 12) (rank : Fin 8) (ok : Bool) (s : State) : Res :=
  whileUp s (·.trainingExit chan.val rank.val ok)

/-- RESTORE_COPY_DONE (R508 step 4): the last page has been copied back. -/
def execRestoreCopyDone (s : State) : Res :=
  whileUp s (fun s =>
    match s.trn.retrain with
    | some r => s.when (s.f (fRstate r.chan r.rank) == 5 && r.pages.isEmpty) (fun s =>
        (s.setF (fRstate r.chan r.rank) 1).retrainEnd r)
    | none => s)

/-- RESTORE_FACTORY (R500): both copies of the user store are erased. -/
def execRestoreFactory (via : OwnerPath) (s : State) : Res :=
  whileUp s (fun s => s.owner1 via 0x42 none (fun s => { s with trn := { s.trn with copyA := none, copyB := none } }))

end Sys2Proof.Machine
end

