-- ==== Sys2Proof/Machine/Link.lean ====
section
/-! DEFINITION. The pair: link, heartbeats, roles, the toss, KEEPER and BENCHED (15 R511 to R545, 18 R632 to R634). -/

namespace Sys2Proof.Machine

/-- PAIR_CTRL fields: PAIR_ID, WITNESS_EID, ROLE_CONFIRM; PAIR_LINK_CNT: LOSSES, REPLAYS (R554). -/
abbrev fPairId : F := ⟨0x3c0000, 48, 16⟩
abbrev fWitness : F := ⟨0x3c0000, 40, 8⟩
abbrev fRoleConfirm : F := ⟨0x3c0000, 1, 1⟩
abbrev fLosses : F := ⟨0x3c0018, 48, 16⟩
abbrev fReplays : F := ⟨0x3c0018, 0, 32⟩
/-- PAIR_RESYNC: PAGES_LEFT, ROWS_LEFT. -/
abbrev fPagesLeft : F := ⟨0x3c0028, 32, 32⟩
abbrev fRowsLeft : F := ⟨0x3c0028, 0, 32⟩

/-- The device is a pair member (R511). -/
def State.member (s : State) : Bool := s.f fPairEn == 1

/-- Enter a pair state; a change sets GLB_INT_STATUS.PAIR (18 R622). -/
def State.setPst (s : State) (p : PairState) : State :=
  if s.pst = p then s else (s.setF fPst (PairState.num p)).setIrq Irq.pair

/-- Change the pair's record. -/
def State.updPair (s : State) (f : Pair → Pair) : State := { s with pair := f s.pair }

/-- The HELLO that this member frames. What it says of the other's digest and ranges is the receiver's to find. -/
def State.ownHello (s : State) : HelloMsg :=
  { pairId := BitVec.ofNat 16 (s.f fPairId), strapRole := s.f fStrapRole == 1, role := s.isAway, state := s.pst,
    epoch := BitVec.ofNat 32 (s.f fEpoch), cause := BitVec.ofNat 3 (s.f fKeepCause), pend := s.f fPendingJ,
    digestEq := true, fresh := s.pair.fresh, basesOk := true }

/-! ### KEEPER and BENCHED (R538 to R542, R544) -/

/-- The table that a waiting mutation names. -/
def State.mutTable (s : State) (og : Origin) : Option Nat :=
  match og with
  | .req c n => ((s.cx c).req? false n).map (fun r => r.table)
  | .cmdPath => some (s.f fMaintTable)
  | _ => none

/-- The requests to mirrored regions held since link loss are admitted again in arrival order (R541), behind what the placement
stage already holds (01 R29). -/
def State.admitHeld (s : State) : State :=
  let h := s.pair.held
  let s := s.updPair (fun p => { p with held := [] })
  { s with tier := { s.tier with hold := s.tier.hold ++ h } }

/-- Locks and trie builds that repeat the partner's: PREPARE without COMMIT is discarded (R542). -/
def State.dropForeign (s : State) : State :=
  let ts := (s.tbl.filter (fun e => match e.2.lock with | some l => decide (4096 ≤ l.owner) | none => false)).map (fun e => e.1)
  let s := ts.foldl (fun s t => (s.discardLock t).afterLock t) s
  let keep (b : Bulk) : Option Bulk := if b.isMirror then none else some b
  let tb := s.tbl.map (fun (e : Nat × Tbl) => (e.1, { e.2 with bulk := e.2.bulk.bind keep }))
  let s := { s with tbl := tb }
  { s with trie := { s.trie with builds := s.trie.builds.filter (fun e =>
      match e.2 with | some b => (match b.op.origin with | .mirror _ _ => false | _ => true) | none => true) } }

/-- This member's own two-phase changes no longer wait for MIR_READY: the keeper commits locally (R541, R542). -/
def State.readyOwn (s : State) : State :=
  let tb := s.tbl.map (fun (e : Nat × Tbl) => (e.1, { e.2 with
    lock := e.2.lock.map (fun l => { l with ready := true }), bulk := e.2.bulk.map (fun b => { b with ready := true }) }))
  let bs := s.trie.builds.map (fun (e : Nat × Option TBuild) => (e.1, e.2.map (fun b => { b with ready := true })))
  { s with tbl := tb, trie := { s.trie with builds := bs } }

/-- What a member that becomes KEEPER ends (R542). -/
def State.keeperEnds (s : State) : State :=
  let ws := s.pair.memWait
  let aa := s.pair.awaitApplied
  let dw := s.pair.doneWait
  let ad := s.pair.awaitDone
  let s := s.updPair (fun p => { p with memWait := [], awaitApplied := [], doneWait := [], awaitDone := [] })
  let s := ws.foldl (fun s w =>
    if w.fwd then
      match w.source with
      | some (ld, tag) => s.resume w.dpa (.memwrptl (Fin.ofNat 32 ld) 0 .noUpdate w.data w.mask (BitVec.ofNat 16 tag))
      | none => s
    else (s.cmpWait w).markDirty (w.dpa / 4096)) s
  let s := aa.foldl (fun s e => s.resolve e.2.2.1 e.2.2.2) s
  let s := dw.foldl (fun s d => s.resolve d.1 (mutOutc d.2.2 ((s.mutTable d.1).getD 0) s.tick)) s
  let s := ad.foldl (fun s e =>
    match s.mutTable e.2 with
    | some t =>
      if s.isCascade t then s.resolve e.2 (refusal t St.partial_)
      else
        let r := s.free
        r.2.resolve e.2 { status := r.1.toNat % 256, tick := s.tick, table := t }
    | none => s) s
  s.dropForeign.readyOwn

/-- What a member that becomes BENCHED ends: such writes complete with Cmp and such mutations with STALE_GENERATION; pages
without MEM_ACK and pending journal entries are kept (R542). -/
def State.benchedEnds (s : State) : State :=
  let ws := s.pair.memWait
  let ms := s.pair.awaitApplied.map (fun e => e.2.2.1) ++ s.pair.doneWait.map (fun d => d.1) ++ s.pair.awaitDone.map (fun e => e.2)
  let pg := (s.pair.keptPages ++ (ws.filter (fun (w : MemWait) => !w.fwd)).map (fun (w : MemWait) => w.dpa / 4096)).eraseDups
  let ids := (s.pair.keptIds ++ (s.pair.journal.filter (fun e => e.seq != 0)).map (fun e => e.id)).eraseDups
  let s := s.updPair (fun p => { p with memWait := [], awaitApplied := [], doneWait := [], awaitDone := [],
                                        keptPages := pg, keptIds := ids })
  let s := ws.foldl (fun s w => s.cmpWait w) s
  let s := ms.foldl (fun s og =>
    match s.mutTable og with
    | some t => s.resolve og (refusal t St.staleGeneration)
    | none => s) s
  let waiting := (s.tbl.filter (fun e => match e.2.lock with | some l => !l.ready && l.lstate == 2 | none => false))
  let s := waiting.foldl (fun s e =>
    match e.2.lock with
    | some l =>
      let s := match e.2.bulk with
        | some b => (s.updTb e.1 (fun r => { r with bulk := none })).resolve b.origin (refusal e.1 St.staleGeneration)
        | none => s
      let s := match l.ender with | some og => s.resolve og (refusal e.1 St.staleGeneration) | none => s
      (s.discardLock e.1).afterLock e.1
    | none => s) s
  let bs := s.trie.builds.filterMap (fun e => match e.2 with | some b => if b.ready then none else some (e.1, b) | none => none)
  bs.foldl (fun s e =>
    let s := { s with trie := { s.trie with builds := SMap.set (fun _ => none) s.trie.builds e.1 none } }
    s.trieEnds e.2.op St.staleGeneration) s.dropForeign

/-- Become KEEPER with KEEP_CAUSE `cause` (R538, R539, R544): role home, the epoch rises (R519). -/
def State.becomeKeeper (s : State) (cause : Nat) : State :=
  let lost := s.pst == .tossing
  let s := (s.setF fEpoch (s.f fEpoch + 1)).setF fKeepCause cause
  let s := (s.setF fRole 0).updPair (fun p => { p with fresh := false })
  let s := s.setPst .keeper
  let s := if cause = 3 then s.raise .partnerLost (s.f fEpoch) 0 else s
  let s := if lost then s.raise .tossResult (s.f fEpoch) (cause * 256) else s
  let s := s.keeperEnds.admitHeld
  if lost && s.pair.up then s.linkSend (.hello s.ownHello) else s

/-- Become BENCHED (R539, R544). -/
def State.becomeBenched (s : State) : State :=
  let lost := s.pst == .tossing
  let s := (s.setF fKeepCause 0).setPst .benched
  let s := if lost then s.raise .tossResult (s.f fEpoch) 1 else s
  let s := s.benchedEnds.admitHeld
  if lost && s.pair.up then s.linkSend (.hello s.ownHello) else s

/-! ### Link loss and the toss (R521, R539, R633) -/

/-- The toss request (18 R632). -/
def State.sendToss (s : State) : State :=
  (s.send (.toss (s.f fPairId) (s.f fEpoch) s.isAway)).updPair (fun p => { p with lastToss := s.tick })

/-- Requests carried to the partner return poison or are dropped (14 R508). -/
def State.endRdr (s : State) : State :=
  s.pair.rdr.foldl (fun s e => match memReq e.2 with | some q => s.answerDead q | none => s)
    (s.updPair (fun p => { p with rdr := [] }))

/-- Link loss is declared with LINK_FAIL `code` (R521). A PAIRED member starts the toss; in RESYNC the keeper is a KEEPER
again, and the joiner is what it was. -/
def State.linkLoss (s : State) (code : Nat) : State :=
  if !s.pair.up then s else
  let s := s.updPair (fun p => { p with up := false, offsetSet := false, waiting := [], kept := [], peer := none, doneAt := none })
  let s := ((s.inc fLosses).setF fLinkFail code).setReg 0x3c0010 0
  let s := s.endRdr
  match s.pst with
  | .paired => (s.setPst .tossing).updPair (fun p => { p with lossTick := s.tick }) |>.sendToss
  | .resync =>
    if s.f fJoiner == 0 then (s.setPst .keeper).updPair (fun p => { p with rows := [], pages := [] })
    else (s.setF fJoiner 0).setPst (if s.pair.fresh then .linking else .benched)
  | _ => s

/-- PAIR_LINK_LOSS: the PHY reports loss of signal or lock. -/
def execPairLinkLoss (s : State) : Res := whileUp s (·.linkLoss 1)

/-- HEARTBEAT_TIMEOUT. -/
def execHeartbeatTimeout (s : State) : Res :=
  whileUp s (fun s => s.when (decide (s.pair.lastBeat + 1024 ≤ s.tick)) (·.linkLoss 2))

/-- TOSS_RESEND (R633): every 100,000 ticks the same request. -/
def execTossResend (s : State) : Res :=
  whileUp s (fun s => s.when (s.pst == .tossing && decide (s.pair.lastToss + 100000 ≤ s.tick)) State.sendToss)

/-- TOSS_ANSWER (R539, R633): an answer that does not match the request is ignored. -/
def execTossAnswer (version : Byte) (pairId : BitVec 16) (epoch : BitVec 32) (verdict : Byte) (reserved : BitVec 56)
    (serial : Word) (s : State) : Res :=
  whileUp s (fun s =>
    s.when (s.pst == .tossing && version == 1 && pairId.toNat == s.f fPairId && epoch.toNat == s.f fEpoch && reserved == 0 &&
        serial == s.reg 0x10)
      (fun s => if verdict = 1 then s.becomeKeeper 1 else if verdict = 2 then s.becomeBenched else s))

/-- TOSS_TIMEOUT (R539): 1,000,000 ticks after the loss home becomes KEEPER and away BENCHED. -/
def execTossTimeout (s : State) : Res :=
  whileUp s (fun s => s.when (s.pst == .tossing && decide (s.pair.lossTick + 1000000 ≤ s.tick))
    (fun s => if s.isAway then s.becomeBenched else s.becomeKeeper 2))

/-- PARTNER_LOSS_DETECT (R522, R538): GW_ALIVE_IN has been low for 64 ticks after link loss. -/
def execPartnerLossDetect (s : State) : Res :=
  whileUp s (fun s => s.when (s.pst == .tossing && !s.pair.up) (fun s => (s.setF fAliveIn 0).becomeKeeper 3))

/-! ### Training and heartbeats (R517 to R523) -/

/-- LINK_GO: a write of PAIR_CTRL (R511, R523). PAIR_ID and ROLE_CONFIRM hold from LINK_GO on. -/
def State.linkGo (s : State) (w : Word) : State :=
  let s := s.setF fWitness (fld w 40 8)
  let s := if s.pair.go then s else (s.setF fPairId (fld w 48 16)).setF fRoleConfirm (fld w 1 1)
  if s.pair.go || !bit w 2 then s
  else
    let s := (s.updPair (fun p => { p with go := true })).setPst .linking
    if s.f fRoleConfirm != s.f fStrapRole then s.setF fLinkFail 7 else s

/-- LINK_GO. -/
def execLinkGo (who : Who) (w : Word) (s : State) : Res :=
  whileUp s (fun s => s.when (s.mayBar0 who && s.member) (·.linkGo w))

/-- HEARTBEAT_SEND (R519). -/
def execHeartbeatSend (s : State) : Res :=
  whileUp s (fun s => s.when (s.pair.up && s.tick % 256 == 0) (·.linkSend (.heartbeat s.tick (s.f fEpoch) s.pst)))

/-- HEARTBEAT (R520): the first after training sets PAIR_OFFSET; another value later loses the link. -/
def execHeartbeat (senderTick : Nat) (_epoch : BitVec 32) (intact : Bool) (s : State) : Res :=
  whileUp s (fun s => s.when (s.pair.up && intact) (fun s =>
    let o := BitVec.ofInt 64 (Int.ofNat senderTick + 25 - Int.ofNat s.tick)
    let s := s.updPair (fun p => { p with lastBeat := s.tick })
    if !s.pair.offsetSet then (s.setReg 0x3c0010 o).updPair (fun p => { p with offsetSet := true })
    else if s.reg 0x3c0010 == o then s
    else s.linkLoss 4))

/-! ### Flits (R512 to R518) -/

/-- The virtual channel and the length in slots of a message (R515). -/
def LinkMsg.vc : LinkMsg → Nat
  | .heartbeat .. | .hello _ | .regionList _ | .applied .. | .memAck _ | .mutDone .. | .resyncDone _ => 0
  | .casReq _ | .casReply .. | .casDecline _ | .enumReply .. | .mirOp _ | .mirReady .. | .fwdMut .. | .resyncRow _ => 1
  | .memWr .. | .resyncBlock .. | .rdrReq .. | .rdrRsp .. | .pageReq _ | .pageBlock .. => 2
/-- Slots of a mirrored change: an identity alone, a small content, or a whole row or profile. -/
def mirSlots (m : MirMsg) : Nat :=
  match m.kind with
  | .put | .evict | .stage => if m.absent then 1 else 7
  | .profile => 6
  | .prefixPut | .prefixDel | .prepare | .direct => 3
  | _ => 1
def LinkMsg.slots : LinkMsg → Nat
  | .heartbeat .. | .applied .. | .memAck _ | .casDecline _ | .mirReady .. | .pageReq _ => 1
  | .casReply .. => 2
  | .hello _ | .resyncDone _ => 4
  | .mutDone .. | .memWr .. => 5
  | .casReq m => if m.enum then 7 else 5
  | .regionList rs => 1 + (rs.length + 1) / 2
  | .enumReply _ _ rs => 1 + rs.length
  | .mirOp m | .resyncRow m => mirSlots m
  | .fwdMut _ _ _ _ l2 => if l2 == 0 then 5 else 9
  | .resyncBlock .. | .pageBlock .. => 17
  | .rdrReq w _ _ => if w then 5 else 1
  | .rdrRsp _ d _ => if d.isSome then 5 else 1

/-- Credits held for a channel, and their use. -/
def Pair.credit (p : Pair) (vc : Nat) : Nat := if vc = 0 then p.credit0 else if vc = 1 then p.credit1 else p.credit2
def Pair.addCredit (p : Pair) (c0 c1 c2 : Nat) : Pair :=
  { p with credit0 := min 128 (p.credit0 + c0), credit1 := min 1024 (p.credit1 + c1), credit2 := min 4096 (p.credit2 + c2) }
def Pair.spend (p : Pair) (vc n : Nat) : Pair :=
  if vc = 0 then { p with credit0 := p.credit0 - n } else if vc = 1 then { p with credit1 := p.credit1 - n }
  else { p with credit2 := p.credit2 - n }

/-- The message to start at a boundary: the oldest of VC0, else of VC1, else of VC2, for which the sender holds credits
(R514, R516). -/
def Pair.nextMsg (p : Pair) : Option LinkMsg :=
  match p.waiting.find? (fun m => m.vc == 0) with
  | some m => if m.slots ≤ p.credit0 then some m else none
  | none => match p.waiting.find? (fun m => m.vc == 1) with
    | some m => if m.slots ≤ p.credit1 then some m else none
    | none => match p.waiting.find? (fun m => m.vc == 2) with
      | some m => if m.slots ≤ p.credit2 then some m else none
      | none => none

/-- The messages framed with `n` slots left in this tick. -/
def framed : Nat → Nat → Pair → Pair × List LinkMsg
  | 0, _, p => (p, [])
  | fuel + 1, n, p =>
    if n = 0 then (p, []) else
    match p.nextMsg with
    | none => (p, [])
    | some m =>
      let p := { p with waiting := p.waiting.erase m }.spend m.vc m.slots
      let r := framed fuel (n - min n m.slots) p
      (r.1, m :: r.2)

/-- Link output of one tick: 24 slots, which is 1.65 flits (R512; log 22). The flit's messages are kept for replay. -/
def State.linkTick (s : State) : State :=
  if !s.pair.up then s.updPair (fun p => { p with waiting := [] })
  else
    let r := framed 24 24 s.pair
    if r.2.isEmpty then s
    else
      let p := { r.1 with kept := (r.1.kept ++ [(r.1.txSeq, r.2)]).drop ((r.1.kept.length + 1) - 1024),
                          txSeq := (r.1.txSeq + 1) % 4096 }
      r.2.foldl (fun s m => s.send (.link m)) { s with pair := p }

/-- The flits to resend from `q` on. -/
def Pair.fromSeq (p : Pair) (q : Nat) : Option (List (Nat × List LinkMsg)) :=
  if q = p.txSeq then some []
  else if p.kept.any (fun e => e.1 == q) then some (p.kept.dropWhile (fun e => e.1 != q)) else none

/-- FLIT_RECEIVE (R516, R518): its TAG, its form and its SEQ are checked; ACK, NAK and CREDIT act on the sender's side. -/
def State.flitIn (s : State) (seq ack : Nat) (nak : Bool) (credit : BitVec 32) (ok : Bool) : State :=
  if !ok || seq != s.pair.rxSeq then
    if s.pair.nakSent then s else (s.send (.nak s.pair.rxSeq)).updPair (fun p => { p with nakSent := true })
  else
    let s := (s.send (.ack seq)).updPair (fun p => { p with rxSeq := (seq + 1) % 4096, nakSent := false })
    let s := s.updPair (fun p => p.addCredit (credit.toNat % 256) (credit.toNat / 256 % 4096) (credit.toNat / 2 ^ 20))
    let acked (p : Pair) : Pair := if p.kept.any (fun e => e.1 == ack) then { p with kept := (p.kept.dropWhile (fun e => e.1 != ack)).drop 1 } else p
    if !nak then s.updPair acked
    else
      match s.pair.fromSeq ((ack + 1) % 4096) with
      | none => s.linkLoss 3
      | some fs =>
        let s := (s.updPair acked).inc fReplays fs.length
        fs.foldl (fun s e => e.2.foldl (fun s m => s.send (.link m)) (s.send (.replay e.1))) s

/-- FLIT_RECEIVE. -/
def execFlitReceive (seq : BitVec 12) (ack : BitVec 12) (nak : Bool) (credit : BitVec 32) (tagOk : Bool)
    (wellFormed : Bool) (s : State) : Res :=
  whileUp s (fun s => s.when s.pair.up (·.flitIn seq.toNat ack.toNat nak credit (tagOk && wellFormed)))

/-! ### Rejoin: what each side begins (R524, R545, R548 to R553) -/

/-- MIRROR and CASCADE tables by ID. -/
def State.mirTables (s : State) : List Nat := (s.tbl.map (fun e => e.1)).filter (fun t => s.isMirror t)
def State.casTables (s : State) : List Nat := (s.tbl.map (fun e => e.1)).filter (fun t => s.isCascade t)

/-- The joiner clears a table (R549): its rows are freed by row writes of input 12 (01 R12), its prefixes and words at once. -/
def State.clearTable (s : State) (t : Nat) : State :=
  let r := s.tb t
  let s := (s.rowsOf t).foldl (fun s e => s.enqOp 12 { table := t, act := .write e.1 {} (.erase none), origin := .tm }) s
  let s := s.updTb t (fun r => { r with prefixes := [], lock := none })
  if r.kind = 1 then (List.range r.count).foldl (fun s i => s.setDword (1024 * r.regionBase + i) 0) s else s

/-- The mirrored regions defined here. -/
def State.regions (s : State) : List RegionDef :=
  (List.range 64).filterMap (fun n =>
    let w := s.reg (0x3c0100 + 8 * n)
    if bit w 63 then some ⟨w.extractLsb' 0 16, w.extractLsb' 32 16, Fin.ofNat 4096 (fld w 48 12), bit w 62⟩ else none)

/-- PAIR_REGION as a word (R554). -/
def regionWord (r : RegionDef) : Word :=
  BitVec.ofNat 64 (r.base.toNat + r.count.toNat * 2 ^ 32 + r.domain.val * 2 ^ 48 + (if r.side then 2 ^ 62 else 0) + 2 ^ 63)

/-- Define the mirrored regions. -/
def State.putRegions (s : State) (rs : List RegionDef) : State :=
  (List.range 64).foldl (fun s n => s.setReg (0x3c0100 + 8 * n) (match rs[n]? with | some r => regionWord r | none => 0)) s

/-- The identities of a full walk: profile and state, then every handle, prefix or index, ascending (R549). -/
def State.walk (s : State) (t : Nat) : List Ident :=
  let r := s.tb t
  ⟨t, 3, 0, 0, 0⟩ ::
    (if isArray r.kind then (List.range (16384 * r.maxBlocks)).map (fun i => ⟨t, 0, r.handleBase + i, 0, 0⟩)
     else if r.kind = 2 then
       (List.range r.prefixes.length).filterMap (fun i => (prefixAt r.prefixes i).map (fun p => ⟨t, 1, 0, p.2.1, p.1⟩))
     else (List.range r.count).map (fun i => ⟨t, 2, i, 0, 0⟩))

/-- The pages that a resync copies: every page of each region for a fresh joiner, else those of the dirty bitmap (R550). -/
def State.resyncPages (s : State) (fresh : Bool) : List Nat :=
  if fresh then s.regions.flatMap (fun r => (List.range (r.count.toNat * 65536)).map (fun i => r.base.toNat * 65536 + i))
  else s.pair.dirty.map (fun e => e.1)

/-- PAIR_RESYNC shows what is left (R554). -/
def State.showResync (s : State) : State :=
  (s.setF fPagesLeft s.pair.pages.length).setF fRowsLeft s.pair.rows.length

/-- The keeper enters RESYNC: REGION_LIST, then one row per identity and one copy per page (R548 to R550). -/
def State.startKeeper (s : State) (fresh : Bool) : State :=
  let s := (s.setF fJoiner 0).setPst .resync
  let s := s.linkSend (.regionList s.regions)
  let ids := if fresh || s.f fBroken == 1 then s.mirTables.flatMap s.walk
    else ((s.pair.journal.filter (fun e => e.seq != 0)).map (fun e => e.id)).eraseDups
  let pg := s.resyncPages fresh
  (s.updPair (fun p => { p with rows := ids, pages := pg })).showResync

/-- The joiner enters RESYNC: role away; its MIRROR tables are cleared for a full walk (R549), and a fresh joiner's CASCADE
tables take the range that the keeper does not hold (R553), which no message tells (log 13). -/
def State.startJoiner (s : State) (m : HelloMsg) : State :=
  let full := s.pair.fresh || m.pend = 1048576
  let s := ((s.setF fJoiner 1).setF fRole 1).setPst .resync
  let s := if full then s.mirTables.foldl State.clearTable s else s
  let s := if s.pair.fresh then
      s.casTables.foldl (fun s t =>
        let r := s.free
        r.2.updTb t (fun x => { x with handleBase := 16384 * (r.1.toNat % 129) })) s
    else s
  s.linkSend (.hello s.ownHello)

/-- A keeper that yields to another discards its mirrored state and is fresh again (R545). -/
def State.yieldKeeper (s : State) : State :=
  let s := s.mirTables.foldl State.clearTable s
  let s := (s.putRegions []).raise .pairSplit (s.f fEpoch) 0
  let s := ((s.setF fRole 1).setF fKeepCause 0).setReg 0x3c0020 0
  let s := s.updPair (fun p => { p with fresh := true, journal := [], dirty := [], keptIds := [], keptPages := [] })
  s.setPst .linking

/-- HELLO (R524, R544, R545): the first row that applies decides. -/
def State.helloIn (s : State) (m : HelloMsg) : State :=
  let s := s.updPair (fun p => { p with peer := some m })
  let defs := m.digestEq && m.basesOk
  if m.pairId.toNat != s.f fPairId then s.setF fLinkFail 8
  else match s.pst, m.state with
  | .keeper, .keeper =>
    let mine := s.f fKeepCause
    let stay := decide (mine < m.cause.toNat) || (mine == m.cause.toNat && s.f fStrapRole == 0)
    if stay then s else s.yieldKeeper
  | .keeper, .benched =>
    if m.epoch.toNat + 1 = s.f fEpoch then (if defs then s.startKeeper false else s.setF fLinkFail 8) else s
  | .benched, .keeper =>
    if s.f fEpoch + 1 = m.epoch.toNat then (if defs then s.startJoiner m else s.setF fLinkFail 8) else s
  | .keeper, .resync => if defs then s.startKeeper m.fresh else s.setF fLinkFail 8
  | .linking, .keeper =>
    if !defs then s.setF fLinkFail 8 else if s.pair.fresh && s.pair.join then s.startJoiner m else s
  | .linking, .linking =>
    if !(s.pair.fresh && m.fresh) then s
    else if m.strapRole == (s.f fStrapRole == 1) then s.setF fLinkFail 7
    else if !m.digestEq then s.setF fLinkFail 8
    else ((s.setF fEpoch 1).setF fRole (s.f fStrapRole)).updPair (fun p => { p with fresh := false }) |>.setPst .paired
  | .paired, .benched => s.becomeKeeper 4
  | .resync, .resync => s
  | .resync, _ =>
    if s.f fJoiner == 0 then ((s.setPst .keeper).updPair (fun p => { p with rows := [], pages := [] })).showResync else s
  | _, _ => s

/-- HELLO. -/
def execHello (m : HelloMsg) (s : State) : Res := whileUp s (fun s => s.when s.pair.up (·.helloIn m))

/-- GWEUT_LINK_UP (R513, R517, R523, R524): training ends; credits, sequences and offset start anew; HELLO goes each way.
A failure of latency, authentication or role keeps the member as it is. -/
def State.linkUp (s : State) (authOk latencyOk : Bool) (m : HelloMsg) : State :=
  if !s.pair.go || s.pair.up then s
  else if !latencyOk then s.setF fLinkFail 6
  else if !authOk then s.setF fLinkFail 9
  else if s.f fRoleConfirm != s.f fStrapRole then s.setF fLinkFail 7
  else
    let s := s.updPair (fun p => { p with up := true, credit0 := 128, credit1 := 1024, credit2 := 4096, txSeq := 0, rxSeq := 0,
                                          nakSent := false, kept := [], offsetSet := false, lastBeat := s.tick })
    let s := s.setF fAliveIn 1
    (s.linkSend (.hello s.ownHello)).helloIn m

/-- GWEUT_LINK_UP. -/
def execGweutLinkUp (authOk : Bool) (latencyOk : Bool) (m : HelloMsg) (s : State) : Res :=
  whileUp s (fun s => s.when s.member (·.linkUp authOk latencyOk m))

/-! ### Owner commands (R534, R544, R552) -/

/-- PAIR_BENCH (R544): a PAIRED member is benched, and says so to its partner. -/
def execPairBench (via : OwnerPath) (s : State) : Res :=
  whileUp s (fun s => s.owner1 via 0x51 (firstBad [(!s.member || s.pst != .paired, St.locked)])
    (fun s => let s := s.becomeBenched; s.linkSend (.hello s.ownHello)))

/-- PAIR_JOIN (R524, R552): a fresh member joins the keeper that it is or will be linked to. -/
def execPairJoin (via : OwnerPath) (s : State) : Res :=
  whileUp s (fun s => s.owner1 via 0x52 (firstBad [(!s.member || s.pst != .linking || !s.pair.fresh, St.locked)])
    (fun s =>
      let s := s.updPair (fun p => { p with join := true })
      match s.pair.peer with
      | some m => if s.pair.up && m.state == .keeper then s.helloIn m else s
      | none => s))

/-- An LD maps a byte of the DPA range. -/
def State.ldMaps (s : State) (a b : Nat) : Bool :=
  s.lds.any (fun e => e.2.segs.any (fun g => decide (g.dpa < b) && decide (a < g.dpa + g.len)))

/-- MIRROR_REGION (R534). -/
def execMirrorRegion (via : OwnerPath) (base : BitVec 64) (count : BitVec 16) (domain : BitVec 16) (side : Byte)
    (s : State) : Res :=
  whileUp s (fun s =>
    let rs := s.regions
    let a := base.toNat
    let b := a + count.toNat * 2 ^ 28
    let units := rs.foldl (fun n r => n + r.count.toNat) 0
    let d : RegionDef := ⟨BitVec.ofNat 16 (a / 2 ^ 28), count, Fin.ofNat 4096 domain.toNat, side == 1⟩
    s.owner1 via 0x50 (firstBad [
      (a % 2 ^ 28 != 0 || decide (2 ^ 44 < b) || count == 0 || decide (4096 ≤ domain.toNat) || decide (1 < side.toNat), St.malformed),
      (!s.member || s.pst != .paired || s.isAway, St.locked),
      (decide (64 ≤ rs.length) || decide (8192 < units + count.toNat), St.noRoom),
      (rs.any (fun r => decide (r.base.toNat * 2 ^ 28 < b) && decide (a < (r.base.toNat + r.count.toNat) * 2 ^ 28)) || s.ldMaps a b,
        St.malformed)])
      (fun s => (s.putRegions (rs ++ [d])).linkSend (.regionList (rs ++ [d]))))

end Sys2Proof.Machine
end

