-- ==== Sys2Proof/Machine/PairMsg.lean ====
section
/-! DEFINITION. The pair's messages: mirrored changes, forwarded mutations, mirrored memory, resync, redirected ranks
(15 R526 to R535, R547 to R551; 14 R508). -/

namespace Sys2Proof.Machine

/-! ### Mirrored changes at away (R527 to R530) -/

/-- The operations reserved or granted for mirrored changes. -/
def State.mirOps (s : State) : List ArrOp :=
  (s.arb.resvs.map (fun r => r.op) ++ s.arb.flights.map (fun f => f.op)).filter (fun o =>
    match o.origin with | .mirror _ _ => true | _ => false)

/-- The row that carries a handle, or that a mirrored change on its way gives it. -/
def State.mirRowOf (s : State) (t h : Nat) : Option Nat :=
  (s.liveRow t h).or <| s.mirOps.findSome? (fun o =>
    if o.table != t then none else match o.act with
    | .write a r (.insert _) | .write a r .update => if r.handle = h then some a else none
    | _ => none)

/-- Away's own relocation ends, and its staged row is free (R528). -/
def State.mirDropReloc (s : State) (r : Reloc) : State := (s.dropReloc r).releaseWait r.table r.handle

/-- A free row for a mirrored entry, by steps 1, 2 and 3b of R156; where there is none, away's own relocation gives up its
staged row (R528). -/
def State.mirPick (s : State) (t : Nat) (r : Row) : Option Nat × State :=
  let pick (s : State) : Option Nat := (s.moveTo t s.takenRows r).bind (lowRow s.takenRows)
  match pick s with
  | some a => (some a, s)
  | none =>
    match s.mnt.relocs.find? (fun x => x.table == t) with
    | some x => let s := s.mirDropReloc x; (pick s, s)
    | none => (none, s)

/-- The row image of a message. -/
def mirRow (m : MirMsg) : Row :=
  (({ cells := m.cells, ctl := m.ctl, res := m.res } : Row).setTable m.table.val).setHandle m.handle.toNat

/-- The array operation by which away makes a mirrored change, if it makes one. -/
def State.mirArrOp (s : State) (m : MirMsg) : Option ArrOp × State :=
  let t := m.table.val
  let h := m.handle.toNat
  let mk (a : Act) : ArrOp := { table := t, act := a, origin := .mirror t m.seq }
  let put (k : WKind) : Option ArrOp × State :=
    let r := s.mirPick t (mirRow m)
    (r.1.map (fun a => mk (.write a (mirRow m) k)), r.2)
  if !isArray (s.tb t).kind then (none, s) else
  match m.kind with
  | .put =>
    if m.absent then ((s.mirRowOf t h).map (fun a => mk (.write a {} .free)), s)
    else (match s.mirRowOf t h with
      | some a => (some (mk (.write a (mirRow m) .update)), s)
      | none => put (.insert none))
  | .evict => (match s.mirRowOf t m.victim.toNat with
    | some a => (some (mk (.write a (mirRow m) (.insert (some m.victim.toNat)))), s)
    | none => put (.insert none))
  | .delete => ((s.mirRowOf t h).map (fun a => mk (.write a {} .free)), s)
  | .hit => (some (mk (.upd h (if m.len = 1 then .visit else .hit))), s)
  | .stage => if m.absent then ((s.stagedOf t h).map (fun a => mk (.write a {} .unstage)), s) else put .stage
  | .commit => (some (mk (.upd 0 .lockCommit)), s)
  | .discard => (some (mk (.upd 0 .lockDiscard)), s)
  | _ => (none, s)

/-- A port at which input 12 can be reserved for `op` in tick `x`, whoever owns its slot (R527, 02 R51, R52). -/
def State.mirPort (s : State) (op : ArrOp) (x : Nat) : Option Nat :=
  lowest 8 (fun p =>
    (s.portMask 12).testBit p && !s.resvIn p x op.span && (s.resvLanes x).free (s.opBlocks op) &&
    (!op.twoLanes || (s.resvLanes (x + 1)).free (s.opBlocks op)))

/-- Discard away's relocations of a handle that a change names (R528). -/
def State.mirDropRelocsOf (s : State) (t : Nat) (hs : List Nat) : State :=
  (s.mnt.relocs.filter (fun r => r.table == t && hs.contains r.handle)).foldl State.mirDropReloc s

/-- Reserve the commit of a change at the least home tick `a` of R527; beyond c + 100 the link is lost. -/
def State.mirReserve (s : State) (m : MirMsg) : State :=
  let t := m.table.val
  let c := (s.localTick m.home).toNat
  let s := if c + 21 < s.tick then s.inc fLate else s
  let s := s.mirDropRelocsOf t [m.handle.toNat, m.victim.toNat]
  let last := SMap.get (fun _ => (0, 0)) s.pair.mirLast t
  let r := s.mirArrOp m
  let s := r.2
  let lo := max (max (c + 40) (s.tick + 11)) (if last.1 < m.home then last.2 + 1 else last.2)
  let ok (a : Nat) : Bool := match r.1 with | some op => (s.mirPort op (a - 5)).isSome | none => true
  match ((List.range (c + 101 - lo)).map (fun i => lo + i)).find? ok with
  | none => s.linkLoss 5
  | some a =>
    let s := s.updPair (fun p => { p with mirIn := p.mirIn ++ [(m, a)],
                                          mirLast := SMap.set (fun _ => (0, 0)) p.mirLast t (m.home, a) })
    match r.1 with
    | some op =>
      let rs : List Resv := [⟨(s.mirPort op (a - 5)).getD 0, a - 5, op.span, 12, op⟩]
      { s with arb := { s.arb with resvs := s.arb.resvs ++ rs } }
    | none => s

/-- The lock record that repeats home's lock at away (05 R176; log 23). -/
def State.mirLock (s : State) (t : Nat) : State :=
  s.updTb t (fun r => { r with lock := r.lock.or (some { owner := 4096, leaseUs := 0, endTick := 2 ^ 64 }) })

/-- The row that a mirrored entry takes at its commit: the one reserved for it if it is still free. -/
def State.mirTarget (s : State) (m : MirMsg) (resv : Option Nat) : Option Nat × State :=
  match resv with
  | some a => if s.arr.rows.any (fun e => e.1 == a) then s.mirPick m.table.val (mirRow m) else (some a, s)
  | none => s.mirPick m.table.val (mirRow m)

/-- Store a row at a commit tick, and widen Z for it. -/
def State.putRow (s : State) (t a : Nat) (r : Row) : State :=
  (s.commitRow a r s.tick).widen (segOf a) (r.canopy (s.tb t).gov)

/-- A mirrored entry becomes live under its handle: an UPDATE or move of a live row, or a new row. -/
def State.mirPut (s : State) (m : MirMsg) (resv : Option Nat) : State :=
  let t := m.table.val
  let h := m.handle.toNat
  let n := ((mirRow m).setV true).setG false
  match s.liveRow t h with
  | some a =>
    let o := s.row a
    s.putRow t a ((n.setH (o.h || n.h)).setA o.a)
  | none =>
    let r := s.mirTarget m resv
    match r.1 with
    | some a => (r.2.putRow t a n).setHrow t h (some a)
    | none => r.2

/-- A mirrored eviction replaces the row of the victim that home named (R528). -/
def State.mirEvict (s : State) (m : MirMsg) (resv : Option Nat) : State :=
  let t := m.table.val
  let v := m.victim.toNat
  match s.liveRow t v with
  | some a =>
    let s := (s.setHrow t v none).dropCopy t v
    (s.putRow t a (((mirRow m).setV true).setG false)).setHrow t m.handle.toNat (some a)
  | none => s.mirPut m resv

/-- A staged row, or the removal of one (R526). -/
def State.mirStage (s : State) (m : MirMsg) (resv : Option Nat) : State :=
  let t := m.table.val
  let h := m.handle.toNat
  let s := s.mirLock t
  if m.absent then
    match s.stagedOf t h with
    | some a =>
      let s := (s.freeRow a).rowLeft a
      let s := s.updLock t (fun l => { l with live := l.live.erase a, lastStage := s.tick })
      (match s.stagedOf t h with
       | some b => if (s.liveRow t h).isSome then s else s.setHrow t h (some b)
       | none => s)
    | none => s
  else
    let r := s.mirTarget m resv
    match r.1 with
    | some a =>
      let s := r.2
      let live := (s.liveRow t h).isSome
      let s := s.putRow t a (((mirRow m).setV false).setG true)
      let s := s.updLock t (fun l => { l with live := l.live ++ [a], lastStage := s.tick, bulk := l.bulk || m.len == 1 })
      if live then s.markRetire t h else s.setHrow t h (some a)
    | none => r.2

/-- The flight that COMMIT or a discard of home's lock stands for. -/
def mirFlight (m : MirMsg) (u : Upd) : Flight :=
  { op := { table := m.table.val, act := .upd 0 u, origin := .mirror m.table.val m.seq }, input := 12, port := 0, g := 0 }

/-- A record of home's PREFIX or DIRECT load is staged (R526, R529). -/
def State.mirRecord (s : State) (m : MirMsg) : State :=
  let t := m.table.val
  s.updTb t (fun r =>
    let b : Bulk := r.bulk.getD { origin := .mirror t m.seq, replace := false }
    if r.kind = 2 then { r with bulk := some { b with prefixes := b.prefixes ++ [(m.pfx, m.len.toNat, m.res)] } }
    else { r with bulk := some { b with entries := b.entries ++ [(m.handle.toNat, m.res)] } })

/-- Home's load of a PREFIX or DIRECT table commits: its records at one tick, and its profile (R526, 01 R18). -/
def State.mirLoad (s : State) (m : MirMsg) : State :=
  let t := m.table.val
  let s := match (s.tb t).bulk with
    | some b =>
      let s := (s.updTb t (fun r => { r with bulk := none, prefixes := r.prefixes ++ b.prefixes })).putEntries t b.entries
      s
    | none => s
  if m.len = 1 then s.putProfile t m.prof else s

/-- COMMIT of a lock or of an array load (R526); a load's profile comes with it. -/
def State.mirLockCommit (s : State) (m : MirMsg) : State :=
  let s := s.commitLock (mirFlight m .lockCommit)
  if m.len = 1 then s.putProfile m.table.val m.prof else s

/-- PREPARE at away: staged rows stand, and MIR_READY is framed; a prefix change's nodes are built first (R529). -/
def State.mirPrepare (s : State) (m : MirMsg) : State :=
  let t := m.table.val
  if (s.tb t).kind = 2 && m.len != 255 then
    let act : TAct := if m.absent then .delete m.pfx m.len.toNat else .insert m.pfx m.len.toNat m.res (m.victim == 1)
    let op : TOp := { table := t, act := act, origin := .mirror t m.seq }
    match s.triePlan op with
    | .inl _ => s.linkSend (.mirReady t m.seq)
    | .inr after =>
      let r := s.tb t
      let need := buildSlots (kbOf r.profile) (planOf r.profile) op r.prefixes after
      let b : TBuild :=
        { op := op, swap := s.tick + max 1 ((need.foldl max 0 + 15) / 16), prefixes := after, need := need,
          leaves := after.length - r.prefixes.length,
          freed := subStages (addStages (s.tblSlots t) need) (slotsOf (kbOf r.profile) (planOf r.profile) after),
          freedLeaves := r.prefixes.length - after.length, ready := false, prep := some m.seq }
      { s with trie := { s.trie with builds := SMap.set (fun _ => none) s.trie.builds t (some b) } }
  else s.linkSend (.mirReady t m.seq)

/-- Away's shadow nodes are built: MIR_READY (R529). -/
def State.mirBuilt (s : State) : State :=
  (s.trie.builds.map (fun e => e.1)).foldl (fun s t =>
    match SMap.get (fun _ => none) s.trie.builds t with
    | some b =>
      (match b.op.origin, b.prep with
       | .mirror _ _, some q =>
         if b.swap ≤ s.tick then
           let s := s.linkSend (.mirReady t q)
           let bs := SMap.set (fun _ => none) s.trie.builds t (some { b with prep := none })
           { s with trie := { s.trie with builds := bs } }
         else s
       | _, _ => s)
    | none => s) s

/-- A prefix change at its commit: the nodes built for it go live, and those it disconnects are freed 12 ticks later. -/
def State.mirPrefix (s : State) (m : MirMsg) : State :=
  let t := m.table.val
  let ps := (s.tb t).prefixes
  let others := ps.filter (fun p => !(p.1 == m.pfx && p.2.1 == m.len.toNat))
  let after := if m.kind == .prefixDel || m.absent then others
    else if others.length < ps.length then
      ps.map (fun p => if p.1 == m.pfx && p.2.1 == m.len.toNat then (m.pfx, m.len.toNat, m.res) else p)
    else ps ++ [(m.pfx, m.len.toNat, m.res)]
  let s := match SMap.get (fun _ => none) s.trie.builds t with
    | some b =>
      (match b.op.origin with
       | .mirror _ _ =>
         let fr : TFree := ⟨t, s.tick + 12, b.freed, b.freedLeaves⟩
         let bs := SMap.set (fun _ => none) s.trie.builds t none
         { s with trie := { s.trie with builds := bs, freeing := s.trie.freeing ++ [fr] } }
       | _ => s)
    | none => s
  s.updTb t (fun r => { r with prefixes := after })

/-- A sweeper visit that home made and that removes nothing, applied to away's own row (R526, 07 R241); a removal comes as a
deletion (07 R238). -/
def State.mirVisit (s : State) (t h : Nat) : State :=
  match s.liveRow t h with
  | none => s
  | some a =>
    let r := s.row a
    let lw := (s.arow a).lastWrite
    if r.h then s.commitRow a ((r.setH false).setA false) lw
    else s.commitRow a (r.setA true) lw

/-- Apply a mirrored change or a resynchronized row. -/
def State.mirApply (s : State) (m : MirMsg) (resv : Option Nat) : State :=
  let t := m.table.val
  let h := m.handle.toNat
  let s := s.mirDropRelocsOf t [h, m.victim.toNat]
  match m.kind with
  | .put => if m.absent then (match s.liveRow t h with | some a => s.removeRow a | none => s) else s.mirPut m resv
  | .evict => s.mirEvict m resv
  | .delete => (match s.liveRow t h with | some a => s.removeRow a | none => s)
  | .hit =>
    if m.len = 1 then s.mirVisit t h
    else (match s.liveRow t h with | some a => s.commitRow a ((s.row a).setH true) (s.arow a).lastWrite | none => s)
  | .stage => if isArray (s.tb t).kind then s.mirStage m resv else s.mirRecord m
  | .retire => (s.mirLock t).markRetire t h
  | .prepare => s.mirPrepare m
  | .commit => if isArray (s.tb t).kind then s.mirLockCommit m else s.mirLoad m
  | .discard => s.commitDiscard (mirFlight m .lockDiscard)
  | .profile => let s := s.putProfile t m.prof; if m.len = 1 then s.putState t h else s
  | .state => s.putState t h
  | .prefixPut | .prefixDel => s.mirPrefix m
  | .direct => s.setDword (1024 * (s.tb t).regionBase + h) m.res

/-- One message must wait for the other: they share a table, and a handle unless both change one entry each. -/
def joinMeets (a b : MirMsg) : Bool :=
  let one (m : MirMsg) : Bool := m.kind == .put || m.kind == .delete || m.kind == .hit
  a.table == b.table && (!one a || !one b || a.handle == b.handle)

/-- Away's commit of a mirrored change (R527, R530): its flight ends, the change applies, APPLIED is framed. -/
def State.mirCommit (s : State) (m : MirMsg) : State :=
  let mine (o : ArrOp) : Bool := o.origin == .mirror m.table.val m.seq
  let resv := (s.mirOps.find? mine).bind (fun o => match o.act with | .write a _ _ => some a | _ => none)
  let arb := { s.arb with flights := s.arb.flights.filter (fun f => !mine f.op), resvs := s.arb.resvs.filter (fun r => !mine r.op) }
  let s := { s with arb := arb }
  let s := s.updPair (fun p => { p with joinQ := p.joinQ.erase m })
  -- what came while this member joined and still waits for the same entry takes effect first
  let s := (s.pair.joinQ.filter (fun x => x.table == m.table && decide (m.seq < 2 ^ 64))).foldl (fun s x =>
    if joinMeets x m then (s.updPair (fun p => { p with joinQ := p.joinQ.erase x })).mirApply x none else s) s
  (s.mirApply m resv).mirApplied m.table.val m.seq

/-- An operation of the joiner's input 12 stands for the message. -/
def State.joinIssued (s : State) (m : MirMsg) : Bool :=
  (s.arb.flights.map (fun f => f.op) ++ s.queuedOps.map (fun e => e.2.2)).any (fun o => o.origin == .mirror m.table.val m.seq)

/-- The joiner takes up a message (R548) that no earlier one and no clearing of its table holds up: an array change as an operation
of input 12, any other at once. -/
def State.joinTake (s : State) (m : MirMsg) : State :=
  let before := s.pair.joinQ.takeWhile (fun x => x.seq != m.seq)
  let clearing (o : ArrOp) : Bool := o.table == m.table.val && (match o.act with | .write _ _ (.erase none) => true | _ => false)
  if s.joinIssued m || before.any (joinMeets m) ||
      (s.arb.flights.map (fun f => f.op) ++ s.queuedOps.map (fun e => e.2.2)).any clearing then s
  else
    let s := s.mirDropRelocsOf m.table.val [m.handle.toNat, m.victim.toNat]
    let r := s.mirArrOp m
    match r.1 with
    | some op => r.2.enqOp 12 op
    | none => (r.2.updPair (fun p => { p with joinQ := p.joinQ.erase m })).mirApply m none

/-- The joiner's table messages, in arrival order (R548). -/
def State.joinStep (s : State) : State := s.pair.joinQ.foldl State.joinTake s

/-- A table message arrives at the joiner. -/
def State.joinIn (s : State) (m : MirMsg) : State :=
  let q := { m with seq := 2 ^ 64 + s.ids }
  { s with ids := s.ids + 1, pair := { s.pair with joinQ := s.pair.joinQ ++ [q] } }

/-- The joiner's operation for the message has been granted 5 ticks ago or earlier. -/
def State.joinDue (s : State) (m : MirMsg) : Bool :=
  s.arb.flights.any (fun f => f.op.origin == .mirror m.table.val m.seq && decide (f.g + 5 ≤ s.tick))

/-- The next mirrored change that is due. -/
def State.mirDue (s : State) : Option MirMsg :=
  ((s.pair.mirIn.find? (fun e => decide (e.2 ≤ s.tick))).map (fun e => e.1)).or (s.pair.joinQ.find? s.joinDue)

/-- MIR_OP_COMMIT: one change that is due. -/
def State.mirNext (s : State) : State := match s.mirDue with | some m => s.mirCommit m | none => s

/-- MIR_OP_COMMIT. -/
def execMirOpCommit (s : State) : Res := whileUp s State.mirNext

/-- The prefix and direct changes that commit in the tick that opens take effect before its lookups (01 R19, 08 R278). -/
def State.mirOpen (s : State) : Nat → State
  | 0 => s
  | n + 1 => match s.mirDue with
    | some m => if isArray (s.tb m.table.val).kind then s else State.mirOpen (s.mirCommit m) n
    | none => s

/-- Every change that is due, at most `n`. -/
def State.mirAll (s : State) : Nat → State
  | 0 => s
  | n + 1 => match s.mirDue with | some m => State.mirAll (s.mirCommit m) n | none => s

/-- This member joins (R548). -/
def State.joining (s : State) : Bool := s.pst == .resync && s.f fJoiner == 1

/-- MIR_OP: away of a PAIRED pair reserves its commit (R527); a joiner applies it in arrival order (R548). -/
def execMirOp (m : MirMsg) (s : State) : Res :=
  whileUp s (fun s => s.when s.pair.up (fun s =>
    if s.joining then s.joinIn m
    else s.when (s.pst == .paired && s.isAway) (·.mirReserve m)))

/-- RESYNC_ROW (R549). -/
def execResyncRow (m : MirMsg) (s : State) : Res :=
  whileUp s (fun s => s.when (s.pair.up && s.joining) (·.joinIn m))

/-- MIR_READY (R529): home may grant the commit that PREPARE announced. -/
def State.mirReadyIn (s : State) (t seq : Nat) : State :=
  let lk (l : Lock) : Lock := if l.prep == some seq then { l with ready := true } else l
  let bk (b : Bulk) : Bulk := if b.prep == some seq then { b with ready := true } else b
  let s := s.updTb t (fun r => { r with lock := r.lock.map lk, bulk := r.bulk.map bk })
  match SMap.get (fun _ => none) s.trie.builds t with
  | some b =>
    if b.prep == some seq then
      let bs := SMap.set (fun _ => none) s.trie.builds t (some { b with ready := true, prep := none })
      { s with trie := { s.trie with builds := bs } }
    else s
  | none => s

/-- MIR_READY. -/
def execMirReady (table : TableId) (seq : Nat) (s : State) : Res :=
  whileUp s (fun s => s.when (s.pair.up && !s.isAway) (·.mirReadyIn table.val seq))

/-- APPLIED (R530, R547): the journal entries it covers, and the completions of the mutations submitted at home. -/
def State.appliedIn (s : State) (t seq : Nat) : State :=
  let s := s.cover t seq
  let hit (e : Nat × Nat × Origin × Outc) : Bool := e.1 == t && decide (e.2.1 ≤ seq)
  let es := s.pair.awaitApplied.filter hit
  let s := s.updPair (fun p => { p with awaitApplied := p.awaitApplied.filter (fun e => !hit e) })
  es.foldl (fun s e => s.resolve e.2.2.1 e.2.2.2) s

/-- APPLIED. -/
def execApplied (table : TableId) (seq : Nat) (_home : Nat) (s : State) : Res :=
  whileUp s (fun s => s.when s.pair.up (·.appliedIn table.val seq))

/-! ### Forwarded mutations (05 R153, R154, R176; R532) -/

/-- The entry image that a forwarded READ_BY_HANDLE returns: no message carries it, so what no rule fixes of it is a free value
(log 13). V, G, TABLE and HANDLE are fixed, and bit 63 is never stored (05 R144, 03 R70). -/
def State.freeRowImage (s : State) (t h : Nat) : Row × State :=
  let r := (List.range 10).foldl (fun (p : BitVec 640 × State) i =>
    let w := p.2.free
    (p.1 ||| (w.1.setWidth 640 <<< (64 * i)), w.2)) (0, s)
  let c := r.2.free
  let d := c.2.free
  ((((({ cells := r.1, ctl := putFld c.1 63 1 0, res := d.1 } : Row).setTable t).setHandle h).returned), d.2)

/-- The context and the request of a forwarded mutation of this origin. -/
def State.mutReq (s : State) (og : Origin) : Option (Nat × Req) :=
  match og with
  | .req c n => ((s.cx c).req? false n).map (fun r => (c, r))
  | .cmdPath => some (s.f fMaintCtx, s.maintReq)
  | _ => none

/-- The lock that a context of this member holds at home of a MIRROR table (05 R176): its view here is the owner's. -/
def State.holdFar (s : State) (t c : Nat) : State := (s.mirLock t).updLock t (fun l => { l with owner := 12288 + c })

/-- MUT_DONE (R530, R532): a mutation of a MIRROR table completes at this member's own commit of the change; one of a
CASCADE table now, at the tick at which the partner carried it out. A LOCK, COMMIT or ABANDON of a CASCADE table that home has
carried out is carried out here too. -/
def State.mutDoneIn (s : State) (seq : Nat) (b : MutBody) (home : Nat) : State :=
  match s.pair.awaitDone.find? (fun e => e.1 == seq) with
  | none => s
  | some e =>
    let s := s.updPair (fun p => { p with awaitDone := p.awaitDone.erase e })
    match s.mutTable e.2 with
    | none => s
    | some t =>
      let status := b.status.toNat
      let o : Outc := mutOutc b t (if home = 0 then 0 else (s.localTick home).toNat)
      if s.pair.mirIn.any (fun x => x.1.table.val == t && x.1.home == home) then
        s.updPair (fun p => { p with doneWait := p.doneWait ++ [(e.2, home, b)] })
      else
        match s.mutReq e.2 with
        | some (c, r) =>
          if s.isCascade t && status = St.success && r.opcode = 0x16 then s.lockTable e.2 c t (lineLe r.slot1 0x10 2)
          else if s.isCascade t && status = St.success && r.opcode = 0x17 then s.commitTable e.2 c t
          else if s.isCascade t && status = St.success && r.opcode = 0x18 then s.abandonTable e.2 c t
          else if s.isMirror t && status = St.success && r.opcode = 0x16 then (s.holdFar t c).resolve e.2 o
          else if status = St.success && r.opcode = 0x13 then
            let i := s.freeRowImage t r.handle1
            i.2.resolve e.2 { o with image := some i.1, hit := true }
          else s.resolve e.2 o
        | none => s.resolve e.2 o

/-- MUT_DONE. -/
def execMutDone (seq : Nat) (body : MutBody) (home : Nat) (s : State) : Res :=
  whileUp s (fun s => s.when s.pair.up (·.mutDoneIn seq body home))

/-- Carry out a forwarded mutation; none while it must wait. The partner's context `c` is told from this member's own by
8,192 + `c` (log 23). The image of a forwarded BULK_LOAD is read at this member: at IMAGE_ADDR of its HDM, and none where it
stands in host memory, which ends ABORTED (DESIGN CHOICE, log 39). -/
def State.runFwd (s : State) (e : Nat × Nat × Nat × Line × Line) : Option State :=
  let l := e.2.2.2.1
  let og : Origin := .fwd e.1
  let c := 8192 + e.2.1
  let r : Req := { n := e.1, slots := 2, accept := e.2.2.1, opcode := hOp l, table := hTable l, flags := hFlags l,
                   tag := hTag l, slot1 := l, slot2 := e.2.2.2.2 }
  match s.gate r.table with
  | .wait => none
  | .stale => some (s.resolve og (refusal r.table St.staleGeneration))
  | .go =>
    match r.opcode with
    | 0x10 => s.doInsert og c r
    | 0x11 => s.doUpdate og c r
    | 0x12 => s.doDelete og c r
    | 0x13 => s.doRead og c r
    | 0x15 => s.doLearn og c r
    | 0x16 => some (s.doLock og c r)
    | 0x17 => some (s.doCommit og c r)
    | 0x18 => some (s.doAbandon og c r)
    | 0x19 => s.bulkLoad og c r [] (fun s => s.resolve og (refusal r.table St.aborted))
    | 0x1A => s.setProfile og r
    | 0x1B => some (s.moveState og r 2)
    | 0x1C => some (s.moveState og r 3)
    | 0x1D => some (s.moveState og r 2)
    | _ => some (s.resolve og (refusal r.table St.malformed))

/-- Try the forwarded mutations that wait, in order. -/
def State.fwdRetry (s : State) : State :=
  s.pair.fwdIn.foldl (fun s e =>
    match s.runFwd e with
    | some s => s
    | none => s.updPair (fun p => { p with fwdIn := p.fwdIn ++ [e] })) (s.updPair (fun p => { p with fwdIn := [] }))

/-- FWD_MUT. -/
def execFwdMut (seq : Nat) (ctx : Id12) (acceptTick : Nat) (slot1 slot2 : Line) (s : State) : Res :=
  whileUp s (fun s => s.when (s.pair.up && s.pst == .paired)
    (fun s => (s.updPair (fun p => { p with fwdIn := p.fwdIn ++ [(seq, ctx.val, acceptTick, slot1, slot2)] })).fwdRetry))

/-! ### Mirrored memory and redirected ranks (R535, R550; 14 R508) -/

/-- MEM_ACK (R535). -/
def State.memAckIn (s : State) (seq : Nat) : State :=
  match s.pair.memWait.find? (fun w => w.seq == seq && !w.fwd) with
  | some w => (s.updPair (fun p => { p with memWait := p.memWait.erase w })).cmpWait w
  | none => s

/-- MEM_ACK. -/
def execMemAck (seq : Nat) (s : State) : Res := whileUp s (fun s => s.when s.pair.up (·.memAckIn seq))

/-- MEM_WR (R535, R548). -/
def execMemWrMsg (mirror : Bool) (dpa : Dpa) (mask : BitVec 64) (seq : Nat) (data : Line) (s : State) : Res :=
  whileUp s (fun s => s.when (s.pair.up && (s.pst == .paired || s.pst == .resync)) (fun s => (s.probePage (dpa.toNat / 4096)).memWrIn (.memWrMsg mirror dpa mask seq data)))

/-- Line `i` of a block of 256 B. -/
def blockLine (data : BitVec 2048) (i : Nat) : Line := data.extractLsb' (512 * i) 512

/-- A block of the other member applied as writes to its page; a line whose page is held waits like a MIRROR copy. -/
def State.putBlock (s : State) (page blk : Nat) (data : BitVec 2048) : State :=
  (List.range 4).foldl (fun s i =>
    let a := 4096 * page + 256 * blk + 64 * i
    let r := s.writePage a (blockLine data i) (BitVec.allOnes 64) 4 0
    let wait : Instr := .memWrMsg true (BitVec.ofNat 44 a) (BitVec.allOnes 64) 0 (blockLine data i)
    match r.2 with
    | .served => r.1
    | .held => r.1.holdReq a wait
    | .noZero => r.1.zeroHold a wait) s

/-- RESYNC_BLOCK (R550). -/
def execResyncBlock (page : BitVec 32) (blk : Fin 16) (data : BitVec 2048) (s : State) : Res :=
  whileUp s (fun s => s.when (s.pair.up && s.joining) (fun s => (s.probePage page.toNat).putBlock page.toNat blk.val data))

/-- RDR_REQ (14 R508): this member serves a line of the other's REDIRECTED rank from its own copy. -/
def State.rdrServe (s : State) (write : Bool) (a : Nat) (data : Line) : State :=
  let s := s.probePage (a / 4096)
  if write then
    let r := s.writePage a data (BitVec.allOnes 64) 2 0
    let s := match r.2 with | .served => r.1 | _ => s.putLine a data (BitVec.allOnes 64)
    s.linkSend (.rdrRsp a none false)
  else
    let s := s.readLine 2 0 (a / 64 * 64)
    s.linkSend (.rdrRsp a (some ((s.readOut a).getD 0)) (s.poisoned a))

/-- RDR_REQ. -/
def execRdrReq (write : Bool) (line : Dpa) (data : Line) (s : State) : Res :=
  whileUp s (fun s => s.when (s.pair.up && s.pst == .paired) (·.rdrServe write line.toNat data))

/-- RDR_RSP (14 R508): the oldest request carried to the partner for the line completes. -/
def State.rdrDone (s : State) (a : Nat) (data : Option Line) (poison : Bool) : State :=
  match s.pair.rdr.find? (fun e => e.1 / 64 == a / 64) with
  | none => s
  | some e =>
    let s := s.updPair (fun p => { p with rdr := p.rdr.erase e })
    match memReq e.2 with
    | some q =>
      if q.write then s.answerCmp q.ld q.tag 0 (some (s.chanOf e.1))
      else match data with
        | some d => s.answerData q.ld q.tag d poison (some (s.chanOf e.1))
        | none => s.answerDead q
    | none => s

/-- RDR_RSP. -/
def execRdrRsp (line : Dpa) (data : Option Line) (poison : Bool) (s : State) : Res :=
  whileUp s (fun s => s.when s.pair.up (·.rdrDone line.toNat data poison))

/-- The 256 B of block `i` of a page. -/
def State.pageBlockOf (s : State) (page i : Nat) : BitVec 2048 :=
  BitVec.ofNat 2048 (ofBytes (s.hdmBytes (4096 * page + 256 * i) 256))

/-- A page is read in class MAINT (13 R465), and its 16 blocks are framed. -/
def State.sendPage (s : State) (page : Nat) (msg : Nat → BitVec 2048 → LinkMsg) : State :=
  (List.range 16).foldl (fun s i => s.linkSend (msg i (s.pageBlockOf page i))) (s.readCheck 4 0 (4096 * page) 4096)

/-- PAGE_REQ (14 R508): the 16 blocks of the page go back. -/
def execPageReq (page : BitVec 32) (s : State) : Res :=
  whileUp s (fun s => s.when (s.pair.up && s.pst == .paired) (·.sendPage page.toNat (.pageBlock page.toNat)))

/-- PAGE_BLOCK (14 R508): a block of the page under copy; the page is served here again once all 16 are in place, and the
next one is asked for. -/
def State.pageBlockIn (s : State) (page blk : Nat) (data : BitVec 2048) : State :=
  match s.trn.retrain with
  | none => s
  | some r =>
    if r.pages.head? != some page then s else
    let a := 4096 * page + 256 * blk
    let s := (List.range 4).foldl (fun s i => (s.setLine (a + 64 * i) (blockLine data i)).setPoison (a + 64 * i) false) s
    let bs := r.blocks ||| (1#16 <<< blk)
    if bs != BitVec.allOnes 16 then { s with trn := { s.trn with retrain := some { r with blocks := bs } } }
    else
      let rest := r.pages.drop 1
      let s := { s with trn := { s.trn with retrain := some { r with pages := rest, blocks := 0 } } }
      match rest with
      | q :: _ => s.linkSend (.pageReq q)
      | [] => s

/-- PAGE_BLOCK. -/
def execPageBlock (page : BitVec 32) (blk : Fin 16) (data : BitVec 2048) (s : State) : Res :=
  whileUp s (fun s => s.when s.pair.up (·.pageBlockIn page.toNat blk.val data))

/-! ### Resync (R548 to R551) -/

/-- REGION_LIST: the joiner adopts the keeper's regions, or refuses when it maps one of them (R548); away of a PAIRED pair
takes up home's definitions (R534). -/
def State.regionsIn (s : State) (rs : List RegionDef) : State :=
  if s.joining then
    if rs.any (fun r => s.ldMaps (r.base.toNat * 2 ^ 28) ((r.base.toNat + r.count.toNat) * 2 ^ 28)) then
      let s := (s.setF fLinkFail 8).setF fJoiner 0
      let s := s.setPst (if s.pair.fresh then .linking else .benched)
      s.linkSend (.hello s.ownHello)
    else s.putRegions rs
  else if s.pst == .paired && s.isAway then s.putRegions rs
  else s

/-- REGION_LIST. -/
def execRegionList (rs : List RegionDef) (s : State) : Res := whileUp s (fun s => s.when s.pair.up (·.regionsIn rs))

/-- The current content of an identity, or its absence (R549). -/
def State.identMsg (s : State) (i : Ident) : MirMsg :=
  let m := mirMsg i.table .put i.handle s.tick
  let r := s.tb i.table
  if i.kind = 0 then
    match s.liveRow i.table i.handle with
    | some a => let w := s.row a; { m with cells := w.cells, ctl := w.ctl, res := w.res }
    | none => { m with absent := true }
  else if i.kind = 1 then
    match r.prefixes.find? (fun p => p.1 == i.pfx && p.2.1 == i.len) with
    | some p => { m with kind := .prefixPut, pfx := i.pfx, len := BitVec.ofNat 8 i.len, res := p.2.2 }
    | none => { m with kind := .prefixDel, pfx := i.pfx, len := BitVec.ofNat 8 i.len, absent := true }
  else if i.kind = 2 then { m with kind := .direct, res := s.dword (1024 * r.regionBase + i.handle) }
  else { m with kind := .profile, prof := r.profile, len := 1, handle := BitVec.ofNat 22 r.state }

/-- The keeper frames a RESYNC_ROW (R549). -/
def State.resyncFrame (s : State) (i : Ident) : State :=
  (s.updPair (fun p => { p with rows := p.rows.erase i })).linkSend (.resyncRow (s.identMsg i))

/-- The keeper's next identity (R549): the row of a live entry is read at input 12 and its handle held; once the row is
observed, or at once where there is none to read, the message is framed. -/
def State.resyncNext (s : State) : State :=
  match s.pair.rows with
  | [] => s
  | i :: _ =>
    if i.kind ≠ 0 then s.resyncFrame i else
    let mine (o : ArrOp) : Bool := o.table == i.table && o.origin == .resync i.handle
    match s.arb.flights.find? (fun f => mine f.op), s.liveRow i.table i.handle with
    | some f, _ => if f.seen.isSome then (s.dropFlight f).resyncFrame i else s
    | none, some a =>
      if s.queuedOps.any (fun e => mine e.2.2) || s.heldH i.table i.handle then s
      else s.enqOp 12 { table := i.table, act := .read a, origin := .resync i.handle }
    | none, none => if s.heldH i.table i.handle then s else s.resyncFrame i

/-- The keeper sends one identity, and one page that is not held (R549, R550). -/
def State.resyncSend (s : State) : State :=
  let s := s.resyncNext
  let s := match s.pair.pages with
    | q :: rest =>
      if s.pageHeld q then s
      else
        let s := s.updPair (fun p => { p with pages := rest, dirty := setFlag p.dirty q false })
        s.sendPage q (.resyncBlock q)
    | [] => s
  s.showResync

/-- BROKEN and PENDING clear, and the rewind mark equals the write pointer (R551). -/
def State.journalClear (s : State) : State :=
  let s := s.updPair (fun p => { p with journal := [], keptIds := [], keptPages := [], mirLast := [], join := false, fresh := false })
  ((s.setF fBroken 0).setF fPendingJ 0).setF fRewind (s.f fWritePtr)

/-- The keeper's work in RESYNC, and the event at the tick at which the joiner decodes the end (R549 to R551). -/
def State.resyncTick (s : State) : State :=
  let s := match s.pair.doneAt with
    | some d => if d ≤ s.tick then (s.raise .resyncDone (s.f fEpoch) 0).updPair (fun p => { p with doneAt := none }) else s
    | none => s
  if s.pst != .resync || s.f fJoiner == 1 then s
  else if s.pair.rows.isEmpty && s.pair.pages.isEmpty then
    let s := ((s.setF fEpoch (s.f fEpoch + 1)).setF fKeepCause 0).setPst .paired
    let s := s.journalClear.updPair (fun p => { p with doneAt := some (s.tick + 25) })
    s.linkSend (.resyncDone s.ownHello)
  else s.resyncSend

/-- RESYNC_DONE (R551): the joiner leaves BENCHED. -/
def State.resyncEnd (s : State) (m : HelloMsg) : State :=
  let s := ((s.setF fJoiner 0).setF fEpoch m.epoch.toNat).setF fKeepCause 0
  (s.journalClear.setPst .paired).raise .resyncDone m.epoch.toNat 0

/-- RESYNC_DONE. -/
def execResyncDone (m : HelloMsg) (s : State) : Res :=
  whileUp s (fun s => s.when (s.pair.up && s.joining) (·.resyncEnd m))

end Sys2Proof.Machine
end

