-- ==== Sys2Proof/Machine/Ras.lean ====
section
/-! DEFINITION. Reliability: the tally engine, the shadow writer, spare blocks, the watchdog, fatal errors, events,
injection (16 R560 to R586, 18 R624). -/

namespace Sys2Proof.Machine

/-- TALLY_CTRL and TALLY_STAT fields; ARRAY_SPARE fields; MP_WDOG fields (R586). -/
abbrev fTallyEnable : F := ⟨0x3e0020, 63, 1⟩
abbrev fBlkErrMax : F := ⟨0x3e0020, 8, 8⟩
abbrev fPace : F := ⟨0x3e0020, 0, 4⟩
abbrev fPasses : F := ⟨0x3e0028, 32, 32⟩
abbrev fTallyPos : F := ⟨0x3e0028, 0, 21⟩
abbrev fReady : F := ⟨0x3e0040, 60, 4⟩
abbrev fLastLogical : F := ⟨0x3e0040, 48, 8⟩
abbrev fLastPhys : F := ⟨0x3e0040, 40, 8⟩
abbrev fRestarts : F := ⟨0x3e0200, 32, 16⟩
abbrev fPeriodMs : F := ⟨0x3e0200, 0, 10⟩

/-! ### Spare blocks (R570 to R572) -/

/-- The physical block that carries logical block `n`. -/
def State.physOf (s : State) (n : Nat) : Nat := s.f ⟨0x20200 + 8 * n, 0, 8⟩

/-- A logical block is FAILED. -/
def State.blockFailed (s : State) (n : Nat) : Bool := bit (s.reg (0x20200 + 8 * n)) 8

/-- Take the lowest READY spare. -/
def State.takeSpare (s : State) : Option Nat × State :=
  match s.ras.ready with
  | [] => (none, s)
  | p :: rest => (some p, (s.updRas (fun r => { r with ready := rest })).setF fReady rest.length)

/-- Logical block `n` becomes failing at this tick, for cause 0 monitor, 1 tally, 2 BLOCK_SPARE (R570). -/
def State.blockFailing (s : State) (n cause : Nat) : State :=
  if s.ras.failing.contains n || s.blockFailed n then s else
  let pb := s.physOf n
  let s := s.updRas (fun r => { r with failing := r.failing ++ [n] })
  let s := s.raise .blockFailing (n + pb * 256) cause
  let owner := s.tableOf n
  let r := s.takeSpare
  let act (s : State) (a : BlkAct) : State := s.updRas (fun x => { x with blkActs := x.blkActs ++ [(s.tick + 1, a)] })
  match owner, r.1 with
  | none, some p => act r.2 (.freeSpared n p pb)
  | none, none => act r.2 (.freeFailed n pb)
  | some t, some p => r.2.updRas (fun x => { x with rebuilds := x.rebuilds ++ ([⟨n, p, pb, t, s.tick⟩] : List Rebuild) })
  | some t, none => act r.2 (.lost n pb t)

/-- A physical block is FAILED (R586). -/
def State.physFailed (s : State) (p : Nat) : State :=
  (s.updRas (fun r => { r with failedPhys := r.failedPhys ++ [p] })).setF ⟨0x3e0048 + 8 * (p / 64), p % 64, 1⟩ 1

/-- A spare carries a logical block. -/
def State.inService (s : State) (n p pb : Nat) : State :=
  let s := s.setF ⟨0x20200 + 8 * n, 0, 8⟩ p
  let s := ((s.setF fLastLogical n).setF fLastPhys p).physFailed pb
  s.updRas (fun r => { r with failing := r.failing.erase n })

/-- The operation works on a row of block `n`. -/
def ArrOp.inBlock (o : ArrOp) (n : Nat) : Bool := match o.act with | .write a _ _ => blockOf a == n | _ => false
/-- The operation reads a row of block `n`. -/
def ArrOp.readsIn (o : ArrOp) (n : Nat) : Bool := match o.act with | .read a => blockOf a == n | _ => false

/-- A FAILED block takes part in no row operation (03 R66): reservations, reads and reports of its rows fall away. -/
def State.leaveBlock (s : State) (n : Nat) : State :=
  let gone (o : ArrOp) : Bool := o.inBlock n || o.readsIn n
  let s := (s.cutFlights (fun f => f.op.readsIn n)).dropOps (fun o => o.readsIn n)
  let s := { s with arb := { s.arb with resvs := s.arb.resvs.filter (fun r => !gone r.op) } }
  s.updRas (fun r => { r with
    reports := r.reports.filter (fun a => blockOf a != n), revisit := r.revisit.filter (fun a => blockOf a != n),
    repairs := r.repairs.filter (fun x => blockOf x.row != n) })

/-- A logical block is FAILED: no physical block carries it (03 R66). -/
def State.logicalFailed (s : State) (n pb : Nat) : State :=
  let s := (s.leaveBlock n).setReg (0x20200 + 8 * n) 0x1ff
  (s.setF fLastLogical n).physFailed pb
/-- What was to be written into a lost block: an insert is placed afresh, and any other change has lost its entry. -/
def State.endInBlock (s : State) (n : Nat) : State :=
  let fs := s.arb.flights.filter (fun f => f.op.inBlock n)
  let qs := (s.queuedOps.map (fun e => e.2.2)).filter (fun o => o.inBlock n)
  let s := (s.cutFlights (fun f => f.op.inBlock n)).dropOps (fun o => o.inBlock n)
  let again (s : State) (o : ArrOp) : State :=
    match o.act with
    | .write _ r (.insert _) => s.replaceIns { op := o, input := 12, port := 0, g := 0 } r false
    | .write _ r (.learnInsert _) => s.replaceIns { op := o, input := 12, port := 0, g := 0 } r true
    | .write _ r .stage => s.replaceIns { op := o, input := 12, port := 0, g := 0 } r (s.isLearn o.origin)
    | .write _ _ .update | .write _ _ .free => s.resolve o.origin { refusal o.table St.noMatch with tick := s.tick }
    | _ => s
  qs.foldl again (fs.foldl (fun s f => again s f.op) s)

/-- A block of a table is lost (R572). -/
def State.loseBlock (s : State) (n pb t : Nat) : State :=
  let rows := s.arr.rows.filter (fun e => blockOf e.1 == n)
  let live := (rows.filter (fun e => e.2.row.live)).length
  let s := s.endInBlock n
  let s := (rows.map (fun e => e.1)).foldl State.eraseRow s
  let bit := ~~~(blockBit n)
  let s := s.updTb t (fun r => { r with blocks := r.blocks &&& bit, mig := r.mig &&& bit, leaving := r.leaving &&& bit,
                                        gen := (r.gen + 1) % 65536 })
  (s.logicalFailed n pb).raise .blockLost (n + t * 256) live

/-- What happens to a failing block at f + 1 (R570, R572). -/
def State.blkAct (s : State) : BlkAct → State
  | .freeSpared n p pb => s.inService n p pb
  | .freeFailed n pb =>
    let s := s.setBlockFree (s.blockFree &&& ~~~(blockBit n))
    (s.logicalFailed n pb).raise .blockLost n 0
  | .lost n pb t => s.loseBlock n pb t

/-- The block actions that are due. -/
def State.blkDue (s : State) : State :=
  let due := s.ras.blkActs.filter (fun e => decide (e.1 ≤ s.tick))
  let s := s.updRas (fun r => { r with blkActs := r.blkActs.filter (fun e => !decide (e.1 ≤ s.tick)) })
  due.foldl (fun s e => s.blkAct e.2) s

/-- BLOCK_SENSE_FAULT (R570). -/
def execBlockSenseFault (blk : Fin 128) (s : State) : Res := whileUp s (·.blockFailing blk.val 0)

/-- BLOCK_SPARE (R570): LOCKED for a block of a table, unless it is already failing. -/
def execBlockSpare (via : OwnerPath) (blk : Byte) (s : State) : Res :=
  whileUp s (fun s => s.owner1 via 0x26 (firstBad [
    (decide (128 ≤ blk.toNat), St.malformed),
    ((s.tableOf blk.toNat).isSome && !s.ras.failing.contains blk.toNat, St.locked)])
    (·.blockFailing blk.toNat 2))

/-- A row of a rebuild has no good shadow content (R563, R571, R576). -/
def State.noShadow (s : State) (a : Nat) : Bool :=
  flag s.ras.dirty a || flag s.ras.shadowQBad a ||
  (!s.ras.shadowQ.any (fun e => e.1 == a) && flag s.ras.shadowPoison a)

/-- SPARE_REBUILD_SWITCH (R571): at f + 4,097 the spare, which holds the shadow content of every row and Z of those rows and of
the row writes granted to the block (03 R91), takes the logical block. A row without shadow content is copied if its parity is good, and is lost otherwise. -/
def State.rebuildSwitch (s : State) (r : Rebuild) : State :=
  let rows := (s.arr.rows.filter (fun e => blockOf e.1 == r.blk)).map (fun e => e.1)
  let held := (s.ras.shadow.filter (fun e => blockOf e.1 == r.blk)).map (fun e => e.1) ++
    (s.ras.shadowQ.filter (fun e => blockOf e.1 == r.blk)).map (fun e => e.1)
  let s := (rows ++ held).eraseDups.foldl (fun s a =>
    if s.noShadow a then (if (s.arow a).bad != 0 then s.loseRow a else s)
    else
      let n := s.shadowOf a
      s.setArow a ⟨n, 0, if n.isFree then 0 else (s.arow a).lastWrite⟩) s
  let p := (s.tb r.table).gov
  let s := (List.range 64).foldl (fun s i =>
    let g := 64 * r.blk + i
    s.setZ g (s.segCanopy p g) 15) s
  s.inService r.blk r.spare r.failing

/-- SPARE_REBUILD_SWITCH: the oldest rebuild whose commit tick is here. -/
def execSpareRebuildSwitch (s : State) : Res :=
  whileUp s (fun s =>
    match s.ras.rebuilds.find? (fun r => decide (r.f + 4097 ≤ s.tick) && s.ras.failing.contains r.blk) with
    | some r => s.rebuildSwitch r
    | none => s)

/-- SPARE_PAUSE_END (R571): at f + 4,098 the pause ends, and SPARE_IN_SERVICE is raised. -/
def execSparePauseEnd (s : State) : Res :=
  whileUp s (fun s =>
    match s.ras.rebuilds.find? (fun r => decide (r.f + 4098 ≤ s.tick) && !s.ras.failing.contains r.blk) with
    | some r => (s.updRas (fun x => { x with rebuilds := x.rebuilds.erase r })).raise .spareInService (r.blk + r.spare * 256) 4098
    | none => s)

/-! ### The tally engine (R564 to R569) -/

/-- PACE in force. -/
def State.pace (s : State) : Nat := let p := s.f fPace; if p = 0 then 1 else min p 11

/-- The first grant tick from `from_` for an operation of input 13, whoever owns the slots, and its port: within the next
128 ticks (R564, 02 R51, R52). -/
def State.tallySlot (s : State) (op : ArrOp) (from_ : Nat) : Option (Nat × Nat) :=
  ((List.range 128).map (fun i => from_ + i)).findSome? (fun g =>
    (lowest 8 (fun p => (s.portMask 13).testBit p && !s.resvIn p g 2 &&
      (s.lanesAt g).free (s.opBlocks op) && (s.lanesAt (g + 1)).free (s.opBlocks op))).map (fun p => (g, p)))

/-- Reserve an operation at the first tick from `from_` (R564). -/
def State.tallyReserve (s : State) (op : ArrOp) (from_ : Nat) : State × Option Nat :=
  match s.tallySlot op from_ with
  | none => (s, none)
  | some (g, p) =>
    let rs : List Resv := [⟨p, g, 2, 13, op⟩]
    ({ s with arb := { s.arb with resvs := s.arb.resvs ++ rs } }, some g)

/-- The row of the paced visit after which the pass goes on with row `a`: the first from `a` on, from row 0 again after the
last, whose block is not FAILED (03 R66). -/
def State.rowFrom (s : State) (a : Nat) : Option Nat :=
  let a := a % 2 ^ 21
  let n := blockOf a
  if !s.blockFailed n then some a
  else (((List.range 128).map (fun i => (n + 1 + i) % 128)).find? (fun m => !s.blockFailed m)).map (fun m => 16384 * m)

/-- The paced visit that is due to be reserved: 128 ticks before the previous visit's tick plus PACE (R564). -/
def State.reservePaced (s : State) : State :=
  if s.f fTallyEnable = 0 then s else
  let from_ := match s.ras.lastPaced with | some g => max (g + s.pace) (s.tick + 128) | none => s.tick + 128
  if s.tick + 128 < from_ then s else
  match s.rowFrom s.ras.nextRow with
  | none => s
  | some a =>
    let r := s.tallyReserve { table := 0, act := .read a, origin := .tally } from_
    match r.2 with
    | some g => r.1.updRas (fun x => { x with lastPaced := some g, nextRow := (a + 1) % 2 ^ 21 })
    | none => s

/-- A visit out of turn, one in 16 × PACE ticks: a row to be seen again, or the oldest report (R567, R568). -/
def State.reserveOut (s : State) : State :=
  let free := match s.ras.lastOut with | some g => decide (g + 16 * s.pace ≤ s.tick + 128) | none => true
  if s.f fTallyEnable = 0 || !free then s else
  match s.ras.revisit ++ s.ras.reports with
  | [] => s
  | a :: _ =>
    let r := s.tallyReserve { table := 0, act := .read a, origin := .tallyOut } (s.tick + 128)
    match r.2 with
    | some g =>
      r.1.updRas (fun x => { x with lastOut := some g, revisit := x.revisit.erase a,
                                    reports := if x.revisit.contains a then x.reports else x.reports.erase a })
    | none => s

/-- The reservations of one tick, after the repairs that its visits have reserved (R564). -/
def State.tallyTick (s : State) : State := s.reserveOut.reservePaced

/-- What a visit finds wrong with a row: 0 compare, 1 parity, 2 state, 3 handle map (R566, R581). -/
def State.rowError (s : State) (a : Nat) : Option Nat :=
  let x := s.arow a
  let r := x.row
  let named := s.hrow r.table r.handle == some a && !flag s.arr.hmapBad (hkey r.table r.handle)
  let twin := !r.live && (s.liveRow r.table r.handle).isSome     -- a staged row beside its handle's live row
  if x.bad != 0 then some 1
  else if !s.noShadow a && r != s.shadowOf a then some 0
  else if r.v && r.g then some 2
  else if r.counted && !named && !twin then some 3
  else none

/-- What the visits whose observation tick is here find (R566). -/
def State.judge (s : State) : State :=
  s.mapFlights (fun f =>
    if f.g + 5 ≠ s.tick then f else
    match f.op.act, f.seen with
    | .read a, some n =>
      { f with seen := some { n with err := s.rowError a, noGood := s.noShadow a,
                                     poison := !s.ras.shadowQ.any (fun e => e.1 == a) && flag s.ras.shadowPoison a } }
    | _, _ => f)

/-- Reserve the row write that a visit at tick `v` asks for (R567). -/
def State.reserveWrite (s : State) (a v : Nat) (r : Row) (k : WKind) : State :=
  let x := s.tallyReserve { table := r.table, act := .write a r k, origin := .tally } (s.tick + 128)
  match x.2 with
  | some g => x.1.updRas (fun y => { y with repairs := y.repairs ++ ([⟨a, v, g⟩] : List Repair) })
  | none => s

/-- The access of a row's 96 B of the shadow, in class MAINT (R562, R566; 13 R465), at the address of log 17. -/
def State.shadowTraffic (s : State) (a : Nat) (write : Bool) : State :=
  ((runLines (96 * a) 96).map (fun x => { s.rawReq x write 4 with eng := true })).foldl State.dramPush s

/-- A visit (R566, R567), by what it found at tick `v` = g + 5: a row error is counted and its repair reserved; a row without
good content is lost, and the row write that frees it is reserved as a repair is. -/
def State.visitRow (s : State) (a v : Nat) (seen : Seen) : State :=
  let n := blockOf a
  let s := if s.ras.shadowQ.any (fun e => e.1 == a) || s.noShadow a then s else s.shadowTraffic a false
  let s := if seen.poison then s.raise .shadowPoison 0 a else s
  if s.ras.failing.contains n then s else
  match seen.err with
  | none => s
  | some k =>
    let s := (s.inc fTallyErrors).raise .arrayRowError ((s.tableOf n).getD 0) (a + k * 2 ^ 56)
    let e := num s.ras.blkErr n + 1
    let s := s.updRas (fun x => { x with blkErr := setNum x.blkErr n e })
    if s.f fBlkErrMax < e then s.blockFailing n 1
    else if seen.noGood then (if k = 1 then s.reserveWrite a v {} (.erase (some v)) else s)
    else s.reserveWrite a v (s.shadowOf a) (.repair v)

/-- After the last row of a segment, Z is widened by the bytes it lacks, at the engine's next reservation tick + 2 (R569). -/
def State.segmentEnd (s : State) (seg : Nat) : State :=
  let missing := s.ras.segBytes &&& ~~~s.zOf seg
  if missing = 0 then s
  else
    let next := match s.ras.lastPaced with | some g => max (s.tick + 1) (g + s.pace - 128) | none => s.tick + 1
    s.updRas (fun x => { x with widen := x.widen ++ [(seg, missing, next + 2)] })

/-- The paced part of a visit: the bytes seen in the segment, the pass's position and end (R564, R569, R570, R586). -/
def State.pacedVisit (s : State) (a v : Nat) (seen : Seen) : State :=
  let s := if s.rowFrom 0 == some a then s.updRas (fun x => { x with blkErr := [] }) else s
  let s := if a % 256 = 0 then s.updRas (fun x => { x with segBytes := 0 }) else s
  let s := s.visitRow a v seen
  let r := seen.row.row
  let p := (s.tb ((s.tableOf (blockOf a)).getD 0)).gov
  let s := if r.isFree then s else s.updRas (fun x => { x with segBytes := x.segBytes ||| r.canopy p })
  let s := if a % 256 = 255 then s.segmentEnd (segOf a) else s
  let next := (s.rowFrom (a + 1)).getD 0
  let s := s.setF fTallyPos next
  if next ≤ a then s.inc fPasses else s

/-- The granted row reads of an origin that have observed their row, with what they saw. -/
def State.readDue (s : State) (og : Origin) : Option (Flight × Nat × Seen) :=
  s.arb.flights.findSome? (fun f =>
    match f.op.act, f.seen with
    | .read a, some n => if f.op.origin == og then some (f, a, n) else none
    | _, _ => none)

/-- TALLY_VISIT: the oldest paced visit whose observation tick is here. -/
def State.tallyVisit (s : State) : State :=
  match s.readDue .tally with
  | some (f, a, n) => (s.dropFlight f).pacedVisit a (f.g + 5) n
  | none => s
/-- TALLY_OUT_OF_TURN. -/
def State.tallyOut (s : State) : State :=
  match s.readDue .tallyOut with
  | some (f, a, n) => (s.dropFlight f).visitRow a (f.g + 5) n
  | none => s

def execTallyVisit (s : State) : Res := whileUp s State.tallyVisit
def execTallyOutOfTurn (s : State) : Res := whileUp s State.tallyOut
/-- TALLY_REPAIR (R567): a reserved repair commits, or is discarded. -/
def execTallyRepair (s : State) : Res := whileUp s (·.commitNext Flight.isRepair)

/-- The widenings of R569 that are due. -/
def State.widenDue (s : State) : State :=
  let due := s.ras.widen.filter (fun e => decide (e.2.2 ≤ s.tick))
  let s := s.updRas (fun x => { x with widen := x.widen.filter (fun e => !decide (e.2.2 ≤ s.tick)) })
  due.foldl (fun s e => (s.widen e.1 e.2.1).raise .canopyWidened ((s.tableOf (e.1 / 64)).getD 0) e.1) s

/-! ### The shadow writer (R562, R563) -/

/-- SHADOW_DRAIN (R562): the oldest entry is written to the shadow. -/
def State.shadowDrain (s : State) : State :=
  match s.ras.shadowQ with
  | [] => s
  | (a, r) :: rest =>
    let s := s.shadowTraffic a true
    s.updRas (fun x => { x with shadowQ := rest, shadow := SMap.set (fun _ => {}) x.shadow a r,
                                shadowQBad := setFlag x.shadowQBad a false, shadowPoison := setFlag x.shadowPoison a false })

/-- SHADOW_DRAIN. -/
def execShadowDrain (s : State) : Res := whileUp s State.shadowDrain

/-- SHADOW_DIRTY_FILL (R563): the row is read at input 13, and once it is observed its image is written to the shadow; a
fill whose parity check fails is not written. -/
def State.dirtyFill (s : State) (a : Nat) : State :=
  if !flag s.ras.dirty a then s else
  match s.arb.flights.find? (fun f => f.op.origin == .dirtyFill && f.op.act == .read a) with
  | some f =>
    match f.seen with
    | none => s
    | some n =>
      let s := s.dropFlight f
      if n.row.bad != 0 then s
      else
        (s.updRas (fun x => { x with shadow := SMap.set (fun _ => {}) x.shadow a n.row.row, dirty := setFlag x.dirty a false,
                                     shadowPoison := setFlag x.shadowPoison a false })).inc fDirtyFills
  | none =>
    if s.queuedOps.any (fun e => e.2.2.origin == .dirtyFill && e.2.2.act == .read a) then s
    else s.enqOp 13 { table := 0, act := .read a, origin := .dirtyFill }

/-- SHADOW_DIRTY_FILL. -/
def execShadowDirtyFill (row : BitVec 21) (s : State) : Res := whileUp s (·.dirtyFill row.toNat)

/-! ### The management processor and fatal errors (R575, R583, R584) -/

/-- MP_WDOG_KICK: a write of MP_WDOG. -/
def execMpWdogKick (who : Who) (w : Word) (s : State) : Res :=
  whileUp s (fun s => s.when (s.mayBar0 who) (fun s =>
    let s := s.setF fPeriodMs (fld w 0 10)
    if bit w 63 then s.updRas (fun r => { r with lastKick := s.tick }) else s))

/-- FW_STAT fields (17 R614). -/
abbrev fTrial : F := ⟨0x820, 63, 1⟩
abbrev fReverted : F := ⟨0x820, 62, 1⟩
abbrev fActive : F := ⟨0x820, 56, 1⟩
abbrev fMinSvn : F := ⟨0x820, 32, 16⟩
abbrev fSvn (copyB : Bool) : F := ⟨0x820, if copyB then 16 else 0, 16⟩

/-- A firmware copy is valid (17 R605). -/
def State.copyValid (s : State) (copyB : Bool) : Bool :=
  (if copyB then s.life.validB else s.life.validA) && decide (s.f fMinSvn ≤ s.f (fSvn copyB))

/-- The copy that the ROM starts: the one the selector names when it is valid, and the other otherwise (17 R607). -/
def State.bootCopy (s : State) : Option Bool :=
  let a := s.f fActive == 1
  if s.copyValid a then some a else if s.copyValid (!a) then some (!a) else none

/-- Change the life-cycle record. -/
def State.updLife (s : State) (f : Life → Life) : State := { s with life := f s.life }

/-- The management processor restarts from the copy of the boot selector; a trial ends, and REVERTED is set (17 R607). -/
def State.mpRestart (s : State) : State :=
  let s := { s with ras := { s.ras with mpRunning := false } }
  let s := if s.f fTrial = 1 then (s.setF fTrial 0).setF fReverted 1 else s
  let c := s.bootCopy.getD s.life.running
  s.updLife (fun l => { l with next := c, trialStart := none })

/-- The management processor is reset, for cause 0 watchdog or 1 processor fault. -/
def State.mpReset (s : State) (cause : Nat) : State :=
  if !s.ras.mpRunning then s else
  let s := s.mpRestart.inc fRestarts
  s.raise .mpRestart (s.f fRestarts) cause

/-- MP_WATCHDOG_EXPIRY (R575): PERIOD_MS of 500,000 ticks each without a kick. -/
def execMpWatchdogExpiry (s : State) : Res :=
  whileUp s (fun s => s.when (decide (s.ras.lastKick + 500000 * max (s.f fPeriodMs) 10 ≤ s.tick)) (·.mpReset 0))

/-- MP_PROCESSOR_FAULT (R575). -/
def execMpProcessorFault (s : State) : Res := whileUp s (·.mpReset 1)

/-- DEVICE_FATAL (R583, R584, 18 R623): the event, AER on every LD function, GW_ALIVE_OUT low; FATAL's interrupt is the last
message sent. -/
def State.goFatal (s : State) (cause : Nat) : State :=
  if s.pins.fatal then s else
  let s := s.raise .deviceFatal cause 0
  let s := (s.setF ⟨0x30, 63, 1⟩ 1).setF ⟨0x30, 0, 2⟩ cause
  let s := (List.range 32).foldl (fun s ld => s.send (.aer ld true)) s
  let s := s.send (.pin 0 false)
  let s := s.setIrq Irq.fatal
  { s with pins := { s.pins with fatal := true } }

/-- DEVICE_FATAL. -/
def execDeviceFatal (cause : Fin 3) (s : State) : Res := whileUp s (·.goFatal cause.val)

/-! ### Events and injection (R579, R585, 18 R624) -/

/-- RAS_EVT_CONS_WRITE (18 R624): events are consumed; with none left the conditions start anew. -/
def execRasEvtConsWrite (who : Who) (v : BitVec 32) (s : State) : Res :=
  whileUp s (fun s => s.when (s.mayBar0 who) (fun s =>
    let s := s.setF fCons v.toNat
    if s.evtPending = 0 then s.updRas (fun r => { r with evtHeld := false })
    else match s.ras.ring.find? (fun e => e.1 == v.toNat % 1024 && e.2.seq % 2 ^ 32 == v.toNat) with
      | some e => s.updRas (fun r => { r with oldest := e.2.tick })
      | none => s))

/-- EVT_COALESCE_EXPIRY (18 R624). -/
def execEvtCoalesceExpiry (s : State) : Res := whileUp s State.evtCheck

/-- Toggle the parity of word `w` of a bank slot: 0 to 31 local, 32 to 63 of the partner. A slot that holds no record to be
delivered is written with correct parity before its next use (06 R203). -/
def Bank.flipSlot (b : Bank) (i w : Nat) : Bank :=
  let flip (rs : List MqRec) (j : Nat) : List MqRec :=
    rs.zipIdx.map (fun e => if e.2 = j then { e.1 with bad := e.1.bad ^^^ (1#2 <<< w) } else e.1)
  if i < b.takenL || (32 ≤ i && decide (i < 32 + b.takenP)) then b
  else if i < 32 then { b with local_ := flip b.local_ (i - b.takenL) }
  else { b with partner := flip b.partner (i - 32 - b.takenP) }

/-- One injection (R585); none where the target does not exist. -/
def State.inject (s : State) (target word addr : Nat) : Option State :=
  match target with
  | 0 =>
    if addr < 2 ^ 21 && decide (word < 12) then
      let x := s.arow addr
      some (s.setArow addr { x with bad := x.bad ^^^ (1#12 <<< word) })
    else none
  | 1 =>
    if addr < 8192 && decide (word < 4) then
      let z := SMap.set (fun _ => 0) s.arr.zBad addr (s.zBadOf addr ^^^ (1#4 <<< word))
      some { s with arr := { s.arr with zBad := z } }
    else none
  | 2 =>
    if addr % 2 ^ 61 < 2 ^ 20 then
      let bad := s.trie.badSlots
      some { s with trie := { s.trie with badSlots := if bad.contains addr then bad.erase addr else bad ++ [addr] } }
    else none
  | 3 =>
    if addr < 2 ^ 21 then some { s with dsram := { s.dsram with bad := setFlag s.dsram.bad addr (!flag s.dsram.bad addr) } } else none
  | 4 =>
    if addr < 2 ^ 16 && decide (word < 2) && addr / 128 % 2 == 0 then
      some (s.updQp (addr / 256) (fun q => q.setBank (addr / 64 % 2) ((q.bank (addr / 64 % 2)).flipSlot (addr % 64) word)))
    else none
  | 5 =>
    if addr < 2 ^ 44 && decide (word < 10) then
      some (s.updRas (fun r => { r with inj := setNum r.inj (addr / 64) (Nat.xor (num r.inj (addr / 64)) (2 ^ word)) }))
    else none
  | 6 =>
    if addr < 2 ^ 44 && decide (word < 9) then
      some (s.updRas (fun r => { r with inj := setNum r.inj (addr / 64) (Nat.xor (num r.inj (addr / 64)) (3 * 2 ^ word)) }))
    else none
  | _ => none

/-- RAS_INJ_GO: a write of RAS_INJ_CTRL (R585, R586). `w`: the fields after the write, with GO and the W1C bit REFUSED as
written (00 R8). -/
def State.injGo (s : State) (w : Word) : State :=
  let s := (s.setF ⟨0x3e0300, 8, 4⟩ (fld w 8 4)).setF ⟨0x3e0300, 0, 3⟩ (fld w 0 3)
  let s := if s.f fLcLock = 0 then s.setF ⟨0x3e0300, 62, 1⟩ (fld w 62 1) else s
  let s := if bit w 61 then s.setF ⟨0x3e0300, 61, 1⟩ 0 else s
  if !bit w 63 then s
  else
    let may := s.f fLcState == 0 || s.f fLcState == 3 || s.f ⟨0x3e0300, 62, 1⟩ == 1
    match (if may then s.inject (fld w 0 3) (fld w 8 4) (s.reg 0x3e0308).toNat else none) with
    | some s => s
    | none => s.setF ⟨0x3e0300, 61, 1⟩ 1

/-- RAS_INJ_GO. -/
def execRasInjGo (who : Who) (w : Word) (s : State) : Res := whileUp s (fun s => s.when (s.mayBar0 who) (·.injGo w))

end Sys2Proof.Machine
end

