-- ==== Sys2Proof/Machine/Reset.lean ====
section
/-! DEFINITION. Resets, the wipe and the self-test of the array blocks (17 R591 to R594, 18 R629, 19 R638 to R641, R646). -/

namespace Sys2Proof.Machine

/-- The result of the self-test: the passing physical blocks, in ascending order, carry the logical blocks, and those left
over are READY spares; a logical block for which none is left is FAILED and not free (R594). -/
def State.selfTest (s : State) (bad : BitVec 136) : State :=
  let good := (List.range 136).filter (fun p => !bad.getLsbD p)
  let n := min 128 good.length
  let s := (List.range 128).foldl (fun (s : State) i =>
    s.setReg (0x20200 + 8 * i) (match good[i]? with | some p => BitVec.ofNat 64 p | none => 0x1ff)) s
  let s := (members bad).foldl (fun (s : State) p => s.setF ⟨0x3e0048 + 8 * (p / 64), p % 64, 1⟩ 1) s
  let s := s.setBlockFree (BitVec.ofNat 128 (2 ^ n - 1))
  (s.setF fReady (good.length - n)).updRas (fun r =>
    { r with ready := good.drop 128, failedPhys := members bad,
             failing := (List.range 128).filter (fun i => decide (n ≤ i)) })

/-- The outcome of a self-test that no command tells: a free value for each physical block (log 2). -/
def State.freeBlocks (s : State) : BitVec 136 × State :=
  let a := s.free
  let b := a.2.free
  let c := b.2.free
  (c.1.extractLsb' 0 8 ++ b.1 ++ a.1, c.2)

/-- RESET_CAUSE bits (17 R614). -/
abbrev rcCold := 0
abbrev rcPin := 1
abbrev rcCommand := 2
abbrev rcLc := 3
abbrev rcFatal := 4

/-- Registers whose value does not come from reset: what OTP and flash hold, and at a warm reset the RWS fields and the
straps (17 R592, R614; 18 R619). -/
def keepsReg (cold : Bool) (off : Nat) : Bool :=
  off == 0x800 || off == 0x820 ||
  (!cold && (off == 0x818 || off == 0x20 || (decide (0x40 ≤ off) && decide (off < 0x60))))

/-- A cold or warm reset begins: every register to its reset value but those above, the wipe of R593, and the self-test
of R594. What lies outside the device, in flash or in OTP stays; so do the model's own queue, outbox and counter. -/
def State.wipe (s : State) (cold : Bool) (bad : BitVec 136) : State :=
  let lc := s.reg 0x800
  let st := s.life.record
  let lc := putFld (putFld (putFld lc 0 3 st) 3 1 (if st = 4 then 1 else 0)) 8 1 (if s.life.ownerHash.isSome then 1 else 0)
  let fw := putFld (putFld (s.reg 0x820) 63 1 0) 62 1 0
  let life : Life :=
    { factory := s.life.factory, ownerHash := s.life.ownerHash, record := st, validA := s.life.validA, validB := s.life.validB,
      running := s.life.running, next := s.life.next,
      trialLost := s.life.trialLost || s.f fTrial == 1 }
  let r : State :=
    { pending := s.pending, freeIdx := s.freeIdx, sent := s.sent, host := s.host,
      regs := s.regs.filter (fun e => keepsReg cold e.1),
      dram := { pop := s.dram.pop, spd := s.dram.spd },
      trn := { copyA := s.trn.copyA, copyB := s.trn.copyB },
      life := life,
      pins := { cold := cold, warm := !cold, tripped := !cold && s.pins.tripped, good := s.pins.good } }
  let r := (r.setReg 0x800 lc).setReg 0x820 fw
  let r := if s.pins.fatal then r.setF ⟨0x818, rcFatal, 1⟩ 1 else r
  (r.selfTest bad).send (.pin 0 false)

/-- The roles that the straps give (15 R511, R523, R554). -/
def State.strapPair (s : State) : State :=
  let role := s.f ⟨0x20, 1, 1⟩
  ((s.setF fPairEn (s.f ⟨0x20, 0, 1⟩)).setF fRole role).setF ⟨0x3c0008, 59, 1⟩ role

/-- A warm reset begins, with the cause bit that names it (17 R592). -/
def State.warmReset (s : State) (cause : Nat) (bad : BitVec 136) : State :=
  ((s.wipe false bad).setF ⟨0x818, cause, 1⟩ 1).strapPair

/-- A cold reset begins: SYS_THERMTRIP# is released (19 R640, R654). -/
def State.coldReset (s : State) : State :=
  let r := s.freeBlocks
  let t := r.2.wipe true r.1
  let t := { t with pins := { t.pins with good := false } }
  if s.pins.tripped then t.send (.pin 1 true) else t

/-- POWER_GOOD_RISE (19 R639): the sequence of R638 has completed. -/
def execPowerGoodRise (s : State) : Res :=
  .next (s.when s.pins.cold (fun s => { s with pins := { s.pins with good := true } }))

/-- COLD_RESET_RELEASE (19 R639, R646): the straps are sampled, and the tick counter starts at 0. -/
def execColdResetRelease (straps : BitVec 9) (s : State) : Res :=
  .next (s.when (s.pins.cold && s.pins.good) (fun s =>
    let s := { s with pins := { s.pins with cold := false }, tick := 0 }
    (s.setReg 0x20 (straps.zeroExtend 64)).strapPair.send (.pin 0 true)))

/-- POWER_GOOD_LOSS (19 R640). -/
def execPowerGoodLoss (s : State) : Res := .next s.coldReset

/-- RAIL_UNDERVOLTAGE (19 R640). -/
def execRailUndervoltage (s : State) : Res := .next s.coldReset

/-- SYS_RESET_ASSERT (19 R641, 17 R592). -/
def execSysResetAssert (failedBlocks : BitVec 136) (s : State) : Res :=
  .next (s.when (!s.pins.cold && !s.pins.warm) (·.warmReset rcPin failedBlocks))

/-- SYS_RESET_RELEASE (19 R641, 02 R40): the tick counter reads 0. -/
def execSysResetRelease (s : State) : Res :=
  .next (s.when s.pins.warm (fun s =>
    let s := { s with pins := { s.pins with warm := false }, tick := 0 }
    if s.pins.tripped then s else s.send (.pin 0 true)))

/-- DEVICE_RESET (18 R629). -/
def execDeviceReset (via : OwnerPath) (confirm : BitVec 16) (s : State) : Res :=
  whileUp s (fun s => s.owner1 via 0x60 (firstBad [(confirm != 0x8820, St.malformed)])
    (·.updLife (fun l => { l with resetDue := some (s.tick + 500000) })))

/-- DEVICE_RESET_DELAY_EXPIRY: no earlier than 1 ms after a DEVICE_RESET. -/
def execDeviceResetDelayExpiry (s : State) : Res :=
  whileUp s (fun s =>
    match s.life.resetDue with
    | some d => if s.tick < d then s else s.freeBlocks.2.warmReset rcCommand s.freeBlocks.1
    | none => s)

end Sys2Proof.Machine
end

