-- ==== Sys2Proof/Machine/Life.lean ====
section
/-! DEFINITION. Boot, the SPDM responder, key slots, life-cycle transitions, firmware update and the compatibility profile
(17 R587 to R611). -/

namespace Sys2Proof.Machine

/-! ### Boot (R597 to R599) -/

/-- The user store is read (14 R498, R499): CAL_STORE for each copy that is invalid, and the values of the chosen copy are
written, of each channel whose modules its record names. -/
def State.restoreCal (s : State) : State :=
  let s := if s.trn.copyA.isNone then s.raise .calStore 0 0 else s
  let s := if s.trn.copyB.isNone then s.raise .calStore 1 0 else s
  match s.calBest with
  | some c => c.vals.foldl (fun (s : State) e => if s.spdMatch c ((e.1 - 0x200000) / 0x10000) then s.setReg e.1 e.2 else s) s
  | none => s

/-- Firmware keeps the values of start-up training, when any rank was trained (14 R498; log 24). -/
def State.keepTraining (s : State) : State :=
  if (s.calBest.map (fun c => c.vals)) = some (s.regs.filter (fun e => calReg e.1)) then s else s.storeCal

/-- Table 254 as firmware creates it (08 R282, 04 R103): PREFIX, KEY_BITS 32, plan 3, a quota of 65,536, OPEN. -/
def State.createPlacement (s : State) : State :=
  let p : Line := ((BitVec.ofNat 512 32) <<< 448) ||| ((BitVec.ofNat 512 3) <<< 456)
  let r : Tbl := { state := 2, kind := 2, sys := true, count := 65536, profile := p }
  (s.setF fPrefixFree (s.f fPrefixFree - 65536)).setTb 254 r

/-- READY: Memory_Active on every LD, and the zeroing pass starts (R596, R597). -/
def State.becomeReady (s : State) : State :=
  let s := (List.range 32).foldl (fun (s : State) n => s.updLd n (fun l => { l with memActive := true })) s
  let s := { s with tier := { s.tier with zeroing := true, zeroPos := 0 } }
  s.setF fZeroPending s.zeroPending

/-- The next boot phase. The work of a phase is complete when it is left; the DRAM phase begins with the restore. -/
def State.bootNext (s : State) (winBase : BitVec 11) (fail : Nat) : State :=
  let p := s.f fPhase
  if p = 0 then
    if fail = 2 then s.bootFail 2
    else match (if fail = 1 then none else s.bootCopy) with
      | none => s.bootFail 1
      | some c =>
        let s := if s.life.trialLost then s.setF fReverted 1 else s
        (s.updLife (fun l => { l with running := c, next := c, trialLost := false })).setF fPhase 1
  else if p = 1 then
    if fail = 2 then s.bootFail 2
    else if s.f fLcState = 4 then s
    else ((s.updLife (fun l => { l with applied := some l.factory })).setF fPhase 2).restoreCal
  else if p = 2 then
    if fail = 3 ∨ fail = 4 then s.bootFail fail
    else if s.f fMapValid = 0 then s
    else s.keepTraining.setF fPhase 3
  else if p = 3 then
    let s := (s.setF ⟨0xc1000, 33, 11⟩ winBase.toNat).setF ⟨0xc1000, 0, 1⟩ 1
    (s.createPlacement.setF fPhase 4).becomeReady
  else s

/-- BOOT_PHASE_ADVANCE. -/
def execBootPhaseAdvance (winBase : BitVec 11) (fail : Fin 5) (s : State) : Res :=
  whileUp s (fun s => s.when s.ras.mpRunning (·.bootNext winBase fail.val))

/-! ### The SPDM responder (R600, R601, R603) -/

/-- The responder answers from phase FIRMWARE on, and in FAILED (R597, R599). -/
def State.spdmUp (s : State) : Bool := s.ras.mpRunning && s.f fPhase != 0

/-- SPDM response codes and error codes of the SPDM specification (log 15). -/
abbrev spdmMeas := 0x60
abbrev spdmVendor := 0x7E
abbrev spdmError := 0x7F
abbrev spdmInvalid := 0x01
abbrev spdmUnexpected := 0x04

/-- The SPDM ERROR response. -/
def State.spdmErr (s : State) (e : Nat) : State := s.send (.spdm spdmError (leBytes 1 e))

/-- A SHA-384 digest whose value the manual does not state: a free value (log 2). -/
def State.freeDigest (s : State) : List Byte × State :=
  (List.range 6).foldl (fun (p : List Byte × State) _ => (p.1 ++ bytesOf 8 p.2.free.1, p.2.free.2)) ([], s)

/-- The factory store as bytes: its items by index (14 R497; log 42). -/
def Factory.bytes (f : Factory) : List Byte :=
  let items (m : SMap Word) (n : Nat) : List Byte := (List.range n).flatMap (fun i => bytesOf 8 (SMap.get (fun _ => 0) m i))
  items f.trims 120 ++ items f.sense 136 ++ items f.offsets 16 ++ items f.presets 3

/-- The content of measurement `i` (R601). Digests of the ROM and the copy, and the versions, are free values. -/
def State.measurement (s : State) (i : Nat) : List Byte × State :=
  if i = 3 then
    let v := s.free
    (leBytes 2 (s.f (fSvn false)) ++ leBytes 2 (s.f (fSvn true)) ++ bytesOf 8 v.1 ++ leBytes 1 (s.f fActive) ++
      leBytes 1 (s.f fTrial), v.2)
  else if i = 4 then
    (leBytes 1 (s.f fLcState) ++ leBytes 1 (s.f fLcLock) ++ leBytes 1 s.life.profile ++
      bytesOf 48 (s.life.ownerHash.getD 0), s)
  else if i = 5 then (bytesOf 48 (Config.sha384 s.life.factory.bytes), s)
  else s.freeDigest

/-- SPDM_REQUEST: measurement index 0 asks for the number of measurements. -/
def execSpdmRequest (_inSession : Session) (measIndex : Nat) (s : State) : Res :=
  whileUp s (fun s => s.when s.spdmUp (fun s =>
    if measIndex = 0 then s.send (.spdm spdmMeas (leBytes 1 5))
    else if measIndex ≤ 5 then (s.measurement measIndex).2.send (.spdm spdmMeas (leBytes 1 measIndex ++ (s.measurement measIndex).1))
    else s.spdmErr spdmInvalid))

/-- The vendor response (R603). -/
def State.vendorAns (s : State) (op status slot : Nat) : State :=
  s.send (.spdm spdmVendor (leBytes 1 op ++ leBytes 1 status ++ leBytes 2 slot ++ leBytes 1 (s.slotState slot)))

/-- A vendor request (R603): outside a secured session it is answered by UnexpectedRequest; `bad` gives the status of the
first check that fails, and otherwise `eff` is the effect. -/
def State.vendorReq (s : State) (sess : Session) (op slot : Nat) (anySecured : Bool) (bad : Option Nat)
    (eff : State → State) : State :=
  if !s.spdmUp then s
  else if sess = .none then s.spdmErr spdmUnexpected
  else if sess = .secured && !anySecured then s.vendorAns op St.privilege slot
  else match bad with
    | some st => s.vendorAns op st slot
    | none => (eff s).vendorAns op St.success slot

/-- Key slots are reached only in states OPERATIONAL and SERVICE (R604). -/
def State.keysOpen (s : State) : Bool := s.f fLcState == 2 || s.f fLcState == 3

/-- KEY_LOAD (R604). -/
def execKeyLoad (sess : Session) (slot : Id12) (dataKey tweakKey : BitVec 256) (reservedZero : Bool) (s : State) : Res :=
  whileUp s (fun s =>
    let n := slot.val
    let bad := firstBad [(!s.keysOpen, St.privilege), (!reservedZero, St.malformed), (dataKey == tweakKey, St.malformed),
      (s.slotState n != 0, St.locked)]
    s.vendorReq sess 0x01 n false bad (·.setKey n (some (dataKey, tweakKey))))

/-- KEY_ERASE (R604). -/
def execKeyErase (sess : Session) (slot : Id12) (reservedZero : Bool) (s : State) : Res :=
  whileUp s (fun s =>
    let n := slot.val
    let bad := firstBad [(!s.keysOpen, St.privilege), (!reservedZero, St.malformed), (s.slotState n == 2, St.locked)]
    s.vendorReq sess 0x02 n false bad (·.setKey n none))

/-- KEY_QUERY (R604). -/
def execKeyQuery (sess : Session) (slot : Id12) (reservedZero : Bool) (s : State) : Res :=
  whileUp s (fun s =>
    let bad := firstBad [(!s.keysOpen, St.privilege), (!reservedZero, St.malformed)]
    s.vendorReq sess 0x03 slot.val false bad (fun s => s))

/-! ### Life-cycle transitions (R588 to R590) -/

/-- LC_STATUS.RECORDS. -/
abbrev fRecords : F := ⟨0x800, 24, 7⟩

/-- The transitions that an LC_TRANSITION may ask for (R589). -/
def lcAllowed (src dst : Nat) (ownerSess tokenOk : Bool) : Bool :=
  (src == 1 && dst == 2) || (src == 1 && dst == 4 && tokenOk) ||
  (ownerSess && ((src == 2 && (dst == 3 || dst == 1 || dst == 4)) || (src == 3 && (dst == 2 || dst == 4))))

/-- LC_TRANSITION: the entry is programmed, and the warm reset is due no earlier than 1 ms later. -/
def execLcTransition (sess : Session) (target : Byte) (keyHash : BitVec 384) (tokenOk reservedZero : Bool) (s : State) : Res :=
  whileUp s (fun s =>
    let st := s.f fLcState
    let dst := target.toNat
    let n := s.f fRecords
    let bad := firstBad [(!reservedZero, St.malformed), (!lcAllowed st dst (sess == .owner) tokenOk, St.privilege),
      (decide (64 ≤ n) || (n == 63 && dst != 4), St.privilege), (s.f fTrial == 1, St.locked)]
    s.vendorReq sess 0x10 0 (st == 1) bad (fun s =>
      let s := s.setF fRecords (n + 1)
      let hash := if st = 1 ∧ dst = 2 then some keyHash else if st = 2 ∧ dst = 1 then none else s.life.ownerHash
      let s := s.setF ⟨0x800, 8, 1⟩ (if hash.isSome then 1 else 0)
      s.updLife (fun l => { l with record := dst, ownerHash := hash, lcDue := some (s.tick + 500000) })))

/-- LC_WARM_RESET_DUE. -/
def execLcWarmResetDue (s : State) : Res :=
  whileUp s (fun s =>
    match s.life.lcDue with
    | some d => if s.tick < d then s else s.freeBlocks.2.warmReset rcLc s.freeBlocks.1
    | none => s)

/-- LOCK_SET (R591): a write of 1 to LC_CTRL.LOCK_SET. -/
def execLockSet (who : Who) (s : State) : Res := whileUp s (fun s => s.when (s.mayBar0 who) (·.setF fLcLock 1))

/-! ### Firmware update (R605 to R609) -/

/-- Return codes of the CXL specification for firmware commands (log 15). -/
abbrev rcFwAuth : Nat := 0x000A
abbrev rcFwSlot : Nat := 0x000B

/-- Answer a firmware command of an LD, or of the owner. -/
def State.fwAns (s : State) (ld : Option LdId) (code rc : Nat) : State :=
  match ld with
  | some n => s.mboxAns n.val code rc
  | none => s.fmAns code rc

/-- Firmware commands are accepted from the owner, and from an LD whose BAR0_EN is 1 (R606). -/
def State.fwFrom (s : State) : Option LdId → Bool
  | some n => s.f (ldBar0 n.val) == 1
  | none => true

/-- GET_FW_INFO: two slots, the running copy, online activation (10 R359). -/
def execGetFwInfo (ld : LdId) (s : State) : Res :=
  mboxCmd s (fun s => s.mboxAns ld.val 0x0200 rcSuccess
    (leBytes 1 2 ++ leBytes 1 (if s.life.running then 2 else 1) ++ leBytes 1 1 ++ leBytes 13 0 ++
      leBytes 16 (s.f (fSvn false)) ++ leBytes 16 (s.f (fSvn true))))

/-- TRANSFER_FW writes the copy that is not ACTIVE; one broken off leaves it invalid, with SVN zero (R606, R609). -/
def execTransferFw (ld : Option LdId) (copyB : Bool) (svn : BitVec 16) (signedOk complete : Bool) (s : State) : Res :=
  mboxCmd s (fun s =>
    if !s.fwFrom ld then s.fwAns ld 0x0201 rcUnsupported
    else if copyB == (s.f fActive == 1) then s.fwAns ld 0x0201 rcFwSlot
    else if s.f fTrial = 1 then s.fwAns ld 0x0201 rcBusy
    else
      let ok := signedOk && complete && decide (s.f fMinSvn ≤ svn.toNat)
      let s := s.setF (fSvn copyB) (if ok then svn.toNat else 0)
      let s := s.updLife (fun l => if copyB then { l with validB := ok } else { l with validA := ok })
      if complete then s.fwAns ld 0x0201 rcSuccess else s)

/-- ACTIVATE_FW: TRIAL, and a restart into the inactive copy (R606, R609). -/
def execActivateFw (ld : Option LdId) (copyB : Bool) (s : State) : Res :=
  mboxCmd s (fun s =>
    if !s.fwFrom ld then s.fwAns ld 0x0202 rcUnsupported
    else if s.f fTrial = 1 then s.fwAns ld 0x0202 rcBusy
    else if copyB == (s.f fActive == 1) then s.fwAns ld 0x0202 rcFwSlot
    else if !s.copyValid copyB then s.fwAns ld 0x0202 rcFwAuth
    else
      let s := (s.fwAns ld 0x0202 rcSuccess).setF fTrial 1
      let s := s.updLife (fun l => { l with next := copyB, trialStart := none })
      { s with ras := { s.ras with mpRunning := false } })

/-- MP_RESTART_COMPLETE: firmware runs again, and the waiting work goes on (01 R38). -/
def execMpRestartComplete (s : State) : Res :=
  whileUp s (fun s => s.when (!s.ras.mpRunning) (fun s =>
    let s := { s with ras := { s.ras with mpRunning := true, lastKick := s.tick } }
    let trial := s.f fTrial == 1
    s.updLife (fun l => { l with running := l.next, trialStart := if trial then some s.tick else none })))

/-- FW_CONFIRM (R607): the trial copy becomes ACTIVE. -/
def execFwConfirm (who : Who) (s : State) : Res :=
  whileUp s (fun s => s.when (s.mayBar0 who && s.life.trialStart.isSome) (fun s =>
    let s := (s.setF fActive (if s.life.running then 1 else 0)).setF fTrial 0
    s.updLife (fun l => { l with trialStart := none })))

/-- FW_CTRL.TRIAL_S. -/
abbrev fTrialS : F := ⟨0x828, 0, 8⟩

/-- TRIAL_WINDOW_EXPIRY (R607): TRIAL_S seconds of 500,000,000 ticks without CONFIRM. -/
def execTrialWindowExpiry (s : State) : Res :=
  whileUp s (fun s =>
    match s.life.trialStart with
    | some t => if s.tick < t + 500000000 * max (s.f fTrialS) 2 then s else s.mpRestart
    | none => s)

/-- FW_SVN_COMMIT (R608): MIN_SVN rises to the SVN of the ACTIVE copy; a copy below it is no longer valid. -/
def State.svnCommit (s : State) : State :=
  let a := s.f fActive == 1
  let s := s.setF fMinSvn (max (s.f fMinSvn) (s.f (fSvn a)))
  if s.copyValid (!a) then s
  else
    let s := s.setF (fSvn (!a)) 0
    s.updLife (fun l => if a then { l with validA := false } else { l with validB := false })

/-- FW_SVN_COMMIT. -/
def execFwSvnCommit (via : OwnerPath) (s : State) : Res :=
  whileUp s (fun s => s.owner1 via 0x61 (firstBad [(s.f fTrial == 1, St.locked)]) State.svnCommit)

/-! ### The compatibility profile (R611) -/

/-- COMPAT_PROFILE_WRITE: only profile 1 exists, and PROFILE is RWL; a write of another value has no effect. -/
def execCompatProfileWrite (who : Who) (w : Word) (s : State) : Res :=
  whileUp s (fun s => s.when (s.mayBar0 who && s.f fLcLock == 0 && fld w 0 8 == 1) (·.setF ⟨0x830, 0, 8⟩ 1))

end Sys2Proof.Machine
end

