-- ==== Sys2Proof/Machine/Thermal.lean ====
section
/-! DEFINITION. The temperature sensors, the thermal throttle and the trip (19 R648 to R654, R657). -/

namespace Sys2Proof.Machine

/-- THERM_CTRL, THERM_STAT and THERM_CNT fields (R657). -/
abbrev fThrottleC : F := ⟨0xc00, 0, 8⟩
abbrev fClearC : F := ⟨0xc00, 8, 8⟩
abbrev fThermActive : F := ⟨0xc08, 63, 1⟩
abbrev fHotSensor : F := ⟨0xc08, 32, 4⟩
abbrev fPeakTemp : F := ⟨0xc08, 16, 16⟩
abbrev fMaxTemp : F := ⟨0xc08, 0, 16⟩
abbrev fEpisodes : F := ⟨0xc10, 32, 32⟩
abbrev fActiveUs : F := ⟨0xc10, 0, 32⟩

/-- THROTTLE_C and CLEAR_C in force, in 0.1 °C: a THROTTLE_C above 100 acts as 100, and a CLEAR_C at or above it as it
less 5. -/
def State.throttleAt (s : State) : Int := 10 * Int.ofNat (min (s.f fThrottleC) 100)
def State.clearAt (s : State) : Int :=
  let c : Int := 10 * Int.ofNat (s.f fClearC)
  if s.throttleAt ≤ c then s.throttleAt - 50 else c

/-- The sensor with the highest reading, the lowest number on equal readings. -/
def hottest (ts : List (BitVec 16)) : Nat :=
  (List.range ts.length).foldl (fun m i => if (ts.getD m 0).toInt < (ts.getD i 0).toInt then i else m) 0

/-- The readings of the sensors: what each measures, plus the offset that firmware has applied (R648, 14 R497; log 42). -/
def State.readings (s : State) (raw : List (BitVec 16)) : List (BitVec 16) :=
  raw.zipIdx.map (fun x => x.1 + match s.life.applied with
    | some f => (SMap.get (fun _ => 0) f.offsets x.2).setWidth 16
    | none => 0)

/-- THERMAL_SAMPLE at a multiple of 500 ticks: the readings are held, and what they decide is done in the next tick. -/
def State.thermSample (s : State) (raw : List (BitVec 16)) : State :=
  let ts := s.readings raw
  let h := hottest ts
  let top := ts.getD h 0
  let s := (List.range 16).foldl (fun (s : State) i => s.setReg (0xc40 + 8 * i) ((ts.getD i 0).zeroExtend 64)) s
  let s := (s.setF fHotSensor h).setF fMaxTemp top.toNat
  let rise := !s.pins.peak || decide ((BitVec.ofNat 16 (s.f fPeakTemp)).toInt < top.toInt)
  let s := if rise then s.setF fPeakTemp top.toNat else s
  let on := s.f fThermActive == 1
  let below := if top.toInt < s.clearAt then s.pins.below + 1 else 0
  let act := if !on && decide (s.throttleAt ≤ top.toInt) then some (1, h, top.toNat)
    else if on && decide (1000 ≤ below) then some (2, h, top.toNat) else none
  { s with pins := { s.pins with peak := true, below := below, due := act, trip := decide (1150 ≤ top.toInt) } }

/-- THERMAL_SAMPLE: what the 16 sensors measure, in 0.1 °C, two's complement. -/
def execThermalSample (readings : List (BitVec 16)) (s : State) : Res :=
  whileUp s (fun s => s.when (s.tick % 500 == 0 && readings.length == 16) (·.thermSample readings))

/-- The trip (R654). No operation is admitted and nothing completes until a cold reset. -/
def State.doTrip (s : State) : State :=
  let s := (List.range 96).foldl (fun (s : State) i =>
    if s.f (fPstate (i / 8) (i % 8)) = 3 then s else s.setF (fPstate (i / 8) (i % 8)) 2) s
  let s := { s with pins := { s.pins with tripped := true } }
  (s.send (.pin 0 false)).send (.pin 1 false)

/-- The start of a tick: what the last sample decided (R650, R653, R654). -/
def State.thermTick (s : State) : State :=
  let trip := s.pins.trip
  let act := s.pins.due
  let s := { s with pins := { s.pins with due := none, trip := false } }
  let s := match act with
    | some (1, h, v) =>
      let s := (s.setF fThermActive 1).setFloor.setIrq Irq.thermal
      let s := { s with pins := { s.pins with throttle := s.tick, below := 0 } }
      s.raise .thermalThrottle h (thermArg v)
    | some (_, h, v) =>
      let s := (((s.setF fThermActive 0).setFloor.setIrq Irq.thermal).inc fEpisodes).inc fActiveUs ((s.tick - s.pins.throttle) / 500)
      s.raise .thermalClear h (thermArg v)
    | none => s
  if trip then s.doTrip else s
where
  /-- A reading in 64-bit two's complement. -/
  thermArg (v : Nat) : Nat := ((BitVec.ofNat 16 v).signExtend 64).toNat

end Sys2Proof.Machine
end

