-- ==== Sys2Proof/Machine/Mbox.lean ====
section
/-! DEFINITION. Interrupt registers, the management mailbox, the execution of submitted owner commands, and register writes
(18 R615 to R618, R621 to R631). -/

namespace Sys2Proof.Machine

/-! ### Interrupt registers (R622, R623) -/

/-- A write of GLB_INT_STATUS: a bit that the device sets in this tick stays 1. -/
def State.intStatusWrite (s : State) (v : Word) : State :=
  (List.range 8).foldl (fun (s : State) n =>
    if bit v n && num s.ras.intTick n != s.tick + 1 then s.setF ⟨offIntStatus, n, 1⟩ 0 else s) s

/-- A write of GLB_INT_ENABLE: an enable that becomes 1 over a set status bit sends its interrupt. -/
def State.intEnableWrite (s : State) (w : Word) : State :=
  let old := s.reg offIntEnable
  let s := s.setReg offIntEnable (w &&& 0xff)
  (List.range 8).foldl (fun (s : State) n =>
    if bit w n && !bit old n && bit (s.reg offIntStatus) n then s.sendIrq n else s) s

/-- GLB_INT_STATUS_WRITE. -/
def execGlbIntStatusWrite (who : Who) (w : Word) (s : State) : Res :=
  whileUp s (fun s => s.when (s.mayBar0 who) (·.intStatusWrite w))

/-- GLB_INT_ENABLE_WRITE. -/
def execGlbIntEnableWrite (who : Who) (w : Word) (s : State) : Res :=
  whileUp s (fun s => s.when (s.mayBar0 who) (·.intEnableWrite w))

/-! ### The mailbox's claim (R625) -/

/-- MBOX_CTRL fields. -/
abbrev fMboxBusy : F := ⟨0x3f0000, 63, 1⟩
abbrev fResultLen : F := ⟨0x3f0000, 48, 11⟩
abbrev fMboxStatus : F := ⟨0x3f0000, 40, 8⟩
abbrev fBodyLen : F := ⟨0x3f0000, 16, 11⟩
abbrev fOwnerCmd : F := ⟨0x3f0000, 0, 16⟩

/-- MBOX_OWNER as LD `ld` reads it: GRANTED, HELD, HOLDER. -/
def State.mboxOwner (s : State) (ld : LdId) : Word :=
  match s.mbox.holder with
  | some h => BitVec.ofNat 64 ((if h = ld then 2 ^ 63 else 0) + 2 ^ 62 + h.val)
  | none => 0

/-- MBOX_OWNER_READ. -/
def execMboxOwnerRead (ld : LdId) (s : State) : Res :=
  whileUp s (fun s =>
    if !s.mayBar0 (.ld ld) then s.send (.doorbell ld.val 0)
    else
      let s := if s.mbox.holder.isNone then { s with mbox := { s.mbox with holder := some ld } } else s
      s.send (.doorbell ld.val (s.mboxOwner ld)))

/-- A release, which waits until BUSY is clear. -/
def State.mboxFree (s : State) : State :=
  if s.f fMboxBusy = 1 then { s with mbox := { s.mbox with releasePending := true } }
  else { s with mbox := { s.mbox with holder := none } }

/-- MBOX_RELEASE. -/
def execMboxRelease (ld : LdId) (s : State) : Res :=
  whileUp s (fun s => s.when (s.mayBar0 (.ld ld) && s.mbox.holder == some ld) State.mboxFree)

/-! ### The bodies of owner commands (R628 to R631) -/

/-- Body length and fields of an owner command: (offset, size, the bits the field has). -/
def ownerShape (code : Nat) : Option (Nat × List (Nat × Nat × Nat)) :=
  let w (o n : Nat) : Nat × Nat × Nat := (o, n, 2 ^ (8 * n) - 1)
  match code with
  | 0x01 => some (8, [w 0 2, w 2 2])
  | 0x02 => some (8, [w 0 2])
  | 0x03 => some (8, [w 0 1, (1, 1, 1), w 2 2])
  | 0x04 => some (16, [w 0 1, (1, 1, 1), w 8 8])
  | 0x05 => some (8, [w 0 1, (1, 1, 3)])
  | 0x10 => some (8, [w 0 2, w 2 2, w 4 1, w 5 1, w 6 1])
  | 0x11 => some (8, [w 0 2, (2, 1, 1)])
  | 0x20 => some (32, [w 0 1, w 1 1, w 2 2, w 4 1, w 8 16, w 0x18 4, w 0x1C 2])
  | 0x21 => some (32, [w 0 1, w 8 16, w 0x18 4])
  | 0x22 => some (8, [w 0 1])
  | 0x23 => some (32, [w 0 1, w 8 16])
  | 0x24 => some (24, [w 0 1, w 8 8, w 0x10 8])
  | 0x25 => some (8, [w 0 4, w 4 1])
  | 0x26 => some (8, [w 0 1])
  | 0x30 => some (8, [w 0 2, (2, 1, 3), w 3 1, w 4 1])
  | 0x31 => some (24, [w 0 2, w 8 8, w 0x10 4])
  | 0x32 => some (24, [w 0 2, w 8 8, w 0x10 4])
  | 0x33 => some (16, [w 0 1, w 1 1, w 8 8])
  | 0x34 => some (8, [w 0 2, w 2 2])
  | 0x40 => some (8, [w 0 1])
  | 0x41 => some (8, [w 0 1, w 1 1, w 2 1])
  | 0x42 => some (0, [])
  | 0x50 => some (16, [w 0 8, w 8 2, w 0xA 2, w 0xC 1])
  | 0x51 => some (0, [])
  | 0x52 => some (0, [])
  | 0x60 => some (8, [w 0 2])
  | 0x61 => some (0, [])
  | _ => none

/-- No case of R628 applies: the code is known, the length is its own, and what no field names is zero. -/
def ownerFormOk (code : Nat) (body : List Byte) : Bool :=
  match ownerShape code with
  | some (n, fs) =>
    let mask := fs.foldl (fun m f => m + f.2.2 * 2 ^ (8 * f.1)) 0
    let v := ofBytes body
    body.length == n && (v &&& mask) == v
  | none => false

/-- The state after a command that completed. -/
def outState (s : State) : Res → State
  | .next t => t
  | _ => s

/-- Execute owner command `code` with a body (R629). -/
def State.ownerRun (s : State) (via : OwnerPath) (code : Nat) (body : List Byte) : State :=
  let b (o n : Nat) : BitVec (8 * n) := BitVec.ofNat (8 * n) (le body o n)
  let t : TableId := Fin.ofNat 256 (le body 0 1)
  let flag (o i : Nat) : Bool := (le body o 1).testBit i
  if !ownerFormOk code body then
    if code = 0x30 ∨ code = 0x31 ∨ code = 0x32 then s.stewardCmd via code (some St.malformed) (fun s => s)
    else s.owner1 via code (some St.malformed) (fun s => s)
  else outState s (match code with
    | 0x01 => execDomainCreate via (b 0 2) (b 2 2) s
    | 0x02 => execDomainDestroy via (b 0 2) s
    | 0x03 => execLdMapSet via (b 0 1) (flag 1 0) (b 2 2) s
    | 0x04 => execWindowMap via (b 0 1) (flag 1 0) (b 8 8) s
    | 0x05 => execLdMgmtSet via (b 0 1) (flag 1 0) (flag 1 1) s
    | 0x10 => execCtxAssign via (b 0 2) (b 2 2) (b 4 1) (b 5 1) (b 6 1) s
    | 0x11 => execCtxDisable via (b 0 2) (flag 2 0) s
    | 0x20 => execCreateTable via t (b 1 1) (b 2 2) (b 4 1) (b 8 16) (b 0x18 4) (b 0x1C 2) s
    | 0x21 => execResizeTable via t (b 8 16) (b 0x18 4) s
    | 0x22 => execDestroyTable via t s
    | 0x23 => execMigrateTable via t (b 8 16) s
    | 0x24 => execTableCapture via t (b 8 8) (b 0x10 8) s
    | 0x25 => execDirProfile via (b 0 4) (b 4 1) s
    | 0x26 => execBlockSpare via (b 0 1) s
    | 0x30 => execTierSetPolicy via (b 0 2) (flag 2 0) (flag 2 1) (b 3 1) (b 4 1) s
    | 0x31 => execTierPin via (b 0 2) (b 8 8) (b 0x10 4) s
    | 0x32 => execTierUnpin via (b 0 2) (b 8 8) (b 0x10 4) s
    | 0x33 => execTierOffer via (b 0 1) (b 1 1) (b 8 8) s
    | 0x34 => execKeyRotate via (b 0 2) (b 2 2) s
    | 0x40 => execChanRetire via (b 0 1) s
    | 0x41 => execRankRetrain via (b 0 1) (b 1 1) (b 2 1) s
    | 0x42 => execRestoreFactory via s
    | 0x50 => execMirrorRegion via (b 0 8) (b 8 2) (b 0xA 2) (b 0xC 1) s
    | 0x51 => execPairBench via s
    | 0x52 => execPairJoin via s
    | 0x60 => execDeviceReset via (b 0 2) s
    | _ => execFwSvnCommit via s)

/-! ### Taking up and completing (R626, R627) -/

/-- The mailbox's body: the first BODY_LEN bytes of MBOX_DATA. -/
def State.mboxBody (s : State) : List Byte :=
  ((List.range 128).flatMap (fun w => bytesOf 8 (s.reg (0x3f0100 + 8 * w)))).take (s.f fBodyLen)

/-- Firmware takes up the oldest submitted command, the mailbox's first in one tick (R627, R122). -/
def State.ownerTake (s : State) : State :=
  if s.mbox.taken.isSome || !s.fwFree then s else
  let box (t : Nat × LdId) : State :=
    ({ s with mbox := { s.mbox with taken := some (.mailbox t.2) } }).ownerRun (.mailbox t.2) (s.f fOwnerCmd) s.mboxBody
  let fm (m : List Byte × Bool × Nat) : State :=
    ({ s with mbox := { s.mbox with taken := some (.fmApi m.2.1) } }).ownerRun (.fmApi m.2.1) (le m.1 4 2) (m.1.drop 8)
  match s.mbox.arrived, s.mbox.fm with
  | some t, m :: _ => if t.1 ≤ m.2.2 then box t else fm m
  | some t, [] => box t
  | none, m :: _ => fm m
  | none, [] => s

/-- The result of a command is placed, and BUSY clears, or the FM API answers (R626, 10 R366). -/
def State.ownerPublish (s : State) (r : OwnerRes) : State :=
  let mine := decide (s.mbox.taken = some r.via)
  let s := { s with mbox := { s.mbox with done := s.mbox.done.drop 1, taken := if mine then none else s.mbox.taken } }
  match r.via with
  | .mailbox _ =>
    let words := (r.result.length + 7) / 8
    let s := (List.range words).foldl (fun (s : State) i =>
      s.setReg (0x3f0100 + 8 * i) (BitVec.ofNat 64 (le r.result (8 * i) 8))) s
    let s := (((s.setF fMboxStatus r.status).setF fResultLen r.result.length).setReg 0x3f0008 (BitVec.ofNat 64 r.tick)).setF fMboxBusy 0
    let holder := if s.mbox.releasePending then none else s.mbox.holder
    let s := { s with mbox := { s.mbox with arrived := none, releasePending := false, holder := holder } }
    s.setIrq Irq.mboxDone
  | .fmApi _ =>
    let s := if mine then { s with mbox := { s.mbox with fm := s.mbox.fm.drop 1 } } else s
    s.fmAns 0xC820 rcSuccess (leBytes 1 r.status ++ leBytes 7 0 ++ leBytes 8 r.tick ++ r.result)

/-- The earliest completion of a result: that of a DESTROY_TABLE committed at d is written no earlier than d + 89 (04 R140). -/
def OwnerRes.notBefore (r : OwnerRes) : Nat :=
  if (r.code = 0x22 || r.code = 0x23) && r.status == St.success then r.tick + 89 else 0

/-- OWNER_CMD_COMPLETE: firmware takes up the oldest submitted command when none has ended, and completes the oldest one
that has. -/
def execOwnerCmdComplete (s : State) : Res :=
  whileUp s (fun s => s.when s.ras.mpRunning (fun s =>
    let s := if s.mbox.done.isEmpty then s.ownerTake else s
    match s.mbox.done with
    | r :: _ => if s.tick < r.notBefore then s else s.ownerPublish r
    | [] => s))

/-! ### Register writes (R615 to R618) -/

/-- BAR0_BAD_ACCESS (R616): a read of a wrong width or alignment returns zero. -/
def execBar0BadAccess (who : Who) (write : Bool) (offset : BitVec 24) (width : Nat) (s : State) : Res :=
  whileUp s (fun s =>
    let ok := (width == 4 || width == 8) && offset.toNat % width == 0
    s.when (s.mayBar0 who && !ok) (fun s =>
      let s := s.setF ⟨0x30, 8, 1⟩ 1
      match who, write with
      | .ld n, false => s.send (.doorbell n.val 0)
      | _, _ => s))

/-- The value of a register after a write of `v` to the bits of `mask`, by the access types of 00 R8. -/
def State.plainWrite (s : State) (d : RegDef) (off : Nat) (mask v : Word) : Word :=
  let old := s.reg off
  let open_ := (d.rw ||| d.rws ||| (if s.f fLcLock = 0 then d.rwl else 0)) &&& mask
  ((old &&& ~~~open_) ||| (v &&& open_)) &&& ~~~(v &&& mask &&& d.w1c)

/-- MBOX_CTRL or MBOX_DATA may be written: BUSY is clear, and no other LD holds the mailbox (R625, R626). -/
def State.mboxOpen (s : State) (who : Who) : Bool :=
  s.f fMboxBusy == 0 &&
  match who, s.mbox.holder with
  | .ld n, some h => n == h
  | _, _ => true

/-- A write of MBOX_CTRL (R626): GO submits the command; its arrival tick is that of the write. -/
def State.mboxCtrl (s : State) (who : Who) (v w : Word) : State :=
  if !s.mboxOpen who then s else
  let s := (s.setF fBodyLen (fld w 16 11)).setF fOwnerCmd (fld w 0 16)
  if bit v 62 then
    let ld := match who with | .ld n => n | .fw => s.mbox.holder.getD 0
    { s.setF fMboxBusy 1 with mbox := { s.mbox with arrived := some (s.tick - 1, ld) } }
  else s

/-- A write of CTX_CTRL[c] (11 R408, R409). -/
def State.ctxCtrl (s : State) (who : Who) (c : Nat) (mask v : Word) : Res :=
  let c : Id12 := Fin.ofNat 4096 c
  if bit v 4 then execCtxResetWrite who c s
  else if !bit mask 0 then .next s
  else if bit v 0 then execCtxEnableWrite who c s
  else execCtxDisableWrite who c s

/-- A write of a register of channel `c` at offset `o` that has behaviour of its own. -/
def State.chanWrite (s : State) (who : Who) (c o : Nat) (mask v w : Word) (plain : State) : Res :=
  let ch : Fin 12 := Fin.ofNat 12 c
  if o = 0x1000 ∨ o = 0x1008 then execDrcTimingWrite who ch (Fin.ofNat 2 ((o - 0x1000) / 8)) w s
  else if o = 0x1100 then (if bit v 63 then execTrnStart who ch w s else .next plain)
  else if 0x2000 ≤ o ∧ o < 0x2400 then
    execDlyWrite who ch false (Fin.ofNat 8 ((o - 0x2000) / 0x80)) (Fin.ofNat 80 (((o - 0x2000) % 0x80) / 8)) w s
  else if 0x3000 ≤ o ∧ o < 0x5000 then
    execDlyWrite who ch true (Fin.ofNat 8 ((o - 0x3000) / 0x400)) (Fin.ofNat 80 (((o - 0x3000) % 0x400) / 8)) w s
  else if 0x6800 ≤ o ∧ o < 0x6840 then
    (if mask = 0 then .next s else execCalNudgeWrite who ch (Fin.ofNat 8 ((o - 0x6800) / 8)) w s)
  else if o = 0x6880 then execCalSnapIf ch (bit v 63) plain
  else .next plain
where
  /-- CAL_CTRL: SNAP of 1 takes a snapshot. -/
  execCalSnapIf (ch : Fin 12) (snap : Bool) (t : State) : Res := if snap then execCalSnap who ch t else .next t

/-- A write takes effect: at the register's own rule, or by its access types. `v` holds the written bits, zero elsewhere. -/
def State.regWrite (s : State) (p : PendWrite) : Res :=
  match regAt p.off with
  | none => .next s
  | some (d, _) =>
    let off := p.off
    let v := p.value &&& p.mask
    let w := (s.reg off &&& ~~~p.mask) ||| v
    let plain := s.setReg off (s.plainWrite d off p.mask v)
    let on (lo : Nat) : Bool := p.mask.getLsbD lo
    if !s.mayBar0 p.who then .next s
    else if off = 0x100 then execGlbIntStatusWrite p.who v s
    else if off = 0x108 then execGlbIntEnableWrite p.who w s
    else if off = 0x150 then .next plain.evtCheck
    else if off = 0x808 then (if bit v 0 then execLockSet p.who s else .next s)
    else if off = 0x828 then (if bit v 63 then execFwConfirm p.who plain else .next plain)
    else if off = 0x830 then (if on 0 then execCompatProfileWrite p.who w s else .next s)
    else if off = 0xc00 then .next plain.setFloor
    else if off = 0xc08 then     -- PEAK_TEMP: 19 R657 clears it by all ones; other words leave it (DESIGN CHOICE, log 39)
      .next (if fld v 16 16 = 0xffff then { s.setF fPeakTemp 0 with pins := { s.pins with peak := false } } else s)
    else if off = 0x10010 then (if bit v 0 then execFixApply p.who s else .next s)
    else if 0x10100 ≤ off ∧ off < 0x10180 then
      (if on 0 then execArbPortMaskWrite p.who (Fin.ofNat 16 ((off - 0x10100) / 8)) (v.extractLsb' 0 8) s else .next s)
    else if off = 0x4d000 then .next (if s.pins.fatal then s else s.maintWrite p.who (fld w 4 4) (if on 0 then w else putFld w 0 1 0))
    else if off = 0x4d008 ∨ (0x4d040 ≤ off ∧ off < 0x4d0a0) then .next (if s.f fMaintBusy = 1 then s else plain)
    else if off = 0x4d020 then (if on 0 then execMaintEvictSeedWrite p.who w s else .next s)
    else if off = 0x70000 then execRngEnableWrite p.who (w.extractLsb' 0 32) s
    else if 0x80000 ≤ off ∧ off < 0xc0000 then
      let c := (off - 0x80000) / 0x40
      if (off - 0x80000) % 0x40 = 0 then s.ctxCtrl p.who c p.mask v
      else .next (if (s.cx c).state = 0 then plain else s)
    else if off = 0x2f0000 then execMapValidWrite p.who w s
    else if 0x2f0008 ≤ off ∧ off < 0x2f0080 then .next (if s.f fMapValid = 1 then s else plain)
    else if off = 0x2f0100 then execQosClassWrite p.who w s
    else if 0x200000 ≤ off ∧ off < 0x2c0000 then
      s.chanWrite p.who ((off - 0x200000) / 0x10000) (off % 0x10000) p.mask v w plain
    else if off = 0x3c0000 then execLinkGo p.who w s
    else if off = 0x3e0008 then execRasEvtConsWrite p.who (w.extractLsb' 0 32) s
    else if off = 0x3e0200 then execMpWdogKick p.who w s
    else if off = 0x3e0300 then execRasInjGo p.who (putFld (putFld w 61 1 (fld v 61 1)) 63 1 (fld v 63 1)) s
    else if off = 0x3f0000 then .next (s.mboxCtrl p.who v w)
    else if off = 0x3f0010 then
      (match p.who with | .ld n => if bit v 32 then execMboxRelease n s else .next s | .fw => .next s)
    else if 0x3f0100 ≤ off then .next (if s.mboxOpen p.who then plain else s)
    else .next plain

/-- The order of writes serviced in one tick: by (port << 4) | LD, firmware last (R617). -/
def PendWrite.rank (p : PendWrite) : Nat := match p.who with | .ld n => n.val | .fw => 32

/-- The writes serviced in the previous tick take effect (R617). -/
def State.applyWrites (s : State) : State :=
  let ws := sortBy PendWrite.rank s.regW
  ws.foldl (fun (s : State) p => outState s (s.regWrite p)) { s with regW := [] }

/-- REGISTER_WRITE (R616, R617): a 64-bit or 32-bit write is serviced; one that is not aligned sets BAD_ACCESS. -/
def execRegisterWrite (who : Who) (offset : BitVec 24) (wide : Bool) (value : Word) (s : State) : Res :=
  whileUp s (fun s => s.when (s.mayBar0 who) (fun s =>
    let o := offset.toNat
    let n := if wide then 8 else 4
    if o % n != 0 then s.setF ⟨0x30, 8, 1⟩ 1
    else
      let hi := o % 8 = 4
      let mask : Word := if wide then BitVec.allOnes 64 else if hi then 0xffffffff00000000 else 0xffffffff
      let v : Word := if wide then value else if hi then value <<< 32 else value &&& 0xffffffff
      { s with regW := s.regW ++ [⟨who, o / 8 * 8, mask, v⟩] }))

end Sys2Proof.Machine
end

