-- ==== Sys2Proof/Machine/Tick.lean ====
section
/-! DEFINITION. The tick: what the stages that advance by themselves do when one tick ends and the next begins (02 R40, R55
to R65; log 8). -/

namespace Sys2Proof.Machine

/-- What reaches a result port in this tick and no command has delivered: records of searches at t15 and t79, and of passes at
t23 (02 R46, R48, R53). -/
def State.deliverClose (s : State) : State :=
  (List.range 8).foldl (fun s p => ((s.searchDeliver p).cascadeMerge p).passDeliver p) s

/-- The end of tick x: what must commit in it commits; the searches admitted one, two and four ticks ago reach t1, t2 and
t4; the governor, the rangers, the DRAM channels, the engines that need no command and the link take their step. -/
def State.closeTick (s : State) : State :=
  let s := s.settleClaims.leaseClose.commitAll (fun f => !f.isRead) s.arb.flights.length
  let s := (s.mirAll s.pair.mirIn.length).commitAll Flight.isRead s.arb.flights.length
  let s := s.mirrorGrants s.tick
  let s := s.frameCascade s.tick
  let s := s.arrayClose.judge.deliverClose.queueClose.endsClose.clearTick
  let s := s.scanAll.dramTick
  let s := if s.f fPhase = 4 then s.headroom else s
  let s := s.evacStep.retrainStep.releaseSteps.startPromos
  s.mirBuilt.joinStep.resyncTick.fwdRetry.linkTick.tallyTick

/-- The start of the next tick: the counter rises; what the last sample, the last tick's register writes and the dated
actions of blocks and segments bring takes effect; the arbiter grants the tick's slots, unless the device is in the state of
DEVICE_FATAL (16 R584). -/
def State.openTick (s : State) : State :=
  let s := { s with tick := s.tick + 1 }
  let s := s.thermTick
  if s.pins.tripped then s else
  let s := s.applyWrites.blkDue.widenDue.freeLeft.releaseHolds
  let s := s.mirOpen s.pair.mirIn.length
  let s := if s.pins.fatal then s else (s.queueOpen.refreshCopies.arbitrate s.tick State.grantOk).settleWithdrawn
  (s.fillBanks s.tick).settleWindows.maintRetry.evtCheck

/-- TICK: the counter does not run in reset (02 R40); after a thermal trip nothing else does (19 R654). -/
def execTick (s : State) : Res :=
  .next (if s.pins.cold || s.pins.warm then s
    else if s.pins.tripped then { s with tick := s.tick + 1 }
    else s.closeTick.openTick)

end Sys2Proof.Machine
end

