-- ==== Sys2Proof/Machine/Dispatch.lean ====
section
/-! DEFINITION. Dispatch: one arm per command, each a direct call of its meaning. -/

namespace Sys2Proof.Machine

/-- The effect of a command on everything but the queue. -/
def exec (i : Instr) (s : State) : Host.Outcome State Fault Refusal :=
  match i with
  | .tick => Sys2Proof.Machine.execTick s
  | .rowCommit => Sys2Proof.Machine.execRowCommit s
  | .searchResultDeliver port => Sys2Proof.Machine.execSearchResultDeliver port s
  | .enumPassDeliver port => Sys2Proof.Machine.execEnumPassDeliver port s
  | .backoffExpiry input port => Sys2Proof.Machine.execBackoffExpiry input port s
  | .arbWatchdogFire port => Sys2Proof.Machine.execArbWatchdogFire port s
  | .fixApply who => Sys2Proof.Machine.execFixApply who s
  | .arbPortMaskWrite who input mask => Sys2Proof.Machine.execArbPortMaskWrite who input mask s
  | .cascadeMerge port => Sys2Proof.Machine.execCascadeMerge port s
  | .casReq m => Sys2Proof.Machine.execCasReq m s
  | .casReply r => Sys2Proof.Machine.execCasReply r s
  | .casDecline t0 => Sys2Proof.Machine.execCasDecline t0 s
  | .enumReply count recs => Sys2Proof.Machine.execEnumReply count recs s
  | .createTable via table kind domain maxBlocks blocks count units => Sys2Proof.Machine.execCreateTable via table kind domain maxBlocks blocks count units s
  | .resizeTable via table blocks count => Sys2Proof.Machine.execResizeTable via table blocks count s
  | .shrinkEnd table => Sys2Proof.Machine.execShrinkEnd table s
  | .shrinkBlockClear table => Sys2Proof.Machine.execShrinkBlockClear table s
  | .destroyTable via table => Sys2Proof.Machine.execDestroyTable via table s
  | .destroyClearStart table => Sys2Proof.Machine.execDestroyClearStart table s
  | .destroyIdFree table => Sys2Proof.Machine.execDestroyIdFree table s
  | .migrateTable via table blocks => Sys2Proof.Machine.execMigrateTable via table blocks s
  | .migrationCutover table => Sys2Proof.Machine.execMigrationCutover table s
  | .migrationOldClear table => Sys2Proof.Machine.execMigrationOldClear table s
  | .tableCapture via table dest len => Sys2Proof.Machine.execTableCapture via table dest len s
  | .dirProfile via sweep glade => Sys2Proof.Machine.execDirProfile via sweep glade s
  | .blockSpare via blk => Sys2Proof.Machine.execBlockSpare via blk s
  | .domainCreate via domain slot => Sys2Proof.Machine.execDomainCreate via domain slot s
  | .domainDestroy via domain => Sys2Proof.Machine.execDomainDestroy via domain s
  | .ldMapSet via ldid valid domain => Sys2Proof.Machine.execLdMapSet via ldid valid domain s
  | .windowMap via ldid map ldOffset => Sys2Proof.Machine.execWindowMap via ldid map ldOffset s
  | .ldMgmtSet via ldid bar0 inj => Sys2Proof.Machine.execLdMgmtSet via ldid bar0 inj s
  | .ctxAssign via ctx domain steward ldid sport => Sys2Proof.Machine.execCtxAssign via ctx domain steward ldid sport s
  | .ctxDisable via ctx reset => Sys2Proof.Machine.execCtxDisable via ctx reset s
  | .tierSetPolicy via ctx demote quarter coldMax hotMin => Sys2Proof.Machine.execTierSetPolicy via ctx demote quarter coldMax hotMin s
  | .tierPin via ctx dpa count => Sys2Proof.Machine.execTierPin via ctx dpa count s
  | .tierUnpin via ctx dpa count => Sys2Proof.Machine.execTierUnpin via ctx dpa count s
  | .tierOffer via ldid region length => Sys2Proof.Machine.execTierOffer via ldid region length s
  | .keyRotate via domain slot => Sys2Proof.Machine.execKeyRotate via domain slot s
  | .chanRetire via chan => Sys2Proof.Machine.execChanRetire via chan s
  | .rankRetrain via chan rank path => Sys2Proof.Machine.execRankRetrain via chan rank path s
  | .restoreFactory via => Sys2Proof.Machine.execRestoreFactory via s
  | .mirrorRegion via base count domain side => Sys2Proof.Machine.execMirrorRegion via base count domain side s
  | .pairBench via => Sys2Proof.Machine.execPairBench via s
  | .pairJoin via => Sys2Proof.Machine.execPairJoin via s
  | .deviceReset via confirm => Sys2Proof.Machine.execDeviceReset via confirm s
  | .deviceResetDelayExpiry => Sys2Proof.Machine.execDeviceResetDelayExpiry s
  | .fwSvnCommit via => Sys2Proof.Machine.execFwSvnCommit via s
  | .ownerCmdUnknown via code => Sys2Proof.Machine.execOwnerCmdUnknown via code s
  | .nop ctx => Sys2Proof.Machine.execNop ctx s
  | .search ctx n => Sys2Proof.Machine.execSearch ctx n s
  | .enumerate ctx n => Sys2Proof.Machine.execEnumerate ctx n s
  | .resetQueue ctx n => Sys2Proof.Machine.execResetQueue ctx n s
  | .abort ctx n => Sys2Proof.Machine.execAbort ctx n s
  | .insert ctx n => Sys2Proof.Machine.execInsert ctx n s
  | .update ctx n => Sys2Proof.Machine.execUpdate ctx n s
  | .delete ctx n => Sys2Proof.Machine.execDelete ctx n s
  | .readByHandle ctx n => Sys2Proof.Machine.execReadByHandle ctx n s
  | .readByKey ctx n => Sys2Proof.Machine.execReadByKey ctx n s
  | .learn ctx n => Sys2Proof.Machine.execLearn ctx n s
  | .lock ctx n => Sys2Proof.Machine.execLock ctx n s
  | .commit ctx n => Sys2Proof.Machine.execCommit ctx n s
  | .abandon ctx n => Sys2Proof.Machine.execAbandon ctx n s
  | .bulkLoad ctx n host => Sys2Proof.Machine.execBulkLoad ctx n host s
  | .bulkLoadCommit table => Sys2Proof.Machine.execBulkLoadCommit table s
  | .setProfile ctx n => Sys2Proof.Machine.execSetProfile ctx n s
  | .openTable ctx n => Sys2Proof.Machine.execOpenTable ctx n s
  | .disable ctx n => Sys2Proof.Machine.execDisable ctx n s
  | .enable ctx n => Sys2Proof.Machine.execEnable ctx n s
  | .scan ctx n job ranges => Sys2Proof.Machine.execScan ctx n job ranges s
  | .scanRetarget ctx n => Sys2Proof.Machine.execScanRetarget ctx n s
  | .dirPin ctx n => Sys2Proof.Machine.execDirPin ctx n s
  | .dirUnpin ctx n => Sys2Proof.Machine.execDirUnpin ctx n s
  | .descUndefinedOpcode ctx n => Sys2Proof.Machine.execDescUndefinedOpcode ctx n s
  | .maintInsert who w => Sys2Proof.Machine.execMaintInsert who w s
  | .maintUpdate who w => Sys2Proof.Machine.execMaintUpdate who w s
  | .maintDelete who w => Sys2Proof.Machine.execMaintDelete who w s
  | .maintReadByHandle who w => Sys2Proof.Machine.execMaintReadByHandle who w s
  | .maintReadByKey who w => Sys2Proof.Machine.execMaintReadByKey who w s
  | .maintLock who w => Sys2Proof.Machine.execMaintLock who w s
  | .maintCommit who w => Sys2Proof.Machine.execMaintCommit who w s
  | .maintAbandon who w => Sys2Proof.Machine.execMaintAbandon who w s
  | .maintReservedOpcode who w => Sys2Proof.Machine.execMaintReservedOpcode who w s
  | .maintCmdComplete => Sys2Proof.Machine.execMaintCmdComplete s
  | .maintEvictSeedWrite who w => Sys2Proof.Machine.execMaintEvictSeedWrite who w s
  | .placementDecision => Sys2Proof.Machine.execPlacementDecision s
  | .tableManagerPlacement => Sys2Proof.Machine.execTableManagerPlacement s
  | .gladeRestore seg => Sys2Proof.Machine.execGladeRestore seg s
  | .canopyTighten seg => Sys2Proof.Machine.execCanopyTighten seg s
  | .relocationSwitch table handle => Sys2Proof.Machine.execRelocationSwitch table handle s
  | .leaseExpiry table => Sys2Proof.Machine.execLeaseExpiry table s
  | .bankReady qp => Sys2Proof.Machine.execBankReady qp s
  | .continuationQueue qp => Sys2Proof.Machine.execContinuationQueue qp s
  | .bankDrainTake qp => Sys2Proof.Machine.execBankDrainTake qp s
  | .nextRead ld ctx => Sys2Proof.Machine.execNextRead ld ctx s
  | .matchEntryWrite qp n => Sys2Proof.Machine.execMatchEntryWrite qp n s
  | .learnDecide table => Sys2Proof.Machine.execLearnDecide table s
  | .learnRetry table => Sys2Proof.Machine.execLearnRetry table s
  | .sweepPassStart table => Sys2Proof.Machine.execSweepPassStart table s
  | .sweeperVisit table => Sys2Proof.Machine.execSweeperVisit table s
  | .dirRequest => Sys2Proof.Machine.execDirRequest s
  | .dirResolve line => Sys2Proof.Machine.execDirResolve line s
  | .dirDataReturn line => Sys2Proof.Machine.execDirDataReturn line s
  | .dirClaimEnd line => Sys2Proof.Machine.execDirClaimEnd line s
  | .dirAgeRemoval handle => Sys2Proof.Machine.execDirAgeRemoval handle s
  | .dirBiTimeout ld line => Sys2Proof.Machine.execDirBiTimeout ld line s
  | .trieAdmit => Sys2Proof.Machine.execTrieAdmit s
  | .trieLookupDeliver => Sys2Proof.Machine.execTrieLookupDeliver s
  | .trieMutationTake table => Sys2Proof.Machine.execTrieMutationTake table s
  | .trieSwap table => Sys2Proof.Machine.execTrieSwap table s
  | .trieNodeFree table => Sys2Proof.Machine.execTrieNodeFree table s
  | .directAccess bank => Sys2Proof.Machine.execDirectAccess bank s
  | .directLookupDeliver => Sys2Proof.Machine.execDirectLookupDeliver s
  | .chunkTake ranger thread => Sys2Proof.Machine.execChunkTake ranger thread s
  | .imageLoadDone ranger thread => Sys2Proof.Machine.execImageLoadDone ranger thread s
  | .chunkEnd ranger thread => Sys2Proof.Machine.execChunkEnd ranger thread s
  | .reportPost ranger thread => Sys2Proof.Machine.execReportPost ranger thread s
  | .jobComplete ctx n => Sys2Proof.Machine.execJobComplete ctx n s
  | .rngEnableWrite who mask => Sys2Proof.Machine.execRngEnableWrite who mask s
  | .reportConsWrite ld ctx ix v => Sys2Proof.Machine.execReportConsWrite ld ctx ix v s
  | .linkTrain port rate width flit256 lowLatency sris => Sys2Proof.Machine.execLinkTrain port rate width flit256 lowLatency sris s
  | .portLinkLoss port => Sys2Proof.Machine.execPortLinkLoss port s
  | .perstAssert port => Sys2Proof.Machine.execPerstAssert port s
  | .functionLevelReset ld => Sys2Proof.Machine.execFunctionLevelReset ld s
  | .decoderCommit ld ix d => Sys2Proof.Machine.execDecoderCommit ld ix d s
  | .ideFailure port io => Sys2Proof.Machine.execIdeFailure port io s
  | .ideKm port io skid viaLd0orOwner sess key => Sys2Proof.Machine.execIdeKm port io skid viaLd0orOwner sess key s
  | .memrd ld hpa m tag => Sys2Proof.Machine.execMemrd ld hpa m tag s
  | .memrddata ld hpa m tag => Sys2Proof.Machine.execMemrddata ld hpa m tag s
  | .meminv ld hpa m tag => Sys2Proof.Machine.execMeminv ld hpa m tag s
  | .meminvnt ld hpa m tag => Sys2Proof.Machine.execMeminvnt ld hpa m tag s
  | .memspecrd ld hpa => Sys2Proof.Machine.execMemspecrd ld hpa s
  | .memclnevct ld hpa tag => Sys2Proof.Machine.execMemclnevct ld hpa tag s
  | .memwr ld hpa m data tag => Sys2Proof.Machine.execMemwr ld hpa m data tag s
  | .memwrptl ld hpa m data mask tag => Sys2Proof.Machine.execMemwrptl ld hpa m data mask tag s
  | .memrdfwd ld tag => Sys2Proof.Machine.execMemrdfwd ld tag s
  | .memwrfwd ld tag => Sys2Proof.Machine.execMemwrfwd ld tag s
  | .memrdtee ld tag => Sys2Proof.Machine.execMemrdtee ld tag s
  | .memwrtee ld tag => Sys2Proof.Machine.execMemwrtee ld tag s
  | .memWrMsg mirror dpa mask seq data => Sys2Proof.Machine.execMemWrMsg mirror dpa mask seq data s
  | .reservedMemOpcode ld op readClass tag => Sys2Proof.Machine.execReservedMemOpcode ld op readClass tag s
  | .biconflict ld line tag => Sys2Proof.Machine.execBiconflict ld line tag s
  | .birspi ld line data => Sys2Proof.Machine.execBirspi ld line data s
  | .birsps ld line data => Sys2Proof.Machine.execBirsps ld line data s
  | .birspe ld line data => Sys2Proof.Machine.execBirspe ld line data s
  | .identify ld => Sys2Proof.Machine.execIdentify ld s
  | .getSupportedLogs ld => Sys2Proof.Machine.execGetSupportedLogs ld s
  | .getLog ld => Sys2Proof.Machine.execGetLog ld s
  | .getEventRecords ld log => Sys2Proof.Machine.execGetEventRecords ld log s
  | .clearEventRecords ld log n => Sys2Proof.Machine.execClearEventRecords ld log n s
  | .getEventInterruptPolicy ld => Sys2Proof.Machine.execGetEventInterruptPolicy ld s
  | .setEventInterruptPolicy ld policy => Sys2Proof.Machine.execSetEventInterruptPolicy ld policy s
  | .getFwInfo ld => Sys2Proof.Machine.execGetFwInfo ld s
  | .transferFw ld copyB svn signedOk complete => Sys2Proof.Machine.execTransferFw ld copyB svn signedOk complete s
  | .activateFw ld copyB => Sys2Proof.Machine.execActivateFw ld copyB s
  | .getTimestamp ld => Sys2Proof.Machine.execGetTimestamp ld s
  | .setTimestamp ld ns => Sys2Proof.Machine.execSetTimestamp ld ns s
  | .getHealthInfo ld => Sys2Proof.Machine.execGetHealthInfo ld s
  | .identifyMemoryDevice ld => Sys2Proof.Machine.execIdentifyMemoryDevice ld s
  | .getPoisonList ld => Sys2Proof.Machine.execGetPoisonList ld s
  | .injectPoison ld ldOffset => Sys2Proof.Machine.execInjectPoison ld ldOffset s
  | .clearPoison ld ldOffset data => Sys2Proof.Machine.execClearPoison ld ldOffset data s
  | .getDynamicCapacityConfig ld => Sys2Proof.Machine.execGetDynamicCapacityConfig ld s
  | .getDynamicCapacityExtents ld => Sys2Proof.Machine.execGetDynamicCapacityExtents ld s
  | .addDynamicCapacityResponse ld accepted => Sys2Proof.Machine.execAddDynamicCapacityResponse ld accepted s
  | .releaseDynamicCapacity ld ldOffset => Sys2Proof.Machine.execReleaseDynamicCapacity ld ldOffset s
  | .unsupportedMailboxCmd ld code => Sys2Proof.Machine.execUnsupportedMailboxCmd ld code s
  | .setLdAllocations ld units => Sys2Proof.Machine.execSetLdAllocations ld units s
  | .bindLd ld => Sys2Proof.Machine.execBindLd ld s
  | .unbindLd ld => Sys2Proof.Machine.execUnbindLd ld s
  | .setQosAllocatedBw ld min => Sys2Proof.Machine.execSetQosAllocatedBw ld min s
  | .setQosBwLimit ld cap => Sys2Proof.Machine.execSetQosBwLimit ld cap s
  | .setQosControl enables egress interval => Sys2Proof.Machine.execSetQosControl enables egress interval s
  | .setDcRegionConfig ld region base length => Sys2Proof.Machine.execSetDcRegionConfig ld region base length s
  | .initiateDcAdd ld region length => Sys2Proof.Machine.execInitiateDcAdd ld region length s
  | .initiateDcRelease ld ldOffset forced => Sys2Proof.Machine.execInitiateDcRelease ld ldOffset forced s
  | .getMultiHeadedInfo => Sys2Proof.Machine.execGetMultiHeadedInfo s
  | .fmApiOwnerCommand payload session => Sys2Proof.Machine.execFmApiOwnerCommand payload session s
  | .fmApiOtherCommand code => Sys2Proof.Machine.execFmApiOtherCommand code s
  | .ctxEnableWrite who ctx => Sys2Proof.Machine.execCtxEnableWrite who ctx s
  | .ctxDisableWrite who ctx => Sys2Proof.Machine.execCtxDisableWrite who ctx s
  | .ctxResetWrite who ctx => Sys2Proof.Machine.execCtxResetWrite who ctx s
  | .contextDrained ctx => Sys2Proof.Machine.execContextDrained ctx s
  | .sqProdWrite ld ctx v => Sys2Proof.Machine.execSqProdWrite ld ctx v s
  | .cqConsWrite ld ctx v => Sys2Proof.Machine.execCqConsWrite ld ctx v s
  | .descriptorFetch ctx host => Sys2Proof.Machine.execDescriptorFetch ctx host s
  | .stampRefetch ctx host => Sys2Proof.Machine.execStampRefetch ctx host s
  | .stampTimeout ctx host => Sys2Proof.Machine.execStampTimeout ctx host s
  | .descriptorAccept ctx => Sys2Proof.Machine.execDescriptorAccept ctx s
  | .descriptorDispatch ctx => Sys2Proof.Machine.execDescriptorDispatch ctx s
  | .completionWrite ctx ok => Sys2Proof.Machine.execCompletionWrite ctx ok s
  | .windowWrite ld ctx line partialWr data => Sys2Proof.Machine.execWindowWrite ld ctx line partialWr data s
  | .windowRead ld ctx line => Sys2Proof.Machine.execWindowRead ld ctx line s
  | .windowReadHoldExpiry ld ctx line => Sys2Proof.Machine.execWindowReadHoldExpiry ld ctx line s
  | .placementRefill page ecc => Sys2Proof.Machine.execPlacementRefill page ecc s
  | .promotionCommit page => Sys2Proof.Machine.execPromotionCommit page s
  | .heatSweep => Sys2Proof.Machine.execHeatSweep s
  | .tierMigrationSwitch slot => Sys2Proof.Machine.execTierMigrationSwitch slot s
  | .compaction page => Sys2Proof.Machine.execCompaction page s
  | .emergencyDemotionPass => Sys2Proof.Machine.execEmergencyDemotionPass s
  | .lrDrain => Sys2Proof.Machine.execLrDrain s
  | .rotationPageCopy page => Sys2Proof.Machine.execRotationPageCopy page s
  | .rotationLineAdvance => Sys2Proof.Machine.execRotationLineAdvance s
  | .rotationFinish => Sys2Proof.Machine.execRotationFinish s
  | .zeroFrameDone => Sys2Proof.Machine.execZeroFrameDone s
  | .onDemandZero => Sys2Proof.Machine.execOnDemandZero s
  | .refreshInterval chan rank => Sys2Proof.Machine.execRefreshInterval chan rank s
  | .mr4ReadDue chan rank => Sys2Proof.Machine.execMr4ReadDue chan rank s
  | .mr4Result chan rank code => Sys2Proof.Machine.execMr4Result chan rank code s
  | .powerDownEnter chan rank => Sys2Proof.Machine.execPowerDownEnter chan rank s
  | .selfRefreshEnter chan rank => Sys2Proof.Machine.execSelfRefreshEnter chan rank s
  | .selfRefreshExit chan rank => Sys2Proof.Machine.execSelfRefreshExit chan rank s
  | .dramReadReturn chan ecc laneBad => Sys2Proof.Machine.execDramReadReturn chan ecc laneBad s
  | .patrolScrub ecc => Sys2Proof.Machine.execPatrolScrub ecc s
  | .mapValidWrite who w => Sys2Proof.Machine.execMapValidWrite who w s
  | .qosClassWrite who w => Sys2Proof.Machine.execQosClassWrite who w s
  | .retireGranuleCopy => Sys2Proof.Machine.execRetireGranuleCopy s
  | .trnStart who chan w => Sys2Proof.Machine.execTrnStart who chan w s
  | .trainingRunDone chan reads => Sys2Proof.Machine.execTrainingRunDone chan reads s
  | .dlyWrite who chan bitReg rank ix w => Sys2Proof.Machine.execDlyWrite who chan bitReg rank ix w s
  | .drcTimingWrite who chan j w => Sys2Proof.Machine.execDrcTimingWrite who chan j w s
  | .calSnap who chan => Sys2Proof.Machine.execCalSnap who chan s
  | .calNudgeWrite who chan rank w => Sys2Proof.Machine.execCalNudgeWrite who chan rank w s
  | .rankTrainingExit chan rank ok => Sys2Proof.Machine.execRankTrainingExit chan rank ok s
  | .evacuationDone => Sys2Proof.Machine.execEvacuationDone s
  | .restoreCopyDone => Sys2Proof.Machine.execRestoreCopyDone s
  | .linkGo who w => Sys2Proof.Machine.execLinkGo who w s
  | .hello m => Sys2Proof.Machine.execHello m s
  | .heartbeatSend => Sys2Proof.Machine.execHeartbeatSend s
  | .heartbeat senderTick epoch intact => Sys2Proof.Machine.execHeartbeat senderTick epoch intact s
  | .heartbeatTimeout => Sys2Proof.Machine.execHeartbeatTimeout s
  | .pairLinkLoss => Sys2Proof.Machine.execPairLinkLoss s
  | .tossResend => Sys2Proof.Machine.execTossResend s
  | .tossAnswer version pairId epoch verdict reserved serial => Sys2Proof.Machine.execTossAnswer version pairId epoch verdict reserved serial s
  | .tossTimeout => Sys2Proof.Machine.execTossTimeout s
  | .partnerLossDetect => Sys2Proof.Machine.execPartnerLossDetect s
  | .flitReceive seq ack nak credit tagOk wellFormed => Sys2Proof.Machine.execFlitReceive seq ack nak credit tagOk wellFormed s
  | .regionList rs => Sys2Proof.Machine.execRegionList rs s
  | .applied table seq home => Sys2Proof.Machine.execApplied table seq home s
  | .memAck seq => Sys2Proof.Machine.execMemAck seq s
  | .mutDone seq body home => Sys2Proof.Machine.execMutDone seq body home s
  | .mirOp m => Sys2Proof.Machine.execMirOp m s
  | .mirOpCommit => Sys2Proof.Machine.execMirOpCommit s
  | .mirReady table seq => Sys2Proof.Machine.execMirReady table seq s
  | .fwdMut seq ctx acceptTick slot1 slot2 => Sys2Proof.Machine.execFwdMut seq ctx acceptTick slot1 slot2 s
  | .resyncRow m => Sys2Proof.Machine.execResyncRow m s
  | .resyncBlock page blk data => Sys2Proof.Machine.execResyncBlock page blk data s
  | .rdrReq write line data => Sys2Proof.Machine.execRdrReq write line data s
  | .rdrRsp line data poison => Sys2Proof.Machine.execRdrRsp line data poison s
  | .pageReq page => Sys2Proof.Machine.execPageReq page s
  | .pageBlock page blk data => Sys2Proof.Machine.execPageBlock page blk data s
  | .resyncDone m => Sys2Proof.Machine.execResyncDone m s
  | .tallyVisit => Sys2Proof.Machine.execTallyVisit s
  | .tallyRepair => Sys2Proof.Machine.execTallyRepair s
  | .tallyOutOfTurn => Sys2Proof.Machine.execTallyOutOfTurn s
  | .shadowDrain => Sys2Proof.Machine.execShadowDrain s
  | .shadowDirtyFill row => Sys2Proof.Machine.execShadowDirtyFill row s
  | .blockSenseFault blk => Sys2Proof.Machine.execBlockSenseFault blk s
  | .spareRebuildSwitch => Sys2Proof.Machine.execSpareRebuildSwitch s
  | .sparePauseEnd => Sys2Proof.Machine.execSparePauseEnd s
  | .mpWdogKick who w => Sys2Proof.Machine.execMpWdogKick who w s
  | .mpWatchdogExpiry => Sys2Proof.Machine.execMpWatchdogExpiry s
  | .deviceFatal cause => Sys2Proof.Machine.execDeviceFatal cause s
  | .rasEvtConsWrite who v => Sys2Proof.Machine.execRasEvtConsWrite who v s
  | .evtCoalesceExpiry => Sys2Proof.Machine.execEvtCoalesceExpiry s
  | .rasInjGo who w => Sys2Proof.Machine.execRasInjGo who w s
  | .glbIntStatusWrite who w => Sys2Proof.Machine.execGlbIntStatusWrite who w s
  | .glbIntEnableWrite who w => Sys2Proof.Machine.execGlbIntEnableWrite who w s
  | .mboxOwnerRead ld => Sys2Proof.Machine.execMboxOwnerRead ld s
  | .mboxRelease ld => Sys2Proof.Machine.execMboxRelease ld s
  | .ownerCmdComplete => Sys2Proof.Machine.execOwnerCmdComplete s
  | .bar0BadAccess who write offset width => Sys2Proof.Machine.execBar0BadAccess who write offset width s
  | .registerWrite who offset wide value => Sys2Proof.Machine.execRegisterWrite who offset wide value s
  | .powerGoodRise => Sys2Proof.Machine.execPowerGoodRise s
  | .coldResetRelease straps => Sys2Proof.Machine.execColdResetRelease straps s
  | .powerGoodLoss => Sys2Proof.Machine.execPowerGoodLoss s
  | .railUndervoltage => Sys2Proof.Machine.execRailUndervoltage s
  | .sysResetAssert failedBlocks => Sys2Proof.Machine.execSysResetAssert failedBlocks s
  | .sysResetRelease => Sys2Proof.Machine.execSysResetRelease s
  | .bootPhaseAdvance winBase fail => Sys2Proof.Machine.execBootPhaseAdvance winBase fail s
  | .spdmRequest inSession measIndex => Sys2Proof.Machine.execSpdmRequest inSession measIndex s
  | .keyLoad sess slot dataKey tweakKey reservedZero => Sys2Proof.Machine.execKeyLoad sess slot dataKey tweakKey reservedZero s
  | .keyErase sess slot reservedZero => Sys2Proof.Machine.execKeyErase sess slot reservedZero s
  | .keyQuery sess slot reservedZero => Sys2Proof.Machine.execKeyQuery sess slot reservedZero s
  | .lcTransition sess target keyHash tokenOk reservedZero => Sys2Proof.Machine.execLcTransition sess target keyHash tokenOk reservedZero s
  | .lcWarmResetDue => Sys2Proof.Machine.execLcWarmResetDue s
  | .lockSet who => Sys2Proof.Machine.execLockSet who s
  | .fwConfirm who => Sys2Proof.Machine.execFwConfirm who s
  | .trialWindowExpiry => Sys2Proof.Machine.execTrialWindowExpiry s
  | .compatProfileWrite who w => Sys2Proof.Machine.execCompatProfileWrite who w s
  | .thermalSample readings => Sys2Proof.Machine.execThermalSample readings s
  | .gweutLinkUp authOk latencyOk m => Sys2Proof.Machine.execGweutLinkUp authOk latencyOk m s
  | .mpProcessorFault => Sys2Proof.Machine.execMpProcessorFault s
  | .mpRestartComplete => Sys2Proof.Machine.execMpRestartComplete s

end Sys2Proof.Machine
end

