-- ==== Sys2Proof/Machine/View.lean ====
section
/-! DEFINITION. What a read of a BAR0 register returns (18 R615, R635). Registers that show state held elsewhere are computed
from it here; every other register holds its own word. The table has no row for a register read, so no command uses this. -/

namespace Sys2Proof.Machine

/-- A word from (low bit, value) pairs. -/
def packFields : List (Nat × Nat) → Word
  | [] => 0
  | (lo, v) :: l => (BitVec.ofNat 64 v <<< lo) ||| packFields l

/-- ARRAY_GOV_STAT (03 R96, R97, R99): GATED, EFF_CREDITS, BAL. -/
def State.govStat (s : State) : Word :=
  packFields [(40, if s.arr.bal < 0 then 1 else 0), (32, s.credits), (0, (BitVec.ofInt 32 s.arr.bal).toNat)]

/-- TBL_STATE[t] (04 R107). -/
def State.tblState (s : State) (t : Nat) : Word :=
  let r := s.tb t
  packFields [(48, r.gen), (24, if r.sys then 1 else 0), (12, r.domain), (11, if r.shrinking then 1 else 0), (8, r.kind),
    (0, r.state)]

/-- TBL_HANDLE[t] and TBL_SRAM[t] (04 R107). -/
def State.tblHandle (s : State) (t : Nat) : Word :=
  let r := s.tb t
  packFields [(32, r.handleBase), (16, r.hmapBase), (0, r.maxBlocks)]
def State.tblSram (s : State) (t : Nat) : Word :=
  let r := s.tb t
  packFields [(52, r.regionSize), (32, r.regionBase), (0, r.count)]

/-- TBL_ROWS[t] (04 R107): rows staged and live, or the prefixes installed. -/
def State.tblRows (s : State) (t : Nat) : Word :=
  let r := s.tb t
  if isArray r.kind then
    let rows := (s.rowsOf t).map (fun e => e.2)
    packFields [(32, (rows.filter Row.staged).length), (0, (rows.filter Row.live).length)]
  else if r.kind = 2 then packFields [(0, r.prefixes.length)]
  else 0

/-- TBL_LOCK[t], TBL_LEASE_END[t] and TBL_LOCK_CNT[t] (05 R177). -/
def State.tblLock (s : State) (t : Nat) : Word :=
  match (s.tb t).lock with
  | none => 0
  | some l => packFields [(48, l.leaseUs % 65536), (32, min 65535 (l.live.length + l.retire.length)), (16, l.owner % 4096), (2, if l.bulk then 1 else 0),
      (0, l.lstate)]
def State.tblLeaseEnd (s : State) (t : Nat) : Word :=
  match (s.tb t).lock with
  | none => 0
  | some l => if l.bulk then 0 else BitVec.ofNat 64 l.endTick
def State.tblLockCnt (s : State) (t : Nat) : Word := packFields [(32, (s.tb t).discards), (0, (s.tb t).commits)]

/-- MQ_STATE[n] (06 R225). -/
def State.mqState (s : State) (n : Nat) : Word :=
  let q := s.qp n
  if q.state = 0 then 0 else
  packFields [(40, q.ctx), (32, q.table), (16, q.seq % 65536), (10, q.pass % 64), (9, if q.ring then 1 else 0),
    (8, if q.part then 1 else 0), (6, q.bank1.st), (4, q.bank0.st), (0, q.state)]

/-- RNG_STAT[r] (09 R335): free banks, resident images, threads that scan. -/
def State.rngStat (s : State) (r : Nat) : Word :=
  let res := s.residents r
  let t := (res.map (fun e => Img.tBanks e.image)).foldl (· + ·) 0
  let a := (res.map (fun e => Img.aBanks e.image)).foldl (· + ·) 0
  let busy := ((List.range 4).filter (fun k => match s.thread (4 * r + k) with | some th => !th.ended | none => false)).foldl
    (fun n k => n + 2 ^ k) 0
  packFields [(24, 16 - a), (16, 16 - t), (8, res.length), (0, busy)]

/-- CTX_CTRL[c] and CTX_RING_STAT[c] (11 R413): FAULT_CODE is stored; STATE and ENABLE follow the context table entry. -/
def State.ctxCtrlShown (s : State) (c : Nat) : Word :=
  let st := (s.cx c).state
  putFld (putFld (s.reg (0x80000 + 0x40 * c)) 6 2 st) 0 1 (if st = 1 then 1 else 0)
def State.ctxRingStat (s : State) (c : Nat) : Word :=
  packFields [(32, (s.cx c).cqProd), (0, (s.cx c).sqCons)]

/-- PWR_STAT (19 R657): ARRAY_EST is 8 W and 0.225 nJ for each credit charged in the last 1 ms, in 0.1 W rounded down;
EST is a free value. Both read their reset value 0 in tick 0. -/
def State.pwrStat (s : State) : Word :=
  if s.tick = 0 then 0 else
  let n := (s.arr.recent.map (fun e => e.2)).foldl (· + ·) 0
  packFields [(16, 80 + n * 9 / 4000000), (0, (Config.powerEst s.tick).toNat)]

/-- A register [base, base + stride · n) of an array: its index. -/
def at? (off base stride n : Nat) : Option Nat :=
  if base ≤ off ∧ (off - base) % stride = 0 ∧ (off - base) / stride < n then some ((off - base) / stride) else none

/-- Word `j` of the event ring (16 R578): four words a record; a record no event has filled reads zero. -/
def State.evtWord (s : State) (j : Nat) : Word :=
  match s.ras.ring.find? (fun e => e.1 == j / 4) with
  | some e => BitVec.ofNat 64 (le (e.2.bytes e.2.arg1) (8 * (j % 4)) 8)
  | none => 0

/-- The registers that show other state, as (base, stride, count, value). -/
def State.shown (s : State) : List (Nat × Nat × Nat × (Nat → Word)) := [
  (0x10000, 8, 1, fun _ => BitVec.ofNat 64 s.tick), (0x20108, 8, 1, fun _ => s.govStat),
  (0x40000, 0x80, 256, s.tblState), (0x40028, 0x80, 256, s.tblHandle), (0x40030, 0x80, 256, s.tblSram),
  (0x40038, 0x80, 256, s.tblRows), (0x40040, 0x80, 256, s.tblLock), (0x40048, 0x80, 256, s.tblLeaseEnd),
  (0x40050, 0x80, 256, s.tblLockCnt),
  (0x40008, 0x80, 256, fun t => (s.tb t).blocks.extractLsb' 0 64),
  (0x40010, 0x80, 256, fun t => (s.tb t).blocks.extractLsb' 64 64),
  (0x40018, 0x80, 256, fun t => (s.tb t).mig.extractLsb' 0 64),
  (0x40020, 0x80, 256, fun t => (s.tb t).mig.extractLsb' 64 64),
  (0x48000, 8, 2048, fun i => (s.tb (i / 8)).profile.extractLsb' (64 * (i % 8)) 64),
  (0xc0000, 8, 256, s.mqState), (0x60000, 8, 8, fun j => BitVec.ofNat 64 (s.stageFree j)),
  (0x60040, 8, 1, fun _ => BitVec.ofNat 64 s.leafFree), (0x60100, 8, 256, s.trieTbl), (0x70100, 8, 32, s.rngStat),
  (0x80000, 0x40, 4096, s.ctxCtrlShown), (0x80020, 0x40, 4096, s.ctxRingStat), (0x80028, 0x40, 4096, fun c => (s.cx c).entry0),
  (0xc18, 8, 1, fun _ => s.pwrStat), (0x3e8000, 8, 4096, s.evtWord)]

/-- What a read of the register at byte offset `off` returns to LD `ld`: MBOX_OWNER as that LD sees it (18 R625), a
register that shows other state, or the stored word. A reserved offset reads zero (R615). -/
def State.readReg (s : State) (ld : LdId) (off : Nat) : Word :=
  if off = 0x3f0010 then s.mboxOwner ld else
  match s.shown.findSome? (fun e => (at? off e.1 e.2.1 e.2.2.1).map e.2.2.2) with
  | some w => w
  | none => match regAt off with | some _ => s.reg off | none => 0

/-- What a DSLBIS entry of the CDAT reports (10 R358). -/
inductive LatBw where
  | readNs (n : Nat)
  | writeNs (n : Nat)
  | readMBs (n : Nat)
  | writeMBs (n : Nat)
  deriving DecidableEq, Repr

/-- A DSMAS entry with its DSLBIS entries: a run of LD offsets, and what is reported of it. -/
structure Dsmas where
  base : Nat
  length : Nat
  lat : List LatBw
  deriving DecidableEq, Repr

/-- The CDAT of LD `n`, as a read over DOE returns it (10 R355, R358): one DSMAS entry for the static allocation and one for each
configured dynamic-capacity region. The table has no row for the read. -/
def State.cdat (s : State) (n : Nat) : List Dsmas :=
  let l := s.ld n
  let b := s.usableMBs (n / 16)
  let lat := [LatBw.readNs 100, .writeNs 60, .readMBs b, .writeMBs b]
  let stat := if l.static = 0 then [] else [(0, l.static)]
  let regs := ((List.range 8).map (fun i => SMap.get (fun _ => (0, 0)) l.regions i)).filter (fun r => r.2 != 0)
  (stat ++ regs).map (fun r => ⟨r.1, r.2, lat⟩)

end Sys2Proof.Machine
end

