-- ==== Sys2Proof/WellFormed.lean ====
section
/-! DEFINITION. Which commands the outside can send: the operand values that the manual or the model's own catch-all rows
exclude. A meaning does not rest on it: an ill-formed command has the effect that its meaning says. -/

namespace Sys2Proof

/-- The owner command codes of 18 R629. -/
def ownerCodes : List Nat :=
  [0x01, 0x02, 0x03, 0x04, 0x05, 0x10, 0x11, 0x20, 0x21, 0x22, 0x23, 0x24, 0x25, 0x26, 0x30, 0x31, 0x32, 0x33, 0x34,
   0x40, 0x41, 0x42, 0x50, 0x51, 0x52, 0x60, 0x61]

/-- The device mailbox opcodes of 10 R359, with the CXL specification's numbers (log 15). -/
def mailboxCodes : List Nat :=
  [0x0001, 0x0100, 0x0101, 0x0102, 0x0103, 0x0200, 0x0201, 0x0202, 0x0300, 0x0301, 0x0400, 0x0401, 0x4000, 0x4200,
   0x4300, 0x4301, 0x4302, 0x4800, 0x4801, 0x4802, 0x4803]

/-- The FM API opcodes of 10 R363 to R366, with the CXL specification's numbers (log 15). -/
def fmCodes : List Nat :=
  [0x5201, 0x5202, 0x5402, 0x5407, 0x5409, 0x5500, 0x5602, 0x5604, 0x5605, 0xC820]

/-- A BAR0 access that R616 admits: 4 or 8 bytes, aligned to its width (18 R616). -/
def bar0Access (offset width : Nat) : Bool := (width == 4 || width == 8) && offset % width == 0

/-- A command that the outside, or the block itself, can send. -/
def Instr.wf : Instr → Bool
  -- at most 32 records of a pass come from the partner (06 R205)
  | .enumReply _ recs => decide (recs.length ≤ 32)
  -- one word per bit of a channel, eight eye words (14 R494)
  | .trainingRunDone _ reads => decide (reads.length ≤ 64)
  -- sixteen sensors (19 R648)
  | .thermalSample readings => readings.length == 16
  -- only an access that R616 turns away (18 R616)
  | .bar0BadAccess _ _ offset width => !bar0Access offset.toNat width
  -- only an access that R616 admits
  | .registerWrite _ offset wide _ => bar0Access offset.toNat (if wide then 8 else 4)
  -- the catch-all rows stand for what no other row of their kind names
  | .ownerCmdUnknown _ code => !ownerCodes.contains code.toNat
  | .unsupportedMailboxCmd _ code => !mailboxCodes.contains code.toNat
  | .fmApiOtherCommand code => !fmCodes.contains code.toNat
  | .maintReservedOpcode _ w => (w.extractLsb' 4 4).toNat == 0 || decide (9 ≤ (w.extractLsb' 4 4).toNat)
  -- every operand value of these is one that can come
  | tick | rowCommit | searchResultDeliver .. | enumPassDeliver .. | backoffExpiry .. | arbWatchdogFire ..
  | fixApply .. | arbPortMaskWrite .. | cascadeMerge .. | casReq .. | casReply .. | casDecline .. | createTable ..
  | resizeTable .. | shrinkEnd .. | shrinkBlockClear .. | destroyTable .. | destroyClearStart .. | destroyIdFree ..
  | migrateTable .. | migrationCutover .. | migrationOldClear .. | tableCapture .. | dirProfile .. | blockSpare ..
  | domainCreate .. | domainDestroy .. | ldMapSet .. | windowMap .. | ldMgmtSet .. | ctxAssign .. | ctxDisable ..
  | tierSetPolicy .. | tierPin .. | tierUnpin .. | tierOffer .. | keyRotate .. | chanRetire .. | rankRetrain ..
  | restoreFactory .. | mirrorRegion .. | pairBench .. | pairJoin .. | deviceReset .. | deviceResetDelayExpiry
  | fwSvnCommit .. | nop .. | search .. | enumerate .. | resetQueue .. | abort .. | insert .. | update ..
  | delete .. | readByHandle .. | readByKey .. | learn .. | lock .. | commit .. | abandon .. | bulkLoad ..
  | bulkLoadCommit .. | setProfile .. | openTable .. | disable .. | enable .. | scan .. | scanRetarget ..
  | dirPin .. | dirUnpin .. | descUndefinedOpcode .. | maintInsert .. | maintUpdate .. | maintDelete ..
  | maintReadByHandle .. | maintReadByKey .. | maintLock .. | maintCommit .. | maintAbandon .. | maintCmdComplete
  | maintEvictSeedWrite .. | placementDecision | tableManagerPlacement | gladeRestore .. | canopyTighten ..
  | relocationSwitch .. | leaseExpiry .. | bankReady .. | continuationQueue .. | bankDrainTake .. | nextRead ..
  | matchEntryWrite .. | learnDecide .. | learnRetry .. | sweepPassStart .. | sweeperVisit .. | dirRequest
  | dirResolve .. | dirDataReturn .. | dirClaimEnd .. | dirAgeRemoval .. | dirBiTimeout .. | trieAdmit
  | trieLookupDeliver | trieMutationTake .. | trieSwap .. | trieNodeFree .. | directAccess .. | directLookupDeliver
  | chunkTake .. | imageLoadDone .. | chunkEnd .. | reportPost .. | jobComplete .. | rngEnableWrite ..
  | reportConsWrite .. | linkTrain .. | portLinkLoss .. | perstAssert .. | functionLevelReset .. | decoderCommit ..
  | ideFailure .. | ideKm .. | memrd .. | memrddata .. | meminv .. | meminvnt .. | memspecrd .. | memclnevct ..
  | memwr .. | memwrptl .. | memrdfwd .. | memwrfwd .. | memrdtee .. | memwrtee .. | memWrMsg ..
  | reservedMemOpcode .. | biconflict .. | birspi .. | birsps .. | birspe .. | identify .. | getSupportedLogs ..
  | getLog .. | getEventRecords .. | clearEventRecords .. | getEventInterruptPolicy .. | setEventInterruptPolicy ..
  | getFwInfo .. | transferFw .. | activateFw .. | getTimestamp .. | setTimestamp .. | getHealthInfo ..
  | identifyMemoryDevice .. | getPoisonList .. | injectPoison .. | clearPoison .. | getDynamicCapacityConfig ..
  | getDynamicCapacityExtents .. | addDynamicCapacityResponse .. | releaseDynamicCapacity .. | setLdAllocations ..
  | bindLd .. | unbindLd .. | setQosAllocatedBw .. | setQosBwLimit .. | setQosControl .. | setDcRegionConfig ..
  | initiateDcAdd .. | initiateDcRelease .. | getMultiHeadedInfo | fmApiOwnerCommand .. | ctxEnableWrite ..
  | ctxDisableWrite .. | ctxResetWrite .. | contextDrained .. | sqProdWrite .. | cqConsWrite .. | descriptorFetch ..
  | stampRefetch .. | stampTimeout .. | descriptorAccept .. | descriptorDispatch .. | completionWrite ..
  | windowWrite .. | windowRead .. | windowReadHoldExpiry .. | placementRefill .. | promotionCommit .. | heatSweep
  | tierMigrationSwitch .. | compaction .. | emergencyDemotionPass | lrDrain | rotationPageCopy ..
  | rotationLineAdvance | rotationFinish | zeroFrameDone | onDemandZero | refreshInterval .. | mr4ReadDue ..
  | mr4Result .. | powerDownEnter .. | selfRefreshEnter .. | selfRefreshExit .. | dramReadReturn .. | patrolScrub ..
  | mapValidWrite .. | qosClassWrite .. | retireGranuleCopy | trnStart .. | dlyWrite .. | drcTimingWrite ..
  | calSnap .. | calNudgeWrite .. | rankTrainingExit .. | evacuationDone | restoreCopyDone | linkGo .. | hello ..
  | heartbeatSend | heartbeat .. | heartbeatTimeout | pairLinkLoss | tossResend | tossAnswer .. | tossTimeout
  | partnerLossDetect | flitReceive .. | regionList .. | applied .. | memAck .. | mutDone .. | mirOp ..
  | mirOpCommit | mirReady .. | fwdMut .. | resyncRow .. | resyncBlock .. | rdrReq .. | rdrRsp .. | pageReq ..
  | pageBlock .. | resyncDone .. | tallyVisit | tallyRepair | tallyOutOfTurn | shadowDrain | shadowDirtyFill ..
  | blockSenseFault .. | spareRebuildSwitch | sparePauseEnd | mpWdogKick .. | mpWatchdogExpiry | deviceFatal ..
  | rasEvtConsWrite .. | evtCoalesceExpiry | rasInjGo .. | glbIntStatusWrite .. | glbIntEnableWrite ..
  | mboxOwnerRead .. | mboxRelease .. | ownerCmdComplete | powerGoodRise | coldResetRelease .. | powerGoodLoss
  | railUndervoltage | sysResetAssert .. | sysResetRelease | bootPhaseAdvance .. | spdmRequest .. | keyLoad ..
  | keyErase .. | keyQuery .. | lcTransition .. | lcWarmResetDue | lockSet .. | fwConfirm .. | trialWindowExpiry
  | compatProfileWrite .. | gweutLinkUp .. | mpProcessorFault | mpRestartComplete => true

end Sys2Proof
end

