-- ==== Sys2Proof/Safety.lean ====
section
/-! DEFINITION. What counts as a safe state and a contained step: canonical maps, and which components of the state a command
may change. -/

namespace Sys2Proof.Machine

/-- The components of the state. -/
inductive Comp where
  | pending | freeIdx | sent | inbox | ids | tick | regs | regW | arb | arr | tbl | mnt | mq | lrn | dir | trie
  | dsram | rng | prt | lds | ctx | heldReads | tier | mem | host | dram | trn | pair | ras | mbox | life | pins
  deriving DecidableEq, Repr

/-- `t` holds in component `x` what `s` holds. -/
def State.same (s t : State) : Comp → Prop
  | .pending => t.pending = s.pending
  | .freeIdx => t.freeIdx = s.freeIdx
  | .sent => t.sent = s.sent
  | .inbox => t.inbox = s.inbox
  | .ids => t.ids = s.ids
  | .tick => t.tick = s.tick
  | .regs => t.regs = s.regs
  | .regW => t.regW = s.regW
  | .arb => t.arb = s.arb
  | .arr => t.arr = s.arr
  | .tbl => t.tbl = s.tbl
  | .mnt => t.mnt = s.mnt
  | .mq => t.mq = s.mq
  | .lrn => t.lrn = s.lrn
  | .dir => t.dir = s.dir
  | .trie => t.trie = s.trie
  | .dsram => t.dsram = s.dsram
  | .rng => t.rng = s.rng
  | .prt => t.prt = s.prt
  | .lds => t.lds = s.lds
  | .ctx => t.ctx = s.ctx
  | .heldReads => t.heldReads = s.heldReads
  | .tier => t.tier = s.tier
  | .mem => t.mem = s.mem
  | .host => t.host = s.host
  | .dram => t.dram = s.dram
  | .trn => t.trn = s.trn
  | .pair => t.pair = s.pair
  | .ras => t.ras = s.ras
  | .mbox => t.mbox = s.mbox
  | .life => t.life = s.life
  | .pins => t.pins = s.pins

/-- The register file, HDM and the bytes written to host memory are canonical: addresses strictly rising, no entry equal
to what an unlisted address reads as. -/
def State.canonical (s : State) : Prop :=
  SMap.wf regReset s.regs = true ∧ Memory.wf s.mem = true ∧ Memory.wf s.host = true

/-- The command runs from `s` to a next state with property `P`. -/
def Runs (c : Instr) (s : State) (P : State → Prop) : Prop := ∃ t, exec c s = .next t ∧ P t

/-- From `s` to `t`, one owner command has ended with SUCCESS, at `via`, with command code `code` and result `result`,
and is the youngest that waits for its completion (18 R626). -/
def EndsWith (s t : State) (via : OwnerPath) (code : Nat) (result : List Byte := []) : Prop :=
  t.mbox = { s.mbox with done := s.mbox.done ++ [⟨via, code, St.success, s.tick, result⟩], running := none }

/-- Firmware can run the owner command that arrives by `via`: the block is up, firmware is ready and runs no other (18
R627), and R602 accepts the command. -/
def State.ownerRuns (s : State) (via : OwnerPath) : Bool := s.up && s.fwFree && s.ownerOk via

/-- A request of LD `ld` at HPA `hpa` reaches DPA `dpa`: its port takes requests, its map entry is valid, a committed
decoder (HDM-DB when `bi`) gives an LD offset, and a segment covers it (10 R343 to R347). -/
structure State.reaches (s : State) (ld hpa dpa : Nat) (bi : Bool) : Prop where
  takes : s.portTakes (ld / 16) = true
  valid : s.ldValid ld = true
  maps : ∃ off, (s.ld ld).decode hpa = some (off, bi) ∧ (s.ld ld).dpaOf off = some dpa

/-- `r` is the only directory request that names a line of its number `line / 64`. -/
structure State.onlyReq (s : State) (r : DirReq) (line : Nat) : Prop where
  mem : r ∈ s.dir.reqs
  here : r.line / 64 = line / 64
  only : ∀ q ∈ s.dir.reqs, q.line / 64 = line / 64 → q = r

/-- Request `n` of context `c`, of opcode `op`, is dispatched on a table that is neither mirrored nor a cascade, on a
device that admits operations (11 R386; 16 R584). -/
structure State.atHand (s : State) (c n op : Nat) (r : Req) : Prop where
  up : s.up = true
  serving : s.pins.fatal = false
  ready : s.ready c n op = some r
  plain : s.isMirror r.table = false
  whole : s.isCascade r.table = false
  stands : (s.tb r.table).state ≠ 4

/-- The command-register path takes up an operation (05 R194, R195): the word's writable fields are stored, BUSY is set. -/
def State.pathStarted (s : State) (op : Nat) (w : Word) : State :=
  let m : Word := 0xfff0ff0000f0
  let s := s.setReg 0x4d000 ((s.reg 0x4d000 &&& ~~~m) ||| (putFld w 4 4 op &&& m))
  let s := s.setF fMaintBusy 1
  { s with mnt := { s.mnt with cmd := some (op, none), cmdWait := false } }

/-- The path's operation no longer waits. -/
def State.pathGoes (s : State) : State := { s with mnt := { s.mnt with cmdWait := false } }

/-- The path accepts its operation (05 R193). -/
def State.pathOk (s : State) : Prop := s.maintBad s.maintReq = none ∧ s.gate s.maintReq.table = .go

/-- Nothing waits at the placement stage, no promotion or retraining is under way, and the last-resort area is empty. -/
def State.quiet (s : State) : Bool :=
  s.tier.hold.isEmpty && s.tier.zeroWait.isEmpty && s.tier.promos.isEmpty && s.pair.memWait.isEmpty &&
  s.tier.lrLines.isEmpty && s.trn.retrain.isNone

/-- Every component but those named. -/
def Comp.allBut (l : List Comp) : List Comp :=
  [.pending, .freeIdx, .sent, .inbox, .ids, .tick, .regs, .regW, .arb, .arr, .tbl, .mnt, .mq, .lrn, .dir, .trie, .dsram,
   .rng, .prt, .lds, .ctx, .heldReads, .tier, .mem, .host, .dram, .trn, .pair, .ras, .mbox, .life, .pins].filter
    (fun x => !l.contains x)

/-- The components of the state that a command may change; every other component it leaves as it was. -/
def commandWrites : Instr → List Comp
  | .tick => Comp.allBut [.pending, .heldReads]
  | .rowCommit => [.freeIdx, .sent, .inbox, .regs, .arb, .arr, .tbl, .mnt, .lrn, .dir, .trie, .lds, .ctx, .pair, .ras]
  | .searchResultDeliver .. => [.inbox, .arb, .mnt, .ctx, .pair]
  | .enumPassDeliver .. => [.arb, .mq, .pair]
  | .backoffExpiry .. => [.arb]
  | .arbWatchdogFire .. => [.sent, .inbox, .regs, .arb, .mnt, .lds, .ctx, .pair, .ras]
  | .fixApply .. => [.regs]
  | .arbPortMaskWrite .. => [.regs]
  | .cascadeMerge .. => [.inbox, .regs, .arb, .mnt, .ctx, .pair]
  | .casReq .. => [.regs, .arb, .pair]
  | .casReply .. => [.regs, .arb]
  | .casDecline .. => [.arb]
  | .enumReply .. => [.arb, .mq]
  | .createTable .. => [.regs, .tbl, .lrn, .dsram, .mbox]
  | .resizeTable .. => [.regs, .tbl, .dsram, .mbox]
  | .shrinkEnd .. => [.arb, .tbl, .mnt]
  | .shrinkBlockClear .. => [.regs, .arr, .tbl, .mnt, .ras, .mbox]
  | .destroyTable .. => [.inbox, .regs, .arb, .tbl, .mnt, .mq, .lrn, .trie, .dsram, .ctx, .pair, .mbox]
  | .destroyClearStart .. => [.arr, .tbl, .dsram]
  | .destroyIdFree .. => [.regs, .tbl, .lrn, .dsram, .mbox]
  | .migrateTable .. => [.regs, .tbl, .mbox]
  | .migrationCutover .. => [.arb]
  | .migrationOldClear .. => [.regs, .tbl, .mbox]
  | .tableCapture .. => [.sent, .regs, .trie, .lds, .tier, .mem, .dram, .pair, .ras, .mbox]
  | .dirProfile .. => [.tbl, .mbox]
  | .blockSpare .. => [.sent, .regs, .lds, .ras, .mbox]
  | .domainCreate .. => [.dsram, .mbox]
  | .domainDestroy .. => [.dsram, .mbox]
  | .ldMapSet .. => [.inbox, .arb, .arr, .tbl, .mnt, .mq, .lrn, .trie, .dsram, .rng, .ctx, .pair, .ras, .mbox]
  | .windowMap .. => [.lds, .mbox]
  | .ldMgmtSet .. => [.regs, .mbox]
  | .ctxAssign .. => [.ctx, .mbox]
  | .ctxDisable .. => [.inbox, .arb, .arr, .tbl, .mnt, .mq, .lrn, .trie, .dsram, .rng, .ctx, .pair, .ras, .mbox]
  | .tierSetPolicy .. => [.regs, .mbox]
  | .tierPin .. => [.tier, .dram, .mbox]
  | .tierUnpin .. => [.tier, .dram, .mbox]
  | .tierOffer .. => [.sent, .lds, .mbox]
  | .keyRotate .. => [.regs, .dsram, .tier, .mbox]
  | .chanRetire .. => [.regs, .tier, .dram, .mbox]
  | .rankRetrain .. => [.regs, .tier, .trn, .mbox]
  | .restoreFactory .. => [.trn, .mbox]
  | .mirrorRegion .. => [.regs, .pair, .mbox]
  | .pairBench .. => [.sent, .inbox, .regs, .arb, .arr, .tbl, .mnt, .lrn, .trie, .lds, .ctx, .tier, .pair, .ras, .mbox]
  | .pairJoin .. => [.freeIdx, .sent, .inbox, .regs, .arb, .arr, .tbl, .mnt, .trie, .dsram, .lds, .ctx, .tier, .mem,
      .dram, .pair, .ras, .mbox]
  | .deviceReset .. => [.mbox, .life]
  | .deviceResetDelayExpiry => Comp.allBut [.pending, .host]
  | .fwSvnCommit .. => [.regs, .mbox, .life]
  | .ownerCmdUnknown .. => [.mbox]
  | .nop .. => [.inbox, .regs, .mnt, .mq, .ctx, .pair]
  | .search .. => [.inbox, .arb, .mnt, .mq, .trie, .dsram, .ctx, .pair]
  | .enumerate .. => [.inbox, .arb, .mnt, .mq, .ctx, .pair]
  | .resetQueue .. => [.inbox, .arb, .mnt, .mq, .ctx, .pair]
  | .abort .. => [.inbox, .regs, .arb, .arr, .tbl, .mnt, .mq, .lrn, .trie, .dsram, .rng, .ctx, .pair, .ras]
  | .insert .. => [.inbox, .tbl, .mnt, .mq, .trie, .dsram, .ctx, .pair]
  | .update .. => [.inbox, .arb, .tbl, .mnt, .mq, .trie, .dsram, .ctx, .pair]
  | .delete .. => [.inbox, .arb, .tbl, .mnt, .mq, .trie, .dsram, .ctx, .pair]
  | .readByHandle .. => [.inbox, .arb, .tbl, .mnt, .mq, .trie, .dsram, .ctx, .pair]
  | .readByKey .. => [.inbox, .arb, .mnt, .mq, .trie, .dsram, .ctx, .pair]
  | .learn .. => [.inbox, .ids, .arb, .tbl, .mnt, .mq, .lrn, .ctx, .pair]
  | .lock .. => [.inbox, .tbl, .mnt, .mq, .ctx, .pair]
  | .commit .. => [.inbox, .arb, .tbl, .mnt, .mq, .ctx, .pair]
  | .abandon .. => [.inbox, .arb, .tbl, .mnt, .mq, .lrn, .ctx, .pair]
  | .bulkLoad .. => [.freeIdx, .sent, .inbox, .regs, .arb, .tbl, .mnt, .mq, .lrn, .trie, .dsram, .rng, .lds, .ctx,
      .tier, .dram, .pair, .ras]
  | .bulkLoadCommit .. => [.freeIdx, .sent, .inbox, .regs, .arb, .tbl, .mnt, .dsram, .rng, .lds, .ctx, .pair, .ras]
  | .setProfile .. => [.freeIdx, .sent, .inbox, .regs, .tbl, .mnt, .mq, .lds, .ctx, .pair, .ras]
  | .openTable .. => [.freeIdx, .sent, .inbox, .regs, .arb, .tbl, .mnt, .mq, .lrn, .lds, .ctx, .pair, .ras]
  | .disable .. => [.freeIdx, .sent, .inbox, .regs, .arb, .tbl, .mnt, .mq, .lrn, .lds, .ctx, .pair, .ras]
  | .enable .. => [.freeIdx, .sent, .inbox, .regs, .arb, .tbl, .mnt, .mq, .lrn, .lds, .ctx, .pair, .ras]
  | .scan .. => [.freeIdx, .sent, .inbox, .ids, .regs, .arb, .tbl, .mnt, .mq, .lrn, .trie, .dsram, .rng, .lds, .ctx,
      .tier, .dram, .pair, .ras]
  | .scanRetarget .. => [.inbox, .mnt, .mq, .rng, .ctx, .pair]
  | .dirPin .. => [.inbox, .ids, .mnt, .mq, .dir, .ctx, .pair]
  | .dirUnpin .. => [.inbox, .ids, .mnt, .mq, .dir, .ctx, .pair]
  | .descUndefinedOpcode .. => [.inbox, .mnt, .ctx, .pair]
  | .maintInsert .. => [.inbox, .regs, .arb, .tbl, .mnt, .lrn, .trie, .dsram, .ctx, .pair]
  | .maintUpdate .. => [.inbox, .regs, .arb, .tbl, .mnt, .lrn, .trie, .dsram, .ctx, .pair]
  | .maintDelete .. => [.inbox, .regs, .arb, .tbl, .mnt, .lrn, .trie, .dsram, .ctx, .pair]
  | .maintReadByHandle .. => [.inbox, .regs, .arb, .tbl, .mnt, .lrn, .trie, .dsram, .ctx, .pair]
  | .maintReadByKey .. => [.inbox, .regs, .arb, .tbl, .mnt, .lrn, .trie, .dsram, .ctx, .pair]
  | .maintLock .. => [.inbox, .regs, .arb, .tbl, .mnt, .lrn, .trie, .dsram, .ctx, .pair]
  | .maintCommit .. => [.inbox, .regs, .arb, .tbl, .mnt, .lrn, .trie, .dsram, .ctx, .pair]
  | .maintAbandon .. => [.inbox, .regs, .arb, .tbl, .mnt, .lrn, .trie, .dsram, .ctx, .pair]
  | .maintReservedOpcode .. => [.inbox, .regs, .arb, .tbl, .mnt, .lrn, .trie, .dsram, .ctx, .pair]
  | .maintCmdComplete => [.freeIdx, .regs, .mnt]
  | .maintEvictSeedWrite .. => [.regs]
  | .placementDecision => [.sent, .inbox, .regs, .arb, .tbl, .mnt, .lrn, .dir, .trie, .lds, .ctx, .pair, .ras]
  | .tableManagerPlacement => [.sent, .inbox, .regs, .arb, .tbl, .mnt, .lrn, .dir, .trie, .lds, .ctx, .pair, .ras]
  | .gladeRestore .. => [.arb, .mnt]
  | .canopyTighten .. => [.arb, .mnt]
  | .relocationSwitch .. => [.freeIdx, .sent, .inbox, .regs, .arb, .arr, .tbl, .mnt, .lrn, .dir, .trie, .lds, .ctx,
      .pair, .ras]
  | .leaseExpiry .. => [.inbox, .arb, .tbl, .mnt, .lrn, .ctx, .pair]
  | .bankReady .. => [.mq]
  | .continuationQueue .. => [.arb, .mq]
  | .bankDrainTake .. => [.mq]
  | .nextRead .. => [.sent, .regs, .mq, .lds, .ctx, .ras]
  | .matchEntryWrite .. => [.sent, .regs, .mq, .trie, .lds, .ctx, .tier, .mem, .host, .dram, .pair, .ras]
  | .learnDecide .. => [.sent, .inbox, .regs, .arb, .arr, .tbl, .mnt, .lrn, .trie, .lds, .ctx, .pair, .ras]
  | .learnRetry .. => [.inbox, .regs, .arb, .arr, .tbl, .mnt, .lrn, .trie, .dsram, .ras]
  | .sweepPassStart .. => [.regs, .lrn]
  | .sweeperVisit .. => [.regs, .arb, .lrn]
  | .dirRequest => [.sent, .regs, .arb, .mnt, .dir]
  | .dirResolve .. => [.sent, .inbox, .regs, .arb, .mnt, .dir, .ctx, .pair]
  | .dirDataReturn .. => [.freeIdx, .sent, .regs, .dir, .trie, .lds, .tier, .mem, .dram, .pair, .ras]
  | .dirClaimEnd .. => [.inbox, .regs, .mnt, .dir, .ctx, .pair]
  | .dirAgeRemoval .. => [.sent, .ids, .regs, .arb, .mnt, .dir]
  | .dirBiTimeout .. => [.sent, .regs, .arb, .mnt, .dir, .lds, .ras]
  | .trieAdmit => [.freeIdx, .sent, .inbox, .regs, .tbl, .mnt, .trie, .lds, .ctx, .tier, .pair, .ras]
  | .trieLookupDeliver => [.inbox, .mnt, .trie, .ctx, .pair]
  | .trieMutationTake .. => [.inbox, .arb, .tbl, .mnt, .lrn, .trie, .ctx, .pair]
  | .trieSwap .. => [.freeIdx, .sent, .inbox, .regs, .tbl, .mnt, .trie, .lds, .ctx, .tier, .pair, .ras]
  | .trieNodeFree .. => [.trie]
  | .directAccess .. => [.sent, .inbox, .regs, .mnt, .dsram, .lds, .ctx, .pair, .ras]
  | .directLookupDeliver => [.inbox, .mnt, .dsram, .ctx, .pair]
  | .chunkTake .. => [.rng]
  | .imageLoadDone .. => [.rng]
  | .chunkEnd .. => [.rng]
  | .reportPost .. => [.sent, .inbox, .regs, .trie, .rng, .lds, .tier, .mem, .host, .dram, .pair, .ras]
  | .jobComplete .. => [.regs, .rng, .ctx]
  | .rngEnableWrite .. => [.regs]
  | .reportConsWrite .. => [.ctx]
  | .linkTrain .. => [.sent, .regs, .prt, .lds, .ras]
  | .portLinkLoss .. => [.sent, .inbox, .ids, .regs, .arb, .arr, .tbl, .mnt, .mq, .lrn, .dir, .trie, .dsram, .rng, .lds,
      .ctx, .heldReads, .tier, .dram, .pair, .ras, .mbox]
  | .perstAssert .. => [.sent, .inbox, .ids, .regs, .arb, .arr, .tbl, .mnt, .mq, .lrn, .dir, .trie, .dsram, .rng, .prt,
      .lds, .ctx, .heldReads, .tier, .dram, .pair, .ras, .mbox]
  | .functionLevelReset .. => [.inbox, .arb, .arr, .tbl, .mnt, .mq, .lrn, .trie, .dsram, .rng, .ctx, .pair, .ras, .mbox]
  | .decoderCommit .. => [.lds]
  | .ideFailure .. => [.sent, .regs, .prt, .lds, .ras]
  | .ideKm .. => [.regs, .prt]
  | .memrd .. => [.freeIdx, .sent, .ids, .regs, .mq, .dir, .trie, .dsram, .lds, .ctx, .heldReads, .tier, .mem, .dram,
      .pair, .ras]
  | .memrddata .. => [.freeIdx, .sent, .ids, .regs, .mq, .dir, .trie, .dsram, .lds, .ctx, .heldReads, .tier, .mem,
      .dram, .pair, .ras]
  | .meminv .. => [.freeIdx, .sent, .ids, .regs, .dir, .dsram, .lds, .ras]
  | .meminvnt .. => [.freeIdx, .sent, .ids, .regs, .dir, .dsram, .lds, .ras]
  | .memspecrd .. => []
  | .memclnevct .. => [.sent]
  | .memwr .. => [.freeIdx, .sent, .ids, .regs, .mq, .dir, .trie, .dsram, .lds, .ctx, .heldReads, .tier, .mem, .dram,
      .pair, .ras]
  | .memwrptl .. => [.freeIdx, .sent, .ids, .regs, .mq, .dir, .trie, .dsram, .lds, .ctx, .heldReads, .tier, .mem, .dram,
      .pair, .ras]
  | .memrdfwd .. => [.freeIdx, .sent, .regs, .lds, .ras]
  | .memwrfwd .. => [.freeIdx, .sent, .regs, .lds, .ras]
  | .memrdtee .. => [.freeIdx, .sent, .regs, .lds, .ras]
  | .memwrtee .. => [.freeIdx, .sent, .regs, .lds, .ras]
  | .memWrMsg .. => [.sent, .regs, .trie, .lds, .tier, .mem, .dram, .pair, .ras]
  | .reservedMemOpcode .. => [.freeIdx, .sent, .regs, .lds, .ras]
  | .biconflict .. => [.sent]
  | .birspi .. => [.sent, .regs, .arb, .mnt, .dir, .trie, .lds, .tier, .mem, .dram, .pair, .ras]
  | .birsps .. => [.sent, .regs, .arb, .mnt, .dir, .trie, .lds, .tier, .mem, .dram, .pair, .ras]
  | .birspe .. => [.sent, .regs, .arb, .mnt, .dir, .trie, .lds, .tier, .mem, .dram, .pair, .ras]
  | .identify .. => [.sent]
  | .getSupportedLogs .. => [.sent]
  | .getLog .. => [.sent]
  | .getEventRecords .. => [.sent]
  | .clearEventRecords .. => [.sent, .lds]
  | .getEventInterruptPolicy .. => [.sent]
  | .setEventInterruptPolicy .. => [.sent, .lds]
  | .getFwInfo .. => [.sent]
  | .transferFw .. => [.sent, .regs, .life]
  | .activateFw .. => [.sent, .regs, .ras, .life]
  | .getTimestamp .. => [.sent]
  | .setTimestamp .. => [.sent, .lds]
  | .getHealthInfo .. => [.sent]
  | .identifyMemoryDevice .. => [.sent]
  | .getPoisonList .. => [.sent]
  | .injectPoison .. => [.sent, .lds, .ras]
  | .clearPoison .. => [.sent, .regs, .trie, .lds, .tier, .mem, .dram, .pair, .ras]
  | .getDynamicCapacityConfig .. => [.sent]
  | .getDynamicCapacityExtents .. => [.sent]
  | .addDynamicCapacityResponse .. => [.sent, .tbl, .lds]
  | .releaseDynamicCapacity .. => [.freeIdx, .sent, .ids, .regs, .dir, .prt, .lds, .tier, .mem, .dram, .pair, .ras]
  | .unsupportedMailboxCmd .. => [.sent]
  | .setLdAllocations .. => [.freeIdx, .sent, .regs, .tbl, .prt, .lds, .tier, .mem, .dram, .pair, .ras]
  | .bindLd .. => [.sent, .regs, .lds, .ras]
  | .unbindLd .. => [.sent, .inbox, .regs, .arb, .arr, .tbl, .mnt, .mq, .lrn, .trie, .dsram, .rng, .lds, .ctx, .pair,
      .ras, .mbox]
  | .setQosAllocatedBw .. => [.sent, .regs, .lds, .ras]
  | .setQosBwLimit .. => [.sent, .regs]
  | .setQosControl .. => [.sent, .prt]
  | .setDcRegionConfig .. => [.sent, .lds]
  | .initiateDcAdd .. => [.sent, .lds]
  | .initiateDcRelease .. => [.freeIdx, .sent, .ids, .regs, .dir, .prt, .lds, .tier, .mem, .dram, .pair, .ras]
  | .getMultiHeadedInfo => [.sent]
  | .fmApiOwnerCommand .. => [.sent, .mbox]
  | .fmApiOtherCommand .. => [.sent]
  | .ctxEnableWrite .. => [.regs, .ctx]
  | .ctxDisableWrite .. => [.inbox, .arb, .tbl, .mnt, .mq, .lrn, .trie, .dsram, .rng, .ctx, .pair]
  | .ctxResetWrite .. => [.inbox, .arb, .arr, .tbl, .mnt, .mq, .lrn, .trie, .dsram, .rng, .ctx, .pair, .ras]
  | .contextDrained .. => [.ctx]
  | .sqProdWrite .. => [.sent, .inbox, .regs, .arb, .tbl, .mnt, .mq, .lrn, .trie, .dsram, .rng, .lds, .ctx, .pair, .ras]
  | .cqConsWrite .. => [.sent, .inbox, .regs, .arb, .tbl, .mnt, .mq, .lrn, .trie, .dsram, .rng, .lds, .ctx, .pair, .ras]
  | .descriptorFetch .. => [.freeIdx, .sent, .inbox, .regs, .arb, .tbl, .mnt, .mq, .lrn, .trie, .dsram, .rng, .lds,
      .ctx, .tier, .dram, .pair, .ras]
  | .stampRefetch .. => [.freeIdx, .sent, .inbox, .regs, .arb, .tbl, .mnt, .mq, .lrn, .trie, .dsram, .rng, .lds, .ctx,
      .tier, .dram, .pair, .ras]
  | .stampTimeout .. => [.freeIdx, .sent, .inbox, .regs, .arb, .tbl, .mnt, .mq, .lrn, .trie, .dsram, .rng, .lds, .ctx,
      .tier, .dram, .pair, .ras]
  | .descriptorAccept .. => [.inbox, .regs, .mnt, .mq, .ctx, .pair]
  | .descriptorDispatch .. => [.inbox, .arb, .mnt, .mq, .trie, .dsram, .ctx, .pair]
  | .completionWrite .. => [.freeIdx, .sent, .inbox, .regs, .arb, .tbl, .mnt, .mq, .lrn, .trie, .dsram, .rng, .lds,
      .ctx, .tier, .mem, .host, .dram, .pair, .ras]
  | .windowWrite .. => [.ids, .regs, .ctx]
  | .windowRead .. => [.sent, .regs, .mq, .lds, .ctx, .heldReads, .ras]
  | .windowReadHoldExpiry .. => [.sent, .ctx, .heldReads]
  | .placementRefill .. => [.freeIdx, .sent, .regs, .trie, .lds, .tier, .mem, .dram, .pair, .ras]
  | .promotionCommit .. => [.freeIdx, .sent, .regs, .trie, .lds, .tier, .mem, .dram, .pair, .ras]
  | .heatSweep => [.regs, .tier, .dram]
  | .tierMigrationSwitch .. => [.regs, .lds, .tier, .mem, .dram, .ras]
  | .compaction .. => [.tier, .dram]
  | .emergencyDemotionPass => [.regs, .tier, .dram]
  | .lrDrain => [.regs, .tier, .dram]
  | .rotationPageCopy .. => [.regs, .tier, .dram]
  | .rotationLineAdvance => [.regs, .lds, .tier, .mem, .dram, .ras]
  | .rotationFinish => [.regs, .dsram, .tier, .dram, .mbox, .life]
  | .zeroFrameDone => [.freeIdx, .sent, .regs, .trie, .prt, .lds, .tier, .mem, .dram, .pair, .ras]
  | .onDemandZero => [.freeIdx, .sent, .regs, .trie, .lds, .tier, .mem, .dram, .pair, .ras]
  | .refreshInterval .. => [.regs, .dram]
  | .mr4ReadDue .. => [.dram]
  | .mr4Result .. => [.sent, .regs, .lds, .dram, .ras]
  | .powerDownEnter .. => [.regs]
  | .selfRefreshEnter .. => [.freeIdx, .sent, .regs, .lds, .dram, .trn, .ras]
  | .selfRefreshExit .. => [.freeIdx, .sent, .regs, .lds, .dram, .trn, .ras]
  | .dramReadReturn .. => [.freeIdx, .sent, .regs, .lds, .dram, .trn, .ras]
  | .patrolScrub .. => [.freeIdx, .sent, .regs, .lds, .dram, .ras]
  | .mapValidWrite .. => [.regs, .tier]
  | .qosClassWrite .. => [.sent, .regs, .lds, .ras]
  | .retireGranuleCopy => [.sent, .regs, .lds, .dram, .ras, .mbox]
  | .trnStart .. => [.regs, .trn]
  | .trainingRunDone .. => [.regs, .trn]
  | .dlyWrite .. => [.regs]
  | .drcTimingWrite .. => [.regs]
  | .calSnap .. => [.regs, .trn]
  | .calNudgeWrite .. => [.regs]
  | .rankTrainingExit .. => [.sent, .regs, .lds, .tier, .dram, .trn, .pair, .ras, .mbox]
  | .evacuationDone => [.regs]
  | .restoreCopyDone => [.regs, .trn, .mbox]
  | .linkGo .. => [.sent, .regs, .pair, .ras]
  | .hello .. => [.freeIdx, .sent, .inbox, .regs, .arb, .arr, .tbl, .mnt, .trie, .dsram, .lds, .ctx, .tier, .mem, .dram,
      .pair, .ras]
  | .heartbeatSend => [.pair]
  | .heartbeat .. => [.freeIdx, .sent, .regs, .pair, .ras]
  | .heartbeatTimeout => [.freeIdx, .sent, .regs, .pair, .ras]
  | .pairLinkLoss => [.freeIdx, .sent, .regs, .pair, .ras]
  | .tossResend => [.sent, .pair]
  | .tossAnswer .. => [.freeIdx, .sent, .inbox, .regs, .arb, .arr, .tbl, .mnt, .lrn, .trie, .lds, .ctx, .tier, .mem,
      .dram, .pair, .ras]
  | .tossTimeout => [.freeIdx, .sent, .inbox, .regs, .arb, .arr, .tbl, .mnt, .lrn, .trie, .lds, .ctx, .tier, .mem,
      .dram, .pair, .ras]
  | .partnerLossDetect => [.freeIdx, .sent, .inbox, .regs, .arr, .tbl, .mnt, .trie, .lds, .ctx, .tier, .mem, .dram,
      .pair, .ras]
  | .flitReceive .. => [.freeIdx, .sent, .regs, .pair, .ras]
  | .regionList .. => [.sent, .regs, .pair, .ras]
  | .applied .. => [.inbox, .regs, .mnt, .ctx, .pair]
  | .memAck .. => [.sent, .pair]
  | .mutDone .. => [.freeIdx, .inbox, .arb, .tbl, .mnt, .lrn, .ctx, .pair]
  | .mirOp .. => [.freeIdx, .sent, .inbox, .ids, .regs, .arb, .arr, .tbl, .mnt, .lrn, .trie, .lds, .ctx, .pair, .ras]
  | .mirOpCommit => [.freeIdx, .sent, .inbox, .regs, .arb, .arr, .tbl, .mnt, .mq, .lrn, .dir, .trie, .dsram, .lds, .ctx,
      .pair, .ras]
  | .mirReady .. => [.tbl, .trie]
  | .fwdMut .. => [.freeIdx, .sent, .inbox, .ids, .regs, .arb, .tbl, .mnt, .mq, .lrn, .trie, .dsram, .lds, .ctx, .tier,
      .dram, .pair, .ras]
  | .resyncRow .. => [.ids, .pair]
  | .resyncBlock .. => [.sent, .regs, .trie, .lds, .tier, .mem, .dram, .ras]
  | .rdrReq .. => [.freeIdx, .sent, .regs, .trie, .lds, .tier, .mem, .dram, .pair, .ras]
  | .rdrRsp .. => [.freeIdx, .sent, .pair]
  | .pageReq .. => [.freeIdx, .sent, .regs, .trie, .lds, .tier, .dram, .pair, .ras]
  | .pageBlock .. => [.mem, .trn, .pair, .ras]
  | .resyncDone .. => [.sent, .regs, .lds, .pair, .ras]
  | .tallyVisit => [.sent, .regs, .arb, .lds, .dram, .ras]
  | .tallyRepair => [.freeIdx, .sent, .inbox, .regs, .arb, .arr, .tbl, .mnt, .lrn, .dir, .trie, .lds, .ctx, .pair, .ras]
  | .tallyOutOfTurn => [.sent, .regs, .arb, .lds, .dram, .ras]
  | .shadowDrain => [.dram, .ras]
  | .shadowDirtyFill .. => [.regs, .arb, .ras]
  | .blockSenseFault .. => [.sent, .regs, .lds, .ras]
  | .spareRebuildSwitch => [.sent, .inbox, .regs, .arb, .arr, .tbl, .mnt, .lrn, .trie, .lds, .ctx, .pair, .ras]
  | .sparePauseEnd => [.sent, .regs, .lds, .ras]
  | .mpWdogKick .. => [.regs, .ras]
  | .mpWatchdogExpiry => [.sent, .regs, .lds, .ras, .life]
  | .deviceFatal .. => [.sent, .regs, .lds, .ras, .pins]
  | .rasEvtConsWrite .. => [.regs, .ras]
  | .evtCoalesceExpiry => [.sent, .regs, .ras]
  | .rasInjGo .. => [.regs, .arr, .mq, .trie, .dsram, .ras]
  | .glbIntStatusWrite .. => [.regs]
  | .glbIntEnableWrite .. => [.sent, .regs]
  | .mboxOwnerRead .. => [.sent, .mbox]
  | .mboxRelease .. => [.mbox]
  | .ownerCmdComplete => [.freeIdx, .sent, .inbox, .regs, .arb, .arr, .tbl, .mnt, .mq, .lrn, .trie, .dsram, .rng, .lds,
      .ctx, .tier, .mem, .dram, .trn, .pair, .ras, .mbox, .life]
  | .bar0BadAccess .. => [.sent, .regs]
  | .registerWrite .. => [.regs, .regW]
  | .powerGoodRise => [.pins]
  | .coldResetRelease .. => [.sent, .tick, .regs, .pins]
  | .powerGoodLoss => Comp.allBut [.pending, .host]
  | .railUndervoltage => Comp.allBut [.pending, .host]
  | .sysResetAssert .. => Comp.allBut [.pending, .freeIdx, .host]
  | .sysResetRelease => [.sent, .tick, .pins]
  | .bootPhaseAdvance .. => [.sent, .regs, .tbl, .lds, .tier, .trn, .ras, .life]
  | .spdmRequest .. => [.freeIdx, .sent]
  | .keyLoad .. => [.sent, .life]
  | .keyErase .. => [.sent, .life]
  | .keyQuery .. => [.sent]
  | .lcTransition .. => [.sent, .regs, .life]
  | .lcWarmResetDue => Comp.allBut [.pending, .host]
  | .lockSet .. => [.regs]
  | .fwConfirm .. => [.regs, .life]
  | .trialWindowExpiry => [.regs, .ras, .life]
  | .compatProfileWrite .. => [.regs]
  | .thermalSample .. => [.regs, .pins]
  | .gweutLinkUp .. => [.freeIdx, .sent, .inbox, .regs, .arb, .arr, .tbl, .mnt, .trie, .dsram, .lds, .ctx, .tier, .mem,
      .dram, .pair, .ras]
  | .mpProcessorFault => [.sent, .regs, .lds, .ras, .life]
  | .mpRestartComplete => [.ras, .life]

end Sys2Proof.Machine
end

