-- ==== Sys2Proof/Certificates/Slice0/Obligations.lean ====
section
/-! DEFINITION. The statements of this package, one definition each, listed in OBLIGATIONS.json. -/

open Sys2Proof Sys2Proof.Machine

/-- For every command c, every rest r and every state s whose queue is c :: r, step s is exec of c on s with the queue r. (The queue of commands is the model's own: log 10.) -/
def Obligations.StepRunsTheFrontCommand : Prop :=
  ∀ (c : Instr) (r : List Instr) (s : State), s.pending = c :: r → step s = exec c { s with pending := r }

/-- With no command waiting, step answers the same state (the model's choice: log 10; time passes only by TICK). -/
def Obligations.IdleStepLeavesEverything : Prop :=
  ∀ s : State, s.pending = [] → step s = .next s

/-- For every command and every state, exec answers a next state: what the spec calls an error is a status, an event, a poison mark or a fault of a context, all of them state (log 1). -/
def Obligations.EveryCommandAnswersANextState : Prop :=
  ∀ (c : Instr) (s : State), Runs c s (fun _ => True)

/-- If step answers a next state, its queue is the old queue without its front (empty stays empty): no command puts, drops or reorders waiting commands (the queue is the model's own: log 10). -/
def Obligations.QueueKeepsItsOrder : Prop :=
  ∀ s t : State, step s = .next t → t.pending = s.pending.tail

/-- For every command c and state s, if exec answers a next state t, every one of the 32 components of the state that commandWrites c does not name holds in t what it held in s. So, for example, host memory changes only by COMPLETION_WRITE, MATCH_ENTRY_WRITE and REPORT_POST and, at the end of a tick, TICK, the tick only by TICK and the resets, HDM bytes by none of the commands whose list does not name mem. -/
def Obligations.CommandsChangeOnlyTheirComponents : Prop :=
  ∀ (c : Instr) (s t : State), exec c s = .next t → ∀ x : Comp, x ∉ commandWrites c → State.same s t x

/-- For every state s whose register file, HDM and host memory are canonical (addresses strictly rising, no entry equal to what an unlisted address reads as), if step answers next t, they are canonical in t: equal memories stay equal data (the map form is the model's own). -/
def Obligations.StepKeepsMapsCanonical : Prop :=
  ∀ s t : State, s.canonical → step s = .next t → t.canonical

/-- The state after reset has a canonical register file, HDM and host memory (nothing is listed). -/
def Obligations.ResetIsCanonical : Prop :=
  State.reset.canonical ∧ State.reset.pending = []

/-- POWER_GOOD_RISE in cold reset records that power is good and changes nothing else. COLD_RESET_RELEASE in cold reset with power good ends it with tick 0, PAIR_STRAP-sampled roles, and SYS_READY-side output. POWER_GOOD_LOSS and RAIL_UNDERVOLTAGE in any state enter cold reset: tables, contexts, queues, array rows and HDM are empty, the tick is 0, and host memory is as it was. SYS_RESET_ASSERT outside a reset, and DEVICE_RESET_DELAY_EXPIRY once due, enter warm reset with the cause bit of R592 and the same wipe; SYS_RESET_RELEASE ends it with tick 0. DEVICE_RESET with its confirm word schedules that reset 500,000 ticks on and ends SUCCESS. -/
def Obligations.PowerAndResetCommandsAct : Prop :=
  (∀ s : State, s.pins.cold = true →
    exec .powerGoodRise s = .next { s with pins := { s.pins with good := true } }) ∧
  (∀ (straps : BitVec 9) (s : State), s.pins.cold = true → s.pins.good = true →
    Runs (.coldResetRelease straps) s (fun t => t.pins.cold = false ∧ t.tick = 0 ∧
      t.reg 0x20 = straps.zeroExtend 64 ∧ t.f fPairEn = (straps.extractLsb' 0 1).toNat ∧
      t.f fRole = (straps.extractLsb' 1 1).toNat ∧ t.f fStrapRole = (straps.extractLsb' 1 1).toNat ∧
      t.sent = s.sent ++ [.pin 0 true] ∧ t.mem = s.mem)) ∧
  (∀ s : State, Runs .powerGoodLoss s (fun t => t.pins.cold = true ∧ t.pins.good = false ∧ t.tick = 0 ∧ t.tbl = [] ∧
      t.ctx = [] ∧ t.mq = [] ∧ t.arr = {} ∧ t.mem = [] ∧ t.host = s.host)) ∧
  (∀ s : State, Runs .railUndervoltage s (fun t => t.pins.cold = true ∧ t.pins.good = false ∧ t.tick = 0 ∧ t.tbl = [] ∧
      t.ctx = [] ∧ t.mq = [] ∧ t.arr = {} ∧ t.mem = [] ∧ t.host = s.host)) ∧
  (∀ (bad : BitVec 136) (s : State), s.pins.cold = false → s.pins.warm = false →
    Runs (.sysResetAssert bad) s (fun t => t.pins.warm = true ∧ t.f ⟨0x818, 1, 1⟩ = 1 ∧ t.tick = 0 ∧ t.tbl = [] ∧
      t.ctx = [] ∧ t.mq = [] ∧ t.arr = {} ∧ t.mem = [] ∧ t.host = s.host)) ∧
  (∀ s : State, s.pins.warm = true → Runs .sysResetRelease s (fun t => t.pins.warm = false ∧ t.tick = 0 ∧ t.regs = s.regs)) ∧
  (∀ (via : OwnerPath) (s : State), s.ownerRuns via = true →
    Runs (.deviceReset via 0x8820) s (fun t => t.life = { s.life with resetDue := some (s.tick + 500000) } ∧
      EndsWith s t via 0x60)) ∧
  (∀ (d : Nat) (s : State), s.up = true → s.life.resetDue = some d → d ≤ s.tick →
    Runs .deviceResetDelayExpiry s (fun t => t.pins.warm = true ∧ t.f ⟨0x818, 2, 1⟩ = 1 ∧ t.tick = 0 ∧ t.tbl = [] ∧
      t.ctx = [] ∧ t.mq = [] ∧ t.arr = {} ∧ t.mem = [] ∧ t.host = s.host))

/-- While the block is up and the management processor runs: BOOT_PHASE_ADVANCE leaves the ROM phase for FIRMWARE with the copy the selector gives, enters FAILED with code 1 when no copy is given, and leaves phase MEMORY with READY, the zeroing pass started, CTX_WIN_BASE written and table 254 OPEN; an SPDM request for index 0 is answered by the number of measurements and an index above 5 by an error; KEY_LOAD in a session fills an empty slot with the two unequal halves, KEY_ERASE empties a slot that no enabled domain names, and KEY_QUERY changes nothing, each answered with SUCCESS. KEY_LOAD into a slot that is not EMPTY is answered LOCKED and changes nothing else. -/
def Obligations.BootAndAttestationCommandsAct : Prop :=
  (∀ (w : BitVec 11) (c : Bool) (s : State), s.up = true → s.ras.mpRunning = true → s.f fPhase = 0 → s.bootCopy = some c →
    s.life.trialLost = false →
    exec (.bootPhaseAdvance w 0) s =
      .next (({ s with life := { s.life with running := c, next := c, trialLost := false } }).setF fPhase 1)) ∧
  (∀ (w : BitVec 11) (s : State), s.up = true → s.ras.mpRunning = true → s.f fPhase = 0 → s.bootCopy = none →
    exec (.bootPhaseAdvance w 0) s = .next ((s.setF fPhase 7).setF fFailCode 1)) ∧
  (∀ (w : BitVec 11) (s : State), s.up = true → s.ras.mpRunning = true → s.f fPhase = 3 →
    Runs (.bootPhaseAdvance w 0) s (fun t => t.f fPhase = 4 ∧ t.tier.zeroing = true ∧ t.tier.zeroPos = 0 ∧
      (t.tb 254).state = 2 ∧ (t.tb 254).kind = 2 ∧ t.f ⟨0xc1000, 33, 11⟩ = w.toNat)) ∧
  (∀ (sess : Session) (s : State), s.up = true → s.spdmUp = true →
    exec (.spdmRequest sess 0) s = .next (s.send (.spdm 0x60 [5]))) ∧
  (∀ (sess : Session) (i : Nat) (s : State), s.up = true → s.spdmUp = true → 5 < i →
    exec (.spdmRequest sess i) s = .next (s.spdmErr spdmInvalid)) ∧
  (∀ (sess : Session) (i : Nat) (s : State), s.up = true → s.spdmUp = true → 0 < i → i ≤ 5 →
    Runs (.spdmRequest sess i) s (fun t => ∃ body, t.sent = s.sent ++ [.spdm 0x60 (leBytes 1 i ++ body)])) ∧
  (∀ (slot : Id12) (a b : BitVec 256) (s : State), s.up = true → s.spdmUp = true → s.keysOpen = true → a ≠ b →
    s.slotState slot.val = 0 →
    exec (.keyLoad .owner slot a b true) s =
      .next ((s.setKey slot.val (some (a, b))).vendorAns 0x01 St.success slot.val)) ∧
  (∀ (slot : Id12) (a b : BitVec 256) (s : State), s.up = true → s.spdmUp = true → s.keysOpen = true → a ≠ b →
    s.slotState slot.val ≠ 0 →
    exec (.keyLoad .owner slot a b true) s = .next (s.vendorAns 0x01 St.locked slot.val)) ∧
  (∀ (slot : Id12) (s : State), s.up = true → s.spdmUp = true → s.keysOpen = true → s.slotState slot.val ≠ 2 →
    exec (.keyErase .owner slot true) s = .next ((s.setKey slot.val none).vendorAns 0x02 St.success slot.val)) ∧
  (∀ (slot : Id12) (s : State), s.up = true → s.spdmUp = true → s.keysOpen = true →
    exec (.keyQuery .owner slot true) s = .next (s.vendorAns 0x03 St.success slot.val))

/-- LC_TRANSITION from OPERATIONAL to SERVICE in an owner session, with fewer than 63 records and no trial, programs one more entry and makes the warm reset due 500,000 ticks on; LC_WARM_RESET_DUE, once due, enters warm reset with its cause bit; LOCK_SET sets the lock. GET_FW_INFO is answered; TRANSFER_FW into the inactive copy sets its SVN and validity; ACTIVATE_FW of a valid inactive copy sets TRIAL and stops the processor for its restart; MP_RESTART_COMPLETE runs the chosen copy; FW_CONFIRM makes the trial copy ACTIVE and ends the trial; TRIAL_WINDOW_EXPIRY after TRIAL_S seconds restarts the processor; FW_SVN_COMMIT raises MIN_SVN to the SVN of the ACTIVE copy; COMPAT_PROFILE_WRITE of 1 sets PROFILE and of another value changes nothing. -/
def Obligations.LifeCycleAndFirmwareCommandsAct : Prop :=
  (∀ (h : BitVec 384) (s : State), s.up = true → s.spdmUp = true → s.f fLcState = 2 → s.f fRecords < 63 → s.f fTrial = 0 →
    Runs (.lcTransition .owner 3 h false true) s (fun t => t.f fRecords = s.f fRecords + 1 ∧ t.life.record = 3 ∧
      t.life.lcDue = some (s.tick + 500000) ∧ t.life.ownerHash = s.life.ownerHash ∧ t.life.keys = s.life.keys)) ∧
  (∀ (d : Nat) (s : State), s.up = true → s.life.lcDue = some d → d ≤ s.tick →
    exec .lcWarmResetDue s = .next (s.freeBlocks.2.warmReset rcLc s.freeBlocks.1)) ∧
  (∀ (who : Who) (s : State), s.up = true → s.mayBar0 who = true →
    exec (.lockSet who) s = .next (s.setF fLcLock 1)) ∧
  (∀ (ld : LdId) (s : State), s.up = true → s.ras.mpRunning = true →
    Runs (.getFwInfo ld) s (fun t => ∃ body, t.sent = s.sent ++ [.mbox ld.val 0x0200 rcSuccess body])) ∧
  (∀ (svn : BitVec 16) (s : State), s.up = true → s.ras.mpRunning = true → s.f fActive = 0 → s.f fTrial = 0 →
    s.f fMinSvn ≤ svn.toNat →
    exec (.transferFw none true svn true true) s =
      .next (((s.setF (fSvn true) svn.toNat).updLife (fun l => { l with validB := true })).fmAns 0x0201 rcSuccess)) ∧
  (∀ s : State, s.up = true → s.ras.mpRunning = true → s.f fActive = 0 → s.f fTrial = 0 → s.copyValid true = true →
    Runs (.activateFw none true) s (fun t => t.f fTrial = 1 ∧ t.life = { s.life with next := true, trialStart := none } ∧
      t.ras = { s.ras with mpRunning := false } ∧ t.sent = s.sent ++ [.fm 0x0202 rcSuccess []])) ∧
  (∀ s : State, s.up = true → s.ras.mpRunning = false →
    exec .mpRestartComplete s = .next { s with
      ras := { s.ras with mpRunning := true, lastKick := s.tick },
      life := { s.life with running := s.life.next, trialStart := if s.f fTrial == 1 then some s.tick else none } }) ∧
  (∀ (who : Who) (b : Nat) (s : State), s.up = true → s.mayBar0 who = true → s.life.trialStart = some b →
    exec (.fwConfirm who) s = .next (((s.setF fActive (if s.life.running then 1 else 0)).setF fTrial 0).updLife
      (fun l => { l with trialStart := none }))) ∧
  (∀ (b : Nat) (s : State), s.up = true → s.life.trialStart = some b → b + 500000000 * max (s.f fTrialS) 2 ≤ s.tick →
    exec .trialWindowExpiry s = .next s.mpRestart) ∧
  (∀ (via : OwnerPath) (s : State), s.ownerRuns via = true → s.f fTrial = 0 → s.f fActive = 0 → s.copyValid true = true →
    (s.setF fMinSvn (max (s.f fMinSvn) (s.f (fSvn false)))).copyValid true = true →
    Runs (.fwSvnCommit via) s (fun t => EndsWith s t via 0x61 ∧
      t.regs = (s.setF fMinSvn (max (s.f fMinSvn) (s.f (fSvn false)))).regs ∧ t.life = s.life)) ∧
  (∀ (who : Who) (w : Word) (s : State), s.up = true → s.mayBar0 who = true → s.f fLcLock = 0 → fld w 0 8 = 1 →
    exec (.compatProfileWrite who w) s = .next (s.setF ⟨0x830, 0, 8⟩ 1)) ∧
  (∀ (who : Who) (w : Word) (s : State), fld w 0 8 ≠ 1 → exec (.compatProfileWrite who w) s = .next s)

/-- THERMAL_SAMPLE of 16 readings at a multiple of 500 ticks, while the block is up, stores each reading, corrected by the offset of its sensor that the boot has applied (by none, when none is applied), in its register, decides a trip exactly when the hottest reading is 115.0 degrees or more, decides the start of the throttle when it is not active and the hottest sensor reads THROTTLE_C or more, and leaves every component but the registers and the pins as it was; at any other tick it changes nothing. -/
def Obligations.ThermalSampleHoldsTheReadings : Prop :=
  (∀ (raw ts : List (BitVec 16)) (s : State), s.up = true → s.tick % 500 = 0 → raw.length = 16 → ts = s.readings raw →
    Runs (.thermalSample raw) s (fun t =>
      (∀ i < 16, t.reg (0xc40 + 8 * i) = (ts.getD i 0).zeroExtend 64) ∧
      t.pins.trip = decide (1150 ≤ (ts.getD (hottest ts) 0).toInt) ∧
      (s.f fThermActive = 0 → s.throttleAt ≤ (ts.getD (hottest ts) 0).toInt →
        t.pins.due = some (1, hottest ts, (ts.getD (hottest ts) 0).toNat)) ∧
      t.pins.tripped = s.pins.tripped ∧ t = { s with regs := t.regs, pins := t.pins })) ∧
  (∀ (raw : List (BitVec 16)) (s : State), s.life.applied = none → s.readings raw = raw) ∧
  (∀ (ts : List (BitVec 16)) (s : State), s.tick % 500 ≠ 0 → exec (.thermalSample ts) s = .next s)

/-- R40: outside reset, TICK raises the tick counter by exactly 1 (it is 64 bits wide as TICK_COUNT shows it); the release of a cold or a warm reset leaves it at 0; and no command but TICK, the resets and their releases changes it, so it continues without interruption through management-processor restarts, port resets, LD function-level resets and life-cycle operations that do not reset the device. -/
def Obligations.TickCounterFollowsR40 : Prop :=
  (∀ s : State, s.pins.cold = false → s.pins.warm = false → Runs .tick s (fun t => t.tick = s.tick + 1)) ∧
  (∀ (straps : BitVec 9) (s : State), s.pins.cold = true → s.pins.good = true →
    Runs (.coldResetRelease straps) s (fun t => t.tick = 0)) ∧
  (∀ s : State, s.pins.warm = true → Runs .sysResetRelease s (fun t => t.tick = 0)) ∧
  (∀ (c : Instr) (s t : State), exec c s = .next t → t.tick ≠ s.tick →
    c = .tick ∨ (∃ b, c = .coldResetRelease b) ∨ c = .sysResetRelease ∨ (∃ b, c = .sysResetAssert b) ∨ c = .powerGoodLoss ∨
      c = .railUndervoltage ∨ c = .deviceResetDelayExpiry ∨ c = .lcWarmResetDue)

/-- While the block is up and the requester may use BAR0: a write of GLB_INT_STATUS clears exactly the bits written as 1 that the device does not set in this tick; a write of GLB_INT_ENABLE stores its eight bits and leaves every other register; a read of MBOX_OWNER claims a free mailbox and answers GRANTED, and is answered without GRANTED while another LD holds it, changing nothing; the holder's release frees the mailbox, or waits while BUSY is 1; OWNER_CMD_COMPLETE publishes the oldest command that has ended: through the mailbox, BUSY clears with the status and the commit tick; a bad access sets BAD_ACCESS and nothing else; a register write of a right width and alignment waits for the next tick with its mask, and one that is not aligned sets BAD_ACCESS. -/
def Obligations.MailboxAndGlobalRegisterCommandsAct : Prop :=
  (∀ (who : Who) (w : Word) (s : State), s.up = true → s.mayBar0 who = true →
    Runs (.glbIntStatusWrite who w) s (fun t => (∀ n < 8, t.f ⟨offIntStatus, n, 1⟩ =
      if bit w n && num s.ras.intTick n != s.tick + 1 then 0 else s.f ⟨offIntStatus, n, 1⟩) ∧
      ∀ o, o ≠ offIntStatus → t.reg o = s.reg o)) ∧
  (∀ (who : Who) (w : Word) (s : State), s.up = true → s.mayBar0 who = true →
    Runs (.glbIntEnableWrite who w) s (fun t => t.reg offIntEnable = w &&& 0xff ∧ ∀ o, o ≠ offIntEnable → t.reg o = s.reg o)) ∧
  (∀ (ld : LdId) (s : State), s.up = true → s.mayBar0 (.ld ld) = true → s.mbox.holder = none →
    exec (.mboxOwnerRead ld) s = .next (({ s with mbox := { s.mbox with holder := some ld } }).send
      (.doorbell ld.val (BitVec.ofNat 64 (2 ^ 63 + 2 ^ 62 + ld.val))))) ∧
  (∀ (ld h : LdId) (s : State), s.up = true → s.mayBar0 (.ld ld) = true → s.mbox.holder = some h → h ≠ ld →
    exec (.mboxOwnerRead ld) s = .next (s.send (.doorbell ld.val (BitVec.ofNat 64 (2 ^ 62 + h.val))))) ∧
  (∀ (ld : LdId) (s : State), s.up = true → s.mayBar0 (.ld ld) = true → s.mbox.holder = some ld → s.f fMboxBusy ≠ 1 →
    exec (.mboxRelease ld) s = .next { s with mbox := { s.mbox with holder := none } }) ∧
  (∀ (ld : LdId) (s : State), s.up = true → s.mayBar0 (.ld ld) = true → s.mbox.holder = some ld → s.f fMboxBusy = 1 →
    exec (.mboxRelease ld) s = .next { s with mbox := { s.mbox with releasePending := true } }) ∧
  (∀ (ld : LdId) (code st tk : Nat) (rest : List OwnerRes) (s : State), s.up = true → s.ras.mpRunning = true →
    s.mbox.done = ⟨.mailbox ld, code, st, tk, []⟩ :: rest → (⟨.mailbox ld, code, st, tk, []⟩ : OwnerRes).notBefore ≤ s.tick → st < 256 →
    Runs .ownerCmdComplete s (fun t => t.f fMboxBusy = 0 ∧ t.f fMboxStatus = st ∧ t.f fResultLen = 0 ∧
      t.reg 0x3f0008 = BitVec.ofNat 64 tk ∧ t.mbox.done = rest ∧ t.mbox.arrived = none)) ∧
  (∀ (r : OwnerRes) (rest : List OwnerRes) (s : State), s.up = true → s.ras.mpRunning = true → s.mbox.done = r :: rest →
    r.notBefore ≤ s.tick → exec .ownerCmdComplete s = .next (s.ownerPublish r)) ∧
  (∀ (who : Who) (o : BitVec 24) (n : Nat) (s : State), s.up = true → s.mayBar0 who = true → n ≠ 4 → n ≠ 8 →
    exec (.bar0BadAccess who true o n) s = .next (s.setF ⟨0x30, 8, 1⟩ 1)) ∧
  (∀ (who : Who) (o : BitVec 24) (v : Word) (s : State), s.up = true → s.mayBar0 who = true → o.toNat % 8 = 0 →
    exec (.registerWrite who o true v) s =
      .next { s with regW := s.regW ++ [⟨who, o.toNat / 8 * 8, BitVec.allOnes 64, v⟩] }) ∧
  (∀ (who : Who) (o : BitVec 24) (v : Word) (s : State), s.up = true → s.mayBar0 who = true → o.toNat % 8 = 4 →
    exec (.registerWrite who o false v) s =
      .next { s with regW := s.regW ++ [⟨who, o.toNat / 8 * 8, 0xffffffff00000000, v <<< 32⟩] }) ∧
  (∀ (who : Who) (o : BitVec 24) (v : Word) (s : State), s.up = true → s.mayBar0 who = true → o.toNat % 8 ≠ 0 →
    exec (.registerWrite who o true v) s = .next (s.setF ⟨0x30, 8, 1⟩ 1))

/-- A sense fault of a free block with a READY spare makes the block failing, takes the lowest READY spare, and plans its service for the next tick (R570); of a block already failing it changes nothing; BLOCK_SPARE of a free block does the same and ends SUCCESS. At f + 4,097 SPARE_REBUILD_SWITCH gives the logical block to its spare; at f + 4,098 SPARE_PAUSE_END ends the rebuild and raises SPARE_IN_SERVICE. TALLY_VISIT of an observed paced read of row a moves POS to the next row after a that is not of a FAILED block; TALLY_OUT_OF_TURN visits the row of an observed read out of turn. SHADOW_DRAIN queues the row's DRAM writes, writes the oldest queue entry to the shadow and clears its poison mark; SHADOW_DIRTY_FILL of a dirty row queues its read at input 13, and once it is observed with good parity the row's image reaches the shadow and the row is no longer dirty. -/
def Obligations.SpareTallyAndShadowCommandsAct : Prop :=
  (∀ (n : Fin 128) (p : Nat) (rest : List Nat) (s : State), s.up = true → s.ras.failing.contains n.val = false →
    s.blockFailed n.val = false → s.tableOf n.val = none → s.ras.ready = p :: rest →
    Runs (.blockSenseFault n) s (fun t => t.ras.failing = s.ras.failing ++ [n.val] ∧ t.ras.ready = rest ∧
      t.ras.blkActs = s.ras.blkActs ++ [(s.tick + 1, .freeSpared n.val p (s.physOf n.val))] ∧
      t.ras.rebuilds = s.ras.rebuilds ∧ t.arr = s.arr)) ∧
  (∀ (n : Fin 128) (s : State), s.ras.failing.contains n.val = true → exec (.blockSenseFault n) s = .next s) ∧
  (∀ (via : OwnerPath) (n : Byte) (p : Nat) (rest : List Nat) (s : State), s.ownerRuns via = true → n.toNat < 128 →
    s.ras.failing.contains n.toNat = false → s.blockFailed n.toNat = false → s.tableOf n.toNat = none → s.ras.ready = p :: rest →
    Runs (.blockSpare via n) s (fun t => EndsWith s t via 0x26 ∧ t.ras.failing = s.ras.failing ++ [n.toNat] ∧
      t.ras.ready = rest)) ∧
  (∀ (r : Rebuild) (s : State), s.up = true → s.ras.rebuilds = [r] → r.f + 4097 ≤ s.tick →
    s.ras.failing.contains r.blk = true → r.blk < 128 → r.spare < 136 → r.failing < 136 →
    Runs .spareRebuildSwitch s (fun t => t.physOf r.blk = r.spare)) ∧
  (∀ (r : Rebuild) (s : State), s.up = true → s.ras.rebuilds = [r] → r.f + 4098 ≤ s.tick →
    s.ras.failing.contains r.blk = false →
    exec .sparePauseEnd s =
      .next (({ s with ras := { s.ras with rebuilds := [] } }).raise .spareInService (r.blk + r.spare * 256) 4098)) ∧
  (∀ (f : Flight) (a : Nat) (n : Seen) (s : State), s.up = true → s.readDue .tally = some (f, a, n) →
    Runs .tallyVisit s (fun t => t.f fTallyPos = (t.rowFrom (a + 1)).getD 0)) ∧
  (∀ (f : Flight) (a : Nat) (n : Seen) (s : State), s.up = true → s.readDue .tallyOut = some (f, a, n) →
    exec .tallyOutOfTurn s = .next ((s.dropFlight f).visitRow a (f.g + 5) n)) ∧
  (∀ (a : Nat) (r : Row) (rest : List (Nat × Row)) (s : State), s.up = true → s.ras.shadowQ = (a, r) :: rest →
    exec .shadowDrain s = .next ((s.shadowTraffic a true).updRas (fun x => { x with
      shadowQ := rest, shadow := SMap.set (fun _ => {}) x.shadow a r, shadowQBad := setFlag x.shadowQBad a false,
      shadowPoison := setFlag x.shadowPoison a false }))) ∧
  (∀ (row : BitVec 21) (s : State), s.up = true → flag s.ras.dirty row.toNat = true → s.arb.flights = [] → s.queuedOps = [] →
    exec (.shadowDirtyFill row) s = .next (s.enqOp 13 { table := 0, act := .read row.toNat, origin := .dirtyFill })) ∧
  (∀ (row : BitVec 21) (f : Flight) (n : Seen) (s : State), s.up = true → flag s.ras.dirty row.toNat = true →
    s.arb.flights = [f] → f.op.origin = .dirtyFill → f.op.act = .read row.toNat → f.seen = some n → n.row.bad = 0 →
    Runs (.shadowDirtyFill row) s (fun t => t.ras.shadow = SMap.set (fun _ => {}) s.ras.shadow row.toNat n.row.row ∧
      t.ras.dirty = setFlag s.ras.dirty row.toNat false ∧ t.arr = s.arr))

/-- A write of MP_WDOG with KICK stores PERIOD_MS and notes the kick's tick; the watchdog's expiry and a processor fault stop a running management processor (it restarts later), a watchdog that is not due changes nothing; DEVICE_FATAL sets the FATAL state with its cause and drives GW_ALIVE_OUT low, and a second one changes nothing; a write of RAS_EVT_CONS sets the consumer index, and when no event is left the conditions of R624 start anew; EVT_COALESCE_EXPIRY sets GLB_INT_STATUS.EVT when a condition holds; RAS_INJ_GO in SERVICE inverts the named device's error at the addressed line, and one with a target that does not exist is refused. -/
def Obligations.ProcessorFatalAndEventCommandsAct : Prop :=
  (∀ (who : Who) (w : Word) (s : State), s.up = true → s.mayBar0 who = true → bit w 63 = true →
    exec (.mpWdogKick who w) s = .next ((s.setF fPeriodMs (fld w 0 10)).updRas (fun r => { r with lastKick := s.tick }))) ∧
  (∀ s : State, s.up = true → s.ras.mpRunning = true → s.ras.lastKick + 500000 * max (s.f fPeriodMs) 10 ≤ s.tick →
    Runs .mpWatchdogExpiry s (fun t => t.ras.mpRunning = false ∧ t.life.trialStart = none)) ∧
  (∀ s : State, s.tick < s.ras.lastKick + 500000 * max (s.f fPeriodMs) 10 → exec .mpWatchdogExpiry s = .next s) ∧
  (∀ s : State, s.up = true → s.ras.mpRunning = true →
    Runs .mpProcessorFault s (fun t => t.ras.mpRunning = false ∧ t.life.trialStart = none)) ∧
  (∀ (c : Fin 3) (s : State), s.up = true → s.pins.fatal = false →
    Runs (.deviceFatal c) s (fun t => t.pins = { s.pins with fatal := true } ∧ t.f ⟨0x30, 63, 1⟩ = 1 ∧
      t.f ⟨0x30, 0, 2⟩ = c.val ∧ .pin 0 false ∈ t.sent)) ∧
  (∀ (c : Fin 3) (s : State), s.pins.fatal = true → exec (.deviceFatal c) s = .next s) ∧
  (∀ (who : Who) (v : BitVec 32) (s : State), s.up = true → s.mayBar0 who = true → (s.setF fCons v.toNat).evtPending = 0 →
    exec (.rasEvtConsWrite who v) s = .next ((s.setF fCons v.toNat).updRas (fun r => { r with evtHeld := false }))) ∧
  (∀ s : State, s.up = true → s.evtDue = true → s.ras.evtHeld = false →
    Runs .evtCoalesceExpiry s (fun t => t.f ⟨offIntStatus, Irq.evt, 1⟩ = 1 ∧ t.ras.evtHeld = true)) ∧
  (∀ (who : Who) (w : Word) (s : State), s.up = true → s.mayBar0 who = true → bit w 63 = true → s.f fLcState = 3 →
    fld w 0 3 = 5 → fld w 8 4 < 10 → (s.reg 0x3e0308).toNat < 2 ^ 44 →
    Runs (.rasInjGo who w) s (fun t => t.ras.inj = setNum s.ras.inj ((s.reg 0x3e0308).toNat / 64)
      (Nat.xor (num s.ras.inj ((s.reg 0x3e0308).toNat / 64)) (2 ^ fld w 8 4)))) ∧
  (∀ (who : Who) (w : Word) (s : State), s.up = true → s.mayBar0 who = true → bit w 63 = true → fld w 0 3 = 7 →
    Runs (.rasInjGo who w) s (fun t => t.f ⟨0x3e0300, 61, 1⟩ = 1 ∧ t.ras = s.ras ∧ t.arr = s.arr))

/-- LINK_GO of a member whose link has not been started stores the written fields and enters LINKING; GWEUT_LINK_UP fails with LINK_FAIL 6 or 9 on latency or authentication and changes nothing else; two fresh LINKING members of unlike strap roles become PAIRED with epoch 1 on HELLO (the PAIR_IDs equal), and equal strap roles give LINK_FAIL 7; HEARTBEAT_SEND at a multiple of 256 ticks queues a heartbeat; the first intact HEARTBEAT after training sets PAIR_OFFSET to (T_s + 25) - T_r, a later one that gives the same value changes only the beat's tick, and one that gives another value declares link loss with code 4; HEARTBEAT_TIMEOUT after 1,024 ticks and PAIR_LINK_LOSS take a PAIRED member to TOSSING with the link down and the loss tick noted; a good flit in sequence is acknowledged and the expected sequence rises by 1 modulo 4,096; a bad one is NAKed once. -/
def Obligations.LinkTrainingAndHeartbeatsAct : Prop :=
  (∀ (who : Who) (w : Word) (s : State), s.up = true → s.mayBar0 who = true → s.member = true → s.pair.go = false →
    bit w 2 = true → s.pst = .unpaired →
    Runs (.linkGo who w) s (fun t => t.pst = .linking ∧ t.pair = { s.pair with go := true } ∧ t.f fPairId = fld w 48 16)) ∧
  (∀ (a : Bool) (m : HelloMsg) (s : State), s.up = true → s.member = true → s.pair.go = true → s.pair.up = false →
    exec (.gweutLinkUp a false m) s = .next (s.setF fLinkFail 6)) ∧
  (∀ (m : HelloMsg) (s : State), s.up = true → s.member = true → s.pair.go = true → s.pair.up = false →
    exec (.gweutLinkUp false true m) s = .next (s.setF fLinkFail 9)) ∧
  (∀ (m : HelloMsg) (s : State), s.up = true → s.member = true → s.pair.go = true → s.pair.up = false →
    s.f fRoleConfirm = s.f fStrapRole → m.pairId.toNat = s.f fPairId → s.pst = .linking → m.state = .resync →
    Runs (.gweutLinkUp true true m) s (fun t => t.pair.up = true ∧ t.f fAliveIn = 1 ∧ t.pair.lastBeat = s.tick ∧
      t.pair.txSeq = 0 ∧ t.pair.rxSeq = 0 ∧ t.pair.peer = some m)) ∧
  (∀ (m : HelloMsg) (s : State), s.up = true → s.pair.up = true → m.pairId.toNat = s.f fPairId → s.pst = .linking →
    m.state = .linking → s.pair.fresh = true → m.fresh = true → m.digestEq = true → m.strapRole ≠ (s.f fStrapRole == 1) →
    Runs (.hello m) s (fun t => t.pst = .paired ∧ t.f fEpoch = 1 ∧ t.f fRole = s.f fStrapRole ∧ t.pair.fresh = false)) ∧
  (∀ (m : HelloMsg) (s : State), s.up = true → s.pair.up = true → m.pairId.toNat = s.f fPairId → s.pst = .linking →
    m.state = .linking → s.pair.fresh = true → m.fresh = true → m.strapRole = (s.f fStrapRole == 1) →
    exec (.hello m) s = .next (({ s with pair := { s.pair with peer := some m } }).setF fLinkFail 7)) ∧
  (∀ s : State, s.up = true → s.pair.up = true → s.tick % 256 = 0 →
    exec .heartbeatSend s = .next (s.linkSend (.heartbeat s.tick (s.f fEpoch) s.pst))) ∧
  (∀ (k : Nat) (e : BitVec 32) (s : State), s.up = true → s.pair.up = true → s.pair.offsetSet = false →
    exec (.heartbeat k e true) s =
      .next (({ s with pair := { s.pair with lastBeat := s.tick, offsetSet := true } }).setReg 0x3c0010
        (BitVec.ofInt 64 (Int.ofNat k + 25 - Int.ofNat s.tick)))) ∧
  (∀ (k : Nat) (e : BitVec 32) (s : State), s.up = true → s.pair.up = true → s.pair.offsetSet = true →
    s.reg 0x3c0010 = BitVec.ofInt 64 (Int.ofNat k + 25 - Int.ofNat s.tick) →
    exec (.heartbeat k e true) s = .next { s with pair := { s.pair with lastBeat := s.tick } }) ∧
  (∀ (k : Nat) (e : BitVec 32) (s : State), s.up = true → s.pair.up = true → s.pair.offsetSet = true →
    s.reg 0x3c0010 ≠ BitVec.ofInt 64 (Int.ofNat k + 25 - Int.ofNat s.tick) →
    Runs (.heartbeat k e true) s (fun t => t.pair.up = false ∧ t.f fLinkFail = 4)) ∧
  (∀ s : State, s.up = true → s.pair.up = true → s.pst = .paired → s.pair.lastBeat + 1024 ≤ s.tick →
    Runs .heartbeatTimeout s (fun t => t.pair.up = false ∧ t.f fLinkFail = 2 ∧ t.pst = .tossing ∧ t.pair.lossTick = s.tick)) ∧
  (∀ s : State, s.up = true → s.pair.up = true → s.pst = .paired →
    Runs .pairLinkLoss s (fun t => t.pair.up = false ∧ t.f fLinkFail = 1 ∧ t.pst = .tossing ∧ t.pair.lossTick = s.tick ∧
      t.f fEpoch = s.f fEpoch)) ∧
  (∀ (q a : BitVec 12) (c : BitVec 32) (s : State), s.up = true → s.pair.up = true → q.toNat = s.pair.rxSeq →
    Runs (.flitReceive q a false c true true) s (fun t => t.sent = s.sent ++ [.ack q.toNat] ∧
      t.pair.rxSeq = (q.toNat + 1) % 4096 ∧ t.pair.credit0 = min 128 (s.pair.credit0 + c.toNat % 256))) ∧
  (∀ (q a : BitVec 12) (n : Bool) (c : BitVec 32) (f : Bool) (s : State), s.up = true → s.pair.up = true →
    s.pair.nakSent = false →
    exec (.flitReceive q a n c false f) s =
      .next (({ s with pair := { s.pair with nakSent := true } }).send (.nak s.pair.rxSeq)))

/-- While TOSSING: 100,000 ticks after the last request the same request is sent again; an answer that matches makes the member KEEPER on GRANT and BENCHED on DENY, and one that does not match changes nothing; 1,000,000 ticks after the loss home becomes KEEPER with cause 2 and away BENCHED; a lost partner makes the member KEEPER with cause 3. A member with nothing waiting that becomes KEEPER holds role home, the epoch raised by 1, and its KEEP_CAUSE. PAIR_BENCH of a PAIRED member benches it, and of any other is LOCKED; PAIR_JOIN of a fresh LINKING member notes the join; MIRROR_REGION at a PAIRED home with a free, aligned range adds the region and tells the partner. -/
def Obligations.TossAndRoleCommandsAct : Prop :=
  (∀ s : State, s.up = true → s.pst = .tossing → s.pair.lastToss + 100000 ≤ s.tick →
    exec .tossResend s = .next { s with
      sent := s.sent ++ [.toss (s.f fPairId) (s.f fEpoch) s.isAway], pair := { s.pair with lastToss := s.tick } }) ∧
  (∀ (p : BitVec 16) (e : BitVec 32) (n : Word) (s : State), s.up = true → s.pst = .tossing → p.toNat = s.f fPairId →
    e.toNat = s.f fEpoch → n = s.reg 0x10 → exec (.tossAnswer 1 p e 1 0 n) s = .next (s.becomeKeeper 1)) ∧
  (∀ (p : BitVec 16) (e : BitVec 32) (n : Word) (s : State), s.up = true → s.pst = .tossing → p.toNat = s.f fPairId →
    e.toNat = s.f fEpoch → n = s.reg 0x10 → exec (.tossAnswer 1 p e 2 0 n) s = .next s.becomeBenched) ∧
  (∀ (v : Byte) (p : BitVec 16) (e : BitVec 32) (d : Byte) (r : BitVec 56) (n : Word) (s : State),
    (s.pst ≠ .tossing ∨ v ≠ 1 ∨ p.toNat ≠ s.f fPairId ∨ e.toNat ≠ s.f fEpoch ∨ (d ≠ 1 ∧ d ≠ 2) ∨ r ≠ 0 ∨ n ≠ s.reg 0x10) →
    exec (.tossAnswer v p e d r n) s = .next s) ∧
  (∀ s : State, s.up = true → s.pst = .tossing → s.pair.lossTick + 1000000 ≤ s.tick → s.isAway = true →
    exec .tossTimeout s = .next s.becomeBenched) ∧
  (∀ s : State, s.up = true → s.pst = .tossing → s.pair.lossTick + 1000000 ≤ s.tick → s.isAway = false →
    s.f fEpoch + 1 < 2 ^ 32 → s.pair.memWait = [] → s.pair.awaitApplied = [] → s.pair.doneWait = [] → s.pair.awaitDone = [] →
    s.pair.held = [] → s.tbl = [] →
    Runs .tossTimeout s (fun t => t.pst = .keeper ∧ t.f fKeepCause = 2 ∧ t.f fEpoch = s.f fEpoch + 1 ∧ t.isAway = false ∧
      t.mem = s.mem)) ∧
  (∀ s : State, s.up = true → s.pst = .tossing → s.pair.up = false →
    exec .partnerLossDetect s = .next ((s.setF fAliveIn 0).becomeKeeper 3)) ∧
  (∀ (via : OwnerPath) (s : State), s.ownerRuns via = true → s.member = true → s.pst = .paired →
    exec (.pairBench via) s =
      .next ((s.becomeBenched.linkSend (.hello s.becomeBenched.ownHello)).ownerEnd via 0x51 St.success)) ∧
  (∀ (via : OwnerPath) (s : State), s.ownerRuns via = true → s.pst ≠ .paired →
    exec (.pairBench via) s = .next (s.ownerEnd via 0x51 St.locked)) ∧
  (∀ (via : OwnerPath) (s : State), s.ownerRuns via = true → s.member = true → s.pst = .linking → s.pair.fresh = true →
    s.pair.peer = none →
    Runs (.pairJoin via) s (fun t => t.pair = { s.pair with join := true } ∧ EndsWith s t via 0x52 ∧ t.regs = s.regs)) ∧
  (∀ (via : OwnerPath) (base : BitVec 64) (n : BitVec 16) (d : BitVec 16) (s : State), s.ownerRuns via = true → s.member = true →
    s.pst = .paired → s.isAway = false → base.toNat % 2 ^ 28 = 0 → base.toNat + n.toNat * 2 ^ 28 ≤ 2 ^ 44 → n ≠ 0 → d.toNat < 4096 →
    s.regions = [] → n.toNat ≤ 8192 → s.ldMaps base.toNat (base.toNat + n.toNat * 2 ^ 28) = false →
    Runs (.mirrorRegion via base n d 1) s (fun t => EndsWith s t via 0x50 ∧
      t.pair.waiting = s.pair.waiting ++ [.regionList [⟨BitVec.ofNat 16 (base.toNat / 2 ^ 28), n, Fin.ofNat 4096 d.toNat, true⟩]] ∧
      t.regions = [⟨BitVec.ofNat 16 (base.toNat / 2 ^ 28), n, Fin.ofNat 4096 d.toNat, true⟩]))

/-- With the link up: a MIR_OP reserves its commit at away of a PAIRED pair, and a joiner queues it, as it queues the change of a RESYNC_ROW, in arrival order; a change that is due commits by MIR_OP_COMMIT, and a direct entry's change writes its word; MIR_READY at home lets the lock that waits for this PREPARE commit; APPLIED ends the mutations of its table up to its sequence number and no other; MUT_DONE completes the command-register mutation that awaits it with the status and handle it carries; a forwarded LOCK that the table's gate admits is carried out for the partner's context. -/
def Obligations.MirroredChangeMessagesAct : Prop :=
  (∀ (m : MirMsg) (s : State), s.up = true → s.pair.up = true → s.joining = false → s.pst = .paired → s.isAway = true →
    exec (.mirOp m) s = .next (s.mirReserve m)) ∧
  (∀ (m : MirMsg) (s : State), s.up = true → s.pair.up = true → s.joining = true →
    exec (.mirOp m) s = .next (s.joinIn m)) ∧
  (∀ (m : MirMsg) (s : State), s.up = true → s.mirDue = some m → exec .mirOpCommit s = .next (s.mirCommit m)) ∧
  (∀ (m : MirMsg) (s : State), s.up = true → s.pair.up = true → s.joining = true →
    exec (.resyncRow m) s = .next (s.joinIn m)) ∧
  (∀ (m : MirMsg) (s : State), (s.joinIn m).pair.joinQ = s.pair.joinQ ++ [{ m with seq := 2 ^ 64 + s.ids }]) ∧
  (∀ (m : MirMsg) (r : Option Nat) (s : State), m.kind = .direct → s.mnt.relocs = [] →
    s.mirApply m r = s.setDword (1024 * (s.tb m.table.val).regionBase + m.handle.toNat) m.res) ∧
  (∀ (t : TableId) (q : Nat) (l : Lock) (s : State), s.up = true → s.pair.up = true → s.isAway = false →
    (s.tb t.val).lock = some l → l.prep = some q →
    Runs (.mirReady t q) s (fun u => (u.tb t.val).lock = some { l with ready := true } ∧
      (∀ k, k ≠ t.val → u.tb k = s.tb k) ∧ u.regs = s.regs ∧ u.arr = s.arr)) ∧
  (∀ (t : TableId) (q h : Nat) (s : State), s.up = true → s.pair.up = true →
    Runs (.applied t q h) s (fun u => u.pair.awaitApplied =
      s.pair.awaitApplied.filter (fun e => !(e.1 == t.val && decide (e.2.1 ≤ q))))) ∧
  (∀ (q : Nat) (b : MutBody) (h : Nat) (s : State), s.up = true → s.pair.up = true →
    s.pair.awaitDone = [(q, .cmdPath)] → s.pair.mirIn = [] →
    (b.status.toNat ≠ St.success ∨ (s.isCascade (s.f fMaintTable) = false ∧ s.isMirror (s.f fMaintTable) = false ∧
      s.maintReq.opcode ≠ 0x13)) →
    exec (.mutDone q b h) s = .next (({ s with pair := { s.pair with awaitDone := [] } }).resolve .cmdPath
      (mutOutc b (s.f fMaintTable) (if h = 0 then 0 else (s.localTick h).toNat)))) ∧
  (∀ (q a : Nat) (c : Id12) (l1 l2 : Line) (s : State), s.up = true → s.pair.up = true → s.pst = .paired → s.pair.fwdIn = [] →
    s.gate (hTable l1) = .go → hOp l1 = 0x16 →
    exec (.fwdMut q c a l1 l2) s = .next (s.doLock (.fwd q) (8192 + c.val)
      { n := q, slots := 2, accept := a, opcode := hOp l1, table := hTable l1, flags := hFlags l1, tag := hTag l1,
        slot1 := l1, slot2 := l2 }))

/-- With the link up: MEM_ACK ends the write that waits for it and answers its source; a MIRROR copy that is served is acknowledged; a joiner writes the four lines of a RESYNC_BLOCK; a redirected read is answered with this member's line and its poison mark; the answer to a redirected read completes the oldest request for the line; PAGE_REQ sends back the 16 blocks of the page; a PAGE_BLOCK of the page under copy leaves every byte of memory outside its 256 bytes as it was and marks the block as arrived; away of a PAIRED pair takes up the regions of REGION_LIST; RESYNC_DONE makes a joiner PAIRED with the epoch it carries. -/
def Obligations.MirroredMemoryMessagesAct : Prop :=
  (∀ (q : Nat) (w : MemWait) (s : State), s.up = true → s.pair.up = true → s.pair.memWait = [w] → w.seq = q → w.fwd = false →
    exec (.memAck q) s = .next (({ s with pair := { s.pair with memWait := [] } }).cmpWait w)) ∧
  (∀ (d : Dpa) (k : BitVec 64) (q : Nat) (x : Line) (s : State), s.up = true → s.pair.up = true → s.pst = .paired →
    (s.probePage (d.toNat / 4096)).pageHeld (d.toNat / 4096) = false → (s.probePage (d.toNat / 4096)).tier.hold = [] →
    ((s.probePage (d.toNat / 4096)).writePage d.toNat x k 0 0).2 = .served → s.pair.memWait = [] →
    exec (.memWrMsg true d k q x) s = .next (((s.probePage (d.toNat / 4096)).writePage d.toNat x k 0 0).1.linkSend (.memAck q))) ∧
  (∀ (pg : BitVec 32) (b : Fin 16) (x : BitVec 2048) (s : State), s.up = true → s.pair.up = true → s.joining = true →
    exec (.resyncBlock pg b x) s = .next ((s.probePage pg.toNat).putBlock pg.toNat b.val x)) ∧
  (∀ (d : Dpa) (x : Line) (s u : State), s.up = true → s.pair.up = true → s.pst = .paired →
    u = (s.probePage (d.toNat / 4096)).readLine 2 0 (d.toNat / 64 * 64) →
    exec (.rdrReq false d x) s = .next (u.linkSend (.rdrRsp d.toNat (some ((u.readOut d.toNat).getD 0)) (u.poisoned d.toNat))) ∧
      u.mem = s.mem) ∧
  (∀ (d : Dpa) (x : Line) (p : Bool) (i : Instr) (q : MReq) (s : State), s.up = true → s.pair.up = true →
    s.pair.rdr = [(d.toNat, i)] → memReq i = some q → q.write = false →
    exec (.rdrRsp d (some x) p) s = .next (({ s with pair := { s.pair with rdr := [] } }).answerData q.ld q.tag x p
      (some (s.chanOf d.toNat)))) ∧
  (∀ (pg : BitVec 32) (s : State), s.up = true → s.pair.up = true → s.pst = .paired →
    Runs (.pageReq pg) s (fun t => t.pair.waiting = s.pair.waiting ++
      (List.range 16).map (fun i => .pageBlock pg.toNat i (s.pageBlockOf pg.toNat i)) ∧ t.mem = s.mem)) ∧
  (∀ (pg : BitVec 32) (b : Fin 16) (x : BitVec 2048) (r : Retrain) (rest : List Nat) (s : State), s.up = true → s.pair.up = true →
    s.trn.retrain = some r → r.pages = pg.toNat :: rest → r.blocks ||| (1#16 <<< b.val) ≠ BitVec.allOnes 16 →
    Runs (.pageBlock pg b x) s (fun t => t.trn.retrain = some { r with blocks := r.blocks ||| (1#16 <<< b.val) } ∧
      ∀ a, (a < 4096 * pg.toNat + 256 * b.val ∨ 4096 * pg.toNat + 256 * b.val + 256 ≤ a) → Mem.get t.mem a = Mem.get s.mem a)) ∧
  (∀ (rs : List RegionDef) (s : State), s.up = true → s.pair.up = true → s.joining = false → s.pst = .paired → s.isAway = true →
    exec (.regionList rs) s = .next (s.putRegions rs)) ∧
  (∀ (m : HelloMsg) (s : State), s.up = true → s.pair.up = true → s.joining = true →
    Runs (.resyncDone m) s (fun t => t.pst = .paired ∧ t.f fEpoch = m.epoch.toNat ∧ t.f fJoiner = 0 ∧ t.pair.journal = [] ∧
      t.pair.fresh = false))

/-- TRN_START without a sweep on a rank where the helpers may act begins a run with BUSY 1, and elsewhere is refused with REFUSED 1; TRAINING_RUN_DONE of a run without a sweep clears BUSY, ends the run and adds the bursts of each bit that differ from the expected pattern to its saturating counter; a delay write stores the two fields of a bit register of a rank in TRAINING and has no effect on a rank in use; DRC_TIMING is written before MAP_VALID only; CAL_SNAP takes the snapshot; a nudge is staged with PENDING when a step is coded, and a write while PENDING is 1 has no effect; at start-up a rank that passes training is READY and one that fails is retired with its channel; RESTORE_FACTORY erases both copies of the user store. -/
def Obligations.TrainingAndCalibrationCommandsAct : Prop :=
  (∀ (who : Who) (c : Fin 12) (w : Word) (s : State), s.up = true → s.mayBar0 who = true → bit w 63 = true →
    s.trnMay c.val (fld w 4 3) = true → s.f (fTrnBusy c.val) = 0 → bit (s.reg (chOff c.val 0x1108)) 63 = false →
    Runs (.trnStart who c w) s (fun t => t.f (fTrnBusy c.val) = 1 ∧
      SMap.get (fun _ => none) t.trn.runs c.val =
        some { rank := fld w 4 3, ctrl := w, sweep := s.reg (chOff c.val 0x1108), saved := none } ∧ t.dram = s.dram)) ∧
  (∀ (who : Who) (c : Fin 12) (w : Word) (s : State), s.up = true → s.mayBar0 who = true → bit w 63 = true →
    s.trnMay c.val (fld w 4 3) = false → exec (.trnStart who c w) s = .next (s.setF (fTrnRefused c.val) 1)) ∧
  (∀ (c : Fin 12) (rd : List (List (BitVec 80))) (r : TrnRun) (s : State), s.up = true →
    SMap.get (fun _ => none) s.trn.runs c.val = some r → r.saved = none →
    Runs (.trainingRunDone c rd) s (fun t => t.f (fTrnBusy c.val) = 0 ∧ SMap.get (fun _ => none) t.trn.runs c.val = none ∧
      ∀ b < 80, t.f (fBitErr c.val b) = min (s.f (fBitErr c.val b) + mismatches r.ctrl rd 0 b) (2 ^ 32 - 1))) ∧
  (∀ (who : Who) (c : Fin 12) (k : Fin 8) (i : Fin 80) (w : Word) (s : State), s.up = true → s.mayBar0 who = true →
    s.f (fRstate c.val k.val) = 4 →
    exec (.dlyWrite who c true k i w) s = .next (s.setReg (chOff c.val (0x3000 + 0x400 * k.val + 8 * i.val)) (w &&& 0x3f3f))) ∧
  (∀ (who : Who) (c : Fin 12) (b : Bool) (k : Fin 8) (i : Fin 80) (w : Word) (s : State), s.f fMapValid ≠ 0 →
    s.f (fRstate c.val k.val) ≠ 4 → exec (.dlyWrite who c b k i w) s = .next s) ∧
  (∀ (who : Who) (c : Fin 12) (j : Fin 2) (w : Word) (s : State), s.up = true → s.mayBar0 who = true → s.f fMapValid = 0 →
    exec (.drcTimingWrite who c j w) s = .next (s.setReg (chOff c.val (0x1000 + 8 * j.val)) (w &&& 0x03ff03ff03ff03ff))) ∧
  (∀ (who : Who) (c : Fin 12) (j : Fin 2) (w : Word) (s : State), s.f fMapValid ≠ 0 →
    exec (.drcTimingWrite who c j w) s = .next s) ∧
  (∀ (who : Who) (c : Fin 12) (s : State), s.up = true → s.mayBar0 who = true →
    exec (.calSnap who c) s = .next (s.snapshot c.val)) ∧
  (∀ (who : Who) (c : Fin 12) (k : Fin 8) (w : Word) (s : State), s.up = true → s.mayBar0 who = true →
    s.f (fNudgePend c.val k.val) = 0 → (List.range 20).any (fun i => nudgeStep (fld w (2 * i) 2) != 0) = true →
    exec (.calNudgeWrite who c k w) s = .next (s.setReg (offNudge c.val k.val) (putFld (w &&& 0xffffffffff) 63 1 1))) ∧
  (∀ (who : Who) (c : Fin 12) (k : Fin 8) (w : Word) (s : State), s.f (fNudgePend c.val k.val) ≠ 0 →
    exec (.calNudgeWrite who c k w) s = .next s) ∧
  (∀ (c : Fin 12) (k : Fin 8) (s : State), s.up = true → s.f fPhase = 2 → s.f fMapValid = 0 → s.f (fRstate c.val k.val) = 0 →
    s.restored c.val k.val = true →
    exec (.rankTrainingExit c k true) s = .next ((s.setF (fRstate c.val k.val) 1).rankFresh c.val k.val)) ∧
  (∀ (c : Fin 12) (k : Fin 8) (s : State), s.up = true → s.f fPhase = 2 → s.f fMapValid = 0 → s.f (fRstate c.val k.val) = 0 →
    exec (.rankTrainingExit c k false) s = .next ((s.rankFailed c.val k.val).bootChannelFailed c.val)) ∧
  (∀ (via : OwnerPath) (s : State), s.ownerRuns via = true →
    Runs (.restoreFactory via) s (fun t => EndsWith s t via 0x42 ∧ t.trn = { s.trn with copyA := none, copyB := none }))

/-- RANK_RETRAIN of a rank in use, with no other rank or retirement in progress, takes the partner path when its test holds (the rank is REDIRECTED) and the evacuation path otherwise when that test holds (the frames of the rank leave the free pool and it is EVACUATING), and runs on; with neither test it ends NO_ROOM. EVACUATION_DONE with no frame of the rank in use takes it to TRAINING. RESTORE_COPY_DONE with no page left takes it to use and ends the command with SUCCESS. -/
def Obligations.RetrainingCommandsAct : Prop :=
  (∀ (via : OwnerPath) (c k : Byte) (s : State), s.ownerRuns via = true → c.toNat < 12 → k.toNat < 8 →
    s.f (fRstate c.toNat k.toNat) = 1 → s.f (fChState c.toNat) = 0 → s.rankBusy = false → s.dram.retire = none →
    s.partnerOk k.toNat = true →
    Runs (.rankRetrain via c k 2) s (fun t => t.f (fRstate c.toNat k.toNat) = 3 ∧
      t.trn.retrain = some { via := via, chan := c.toNat, rank := k.toNat, partner := true } ∧
      t.mbox = { s.mbox with running := some via } ∧ t.tier = s.tier)) ∧
  (∀ (via : OwnerPath) (c k : Byte) (s : State), s.ownerRuns via = true → c.toNat < 12 → k.toNat < 8 →
    s.f (fRstate c.toNat k.toNat) = 1 → s.f (fChState c.toNat) = 0 → s.rankBusy = false → s.dram.retire = none →
    s.evacuateOk k.toNat = true →
    Runs (.rankRetrain via c k 1) s (fun t => t.f (fRstate c.toNat k.toNat) = 2 ∧
      t.trn.retrain = some { via := via, chan := c.toNat, rank := k.toNat, partner := false } ∧
      t.mbox = { s.mbox with running := some via })) ∧
  (∀ (via : OwnerPath) (c k p : Byte) (s : State), s.ownerRuns via = true → c.toNat < 12 → k.toNat < 8 → p.toNat < 3 →
    s.f (fRstate c.toNat k.toNat) = 1 → s.f (fChState c.toNat) = 0 → s.rankBusy = false → s.dram.retire = none →
    s.partnerOk k.toNat = false → s.evacuateOk k.toNat = false →
    exec (.rankRetrain via c k p) s = .next (s.ownerEnd via 0x41 St.noRoom)) ∧
  (∀ (r : Retrain) (s : State), s.up = true → s.trn.retrain = some r → s.f (fRstate r.chan r.rank) = 2 →
    s.usedIn (s.rankFrames r.rank) = [] →
    exec .evacuationDone s = .next (s.setF (fRstate r.chan r.rank) 4)) ∧
  (∀ (r : Retrain) (s : State), s.up = true → s.trn.retrain = some r → s.f (fRstate r.chan r.rank) = 5 → r.pages = [] →
    exec .restoreCopyDone s = .next ((s.setF (fRstate r.chan r.rank) 1).retrainEnd r))

/-- At the end of a refresh interval a live rank in a power state that refreshes owes four more refreshes, at most 255, and its interval starts anew; at its turn an MR4 read becomes due; a result that keeps the rate only clears the read; one that reaches the doubling code doubles the debt, and one that leaves it halves it rounded up. A rank idle for PD time enters power-down when self-refresh is not due sooner, one idle for SR time pays its debt and enters self-refresh, and one with a request queued leaves self-refresh owing nothing. An interval that has not ended, and a result with no read due, change nothing. -/
def Obligations.RefreshAndPowerCommandsAct : Prop :=
  (∀ (c : Fin 12) (k : Fin 8) (s : State), s.up = true → s.rankLive c.val k.val = true → s.f (fPstate c.val k.val) < 2 →
    (s.rk c.val k.val).due ≤ s.tick →
    exec (.refreshInterval c k) s = .next ((s.setF (fDebt c.val k.val) (min 255 (s.f (fDebt c.val k.val) + 4))).updRk c.val k.val
      (fun r => { r with due := r.due + max 1 (s.refInterval c.val k.val) }))) ∧
  (∀ (c : Fin 12) (k : Fin 8) (s : State), s.tick < (s.rk c.val k.val).due → exec (.refreshInterval c k) s = .next s) ∧
  (∀ (c : Fin 12) (k : Fin 8) (s : State), s.up = true → s.rankLive c.val k.val = true →
    s.tick % 8000000 = 83333 * (8 * c.val + k.val) % 8000000 →
    exec (.mr4ReadDue c k) s = .next (s.updRk c.val k.val (fun r => { r with mr4 := true }))) ∧
  (∀ (c : Fin 12) (k : Fin 8) (v : BitVec 3) (s : State), s.up = true → (s.rk c.val k.val).mr4 = true →
    s.rankLive c.val k.val = true → s.f (fPstate c.val k.val) < 2 →
    decide (s.f ⟨chOff c.val 0x18, 8, 3⟩ ≤ v.toNat) = (s.f (fDouble c.val k.val) == 1) →
    exec (.mr4Result c k v) s = .next (s.updRk c.val k.val (fun r => { r with mr4 := false }))) ∧
  (∀ (c : Fin 12) (k : Fin 8) (v : BitVec 3) (s : State), s.up = true → (s.rk c.val k.val).mr4 = true →
    s.rankLive c.val k.val = true → s.f (fPstate c.val k.val) < 2 → s.f ⟨chOff c.val 0x18, 8, 3⟩ ≤ v.toNat →
    s.f (fDouble c.val k.val) = 0 →
    Runs (.mr4Result c k v) s (fun t => t.f (fDouble c.val k.val) = 1 ∧
      t.f (fDebt c.val k.val) = min 255 (2 * s.f (fDebt c.val k.val)) ∧ (t.rk c.val k.val).mr4 = false)) ∧
  (∀ (c : Fin 12) (k : Fin 8) (v : BitVec 3) (s : State), (s.rk c.val k.val).mr4 = false →
    exec (.mr4Result c k v) s = .next s) ∧
  (∀ (c : Fin 12) (k : Fin 8) (s : State), s.up = true → s.f (fPstate c.val k.val) = 0 →
    s.idleFor c.val k.val (s.pdTime c.val) = true → (s.srTime c.val = 0 ∨ s.pdTime c.val < s.srTime c.val) →
    exec (.powerDownEnter c k) s = .next (s.setF (fPstate c.val k.val) 1)) ∧
  (∀ (c : Fin 12) (k : Fin 8) (s : State), s.up = true → s.f (fPstate c.val k.val) < 2 → 0 < s.srTime c.val →
    s.idleFor c.val k.val (s.srTime c.val) = true →
    exec (.selfRefreshEnter c k) s = .next ((s.payDebt c.val k.val).setF (fPstate c.val k.val) 2)) ∧
  (∀ (c : Fin 12) (k : Fin 8) (s : State), s.up = true → s.f (fPstate c.val k.val) = 2 → s.rankLive c.val k.val = true →
    s.rankQueued c.val k.val = true → s.f (fNudgePend c.val k.val) = 0 →
    Runs (.selfRefreshExit c k) s (fun t => t.f (fPstate c.val k.val) = 0 ∧ t.f (fDebt c.val k.val) = 0 ∧
      (t.rk c.val k.val).last = s.tick))

/-- The oldest issued read of an HDM line on a channel returns: a clean one of a host is answered with its data unpoisoned, and one of a marked line is counted and answered with poison. A scrub step with a clean line counts 64 bytes and moves to the next line, and with the scrubber off changes nothing. A MAP_VALID write before the map is valid stores the fields, and with the valid bit a good map makes the map valid and a bad one sets MAP_ERR; once the map is valid it changes nothing. A bandwidth-class write whose sum exceeds the usable bandwidth is an error, and otherwise the shares are computed anew. CHAN_RETIRE of a channel with nothing retired and room to evacuate withdraws the range and runs on; when the last granule is copied the channel is RETIRED. -/
def Obligations.DramReadMapAndRetireCommandsAct : Prop :=
  (∀ (c : Fin 12) (b : BitVec 10) (r : DReq) (s : State), s.up = true →
    s.dram.queue.find? (fun r => r.chan == c.val && r.stage == 2 && r.hdm.isSome) = some r → r.cls = 2 →
    s.eccOf (some r.dpa) r.poison .clean = some .clean →
    exec (.dramReadReturn c .clean b) s = .next (({ ((s.sampleBurst c.val r.rank r.sub b).answerData r.ld r.tag r.data false (some c.val)) with
      dram := { ((s.sampleBurst c.val r.rank r.sub b).answerData r.ld r.tag r.data false (some c.val)).dram with
        queue := ((s.sampleBurst c.val r.rank r.sub b).answerData r.ld r.tag r.data false (some c.val)).dram.queue.erase r } } : State).enterAll)) ∧
  (∀ (c : Fin 12) (e : Ecc) (b : BitVec 10) (r : DReq) (s : State), s.up = true → s.pins.fatal = false →
    s.dram.queue.find? (fun r => r.chan == c.val && r.stage == 2 && r.hdm.isSome) = some r → r.cls = 2 →
    s.eccOf (some r.dpa) r.poison e = some .mark →
    Runs (.dramReadReturn c e b) s (fun t => t.sent = s.sent ++ [.memData r.ld r.tag r.data true
        ((s.inc (fPoisonReads c.val)).devLoad r.ld (some c.val))] ∧
      t.f (fPoisonReads c.val) = min (s.f (fPoisonReads c.val) + 1) (2 ^ (fPoisonReads c.val).n - 1))) ∧
  (∀ (e : Ecc) (s : State), s.f ⟨0x3e0080, 0, 8⟩ = 0 → exec (.patrolScrub e) s = .next s) ∧
  (∀ (s : State), s.up = true → s.f ⟨0x3e0080, 0, 8⟩ ≠ 0 → s.f fMapValid = 1 →
    s.f (fChState (s.rawChan (64 * s.ras.scrub)).1) = 0 →
    s.f (fRstate (s.rawChan (64 * s.ras.scrub)).1 (s.fieldsOf (s.rawChan (64 * s.ras.scrub)).1
      (256 * (s.rawChan (64 * s.ras.scrub)).2 + (64 * s.ras.scrub) % 256)).rank) = 1 → s.f fRState = 0 →
    s.eccOf (s.dpaAt (64 * s.ras.scrub)) (match s.dpaAt (64 * s.ras.scrub) with | some d => s.poisoned d | none => false) .clean =
      some .clean →
    exec (.patrolScrub .clean) s = .next { (s.incMod ⟨chOff (s.rawChan (64 * s.ras.scrub)).1 0x140, 0, 64⟩ 64) with
      ras := { s.ras with scrub := if s.ras.scrub + 1 < 12 * s.chanBytes / 64 then s.ras.scrub + 1 else 0 } }) ∧
  (∀ (who : Who) (w : Word) (s : State), s.up = true → s.mayBar0 who = true → s.f fMapValid = 0 → bit w 63 = false →
    exec (.mapValidWrite who w) s =
      .next (((s.setF fRawBase (fld w 12 31)).setF fRankBits (fld w 10 2)).setF fRowBits (fld w 5 5))) ∧
  (∀ (who : Who) (w : Word) (s : State), s.up = true → s.mayBar0 who = true → s.f fMapValid = 0 → bit w 63 = true →
    s.f fRState = 0 →
    (((s.setF fRawBase (fld w 12 31)).setF fRankBits (fld w 10 2)).setF fRowBits (fld w 5 5)).mapOk = true →
    Runs (.mapValidWrite who w) s (fun t => t.f fMapValid = 1 ∧ t.f fRawBase = fld w 12 31 ∧ t.f fRowBits = fld w 5 5 ∧
      t.f fRankBits = fld w 10 2)) ∧
  (∀ (who : Who) (w : Word) (s : State), s.f fMapValid ≠ 0 → exec (.mapValidWrite who w) s = .next s) ∧
  (∀ (who : Who) (w : Word) (s : State), s.up = true → s.mayBar0 who = true →
    ((s.setF fScanMin (fld w 0 8)).setF fMaintMin (fld w 8 8)).qosS ≤ ((s.setF fScanMin (fld w 0 8)).setF fMaintMin (fld w 8 8)).qosU →
    exec (.qosClassWrite who w) s = .next ((s.setF fScanMin (fld w 0 8)).setF fMaintMin (fld w 8 8)).qosUpdate) ∧
  (∀ (via : OwnerPath) (c : Byte) (s : State), s.ownerRuns via = true → c.toNat < 12 → s.f fRState = 0 →
    s.evacOk s.retireFrom (12 * s.chanBytes) = true →
    Runs (.chanRetire via c) s (fun t => t.f fRState = 1 ∧ t.f fRChan = c.toNat ∧ t.f (fChState c.toNat) = 1 ∧
      t.dram = { s.dram with retire := some via } ∧ t.mbox = { s.mbox with running := some via })) ∧
  (∀ s : State, s.up = true → s.f fRState = 1 → s.retireBusy = true → exec .retireGranuleCopy s = .next s) ∧
  (∀ s : State, s.up = true → s.f fRState = 1 → s.retireBusy = false → s.f fRBound + 1 < s.granules - s.withdrawnK →
    exec .retireGranuleCopy s = .next (s.granuleMove (s.f fRBound))) ∧
  (∀ s : State, s.up = true → s.f fRState = 2 → s.granules - s.withdrawnK ≤ s.f fRBound + 1 →
    exec .retireGranuleCopy s = .next (s.granuleMove (s.f fRBound)).retireEnd)

/-- When firmware can run the command: DOMAIN_CREATE of a domain that is not enabled with a LOADED slot writes its entry; DOMAIN_DESTROY of a domain that nothing names clears it, and of one that is named is LOCKED; LD_MAP_SET with VALID for an enabled domain that breaks no sharing writes the 32 copies of the entry; WINDOW_MAP of a free 256 MiB unit adds the window segment and an unmap removes it; LD_MGMT_SET under a clear life-cycle lock sets BAR0_EN and POISON_INJ_EN and is LOCKED otherwise; CTX_ASSIGN of a DISABLED context to its LD's domain stores the assignment; CTX_DISABLE of an ENABLED context starts its drain and with RESET resets it; an unknown code ends MALFORMED. Each ends SUCCESS unless said otherwise and leaves the rest as stated. A command that R602 does not accept ends PRIVILEGE with no effect. -/
def Obligations.DomainAndLdOwnerCommandsAct : Prop :=
  (∀ (via : OwnerPath) (d k : BitVec 16) (s : State), s.ownerRuns via = true → d.toNat < 4096 → k.toNat < 4096 →
    s.domEnabled d.toNat = false → s.slotState k.toNat = 1 →
    exec (.domainCreate via d k) s =
      .next ((s.setDword (domAddr d.toNat) (BitVec.ofNat 64 (2 ^ 63 + k.toNat))).ownerEnd via 0x01 St.success)) ∧
  (∀ (via : OwnerPath) (d : BitVec 16) (s : State), s.ownerRuns via = true → d.toNat < 4096 → s.domNamed d.toNat = false →
    exec (.domainDestroy via d) s = .next ((s.setDword (domAddr d.toNat) 0).ownerEnd via 0x02 St.success)) ∧
  (∀ (via : OwnerPath) (d : BitVec 16) (s : State), s.ownerRuns via = true → d.toNat < 4096 → s.domNamed d.toNat = true →
    exec (.domainDestroy via d) s = .next (s.ownerEnd via 0x02 St.locked)) ∧
  (∀ (via : OwnerPath) (n : Byte) (d : BitVec 16) (s : State), s.ownerRuns via = true → n.toNat < 32 → d.toNat < 4096 →
    s.domEnabled d.toNat = true → s.sharesAcross n.toNat d.toNat = false →
    exec (.ldMapSet via n true d) s =
      .next ((s.setLdMap n.toNat (BitVec.ofNat 64 (2 ^ 63 + d.toNat))).ownerEnd via 0x03 St.success)) ∧
  (∀ (via : OwnerPath) (n : Byte) (o : BitVec 64) (s : State), s.ownerRuns via = true → n.toNat < 32 → o.toNat % unit256 = 0 →
    (s.ld n.toNat).segs = [] → (s.ld n.toNat).regions = [] →
    Runs (.windowMap via n true o) s (fun t => EndsWith s t via 0x04 ∧
      (t.ld n.toNat).segs = [{ off := o.toNat, dpa := s.winBase + n.toNat * unit256, len := unit256, kind := 2 }] ∧
      ∀ m, m ≠ n.toNat → t.ld m = s.ld m)) ∧
  (∀ (via : OwnerPath) (n : Byte) (o : BitVec 64) (s : State), s.ownerRuns via = true → n.toNat < 32 → o.toNat % unit256 = 0 →
    Runs (.windowMap via n false o) s (fun t => EndsWith s t via 0x04 ∧
      (t.ld n.toNat).segs = (s.ld n.toNat).segs.filter (fun g => g.kind != 2) ∧ ∀ m, m ≠ n.toNat → t.ld m = s.ld m)) ∧
  (∀ (via : OwnerPath) (n : Byte) (b i : Bool) (s : State), s.ownerRuns via = true → n.toNat < 32 → s.f fLcLock = 0 →
    Runs (.ldMgmtSet via n b i) s (fun t => EndsWith s t via 0x05 ∧ t.f (ldBar0 n.toNat) = (if b then 1 else 0) ∧
      t.f (ldInj n.toNat) = (if i then 1 else 0) ∧ ∀ o, o ≠ offLdCtrl n.toNat → t.reg o = s.reg o)) ∧
  (∀ (via : OwnerPath) (n : Byte) (b i : Bool) (s : State), s.ownerRuns via = true → n.toNat < 32 → s.f fLcLock = 1 →
    exec (.ldMgmtSet via n b i) s = .next (s.ownerEnd via 0x05 St.locked)) ∧
  (∀ (via : OwnerPath) (c d : BitVec 16) (st n p : Byte) (s : State), s.ownerRuns via = true → c.toNat < 4096 → d.toNat < 4096 →
    st.toNat < 2 → n.toNat < 32 → p.toNat < 8 → (s.cx c.toNat).state = 0 → s.ldValid n.toNat = true → s.ldDomain n.toNat = d.toNat →
    exec (.ctxAssign via c d st n p) s = .next ((s.updCx c.toNat (fun x =>
      { x with assigned := true, domain := d.toNat, steward := st == 1, ldid := n.toNat, sport := p.toNat })).ownerEnd
        via 0x10 St.success)) ∧
  (∀ (via : OwnerPath) (c : BitVec 16) (s : State), s.ownerRuns via = true → c.toNat < 4096 → (s.cx c.toNat).state = 1 →
    exec (.ctxDisable via c false) s = .next ((s.drain c.toNat false).ownerEnd via 0x11 St.success)) ∧
  (∀ (via : OwnerPath) (c : BitVec 16) (s : State), s.ownerRuns via = true → c.toNat < 4096 →
    exec (.ctxDisable via c true) s = .next ((s.resetCtx c.toNat).ownerEnd via 0x11 St.success)) ∧
  (∀ (via : OwnerPath) (code : BitVec 16) (s : State), s.ownerRuns via = true →
    exec (.ownerCmdUnknown via code) s = .next (s.ownerEnd via code.toNat St.malformed)) ∧
  (∀ (via : OwnerPath) (d k : BitVec 16) (s : State), s.up = true → s.fwFree = true → s.ownerOk via = false →
    exec (.domainCreate via d k) s = .next (s.ownerEnd via 0x01 St.privilege))

/-- TABLE_CAPTURE into pages of the table's domain that are long enough writes the table image and ends with its length; TIER_SET_POLICY from the steward writes TIER_DOM of its domain with the stated fields and no other register; TIER_PIN and TIER_UNPIN of RAW-capable pages of the domain change only the PIN of those pages' descriptors; TIER_OFFER within what may be offered presents the savings and ends with the length; KEY_ROTATE of an enabled domain to a LOADED slot begins the rotation, at its first step that has work left, and runs on; ROTATION_FINISH once the last step is reached ends it, erases the old slot and completes KEY_ROTATE. A steward command over the FM API ends PRIVILEGE. -/
def Obligations.CaptureTierAndKeyOwnerCommandsAct : Prop :=
  (∀ (via : OwnerPath) (t : TableId) (a n : BitVec 64) (s : State), s.ownerRuns via = true → (s.tb t.val).state ≠ 0 →
    a.toNat % 64 = 0 → a.toNat + n.toNat ≤ 2 ^ 44 →
    (List.range ((a.toNat % 4096 + n.toNat + 4095) / 4096)).all (fun i => s.pageOf (s.tb t.val).domain (a.toNat / 4096 + i)) = true →
    (s.tableImage t.val).length ≤ n.toNat →
    Runs (.tableCapture via t a n) s (fun u => u.mem = (s.deviceWrite 4 0 a.toNat (s.tableImage t.val)).mem ∧
      EndsWith s u via 0x24 (leBytes 8 (s.tableImage t.val).length))) ∧
  (∀ (ld : LdId) (c : BitVec 16) (d q : Bool) (lo hi : Byte) (s : State), s.up = true → s.fwFree = true → c.toNat < 4096 →
    s.stewardOk (.mailbox ld) c.toNat = true → lo.toNat < hi.toNat → hi.toNat ≤ 15 →
    exec (.tierSetPolicy (.mailbox ld) c d q lo hi) s =
      .next ((s.setReg (0x381000 + 8 * (s.cx c.toNat).domain) (BitVec.ofNat 64
        ((if q then 2 ^ 9 else 0) + (if d then 2 ^ 8 else 0) + hi.toNat * 16 + lo.toNat))).ownerEnd (.mailbox ld) 0x30 St.success)) ∧
  (∀ (b : Bool) (c : BitVec 16) (d q : Bool) (lo hi : Byte) (s : State), s.up = true → s.fwFree = true →
    exec (.tierSetPolicy (.fmApi b) c d q lo hi) s = .next (s.ownerEnd (.fmApi b) 0x30 St.privilege)) ∧
  (∀ (ld : LdId) (c : BitVec 16) (a : BitVec 64) (n : BitVec 32) (s : State), s.up = true → s.fwFree = true →
    s.pinBad (.mailbox ld) c.toNat a.toNat n.toNat = none →
    Runs (.tierPin (.mailbox ld) c a n) s (fun t => EndsWith s t (.mailbox ld) 0x31 ∧
      (∀ i < n.toNat, t.page (a.toNat / 4096 + i) = { s.page (a.toNat / 4096 + i) with pin := true }) ∧
      ∀ q, (q < a.toNat / 4096 ∨ a.toNat / 4096 + n.toNat ≤ q) → t.page q = s.page q)) ∧
  (∀ (ld : LdId) (c : BitVec 16) (a : BitVec 64) (n : BitVec 32) (s : State), s.up = true → s.fwFree = true →
    s.pinBad (.mailbox ld) c.toNat a.toNat n.toNat = none →
    Runs (.tierUnpin (.mailbox ld) c a n) s (fun t => EndsWith s t (.mailbox ld) 0x32 ∧
      (∀ i < n.toNat, t.page (a.toNat / 4096 + i) = { s.page (a.toNat / 4096 + i) with pin := false }) ∧
      ∀ q, (q < a.toNat / 4096 ∨ a.toNat / 4096 + n.toNat ≤ q) → t.page q = s.page q)) ∧
  (∀ (via : OwnerPath) (n r : Byte) (l : BitVec 64) (t : State) (s : State), s.ownerRuns via = true → n.toNat < 32 → r.toNat < 8 →
    l.toNat % unit256 = 0 → l.toNat / unit256 ≠ 0 → l.toNat / unit256 ≤ s.offerable →
    s.offer n.toNat r.toNat (l.toNat / unit256) 3 = some t →
    exec (.tierOffer via n r l) s = .next (t.ownerEnd via 0x33 St.success (leBytes 8 l.toNat))) ∧
  (∀ (via : OwnerPath) (d k : BitVec 16) (s : State), s.ownerRuns via = true → d.toNat < 4096 → k.toNat < 4096 →
    s.domEnabled d.toNat = true → s.tier.rot = none → s.slotState k.toNat = 1 →
    Runs (.keyRotate via d k) s (fun t => (∃ r, t.tier.rot = some r ∧ r.via = via ∧ r.dom = d.toNat ∧
        (r.step = 2 ∨ (r.step = 3 ∧ r.pages = []) ∨ (r.step = 4 ∧ r.pages = [] ∧ r.lines = []))) ∧
      t.mbox = { s.mbox with running := some via })) ∧
  (∀ (r : Rot) (s : State), s.up = true → s.ras.mpRunning = true → s.tier.rot = some r → 4 ≤ r.step →
    Runs .rotationFinish s (fun t => t.tier.rot = none ∧ t.key (s.domSlot r.dom) = none ∧ EndsWith s t r.via 0x34))

/-- While firmware runs: each information command of an LD's mailbox only sends its answer, Success with the stated payload (the CEL lists exactly the supported commands; GET_TIMESTAMP answers the last set value plus 2 ns for each tick since); CLEAR_EVENT_RECORDS drops the oldest records of the named log of that LD; SET_EVENT_INTERRUPT_POLICY and SET_TIMESTAMP store their operand in that LD; every other code answers Unsupported. Layouts and codes are the model's by log 15. -/
def Obligations.MailboxInformationCommandsAct : Prop :=
  (∀ (ld : LdId) (s : State), s.up = true → s.ras.mpRunning = true →
    exec (.identify ld) s = .next (s.mboxAns ld.val 0x0001 rcSuccess
      (leBytes 2 (s.f ⟨0, 0, 16⟩) ++ leBytes 2 0x8820 ++ leBytes 8 (s.reg 0x10).toNat))) ∧
  (∀ (ld : LdId) (s : State), s.up = true → s.ras.mpRunning = true →
    exec (.getSupportedLogs ld) s = .next (s.mboxAns ld.val 0x0400 rcSuccess (leBytes 2 1 ++ leBytes 4 42))) ∧
  (∀ (ld : LdId) (s : State), s.up = true → s.ras.mpRunning = true →
    exec (.getLog ld) s = .next (s.mboxAns ld.val 0x0401 rcSuccess (celOpcodes.flatMap (leBytes 2)))) ∧
  (∀ (ld : LdId) (log : Fin 5) (s : State), s.up = true → s.ras.mpRunning = true → log.val ≠ 4 →
    exec (.getEventRecords ld log) s = .next (s.mboxAns ld.val 0x0100 rcSuccess (leBytes 2 (num (s.ld ld.val).logOverflow log.val) ++
      (SMap.get (fun _ => []) (s.ld ld.val).logs log.val).flatMap (s.ld ld.val).evtBytes))) ∧
  (∀ (ld : LdId) (s : State), s.up = true → s.ras.mpRunning = true →
    exec (.getEventRecords ld 4) s = .next (s.mboxAns ld.val 0x0100 rcSuccess (leBytes 2 (num (s.ld ld.val).logOverflow 4) ++
      (s.ld ld.val).dcLog.flatMap (fun e => leBytes 1 e.1 ++ leBytes 8 e.2.1 ++ leBytes 8 e.2.2)))) ∧
  (∀ (ld : LdId) (n : Nat) (s : State), s.up = true → s.ras.mpRunning = true →
    Runs (.clearEventRecords ld 4 n) s (fun t => (t.ld ld.val).dcLog = (s.ld ld.val).dcLog.drop n ∧
      (t.ld ld.val).logs = (s.ld ld.val).logs ∧ (∀ m, m ≠ ld.val → t.ld m = s.ld m) ∧
      t.sent = s.sent ++ [.mbox ld.val 0x0101 rcSuccess []])) ∧
  (∀ (ld : LdId) (log : Fin 5) (n : Nat) (s : State), s.up = true → s.ras.mpRunning = true → log.val ≠ 4 →
    Runs (.clearEventRecords ld log n) s (fun t => (t.ld ld.val).logs = SMap.set (fun _ => []) (s.ld ld.val).logs log.val
      ((SMap.get (fun _ => []) (s.ld ld.val).logs log.val).drop n) ∧ (t.ld ld.val).dcLog = (s.ld ld.val).dcLog ∧
      (∀ m, m ≠ ld.val → t.ld m = s.ld m) ∧ t.sent = s.sent ++ [.mbox ld.val 0x0101 rcSuccess []])) ∧
  (∀ (ld : LdId) (s : State), s.up = true → s.ras.mpRunning = true →
    exec (.getEventInterruptPolicy ld) s =
      .next (s.mboxAns ld.val 0x0102 rcSuccess (leBytes 5 (s.ld ld.val).policy.toNat))) ∧
  (∀ (ld : LdId) (p : BitVec 40) (s : State), s.up = true → s.ras.mpRunning = true →
    exec (.setEventInterruptPolicy ld p) s =
      .next ((s.updLd ld.val (fun l => { l with policy := p })).mboxAns ld.val 0x0103 rcSuccess)) ∧
  (∀ (ld : LdId) (s : State), s.up = true → s.ras.mpRunning = true →
    exec (.getTimestamp ld) s = .next (s.mboxAns ld.val 0x0300 rcSuccess
      (leBytes 8 ((s.ld ld.val).tsBase + 2 * (s.tick - (s.ld ld.val).tsTick))))) ∧
  (∀ (ld : LdId) (ns : BitVec 64) (s : State), s.up = true → s.ras.mpRunning = true →
    Runs (.setTimestamp ld ns) s (fun t => t.stampNs ld.val = ns.toNat ∧ t.tick = s.tick ∧ (∀ m, m ≠ ld.val → t.ld m = s.ld m))) ∧
  (∀ (ld : LdId) (s : State), s.up = true → s.ras.mpRunning = true →
    Runs (.getHealthInfo ld) s (fun t => ∃ ce ue, t = s.mboxAns ld.val 0x4200 rcSuccess
      (leBytes 1 0 ++ leBytes 2 (s.f ⟨0xc08, 0, 16⟩) ++ leBytes 4 ce ++ leBytes 4 ue))) ∧
  (∀ (ld : LdId) (s : State), s.up = true → s.ras.mpRunning = true →
    exec (.identifyMemoryDevice ld) s = .next (s.mboxAns ld.val 0x4000 rcSuccess
      (leBytes 8 ((s.ld ld.val).static / unit256) ++ leBytes 8 ((s.ld ld.val).static / unit256) ++ leBytes 8 0 ++ leBytes 4 0 ++
        leBytes 8 0 ++ leBytes 2 256))) ∧
  (∀ (ld : LdId) (code : BitVec 16) (s : State), s.up = true → s.ras.mpRunning = true →
    exec (.unsupportedMailboxCmd ld code) s = .next (s.mboxAns ld.val code.toNat rcUnsupported)) ∧
  (∀ (ld : LdId) (ns : BitVec 64) (s : State), s.ras.mpRunning = false → exec (.setTimestamp ld ns) s = .next s)

/-- While firmware runs: GET_POISON_LIST, GET_DYNAMIC_CAPACITY_CONFIG and GET_DYNAMIC_CAPACITY_EXTENTS only send their answers; INJECT_POISON and CLEAR_POISON are Unsupported while POISON_INJ_EN is 0 and otherwise poison a mapped line, or write the supplied line in full, unmark it and remove its record; a Dynamic Capacity response that accepts known offers puts exactly those into the segment map and drops the other offers, and one that names an unknown extent changes nothing; a release by the host of an extent that no directory entry covers removes it from the segment map; a region is set when its base and length are aligned and clear of everything else; an add offers the extents, with Resources where there is no room; a release without the forced flag asks the host, a forced one takes effect at once. -/
def Obligations.PoisonAndDynamicCapacityCommandsAct : Prop :=
  (∀ (ld : LdId) (s : State), s.up = true → s.ras.mpRunning = true → (s.ld ld.val).poisonOvf = none →
    exec (.getPoisonList ld) s = .next (s.mboxAns ld.val 0x4300 rcSuccess (leBytes 1 0 ++ leBytes 8 0 ++
      leBytes 2 (s.ld ld.val).poison.length ++ (s.ld ld.val).poison.flatMap (leBytes 8)))) ∧
  (∀ (ld : LdId) (k : Nat) (s : State), s.up = true → s.ras.mpRunning = true → (s.ld ld.val).poisonOvf = some k →
    exec (.getPoisonList ld) s = .next (s.mboxAns ld.val 0x4300 rcSuccess (leBytes 1 1 ++
      leBytes 8 ((s.ld ld.val).tsBase + 2 * (k - (s.ld ld.val).tsTick)) ++
      leBytes 2 (s.ld ld.val).poison.length ++ (s.ld ld.val).poison.flatMap (leBytes 8)))) ∧
  (∀ (ld : LdId) (o : BitVec 64) (d : Nat) (s : State), s.up = true → s.ras.mpRunning = true → s.f (ldInj ld.val) = 1 →
    (s.ld ld.val).dpaOf o.toNat = some d →
    exec (.injectPoison ld o) s = .next ((s.poisonLine (d / 64 * 64)).mboxAns ld.val 0x4301 rcSuccess)) ∧
  (∀ (ld : LdId) (o : BitVec 64) (d : Nat) (x : Line) (s : State), s.up = true → s.ras.mpRunning = true →
    s.f (ldInj ld.val) = 1 → (s.ld ld.val).dpaOf o.toNat = some d →
    exec (.clearPoison ld o x) s =
      .next ((((s.deviceLine 2 ld.val (d / 64 * 64) x (BitVec.allOnes 64)).setPoison d false).dropPoison d).mboxAns ld.val 0x4302 rcSuccess)) ∧
  (∀ (ld : LdId) (o : BitVec 64) (x : Line) (s : State), s.up = true → s.ras.mpRunning = true → s.f (ldInj ld.val) = 0 →
    exec (.injectPoison ld o) s = .next (s.mboxAns ld.val 0x4301 rcUnsupported) ∧
    exec (.clearPoison ld o x) s = .next (s.mboxAns ld.val 0x4302 rcUnsupported)) ∧
  (∀ (ld : LdId) (o : BitVec 64) (x : Line) (s : State), s.up = true → s.ras.mpRunning = true → s.f (ldInj ld.val) = 1 →
    (s.ld ld.val).dpaOf o.toNat = none →
    exec (.injectPoison ld o) s = .next (s.mboxAns ld.val 0x4301 rcInvalidInput) ∧
    exec (.clearPoison ld o x) s = .next (s.mboxAns ld.val 0x4302 rcInvalidInput)) ∧
  (∀ (ld : LdId) (s : State), s.up = true → s.ras.mpRunning = true →
    exec (.getDynamicCapacityConfig ld) s = .next (s.mboxAns ld.val 0x4800 rcSuccess
      ((s.ld ld.val).regions.flatMap (fun e => leBytes 1 e.1 ++ leBytes 8 e.2.1 ++ leBytes 8 e.2.2 ++ leBytes 8 unit256)))) ∧
  (∀ (ld : LdId) (s : State), s.up = true → s.ras.mpRunning = true →
    exec (.getDynamicCapacityExtents ld) s = .next (s.mboxAns ld.val 0x4801 rcSuccess
      (((s.ld ld.val).segs.filter (fun g => g.kind == 1 || g.kind == 3)).flatMap (fun g => leBytes 8 g.off ++ leBytes 8 g.len)))) ∧
  (∀ (ld : LdId) (l : List (BitVec 64)) (s : State), s.up = true → s.ras.mpRunning = true →
    l.all (fun a => (s.ld ld.val).offers.any (fun g => a.toNat == g.off)) = true →
    Runs (.addDynamicCapacityResponse ld l) s (fun t => (t.ld ld.val).offers = [] ∧ (t.ld ld.val).segs = (s.ld ld.val).segs ++
      (s.ld ld.val).offers.filter (fun g => l.any (fun a => a.toNat == g.off)) ∧
      (∀ m, m ≠ ld.val → t.ld m = s.ld m) ∧ t.sent = s.sent ++ [.mbox ld.val 0x4802 rcSuccess []])) ∧
  (∀ (ld : LdId) (l : List (BitVec 64)) (s : State), s.up = true → s.ras.mpRunning = true →
    l.all (fun a => (s.ld ld.val).offers.any (fun g => a.toNat == g.off)) = false →
    exec (.addDynamicCapacityResponse ld l) s = .next (s.mboxAns ld.val 0x4802 rcInvalidInput)) ∧
  (∀ (ld : LdId) (o : BitVec 64) (g : Seg) (s : State), s.up = true → s.ras.mpRunning = true →
    (s.ld ld.val).segs.find? (fun x => x.off == o.toNat) = some g → (g.kind = 1 ∨ g.kind = 3) → s.dirCovers g = [] →
    exec (.releaseDynamicCapacity ld o) s = .next ((s.unmapSeg ld.val g).mboxAns ld.val 0x4803 rcSuccess)) ∧
  (∀ (ld : LdId) (r : Fin 8) (b n : BitVec 64) (s : State), s.up = true → s.ras.mpRunning = true →
    b.toNat % unit256 = 0 → n.toNat % unit256 = 0 → runsMeet b.toNat n.toNat 0 (s.ld ld.val).static = false →
    (∀ e ∈ (s.ld ld.val).regions, e.1 = r.val ∨ runsMeet b.toNat n.toNat e.2.1 e.2.2 = false) →
    (∀ g ∈ (s.ld ld.val).segs, g.kind = 2 → runsMeet b.toNat n.toNat g.off g.len = false) →
    exec (.setDcRegionConfig ld r b n) s = .next ((s.updLd ld.val (fun l =>
      { l with regions := SMap.set (fun _ => (0, 0)) l.regions r.val (b.toNat, n.toNat) })).fmAns 0x5602 rcSuccess)) ∧
  (∀ (ld : LdId) (r : Fin 8) (n : BitVec 64) (t s : State), s.up = true → s.ras.mpRunning = true → n.toNat % unit256 = 0 →
    n.toNat / unit256 ≠ 0 → (s.ld ld.val).regions.all (fun e => e.1 != r.val) = false → n.toNat / unit256 ≤ s.allocatable →
    s.offer ld.val r.val (n.toNat / unit256) 1 = some t → exec (.initiateDcAdd ld r n) s = .next (t.fmAns 0x5604 rcSuccess)) ∧
  (∀ (ld : LdId) (r : Fin 8) (n : BitVec 64) (s : State), s.up = true → s.ras.mpRunning = true → n.toNat % unit256 = 0 →
    n.toNat / unit256 ≠ 0 → (s.ld ld.val).regions.all (fun e => e.1 != r.val) = false →
    (s.allocatable < n.toNat / unit256 ∨ s.offer ld.val r.val (n.toNat / unit256) 1 = none) →
    exec (.initiateDcAdd ld r n) s = .next (s.fmAns 0x5604 rcResources)) ∧
  (∀ (ld : LdId) (o : BitVec 64) (g : Seg) (s : State), s.up = true → s.ras.mpRunning = true →
    (s.ld ld.val).segs.find? (fun x => x.off == o.toNat && (x.kind == 1 || x.kind == 3)) = some g →
    exec (.initiateDcRelease ld o false) s = .next ((s.askRelease ld.val g.off g.len).fmAns 0x5605 rcSuccess) ∧
    exec (.initiateDcRelease ld o true) s = .next (((s.dcEvent ld.val 2 g.off g.len).releaseStep ld.val g.off).fmAns 0x5605 rcSuccess))

/-- While firmware runs: SET_LD_ALLOCATIONS that raises an allocation with room and no clash maps free units in ascending order behind the present ones, and a clash is Invalid Input with nothing changed; BIND_LD and SET_QOS_ALLOCATED_BW take effect and recompute U, S and the effective minimums when S stays within U, and are Invalid Input with nothing changed otherwise; UNBIND_LD unbinds, drains the LD's contexts and frees the mailbox it holds; SET_QOS_BW_LIMIT stores the cap and nothing else; SET_QOS_CONTROL stores and returns its fields; GET_MULTI_HEADED_INFO reports 2 heads of 16 LDs; another supported code is Success, an unsupported one Unsupported. An owner command in 0xC820 with a good header arrives at the end of the queue with this tick; a bad header is Invalid Input, a wrong length Invalid Payload Length. -/
def Obligations.FmApiCommandsAct : Prop :=
  (∀ (ld : LdId) (n : BitVec 16) (cur : Nat) (s : State), s.up = true → s.ras.mpRunning = true →
    (s.ld ld.val).static / unit256 = cur → cur ≤ n.toNat →
    (∀ g ∈ (s.ld ld.val).segs, g.kind ≠ 0 → runsMeet (cur * unit256) ((n.toNat - cur) * unit256) g.off g.len = false) →
    (∀ e ∈ (s.ld ld.val).regions, runsMeet (cur * unit256) ((n.toNat - cur) * unit256) e.2.1 e.2.2 = false) →
    n.toNat - cur ≤ (s.freeUnits (n.toNat - cur)).length → n.toNat - cur ≤ s.allocatable →
    (s.ld ld.val).segs.length + (mkSegs 0 (((List.range (n.toNat - cur)).map (fun i => (cur + i) * unit256)).zip
      (s.freeUnits (n.toNat - cur)))).length ≤ 1024 →
    Runs (.setLdAllocations ld n) s (fun t => (t.ld ld.val).segs = (s.ld ld.val).segs ++
        mkSegs 0 (((List.range (n.toNat - cur)).map (fun i => (cur + i) * unit256)).zip (s.freeUnits (n.toNat - cur))) ∧
      (∀ m, m ≠ ld.val → t.ld m = s.ld m) ∧
      t.sent = s.sent ++ [.fm 0x5402 rcSuccess (leBytes 8 ((t.ld ld.val).static / unit256))])) ∧
  (∀ (ld : LdId) (n : BitVec 16) (g : Seg) (s : State), s.up = true → s.ras.mpRunning = true →
    (s.ld ld.val).static / unit256 ≤ n.toNat → g ∈ (s.ld ld.val).segs → g.kind ≠ 0 →
    runsMeet ((s.ld ld.val).static / unit256 * unit256) ((n.toNat - (s.ld ld.val).static / unit256) * unit256) g.off g.len = true →
    exec (.setLdAllocations ld n) s =
      .next (s.fmAns 0x5402 rcInvalidInput (leBytes 8 ((s.ld ld.val).static / unit256)))) ∧
  (∀ (ld : LdId) (s : State), s.up = true → s.ras.mpRunning = true → s.f (ldBound ld.val) = 0 →
    (s.f (fQMin ld.val) = 0 ∨ s.qosS + s.f (fQMin ld.val) ≤ s.qosU) →
    exec (.bindLd ld) s = .next (((s.setF (ldBound ld.val) 1).qosUpdate).fmAns 0x5201 rcSuccess)) ∧
  (∀ (ld : LdId) (s : State), s.up = true → s.ras.mpRunning = true → s.f (ldBound ld.val) = 0 →
    s.f (fQMin ld.val) ≠ 0 → s.qosU < s.qosS + s.f (fQMin ld.val) →
    exec (.bindLd ld) s = .next (s.fmAns 0x5201 rcInvalidInput)) ∧
  (∀ (ld : LdId) (s : State), s.up = true → s.ras.mpRunning = true → s.mbox.holder ≠ some ld →
    Runs (.unbindLd ld) s (fun t => t = ((((s.setF (ldBound ld.val) 0).drainLd ld.val false).qosUpdate)).fmAns 0x5202 rcSuccess ∧
      t.f (ldBound ld.val) = 0)) ∧
  (∀ (ld : LdId) (s : State), s.up = true → s.ras.mpRunning = true → s.mbox.holder = some ld → s.mbox.arrived = none →
    Runs (.unbindLd ld) s (fun t => t.mbox.holder = none ∧ t.f (ldBound ld.val) = 0)) ∧
  (∀ (ld : LdId) (m : Byte) (s : State), s.up = true → s.ras.mpRunning = true →
    (s.setF (fQMin ld.val) m.toNat).qosS ≤ s.qosU →
    exec (.setQosAllocatedBw ld m) s = .next (((s.setF (fQMin ld.val) m.toNat).qosUpdate).fmAns 0x5407 rcSuccess)) ∧
  (∀ (ld : LdId) (m : Byte) (s : State), s.up = true → s.ras.mpRunning = true →
    s.qosU < (s.setF (fQMin ld.val) m.toNat).qosS →
    exec (.setQosAllocatedBw ld m) s = .next (s.fmAns 0x5407 rcInvalidInput)) ∧
  (∀ (ld : LdId) (c : Byte) (s : State), s.up = true → s.ras.mpRunning = true →
    Runs (.setQosBwLimit ld c) s (fun t => t.f (fQCap ld.val) = c.toNat ∧ t.f (fQMin ld.val) = s.f (fQMin ld.val) ∧
      (∀ o, o ≠ 0x2f0200 + 8 * ld.val → t.reg o = s.reg o))) ∧
  (∀ (a b c : Byte) (s : State), s.up = true → s.ras.mpRunning = true →
    exec (.setQosControl a b c) s =
      .next (({ s with prt := { s.prt with qosEnables := a.toNat, qosEgress := b.toNat, qosInterval := c.toNat } }).fmAns
        0x5404 rcSuccess (leBytes 1 a.toNat ++ leBytes 1 b.toNat ++ leBytes 1 c.toNat))) ∧
  (∀ (s : State), s.up = true → s.ras.mpRunning = true →
    exec .getMultiHeadedInfo s = .next (s.fmAns 0x5500 rcSuccess (leBytes 1 32 ++ leBytes 1 2 ++ leBytes 1 16 ++ leBytes 1 16))) ∧
  (∀ (c : BitVec 16) (s : State), s.up = true → s.ras.mpRunning = true → fmSupported c.toNat = true →
    exec (.fmApiOtherCommand c) s = .next (s.fmAns c.toNat rcSuccess (s.fmReport c.toNat))) ∧
  (∀ (c : BitVec 16) (s : State), s.up = true → s.ras.mpRunning = true → fmSupported c.toNat = false →
    exec (.fmApiOtherCommand c) s = .next (s.fmAns c.toNat rcUnsupported)) ∧
  (∀ (p : List Byte) (b : Bool) (s : State), s.up = true → le p 0 2 = 0x4149 → le p 2 1 = 1 → le p 3 1 = 0 → le p 6 2 ≤ 1024 →
    p.length = 8 + le p 6 2 → s.mbox.fm.length < 16 →
    exec (.fmApiOwnerCommand p b) s = .next { s with mbox := { s.mbox with fm := s.mbox.fm ++ [(p, b, s.tick)] } }) ∧
  (∀ (p : List Byte) (b : Bool) (s : State), s.up = true →
    (le p 0 2 ≠ 0x4149 ∨ le p 2 1 ≠ 1 ∨ le p 3 1 ≠ 0 ∨ 1024 < le p 6 2) →
    exec (.fmApiOwnerCommand p b) s = .next (s.fmAns 0xC820 rcInvalidInput)) ∧
  (∀ (p : List Byte) (b : Bool) (s : State), s.up = true → le p 0 2 = 0x4149 → le p 2 1 = 1 → le p 3 1 = 0 → le p 6 2 ≤ 1024 →
    p.length ≠ 8 + le p 6 2 → exec (.fmApiOwnerCommand p b) s = .next (s.fmAns 0xC820 rcPayloadLength))

/-- A MemRd, MemRdData, MemWr or MemWrPtl of an LD whose port takes requests and whose map entry is valid, and whose HPA reaches a DPA: in the window range goes to the context engine; through an HDM-DB decoder to the directory path with its class (when no mirrored region holds the line); otherwise to the placement stage. There, with nothing else waiting, a lookup slot of the tick left and the line stored under the key of its page: a write to a UNIFORM page stores exactly the masked bytes of the line and is answered Cmp, and no other byte changes; a read of an UNWRITTEN PAGED page that is cached is answered at once with the line and its poison state. -/
def Obligations.MemoryRequestsReachTheirLine : Prop :=
  (∀ (ld : LdId) (h : BitVec 64) (m : Meta) (tag : BitVec 16) (d : Nat) (s : State), s.up = true →
    s.reaches ld.val h.toNat d false → s.inWindow d = false →
    exec (.memrd ld h m tag) s = .next ((s.readLdMap ld.val).place d (.memrd ld h m tag) false) ∧
    exec (.memrddata ld h m tag) s = .next ((s.readLdMap ld.val).place d (.memrddata ld h m tag) false)) ∧
  (∀ (ld : LdId) (h : BitVec 64) (m : Meta) (x : Line) (k : BitVec 64) (tag : BitVec 16) (d : Nat) (s : State), s.up = true →
    s.reaches ld.val h.toNat d false → s.inWindow d = false →
    exec (.memwr ld h m x tag) s = .next ((s.readLdMap ld.val).place d (.memwr ld h m x tag) false) ∧
    exec (.memwrptl ld h m x k tag) s = .next ((s.readLdMap ld.val).place d (.memwrptl ld h m x k tag) false)) ∧
  (∀ (ld : LdId) (h : BitVec 64) (m : Meta) (x : Line) (tag : BitVec 16) (d : Nat) (s : State), s.up = true →
    s.reaches ld.val h.toNat d true → s.inWindow d = false → s.mirRegion d = none →
    exec (.memrd ld h m tag) s = .next ((s.readLdMap ld.val).dirEnter ld.val d (.mem (metaCls m) (.memrd ld h m tag)) false) ∧
    exec (.memwr ld h m x tag) s = .next ((s.readLdMap ld.val).dirEnter ld.val d (.mem 3 (.memwr ld h m x tag)) false)) ∧
  (∀ (ld : LdId) (h : BitVec 64) (m : Meta) (x : Line) (k : BitVec 64) (tag : BitVec 16) (d : Nat) (b : Bool) (s : State), s.up = true →
    s.reaches ld.val h.toNat d b → s.inWindow d = true →
    exec (.memrd ld h m tag) s = .next ((s.readLdMap ld.val).windowReq d ⟨ld.val, tag.toNat, false, 0, 0⟩) ∧
    exec (.memwrptl ld h m x k tag) s = .next ((s.readLdMap ld.val).windowReq d ⟨ld.val, tag.toNat, true, x, k⟩)) ∧
  (∀ (ld : LdId) (h : BitVec 64) (m : Meta) (x : Line) (k : BitVec 64) (tag : BitVec 16) (d b : Nat) (s : State), s.up = true →
    s.reaches ld.val h.toNat d false → s.inWindow d = false → s.region (d / 4096) = some (1, b) → s.quiet = true →
    s.mirRegion d = none → s.readWaits d (.memwrptl ld h m x k tag) = false → s.foreign d = none → s.trieSlots < 8 →
    Runs (.memwrptl ld h m x k tag) s (fun t =>
      (∀ i < 64, k.getLsbD i = true → Mem.get t.mem (d / 64 * 64 + i) = (bytesOf 64 x).getD i 0) ∧
      (∀ a, (a < d / 64 * 64 ∨ d / 64 * 64 + 64 ≤ a ∨ k.getLsbD (a - d / 64 * 64) = false) → Mem.get t.mem a = Mem.get s.mem a) ∧
      ∃ dl, t.sent.getLast? = some (.cmp ld.val tag.toNat 0 dl))) ∧
  (∀ (ld : LdId) (h : BitVec 64) (m : Meta) (tag : BitVec 16) (d b : Nat) (s : State), s.up = true →
    s.reaches ld.val h.toNat d false → s.inWindow d = false → s.region (d / 4096) = some (2, b) → s.quiet = true →
    s.mirRegion d = none → s.readWaits d (.memrd ld h m tag) = false → s.foreign d = none → s.cached (d / 4096) = true →
    s.page (d / 4096) = {} →
    Runs (.memrd ld h m tag) s (fun t => t.mem = s.mem ∧
      ∃ dl, t.sent.getLast? = some (.memData ld.val tag.toNat (s.line (d / 64 * 64)) (s.poisoned d) dl)))

/-- A CXL.mem request of a valid LD whose decoder gives an LD offset that no segment covers: a read is answered with MemData with poison, a write with Cmp, and neither changes memory; CXLP_CNT.UNMAPPED of the port goes up by one, saturating, one event is raised, and the placement stage (its cache, pages, holds and misses) is as it was. -/
def Obligations.UnmappedRequestsNeverReachMemory : Prop :=
  ∀ (ld : LdId) (h : BitVec 64) (m : Meta) (x : Line) (k : BitVec 64) (tag : BitVec 16) (o : Nat) (b : Bool) (s : State),
    s.up = true → s.portTakes (ld.val / 16) = true → s.ldValid ld.val = true → (s.ld ld.val).decode h.toNat = some (o, b) →
    (s.ld ld.val).dpaOf o = none → flag s.dsram.bad (ldMapAddr ld.val (s.dsram.ldSeq % 32)) = false →
    (∀ c ∈ [Instr.memrd ld h m tag, Instr.memrddata ld h m tag], Runs c s (fun t =>
      (∃ data dl, t.sent.getLast? = some (.memData ld.val tag.toNat data true dl)) ∧ t.mem = s.mem ∧ t.tier = s.tier ∧
      t.f (fUnmapped (ld.val / 16)) = satAdd (2 ^ 32 - 1) (s.f (fUnmapped (ld.val / 16))) 1 ∧
      t.ras.evts = s.ras.evts + 1)) ∧
    (∀ c ∈ [Instr.memwr ld h m x tag, Instr.memwrptl ld h m x k tag], Runs c s (fun t =>
      (∃ dl, t.sent.getLast? = some (.cmp ld.val tag.toNat 0 dl)) ∧ t.mem = s.mem ∧ t.tier = s.tier ∧
      t.f (fUnmapped (ld.val / 16)) = satAdd (2 ^ 32 - 1) (s.f (fUnmapped (ld.val / 16))) 1 ∧
      t.ras.evts = s.ras.evts + 1))

/-- MemRdFwd, MemWrFwd, MemRdTEE, MemWrTEE and every reserved opcode, on a port that takes requests: a read-class request is answered with MemData with poison, a write-class one with Cmp, memory does not change, CXLP_CNT.UNSUPPORTED of the port goes up by one, saturating, and one event is raised. -/
def Obligations.UnsupportedRequestsAreCounted : Prop :=
  ∀ (ld : LdId) (op : BitVec 4) (tag : BitVec 16) (s : State), s.up = true → s.portTakes (ld.val / 16) = true →
    (∀ c ∈ [Instr.memrdfwd ld tag, Instr.memrdtee ld tag, Instr.reservedMemOpcode ld op true tag], Runs c s (fun t =>
      (∃ data dl, t.sent.getLast? = some (.memData ld.val tag.toNat data true dl)) ∧ t.mem = s.mem ∧
      t.f (fUnsupported (ld.val / 16)) = satAdd (2 ^ 32 - 1) (s.f (fUnsupported (ld.val / 16))) 1 ∧
      t.ras.evts = s.ras.evts + 1)) ∧
    (∀ c ∈ [Instr.memwrfwd ld tag, Instr.memwrtee ld tag, Instr.reservedMemOpcode ld op false tag], Runs c s (fun t =>
      (∃ dl, t.sent.getLast? = some (.cmp ld.val tag.toNat 0 dl)) ∧ t.mem = s.mem ∧
      t.f (fUnsupported (ld.val / 16)) = satAdd (2 ^ 32 - 1) (s.f (fUnsupported (ld.val / 16))) 1 ∧
      t.ras.evts = s.ras.evts + 1))

/-- For an HPA offset H within a committed decoder of granularity 2^g and W ways, the LD offset is the decoder's DPA base plus D, where D is ((H >> (g+k)) << g) or (H mod 2^g) for W = 2^k and (((H >> (g+k)) div 3) << g) or (H mod 2^g) for W = 3 × 2^k; and the segment that covers the LD offset turns it into a DPA. -/
def Obligations.DecodersComputeTheOffsetOfR345 : Prop :=
  (∀ (x : DecoderSet) (h k : Nat), h < x.size.toNat → k ≤ 3 → x.iw.val = 2 ^ k →
    decLdOffset x (x.base.toNat + h) = some (x.dpa.toNat + (((h >>> (x.ig.val + k)) <<< x.ig.val) ||| (h % 2 ^ x.ig.val)))) ∧
  (∀ (x : DecoderSet) (h k : Nat), h < x.size.toNat → k ≤ 2 → x.iw.val = 3 * 2 ^ k →
    decLdOffset x (x.base.toNat + h) =
      some (x.dpa.toNat + ((((h >>> (x.ig.val + k)) / 3) <<< x.ig.val) ||| (h % 2 ^ x.ig.val)))) ∧
  (∀ (l : Ld) (i : Fin 8) (x : DecoderSet) (a o : Nat), (l.decoder i.val).committed = true → (l.decoder i.val).set = some x →
    decLdOffset x a = some o → (∀ j < i.val, (l.decoder j).committed = false) → l.decode a = some (o, x.bi)) ∧
  (∀ (l : Ld) (g : Seg) (o : Nat), g ∈ l.segs → g.off ≤ o → o < g.off + g.len →
    (∀ q ∈ l.segs, q ≠ g → (o < q.off ∨ q.off + q.len ≤ o)) → l.dpaOf o = some (g.dpa + (o - g.off)))

/-- On a port that takes requests, from a valid LD: MemInv and MemInvNT of an HDM-H line are answered Cmp with no other effect, and of an HDM-DB line enter the directory path with the class of their MetaValue; MemSpecRd changes nothing; MemClnEvct is answered Cmp with no other effect; BIConflict is answered with BIConflictAck; a BIRsp to a snoop in flight, clean, completes that snoop, one with data first writes the line, and one to no snoop changes nothing. -/
def Obligations.CoherenceMessagesAct : Prop :=
  (∀ (ld : LdId) (h : BitVec 64) (m : Meta) (tag : BitVec 16) (d : Nat) (s : State), s.up = true →
    s.reaches ld.val h.toNat d false →
    exec (.meminv ld h m tag) s = .next ((s.readLdMap ld.val).answerCmp ld.val tag.toNat 0 none) ∧
    exec (.meminvnt ld h m tag) s = .next ((s.readLdMap ld.val).answerCmp ld.val tag.toNat 0 none)) ∧
  (∀ (ld : LdId) (h : BitVec 64) (m : Meta) (tag : BitVec 16) (d : Nat) (s : State), s.up = true →
    s.reaches ld.val h.toNat d true → s.mirRegion d = none →
    exec (.meminv ld h m tag) s = .next ((s.readLdMap ld.val).dirEnter ld.val d (.mem (metaCls m) (.meminv ld h m tag)) false) ∧
    exec (.meminvnt ld h m tag) s = .next ((s.readLdMap ld.val).dirEnter ld.val d (.mem (metaCls m) (.meminvnt ld h m tag)) false)) ∧
  (∀ (ld : LdId) (h : BitVec 64) (s : State), exec (.memspecrd ld h) s = .next s) ∧
  (∀ (ld : LdId) (h : BitVec 64) (tag : BitVec 16) (s : State), s.up = true → s.portTakes (ld.val / 16) = true →
    exec (.memclnevct ld h tag) s = .next (s.send (.cmp ld.val tag.toNat 0 (s.devLoad ld.val none)))) ∧
  (∀ (ld : LdId) (l : Dpa) (tag : BitVec 16) (s : State), s.up = true → s.portTakes (ld.val / 16) = true →
    exec (.biconflict ld l tag) s = .next (s.send (.biConflictAck ld.val tag.toNat))) ∧
  (∀ (ld : LdId) (l : Dpa) (s : State), s.up = true → s.portTakes (ld.val / 16) = true →
    s.dir.reqs.any (fun r => r.snoops.any (fun n => n.1 == ld.val && n.2.1 / 64 == l.toNat / 64)) = true →
    exec (.birspi ld l none) s = .next (s.snoopDone ld.val l.toNat) ∧
    exec (.birsps ld l none) s = .next (s.snoopDone ld.val l.toNat) ∧
    exec (.birspe ld l none) s = .next (s.snoopDone ld.val l.toNat)) ∧
  (∀ (ld : LdId) (l : Dpa) (x : Line) (s : State), s.up = true → s.portTakes (ld.val / 16) = true →
    s.dir.reqs.any (fun r => r.snoops.any (fun n => n.1 == ld.val && n.2.1 / 64 == l.toNat / 64)) = true →
    exec (.birspi ld l (some x)) s =
      .next ((s.deviceLine 2 ld.val (l.toNat / 64 * 64) x (BitVec.allOnes 64)).snoopDone ld.val l.toNat)) ∧
  (∀ (ld : LdId) (l : Dpa) (x : Option Line) (s : State),
    s.dir.reqs.any (fun r => r.snoops.any (fun n => n.1 == ld.val && n.2.1 / 64 == l.toNat / 64)) = false →
    exec (.birspi ld l x) s = .next s ∧ exec (.birsps ld l x) s = .next s ∧ exec (.birspe ld l x) s = .next s)

/-- A port that is down trains to the rate and width that the partner gives, unless the partner lacks 256 B flits (an event) or uses SRIS; a port in L0 is not retrained; losing L0, or PERST#, runs the port reset: the port's reads that are held for it are dropped, the other port's stay, and with PERST# the port stays in reset; a function-level reset resets the LD's contexts and ends its mailbox claim, and leaves its decoders and segment map, and HDM; a decoder commit of a supported HDM-H setting is committed, of a BI setting while table 255 is not OPEN it is refused with Commit Error, and a locked decoder is not changed; an IDE failure of an active stream sets FAILED and raises the event; keys come only by the stated paths in a session. -/
def Obligations.PortCommandsAct : Prop :=
  (∀ (p : HPort) (r : Fin 5) (w : Fin 3) (low : Bool) (s : State), s.up = true → s.f (fRate p.val) = 0 → r.val ≠ 0 →
    Runs (.linkTrain p r w true low false) s (fun t => t.f (fRate p.val) = r.val ∧ t.f (fWidth p.val) = lanesOf w.val ∧
      t.f (fFlit p.val) = (if low then 1 else 0) ∧ (t.port p.val).perst = false ∧ (∀ o, o ≠ offPort p.val → t.reg o = s.reg o))) ∧
  (∀ (p : HPort) (r : Fin 5) (w : Fin 3) (low : Bool) (s : State), s.up = true → s.f (fRate p.val) = 0 → r.val ≠ 0 →
    Runs (.linkTrain p r w false low false) s (fun t => t.f (fRate p.val) = 0 ∧ t.ras.evts = s.ras.evts + 1)) ∧
  (∀ (p : HPort) (r : Fin 5) (w : Fin 3) (fl low sris : Bool) (s : State), s.up = true → (s.f (fRate p.val) ≠ 0 ∨ sris = true) →
    Runs (.linkTrain p r w fl low sris) s (fun t => t.regs = s.regs ∧ (t.port p.val).sris = sris)) ∧
  (∀ (p : HPort) (s : State), s.up = true → s.f (fRate p.val) ≠ 0 →
    Runs (.portLinkLoss p) s (fun t => t = s.portReset p.val ∧
      t.heldReads = s.heldReads.filter (fun h => h.ld / 16 != p.val))) ∧
  (∀ (p : HPort) (s : State), s.f (fRate p.val) = 0 → exec (.portLinkLoss p) s = .next s) ∧
  (∀ (p : HPort) (s : State), s.up = true →
    Runs (.perstAssert p) s (fun t => (t.port p.val).perst = true ∧ t.portTakes p.val = false ∧
      ∀ q, q ≠ p.val → t.port q = s.port q)) ∧
  (∀ (ld : LdId) (s : State), s.up = true →
    Runs (.functionLevelReset ld) s (fun t => t.ctx = (s.drainLd ld.val true).ctx ∧ t.lds = s.lds ∧ t.mem = s.mem ∧
      (s.mbox.holder = some ld → s.mbox.arrived = none → t.mbox.holder = none) ∧
      (s.mbox.holder ≠ some ld → t.mbox = s.mbox))) ∧
  (∀ (ld : LdId) (i : Fin 8) (d : DecoderSet) (s : State), s.up = true →
    (((s.ld ld.val).decoder i.val).committed = false ∨ ((s.ld ld.val).decoder i.val).set = none) → decSupported d = true →
    (d.bi = false ∨ ((s.tb 255).state = 2 ∧ s.decMeetsWindow (s.ld ld.val) d = false)) →
    Runs (.decoderCommit ld i d) s (fun t => (t.ld ld.val).decoder i.val = { set := some d, committed := true, err := false } ∧
      (∀ j, j ≠ i.val → (t.ld ld.val).decoder j = (s.ld ld.val).decoder j) ∧ ∀ m, m ≠ ld.val → t.ld m = s.ld m)) ∧
  (∀ (ld : LdId) (i : Fin 8) (d : DecoderSet) (s : State), s.up = true →
    (((s.ld ld.val).decoder i.val).committed = false ∨ ((s.ld ld.val).decoder i.val).set = none) →
    (decSupported d = false ∨ (d.bi = true ∧ ((s.tb 255).state ≠ 2 ∨ s.decMeetsWindow (s.ld ld.val) d = true))) →
    Runs (.decoderCommit ld i d) s (fun t => (t.ld ld.val).decoder i.val = { set := some d, committed := false, err := true })) ∧
  (∀ (ld : LdId) (i : Fin 8) (c d : DecoderSet) (s : State), ((s.ld ld.val).decoder i.val).committed = true →
    ((s.ld ld.val).decoder i.val).set = some c → c.lock = true → exec (.decoderCommit ld i d) s = .next s) ∧
  (∀ (p : HPort) (s : State), s.up = true → (s.port p.val).cxlKey.isSome = true →
    Runs (.ideFailure p false) s (fun t => t.f (fIde p.val) = 3 ∧ (t.port p.val).failed = true ∧ t.portTakes p.val = false ∧
      t.ras.evts = s.ras.evts + 1)) ∧
  (∀ (p : HPort) (s : State), (s.port p.val).cxlKey = none → exec (.ideFailure p false) s = .next s) ∧
  (∀ (p : HPort) (skid : Bool) (x : Session) (key : BitVec 256) (s : State), s.up = true → x ≠ .none →
    ((s.port p.val).failed = false ∨ s.f (fIde p.val) ≠ 3) →
    Runs (.ideKm p false skid true x key) s (fun t => (t.port p.val).cxlKey = some key ∧ (t.port p.val).skid = skid ∧
      t.f (fIde p.val) = (if skid then 2 else 1) ∧ ∀ o, o ≠ offPort p.val → t.reg o = s.reg o)) ∧
  (∀ (p : HPort) (io skid via : Bool) (x : Session) (key : BitVec 256) (s : State), (via = false ∨ x = .none) →
    exec (.ideKm p io skid via x key) s = .next s)

/-- For a live line or coarse row, a class and a requesting LD, the plan (snoops, change, move, split) is the one that the resolution table gives: a sharer's SHARED or NOCACHE request is a hit; OWN and WRITE invalidate the other sharers; an EXCLUSIVE owner is asked for data by SHARED and NOCACHE and invalidated by OWN (a move) and WRITE; a NONE entry takes the requester; a coarse entry of another LD is snooped for the line and a line entry is split off it. -/
def Obligations.DirectoryResolutionFollowsItsTable : Prop :=
  (∀ (w : Row) (r : Nat), dirCoarse w.res = false → dirState w.res = 1 → (dirSharers w.res).testBit r = true →
    dirPlan w 1 r = { change := .hit w.handle } ∧ dirPlan w 0 r = { change := .hit w.handle } ∧
    dirPlan w 3 r = { snoops := ((sharersOf (dirSharers w.res)).filter (fun n => n != r)).map (fun n => (n, .inv)),
                      change := .set w.handle 1 (2 ^ r) 0 false }) ∧
  (∀ (w : Row) (r : Nat), dirCoarse w.res = false → dirState w.res = 1 → (dirSharers w.res).testBit r = false →
    dirPlan w 1 r = { change := .set w.handle 1 (dirSharers w.res + 2 ^ r) r true } ∧ dirPlan w 0 r = {} ∧
    dirPlan w 3 r = { snoops := ((sharersOf (dirSharers w.res)).filter (fun n => n != r)).map (fun n => (n, .inv)),
                      change := .set w.handle 0 0 0 false }) ∧
  (∀ (w : Row) (r : Nat), dirCoarse w.res = false → dirState w.res = 1 →
    dirPlan w 2 r = { snoops := ((sharersOf (dirSharers w.res)).filter (fun n => n != r)).map (fun n => (n, .inv)),
                      change := .set w.handle 2 (2 ^ r) r true }) ∧
  (∀ (w : Row) (c r : Nat), dirState w.res = 2 → (dirSharers w.res).testBit r = true →
    dirPlan w c r = { change := .hit w.handle }) ∧
  (∀ (w : Row) (r o : Nat), dirCoarse w.res = false → dirState w.res = 2 → (dirSharers w.res).testBit r = false →
    (sharersOf (dirSharers w.res)).head? = some o →
    dirPlan w 1 r = { snoops := [(o, .data)], change := .set w.handle 1 (2 ^ o + 2 ^ r) r true } ∧
    dirPlan w 0 r = { snoops := [(o, .data)], change := .set w.handle 1 (2 ^ o) 0 false } ∧
    dirPlan w 2 r = { snoops := [(o, .inv)], change := .set w.handle 2 (2 ^ r) r true, move := some (o, r) } ∧
    dirPlan w 3 r = { snoops := [(o, .inv)], change := .set w.handle 0 0 0 false }) ∧
  (∀ (w : Row) (r : Nat), dirCoarse w.res = false → dirState w.res = 0 →
    dirPlan w 0 r = {} ∧ dirPlan w 3 r = {} ∧ dirPlan w 1 r = { change := .set w.handle 1 (2 ^ r) r true } ∧
    dirPlan w 2 r = { change := .set w.handle 2 (2 ^ r) r true }) ∧
  (∀ (w : Row) (c r : Nat), dirCoarse w.res = true → (dirSharers w.res).testBit r = true →
    dirPlan w c r = { change := .hit w.handle }) ∧
  (∀ (w : Row) (r o : Nat), dirCoarse w.res = true → (dirSharers w.res).testBit r = false →
    (sharersOf (dirSharers w.res)).head? = some o →
    dirPlan w 1 r = { snoops := [(o, .data)], change := .line 1 (2 ^ o + 2 ^ r) r, split := true } ∧
    dirPlan w 0 r = { snoops := [(o, .data)], change := .line 1 (2 ^ o) w.src, split := true } ∧
    dirPlan w 2 r = { snoops := [(o, .inv)], change := .line 2 (2 ^ r) r, move := some (o, r), split := true } ∧
    dirPlan w 3 r = { snoops := [(o, .inv)], change := .line 0 0 w.src, split := true })

/-- When no two directory requests that hold claims name a common line, and request numbers are distinct, the same holds after DIR_REQUEST; and DIR_REQUEST with 256 line claims held (a page counts 64) changes nothing. -/
def Obligations.ClaimsNeverMeet : Prop :=
  (∀ (s t : State), (s.dir.reqs.map (fun r => r.id)).Nodup →
    s.dir.reqs.Pairwise (fun a b => a.claims = true → b.claims = true → a.meets b = false) →
    exec .dirRequest s = .next t →
    (t.dir.reqs.map (fun r => r.id)).Nodup ∧
    t.dir.reqs.Pairwise (fun a b => a.claims = true → b.claims = true → a.meets b = false)) ∧
  (∀ (s : State), 256 ≤ s.claimsHeld → exec .dirRequest s = .next s)

/-- DIR_REQUEST claims the first waiting request that may claim, and queues its lookup of table 255; DIR_RESOLVE of a request whose lookup missed installs a line entry for SHARED and OWN when coarse entries are off, and makes no change for NOCACHE and WRITE; DIR_DATA_RETURN of a request whose change committed in an earlier tick answers an invalidation with the Cmp of its class and sends a read of class NOCACHE to the placement stage; DIR_CLAIM_END of a memory request whose change has committed ends its claim; DIR_AGE_REMOVAL of an entry that is gone only forgets it; DIR_BI_TIMEOUT of an old snoop poisons the line and raises the event; PLACEMENT_REFILL without waiting requests changes nothing, and one that fails its check forgets the eight pages of its map line. -/
def Obligations.DirectoryCommandsAct : Prop :=
  (∀ (r : DirReq) (k : Nat) (op : Instr) (s : State), s.up = true → nextClaim [] s.dir.reqs = some r →
    s.claimsHeld + spanClaims r.spans ≤ 256 → r.what = .mem k op →
    exec .dirRequest s = .next (((s.updDir r.id (fun q => { q with phase := 1 })).dirLookup r.id r.line false).showClaims)) ∧
  (∀ (s : State), nextClaim [] s.dir.reqs = none → exec .dirRequest s = .next s) ∧
  (∀ (l : Dpa) (r : DirReq) (k : Nat) (op : Instr) (og : Origin) (o : Outc) (s : State), s.up = true → s.onlyReq r l.toNat →
    r.phase = 1 → r.what = .mem k op → r.snoops = [] → r.write = none → s.inbox.find? (fun e => e.1 == .dir r.id) = some (og, o) →
    o.status = St.noMatch → s.f fCoarse = 0 → (k = 1 ∨ k = 2) → (∀ q ∈ s.dir.reqs, q.id = r.id → q = r) →
    Runs (.dirResolve l) s (fun t => ∃ q ∈ t.dir.reqs, q.id = r.id ∧ q.phase = 5 ∧
      q.change = .line (if k = 1 then 1 else 2) (2 ^ r.ld) r.ld ∧ q.snoops = [])) ∧
  (∀ (l : Dpa) (r : DirReq) (k : Nat) (op : Instr) (og : Origin) (o : Outc) (s : State), s.up = true → s.onlyReq r l.toNat →
    r.phase = 1 → r.what = .mem k op → r.snoops = [] → r.write = none → r.queued = false → r.commit = none →
    s.inbox.find? (fun e => e.1 == .dir r.id) = some (og, o) →
    o.status = St.noMatch → (k = 0 ∨ k = 3) → (∀ q ∈ s.dir.reqs, q.id = r.id → q = r) →
    Runs (.dirResolve l) s (fun t => ∃ q ∈ t.dir.reqs, q.id = r.id ∧ q.phase = 5 ∧ q.change = .none ∧ q.commit = some s.tick)) ∧
  (∀ (l : Dpa) (r : DirReq) (k : Nat) (ld : LdId) (h : BitVec 64) (m : Meta) (tag : BitVec 16) (c : Nat) (s : State), s.up = true →
    s.onlyReq r l.toNat → r.phase = 6 → r.snoops = [] → r.write = none → r.commit = some c → c < s.tick →
    r.what = .mem k (.meminv ld h m tag) →
    Runs (.dirDataReturn l) s (fun t => t = (({ s with dir := { s.dir with reqs := s.dir.reqs.filter (fun q => q.id != r.id) } }).answerCmp
      ld.val tag.toNat (if k = 1 then 1 else if k = 2 then 2 else 0) none) ∧ t.mem = s.mem)) ∧
  (∀ (l : Dpa) (r : DirReq) (ld : LdId) (h : BitVec 64) (m : Meta) (tag : BitVec 16) (c : Nat) (s : State), s.up = true →
    s.onlyReq r l.toNat → r.phase = 6 → r.snoops = [] → r.write = none → r.commit = some c → c < s.tick →
    r.what = .mem 0 (.memrd ld h m tag) →
    exec (.dirDataReturn l) s = .next (({ s with dir := { s.dir with reqs := s.dir.reqs.filter (fun q => q.id != r.id) } }).place
      r.line (.memrd ld h m tag) false)) ∧
  (∀ (l : Dpa) (r : DirReq) (k c : Nat) (ld : LdId) (h : BitVec 64) (m : Meta) (tag : BitVec 16) (s : State), s.up = true →
    s.onlyReq r l.toNat → r.phase = 5 → r.snoops = [] → r.write = none → r.commit = some c → r.queued = true → r.move = none →
    r.split = false → r.what = .mem k (.memrd ld h m tag) →
    exec (.dirClaimEnd l) s = .next ((s.updDir r.id (fun q => { q with phase := 6 })).showClaims)) ∧
  (∀ (h : BitVec 22) (s : State), s.up = true → s.dir.aged.contains h.toNat = true → s.liveRow 255 h.toNat = none →
    exec (.dirAgeRemoval h) s = .next { s with dir := { s.dir with aged := s.dir.aged.erase h.toNat } }) ∧
  (∀ (h : BitVec 22) (s : State), s.dir.aged.contains h.toNat = false → exec (.dirAgeRemoval h) s = .next s) ∧
  (∀ (ld : LdId) (l : Dpa) (r : DirReq) (k : Nat) (b : BiKind) (s : State), s.up = true → r ∈ s.dir.reqs →
    (ld.val, l.toNat, k, b) ∈ r.snoops → k + 500 * max 10 (s.f fBiTimeout) ≤ s.tick →
    Runs (.dirBiTimeout ld l) s (fun t => t.poisoned l.toNat = true ∧ t.ras.evts = s.ras.evts + 1 ∧ t.mem = s.mem)) ∧
  (∀ (p : BitVec 32) (e : Ecc) (s : State), s.tier.miss.filter (fun x => x.1 / 4096 == p.toNat) = [] →
    exec (.placementRefill p e) s = .next s) ∧
  (∀ (p : BitVec 32) (b : Nat) (s : State), s.up = true → s.region p.toNat = some (2, b) →
    s.tier.miss.filter (fun x => x.1 / 4096 == p.toNat) ≠ [] →
    s.dram.queue.any (fun r => !r.write && !r.eng && r.dpa == 2 ^ 44 + mapLine b && decide (r.stage < 2)) = false →
    Runs (.placementRefill p .uncorrectable) s (fun t => t.mem = s.mem ∧ s.ras.evts < t.ras.evts ∧
      t.tier.miss = s.tier.miss.filter (fun x => x.1 / 4096 != p.toNat) ∧
      (∀ x ∈ t.tier.cache, x.1 / 8 ≠ p.toNat / 8) ∧ ∀ i < 8, flag t.tier.badMap (p.toNat / 8 * 8 + i) = true)) ∧
  (∀ (p : BitVec 32) (b : Nat) (s : State), s.up = true → s.region p.toNat = some (2, b) →
    s.tier.miss.filter (fun x => x.1 / 4096 == p.toNat) ≠ [] →
    exec (.placementRefill p .clean) s = .next (s.refill p.toNat b .clean))

/-- None of these changes a byte of memory that is stored under the key of its page. A promotion that is due makes its page RAW in the new frame, and one that is not due changes nothing; a heat sweep that is due halves the heat of every page it reaches and sets the next one; an emergency pass runs only at CRITICAL and never touches a pinned page; compaction runs only at NOTICE or above; the last-resort drain of a RAW page frees its lines; a rotation skips an UNWRITTEN page, waits at WARN or above, and advances its line boundary by one line; a migration switch after its start tick installs the target descriptor, keeping heat and pin, and frees the slot; zeroing finishes the head of its queue, or else advances its pass by one frame; on-demand zeroing runs only when a request waits and no zeroed frame exists. -/
def Obligations.TierEngineCommandsAct : Prop :=
  (∀ (p : BitVec 32) (m : Promo) (k : Nat) (s : State), s.up = true → s.tier.promos.filter (fun x => x.page == p.toNat) = [m] →
    m.start = some k → k ≤ s.tick → (∀ e ∈ s.tier.hold, e.1 / 4096 ≠ p.toNat) →
    (∀ i < 64, s.foreign (4096 * p.toNat + 64 * i) = none) →
    Runs (.promotionCommit p) s (fun t => t.page p.toNat = { s.page p.toNat with
        st := 1, frame := m.frame, zmap := 0, nofit := false, newkey := s.newkeyFor p.toNat } ∧
      (∀ q, q ≠ p.toNat → t.page q = s.page q) ∧ t.pageHeld p.toNat = false ∧ t.mem = s.mem)) ∧
  (∀ (p : BitVec 32) (s : State), (∀ m ∈ s.tier.promos, m.page = p.toNat → m.start = none) → exec (.promotionCommit p) s = .next s) ∧
  (∀ (s : State), s.up = true → s.tier.sweepAt = none → s.tier.nextSweep ≤ s.tick → s.migFree = true →
    (s.tier.pages.map (fun e => e.1)).Nodup →
    Runs .heatSweep s (fun t => t.tier.nextSweep = s.tick + s.heatPeriod ∧ t.mem = s.mem ∧
      (t.tier.sweepAt = none → ∀ q b, s.region q = some (2, b) → (t.page q).heat = (s.page q).heat / 2))) ∧
  (∀ (s : State), s.tier.sweepAt = none → s.tick < s.tier.nextSweep → exec .heatSweep s = .next s) ∧
  (∀ (s : State), s.up = true → s.f fLevel = 3 →
    Runs .emergencyDemotionPass s (fun t => t.mem = s.mem ∧ (∀ q, (s.page q).pin = true → t.page q = s.page q) ∧
      (∀ q, (t.page q).heat = (s.page q).heat) ∧ (t.tier.emergAt = none → t.tier.heatLim = min 15 (s.tier.heatLim + 1)))) ∧
  (∀ (s : State), s.f fLevel ≠ 3 → exec .emergencyDemotionPass s = .next s) ∧
  (∀ (p : BitVec 32) (u : Nat) (t s : State), s.up = true → s.f fLevel ≠ 0 → ((s.page p.toNat).st = 2 ∨ (s.page p.toNat).st = 3) →
    s.migFree = true → s.tier.noRetry.contains p.toNat = false → s.pageHeld p.toNat = false →
    2 * ones (s.frame ((s.page p.toNat).frame / 4)).used ≤ (s.page p.toNat).cls →
    s.takeSplit (s.page p.toNat).cls ((s.page p.toNat).frame / 4) = some (u, t) →
    exec (.compaction p) s = .next ((t.pageTraffic p.toNat (s.page p.toNat) false 4).startMig p.toNat 4
      { s.page p.toNat with frame := u, newkey := t.newkeyFor p.toNat })) ∧
  (∀ (p : BitVec 32) (s : State), s.f fLevel = 0 → exec (.compaction p) s = .next s) ∧
  (∀ (q : Nat) (s : State), s.up = true → s.f fLevel ≠ 3 → s.freeSlot.isSome = true →
    (s.tier.lrLines.map (fun e => e.1 / 64)).find? (fun q => (s.page q).st != 4 && !s.pageHeld q) = some q → (s.page q).st = 1 →
    Runs .lrDrain s (fun t => (∀ e ∈ t.tier.lrLines, e.1 / 64 ≠ q) ∧ t.page q = { s.page q with lr := false } ∧ t.mem = s.mem)) ∧
  (∀ (s : State), s.f fLevel = 3 → exec .lrDrain s = .next s) ∧
  (∀ (p : BitVec 32) (r : Rot) (s : State), s.up = true → s.tier.rot = some r → r.step = 2 → r.pages.contains p.toNat = true →
    s.f fLevel < 2 → s.migFree = true → s.pageHeld p.toNat = false → (s.page p.toNat).st = 0 →
    exec (.rotationPageCopy p) s = .next (s.setRot { r with pages := r.pages.erase p.toNat })) ∧
  (∀ (p : BitVec 32) (r : Rot) (f : Nat) (t s : State), s.up = true → s.tier.rot = some r → r.step = 2 →
    r.pages.contains p.toNat = true → s.f fLevel < 2 → s.migFree = true → s.pageHeld p.toNat = false → (s.page p.toNat).st = 1 →
    (s.page p.toNat).newkey = false → s.takeFrame = some (f, t) →
    exec (.rotationPageCopy p) s = .next ((t.pageTraffic p.toNat (s.page p.toNat) false 4).startMig p.toNat 2
      { s.page p.toNat with frame := 4 * f, newkey := true })) ∧
  (∀ (p : BitVec 32) (s : State), (s.tier.rot = none ∨ 2 ≤ s.f fLevel) → exec (.rotationPageCopy p) s = .next s) ∧
  (∀ (r : Rot) (a b : Nat) (l : List (Nat × Nat)) (s : State), s.up = true → s.tier.rot = some r → r.step = 3 →
    r.lines = (a, b) :: l → a + 1 < b → s.foreign (64 * a) = none →
    Runs .rotationLineAdvance s (fun t => t.tier.rot = some { r with lines := (a + 1, b) :: l } ∧ t.mem = s.mem)) ∧
  (∀ (i : TableId) (m : MigSlot) (s : State), s.up = true → SMap.get (fun _ => none) s.tier.slots i.toNat = some m → m.start < s.tick →
    m.kind ≠ 2 → m.kind ≠ 3 → (∀ i < 64, s.foreign (4096 * m.page + 64 * i) = none) →
    Runs (.tierMigrationSwitch i) s (fun t =>
      t.page m.page = { m.tgt with heat := (s.page m.page).heat, pin := (s.page m.page).pin, lr := (s.page m.page).lr } ∧
      (∀ q, q ≠ m.page → t.page q = s.page q) ∧ SMap.get (fun _ => none) t.tier.slots i.toNat = none ∧ t.mem = s.mem)) ∧
  (∀ (i : TableId) (m : MigSlot) (s : State), SMap.get (fun _ => none) s.tier.slots i.toNat = some m → s.tick ≤ m.start →
    exec (.tierMigrationSwitch i) s = .next s) ∧
  (∀ (f : Nat) (l : List (Nat × Nat × Nat)) (s : State), s.up = true → s.tier.zeroQ = (f, 0, 1) :: l → s.tier.zeroWait = [] →
    Runs .zeroFrameDone s (fun t => t.tier.zeroQ = l ∧ t.frame f = { s.frame f with unz := 0 } ∧
      (∀ g, g ≠ f → t.frame g = s.frame g) ∧ t.mem = s.mem)) ∧
  (∀ (s : State), s.up = true → s.tier.zeroQ = [] → s.tier.backs = [] → s.tier.zeroing = true → s.tier.zeroPos < s.nFrames →
    s.tier.zeroWait = [] →
    Runs .zeroFrameDone s (fun t => t.tier.zeroPos = s.tier.zeroPos + 1 ∧ t.tier.frames = s.tier.frames ∧
      (s.tier.zeroPos + 1 = s.nFrames → t.tier.zeroing = false ∧ t.f fPassDone = 1))) ∧
  (∀ (f : Nat) (s : State), s.up = true → s.tier.zeroWait ≠ [] → s.zeroedFrame = none → s.unzeroedFrame = some f →
    exec .onDemandZero s = .next (({ s with tier := { s.tier with zeroQ := s.tier.zeroQ.filter (fun e => e.1 != f) } }.zeroOne f 0 1).retryZero)) ∧
  (∀ (s : State), (s.tier.zeroWait = [] ∨ s.zeroedFrame.isSome = true) → exec .onDemandZero s = .next s)

/-- TRIE_ADMIT admits the next lookup at this tick: its record holds the length and result word of the longest prefix that covers the key, or NO_MATCH when none does; with no lookup to take in nothing changes. TRIE_LOOKUP_DELIVER delivers the oldest lookup that is 11 ticks old, DIRECT_LOOKUP_DELIVER the oldest that is 3 ticks old, and neither delivers earlier. TRIE_MUTATION_TAKE builds a mutation that fits (the swap comes after the build) and ends one that does not with its status. TRIE_SWAP installs the built prefix set once it is due, and what it disconnects is freed 12 ticks later by TRIE_NODE_FREE. DIRECT_ACCESS serves the next access of its bank: a write below ENTRY_COUNT stores the word, one at or above it is INDEX_RANGE and stores nothing, and a lookup reads the entry at its index. -/
def Obligations.TrieAndDirectCommandsAct : Prop :=
  (∀ (o : TOp) (k : Key) (img : Bool) (p : BitVec 128 × Nat × Word) (s : State), s.up = true → s.pins.fatal = false →
    s.trie.builds = [] → s.trie.badSlots = [] → s.nextTrie = some o → o.act = .lookup k false img false →
    kbOf (s.tb o.table).profile ≤ planBits (planOf (s.tb o.table).profile) → p ∈ (s.tb o.table).prefixes →
    pfxCovers (kbOf (s.tb o.table).profile) p.1.toNat p.2.1 (k.toNat % 2 ^ kbOf (s.tb o.table).profile) = true →
    (∀ q ∈ (s.tb o.table).prefixes, q ≠ p →
      pfxCovers (kbOf (s.tb o.table).profile) q.1.toNat q.2.1 (k.toNat % 2 ^ kbOf (s.tb o.table).profile) = true → q.2.1 < p.2.1) →
    Runs .trieAdmit s (fun t => t.trie.waiting = s.trie.waiting.erase o ∧ ∃ f, t.trie.flights = s.trie.flights ++ [f] ∧ f.op = o ∧
      f.t0 = s.tick ∧ f.outc.status = St.success ∧ f.outc.prio = p.2.1 ∧ f.outc.res = p.2.2 ∧ f.outc.count = 1 ∧
      f.outc.handle = 0 ∧ f.outc.multi = false)) ∧
  (∀ (o : TOp) (k : Key) (img : Bool) (s : State), s.up = true → s.pins.fatal = false → s.trie.builds = [] →
    s.trie.badSlots = [] → s.nextTrie = some o → o.act = .lookup k false img false →
    (∀ q ∈ (s.tb o.table).prefixes,
      pfxCovers (kbOf (s.tb o.table).profile) q.1.toNat q.2.1 (k.toNat % 2 ^ kbOf (s.tb o.table).profile) = false) →
    Runs .trieAdmit s (fun t => ∃ f, t.trie.flights = s.trie.flights ++ [f] ∧ f.op = o ∧ f.outc.status = St.noMatch)) ∧
  (∀ (s : State), s.trie.builds = [] → s.nextTrie = none → exec .trieAdmit s = .next s) ∧
  (∀ (f : TFlight) (s : State), s.up = true → s.trie.flights.head? = some f → f.t0 + 11 ≤ s.tick →
    exec .trieLookupDeliver s =
      .next (({ s with trie := { s.trie with flights := s.trie.flights.erase f } }).resolve f.op.origin f.outc)) ∧
  (∀ (s : State), (∀ f ∈ s.trie.flights, s.tick < f.t0 + 11) → exec .trieLookupDeliver s = .next s) ∧
  (∀ (i : TableId) (o : TOp) (st : Nat) (s : State), s.up = true → SMap.get (fun _ => none) s.trie.builds i.val = none →
    s.trie.muts.find? (fun o => o.table == i.val) = some o → s.triePlan o = .inl st →
    exec (.trieMutationTake i) s = .next (({ s with trie := { s.trie with muts := s.trie.muts.erase o } }).trieEnds o st)) ∧
  (∀ (i : TableId) (o : TOp) (ps : List (BitVec 128 × Nat × Word)) (s : State), s.up = true →
    SMap.get (fun _ => none) s.trie.builds i.val = none → s.trie.muts.find? (fun o => o.table == i.val) = some o →
    s.triePlan o = .inr ps → s.isMirror i.val = false → (∀ j < 8, (buildSlots (kbOf (s.tb i.val).gov) (planOf (s.tb i.val).gov) o
      (s.tb i.val).prefixes ps).getD j 0 ≤ s.stageFree j) →
    Runs (.trieMutationTake i) s (fun t => t.trie.muts = s.trie.muts.erase o ∧
      ∃ b, SMap.get (fun _ => none) t.trie.builds i.val = some b ∧ b.op = o ∧ b.prefixes = ps ∧ s.tick < b.swap ∧ b.ready = true)) ∧
  (∀ (i : TableId) (b : TBuild) (p : BitVec 128) (l : Nat) (w : Word) (u : Bool) (c n : Nat) (s : State), s.up = true →
    SMap.get (fun _ => none) s.trie.builds i.val = some b → b.swap ≤ s.tick → b.ready = true → b.op.act = .insert p l w u →
    b.op.origin = .req c n →
    Runs (.trieSwap i) s (fun t => (t.tb i.val).prefixes = b.prefixes ∧ SMap.get (fun _ => none) t.trie.builds i.val = none ∧
      t.trie.freeing = s.trie.freeing ++ [⟨i.val, s.tick + 12, b.freed, b.freedLeaves⟩] ∧ ∀ j, j ≠ i.val → t.tb j = s.tb j)) ∧
  (∀ (i : TableId) (b : TBuild) (s : State), SMap.get (fun _ => none) s.trie.builds i.val = some b →
    (s.tick < b.swap ∨ b.ready = false) → exec (.trieSwap i) s = .next s) ∧
  (∀ (i : TableId) (s : State), s.up = true →
    exec (.trieNodeFree i) s = .next { s with trie := { s.trie with
      freeing := s.trie.freeing.filter (fun f => f.table != i.val || decide (s.tick < f.at_)) } }) ∧
  (∀ (b : Fin 32) (o : DOp) (i : Nat) (v : Word) (c n : Nat) (s : State), s.up = true → s.pins.fatal = false →
    s.nextDirect b.val = some o → o.act = .write i v → o.origin = .req c n → i < (s.tb o.table).count →
    Runs (.directAccess b) s (fun t => t.dword (s.dAddr o) = v ∧ (∀ a, a ≠ s.dAddr o → t.dword a = s.dword a) ∧
      t.dsram.waiting = s.dsram.waiting.erase o)) ∧
  (∀ (b : Fin 32) (o : DOp) (i : Nat) (v : Word) (c n : Nat) (s : State), s.up = true → s.pins.fatal = false →
    s.nextDirect b.val = some o → o.act = .write i v → o.origin = .req c n → (s.tb o.table).count ≤ i →
    Runs (.directAccess b) s (fun t => t.dsram.words = s.dsram.words ∧ t.dsram.waiting = s.dsram.waiting.erase o)) ∧
  (∀ (b : Fin 32) (o : DOp) (k : Key) (img : Bool) (s : State), s.up = true → s.pins.fatal = false →
    s.nextDirect b.val = some o → o.act = .lookup k false img false → s.dIndex o < (s.tb o.table).count →
    flag s.dsram.bad (s.dAddr o) = false →
    Runs (.directAccess b) s (fun t => ∃ r, t.dsram.flights = s.dsram.flights ++ [(o, s.tick, r)] ∧ r.status = St.success ∧
      r.hit = true ∧ r.count = 1 ∧ r.handle = s.dIndex o ∧ r.res = s.dword (s.dAddr o))) ∧
  (∀ (b : Fin 32) (s : State), s.nextDirect b.val = none → exec (.directAccess b) s = .next s) ∧
  (∀ (f : DOp × Nat × Outc) (s : State), s.up = true → s.dsram.flights.head? = some f → f.2.1 + 3 ≤ s.tick →
    exec .directLookupDeliver s =
      .next (({ s with dsram := { s.dsram with flights := s.dsram.flights.erase f } }).resolve f.1.origin f.2.2)) ∧
  (∀ (s : State), (∀ f ∈ s.dsram.flights, s.tick < f.2.1 + 3) → exec .directLookupDeliver s = .next s)

/-- On a table that is not paired: INSERT of an array entry joins the placement queue, with its given handle or none, and is LOCKED under another context's lock; UPDATE writes the row of its live handle in place, and a missing handle is NO_MATCH; DELETE frees the row of its live handle, and a missing one is NO_MATCH; an entry whose handle is held waits; READ_BY_HANDLE queues the row read; the same opcodes on PREFIX tables become trie mutations and reads, on DIRECT tables accesses of the named index, DELETE writing zero; READ_BY_KEY of an array requests a search that returns the image; LEARN adds one learn with the request's key, SRC, PRIORITY and result word, and its probe at input 10. -/
def Obligations.EntryDescriptorsAct : Prop :=
  (∀ (c : Id12) (n : BitVec 32) (r : Req) (s : State), s.atHand c.val n.toNat 0x10 r → isArray (s.tb r.table).kind = true →
    (s.tb r.table).lock = none → cellsOk r.image (s.tb r.table).profile = true →
    (∀ h, r.given = some h → s.heldH r.table h = false ∧ s.handleFree r.table h = true) →
    exec (.insert c n) s = .next (({ s with mnt := { s.mnt with placeQ := s.mnt.placeQ ++
      ([{ origin := .req c.val n.toNat, table := r.table, row := r.image, given := r.given, at_ := s.tick }] : List Ins) } }).atEngine c.val false n.toNat)) ∧
  (∀ (c : Id12) (n : BitVec 32) (r : Req) (s : State), s.atHand c.val n.toNat 0x10 r → isArray (s.tb r.table).kind = true →
    s.lockRefuses r.table c.val = true →
    exec (.insert c n) s = .next ((s.resolve (.req c.val n.toNat) (refusal r.table St.locked)).atEngine c.val false n.toNat)) ∧
  (∀ (c : Id12) (n : BitVec 32) (r : Req) (a : Nat) (s : State), s.atHand c.val n.toNat 0x11 r → isArray (s.tb r.table).kind = true →
    (s.tb r.table).lock = none → cellsOk r.image (s.tb r.table).profile = true → s.heldH r.table r.handle2 = false →
    s.liveRow r.table r.handle2 = some a → (s.tb r.table).mig = 0 →
    exec (.update c n) s = .next ((s.enqM r.table (.write a (updatedRow (s.row a) r.image r.table) .update)
      (.req c.val n.toNat)).atEngine c.val false n.toNat)) ∧
  (∀ (c : Id12) (n : BitVec 32) (r : Req) (s : State), s.atHand c.val n.toNat 0x11 r → isArray (s.tb r.table).kind = true →
    (s.tb r.table).lock = none → cellsOk r.image (s.tb r.table).profile = true → s.heldH r.table r.handle2 = false →
    s.liveRow r.table r.handle2 = none →
    exec (.update c n) s = .next ((s.resolve (.req c.val n.toNat) { refusal r.table St.noMatch with tick := s.tick }).atEngine
      c.val false n.toNat)) ∧
  (∀ (c : Id12) (n : BitVec 32) (r : Req) (s : State), s.atHand c.val n.toNat 0x11 r → isArray (s.tb r.table).kind = true →
    (s.tb r.table).lock = none → cellsOk r.image (s.tb r.table).profile = true → s.heldH r.table r.handle2 = true →
    exec (.update c n) s = .next s) ∧
  (∀ (c : Id12) (n : BitVec 32) (r : Req) (a : Nat) (s : State), s.atHand c.val n.toNat 0x12 r → isArray (s.tb r.table).kind = true →
    (s.tb r.table).lock = none → s.heldH r.table r.handle1 = false → s.liveRow r.table r.handle1 = some a →
    exec (.delete c n) s = .next ((s.enqM r.table (.write a {} .free) (.req c.val n.toNat)).atEngine c.val false n.toNat)) ∧
  (∀ (c : Id12) (n : BitVec 32) (r : Req) (s : State), s.atHand c.val n.toNat 0x12 r → isArray (s.tb r.table).kind = true →
    (s.tb r.table).lock = none → s.heldH r.table r.handle1 = false → s.liveRow r.table r.handle1 = none →
    exec (.delete c n) s = .next ((s.resolve (.req c.val n.toNat) { refusal r.table St.noMatch with tick := s.tick }).atEngine
      c.val false n.toNat)) ∧
  (∀ (c : Id12) (n : BitVec 32) (r : Req) (a : Nat) (s : State), s.atHand c.val n.toNat 0x13 r → isArray (s.tb r.table).kind = true →
    (s.tb r.table).lock = none → s.liveRow r.table r.handle1 = some a →
    exec (.readByHandle c n) s = .next ((s.enqOp 12 { table := r.table, act := .read a, origin := .req c.val n.toNat, named := some (c.val, r.handle1) }).atEngine c.val false n.toNat)) ∧
  (∀ (c : Id12) (n : BitVec 32) (r : Req) (s : State), s.atHand c.val n.toNat 0x14 r → isArray (s.tb r.table).kind = true →
    exec (.readByKey c n) s = .next ((s.enqOp (s.cx c.val).sport
      { table := r.table, act := .search r.key (!(s.cx c.val).steward) true, origin := .req c.val n.toNat, enq := s.portTick r }).atEngine
        c.val false n.toNat)) ∧
  (∀ (c : Id12) (n : BitVec 32) (r : Req) (s : State), s.atHand c.val n.toNat 0x10 r → (s.tb r.table).kind = 2 →
    prefixOk (Prof.keyBits (s.tb r.table).profile) r.pfx r.len = true →
    exec (.insert c n) s =
      .next ((s.trieMut r.table (.insert r.pfx r.len r.pfxRes false) (.req c.val n.toNat)).atEngine c.val false n.toNat)) ∧
  (∀ (c : Id12) (n : BitVec 32) (r : Req) (s : State), s.atHand c.val n.toNat 0x12 r → (s.tb r.table).kind = 2 →
    prefixOk (Prof.keyBits (s.tb r.table).profile) r.pfx r.len = true →
    exec (.delete c n) s = .next ((s.trieMut r.table (.delete r.pfx r.len) (.req c.val n.toNat)).atEngine c.val false n.toNat)) ∧
  (∀ (c : Id12) (n : BitVec 32) (r : Req) (s : State), s.atHand c.val n.toNat 0x11 r → (s.tb r.table).kind = 1 →
    exec (.update c n) s = .next ((s.directOp r.table (.write r.handle1 r.entry) (.req c.val n.toNat)).atEngine c.val false n.toNat)) ∧
  (∀ (c : Id12) (n : BitVec 32) (r : Req) (s : State), s.atHand c.val n.toNat 0x12 r → (s.tb r.table).kind = 1 →
    exec (.delete c n) s = .next ((s.directOp r.table (.write r.handle1 0) (.req c.val n.toNat)).atEngine c.val false n.toNat)) ∧
  (∀ (c : Id12) (n : BitVec 32) (r : Req) (s : State), s.atHand c.val n.toNat 0x13 r → (s.tb r.table).kind = 1 →
    exec (.readByHandle c n) s = .next ((s.directOp r.table (.readIdx r.handle1) (.req c.val n.toNat)).atEngine c.val false n.toNat)) ∧
  (∀ (c : Id12) (n : BitVec 32) (r : Req) (s : State), s.atHand c.val n.toNat 0x15 r → (s.tb r.table).lock = none →
    ∃ o : LearnOp, o.id = s.ids ∧ o.table = r.table ∧ o.key = r.learnKey ∧ o.src = r.learnSrc ∧ o.prio = r.learnPrio ∧
      o.res = r.learnRes ∧ o.lock = none ∧ exec (.learn c n) s =
        .next ((({ s with ids := s.ids + 1, lrn := { s.lrn with ops := insertLearn o s.lrn.ops } }).probe s.ids r.table
          r.learnKey).atEngine c.val false n.toNat))

/-- On a table that is not paired: LOCK with a lease of a table that nothing holds gives the context the lock, which ends 500 ticks per microsecond later, and is LOCKED otherwise; COMMIT by the owner queues the commit for the next tick, and is LOCKED for another context; ABANDON by the owner starts the discard; SET_PROFILE with a valid image, after every load accepted before it, puts it in force and raises GENERATION exactly when it changes, an invalid one is MALFORMED; OPEN of a CREATED table with a valid profile opens it with GENERATION 0, and of a LEARNING table also schedules its first sweep; DISABLE disables an OPEN table and ENABLE reopens a DISABLED one; DISABLE of a DEFINED table and OPEN of an OPEN one are MALFORMED, DISABLE of a DISABLED one is CONTEXT_DISABLED. A BULK_LOAD whose image passes its checks starts the load, in a state that takes no load it is MALFORMED; BULK_LOAD_COMMIT writes every entry of a DIRECT load, installs an AUTOMATON image that no ranger runs, and changes nothing without a load. -/
def Obligations.TableDescriptorsAct : Prop :=
  (∀ (c : Id12) (n : BitVec 32) (r : Req) (s : State), s.atHand c.val n.toNat 0x16 r → lineLe r.slot1 0x10 2 ≠ 0 →
    (s.tb r.table).lock = none → (s.tb r.table).shrinking = false → (s.tb r.table).migration = none → (s.tb r.table).bulk = none →
    Runs (.lock c n) s (fun t => (t.tb r.table).lock = some
        { owner := c.val, leaseUs := lineLe r.slot1 0x10 2, endTick := s.tick + 500 * lineLe r.slot1 0x10 2 } ∧ ∀ j, j ≠ r.table → t.tb j = s.tb j)) ∧
  (∀ (c : Id12) (n : BitVec 32) (r : Req) (s : State), s.atHand c.val n.toNat 0x16 r → lineLe r.slot1 0x10 2 ≠ 0 →
    (s.tb r.table).lock.isSome = true →
    exec (.lock c n) s = .next ((s.resolve (.req c.val n.toNat) (refusal r.table St.locked)).atEngine c.val false n.toNat)) ∧
  (∀ (c : Id12) (n : BitVec 32) (r : Req) (s : State), s.atHand c.val n.toNat 0x17 r → s.ownsLock r.table c.val = true →
    s.lockRefuses r.table c.val = false →
    exec (.commit c n) s = .next (((s.updLock r.table (fun l =>
      { l with lstate := 2, accept := s.tick, ender := some (.req c.val n.toNat), ready := true })).enqM r.table (.upd 0 .lockCommit) (.req c.val n.toNat) none
        (s.tick + 1)).atEngine c.val false n.toNat)) ∧
  (∀ (c : Id12) (n : BitVec 32) (r : Req) (s : State), s.atHand c.val n.toNat 0x17 r → s.ownsLock r.table c.val = false →
    exec (.commit c n) s = .next ((s.resolve (.req c.val n.toNat) (refusal r.table St.locked)).atEngine c.val false n.toNat)) ∧
  (∀ (c : Id12) (n : BitVec 32) (r : Req) (s : State), s.atHand c.val n.toNat 0x18 r → s.ownsLock r.table c.val = true →
    s.lockRefuses r.table c.val = false →
    exec (.abandon c n) s = .next ((s.startDiscard r.table (some (.req c.val n.toNat))).atEngine c.val false n.toNat)) ∧
  (∀ (c : Id12) (n : BitVec 32) (r : Req) (s : State), s.atHand c.val n.toNat 0x1A r → s.loadBefore r.table r.accept = false →
    profileOk (s.tb r.table) r.profile (s.f fPairEn == 1) = true → (s.tb r.table).state = 1 →
    Runs (.setProfile c n) s (fun t => (t.tb r.table).profile = r.profile ∧
      (t.tb r.table).gen = (if r.profile = (s.tb r.table).profile then (s.tb r.table).gen else ((s.tb r.table).gen + 1) % 65536) ∧
      (t.tb r.table).state = 1 ∧ ∀ j, j ≠ r.table → t.tb j = s.tb j)) ∧
  (∀ (c : Id12) (n : BitVec 32) (r : Req) (s : State), s.atHand c.val n.toNat 0x1A r → s.loadBefore r.table r.accept = false →
    profileOk (s.tb r.table) r.profile (s.f fPairEn == 1) = false →
    exec (.setProfile c n) s = .next ((s.resolve (.req c.val n.toNat) (refusal r.table St.malformed)).atEngine c.val false n.toNat)) ∧
  (∀ (c : Id12) (n : BitVec 32) (r : Req) (s : State), s.atHand c.val n.toNat 0x1B r → (s.tb r.table).state = 1 →
    profileOk (s.tb r.table) (s.tb r.table).profile (s.f fPairEn == 1) = true → Prof.pairMode (s.tb r.table).profile = 0 →
    Runs (.openTable c n) s (fun t => t.tb r.table = { s.tb r.table with state := 2, gen := 0 } ∧
      (∀ j, j ≠ r.table → t.tb j = s.tb j) ∧
      ((s.tb r.table).kind = 4 → t.sweepOf r.table = some { due := s.tick + 500000 * Prof.sweepPeriod (s.tb r.table).profile }))) ∧
  (∀ (c : Id12) (n : BitVec 32) (r : Req) (s : State), s.atHand c.val n.toNat 0x1C r → (s.tb r.table).state = 2 →
    Runs (.disable c n) s (fun t => (t.tb r.table).state = 3 ∧ (t.tb r.table).profile = (s.tb r.table).profile)) ∧
  (∀ (c : Id12) (n : BitVec 32) (r : Req) (s : State), s.atHand c.val n.toNat 0x1C r → (s.tb r.table).state = 1 →
    exec (.disable c n) s = .next ((s.resolve (.req c.val n.toNat) (refusal r.table St.malformed)).atEngine c.val false n.toNat)) ∧
  (∀ (c : Id12) (n : BitVec 32) (r : Req) (s : State), s.atHand c.val n.toNat 0x1C r → (s.tb r.table).state = 3 →
    exec (.disable c n) s = .next ((s.resolve (.req c.val n.toNat) (refusal r.table St.contextDisabled)).atEngine c.val false n.toNat)) ∧
  (∀ (c : Id12) (n : BitVec 32) (r : Req) (s : State), s.atHand c.val n.toNat 0x1B r → (s.tb r.table).state = 2 →
    exec (.openTable c n) s = .next ((s.resolve (.req c.val n.toNat) (refusal r.table St.malformed)).atEngine c.val false n.toNat)) ∧
  (∀ (c : Id12) (n : BitVec 32) (r : Req) (s : State), s.atHand c.val n.toNat 0x1D r → (s.tb r.table).state = 3 →
    Runs (.enable c n) s (fun t => t.tb r.table = { s.tb r.table with state := 2 } ∧ ∀ j, j ≠ r.table → t.tb j = s.tb j)) ∧
  (∀ (c : Id12) (n : BitVec 32) (r : Req) (b : List Byte) (s : State), s.atHand c.val n.toNat 0x19 r → r.flag0 = true →
    (s.tb r.table).lock = none → (s.tb r.table).bulk = none → loadState (s.tb r.table) = true → b.length = lineLe r.slot1 0x18 8 →
    b.take 56 = (bytesOf 64 r.slot2).drop 8 → s.imageOkFor r.table b (lineLe r.slot1 0x18 8) = true →
    exec (.bulkLoad c n b) s =
      .next ((s.loadStart (.req c.val n.toNat) c.val r.table b).atEngine c.val false n.toNat)) ∧
  (∀ (c : Id12) (n : BitVec 32) (r : Req) (b : List Byte) (s : State), s.atHand c.val n.toNat 0x19 r →
    (s.tb r.table).lock = none → loadState (s.tb r.table) = false →
    exec (.bulkLoad c n b) s = .next ((s.resolve (.req c.val n.toNat) (refusal r.table St.malformed)).atEngine c.val false n.toNat)) ∧
  (∀ (i : TableId) (b : Bulk) (s : State), s.up = true → (s.tb i.val).bulk = some b → (s.tb i.val).kind = 1 →
    s.isMirror i.val = false → b.isMirror = false → b.ready = true → b.profile = none → (b.entries.map (fun e => e.1)).Nodup →
    Runs (.bulkLoadCommit i) s (fun t => (t.tb i.val).bulk = none ∧
      (∀ e ∈ b.entries, t.dword (1024 * (s.tb i.val).regionBase + e.1) = e.2) ∧
      ∀ a, (∀ e ∈ b.entries, a ≠ 1024 * (s.tb i.val).regionBase + e.1) → t.dword a = s.dword a)) ∧
  (∀ (i : TableId) (b : Bulk) (s : State), s.up = true → (s.tb i.val).bulk = some b → (s.tb i.val).kind = 5 →
    (∀ k < 32, s.runsImage k i.val = false) → b.isMirror = false → b.profile = none →
    Runs (.bulkLoadCommit i) s (fun t => (t.tb i.val).bulk = none ∧ (t.tb i.val).image = b.image ∧ ∀ j, j ≠ i.val → t.tb j = s.tb j)) ∧
  (∀ (i : TableId) (s : State), (s.tb i.val).bulk = none → exec (.bulkLoadCommit i) s = .next s)

/-- A dispatched SEARCH of an array table requests a search at the context's input for the tick in which the descriptor reaches the port, with the tenant bit of a context that is no steward; of a PREFIX table it waits for the trie, of a DIRECT table for its bank. ENUMERATE requests the first pass of its claimed pair. DIR_PIN and DIR_UNPIN of a page in an HDM-DB region of the context's domain, naming a valid LD of that domain, enter the directory path for the whole page; otherwise they are PRIVILEGE. A SCAN whose checks give a job adds the job, and whose checks fail ends with that status, with room for at most 1,024 jobs. SCAN_RETARGET by a steward sets the mask of the job it names, an empty mask meaning all, and without such a job is NO_MATCH; from another context it is PRIVILEGE. -/
def Obligations.SearchAndPinDescriptorsAct : Prop :=
  (∀ (c : Id12) (n : BitVec 32) (r : Req) (s : State), s.atHand c.val n.toNat 1 r → isArray (s.tb r.table).kind = true →
    exec (.search c n) s = .next ((s.enqOp (s.cx c.val).sport
      { table := r.table, act := .search r.key (!(s.cx c.val).steward) false, origin := .req c.val n.toNat, enq := s.portTick r }).atEngine
        c.val false n.toNat)) ∧
  (∀ (c : Id12) (n : BitVec 32) (r : Req) (s : State), s.atHand c.val n.toNat 1 r → (s.tb r.table).kind = 2 →
    exec (.search c n) s = .next ((s.trieLook r.table (.lookup r.key.key (!(s.cx c.val).steward) false (r.key.leave != 0)) (.req c.val n.toNat)
      (s.portTick r)).atEngine c.val false n.toNat)) ∧
  (∀ (c : Id12) (n : BitVec 32) (r : Req) (s : State), s.atHand c.val n.toNat 1 r → (s.tb r.table).kind = 1 →
    exec (.search c n) s = .next ((s.directOp r.table (.lookup r.key.key (!(s.cx c.val).steward) false (r.key.leave != 0)) (.req c.val n.toNat)
      (s.portTick r)).atEngine c.val false n.toNat)) ∧
  (∀ (c : Id12) (n : BitVec 32) (r : Req) (q : Nat) (s : State), s.atHand c.val n.toNat 2 r → (s.cx c.val).mq = some q →
    exec (.enumerate c n) s = .next ((s.enqOp (s.cx c.val).sport
      { table := r.table, act := .pass r.key (s.qp q).tenant none q false, origin := .req c.val r.n, enq := s.portTick r }).atEngine
        c.val false n.toNat)) ∧
  (∀ (c : Id12) (n : BitVec 32) (r : Req) (s : State), s.atHand c.val n.toNat 0x28 r →
    s.dbPage (s.cx c.val).domain (lineLe r.slot1 0x10 8) = true → lineLe r.slot1 0x18 1 < 32 →
    s.ldValid (lineLe r.slot1 0x18 1) = true → s.ldDomain (lineLe r.slot1 0x18 1) = (s.cx c.val).domain →
    exec (.dirPin c n) s = .next ((s.dirEnter (lineLe r.slot1 0x18 1) (lineLe r.slot1 0x10 8) (.pin c.val n.toNat) true).atEngine
      c.val false n.toNat)) ∧
  (∀ (c : Id12) (n : BitVec 32) (r : Req) (s : State), s.atHand c.val n.toNat 0x29 r →
    s.dbPage (s.cx c.val).domain (lineLe r.slot1 0x10 8) = true → lineLe r.slot1 0x18 1 < 32 →
    s.ldValid (lineLe r.slot1 0x18 1) = true → s.ldDomain (lineLe r.slot1 0x18 1) = (s.cx c.val).domain →
    exec (.dirUnpin c n) s = .next ((s.dirEnter (lineLe r.slot1 0x18 1) (lineLe r.slot1 0x10 8) (.unpin c.val n.toNat) true).atEngine
      c.val false n.toNat)) ∧
  (∀ (c : Id12) (n : BitVec 32) (r : Req) (s : State), s.atHand c.val n.toNat 0x28 r →
    s.dbPage (s.cx c.val).domain (lineLe r.slot1 0x10 8) = false →
    exec (.dirPin c n) s = .next ((s.resolve (.req c.val n.toNat) (refusal 255 St.privilege)).atEngine c.val false n.toNat)) ∧
  (∀ (c : Id12) (n : BitVec 32) (r : Req) (j : ScanJob) (job ranges : List Byte) (s : State), s.up = true → s.pins.fatal = false →
    s.ready c.val n.toNat 0x20 = some r → s.rng.jobs.length < 1024 → s.scanWaits c.val r = false →
    (s.scanRead c.val r job).scanCheck c.val n.toNat r job ranges = .job j →
    Runs (.scan c n job ranges) s (fun t => t.rng.jobs = s.rng.jobs ++ [j] ∧ t.ids = s.ids + 1)) ∧
  (∀ (c : Id12) (n : BitVec 32) (r : Req) (st : Nat) (job ranges : List Byte) (s : State), s.up = true → s.pins.fatal = false →
    s.ready c.val n.toNat 0x20 = some r → s.rng.jobs.length < 1024 → s.scanWaits c.val r = false →
    (s.scanRead c.val r job).scanCheck c.val n.toNat r job ranges = .ends st →
    Runs (.scan c n job ranges) s (fun t => t.rng.jobs = s.rng.jobs ∧
      ∃ q ∈ (t.cx c.val).reqs, q.n = n.toNat ∧ q.phase = 3 ∧ q.outc.map (fun o => o.status) = some st)) ∧
  (∀ (c : Id12) (n : BitVec 32) (r : Req) (job ranges : List Byte) (s : State), s.ready c.val n.toNat 0x20 = some r →
    1024 ≤ s.rng.jobs.length → exec (.scan c n job ranges) s = .next s) ∧
  (∀ (c : Id12) (n : BitVec 32) (r : Req) (j : ScanJob) (s : State), s.up = true → s.pins.fatal = false →
    s.ready c.val n.toNat 0x21 = some r → (s.cx c.val).steward = true → s.rng.jobs = [j] → j.ctx = lineLe r.slot1 0x10 2 →
    j.tag = lineLe r.slot1 0x12 2 → (s.cx j.ctx).domain = (s.cx c.val).domain →
    Runs (.scanRetarget c n) s (fun t => ∃ k, t.rng.jobs = [{ j with mask := k }] ∧
      k = (if lineLe r.slot1 0x14 4 = 0 then BitVec.allOnes 32 else BitVec.ofNat 32 (lineLe r.slot1 0x14 4)))) ∧
  (∀ (c : Id12) (n : BitVec 32) (r : Req) (s : State), s.up = true → s.pins.fatal = false →
    s.ready c.val n.toNat 0x21 = some r → (s.cx c.val).steward = true → s.rng.jobs = [] →
    exec (.scanRetarget c n) s = .next ((s.resolve (.req c.val n.toNat) { refusal 0 St.noMatch with tick := s.tick }).atEngine
      c.val false n.toNat)) ∧
  (∀ (c : Id12) (n : BitVec 32) (r : Req) (s : State), s.up = true → s.pins.fatal = false →
    s.ready c.val n.toNat 0x21 = some r → (s.cx c.val).steward = false →
    exec (.scanRetarget c n) s = .next ((s.resolve (.req c.val n.toNat) (refusal 0 St.privilege)).atEngine c.val false n.toNat))

/-- A write of MAINT_CMD_CTRL by a requester that may write BAR0: while BUSY nothing changes; without GO only the register's fields change and no operation starts; with GO, BUSY is set and, when the path's checks pass, the operation of the opcode is carried out as the same operation of the context that the register names. A reserved opcode ends MALFORMED. MAINT_CMD_COMPLETE after the operation's tick stores STATUS and TICK and clears BUSY, and not before. A write of the eviction seed stores it unless it is zero. -/
def Obligations.CommandPathActs : Prop :=
  (∀ (who : Who) (w : Word) (s : State), s.f fMaintBusy = 1 →
    ∀ i ∈ [Instr.maintInsert who w, Instr.maintUpdate who w, Instr.maintDelete who w, Instr.maintReadByHandle who w,
      Instr.maintReadByKey who w, Instr.maintLock who w, Instr.maintCommit who w, Instr.maintAbandon who w,
      Instr.maintReservedOpcode who w], exec i s = .next s) ∧
  (∀ (who : Who) (w : Word) (s : State), s.up = true → s.pins.fatal = false → s.mayBar0 who = true → s.f fMaintBusy = 0 →
    bit w 0 = false → Runs (.maintInsert who w) s (fun t => t.mnt = s.mnt ∧ t.f fMaintBusy = 0 ∧ t.f fMaintOp = 1 ∧
      (∀ o, o ≠ 0x4d000 → t.reg o = s.reg o))) ∧
  (∀ (who : Who) (w : Word) (t s : State), s.up = true → s.pins.fatal = false → s.mayBar0 who = true → s.f fMaintBusy = 0 →
    bit w 0 = true → (s.pathStarted 1 w).pathOk →
    (s.pathStarted 1 w).doInsert .cmdPath ((s.pathStarted 1 w).f fMaintCtx) (s.pathStarted 1 w).maintReq = some t →
    exec (.maintInsert who w) s = .next t.pathGoes) ∧
  (∀ (who : Who) (w : Word) (t s : State), s.up = true → s.pins.fatal = false → s.mayBar0 who = true → s.f fMaintBusy = 0 →
    bit w 0 = true → (s.pathStarted 2 w).pathOk →
    (s.pathStarted 2 w).doUpdate .cmdPath ((s.pathStarted 2 w).f fMaintCtx) (s.pathStarted 2 w).maintReq = some t →
    exec (.maintUpdate who w) s = .next t.pathGoes) ∧
  (∀ (who : Who) (w : Word) (t s : State), s.up = true → s.pins.fatal = false → s.mayBar0 who = true → s.f fMaintBusy = 0 →
    bit w 0 = true → (s.pathStarted 3 w).pathOk →
    (s.pathStarted 3 w).doDelete .cmdPath ((s.pathStarted 3 w).f fMaintCtx) (s.pathStarted 3 w).maintReq = some t →
    exec (.maintDelete who w) s = .next t.pathGoes) ∧
  (∀ (who : Who) (w : Word) (t s : State), s.up = true → s.pins.fatal = false → s.mayBar0 who = true → s.f fMaintBusy = 0 →
    bit w 0 = true → (s.pathStarted 4 w).pathOk →
    (s.pathStarted 4 w).doRead .cmdPath ((s.pathStarted 4 w).f fMaintCtx) (s.pathStarted 4 w).maintReq = some t →
    exec (.maintReadByHandle who w) s = .next t.pathGoes) ∧
  (∀ (who : Who) (w : Word) (s : State), s.up = true → s.pins.fatal = false → s.mayBar0 who = true → s.f fMaintBusy = 0 →
    bit w 0 = true → (s.pathStarted 5 w).pathOk →
    exec (.maintReadByKey who w) s = .next ((s.pathStarted 5 w).doReadKey .cmdPath ((s.pathStarted 5 w).f fMaintCtx)
      (s.pathStarted 5 w).maintReq).pathGoes) ∧
  (∀ (who : Who) (w : Word) (s : State), s.up = true → s.pins.fatal = false → s.mayBar0 who = true → s.f fMaintBusy = 0 →
    bit w 0 = true → (s.pathStarted 6 w).pathOk →
    exec (.maintLock who w) s = .next ((s.pathStarted 6 w).doLock .cmdPath ((s.pathStarted 6 w).f fMaintCtx)
      (s.pathStarted 6 w).maintReq).pathGoes) ∧
  (∀ (who : Who) (w : Word) (s : State), s.up = true → s.pins.fatal = false → s.mayBar0 who = true → s.f fMaintBusy = 0 →
    bit w 0 = true → (s.pathStarted 7 w).pathOk →
    exec (.maintCommit who w) s = .next ((s.pathStarted 7 w).doCommit .cmdPath ((s.pathStarted 7 w).f fMaintCtx)
      (s.pathStarted 7 w).maintReq).pathGoes) ∧
  (∀ (who : Who) (w : Word) (s : State), s.up = true → s.pins.fatal = false → s.mayBar0 who = true → s.f fMaintBusy = 0 →
    bit w 0 = true → (s.pathStarted 8 w).pathOk →
    exec (.maintAbandon who w) s = .next ((s.pathStarted 8 w).doAbandon .cmdPath ((s.pathStarted 8 w).f fMaintCtx)
      (s.pathStarted 8 w).maintReq).pathGoes) ∧
  (∀ (who : Who) (w : Word) (s : State), s.up = true → s.pins.fatal = false → s.mayBar0 who = true → s.f fMaintBusy = 0 →
    bit w 0 = true → Runs (.maintReservedOpcode who w) s (fun t => t.f fMaintBusy = 1 ∧
      ∃ op o, t.mnt.cmd = some (op, some o) ∧ o.status = St.malformed)) ∧
  (∀ (op : Nat) (o : Outc) (s : State), s.up = true → s.mnt.cmd = some (op, some o) → o.tick < s.tick → 5 < op →
    o.status < 2 ^ 8 →
    Runs .maintCmdComplete s (fun t => t.f fMaintBusy = 0 ∧ t.f fMaintStatus = o.status ∧ t.reg 0x4d010 = BitVec.ofNat 64 o.tick ∧
      t.mnt.cmd = none ∧ ∀ k, k ≠ 0x4d000 → k ≠ 0x4d010 → k ≠ 0x4d018 → t.reg k = s.reg k)) ∧
  (∀ (op : Nat) (o : Outc) (s : State), s.mnt.cmd = some (op, some o) → s.tick ≤ o.tick → exec .maintCmdComplete s = .next s) ∧
  (∀ (who : Who) (w : Word) (s : State), s.up = true → s.mayBar0 who = true → fld w 0 32 ≠ 0 →
    exec (.maintEvictSeedWrite who w) s = .next (s.setF fEvictSeed (fld w 0 32))) ∧
  (∀ (who : Who) (w : Word) (s : State), (s.mayBar0 who = false ∨ fld w 0 32 = 0) → exec (.maintEvictSeedWrite who w) s = .next s)

/-- SEARCH_RESULT_DELIVER delivers the first best-match flight of its port that was granted 15 ticks ago or earlier: a descriptor's search without a winner ends NO_MATCH, with a readable winner SUCCESS with its fields, with a winner whose checked words failed at t13 POISONED with RESULT 0, and a refused one with the refusal's status; before tick 15 nothing is delivered. BACKOFF_EXPIRY clears the wait of an interface once it is over and keeps its losses. ARB_WATCHDOG_FIRE frees a port held for 4,096 ticks without a break point: the interface's queue stays, its losses are zero, the status register names port and input, and the flight of that grant is gone; earlier nothing happens. FIX_APPLY copies the 32 staged fixture registers into the active ones and changes no other register. ARB_PORT_MASK_WRITE writes the mask of inputs 8 to 15 and changes no other register; inputs 0 to 7 and a zero mask of inputs 8 to 14 are ignored. -/
def Obligations.SearchPipelineCommandsAct : Prop :=
  (∀ (p : SPort) (f : Flight) (d : Found) (c n : Nat) (s : State), s.up = true →
    s.arb.flights.find? (fun f => f.bestDue p.val s.tick) = some f → f.refused = none → f.found = some d → d.wins = [] →
    f.op.origin = .req c n →
    exec (.searchResultDeliver p) s = .next ((s.dropFlight f).resolve (.req c n)
      { status := St.noMatch, tick := d.tick, gen := d.gen, table := f.op.table })) ∧
  (∀ (p : SPort) (f : Flight) (d : Found) (w : Win) (ws : List Win) (k : SearchKey) (ten : Bool) (c n : Nat) (s : State), s.up = true →
    s.arb.flights.find? (fun f => f.bestDue p.val s.tick) = some f → f.refused = none → f.found = some d → d.wins = w :: ws →
    f.op.origin = .req c n → f.op.act = .search k ten false → w.fails = false →
    exec (.searchResultDeliver p) s = .next ((s.dropFlight f).resolve (.req c n)
      { status := St.success, tick := d.tick, gen := d.gen, table := f.op.table, count := d.count,
        multi := decide (2 ≤ d.count), handle := w.row.handle, prio := w.row.prio, res := w.row.res, hit := true })) ∧
  (∀ (p : SPort) (f : Flight) (d : Found) (w : Win) (ws : List Win) (k : SearchKey) (ten : Bool) (c n : Nat) (s : State), s.up = true →
    s.arb.flights.find? (fun f => f.bestDue p.val s.tick) = some f → f.refused = none → f.found = some d → d.wins = w :: ws →
    f.op.origin = .req c n → f.op.act = .search k ten false → w.fails = true →
    exec (.searchResultDeliver p) s = .next ((s.dropFlight f).resolve (.req c n)
      { status := St.poisoned, tick := d.tick, gen := d.gen, table := f.op.table, count := d.count,
        multi := decide (2 ≤ d.count), handle := w.row.handle, prio := w.row.prio, res := 0, hit := true })) ∧
  (∀ (p : SPort) (f : Flight) (st c n : Nat) (s : State), s.up = true →
    s.arb.flights.find? (fun f => f.bestDue p.val s.tick) = some f → f.refused = some st → f.op.origin = .req c n →
    exec (.searchResultDeliver p) s = .next ((s.dropFlight f).resolve (.req c n) (refusal f.op.table st))) ∧
  (∀ (p : SPort) (s : State), (∀ f ∈ s.arb.flights, f.port = p.val → s.tick < f.g + 15) →
    exec (.searchResultDeliver p) s = .next s) ∧
  (∀ (i : Fin 16) (p : SPort) (s : State), s.up = true → 0 < (s.iface i.val p.val).losses →
    (s.iface i.val p.val).nextReq ≤ s.tick →
    exec (.backoffExpiry i p) s = .next (s.setIface i.val p.val { s.iface i.val p.val with nextReq := 0 })) ∧
  (∀ (i : Fin 16) (p : SPort) (s : State), s.tick < (s.iface i.val p.val).nextReq →
    exec (.backoffExpiry i p) s = .next s) ∧
  (∀ (p : SPort) (n g : Nat) (s : State), s.up = true → SMap.get (fun _ => none) s.arb.holds p.val = some ⟨n, g, none⟩ → n < 16 →
    g + 4096 ≤ s.tick →
    Runs (.arbWatchdogFire p) s (fun t => t.heldBy p.val (s.tick + 1) = none ∧ (t.iface n p.val).q = (s.iface n p.val).q ∧
      (t.iface n p.val).losses = 0 ∧ t.f ⟨0x10018, 0, 3⟩ = p.val ∧ t.f ⟨0x10018, 4, 4⟩ = n ∧ t.f ⟨0x10018, 8 + p.val, 1⟩ = 1 ∧
      t.arr = s.arr ∧ t.tbl = s.tbl ∧
      ∀ f, s.arb.flights.find? (fun f => f.port == p.val && f.input == n && f.g == g) = some f →
        t.arb.flights = s.arb.flights.erase f)) ∧
  (∀ (p : SPort) (n g : Nat) (s : State), SMap.get (fun _ => none) s.arb.holds p.val = some ⟨n, g, none⟩ →
    s.tick < g + 4096 → exec (.arbWatchdogFire p) s = .next s) ∧
  (∀ (who : Who) (s : State), s.up = true → s.mayBar0 who = true →
    Runs (.fixApply who) s (fun t => (∀ n < 32, t.reg (0x10300 + 8 * n) = s.reg (0x10200 + 8 * n)) ∧
      ∀ o, (∀ n < 32, o ≠ 0x10300 + 8 * n) → t.reg o = s.reg o)) ∧
  (∀ (who : Who) (i : Fin 16) (m : BitVec 8) (s : State), s.up = true → s.mayBar0 who = true → 8 ≤ i.val → (i.val = 15 ∨ m ≠ 0) →
    Runs (.arbPortMaskWrite who i m) s (fun t => t.portMask i.val = m.toNat ∧ ∀ o, o ≠ 0x10100 + 8 * i.val → t.reg o = s.reg o)) ∧
  (∀ (who : Who) (i : Fin 16) (m : BitVec 8) (s : State), (i.val < 8 ∨ (i.val ≠ 15 ∧ m = 0)) →
    exec (.arbPortMaskWrite who i m) s = .next s)

/-- CAS_REQ that comes after t27 is counted LATE and declined; one for a table that is not an OPEN CASCADE table is declined; otherwise t36 is reserved on the first port that can take it, for 1 tick or, for an enumerate, 9 ticks, and the request is declined when the table's searches are paused or no port can. CAS_REPLY stores an intact reply with the flight at its t77; a reply that is not intact is dropped; a later one is counted LATE. CAS_DECLINE marks the flight whose t0 it names, when that flight waits for the partner and has not been declined, and no other. CASCADE_MERGE at t79 merges the partner's reply with the local record, or ends the search PARTIAL when there is none; earlier nothing happens. The merge adds the counts up to 65,535 and takes handle, priority, result word and status from the winner of lower rank, the local one on a tie. ENUM_REPLY by t87 fills the partner half of the pass's bank, which becomes READY at t88; later it has no effect. -/
def Obligations.CascadeCommandsAct : Prop :=
  (∀ (m : CasMsg) (s : State), s.up = true → s.pins.fatal = false → s.localTick m.t0 + 27 < Int.ofNat s.tick →
    exec (.casReq m) s = .next ((s.inc fLate).decline m.t0)) ∧
  (∀ (m : CasMsg) (s : State), s.up = true → s.pins.fatal = false → Int.ofNat s.tick ≤ s.localTick m.t0 + 27 →
    ((s.tb m.table.val).state ≠ 2 ∨ Prof.pairMode (s.tb m.table.val).profile ≠ 2) →
    exec (.casReq m) s = .next (s.decline m.t0)) ∧
  (∀ (m : CasMsg) (p : Nat) (s : State), s.up = true → s.pins.fatal = false → Int.ofNat s.tick ≤ s.localTick m.t0 + 27 →
    (s.tb m.table.val).state = 2 → Prof.pairMode (s.tb m.table.val).profile = 2 → m.enum = false →
    s.paused m.table.val (s.localTick m.t0 + 36).toNat = false →
    s.cascadePort (s.tb m.table.val).placement (s.localTick m.t0 + 36).toNat 1 = some p →
    exec (.casReq m) s = .next { s with arb := { s.arb with resvs := s.arb.resvs ++
      [⟨p, (s.localTick m.t0 + 36).toNat, 1, 15,
        { table := m.table.val, act := Act.search {} false false, origin := .partner m.t0, cells := some m.keys }⟩] } }) ∧
  (∀ (m : CasMsg) (p : Nat) (s : State), s.up = true → s.pins.fatal = false → Int.ofNat s.tick ≤ s.localTick m.t0 + 27 →
    (s.tb m.table.val).state = 2 → Prof.pairMode (s.tb m.table.val).profile = 2 → m.enum = true →
    s.paused m.table.val (s.localTick m.t0 + 36).toNat = false →
    s.cascadePort (s.tb m.table.val).placement (s.localTick m.t0 + 36).toNat 9 = some p →
    exec (.casReq m) s = .next { s with arb := { s.arb with resvs := s.arb.resvs ++
      [⟨p, (s.localTick m.t0 + 36).toNat, 9, 15,
        { table := m.table.val, act := Act.pass {} false m.floor 0 true, origin := .partner m.t0, cells := some m.keys }⟩] } }) ∧
  (∀ (m : CasMsg) (s : State), s.up = true → s.pins.fatal = false → Int.ofNat s.tick ≤ s.localTick m.t0 + 27 →
    (s.tb m.table.val).state = 2 → Prof.pairMode (s.tb m.table.val).profile = 2 →
    (s.paused m.table.val (s.localTick m.t0 + 36).toNat = true ∨
     s.cascadePort (s.tb m.table.val).placement (s.localTick m.t0 + 36).toNat (if m.enum then 9 else 1) = none) →
    exec (.casReq m) s = .next (s.decline m.t0)) ∧
  (∀ (f : Flight) (r : CasRep) (k : SearchKey) (a b : Bool) (s : State), s.up = true → s.arb.flights = [f] → f.cascaded = true →
    f.g + 77 = s.tick → f.reply = none → f.declined = false → f.op.act = .search k a b → r.intact = true →
    exec (.casReply r) s = .next { s with arb := { s.arb with flights := [{ f with reply := some r }] } }) ∧
  (∀ (f : Flight) (r : CasRep) (k : SearchKey) (a b : Bool) (s : State), s.arb.flights = [f] → f.cascaded = true →
    f.g + 77 = s.tick → f.reply = none → f.declined = false → f.op.act = .search k a b → r.intact = false →
    exec (.casReply r) s = .next s) ∧
  (∀ (f : Flight) (r : CasRep) (s : State), s.up = true → s.arb.flights = [f] → f.cascaded = true → f.g + 77 < s.tick →
    f.reply = none → exec (.casReply r) s = .next (s.inc fLate)) ∧
  (∀ (f : Flight) (rest : List Flight) (s : State), s.up = true → s.arb.flights = f :: rest → f.cascaded = true → f.reply = none →
    f.declined = false → f ∉ rest →
    exec (.casDecline f.g) s = .next { s with arb := { s.arb with flights := { f with declined := true } :: rest } }) ∧
  (∀ (x : Nat) (s : State), (∀ f ∈ s.arb.flights, f.g ≠ x ∨ f.cascaded = false ∨ f.reply.isSome = true ∨ f.declined = true) →
    exec (.casDecline x) s = .next s) ∧
  (∀ (p : SPort) (f : Flight) (r : CasRep) (k : SearchKey) (a b : Bool) (s : State), s.up = true → s.arb.flights = [f] → f.cascaded = true →
    f.port = p.val → f.stuck = false → f.g + 79 ≤ s.tick → f.op.act = .search k a b → f.refused = none → f.reply = some r →
    exec (.cascadeMerge p) s = .next ((s.dropFlight f).resolve f.op.origin (mergeCascade f.localOutc r))) ∧
  (∀ (p : SPort) (f : Flight) (k : SearchKey) (a b : Bool) (s : State), s.up = true → s.arb.flights = [f] → f.cascaded = true →
    f.port = p.val → f.stuck = false → f.g + 79 ≤ s.tick → f.op.act = .search k a b → f.refused = none → f.reply = none →
    f.localOutc.status ≠ St.poisoned →
    exec (.cascadeMerge p) s = .next (((s.dropFlight f).inc fPartialLocal).resolve f.op.origin
      { f.localOutc with status := St.partial_ })) ∧
  (∀ (p : SPort) (s : State), (∀ f ∈ s.arb.flights, f.port = p.val → f.cascaded = true → s.tick < f.g + 79) →
    exec (.cascadeMerge p) s = .next s) ∧
  (∀ (l : Outc) (r : CasRep), (mergeCascade l r).count = min (l.count + r.count.toNat) 65535 ∧
    (mergeCascade l r).multi = decide (2 ≤ min (l.count + r.count.toNat) 65535) ∧
    (r.hit = true → (l.hit = false ∨ r.prio.toNat * 2 ^ 22 + r.handle.toNat < l.prio * 2 ^ 22 + l.handle) →
      (mergeCascade l r).partner = true ∧ (mergeCascade l r).handle = r.handle.toNat ∧ (mergeCascade l r).prio = r.prio.toNat ∧
      (mergeCascade l r).res = r.res ∧ (mergeCascade l r).status = r.status.toNat) ∧
    (l.hit = true → (r.hit = false ∨ l.prio * 2 ^ 22 + l.handle ≤ r.prio.toNat * 2 ^ 22 + r.handle.toNat) →
      (mergeCascade l r).partner = l.partner ∧ (mergeCascade l r).handle = l.handle ∧ (mergeCascade l r).prio = l.prio ∧
      (mergeCascade l r).res = l.res ∧ (mergeCascade l r).status = l.status) ∧
    (l.hit = false → r.hit = false → (mergeCascade l r).status = St.noMatch)) ∧
  (∀ (f : Flight) (q : Nat) (n : BitVec 16) (rs : List MsgRec) (s : State), s.up = true → s.arb.flights = [f] → f.cascaded = true →
    f.committed = true → f.reply = none → f.declined = false → s.tick ≤ f.g + 87 → s.passFor f = some q →
    Runs (.enumReply n rs) s (fun t => t.arb.flights = [] ∧ (t.qp q).countP = n.toNat ∧
      ((t.qp q).bank (s.qp q).pass).readyAt = some (f.g + 88) ∧
      ((t.qp q).bank (s.qp q).pass).partner = (rs.take 32).map (fun r => ⟨r.res, r.prio, r.handle, r.poison, true, 0⟩) ∧
      ((t.qp q).bank (s.qp q).pass).local_ = ((s.qp q).bank (s.qp q).pass).local_ ∧ ∀ j, j ≠ q → t.qp j = s.qp j)) ∧
  (∀ (f : Flight) (n : BitVec 16) (rs : List MsgRec) (s : State), s.arb.flights = [f] → f.g + 87 < s.tick →
    exec (.enumReply n rs) s = .next s)

/-- ROW_COMMIT commits the next due flight that is no switch, no mirrored change and no repair, and before its commit tick nothing. For a descriptor's operation on a table that is not journaled: an INSERT stores the row, points its handle at it and ends SUCCESS; with a victim the victim's handle is freed, TABLE_EVICT raised, and it ends EVICTED; an UPDATE stores the new row with the H and A bits of the row it replaces; a DELETE frees the live row and ends SUCCESS, or NO_MATCH when the row is no longer live; a READ_BY_HANDLE returns the row of the handle. RELOCATION_SWITCH frees the old row, makes the new one live with the old one's state, points the handle at it and ends the relocation; earlier nothing happens. TALLY_REPAIR writes the shadow's row with correct parity and changes no other row; when the row was written after the visit that found it, the repair is counted as discarded, the row is visited again, and no row changes. -/
def Obligations.RowCommitsAct : Prop :=
  (∀ (f : Flight) (s : State), s.up = true →
    s.nextCommit (fun f => !f.isSwitch && !f.isMirrored && !f.isRepair) = some f →
    exec .rowCommit s = .next (s.commitFlight f)) ∧
  (∀ (s : State), (∀ f ∈ s.arb.flights, s.tick < f.g + 5) → exec .rowCommit s = .next s) ∧
  (∀ (f : Flight) (a : Nat) (r : Row) (c n : Nat) (s : State), s.up = true → s.arb.flights = [f] → f.stuck = false → f.g + 5 ≤ s.tick →
    f.op.act = .write a r (.insert none) → f.op.origin = .req c n → f.mseq = none → s.journals f.op.table = false →
    exec .rowCommit s = .next ((((s.dropFlight f).commitRow a r s.tick).setHrow f.op.table r.handle (some a)).resolve (.req c n)
      { status := St.success, tick := s.tick, table := f.op.table, handle := r.handle })) ∧
  (∀ (f : Flight) (a v : Nat) (r : Row) (c n : Nat) (s : State), s.up = true → s.arb.flights = [f] → f.stuck = false → f.g + 5 ≤ s.tick →
    f.op.act = .write a r (.insert (some v)) → f.op.origin = .req c n → f.mseq = none → s.journals f.op.table = false →
    s.liveRow f.op.table v = some a → f.op.table ≠ 255 → (s.tb f.op.table).migration = none →
    exec .rowCommit s = .next (((((((s.dropFlight f).setHrow f.op.table v none).rowLeft a).commitRow a r s.tick).setHrow f.op.table r.handle (some a)).raise
        .tableEvict (argTH f.op.table v) r.handle).resolve (.req c n)
      { status := St.evicted, tick := s.tick, table := f.op.table, handle := r.handle, victim := v })) ∧
  (∀ (f : Flight) (a b : Nat) (r : Row) (c n : Nat) (s : State), s.up = true → s.arb.flights = [f] → f.stuck = false → f.g + 5 ≤ s.tick →
    f.op.act = .write a r .update → f.op.origin = .req c n → f.mseq = none → s.journals f.op.table = false →
    s.liveRow f.op.table r.handle = some b →
    exec .rowCommit s = .next (((s.dropFlight f).commitRow b ((r.setH (s.row b).h).setA (s.row b).a) s.tick).resolve (.req c n)
      { status := St.success, tick := s.tick, table := f.op.table, handle := r.handle })) ∧
  (∀ (f : Flight) (a : Nat) (r : Row) (c n : Nat) (s : State), s.up = true → s.arb.flights = [f] → f.stuck = false → f.g + 5 ≤ s.tick →
    f.op.act = .write a r .free → f.op.origin = .req c n → f.mseq = none → s.journals f.op.table = false →
    (s.row a).live = true → (s.row a).table = f.op.table → f.op.table ≠ 255 → (s.tb f.op.table).migration = none →
    exec .rowCommit s = .next ((((s.dropFlight f).freeRow a).rowLeft a).resolve (.req c n)
      { status := St.success, tick := s.tick, table := f.op.table, handle := (s.row a).handle })) ∧
  (∀ (f : Flight) (a : Nat) (r : Row) (c n : Nat) (s : State), s.up = true → s.arb.flights = [f] → f.stuck = false → f.g + 5 ≤ s.tick →
    f.op.act = .write a r .free → f.op.origin = .req c n → f.mseq = none → (s.row a).live = false →
    exec .rowCommit s = .next ((s.dropFlight f).resolve (.req c n) { refusal f.op.table St.noMatch with tick := s.tick })) ∧
  (∀ (f : Flight) (a c n h b : Nat) (s : State), s.up = true → s.arb.flights = [f] → f.stuck = false → f.g + 5 ≤ s.tick →
    f.op.act = .read a → f.op.origin = .req c n → f.op.named = some (c, h) → s.viewRow f.op.table c h = some b →
    (s.arow b).bad = 0 →
    exec .rowCommit s = .next ((s.dropFlight f).resolve (.req c n)
      { status := St.success, tick := s.tick, table := f.op.table, handle := h, image := some (s.row b).returned, hit := true })) ∧
  (∀ (t : TableId) (h : BitVec 22) (f : Flight) (x : Reloc) (s : State), s.up = true → s.arb.flights = [f] → f.stuck = false → f.g + 5 ≤ s.tick →
    f.op.table = t.val → f.op.act = .upd h.toNat (.switch x.new) → f.op.origin = .tm → f.mseq = none → s.mnt.relocs = [x] →
    x.table = t.val → x.handle = h.toNat → x.row = none → (s.row x.old).live = true → (s.row x.old).handle = h.toNat →
    (s.row x.old).table = t.val → s.mnt.tmWait = [] → (s.tb t.val).migration = none →
    exec (.relocationSwitch t h) s = .next ((((({ s.dropFlight f with mnt := { s.mnt with relocs := [] } } : State).commitRow x.old {} 0).rowLeft x.old).commitRow
      x.new ((((s.row x.new).takeState (s.row x.old)).setV true).setG false) (s.arow x.old).lastWrite).setHrow t.val h.toNat (some x.new))) ∧
  (∀ (t : TableId) (h : BitVec 22) (s : State), (∀ f ∈ s.arb.flights, s.tick < f.g + 5 ∨ f.isSwitch = false ∨ f.op.table ≠ t.val) →
    exec (.relocationSwitch t h) s = .next s) ∧
  (∀ (f : Flight) (a v : Nat) (r : Row) (s : State), s.up = true → s.arb.flights = [f] → f.stuck = false → f.g + 5 ≤ s.tick →
    f.op.act = .write a r (.repair v) → f.op.origin = .tally → v + 1 < num s.ras.rowTick a →
    Runs .tallyRepair s (fun t => t.f fTallyDiscarded = min (s.f fTallyDiscarded + 1) 65535 ∧ t.ras.revisit = s.ras.revisit ++ [a] ∧
      t.ras.repairs = s.ras.repairs.filter (fun r => r.row != a) ∧ t.arb.flights = [] ∧ t.arr = s.arr ∧ t.tbl = s.tbl)) ∧
  (∀ (f : Flight) (a v : Nat) (r : Row) (s : State), s.up = true → s.arb.flights = [f] → f.stuck = false → f.g + 5 ≤ s.tick →
    f.op.act = .write a r (.repair v) → f.op.origin = .tally → num s.ras.rowTick a ≤ v + 1 →
    Runs .tallyRepair s (fun t => t.row a = (if (s.shadowOf a).isFree then {} else s.shadowOf a) ∧ (t.arow a).bad = 0 ∧
      (∀ b, b ≠ a → t.arow b = s.arow b) ∧ t.ras.repairs = s.ras.repairs.filter (fun r => r.row != a) ∧
      t.arb.flights = [] ∧ t.tbl = s.tbl)) ∧
  (∀ (s : State), (∀ f ∈ s.arb.flights, s.tick < f.g + 5 ∨ f.isRepair = false) → exec .tallyRepair s = .next s)

/-- With owner commands served: CREATE_TABLE of an array kind on a FREE ID with free blocks makes it DEFINED with the initial profile, its blocks and the lowest free run of handle-map units; one of kind 2 takes its prefixes from the free count; an ID in use, ID 254, and kinds 0 and above 5 end MALFORMED. RESIZE_TABLE that grows an array table takes the new blocks and raises the generation by one; one that shrinks it, with no lock held, marks the leaving blocks and stays in progress. SHRINK_END takes the leaving blocks out of the placement and raises the generation once no row there is used or promised to work under way, moves rows on while some are left, and does nothing for a table that is not shrinking. SHRINK_BLOCK_CLEAR, 24 ticks later and not before, clears and frees the blocks and ends the command SUCCESS. DESTROY_TABLE puts a table in state DESTROYING and ends its lock, or ends MALFORMED on a FREE ID; DESTROY_CLEAR_START clears its handle map, prefixes and image 24 ticks later and leaves its rows, which are cleared one segment of each block a tick from then on, exactly the rows of that segment of those blocks; and DESTROY_ID_FREE frees the ID and blocks 88 ticks later and reports SUCCESS; neither acts earlier. MIGRATE_TABLE takes the target blocks and makes the table dual-homed; MIGRATION_CUTOVER requests the cut-over once every live row has its copy; MIGRATION_OLD_CLEAR frees the old blocks 88 ticks after it and ends the command SUCCESS with the cut-over's tick, and not before. DIR_PROFILE with values in range sets table 255's profile and raises its generation when the profile changes. -/
def Obligations.TableOwnerCommandsAct : Prop :=
  (∀ (via : OwnerPath) (t : TableId) (k m : Byte) (d u : BitVec 16) (bs : BlockSet) (c : BitVec 32) (s : State), s.ownerRuns via = true →
    d.toNat < 4096 → (s.tb t.val).state = 0 → t.val < 254 → isArray k.toNat = true →
    createParamsOk k.toNat m.toNat bs c.toNat u.toNat = true → s.createRoom k.toNat m.toNat bs c.toNat u.toNat = true →
    Runs (.createTable via t k d m bs c u) s (fun x => EndsWith s x via 0x20 ∧
      x.tb t.val = { state := 1, kind := k.toNat, domain := d.toNat, profile := Prof.initial, blocks := bs, maxBlocks := m.toNat,
                     hmapBase := (lowestRun 128 m.toNat (fun i => s.hmapFree.getLsbD i)).getD 0 } ∧
      x.blockFree = s.blockFree &&& ~~~bs ∧ ∀ j, j ≠ t.val → x.tb j = s.tb j)) ∧
  (∀ (via : OwnerPath) (t : TableId) (k m : Byte) (d u : BitVec 16) (bs : BlockSet) (c : BitVec 32) (s : State), s.ownerRuns via = true →
    d.toNat < 4096 → (s.tb t.val).state = 0 → t.val < 254 → k = 2 →
    createParamsOk 2 m.toNat bs c.toNat u.toNat = true → c.toNat ≤ s.f fPrefixFree →
    Runs (.createTable via t k d m bs c u) s (fun x => EndsWith s x via 0x20 ∧
      x.tb t.val = { state := 1, kind := 2, domain := d.toNat, profile := Prof.initial, count := c.toNat } ∧
      x.f fPrefixFree = s.f fPrefixFree - c.toNat ∧ ∀ j, j ≠ t.val → x.tb j = s.tb j)) ∧
  (∀ (via : OwnerPath) (t : TableId) (k m : Byte) (d u : BitVec 16) (bs : BlockSet) (c : BitVec 32) (s : State), s.ownerRuns via = true →
    d.toNat < 4096 → ((s.tb t.val).state ≠ 0 ∨ t.val = 254 ∨ k = 0 ∨ 5 < k.toNat) →
    exec (.createTable via t k d m bs c u) s = .next (s.ownerEnd via 0x20 St.malformed)) ∧
  (∀ (via : OwnerPath) (t : TableId) (bs : BlockSet) (c : BitVec 32) (s : State), s.ownerRuns via = true →
    resizeBad t.val (s.tb t.val) bs c.toNat = none → s.resizeCond t.val (s.tb t.val) bs c.toNat = none →
    isArray (s.tb t.val).kind = true → (s.tb t.val).blocks &&& ~~~bs = 0 →
    Runs (.resizeTable via t bs c) s (fun x => EndsWith s x via 0x21 ∧
      x.tb t.val = { s.tb t.val with blocks := bs, gen := ((s.tb t.val).gen + 1) % 65536 } ∧
      x.blockFree = s.blockFree &&& ~~~(bs &&& ~~~(s.tb t.val).blocks) ∧ ∀ j, j ≠ t.val → x.tb j = s.tb j)) ∧
  (∀ (via : OwnerPath) (t : TableId) (bs : BlockSet) (c : BitVec 32) (s : State), s.ownerRuns via = true →
    resizeBad t.val (s.tb t.val) bs c.toNat = none → s.resizeCond t.val (s.tb t.val) bs c.toNat = none →
    isArray (s.tb t.val).kind = true → (s.tb t.val).blocks &&& ~~~bs ≠ 0 → (s.tb t.val).lock = none →
    Runs (.resizeTable via t bs c) s (fun x => x.mbox = { s.mbox with running := some via } ∧
      x.tb t.val = { s.tb t.val with shrinking := true, leaving := (s.tb t.val).blocks &&& ~~~bs, shrinkVia := some via, shrinkWait := none } ∧
      x.regs = s.regs ∧ ∀ j, j ≠ t.val → x.tb j = s.tb j)) ∧
  (∀ (t : TableId) (s : State), s.up = true → (s.tb t.val).shrinking = true → (s.tb t.val).s2 = none →
    (∀ a ∈ s.takenRows, (s.tb t.val).leaving.getLsbD (blockOf a) = false) →
    exec (.shrinkEnd t) s = .next (s.setTb t.val { s.tb t.val with
      blocks := (s.tb t.val).blocks &&& ~~~(s.tb t.val).leaving, shrinking := false, s2 := some s.tick,
      gen := ((s.tb t.val).gen + 1) % 65536 })) ∧
  (∀ (t : TableId) (s : State), s.up = true → s.rowsIn t.val (s.tb t.val).leaving ≠ [] →
    exec (.shrinkEnd t) s = .next (s.shrinkMoves t.val)) ∧
  (∀ (t : TableId) (s : State), (s.tb t.val).shrinking = false → exec (.shrinkEnd t) s = .next s) ∧
  (∀ (t : TableId) (c : Nat) (via : OwnerPath) (s : State), s.up = true → (s.tb t.val).s2 = some c → c + 24 ≤ s.tick →
    (s.tb t.val).shrinkVia = some via →
    Runs (.shrinkBlockClear t) s (fun x => EndsWith s x via 0x21 ∧
      x.tb t.val = { s.tb t.val with leaving := 0, s2 := none, shrinkVia := none } ∧
      x.blockFree = s.blockFree ||| (s.tb t.val).leaving ∧
      (∀ a, (s.tb t.val).leaving.getLsbD (blockOf a) = true → x.row a = {}) ∧
      (∀ a, (s.tb t.val).leaving.getLsbD (blockOf a) = false → x.arow a = s.arow a) ∧ ∀ j, j ≠ t.val → x.tb j = s.tb j)) ∧
  (∀ (t : TableId) (c : Nat) (s : State), (s.tb t.val).s2 = some c → s.tick < c + 24 → exec (.shrinkBlockClear t) s = .next s) ∧
  (∀ (via : OwnerPath) (t : TableId) (s : State), s.ownerRuns via = true → t.val < 254 → (s.tb t.val).state ≠ 0 → (s.tb t.val).state ≠ 4 →
    Runs (.destroyTable via t) s (fun x => (x.tb t.val).state = 4 ∧ (x.tb t.val).destroy = some (via, s.tick) ∧
      (x.tb t.val).lock = none ∧ x.mbox = { s.mbox with running := some via })) ∧
  (∀ (via : OwnerPath) (t : TableId) (s : State), s.ownerRuns via = true → t.val < 254 → (s.tb t.val).state = 0 →
    exec (.destroyTable via t) s = .next (s.ownerEnd via 0x22 St.malformed)) ∧
  (∀ (t : TableId) (via : OwnerPath) (d : Nat) (s : State), s.up = true → (s.tb t.val).destroy = some (via, d) → d + 24 ≤ s.tick →
    (s.tb t.val).clearStarted = false →
    Runs (.destroyClearStart t) s (fun x => x.tb t.val = { s.tb t.val with prefixes := [], image := [], clearStarted := true } ∧
      (∀ h, h < 2 ^ 22 → x.hrow t.val h = none) ∧ (∀ j, j ≠ t.val → x.tb j = s.tb j) ∧ (∀ a, x.arow a = s.arow a))) ∧
  (∀ (b : BlockSet) (i a : Nat) (s : State), (s.clearSegs b i).row a =
    if segOf a % 64 = i ∧ b.getLsbD (blockOf a) = true then {} else s.row a) ∧
  (∀ (t : TableId) (via : OwnerPath) (d : Nat) (s : State), (s.tb t.val).destroy = some (via, d) → s.tick < d + 24 →
    exec (.destroyClearStart t) s = .next s) ∧
  (∀ (t : TableId) (via : OwnerPath) (d : Nat) (s : State), s.up = true → (s.tb t.val).destroy = some (via, d) → d + 88 ≤ s.tick →
    (s.tb t.val).clearStarted = true →
    Runs (.destroyIdFree t) s (fun x => x.tb t.val = {} ∧ (∀ j, j ≠ t.val → x.tb j = s.tb j) ∧
      x.blockFree = s.blockFree ||| (s.tb t.val).placement ||| (s.tb t.val).leaving ∧
      x.mbox = { s.mbox with done := s.mbox.done ++ [⟨via, 0x22, St.success, d, []⟩], running := none })) ∧
  (∀ (t : TableId) (via : OwnerPath) (d : Nat) (s : State), (s.tb t.val).destroy = some (via, d) → s.tick < d + 88 →
    exec (.destroyIdFree t) s = .next s) ∧
  (∀ (via : OwnerPath) (t : TableId) (bs : BlockSet) (s : State), s.ownerRuns via = true →
    s.migrateBad t.val (s.tb t.val) bs = none → (s.tb t.val).lock = none →
    Runs (.migrateTable via t bs) s (fun x => x.mbox = { s.mbox with running := some via } ∧
      x.tb t.val = { s.tb t.val with mig := bs, migration := some { via := via, target := bs }, migWait := none } ∧
      x.blockFree = s.blockFree &&& ~~~bs ∧ ∀ j, j ≠ t.val → x.tb j = s.tb j)) ∧
  (∀ (t : TableId) (m : Mig) (s : State), s.up = true → (s.tb t.val).migration = some m → m.cut = none →
    (∀ e ∈ s.rowsIn t.val (s.tb t.val).blocks, e.2.live = true → ∃ c ∈ m.copies, c.1 = e.2.handle) → s.mnt.relocs = [] →
    s.queuedOps = [] → (∀ f ∈ s.arb.flights, f.op.act ≠ .upd 0 .cutover) →
    exec (.migrationCutover t) s = .next (s.enqOp 12 { table := t.val, act := .upd 0 .cutover, origin := .tm })) ∧
  (∀ (t : TableId) (m : Mig) (c : Nat) (s : State), s.up = true → (s.tb t.val).migration = some m → m.cut = some c → c + 88 ≤ s.tick →
    Runs (.migrationOldClear t) s (fun x =>
      x.mbox = { s.mbox with done := s.mbox.done ++ [⟨m.via, 0x23, St.success, c, []⟩], running := none } ∧
      x.tb t.val = { s.tb t.val with migration := none } ∧
      x.blockFree = s.blockFree ||| m.oldBlocks ∧ x.arr = s.arr ∧ ∀ j, j ≠ t.val → x.tb j = s.tb j)) ∧
  (∀ (t : TableId) (m : Mig) (c : Nat) (s : State), (s.tb t.val).migration = some m → m.cut = some c → s.tick < c + 88 →
    exec (.migrationOldClear t) s = .next s) ∧
  (∀ (via : OwnerPath) (p : BitVec 32) (g : Byte) (s : State), s.ownerRuns via = true → (s.tb 255).state ≠ 0 → (s.tb 255).state ≠ 4 →
    g.toNat ≤ 64 → minSweep (s.tb 255).maxBlocks ≤ p.toNat → p.toNat ≤ 1048575 →
    Runs (.dirProfile via p g) s (fun x => EndsWith s x via 0x25 ∧ (x.tb 255).profile = dirProfileOf p.toNat g.toNat ∧
      (dirProfileOf p.toNat g.toNat ≠ (s.tb 255).profile → (x.tb 255).gen = ((s.tb 255).gen + 1) % 65536) ∧
      x.tb 255 = { s.tb 255 with profile := (x.tb 255).profile, gen := (x.tb 255).gen } ∧ ∀ j, j ≠ 255 → x.tb j = s.tb j))

/-- PLACEMENT_DECISION decides the oldest insert whose turn it is from its fourth tick on, at most one a tick: with the lowest free handle, in the covering segment with most free rows, else, when none covers it, in the segment of least growth with more free rows than GLADE_TARGET, at its lowest free row; with no free row or no free handle it evicts or is refused. TABLE_MANAGER_PLACEMENT moves a movable row out of a covering segment and lets the insert wait for that row, or, when no segment covers it, places it in the segment of least growth; it does nothing with nothing to place or while the management processor is stopped. GLADE_RESTORE starts the relocation of one movable row of a segment with fewer free rows than GLADE_TARGET, and does nothing in a segment with enough, or outside every table. CANOPY_TIGHTEN requests a tightening of a segment that lost rows to the canopy set of its rows and of the writes granted to it when that is smaller, and drops the mark of one that is exact. LEASE_EXPIRY at or after a lock's last tick starts the discard of the lock, and does nothing earlier, for a bulk load, for a lock of the partner's context, or without a lock. -/
def Obligations.MaintenanceEngineCommandsAct : Prop :=
  (∀ (i : Ins) (rest : List Ins) (h g a : Nat) (s u : State), s.up = true → s.mnt.lastDecision ≠ some s.tick → s.mnt.placeQ = i :: rest → s.imageTurn i = true →
    i.at_ + 4 ≤ s.tick → u = { s with mnt := { s.mnt with placeQ := rest, lastDecision := some s.tick } } →
    i.given = none → i.mirrored = false → u.lowHandle i.table = some h → u.shrinkFull i.table u.takenRows = false →
    betterMost (((u.cands i.table u.takenRows (i.row.canopy (u.tb i.table).gov)).filter (fun c => decide (1 ≤ c.2.1))).filter
      (fun c => c.2.2 == 0)) = some g → lowRow u.takenRows g = some a →
    exec .placementDecision s = .next (u.placeAt i h a none)) ∧
  (∀ (i : Ins) (rest : List Ins) (h g a : Nat) (s u : State), s.up = true → s.mnt.lastDecision ≠ some s.tick → s.mnt.placeQ = i :: rest → s.imageTurn i = true →
    i.at_ + 4 ≤ s.tick → u = { s with mnt := { s.mnt with placeQ := rest, lastDecision := some s.tick } } →
    i.given = none → i.mirrored = false → u.lowHandle i.table = some h → u.shrinkFull i.table u.takenRows = false →
    betterMost (((u.cands i.table u.takenRows (i.row.canopy (u.tb i.table).gov)).filter (fun c => decide (1 ≤ c.2.1))).filter
      (fun c => c.2.2 == 0)) = none →
    leastGrowth (((u.cands i.table u.takenRows (i.row.canopy (u.tb i.table).gov)).filter (fun c => decide (1 ≤ c.2.1))).filter
      (fun c => decide (Prof.gladeTarget (u.tb i.table).gov < c.2.1))) = some g → lowRow u.takenRows g = some a →
    exec .placementDecision s = .next (u.placeAt i h a none)) ∧
  (∀ (i : Ins) (rest : List Ins) (h : Nat) (s u : State), s.up = true → s.mnt.lastDecision ≠ some s.tick → s.mnt.placeQ = i :: rest → s.imageTurn i = true →
    i.at_ + 4 ≤ s.tick → u = { s with mnt := { s.mnt with placeQ := rest, lastDecision := some s.tick } } →
    i.given = none → i.mirrored = false → s.ras.mpRunning = true → u.lowHandle i.table = some h →
    (u.cands i.table u.takenRows (i.row.canopy (u.tb i.table).gov)).filter (fun c => decide (1 ≤ c.2.1)) = [] →
    exec .placementDecision s = .next (u.evictOr i (some h))) ∧
  (∀ (i : Ins) (rest : List Ins) (s u : State), s.up = true → s.mnt.lastDecision ≠ some s.tick → s.mnt.placeQ = i :: rest → s.imageTurn i = true →
    i.at_ + 4 ≤ s.tick → u = { s with mnt := { s.mnt with placeQ := rest, lastDecision := some s.tick } } →
    i.given = none → u.lowHandle i.table = none →
    exec .placementDecision s = .next (u.evictOr i none)) ∧
  (∀ (s : State), s.mnt.lastDecision = some s.tick ∨ s.mnt.placeQ = [] → exec .placementDecision s = .next s) ∧
  (∀ (i : Ins) (rest : List Ins) (s : State), s.mnt.placeQ = i :: rest → s.imageTurn i = true → s.tick < i.at_ + 4 → exec .placementDecision s = .next s) ∧
  (∀ (i : Ins) (rest : List Ins) (h g a : Nat) (s u : State), s.up = true → s.ras.mpRunning = true → s.mnt.tmQ = i :: rest →
    u = { s with mnt := { s.mnt with tmQ := rest } } → i.given = none → u.lowHandle i.table = some h →
    u.shrinkFull i.table u.takenRows = false → (∀ c ∈ u.cands i.table u.takenRows (i.row.canopy (u.tb i.table).gov), c.2.2 ≠ 0) →
    leastGrowth ((u.cands i.table u.takenRows (i.row.canopy (u.tb i.table).gov)).filter (fun c => decide (1 ≤ c.2.1))) = some g →
    lowRow u.takenRows g = some a →
    exec .tableManagerPlacement s = .next (u.placeAt i h a none)) ∧
  (∀ (i : Ins) (rest : List Ins) (g f y d n : Nat) (w : Row) (more : List (Nat × Nat × Nat)) (ys : List (Nat × Row)) (s u : State), s.up = true → s.ras.mpRunning = true → s.mnt.tmQ = i :: rest →
    u = { s with mnt := { s.mnt with tmQ := rest } } → u.shrinkFull i.table u.takenRows = false →
    (u.cands i.table u.takenRows (i.row.canopy (u.tb i.table).gov)).filter (fun c => c.2.2 == 0) = (g, f, 0) :: more → (u.rowsOf i.table).filter (fun e => segOf e.1 == g && u.movable i.table e.2 && !u.moving i.table e.2.handle) = (y, w) :: ys →
    betterMost ((u.cands i.table u.takenRows (w.canopy (u.tb i.table).gov)).filter (fun c =>
      c.1 != g && decide (1 ≤ c.2.1) && c.2.2 == 0)) = some d → lowRow u.takenRows d = some n →
    Runs .tableManagerPlacement s (fun t => t.mnt.relocs = (u.startReloc i.table y n none .tm).mnt.relocs ∧
      t.arb = (u.startReloc i.table y n none .tm).arb ∧
      t.mnt.tmWait = (u.startReloc i.table y n none .tm).mnt.tmWait ++ [(w.handle, { i with reservedRow := some y })] ∧ t.arr = s.arr)) ∧
  (∀ (s : State), s.ras.mpRunning = false ∨ s.mnt.tmQ = [] → exec .tableManagerPlacement s = .next s) ∧
  (∀ (g : Fin 8192) (t y d n : Nat) (w : Row) (ys : List (Nat × Row)) (s : State), s.up = true → s.ras.mpRunning = true → s.tableOf (g.val / 64) = some t →
    (s.tb t).shrinking = false → (s.tb t).state ≠ 4 → freeIn s.takenRows g.val < Prof.gladeTarget (s.tb t).profile →
    (s.tb t).openBlocks.getLsbD (g.val / 64) = true → (s.rowsOf t).filter (fun e => segOf e.1 == g.val && s.movable t e.2 &&
      !s.moving t e.2.handle) = (y, w) :: ys →
    betterMost ((s.cands t s.takenRows (w.canopy (s.tb t).profile)).filter (fun c =>
      c.1 != g.val && decide (Prof.gladeTarget (s.tb t).profile < c.2.1) && c.2.2 == 0)) = some d → lowRow s.takenRows d = some n →
    exec (.gladeRestore g) s = .next (s.startReloc t y n none .tm)) ∧
  (∀ (g : Fin 8192) (t : Nat) (s : State), s.tableOf (g.val / 64) = some t → (s.tb t).shrinking = false →
    Prof.gladeTarget (s.tb t).profile ≤ freeIn s.takenRows g.val → exec (.gladeRestore g) s = .next s) ∧
  (∀ (g : Fin 8192) (s : State), s.ras.mpRunning = false ∨ s.tableOf (g.val / 64) = none → exec (.gladeRestore g) s = .next s) ∧
  (∀ (g : Fin 8192) (t : Nat) (z : BitVec 256) (s : State), s.up = true → s.ras.mpRunning = true → num s.mnt.left g.val ≠ 0 →
    s.tableOf (g.val / 64) = some t → s.queuedOps = [] → (s.tb t).state ≠ 4 → z = s.segCanopy (s.tb t).gov g.val →
    z &&& s.zOf g.val = z → z ≠ s.zOf g.val →
    exec (.canopyTighten g) s = .next (s.enqM t (.upd 0 (.tighten g.val z s.tick)) .tm)) ∧
  (∀ (g : Fin 8192) (t : Nat) (s : State), s.up = true → s.ras.mpRunning = true → num s.mnt.left g.val ≠ 0 →
    s.tableOf (g.val / 64) = some t → s.queuedOps = [] → (s.tb t).state ≠ 4 → s.zBadOf g.val = 0 →
    s.zOf g.val = s.segCanopy (s.tb t).gov g.val →
    exec (.canopyTighten g) s = .next { s with mnt := { s.mnt with left := setNum s.mnt.left g.val 0 } }) ∧
  (∀ (g : Fin 8192) (s : State), num s.mnt.left g.val = 0 → exec (.canopyTighten g) s = .next s) ∧
  (∀ (t : TableId) (l : Lock) (s : State), s.up = true → (s.tb t.val).lock = some l → l.bulk = false → l.lstate = 1 → l.owner < 4096 →
    l.endTick ≤ s.tick →
    exec (.leaseExpiry t) s = .next (s.startDiscard t.val none)) ∧
  (∀ (t : TableId) (l : Lock) (s : State), s.up = true → (s.tb t.val).lock = some l → l.bulk = false → l.lstate = 1 → l.owner < 4096 →
    l.endTick ≤ s.tick →
    s.arb.flights = [] →
    Runs (.leaseExpiry t) s (fun u => (u.tb t.val).lock = some { l with lstate := 3, reserved := [], accept := s.tick, ender := none } ∧
      (∀ j, j ≠ t.val → u.tb j = s.tb j) ∧ u.arr = s.arr)) ∧
  (∀ (t : TableId) (l : Lock) (s : State), (s.tb t.val).lock = some l → l.bulk = true ∨ 4096 ≤ l.owner ∨ s.tick < l.endTick →
    exec (.leaseExpiry t) s = .next s) ∧
  (∀ (t : TableId) (s : State), (s.tb t.val).lock = none → exec (.leaseExpiry t) s = .next s)

/-- ENUM_PASS_DELIVER from t23 on writes the records of a pass's winners into its bank, which becomes READY at t24, notes the count (and for the first pass tick, generation and count), and changes no other pair; a partner's pass is answered by a message; before t23 nothing happens. BANK_READY makes the bank READY at its tick and not before; without more matches the pair is EXHAUSTED; with more, records beyond the lowest open rank are dropped and the next pass is set to start after it. CONTINUATION_QUEUE queues that pass once the other bank is EMPTY, for the tick after the one in which both hold. BANK_DRAIN_TAKE takes a READY bank with records for draining when the other one is EMPTY, empties one without records, and does nothing while a bank drains, none is READY or the other one is not EMPTY. NEXT_READ returns a zero line to another LD, a not-valid line without a queue pair, the next record, the END record when all are spent, and a not-valid line otherwise. MATCH_ENTRY_WRITE writes up to three records of the draining bank in one completion entry while the ring has room. RESET_QUEUE ends SUCCESS with the pair FREE and no other pair changed, or QUEUE_EMPTY without a pair. -/
def Obligations.MatchQueueCommandsAct : Prop :=
  (∀ (p : SPort) (f : Flight) (d : Found) (q c n : Nat) (s : State), s.up = true →
    s.arb.flights.find? (fun f => f.passDue p.val s.tick) = some f → f.op.origin = .req c n → f.cascaded = false → f.refused = none →
    s.isCascade f.op.table = false → f.found = some d → s.passFor f = some q →
    Runs (.enumPassDeliver p) s (fun t => t.arb.flights = s.arb.flights.erase f ∧
      ((t.qp q).bank (s.qp q).pass).local_ = d.wins.map (Win.mqRec false) ∧
      ((t.qp q).bank (s.qp q).pass).readyAt = some (f.g + 24) ∧ (t.qp q).countL = d.count ∧
      ((s.qp q).pass = 0 → (t.qp q).firstTick = d.tick ∧ (t.qp q).firstGen = d.gen ∧ (t.qp q).firstCount = d.count) ∧
      (∀ j, j ≠ q → t.qp j = s.qp j) ∧ t.arr = s.arr ∧ t.ras = s.ras)) ∧
  (∀ (p : SPort) (f : Flight) (d : Found) (t0 : Nat) (s : State), s.up = true →
    s.arb.flights.find? (fun f => f.passDue p.val s.tick) = some f → f.op.origin = .partner t0 → f.found = some d →
    exec (.enumPassDeliver p) s = .next ((s.dropFlight f).linkSend (.enumReply t0 d.count (d.wins.map (fun w =>
      ⟨(w.mqRec true).res, (w.mqRec true).prio, (w.mqRec true).handle, (w.mqRec true).poison⟩))))) ∧
  (∀ (p : SPort) (s : State), (∀ f ∈ s.arb.flights, f.port = p.val → s.tick < f.g + 23) →
    exec (.enumPassDeliver p) s = .next s) ∧
  (∀ (q : TableId) (r : Nat) (s : State), s.up = true → s.arb.flights = [] → (s.qp q.val).state ≠ 0 →
    ((s.qp q.val).bank (s.qp q.val).pass).readyAt = some r → r ≤ s.tick → ((s.qp q.val).bank (s.qp q.val).pass).st = 1 →
    openRank (s.qp q.val).countL ((s.qp q.val).bank (s.qp q.val).pass).local_ = none →
    openRank (s.qp q.val).countP ((s.qp q.val).bank (s.qp q.val).pass).partner = none →
    Runs (.bankReady q) s (fun t => (t.qp q.val).state = 2 ∧
      (t.qp q.val).bank (s.qp q.val).pass = { (s.qp q.val).bank (s.qp q.val).pass with st := 2, readyAt := none } ∧
      ∀ j, j ≠ q.val → t.qp j = s.qp j)) ∧
  (∀ (q : TableId) (r k : Nat) (s : State), s.up = true → s.arb.flights = [] → (s.qp q.val).state ≠ 0 →
    ((s.qp q.val).bank (s.qp q.val).pass).readyAt = some r → r ≤ s.tick → ((s.qp q.val).bank (s.qp q.val).pass).st = 1 →
    minOpt (openRank (s.qp q.val).countL ((s.qp q.val).bank (s.qp q.val).pass).local_)
      (openRank (s.qp q.val).countP ((s.qp q.val).bank (s.qp q.val).pass).partner) = some k →
    (s.qp q.val).endStatus = none → (s.tb (s.qp q.val).table).state = 2 →
    Runs (.bankReady q) s (fun t => (t.qp q.val).next = some (BitVec.ofNat 38 k) ∧ (t.qp q.val).nextAt = s.tick + 1 ∧
      (t.qp q.val).state = (s.qp q.val).state ∧
      ((t.qp q.val).bank (s.qp q.val).pass).local_ = ((s.qp q.val).bank (s.qp q.val).pass).local_.filter (fun r => decide (r.rank ≤ k)) ∧
      ((t.qp q.val).bank (s.qp q.val).pass).partner = ((s.qp q.val).bank (s.qp q.val).pass).partner.filter (fun r => decide (r.rank ≤ k)) ∧
      ((t.qp q.val).bank (s.qp q.val).pass).st = 2 ∧ ∀ j, j ≠ q.val → t.qp j = s.qp j)) ∧
  (∀ (q : TableId) (r : Nat) (s : State), ((s.qp q.val).bank (s.qp q.val).pass).readyAt = some r → s.tick < r →
    exec (.bankReady q) s = .next s) ∧
  (∀ (q : TableId) (k : BitVec 38) (s : State), s.up = true → (s.qp q.val).next = some k → (s.qp q.val).nextAt ≤ s.tick + 1 →
    ((s.qp q.val).bank ((s.qp q.val).pass + 1)).st = 0 → (s.qp q.val).state = 1 →
    exec (.continuationQueue q) s = .next ((s.setQp q.val { s.qp q.val with next := none }).enqOp 14
      { table := (s.qp q.val).table, act := .pass (s.qp q.val).key (s.qp q.val).tenant (some k) q.val false,
        origin := .req (s.qp q.val).ctx (s.qp q.val).n, enq := (s.qp q.val).nextAt })) ∧
  (∀ (q : TableId) (s : State), ((s.qp q.val).next = none ∨ s.tick + 1 < (s.qp q.val).nextAt ∨
      ((s.qp q.val).bank ((s.qp q.val).pass + 1)).st ≠ 0) → exec (.continuationQueue q) s = .next s) ∧
  (∀ (q : TableId) (s : State), s.up = true → (s.qp q.val).bank0.st = 2 → (s.qp q.val).bank1.st = 0 →
    ((s.qp q.val).bank0.local_ ≠ [] ∨ (s.qp q.val).bank0.partner ≠ []) →
    exec (.bankDrainTake q) s = .next (s.setQp q.val { s.qp q.val with bank0 := { (s.qp q.val).bank0 with st := 3 } })) ∧
  (∀ (q : TableId) (s : State), s.up = true → (s.qp q.val).bank1.st = 2 → (s.qp q.val).bank0.st = 0 →
    ((s.qp q.val).bank1.local_ ≠ [] ∨ (s.qp q.val).bank1.partner ≠ []) →
    exec (.bankDrainTake q) s = .next (s.setQp q.val { s.qp q.val with bank1 := { (s.qp q.val).bank1 with st := 3 } })) ∧
  (∀ (q : TableId) (s : State), s.up = true → (s.qp q.val).bank0.st = 2 → (s.qp q.val).bank1.st = 0 →
    (s.qp q.val).bank0.local_ = [] → (s.qp q.val).bank0.partner = [] →
    exec (.bankDrainTake q) s = .next (s.setQp q.val { s.qp q.val with bank0 := {}, nextAt := max (s.qp q.val).nextAt (s.tick + 1) })) ∧
  (∀ (q : TableId) (s : State), ((s.qp q.val).bank0.st = 3 ∨ (s.qp q.val).bank1.st = 3 ∨
      ((s.qp q.val).bank0.st ≤ 1 ∧ (s.qp q.val).bank1.st ≤ 1) ∨ ((s.qp q.val).bank0.st ≠ 0 ∧ (s.qp q.val).bank1.st ≠ 0)) → exec (.bankDrainTake q) s = .next s) ∧
  (∀ (ld : LdId) (c : Id12) (s : State), s.up = true → s.pins.fatal = false → (s.cx c.val).ldid ≠ ld.val →
    exec (.nextRead ld c) s = .next (s.send (.line ld.val c.val 63 0))) ∧
  (∀ (ld : LdId) (c : Id12) (s : State), s.up = true → s.pins.fatal = false → (s.cx c.val).assigned = true → (s.cx c.val).ldid = ld.val →
    (s.cx c.val).mq = none → exec (.nextRead ld c) s = .next (s.send (.line ld.val c.val 63 (recLine (notValid false))))) ∧
  (∀ (ld : LdId) (c : Id12) (q : Nat) (r : BitVec 128) (s u : State), s.up = true → s.pins.fatal = false →
    (s.cx c.val).assigned = true → (s.cx c.val).ldid = ld.val → (s.cx c.val).mq = some q → (s.qp q).ring = false →
    s.takeRecord q = some (r, u) →
    exec (.nextRead ld c) s = .next (u.send (.line ld.val c.val 63 (recLine r)))) ∧
  (∀ (ld : LdId) (c : Id12) (q : Nat) (s : State), s.up = true → s.pins.fatal = false →
    (s.cx c.val).assigned = true → (s.cx c.val).ldid = ld.val → (s.cx c.val).mq = some q → (s.qp q).ring = false →
    s.takeRecord q = none → (s.qp q).spent = true →
    exec (.nextRead ld c) s = .next ((s.endConsumed q).send (.line ld.val c.val 63 (recLine (s.qp q).endRec)))) ∧
  (∀ (ld : LdId) (c : Id12) (q : Nat) (s : State), s.up = true → s.pins.fatal = false →
    (s.cx c.val).assigned = true → (s.cx c.val).ldid = ld.val → (s.cx c.val).mq = some q →
    ((s.qp q).ring = true ∨ (s.takeRecord q = none ∧ (s.qp q).spent = false)) →
    exec (.nextRead ld c) s = .next (s.send (.line ld.val c.val 63 (recLine (notValid true))))) ∧
  (∀ (q : TableId) (n : Fin 4) (b : Nat) (r : BitVec 128) (rs : List (BitVec 128)) (x : Req) (s u : State), s.up = true →
    (s.qp q.val).draining = some b → (s.qp q.val).ring = true → n.val ≠ 0 → s.cqFree (s.qp q.val).ctx = true →
    (s.cx (s.qp q.val).ctx).state ≠ 3 → s.takeRecords q.val b n.val = (r :: rs, u) →
    (s.cx (s.qp q.val).ctx).req? false (s.qp q.val).n = some x →
    exec (.matchEntryWrite q n) s = .next (u.cqWrite (s.qp q.val).ctx (fun ph => cqHeader ph 2 (rs.length + 1)
        (x.n % 2 ^ s.ringLog (offSq (s.qp q.val).ctx)) 2 (s.qp q.val).table 0 St.success x.tag)
      (((r :: rs).zip [0, 128, 256]).foldl (fun (w : BitVec 384) e => w ||| ((e.1.setWidth 384) <<< e.2)) 0))) ∧
  (∀ (q : TableId) (n : Fin 4) (s : State), ((s.qp q.val).draining = none ∨ (s.qp q.val).ring = false ∨ n.val = 0 ∨
      s.cqFree (s.qp q.val).ctx = false) → exec (.matchEntryWrite q n) s = .next s) ∧
  (∀ (c : Id12) (n : BitVec 32) (r : Req) (q : Nat) (s : State), s.up = true → s.ready c.val n.toNat 3 = some r → (s.cx c.val).mq = some q →
    exec (.resetQueue c n) s = .next ((s.resetQueue q).resolve (.req c.val n.toNat) { status := St.success, tick := s.tick })) ∧
  (∀ (c : Id12) (n : BitVec 32) (r : Req) (s : State), s.up = true → s.ready c.val n.toNat 3 = some r → (s.cx c.val).mq = none →
    exec (.resetQueue c n) s = .next (s.resolve (.req c.val n.toNat) { status := St.queueEmpty, tick := s.tick })) ∧
  (∀ (c : Id12) (n : BitVec 32) (r : Req) (q : Nat) (s : State), s.up = true → s.ready c.val n.toNat 3 = some r → (s.cx c.val).mq = some q → (s.qp q).state ≠ 0 →
    Runs (.resetQueue c n) s (fun t => t.qp q = {} ∧ (∀ j, j ≠ q → t.qp j = s.qp j) ∧ t.arr = s.arr ∧ t.tbl = s.tbl))

/-- LEARN_DECIDE decides the first undecided learn of its table whose probe has returned and whose entry has not moved since: with no earlier learn in flight a poisoned probe ends the learn POISONED; without a lock and with no earlier learn of the key in flight, an entry of the same source is marked hit, one of another source is rewritten with the new source and result word, a static one of another source is kept, counted and reported, and with no entry the learn's row goes to placement; with no probe returned nothing is decided. LEARN_RETRY probes again a learn whose entry has moved, with its change withdrawn. SWEEP_PASS_START starts a due pass from the first handle, counts an overrun of its limit, and does nothing before it is due, while one runs, or for a table that is not swept. SWEEPER_VISIT requests the visit of the next handle, of a handle put off before the others, waits while the handle is held, and after the last one ends the pass and sets the next one's start by the sweep period of its last visit. -/
def Obligations.LearningCommandsAct : Prop :=
  (∀ (t : TableId) (o : LearnOp) (r : Outc) (s u : State), s.up = true → u = s.takeProbes t.val →
    u.lrn.ops.find? (fun o => o.table == t.val && o.phase != 2) = some o → o.phase = 1 → o.probe = some r →
    u.lrn.ops.filter (fun x => x.table == t.val && x.key == o.key && x.phase == 2) = [] → u.winnerMoved o = false →
    u.learnFirst o = true → r.status = St.poisoned →
    exec (.learnDecide t) s = .next (u.endLearn o { status := St.poisoned, table := t.val, handle := r.handle, outcome := 6 })) ∧
  (∀ (t : TableId) (o : LearnOp) (r : Outc) (w : Win) (s u : State), s.up = true → u = s.takeProbes t.val →
    u.lrn.ops.find? (fun o => o.table == t.val && o.phase != 2) = some o → o.phase = 1 → o.probe = some r → u.winnerMoved o = false →
    (r.status = St.success ∨ r.status = St.noMatch) →
    u.lrn.ops.filter (fun x => x.table == t.val && x.key == o.key && x.phase == 2) = [] → o.lock = none → u.learnWinner o = some w →
    w.row.src = o.src →
    exec (.learnDecide t) s = .next ((u.decided o 1 (some w.row.handle) (some w.addr)).enqOp 10
      { table := t.val, act := .upd w.row.handle .hit, origin := .learn o.id })) ∧
  (∀ (t : TableId) (o : LearnOp) (r : Outc) (w : Win) (s u : State), s.up = true → u = s.takeProbes t.val →
    u.lrn.ops.find? (fun o => o.table == t.val && o.phase != 2) = some o → o.phase = 1 → o.probe = some r → u.winnerMoved o = false →
    (r.status = St.success ∨ r.status = St.noMatch) →
    u.lrn.ops.filter (fun x => x.table == t.val && x.key == o.key && x.phase == 2) = [] → o.lock = none → u.learnWinner o = some w →
    w.row.src ≠ o.src → w.row.stat = false →
    exec (.learnDecide t) s = .next ((u.decided o 2 (some w.row.handle) (some w.addr)).enqOp 10
      { table := t.val, act := .write w.addr { ((w.row.setSrc o.src).setH true) with res := o.res } .learnMove, origin := .learn o.id })) ∧
  (∀ (t : TableId) (o : LearnOp) (r : Outc) (w : Win) (s u : State), s.up = true → u = s.takeProbes t.val →
    u.lrn.ops.find? (fun o => o.table == t.val && o.phase != 2) = some o → o.phase = 1 → o.probe = some r → u.winnerMoved o = false →
    (r.status = St.success ∨ r.status = St.noMatch) →
    u.lrn.ops.filter (fun x => x.table == t.val && x.key == o.key && x.phase == 2) = [] → o.lock = none → u.learnWinner o = some w →
    w.row.src ≠ o.src → w.row.stat = true → u.learnFirst o = true →
    exec (.learnDecide t) s = .next (((u.inc (fLrn t.val 1 0 32)).raise .learnStaticConflict (argTH t.val w.row.handle w.row.src o.src) 0).endLearn o
      { status := St.success, table := t.val, handle := w.row.handle, outcome := 3 })) ∧
  (∀ (t : TableId) (o : LearnOp) (r : Outc) (s u : State), s.up = true → u = s.takeProbes t.val →
    u.lrn.ops.find? (fun o => o.table == t.val && o.phase != 2) = some o → o.phase = 1 → o.probe = some r → u.winnerMoved o = false →
    (r.status = St.success ∨ r.status = St.noMatch) →
    u.lrn.ops.filter (fun x => x.table == t.val && x.key == o.key && x.phase == 2) = [] → o.lock = none → u.learnWinner o = none →
    Runs (.learnDecide t) s (fun x => x.lrn = (u.decided o 0 none none).lrn ∧ x.arr = u.arr ∧ x.arb = u.arb ∧
      x.mnt.placeQ = u.mnt.placeQ ++ [{ origin := .learn o.id, table := t.val, row := (o.row0 (u.tb t.val).profile), given := none, at_ := u.tick, lock := none, learn := true }])) ∧
  (∀ (t : TableId) (s : State), s.up = true →
    (∀ o ∈ (s.takeProbes t.val).lrn.ops, o.table = t.val → o.phase = 2 ∨ o.probe = none) →
    exec (.learnDecide t) s = .next (s.takeProbes t.val)) ∧
  (∀ (t : TableId) (o : LearnOp) (s u : State), s.up = true → u = s.takeProbes t.val →
    u.lrn.ops.find? (fun o => o.table == t.val && u.winnerMoved o) = some o →
    exec (.learnRetry t) s = .next ((u.discardOps (.learn o.id)).relearn o)) ∧
  (∀ (t : TableId) (s u : State), s.up = true → u = s.takeProbes t.val → (∀ o ∈ u.lrn.ops, o.table = t.val → u.winnerMoved o = false) →
    exec (.learnRetry t) s = .next u) ∧
  (∀ (t : TableId) (w : Sweep) (s : State), s.up = true → s.sweepOf t.val = some w → s.sweeps t.val = true → w.running = false → w.due ≤ s.tick →
    Runs (.sweepPassStart t) s (fun x =>
      x.sweepOf t.val = some { w with running := true, pos := 0, again := [], lastVisit := w.due, period := Prof.sweepPeriod (s.tb t.val).profile } ∧
      x.f (fLrn t.val 3 0 32) = (match w.limit with
        | some l => if l < w.due then min (s.f (fLrn t.val 3 0 32) + 1) (2 ^ 32 - 1) else s.f (fLrn t.val 3 0 32)
        | none => s.f (fLrn t.val 3 0 32)) ∧
      (∀ j, j ≠ t.val → x.sweepOf j = s.sweepOf j) ∧ x.arr = s.arr ∧ x.tbl = s.tbl)) ∧
  (∀ (t : TableId) (s : State), ((∀ w, s.sweepOf t.val = some w → s.tick < w.due ∨ w.running = true) ∨ s.sweeps t.val = false) →
    exec (.sweepPassStart t) s = .next s) ∧
  (∀ (t : TableId) (w : Sweep) (h : Nat) (s : State), s.up = true → s.sweepOf t.val = some w → s.sweeps t.val = true → w.running = true →
    w.again = [] → s.nextVisit t.val w.pos = some h → s.heldH t.val h = false →
    exec (.sweeperVisit t) s = .next ((s.enqOp 11 { table := t.val, act := .upd h .visit, origin := .sweep t.val }).updSweep t.val
      (fun w => { w with pos := h + 1, visits := w.visits ++ [h] }))) ∧
  (∀ (t : TableId) (w : Sweep) (h : Nat) (rest : List Nat) (s : State), s.up = true → s.sweepOf t.val = some w → s.sweeps t.val = true →
    w.running = true → w.again = h :: rest → (s.liveRow t.val h).isSome = true → s.lockMarked t.val h = false → s.heldH t.val h = false →
    exec (.sweeperVisit t) s = .next ((s.enqOp 11 { table := t.val, act := .upd h .visit, origin := .sweep t.val }).updSweep t.val
      (fun w => { w with again := rest, visits := w.visits ++ [h] }))) ∧
  (∀ (t : TableId) (w : Sweep) (h : Nat) (s : State), s.up = true → s.sweepOf t.val = some w → w.again = [] → s.nextVisit t.val w.pos = some h →
    s.heldH t.val h = true → exec (.sweeperVisit t) s = .next s) ∧
  (∀ (t : TableId) (w : Sweep) (s : State), s.up = true → s.sweepOf t.val = some w → s.sweeps t.val = true → w.running = true →
    w.again = [] → s.nextVisit t.val w.pos = none → w.visits = [] →
    Runs (.sweeperVisit t) s (fun x => x.sweepOf t.val = some { w with
        running := false, due := max (w.lastVisit + 1) (w.due + 500000 * w.period),
        limit := some (w.due + 500000 * w.period) } ∧
      x.f (fLrn t.val 3 32 32) = min (s.f (fLrn t.val 3 32 32) + 1) (2 ^ 32 - 1) ∧ (∀ j, j ≠ t.val → x.sweepOf j = s.sweepOf j) ∧ x.arr = s.arr)) ∧
  (∀ (t : TableId) (s : State), (s.sweeps t.val = false ∨ ∀ w, s.sweepOf t.val = some w → w.running = false) →
    exec (.sweeperVisit t) s = .next s)

/-- CHUNK_TAKE on a free thread takes the next chunk of an eligible job: its bytes, its window with the image's reach, and a start in the next tick, or after the image load when the image is not resident; other threads and memory stay; a busy thread, a ranger at its thread limit, and no job take nothing, and no thread takes a chunk while a lower numbered one can. IMAGE_LOAD_DONE starts the thread in the next tick once the load is over, and not before. CHUNK_END at the end of the window counts the chunk, adds a CHUNK_END record when marks are on, and frees the thread when it has nothing to report; before the end nothing happens. REPORT_POST writes the next report at the ring position with its PHASE and counts it, drops one its rule does not post, and waits for a lookup, for ring room and for a context that is not FAULTED. JOB_COMPLETE ends the request with the job's status and counts once every chunk has ended and every report is posted, and not before. RNG_ENABLE is written by a requester that may write BAR0 only. REPORT_CONS of the bound LD of an ENABLED context is stored; from any other LD or state it has no effect. -/
def Obligations.RangerCommandsAct : Prop :=
  (∀ (r : Fin 32) (k : Fin 4) (j : ScanJob) (res : List Resident) (ri ci : Nat) (s : State), s.up = true → s.pins.fatal = false →
    (∀ n < 4 * r.val + k.val, s.takes n = none) → s.takes (4 * r.val + k.val) = some (j, res) → s.rng.jobs = [j] →
    s.hasImage res j.image = true → s.busyThreads r.val = [] →
    chunkAt j.ranges 0 j.next = some (ri, ci) →
    s.dpaOk (s.cx j.ctx).domain ((j.ranges.getD ri (0, 0)).1 + 65536 * ci)
      (min (65536 * (ci + 1) + Img.reach (s.imageOf j.image)) (j.ranges.getD ri (0, 0)).2 - 65536 * ci) = true →
    Runs (.chunkTake r k) s (fun t => t.thread (4 * r.val + k.val) = some {
        job := j.id, seq := j.next, range := ri,
        c0 := 65536 * ci, c1 := min (65536 * (ci + 1)) (j.ranges.getD ri (0, 0)).2, pos := 65536 * ci,
        wEnd := min (65536 * (ci + 1) + Img.reach (s.imageOf j.image)) (j.ranges.getD ri (0, 0)).2,
        st := Img.start (s.imageOf j.image), image := s.imageOf j.image, loadAt := s.tick, start := some (s.tick + 1) } ∧
      t.rng.jobs = [{ j with next := j.next + 1 }] ∧ (∀ n, n ≠ 4 * r.val + k.val → t.thread n = s.thread n) ∧ t.mem = s.mem)) ∧
  (∀ (r : Fin 32) (k : Fin 4) (j : ScanJob) (res : List Resident) (ri ci : Nat) (s : State), s.up = true → s.pins.fatal = false →
    (∀ n < 4 * r.val + k.val, s.takes n = none) → s.takes (4 * r.val + k.val) = some (j, res) → s.rng.jobs = [j] →
    s.hasImage res j.image = false →
    chunkAt j.ranges 0 j.next = some (ri, ci) →
    s.dpaOk (s.cx j.ctx).domain ((j.ranges.getD ri (0, 0)).1 + 65536 * ci)
      (min (65536 * (ci + 1) + Img.reach (s.imageOf j.image)) (j.ranges.getD ri (0, 0)).2 - 65536 * ci) = true →
    Runs (.chunkTake r k) s (fun t => t.thread (4 * r.val + k.val) = some {
        job := j.id, seq := j.next, range := ri,
        c0 := 65536 * ci, c1 := min (65536 * (ci + 1)) (j.ranges.getD ri (0, 0)).2, pos := 65536 * ci,
        wEnd := min (65536 * (ci + 1) + Img.reach (s.imageOf j.image)) (j.ranges.getD ri (0, 0)).2,
        st := Img.start (s.imageOf j.image), image := s.imageOf j.image, loadAt := s.tick + Img.loadTicks (s.imageOf j.image) - 1, start := none } ∧
      t.rng.jobs = [{ j with next := j.next + 1 }] ∧ (∀ n, n ≠ 4 * r.val + k.val → t.thread n = s.thread n) ∧ t.mem = s.mem)) ∧
  (∀ (r : Fin 32) (k : Fin 4) (s : State), ((s.thread (4 * r.val + k.val)).isSome = true ∨ s.threadLimit ≤ ((s.busyThreads r.val).filter (fun t => !t.ended)).length ∨
      s.rng.jobs = []) → exec (.chunkTake r k) s = .next s) ∧
  (∀ (r : Fin 32) (k : Fin 4) (n : Nat) (s : State), n < 4 * r.val + k.val → (s.takes n).isSome = true →
    exec (.chunkTake r k) s = .next s) ∧
  (∀ (r : Fin 32) (k : Fin 4) (t : ScanThread) (s : State), s.up = true → s.thread (4 * r.val + k.val) = some t → t.start = none →
    t.loadAt ≤ s.tick →
    exec (.imageLoadDone r k) s = .next (s.setThread (4 * r.val + k.val) (some { t with start := some (s.tick + 1) }))) ∧
  (∀ (r : Fin 32) (k : Fin 4) (s : State), (∀ t, s.thread (4 * r.val + k.val) = some t → s.tick < t.loadAt ∨ t.start.isSome = true) →
    exec (.imageLoadDone r k) s = .next s) ∧
  (∀ (r : Fin 32) (k : Fin 4) (t : ScanThread) (j : ScanJob) (s : State), s.up = true → s.thread (4 * r.val + k.val) = some t →
    s.job? t.job = some j → t.ended = false → t.start.isSome = true → t.wEnd ≤ t.pos → t.todo = [] → t.stop = none → j.marks = true →
    exec (.chunkEnd r k) s = .next ((s.updJob j.id (fun q => { q with scanned := q.scanned + 1 })).setThread (4 * r.val + k.val)
      (some { t with ended := true, buf := t.buf ++ [{ pos := t.matches_ + 1, kind := 4, off := t.c0 }] }))) ∧
  (∀ (r : Fin 32) (k : Fin 4) (t : ScanThread) (j : ScanJob) (s : State), s.up = true → s.thread (4 * r.val + k.val) = some t →
    s.job? t.job = some j → t.ended = false → t.start.isSome = true → t.wEnd ≤ t.pos → t.todo = [] → t.stop = none → j.marks = false →
    exec (.chunkEnd r k) s = .next ((s.updJob j.id (fun q => { q with scanned := q.scanned + 1 })).setThread (4 * r.val + k.val)
      (if t.buf.isEmpty then none else some { t with ended := true }))) ∧
  (∀ (r : Fin 32) (k : Fin 4) (t : ScanThread) (j : ScanJob) (s : State), s.thread (4 * r.val + k.val) = some t →
    s.job? t.job = some j → (t.ended = true ∨ t.start = none ∨ t.pos < t.wEnd ∨ t.todo ≠ []) → exec (.chunkEnd r k) s = .next s) ∧
  (∀ (r : Fin 32) (k : Fin 4) (t : ScanThread) (j : ScanJob) (e : RepEntry) (rest : List RepEntry) (s u : State), s.up = true →
    u = s.takeLookups (4 * r.val + k.val) → u.thread (4 * r.val + k.val) = some t → u.job? t.job = some j → t.buf = e :: rest →
    e.await = false → e.rule = none → u.reportRoom j = true → (u.cx j.ctx).state ≠ 3 →
    exec (.reportPost r k) s = .next ((((u.busWrite j.ringHost j.ctx (j.ringBase + 32 * (j.posted % 2 ^ j.ringLog))
        (bytesOf 32 (reportBits j t e (j.posted / 2 ^ j.ringLog % 2 == 0)))).updJob j.id
          (fun q => { q with posted := q.posted + 1, lastPost := u.tick })).inc ⟨0x70300 + 8 * r.val, 0, 32⟩).setThread (4 * r.val + k.val)
      (if t.ended && rest.isEmpty then none else some { t with buf := rest, posted := if e.kind ≤ 2 then t.posted + 1 else t.posted }))) ∧
  (∀ (r : Fin 32) (k : Fin 4) (t : ScanThread) (j : ScanJob) (e : RepEntry) (rest : List RepEntry) (i : Nat) (p : ScanRule) (o : Outc)
      (s u : State), s.up = true →
    u = s.takeLookups (4 * r.val + k.val) → u.thread (4 * r.val + k.val) = some t → u.job? t.job = some j → t.buf = e :: rest →
    e.await = false → e.rule = some i → j.rules[i]? = some p → e.outc = some o → postsReport p.post o = false →
    exec (.reportPost r k) s = .next (u.setThread (4 * r.val + k.val)
      (if t.ended && rest.isEmpty then none else some { t with buf := rest }))) ∧
  (∀ (r : Fin 32) (k : Fin 4) (t : ScanThread) (j : ScanJob) (e : RepEntry) (rest : List RepEntry) (s u : State), s.up = true →
    u = s.takeLookups (4 * r.val + k.val) → u.thread (4 * r.val + k.val) = some t → u.job? t.job = some j → t.buf = e :: rest →
    (e.await = true ∨ (e.rule = none ∧ (u.reportRoom j = false ∨ (u.cx j.ctx).state = 3))) →
    exec (.reportPost r k) s = .next u) ∧
  (∀ (c : Id12) (n : BitVec 32) (j : ScanJob) (s : State), s.up = true → s.rng.jobs = [j] → j.ctx = c.val → j.n = n.toNat →
    (∀ e ∈ s.rng.threads, e.2 = none) → j.total ≤ j.next → (j.posted = 0 ∨ j.lastPost < s.tick) →
    exec (.jobComplete c n) s = .next (({ s with rng := { s.rng with jobs := [] } } : State).updCx c.val (·.updReq false n.toNat (fun r =>
      { (r.finish { status := (if j.dropped then St.contextDisabled else if j.skipped then St.privilege
          else if j.poison then St.poisoned else St.success) } s.tick) with
        body := some ((BitVec.ofNat 384 j.scanned) ||| ((BitVec.ofNat 384 j.posted) <<< 64) |||
          ((BitVec.ofNat 384 j.bytes) <<< 128) ||| ((BitVec.ofNat 384 s.tick) <<< 192)) }))).showJobs) ∧
  (∀ (c : Id12) (n : BitVec 32) (j : ScanJob) (s : State), s.rng.jobs = [j] →
    ((∃ e ∈ s.rng.threads, ∃ t, e.2 = some t ∧ t.job = j.id) ∨ (j.next < j.total ∧ j.dropped = false) ∨ (0 < j.posted ∧ s.tick ≤ j.lastPost)) →
    exec (.jobComplete c n) s = .next s) ∧
  (∀ (who : Who) (m : BitVec 32) (s : State), s.up = true → s.mayBar0 who = true →
    exec (.rngEnableWrite who m) s = .next (s.setF ⟨offRngEnable, 0, 32⟩ m.toNat)) ∧
  (∀ (who : Who) (m : BitVec 32) (s : State), s.mayBar0 who = false → exec (.rngEnableWrite who m) s = .next s) ∧
  (∀ (ld : LdId) (c : Id12) (i : Fin 4) (v : BitVec 32) (s : State), s.up = true → (s.cx c.val).assigned = true → (s.cx c.val).ldid = ld.val →
    (s.cx c.val).state = 1 → s.ldValid ld.val = true →
    exec (.reportConsWrite ld c i v) s = .next (s.updCx c.val (fun x => { x with reportCons := setNum x.reportCons i.val v.toNat }))) ∧
  (∀ (ld : LdId) (c : Id12) (i : Fin 4) (v : BitVec 32) (s : State), ((s.cx c.val).ldid ≠ ld.val ∨ (s.cx c.val).state ≠ 1) →
    exec (.reportConsWrite ld c i v) s = .next s)

/-- A requester that may write BAR0 enables a DISABLED context: with both ring sizes from 64 to 4,096 slots and every ring page in order it is ENABLED with its counts zero, its lines IDLE and FAULT_CODE 0; a ring size out of range or no binding gives FAULT_CODE SETUP, a page outside its domain FAULT_CODE DOMAIN, and in any other state nothing happens. Disabling an ENABLED context ends its unadmitted work and makes it DRAINING. A reset of a DISABLED context zeroes its counts and raises INCARNATION; of an ENABLED or FAULTED one it ends the work, zeroes the counts and lets it drain in silence, of a DRAINING one it makes the rest silent; of a DISABLED one that has an operation in progress on the command-register path it first ends that operation. Others than those requesters change nothing. CONTEXT_DRAINED makes a DRAINING context whose work has ended DISABLED, with INCARNATION raised after a reset, and does nothing while work is left. A doorbell write of the bound LD to an ENABLED context stores SQ_PROD or CQ_CONS, or faults the context with code DOORBELL when it runs past the ring or past the completion producer count; from another LD or in another state it has no effect. -/
def Obligations.ContextCommandsAct : Prop :=
  (∀ (who : Who) (c : Id12) (s : State), s.up = true → s.mayBar0 who = true → (s.cx c.val).state = 0 → (s.cx c.val).assigned = true →
    6 ≤ s.ringLog (offSq c.val) → s.ringLog (offSq c.val) ≤ 12 → 6 ≤ s.ringLog (offCq c.val) → s.ringLog (offCq c.val) ≤ 12 →
    s.ringOk c.val (offSq c.val) (64 * 2 ^ s.ringLog (offSq c.val)) = true →
    s.ringOk c.val (offCq c.val) (64 * 2 ^ s.ringLog (offCq c.val)) = true →
    (bit (s.reg (offRbuf c.val)) 0 = true → s.ringOk c.val (offRbuf c.val) (128 * 2 ^ s.ringLog (offSq c.val)) = true) →
    exec (.ctxEnableWrite who c) s = .next ((s.updCx c.val (fun x => { x with state := 1, sqProd := 0, sqCons := 0, cqProd := 0, cqCons := 0, reserved := 0, fetched := [], firstFetch := none, reqs := [], firsts := [], lines := [], resetting := false })).setF (fFaultCode c.val) 0)) ∧
  (∀ (who : Who) (c : Id12) (s : State), s.up = true → s.mayBar0 who = true → (s.cx c.val).state = 0 →
    ((s.cx c.val).assigned = false ∨ s.ringLog (offSq c.val) < 6 ∨ 12 < s.ringLog (offSq c.val) ∨ s.ringLog (offCq c.val) < 6 ∨
      12 < s.ringLog (offCq c.val)) →
    exec (.ctxEnableWrite who c) s = .next (s.setF (fFaultCode c.val) 1)) ∧
  (∀ (who : Who) (c : Id12) (s : State), s.up = true → s.mayBar0 who = true → (s.cx c.val).state = 0 → (s.cx c.val).assigned = true →
    6 ≤ s.ringLog (offSq c.val) → s.ringLog (offSq c.val) ≤ 12 → 6 ≤ s.ringLog (offCq c.val) → s.ringLog (offCq c.val) ≤ 12 →
    (s.ringOk c.val (offSq c.val) (64 * 2 ^ s.ringLog (offSq c.val)) = false ∨
      s.ringOk c.val (offCq c.val) (64 * 2 ^ s.ringLog (offCq c.val)) = false ∨
      (bit (s.reg (offRbuf c.val)) 0 = true ∧ s.ringOk c.val (offRbuf c.val) (128 * 2 ^ s.ringLog (offSq c.val)) = false)) →
    exec (.ctxEnableWrite who c) s = .next (s.setF (fFaultCode c.val) 6)) ∧
  (∀ (who : Who) (c : Id12) (s : State), s.mayBar0 who = false ∨ (s.cx c.val).state ≠ 0 →
    exec (.ctxEnableWrite who c) s = .next s) ∧
  (∀ (who : Who) (c : Id12) (s : State), s.up = true → s.mayBar0 who = true → (s.cx c.val).state = 1 →
    exec (.ctxDisableWrite who c) s = .next ((s.endWork c.val).updCx c.val (fun x => { x with state := 2, fetched := [], firstFetch := none }))) ∧
  (∀ (who : Who) (c : Id12) (s : State), s.mayBar0 who = false ∨ (s.cx c.val).state ≠ 1 →
    exec (.ctxDisableWrite who c) s = .next s) ∧
  (∀ (who : Who) (c : Id12) (s : State), s.up = true → s.mayBar0 who = true → s.mnt.cmd = none → (s.cx c.val).state = 0 →
    exec (.ctxResetWrite who c) s = .next (s.updCx c.val (fun x => { x with incarnation := (x.incarnation + 1) % 65536, sqProd := 0, sqCons := 0, cqProd := 0, cqCons := 0, reserved := 0, lines := [], firsts := [] }))) ∧
  (∀ (who : Who) (c : Id12) (s : State), s.up = true → s.mayBar0 who = true → s.mnt.cmd = none →
    (s.cx c.val).state = 1 ∨ (s.cx c.val).state = 3 →
    exec (.ctxResetWrite who c) s = .next ((s.endWork c.val).updCx c.val (fun x => { x with state := 2, resetting := true, sqProd := 0, sqCons := 0, cqProd := 0, cqCons := 0, reserved := 0, fetched := [], firstFetch := none, reqs := x.reqs.map (fun r => { r with silent := true }), lines := [], firsts := [] }))) ∧
  (∀ (who : Who) (c : Id12) (s : State), s.up = true → s.mayBar0 who = true → s.mnt.cmd = none → (s.cx c.val).state = 2 →
    exec (.ctxResetWrite who c) s = .next (s.updCx c.val (fun x => { x with state := 2, resetting := true, sqProd := 0, sqCons := 0, cqProd := 0, cqCons := 0, reserved := 0, fetched := [], firstFetch := none, reqs := x.reqs.map (fun r => { r with silent := true }), lines := [], firsts := [] }))) ∧
  (∀ (who : Who) (c : Id12) (op : Nat) (s u : State), s.up = true → s.mayBar0 who = true → s.mnt.cmd = some (op, none) →
    s.f fMaintCtx = c.val → u = (s.discardOps .cmdPath).resolve .cmdPath (refusal (s.f fMaintTable) St.contextDisabled) →
    (u.cx c.val).state = 0 →
    exec (.ctxResetWrite who c) s = .next (u.updCx c.val (fun x => { x with incarnation := (x.incarnation + 1) % 65536, sqProd := 0, sqCons := 0, cqProd := 0, cqCons := 0, reserved := 0, lines := [], firsts := [] }))) ∧
  (∀ (who : Who) (c : Id12) (s : State), s.mayBar0 who = false → exec (.ctxResetWrite who c) s = .next s) ∧
  (∀ (c : Id12) (s : State), s.up = true → (s.cx c.val).state = 2 → s.drained c.val = true →
    exec (.contextDrained c) s = .next (s.updCx c.val (fun x => { x with state := 0, incarnation := if x.resetting then (x.incarnation + 1) % 65536 else x.incarnation, reqs := [], resetting := false }))) ∧
  (∀ (c : Id12) (s : State), ((s.cx c.val).state ≠ 2 ∨ (∃ r ∈ (s.cx c.val).reqs, r.silent = false ∨ r.phase ≠ 3) ∨
      (s.cx c.val).mq ≠ none ∨ (∃ j ∈ s.rng.jobs, j.ctx = c.val)) →
    exec (.contextDrained c) s = .next s) ∧
  (∀ (ld : LdId) (c : Id12) (v : BitVec 32) (s : State), s.up = true → (s.cx c.val).assigned = true → (s.cx c.val).ldid = ld.val →
    (s.cx c.val).state = 1 → s.ldValid ld.val = true →
    sub32 v.toNat (s.cx c.val).sqCons ≤ 2 ^ s.ringLog (offSq c.val) →
    exec (.sqProdWrite ld c v) s = .next (s.updCx c.val (fun x => { x with sqProd := v.toNat }))) ∧
  (∀ (ld : LdId) (c : Id12) (v : BitVec 32) (s : State), s.up = true → (s.cx c.val).assigned = true → (s.cx c.val).ldid = ld.val →
    (s.cx c.val).state = 1 → s.ldValid ld.val = true →
    2 ^ s.ringLog (offSq c.val) < sub32 v.toNat (s.cx c.val).sqCons →
    exec (.sqProdWrite ld c v) s = .next ((((s.endWork c.val).updCx c.val (fun x => { x with state := 3, fetched := [], firstFetch := none, reqs := x.reqs.map (fun r => { r with silent := true }) })).setF (fFaultCode c.val) 2).raise .contextFault c.val 2)) ∧
  (∀ (ld : LdId) (c : Id12) (v : BitVec 32) (s : State), s.up = true → (s.cx c.val).assigned = true → (s.cx c.val).ldid = ld.val →
    (s.cx c.val).state = 1 → s.ldValid ld.val = true →
    sub32 v.toNat (s.cx c.val).cqCons ≤ sub32 (s.cx c.val).cqProd (s.cx c.val).cqCons →
    exec (.cqConsWrite ld c v) s = .next (s.updCx c.val (fun x => { x with cqCons := v.toNat }))) ∧
  (∀ (ld : LdId) (c : Id12) (v : BitVec 32) (s : State), s.up = true → (s.cx c.val).assigned = true → (s.cx c.val).ldid = ld.val →
    (s.cx c.val).state = 1 → s.ldValid ld.val = true →
    sub32 (s.cx c.val).cqProd (s.cx c.val).cqCons < sub32 v.toNat (s.cx c.val).cqCons →
    exec (.cqConsWrite ld c v) s = .next ((((s.endWork c.val).updCx c.val (fun x => { x with state := 3, fetched := [], firstFetch := none, reqs := x.reqs.map (fun r => { r with silent := true }) })).setF (fFaultCode c.val) 2).raise .contextFault c.val 2)) ∧
  (∀ (ld : LdId) (c : Id12) (v : BitVec 32) (s : State), ((s.cx c.val).assigned = false ∨ (s.cx c.val).ldid ≠ ld.val ∨ (s.cx c.val).state ≠ 1) →
    exec (.sqProdWrite ld c v) s = .next s ∧ exec (.cqConsWrite ld c v) s = .next s)

/-- A fetch of a slot keeps it when its stamp is the expected one, and waits while its page is held; a page outside the domain faults the context with DOMAIN, poison or a failed DMA with FETCH. DESCRIPTOR_FETCH fetches a covered slot once and notes the tick when the stamp is another; STAMP_REFETCH fetches it again every 256 ticks and STAMP_TIMEOUT a last time after 500,000 ticks, when another stamp faults the context with STAMP; each does nothing earlier. DESCRIPTOR_ACCEPT consumes a complete descriptor, reserves its completion and adds its request after the earlier ones and before the window searches of its own tick; an ENUMERATE claims the lowest free queue pair, or ends MALFORMED when the context has one, NO_ROOM when none is free; without completion room it waits. NOP consumes a NOP without a request. DESCRIPTOR_DISPATCH takes the next request: one that fails a check ends with that status (an ENUMERATE's pair is then free), one that passes goes to its engine, a window search by its table's pair rule. ABORT ends MALFORMED for a target that is no earlier abortable descriptor, stops a target before its commit point and ends SUCCESS, and ends ABORT_TOO_LATE otherwise. A descriptor with an undefined opcode ends MALFORMED. COMPLETION_WRITE writes the entry of the next completion, with the read buffer of a successful read before it, and removes the request; a ring page outside the domain faults the context with DOMAIN, a failed write with WRITE; with no ring room it writes nothing, and with no completion to write it consumes the END record of a spent RING enumeration. -/
def Obligations.DescriptorCommandsAct : Prop :=
  (∀ (c a : Nat) (miss : State → State) (host : Option Line) (l : Line) (s u : State), s.ringHost (offSq c) = false →
    a = s.ringBase (offSq c) + 64 * (((s.cx c).sqCons + (s.cx c).fetched.length) % 2 ^ s.ringLog (offSq c)) →
    s.runOk c a 64 = true → s.runHeld a 64 = false → u = s.readCheck 2 (s.cx c).ldid a 64 → u.ringHost (offSq c) = false →
    u.runPoison a 64 = false → u.readOut a = some l →
    s.fetchSlot c host miss = (if hStamp l = u.stamp c
      then u.updCx c (fun x => { x with fetched := x.fetched ++ [l], firstFetch := none }) else miss u)) ∧
  (∀ (c a : Nat) (miss : State → State) (host : Option Line) (s : State), s.ringHost (offSq c) = false →
    a = s.ringBase (offSq c) + 64 * (((s.cx c).sqCons + (s.cx c).fetched.length) % 2 ^ s.ringLog (offSq c)) →
    s.runOk c a 64 = true → s.runHeld a 64 = true → s.fetchSlot c host miss = s) ∧
  (∀ (c : Nat) (miss : State → State) (l : Line) (s : State), s.ringHost (offSq c) = true →
    s.fetchSlot c (some l) miss = (if hStamp l = s.stamp c
      then s.updCx c (fun x => { x with fetched := x.fetched ++ [l], firstFetch := none }) else miss s)) ∧
  (∀ (c : Nat) (miss : State → State) (s : State), s.ringHost (offSq c) = true → s.fetchSlot c none miss = s.faultCtx c 4) ∧
  (∀ (c a : Nat) (miss : State → State) (host : Option Line) (s : State), s.ringHost (offSq c) = false →
    a = s.ringBase (offSq c) + 64 * (((s.cx c).sqCons + (s.cx c).fetched.length) % 2 ^ s.ringLog (offSq c)) →
    s.runOk c a 64 = false → s.fetchSlot c host miss = s.faultCtx c 6) ∧
  (∀ (c a : Nat) (miss : State → State) (host : Option Line) (s u : State), s.ringHost (offSq c) = false →
    a = s.ringBase (offSq c) + 64 * (((s.cx c).sqCons + (s.cx c).fetched.length) % 2 ^ s.ringLog (offSq c)) →
    s.runOk c a 64 = true → s.runHeld a 64 = false → u = s.readCheck 2 (s.cx c).ldid a 64 → u.ringHost (offSq c) = false →
    u.runPoison a 64 = true → s.fetchSlot c host miss = u.faultCtx c 4) ∧
  (∀ (c : Id12) (host : Option Line) (s : State), s.up = true → (s.cx c.val).state = 1 → (s.cx c.val).firstFetch = none →
    s.complete c.val = false → (s.cx c.val).fetched.length < sub32 (s.cx c.val).sqProd (s.cx c.val).sqCons →
    exec (.descriptorFetch c host) s = .next (s.fetchSlot c.val host (fun u =>
      u.updCx c.val (fun x => { x with firstFetch := some u.tick, nextFetch := u.tick + 256 })))) ∧
  (∀ (c : Id12) (host : Option Line) (s : State), ((s.cx c.val).state ≠ 1 ∨ (s.cx c.val).firstFetch ≠ none ∨
      s.complete c.val = true ∨ sub32 (s.cx c.val).sqProd (s.cx c.val).sqCons ≤ (s.cx c.val).fetched.length) →
    exec (.descriptorFetch c host) s = .next s) ∧
  (∀ (c : Id12) (host : Option Line) (f : Nat) (s : State), s.up = true → (s.cx c.val).state = 1 → (s.cx c.val).firstFetch = some f →
    (s.cx c.val).nextFetch ≤ s.tick → s.tick < f + 500000 →
    exec (.stampRefetch c host) s = .next ((s.inc ⟨offCtxCnt c.val, 32, 32⟩).fetchSlot c.val host (fun u =>
      u.updCx c.val (fun x => { x with nextFetch := x.nextFetch + 256 })))) ∧
  (∀ (c : Id12) (host : Option Line) (s : State), ((s.cx c.val).state ≠ 1 ∨ (s.cx c.val).firstFetch = none ∨
      s.tick < (s.cx c.val).nextFetch ∨ (∃ f, (s.cx c.val).firstFetch = some f ∧ f + 500000 ≤ s.tick)) →
    exec (.stampRefetch c host) s = .next s) ∧
  (∀ (c : Id12) (host : Option Line) (f : Nat) (s : State), s.up = true → (s.cx c.val).state = 1 → (s.cx c.val).firstFetch = some f →
    f + 500000 ≤ s.tick →
    exec (.stampTimeout c host) s = .next ((s.inc ⟨offCtxCnt c.val, 32, 32⟩).fetchSlot c.val host (fun u => u.faultCtx c.val 3))) ∧
  (∀ (c : Id12) (host : Option Line) (s : State), ((s.cx c.val).state ≠ 1 ∨ (s.cx c.val).firstFetch = none ∨
      (∃ f, (s.cx c.val).firstFetch = some f ∧ s.tick < f + 500000)) → exec (.stampTimeout c host) s = .next s) ∧
  (∀ (c : Id12) (l : Line) (ls : List Line) (s : State), s.up = true → (s.cx c.val).state = 1 → s.complete c.val = true →
    (s.cx c.val).fetched = l :: ls → hOp l ≠ 0 → s.cqFree c.val = true → (hOp l ≠ 2 ∨ s.isCut c.val l = true) →
    exec (.descriptorAccept c) s = .next ((s.updCx c.val (fun x => { x with
      sqCons := (x.sqCons + x.fetched.length) % 2 ^ 32, reserved := x.reserved + 1, fetched := [],
      reqs := x.afterEarlier (s.newReq c.val l), firsts := ((s.cx c.val).sqCons, hOp l) :: x.firsts })).inc ⟨offCtxCnt c.val, 0, 32⟩)) ∧
  (∀ (c : Id12) (l : Line) (ls : List Line) (q : Nat) (s u : State), s.up = true → (s.cx c.val).state = 1 → s.complete c.val = true →
    (s.cx c.val).fetched = l :: ls → s.cqFree c.val = true → hOp l = 2 → s.isCut c.val l = false →
    u = (s.updCx c.val (fun x => { x with
      sqCons := (x.sqCons + x.fetched.length) % 2 ^ 32, reserved := x.reserved + 1, fetched := [],
      reqs := x.afterEarlier (s.newReq c.val l), firsts := ((s.cx c.val).sqCons, hOp l) :: x.firsts })).inc ⟨offCtxCnt c.val, 0, 32⟩ →
    (u.cx c.val).mq = none → u.freePair = some q →
    exec (.descriptorAccept c) s = .next ((u.setQp q { state := 1, ctx := c.val, n := (s.cx c.val).sqCons, table := hTable l, ring := (s.newReq c.val l).flag1, key := (s.newReq c.val l).key, tenant := !(u.cx c.val).steward }).updCx c.val
        (fun x => { x with mq := some q }))) ∧
  (∀ (c : Id12) (l : Line) (ls : List Line) (s u : State), s.up = true → (s.cx c.val).state = 1 → s.complete c.val = true →
    (s.cx c.val).fetched = l :: ls → s.cqFree c.val = true → hOp l = 2 → s.isCut c.val l = false →
    u = (s.updCx c.val (fun x => { x with
      sqCons := (x.sqCons + x.fetched.length) % 2 ^ 32, reserved := x.reserved + 1, fetched := [],
      reqs := x.afterEarlier (s.newReq c.val l), firsts := ((s.cx c.val).sqCons, hOp l) :: x.firsts })).inc ⟨offCtxCnt c.val, 0, 32⟩ →
    ((u.cx c.val).mq ≠ none → exec (.descriptorAccept c) s = .next
      (u.resolve (.req c.val (s.cx c.val).sqCons) (refusal (hTable l) St.malformed))) ∧
    ((u.cx c.val).mq = none → u.freePair = none → exec (.descriptorAccept c) s = .next
      (u.resolve (.req c.val (s.cx c.val).sqCons) (refusal (hTable l) St.noRoom)))) ∧
  (∀ (c : Id12) (l : Line) (ls : List Line) (s : State), (s.cx c.val).fetched = l :: ls →
    ((s.cx c.val).state ≠ 1 ∨ s.complete c.val = false ∨ (hOp l ≠ 0 ∧ s.cqFree c.val = false)) →
    exec (.descriptorAccept c) s = .next s) ∧
  (∀ (c : Id12) (l : Line) (ls : List Line) (s : State), s.up = true → s.pins.fatal = false → (s.cx c.val).state = 1 →
    s.complete c.val = true → (s.cx c.val).fetched = l :: ls → hOp l = 0 →
    exec (.nop c) s = .next ((s.updCx c.val (fun x => { x with
      sqCons := (x.sqCons + x.fetched.length) % 2 ^ 32, fetched := [], firsts := ((s.cx c.val).sqCons, 0) :: x.firsts })).inc ⟨offCtxCnt c.val, 0, 32⟩)) ∧
  (∀ (c : Id12) (s : State), ((s.cx c.val).fetched = [] ∨ (∃ l ls, (s.cx c.val).fetched = l :: ls ∧ hOp l ≠ 0)) →
    exec (.nop c) s = .next s) ∧
  (∀ (c : Id12) (r : Req) (s : State), s.up = true → s.pins.fatal = false → ((s.cx c.val).state = 1 ∨ (s.cx c.val).state = 2) →
    s.nextDispatch c.val (s.cx c.val).reqs true = some r → r.window = none → s.descBad c.val r = none →
    exec (.descriptorDispatch c) s = .next (s.updCx c.val (·.updReq false r.n (fun r => { r with phase := 1 })))) ∧
  (∀ (c : Id12) (r : Req) (st : Nat) (s : State), s.up = true → s.pins.fatal = false → ((s.cx c.val).state = 1 ∨ (s.cx c.val).state = 2) →
    s.nextDispatch c.val (s.cx c.val).reqs true = some r → r.window = none → s.descBad c.val r = some st → r.opcode ≠ 2 →
    exec (.descriptorDispatch c) s = .next (s.resolve (.req c.val r.n) (refusal r.table st))) ∧
  (∀ (c : Id12) (r : Req) (st q : Nat) (s u : State), s.up = true → s.pins.fatal = false → ((s.cx c.val).state = 1 ∨ (s.cx c.val).state = 2) →
    s.nextDispatch c.val (s.cx c.val).reqs true = some r → r.window = none → s.descBad c.val r = some st → r.opcode = 2 →
    u = s.resolve (.req c.val r.n) (refusal r.table st) → (u.cx c.val).mq = some q → (u.qp q).n = r.n →
    exec (.descriptorDispatch c) s = .next ((u.setQp q {}).updCx c.val (fun x => { x with mq := none }))) ∧
  (∀ (c : Id12) (r : Req) (i st : Nat) (s : State), s.up = true → s.pins.fatal = false → ((s.cx c.val).state = 1 ∨ (s.cx c.val).state = 2) →
    s.nextDispatch c.val (s.cx c.val).reqs true = some r → r.window = some i → s.windowBad c.val r = some st →
    exec (.descriptorDispatch c) s = .next (s.updCx c.val (·.updReq true r.n (·.finish (refusal r.table st) (r.accept + 2))))) ∧
  (∀ (c : Id12) (r : Req) (i : Nat) (s u : State), s.up = true → s.pins.fatal = false → ((s.cx c.val).state = 1 ∨ (s.cx c.val).state = 2) →
    s.nextDispatch c.val (s.cx c.val).reqs true = some r → r.window = some i → s.windowBad c.val r = none →
    u = s.updCx c.val (·.updReq true r.n (fun r => { r with phase := 2 })) →
    (s.gate r.table = .stale → exec (.descriptorDispatch c) s = .next (u.resolve (.window c.val r.n) (refusal r.table St.staleGeneration))) ∧
    (s.gate r.table = .wait → exec (.descriptorDispatch c) s = .next s) ∧
    (s.gate r.table = .go → exec (.descriptorDispatch c) s = .next
      (u.doSearch (.window c.val r.n) c.val r.table r.key false (r.accept + 7)))) ∧
  (∀ (c : Id12) (s : State), (((s.cx c.val).state ≠ 1 ∧ (s.cx c.val).state ≠ 2) ∨
      s.nextDispatch c.val (s.cx c.val).reqs true = none) → exec (.descriptorDispatch c) s = .next s) ∧
  (∀ (c : Id12) (n : BitVec 32) (r : Req) (s : State), s.up = true → s.ready c.val n.toNat 4 = some r →
    (∀ f ∈ (s.cx c.val).firsts, f.1 ≠ lineLe r.slot1 0x10 4) →
    exec (.abort c n) s = .next (s.resolve (.req c.val r.n) { status := St.malformed, tick := r.accept })) ∧
  (∀ (c : Id12) (n : BitVec 32) (r : Req) (op : Nat) (s : State), s.up = true → s.ready c.val n.toNat 4 = some r →
    (s.cx c.val).firsts.find? (fun f => f.1 == lineLe r.slot1 0x10 4) = some (lineLe r.slot1 0x10 4, op) →
    (sub32 r.n (lineLe r.slot1 0x10 4) = 0 ∨ 2 ^ 31 < sub32 r.n (lineLe r.slot1 0x10 4) ∨ op = 0 ∨ op = 3 ∨ op = 4) →
    exec (.abort c n) s = .next (s.resolve (.req c.val r.n) { status := St.malformed, tick := r.accept })) ∧
  (∀ (c : Id12) (n : BitVec 32) (r g : Req) (op : Nat) (u s : State), s.up = true → s.ready c.val n.toNat 4 = some r →
    (s.cx c.val).firsts.find? (fun f => f.1 == lineLe r.slot1 0x10 4) = some (lineLe r.slot1 0x10 4, op) →
    0 < sub32 r.n (lineLe r.slot1 0x10 4) → sub32 r.n (lineLe r.slot1 0x10 4) ≤ 2 ^ 31 → op ≠ 0 → op ≠ 3 → op ≠ 4 →
    (s.cx c.val).req? false (lineLe r.slot1 0x10 4) = some g → s.stopReq c.val g = some u →
    exec (.abort c n) s = .next (u.resolve (.req c.val r.n) { status := St.success, tick := r.accept })) ∧
  (∀ (c : Id12) (n : BitVec 32) (r : Req) (op : Nat) (s : State), s.up = true → s.ready c.val n.toNat 4 = some r →
    (s.cx c.val).firsts.find? (fun f => f.1 == lineLe r.slot1 0x10 4) = some (lineLe r.slot1 0x10 4, op) →
    0 < sub32 r.n (lineLe r.slot1 0x10 4) → sub32 r.n (lineLe r.slot1 0x10 4) ≤ 2 ^ 31 → op ≠ 0 → op ≠ 3 → op ≠ 4 →
    (∀ g, (s.cx c.val).req? false (lineLe r.slot1 0x10 4) = some g → s.stopReq c.val g = none) →
    exec (.abort c n) s = .next (s.resolve (.req c.val r.n) { status := St.abortTooLate, tick := r.accept })) ∧
  (∀ (c : Nat) (g : Req) (s : State), g.opcode ≠ 2 → g.phase ≤ 1 →
    s.stopReq c g = some (s.resolve (.req c g.n) (refusal g.table St.aborted))) ∧
  (∀ (c : Nat) (g : Req) (s : State), g.opcode ≠ 2 → g.phase = 3 → s.stopReq c g = none) ∧
  (∀ (c : Nat) (g : Req) (s : State), g.phase = 2 → (g.opcode = 1 ∨ g.opcode = 0x13 ∨ g.opcode = 0x14) →
    s.stopReq c g = (if s.recordFormed (.req c g.n) then none
      else some ((s.unqueue (.req c g.n)).resolve (.req c g.n) (refusal g.table St.aborted)))) ∧
  (∀ (c : Nat) (g : Req) (s : State), g.phase = 2 → (g.opcode = 0x10 ∨ g.opcode = 0x11 ∨ g.opcode = 0x12) →
    s.stopReq c g = (if s.beyond (.req c g.n) || s.dueNow (.req c g.n) g.table then none
      else some ((s.discardOps (.req c g.n)).resolve (.req c g.n) (refusal g.table St.aborted)))) ∧
  (∀ (c : Id12) (n : BitVec 32) (s : State), s.ready c.val n.toNat 4 = none → exec (.abort c n) s = .next s) ∧
  (∀ (c : Id12) (n : BitVec 32) (r : Req) (s : State), s.up = true → s.pins.fatal = false → (s.cx c.val).req? false n.toNat = some r →
    r.phase = 0 → opDefined r.opcode = false →
    exec (.descUndefinedOpcode c n) s = .next (s.resolve (.req c.val n.toNat) (refusal r.table St.malformed))) ∧
  (∀ (c : Id12) (n : BitVec 32) (s : State), (∀ r, (s.cx c.val).req? false n.toNat = some r → r.phase ≠ 0 ∨ opDefined r.opcode = true) →
    exec (.descUndefinedOpcode c n) s = .next s) ∧
  (∀ (c : Id12) (r : Req) (o : Outc) (s v : State), s.up = true →
    ((s.settleWindows.cx c.val).state = 1 ∨ (s.settleWindows.cx c.val).state = 2) → s.settleWindows.cqRoom c.val = true →
    v = s.settleWindows → v.nextCompletion c.val = some r → r.outc = some o →
    (v.ringHost (offCq c.val) = true ∨
      v.runOk c.val (v.ringBase (offCq c.val) + 64 * ((v.cx c.val).cqProd % 2 ^ v.ringLog (offCq c.val))) 64 = true) →
    ((r.opcode ≠ 0x13 ∧ r.opcode ≠ 0x14) ∨ o.status ≠ St.success) →
    exec (.completionWrite c true) s = .next ((v.cqWrite c.val (fun ph => cqHeader ph 1 0 (r.n % 2 ^ v.ringLog (offSq c.val)) r.opcode
        r.table (if r.opcode = 0x15 then o.outcome else 0) o.status r.tag) (r.compBody o)).updCx c.val
      (fun x => { x with reserved := x.reserved - 1,
                         reqs := x.reqs.filter (fun q => !(q.n == r.n && q.window.isNone)) }))) ∧
  (∀ (c : Id12) (r : Req) (o : Outc) (bs : List Byte) (s v w : State), s.up = true →
    ((s.settleWindows.cx c.val).state = 1 ∨ (s.settleWindows.cx c.val).state = 2) → s.settleWindows.cqRoom c.val = true →
    v = s.settleWindows → v.nextCompletion c.val = some r → r.outc = some o →
    (v.ringHost (offCq c.val) = true ∨
      v.runOk c.val (v.ringBase (offCq c.val) + 64 * ((v.cx c.val).cqProd % 2 ^ v.ringLog (offCq c.val))) 64 = true) →
    (r.opcode = 0x13 ∨ r.opcode = 0x14) → o.status = St.success → v.readRecord (v.tb r.table).kind o = (bs, w) →
    exec (.completionWrite c true) s = .next (((w.busWrite (w.ringHost (offRbuf c.val)) c.val
        (w.ringBase (offRbuf c.val) + 128 * (r.n % 2 ^ v.ringLog (offSq c.val))) bs).cqWrite c.val
          (fun ph => cqHeader ph 1 0 (r.n % 2 ^ v.ringLog (offSq c.val)) r.opcode r.table 0 o.status r.tag) (r.compBody o)).updCx c.val
      (fun x => { x with reserved := x.reserved - 1,
                         reqs := x.reqs.filter (fun q => !(q.n == r.n && q.window.isNone)) }))) ∧
  (∀ (c : Id12) (ok : Bool) (r : Req) (o : Outc) (s v : State), s.up = true →
    ((s.settleWindows.cx c.val).state = 1 ∨ (s.settleWindows.cx c.val).state = 2) → s.settleWindows.cqRoom c.val = true →
    v = s.settleWindows → v.nextCompletion c.val = some r → r.outc = some o → v.ringHost (offCq c.val) = false →
    v.runOk c.val (v.ringBase (offCq c.val) + 64 * ((v.cx c.val).cqProd % 2 ^ v.ringLog (offCq c.val))) 64 = false →
    exec (.completionWrite c ok) s = .next (v.faultCtx c.val 6)) ∧
  (∀ (c : Id12) (r : Req) (o : Outc) (s v : State), s.up = true →
    ((s.settleWindows.cx c.val).state = 1 ∨ (s.settleWindows.cx c.val).state = 2) → s.settleWindows.cqRoom c.val = true →
    v = s.settleWindows → v.nextCompletion c.val = some r → r.outc = some o →
    (v.ringHost (offCq c.val) = true ∨
      v.runOk c.val (v.ringBase (offCq c.val) + 64 * ((v.cx c.val).cqProd % 2 ^ v.ringLog (offCq c.val))) 64 = true) →
    exec (.completionWrite c false) s = .next (v.faultCtx c.val 5)) ∧
  (∀ (c : Id12) (ok : Bool) (s v : State), s.up = true → v = s.settleWindows →
    ((v.cx c.val).state = 1 ∨ (v.cx c.val).state = 2) → v.cqRoom c.val = true → v.nextCompletion c.val = none →
    exec (.completionWrite c ok) s = .next (v.ringEnd c.val ok)) ∧
  (∀ (c : Id12) (ok : Bool) (s : State), s.up = true →
    (((s.settleWindows.cx c.val).state ≠ 1 ∧ (s.settleWindows.cx c.val).state ≠ 2) ∨ s.settleWindows.cqRoom c.val = false) →
    exec (.completionWrite c ok) s = .next s.settleWindows)

/-- WINDOW_WRITE of the bound LD to a search line of an ENABLED context makes the line PENDING with its TAG and tick and appends a search request; a partial write ends that request MALFORMED; in another state the line is READY with CONTEXT_DISABLED; another LD's write and one to line 63 have no effect. WINDOW_READ returns zero to another LD, holds the read of a PENDING line while its port has room for it, returns the line as it stands otherwise, with CONTEXT_DISABLED in a context that is not ENABLED, and reads the NEXT line at 63. A line as read is zero when IDLE and has record, TAG, state and tick in their places when READY. WINDOW_READ_HOLD_EXPIRY returns the held read when the line is no longer PENDING, the context is DISABLED, or 50 ticks have passed; earlier, or without a held read, nothing is sent. -/
def Obligations.WindowCommandsAct : Prop :=
  (∀ (ld : LdId) (c : Id12) (i : Fin 64) (d : Line) (s : State), s.up = true → s.pins.fatal = false →
    (s.cx c.val).assigned = true → (s.cx c.val).ldid = ld.val → i.val < 63 → (s.cx c.val).state = 1 →
    exec (.windowWrite ld c i false d) s = .next ((({ s with ids := s.ids + 1 } : State).updCx c.val (fun x =>
      { (x.setWline i.val { st := 1, tag := wTag d, accept := s.tick, id := s.ids }) with
        reqs := x.reqs ++ [{ n := s.ids, slots := 1, accept := s.tick, opcode := 1, table := wTable d, flags := 0, tag := 0, slot1 := d, window := some i.val }] })).inc
          ⟨offCtxCnt c.val, 0, 32⟩)) ∧
  (∀ (ld : LdId) (c : Id12) (i : Fin 64) (d : Line) (s : State), s.up = true → s.pins.fatal = false →
    (s.cx c.val).assigned = true → (s.cx c.val).ldid = ld.val → i.val < 63 → (s.cx c.val).state = 1 →
    exec (.windowWrite ld c i true d) s = .next ((({ s with ids := s.ids + 1 } : State).updCx c.val (fun x =>
      { (x.setWline i.val { st := 1, tag := wTag d, accept := s.tick, id := s.ids }) with
        reqs := x.reqs ++ [{ n := s.ids, slots := 1, accept := s.tick, opcode := 1, table := wTable d, flags := 0, tag := 0, slot1 := d, window := some i.val, phase := 3, outc := some (refusal (wTable d) St.malformed), endTick := s.tick + 2 }] })).inc
          ⟨offCtxCnt c.val, 0, 32⟩)) ∧
  (∀ (ld : LdId) (c : Id12) (i : Fin 64) (p : Bool) (d : Line) (s : State), s.up = true → s.pins.fatal = false →
    (s.cx c.val).assigned = true → (s.cx c.val).ldid = ld.val → i.val < 63 → (s.cx c.val).state ≠ 1 →
    exec (.windowWrite ld c i p d) s = .next (s.updCx c.val (·.setWline i.val { st := 2, tag := wTag d, accept := s.tick, id := 0, record := resultRecord (refusal (wTable d) St.contextDisabled) }))) ∧
  (∀ (ld : LdId) (c : Id12) (i : Fin 64) (p : Bool) (d : Line) (s : State),
    ((s.cx c.val).assigned = false ∨ (s.cx c.val).ldid ≠ ld.val ∨ i.val = 63) → exec (.windowWrite ld c i p d) s = .next s) ∧
  (∀ (x : Ctx) (i : Nat) (l : WLine), (x.setWline i l).wline i = l) ∧
  (∀ (x : Ctx) (i j : Nat) (l : WLine), j ≠ i → (x.setWline i l).wline j = x.wline j) ∧
  (∀ (ld : LdId) (c : Id12) (i : Fin 64) (s u : State), s.up = true → u = s.settleWindows → i.val < 63 →
    ((u.cx c.val).assigned = false ∨ (u.cx c.val).ldid ≠ ld.val) →
    exec (.windowRead ld c i) s = .next (u.send (.line ld.val c.val i.val 0))) ∧
  (∀ (ld : LdId) (c : Id12) (i : Fin 64) (s u : State), s.up = true → u = s.settleWindows → i.val < 63 →
    (u.cx c.val).assigned = true → (u.cx c.val).ldid = ld.val → ((u.cx c.val).wline i.val).st = 1 →
    (u.cx c.val).state = 1 → (u.heldReads.filter (fun h => h.ld / 16 == ld.val / 16)).length < 1024 →
    exec (.windowRead ld c i) s = .next { u with heldReads := u.heldReads ++ [{ ld := ld.val, ctx := c.val, line := i.val, at_ := u.tick }] }) ∧
  (∀ (ld : LdId) (c : Id12) (i : Fin 64) (s u : State), s.up = true → u = s.settleWindows → i.val < 63 →
    (u.cx c.val).assigned = true → (u.cx c.val).ldid = ld.val → (u.cx c.val).state = 1 →
    (((u.cx c.val).wline i.val).st ≠ 1 ∨ 1024 ≤ (u.heldReads.filter (fun h => h.ld / 16 == ld.val / 16)).length) →
    exec (.windowRead ld c i) s = .next (u.send (.line ld.val c.val i.val ((u.cx c.val).wline i.val).asRead))) ∧
  (∀ (ld : LdId) (c : Id12) (i : Fin 64) (s u : State), s.up = true → u = s.settleWindows → i.val < 63 →
    (u.cx c.val).assigned = true → (u.cx c.val).ldid = ld.val → (u.cx c.val).state ≠ 1 →
    ((u.cx c.val).wline i.val).st ≠ 2 →
    exec (.windowRead ld c i) s = .next (u.send (.line ld.val c.val i.val
      ({ (u.cx c.val).wline i.val with st := 2, record := resultRecord (refusal 0 St.contextDisabled) } : WLine).asRead))) ∧
  (∀ (ld : LdId) (c : Id12) (i : Fin 64) (s : State), s.up = true → i.val = 63 →
    exec (.windowRead ld c i) s = .next (s.settleWindows.nextRead ld.val c.val)) ∧
  (∀ l : WLine, l.st = 0 → l.asRead = 0) ∧
  (∀ l : WLine, l.st = 2 → l.asRead.extractLsb' 0 256 = l.record ∧ l.asRead.extractLsb' 256 32 = l.tag ∧
    (l.accept < 2 ^ 64 → l.asRead.extractLsb' 320 64 = BitVec.ofNat 64 l.accept) ∧ l.asRead.extractLsb' 288 8 = 2) ∧
  (∀ (ld : LdId) (c : Id12) (i : Fin 64) (h : HeldRead) (s u : State), s.up = true → u = s.settleWindows →
    u.heldReads.find? (fun h => h.ld == ld.val && h.ctx == c.val && h.line == i.val) = some h →
    (((u.cx c.val).wline i.val).st ≠ 1 ∨ (u.cx c.val).state = 0 ∨ h.at_ + 50 ≤ u.tick) →
    exec (.windowReadHoldExpiry ld c i) s = .next (({ u with heldReads := u.heldReads.erase h }).send
      (.line ld.val c.val i.val ((u.cx c.val).wline i.val).asRead))) ∧
  (∀ (ld : LdId) (c : Id12) (i : Fin 64) (h : HeldRead) (s u : State), s.up = true → u = s.settleWindows →
    u.heldReads.find? (fun h => h.ld == ld.val && h.ctx == c.val && h.line == i.val) = some h →
    ((u.cx c.val).wline i.val).st = 1 → (u.cx c.val).state ≠ 0 → u.tick < h.at_ + 50 →
    exec (.windowReadHoldExpiry ld c i) s = .next u) ∧
  (∀ (ld : LdId) (c : Id12) (i : Fin 64) (s u : State), s.up = true → u = s.settleWindows →
    (∀ h ∈ u.heldReads, ¬ (h.ld = ld.val ∧ h.ctx = c.val ∧ h.line = i.val)) →
    exec (.windowReadHoldExpiry ld c i) s = .next u)

/-- While owner commands are served, the owner commands of tables complete. CREATE_TABLE of a kind 3 or 4 on a FREE ID below 254, with room, ends SUCCESS with the table DEFINED on the named blocks, and no row, direct word or queued work changes; of kind 1 it takes the lowest free run of units as its region. RESIZE_TABLE of a PREFIX table exchanges the difference with the free prefixes, and of a DIRECT table that does not shrink changes only the entry count. DESTROY_TABLE of a table that is neither FREE nor DESTROYING runs, makes the table DESTROYING, resets every queue pair that names it and leaves all rows as they are. MIGRATE_TABLE on a locked table runs and waits for the lock to end. DIR_PROFILE in range ends SUCCESS and leaves the registers and all rows as they are. -/
def Obligations.TableCommandsComplete : Prop :=
  (∀ (via : OwnerPath) (t : TableId) (k m : Byte) (d u : BitVec 16) (bs : BlockSet) (c : BitVec 32) (s : State), s.ownerRuns via = true →
    d.toNat < 4096 → (s.tb t.val).state = 0 → t.val < 254 → isArray k.toNat = true →
    createParamsOk k.toNat m.toNat bs c.toNat u.toNat = true → s.createRoom k.toNat m.toNat bs c.toNat u.toNat = true →
    Runs (.createTable via t k d m bs c u) s (fun x => EndsWith s x via 0x20 ∧ (x.tb t.val).state = 1 ∧
      (x.tb t.val).blocks = bs ∧ (x.tb t.val).kind = k.toNat ∧ x.arr = s.arr ∧ x.dsram = s.dsram ∧ x.arb = s.arb)) ∧
  (∀ (via : OwnerPath) (t : TableId) (m : Byte) (d u : BitVec 16) (bs : BlockSet) (c : BitVec 32) (b : Nat) (s : State), s.ownerRuns via = true →
    d.toNat < 4096 → (s.tb t.val).state = 0 → t.val < 254 → createParamsOk 1 m.toNat bs c.toNat u.toNat = true →
    lowestRun 1024 u.toNat (fun i => !s.dsram.taken.getLsbD i) = some b →
    Runs (.createTable via t 1 d m bs c u) s (fun x => EndsWith s x via 0x20 ∧
      x.tb t.val = { state := 1, kind := 1, domain := d.toNat, profile := Prof.initial, regionBase := b, regionSize := u.toNat,
                     count := c.toNat } ∧
      x.dsram.taken = s.dsram.taken ||| runSet 1024 b u.toNat ∧ x.dsram.words = s.dsram.words ∧ x.arr = s.arr ∧
      ∀ j, j ≠ t.val → x.tb j = s.tb j)) ∧
  (∀ (via : OwnerPath) (t : TableId) (c : BitVec 32) (s : State), s.ownerRuns via = true → t.val < 254 →
    (s.tb t.val).kind = 2 → (s.tb t.val).state ≠ 0 → (s.tb t.val).state ≠ 4 → c.toNat ≠ 0 →
    c.toNat ≤ s.f fPrefixFree + (s.tb t.val).count → (s.tb t.val).prefixes.length ≤ c.toNat →
    Runs (.resizeTable via t 0 c) s (fun x => EndsWith s x via 0x21 ∧ x.tb t.val = { s.tb t.val with count := c.toNat } ∧
      x.regs = (s.setF fPrefixFree (s.f fPrefixFree + (s.tb t.val).count - c.toNat)).regs ∧ x.dsram = s.dsram ∧
      ∀ j, j ≠ t.val → x.tb j = s.tb j)) ∧
  (∀ (via : OwnerPath) (t : TableId) (c : BitVec 32) (s : State), s.ownerRuns via = true → t.val < 254 →
    (s.tb t.val).kind = 1 → (s.tb t.val).state ≠ 0 → (s.tb t.val).state ≠ 4 → c.toNat ≠ 0 → (s.tb t.val).count ≤ c.toNat →
    c.toNat ≤ 1024 * (s.tb t.val).regionSize → Prof.idxBits (s.tb t.val).profile = 0 →
    Runs (.resizeTable via t 0 c) s (fun x => EndsWith s x via 0x21 ∧ x.tb t.val = { s.tb t.val with count := c.toNat } ∧
      x.regs = s.regs ∧ x.dsram = s.dsram ∧ ∀ j, j ≠ t.val → x.tb j = s.tb j)) ∧
  (∀ (via : OwnerPath) (t : TableId) (s : State), s.ownerRuns via = true → t.val < 254 → (s.tb t.val).state ≠ 0 →
    (s.tb t.val).state ≠ 4 →
    Runs (.destroyTable via t) s (fun x => (x.tb t.val).state = 4 ∧ x.mbox = { s.mbox with running := some via } ∧
      x.arr = s.arr ∧ (∀ q, (s.qp q).state ≠ 0 → (s.qp q).table = t.val → x.qp q = {}) ∧
      ((∀ e ∈ s.mq, e.2 = s.qp e.1) → ∀ q, (s.qp q).table ≠ t.val → x.qp q = s.qp q))) ∧
  (∀ (via : OwnerPath) (t : TableId) (bs : BlockSet) (l : Lock) (s : State), s.ownerRuns via = true →
    s.migrateBad t.val (s.tb t.val) bs = none → (s.tb t.val).lock = some l →
    Runs (.migrateTable via t bs) s (fun x => x.mbox = { s.mbox with running := some via } ∧
      x.tb t.val = { s.tb t.val with migWait := some (via, bs) } ∧ x.regs = s.regs ∧ ∀ j, j ≠ t.val → x.tb j = s.tb j)) ∧
  (∀ (via : OwnerPath) (p : BitVec 32) (g : Byte) (s : State), s.ownerRuns via = true → (s.tb 255).state ≠ 0 → (s.tb 255).state ≠ 4 →
    g.toNat ≤ 64 → minSweep (s.tb 255).maxBlocks ≤ p.toNat → p.toNat ≤ 1048575 →
    Runs (.dirProfile via p g) s (fun x => EndsWith s x via 0x25 ∧ (x.tb 255).profile = dirProfileOf p.toNat g.toNat ∧
      x.regs = s.regs ∧ x.arr = s.arr))

/-- The device's own steps of a table command complete. SHRINK_END of a shrink whose leaving blocks hold no row, used or promised, takes them out of the placement and leaves all rows, registers and the mailbox as they are. SHRINK_BLOCK_CLEAR 24 ticks later frees the blocks and clears exactly their rows, and ends a command only where one waits. DESTROY_CLEAR_START of a DIRECT table 24 ticks after its destruction zeroes exactly the words of its region. DESTROY_ID_FREE 88 ticks after it gives back a PREFIX table's capacity and a DIRECT table's units. MIGRATION_CUTOVER with every row copied only requests the cut-over: no table and no row changes. MIGRATION_OLD_CLEAR 88 ticks after the cut-over frees the old blocks and leaves all rows as they are. -/
def Obligations.TableEngineStepsComplete : Prop :=
  (∀ (t : TableId) (s : State), s.up = true → (s.tb t.val).shrinking = true → (s.tb t.val).s2 = none →
    (∀ a ∈ s.takenRows, (s.tb t.val).leaving.getLsbD (blockOf a) = false) →
    Runs (.shrinkEnd t) s (fun x => (x.tb t.val).blocks = (s.tb t.val).blocks &&& ~~~(s.tb t.val).leaving ∧
      (x.tb t.val).shrinking = false ∧ (x.tb t.val).s2 = some s.tick ∧ x.arr = s.arr ∧ x.regs = s.regs ∧ x.mbox = s.mbox ∧
      ∀ j, j ≠ t.val → x.tb j = s.tb j)) ∧
  (∀ (t : TableId) (c : Nat) (s : State), s.up = true → (s.tb t.val).s2 = some c → c + 24 ≤ s.tick →
    Runs (.shrinkBlockClear t) s (fun x => (x.tb t.val).leaving = 0 ∧ (x.tb t.val).s2 = none ∧
      x.blockFree = s.blockFree ||| (s.tb t.val).leaving ∧
      (∀ a, x.row a = if (s.tb t.val).leaving.getLsbD (blockOf a) = true then {} else s.row a) ∧
      ((s.tb t.val).shrinkVia = none → x.mbox = s.mbox) ∧
      ∀ via, (s.tb t.val).shrinkVia = some via → EndsWith s x via 0x21)) ∧
  (∀ (t : TableId) (via : OwnerPath) (d : Nat) (s : State), s.up = true → (s.tb t.val).destroy = some (via, d) → d + 24 ≤ s.tick →
    (s.tb t.val).clearStarted = false → (s.tb t.val).kind = 1 →
    Runs (.destroyClearStart t) s (fun x => (x.tb t.val).clearStarted = true ∧ x.arr.rows = s.arr.rows ∧
      ∀ a, SMap.get (fun _ => 0) x.dsram.words a =
        if 1024 * (s.tb t.val).regionBase ≤ a ∧ a < 1024 * (s.tb t.val).regionBase + 1024 * (s.tb t.val).regionSize then 0
        else SMap.get (fun _ => 0) s.dsram.words a)) ∧
  (∀ (t : TableId) (via : OwnerPath) (d : Nat) (s : State), s.up = true → (s.tb t.val).destroy = some (via, d) → d + 88 ≤ s.tick →
    (s.tb t.val).clearStarted = true → (s.tb t.val).kind = 1 →
    Runs (.destroyIdFree t) s (fun x => x.tb t.val = {} ∧ x.arr = s.arr ∧
      x.dsram.taken = s.dsram.taken &&& ~~~(runSet 1024 (s.tb t.val).regionBase (s.tb t.val).regionSize))) ∧
  (∀ (t : TableId) (via : OwnerPath) (d : Nat) (s : State), s.up = true → (s.tb t.val).destroy = some (via, d) → d + 88 ≤ s.tick →
    (s.tb t.val).clearStarted = true → (s.tb t.val).kind = 2 → t.val ≠ 255 → s.f fPrefixFree + (s.tb t.val).count ≤ 1048576 →
    Runs (.destroyIdFree t) s (fun x => x.tb t.val = {} ∧ x.arr = s.arr ∧ x.dsram = s.dsram ∧
      x.f fPrefixFree = s.f fPrefixFree + (s.tb t.val).count)) ∧
  (∀ (t : TableId) (m : Mig) (s : State), s.up = true → (s.tb t.val).migration = some m → m.cut = none →
    (∀ e ∈ s.rowsIn t.val (s.tb t.val).blocks, e.2.live = true → ∃ c ∈ m.copies, c.1 = e.2.handle) → s.mnt.relocs = [] →
    s.queuedOps = [] → (∀ f ∈ s.arb.flights, f.op.act ≠ .upd 0 .cutover) →
    Runs (.migrationCutover t) s (fun x => x.tbl = s.tbl ∧ x.arr = s.arr ∧ x.regs = s.regs ∧ x.arb.flights = s.arb.flights ∧
      x = s.enqOp 12 { table := t.val, act := .upd 0 .cutover, origin := .tm })) ∧
  (∀ (t : TableId) (m : Mig) (c : Nat) (s : State), s.up = true → (s.tb t.val).migration = some m → m.cut = some c → c + 88 ≤ s.tick →
    Runs (.migrationOldClear t) s (fun x => (x.tb t.val).migration = none ∧ x.blockFree = s.blockFree ||| m.oldBlocks ∧
      x.arr = s.arr ∧ x.arb = s.arb ∧ x.mnt = s.mnt))

/-- The steps of an enumeration's passes complete. ENUM_PASS_DELIVER of the pass of a CASCADE table from t23 on writes the local records into the pass's bank and makes it due READY at t88; one that the partner also answers stays in flight, marked, until then. BANK_READY of a bank that is due and complete makes it READY, exhausts the pair and leaves rows, registers and contexts as they are. CONTINUATION_QUEUE of a pass that is due with the other bank EMPTY queues it and changes no bank, no other pair and no row. BANK_DRAIN_TAKE of the one READY bank starts its draining with its records untouched. -/
def Obligations.PassStepsComplete : Prop :=
  (∀ (p : SPort) (f : Flight) (d : Found) (q c n : Nat) (s : State), s.up = true →
    s.arb.flights.find? (fun f => f.passDue p.val s.tick) = some f → f.op.origin = .req c n → f.cascaded = true → f.refused = none →
    s.isCascade f.op.table = true → f.found = some d → s.passFor f = some q →
    Runs (.enumPassDeliver p) s (fun t => ((t.qp q).bank (s.qp q).pass).local_ = d.wins.map (Win.mqRec false) ∧
      ((t.qp q).bank (s.qp q).pass).readyAt = some (f.g + 88) ∧ (t.qp q).countL = d.count ∧ (t.qp q).countP = 0 ∧
      { f with committed := true } ∈ t.arb.flights ∧ (∀ j, j ≠ q → t.qp j = s.qp j) ∧ t.arr = s.arr)) ∧
  (∀ (p : SPort) (f : Flight) (s : State), s.up = true →
    s.arb.flights.find? (fun f => f.passDue p.val s.tick) = some f → (∃ c n, f.op.origin = .req c n) → f.cascaded = false →
    s.passFor f = none →
    exec (.enumPassDeliver p) s = .next (s.dropFlight f)) ∧
  (∀ (q : TableId) (r : Nat) (s : State), s.up = true → (s.qp q.val).state ≠ 0 →
    ((s.qp q.val).bank (s.qp q.val).pass).readyAt = some r → r ≤ s.tick → ((s.qp q.val).bank (s.qp q.val).pass).st = 1 →
    (s.qp q.val).countL ≤ ((s.qp q.val).bank (s.qp q.val).pass).local_.length →
    (s.qp q.val).countP ≤ ((s.qp q.val).bank (s.qp q.val).pass).partner.length →
    Runs (.bankReady q) s (fun t => (t.qp q.val).state = 2 ∧ ((t.qp q.val).bank (s.qp q.val).pass).st = 2 ∧
      ((t.qp q.val).bank (s.qp q.val).pass).local_ = ((s.qp q.val).bank (s.qp q.val).pass).local_ ∧
      ((t.qp q.val).bank (s.qp q.val).pass).partner = ((s.qp q.val).bank (s.qp q.val).pass).partner ∧
      t.arr = s.arr ∧ t.regs = s.regs ∧ t.ctx = s.ctx ∧ t.arb = s.arb)) ∧
  (∀ (q : TableId) (k : BitVec 38) (s : State), s.up = true → (s.qp q.val).next = some k → (s.qp q.val).nextAt ≤ s.tick + 1 →
    ((s.qp q.val).bank ((s.qp q.val).pass + 1)).st = 0 → (s.qp q.val).state = 1 →
    Runs (.continuationQueue q) s (fun t => t.qp q.val = { s.qp q.val with next := none } ∧ (∀ j, j ≠ q.val → t.qp j = s.qp j) ∧
      t.arr = s.arr ∧ t.regs = s.regs ∧ t.arb.flights = s.arb.flights)) ∧
  (∀ (q : TableId) (s : State), s.up = true → (s.qp q.val).bank0.st = 2 → (s.qp q.val).bank1.st = 0 →
    (s.qp q.val).bank0.local_ ≠ [] →
    Runs (.bankDrainTake q) s (fun t => (t.qp q.val).draining = some 0 ∧
      (t.qp q.val).bank0.local_ = (s.qp q.val).bank0.local_ ∧ (t.qp q.val).bank0.partner = (s.qp q.val).bank0.partner ∧
      (∀ j, j ≠ q.val → t.qp j = s.qp j) ∧ t.arr = s.arr ∧ t.regs = s.regs))

/-- Results are consumed. NEXT_READ by the owner of a context whose pair drains bank 0 with local records only, the first one with good parity and not poisoned, answers that record VALID, takes it out of the bank and counts it as delivered; the bank is EMPTY after its last record. A record of bank 0 with bad parity is answered POISON with an event, and is consumed all the same. MATCH_ENTRY_WRITE of one record of a RING enumeration writes one completion entry and consumes the record. RESET_QUEUE of a held pair makes it FREE and ends its ENUMERATE as ABORTED, and no other pair and no row changes. MEMSPECRD, a hint that is never answered, completes and changes nothing. -/
def Obligations.ConsumptionCompletes : Prop :=
  (∀ (ld : LdId) (c : Id12) (q : Nat) (r : MqRec) (rs : List MqRec) (s : State), s.up = true → s.pins.fatal = false →
    (s.cx c.val).assigned = true → (s.cx c.val).ldid = ld.val → (s.cx c.val).mq = some q → (s.qp q).ring = false →
    (s.qp q).bank0.st = 3 → (s.qp q).bank0.local_ = r :: rs → (s.qp q).bank0.partner = [] → r.bad = 0 → r.poison = false →
    Runs (.nextRead ld c) s (fun t => t.sent = s.sent ++ [.line ld.val c.val 63 (recLine (recBits 1 r.partner (s.qp q).bank0.pass
        (s.qp q).seq r.prio.toNat r.handle.toNat r.res))] ∧
      (t.qp q).seq = (s.qp q).seq + 1 ∧ (t.qp q).delivered = satAdd (2 ^ 32 - 1) (s.qp q).delivered 1 ∧
      (t.qp q).bank0.local_ = rs ∧ (rs = [] → (t.qp q).bank0 = {}) ∧ (∀ j, j ≠ q → t.qp j = s.qp j) ∧ t.arr = s.arr)) ∧
  (∀ (ld : LdId) (c : Id12) (q : Nat) (r : MqRec) (rs : List MqRec) (s : State), s.up = true → s.pins.fatal = false →
    (s.cx c.val).assigned = true → (s.cx c.val).ldid = ld.val → (s.cx c.val).mq = some q → (s.qp q).ring = false →
    (s.qp q).bank0.st = 3 → (s.qp q).bank0.local_ = r :: rs → (s.qp q).bank0.partner = [] → r.bad ≠ 0 →
    Runs (.nextRead ld c) s (fun t => (t.qp q).seq = (s.qp q).seq + 1 ∧ (t.qp q).poisonSeen = true ∧
      (t.qp q).bank0.local_ = rs ∧ t.ras.evts = s.ras.evts + 1 ∧
      t.sent.getLast? = some (.line ld.val c.val 63 (recLine (recBits 2 false (s.qp q).bank0.pass (s.qp q).seq 0 0 0))))) ∧
  (∀ (q : TableId) (r : MqRec) (rs : List MqRec) (x : Req) (s : State), s.up = true →
    (s.qp q.val).bank0.st = 3 → (s.qp q.val).bank0.local_ = r :: rs → (s.qp q.val).bank0.partner = [] → r.bad = 0 →
    (s.qp q.val).ring = true → s.cqFree (s.qp q.val).ctx = true → (s.cx (s.qp q.val).ctx).state ≠ 3 →
    (s.cx (s.qp q.val).ctx).req? false (s.qp q.val).n = some x →
    Runs (.matchEntryWrite q 1) s (fun t => (t.cx (s.qp q.val).ctx).cqProd = ((s.cx (s.qp q.val).ctx).cqProd + 1) % 2 ^ 32 ∧
      (t.qp q.val).bank0.local_ = rs ∧ (t.qp q.val).seq = (s.qp q.val).seq + 1 ∧ t.arr = s.arr)) ∧
  (∀ (c : Id12) (n : BitVec 32) (r : Req) (q : Nat) (s : State), s.up = true → s.ready c.val n.toNat 3 = some r →
    (s.cx c.val).mq = some q → (s.qp q).state ≠ 0 →
    Runs (.resetQueue c n) s (fun t => t.qp q = {} ∧ (∀ j, j ≠ q → t.qp j = s.qp j) ∧ t.arr = s.arr ∧ t.regs = s.regs)) ∧
  (∀ (ld : LdId) (h : BitVec 64) (s : State), Runs (.memspecrd ld h) s (fun t => t = s))
end

