-- ==== Sys2Proof/Laws/SMap.lean ====
section
/-! SUPPORT. Laws of sparse maps, registers and memory. -/

namespace Sys2Proof.Machine

/-! ### Sparse maps: a read after a write, and the canonical form -/

theorem SMap.get_filter_ne {α : Type} (d : Nat → α) (m : SMap α) (k j : Nat) (h : j ≠ k) :
    SMap.get d (m.filter (fun e => e.1 != k)) j = SMap.get d m j := by
  induction m with
  | nil => rfl
  | cons e m ih =>
    obtain ⟨a, v⟩ := e
    by_cases ha : a = k
    · subst ha; simp [SMap.get, ih, h.symm]
    · simp [SMap.get, ih, ha]

theorem SMap.get_filter_eq {α : Type} (d : Nat → α) (m : SMap α) (k : Nat) :
    SMap.get d (m.filter (fun e => e.1 != k)) k = d k := by
  induction m with
  | nil => rfl
  | cons e m ih =>
    obtain ⟨a, v⟩ := e
    by_cases ha : a = k
    · subst ha; simp [ih]
    · simp [SMap.get, ih, ha]

theorem SMap.get_ins_same {α : Type} (d : Nat → α) (m : SMap α) (k : Nat) (v : α) (h : ∀ e ∈ m, e.1 ≠ k) :
    SMap.get d (SMap.ins k v m) k = v := by
  induction m with
  | nil => simp [SMap.ins, SMap.get]
  | cons e m ih =>
    obtain ⟨a, u⟩ := e
    have ha : a ≠ k := h (a, u) (by simp)
    simp only [SMap.ins]
    split
    · simp [SMap.get]
    · simp [SMap.get, ha, ih (fun e he => h e (by simp [he]))]

theorem SMap.get_ins_other {α : Type} (d : Nat → α) (m : SMap α) (k j : Nat) (v : α) (h : j ≠ k) :
    SMap.get d (SMap.ins k v m) j = SMap.get d m j := by
  induction m with
  | nil => simp [SMap.ins, SMap.get, h.symm]
  | cons e m ih =>
    obtain ⟨a, u⟩ := e
    simp only [SMap.ins]
    split
    · simp [SMap.get, h.symm]
    · simp [SMap.get, ih]

/-- A read after a write to the same key gives the value written. -/
@[simp] theorem SMap.get_set_same {α : Type} [DecidableEq α] (d : Nat → α) (m : SMap α) (k : Nat) (v : α) :
    SMap.get d (SMap.set d m k v) k = v := by
  unfold SMap.set
  split
  · rename_i h; rw [SMap.get_filter_eq, h]
  · exact SMap.get_ins_same d _ k v (by intro e he; simpa using (List.mem_filter.mp he).2)

/-- A write leaves every other key alone. -/
theorem SMap.get_set_other {α : Type} [DecidableEq α] (d : Nat → α) (m : SMap α) (k j : Nat) (v : α) (h : j ≠ k) :
    SMap.get d (SMap.set d m k v) j = SMap.get d m j := by
  unfold SMap.set
  split
  · exact SMap.get_filter_ne d m k j h
  · rw [SMap.get_ins_other d _ k j v h, SMap.get_filter_ne d m k j h]

/-- The canonical form said with the list's own predicates. -/
theorem SMap.wf_iff {α : Type} [DecidableEq α] (d : Nat → α) (m : SMap α) :
    SMap.wf d m = true ↔ m.Pairwise (fun a b => a.1 < b.1) ∧ ∀ e ∈ m, e.2 ≠ d e.1 := by
  induction m with
  | nil => simp [SMap.wf]
  | cons e m ih =>
    obtain ⟨k, v⟩ := e
    cases m with
    | nil => simp [SMap.wf]
    | cons e' m =>
      obtain ⟨k', v'⟩ := e'
      simp only [SMap.wf, Bool.and_eq_true, decide_eq_true_eq, bne_iff_ne, ne_eq, ih]
      constructor
      · rintro ⟨⟨hk, hv⟩, hp, ha⟩
        refine ⟨List.pairwise_cons.mpr ⟨?_, hp⟩, ?_⟩
        · intro x hx
          rcases List.mem_cons.mp hx with rfl | hx
          · exact hk
          · exact Nat.lt_trans hk ((List.pairwise_cons.mp hp).1 x hx)
        · intro x hx
          rcases List.mem_cons.mp hx with rfl | hx
          · exact hv
          · exact ha x hx
      · rintro ⟨hp, ha⟩
        have hp' := List.pairwise_cons.mp hp
        exact ⟨⟨hp'.1 (k', v') (by simp), ha (k, v) (by simp)⟩, hp'.2, fun x hx => ha x (List.mem_cons_of_mem _ hx)⟩

/-- Leaving entries out keeps the canonical form. -/
theorem SMap.wf_filter {α : Type} [DecidableEq α] (d : Nat → α) (m : SMap α) (p : Nat × α → Bool)
    (h : SMap.wf d m = true) : SMap.wf d (m.filter p) = true := by
  rw [SMap.wf_iff] at h ⊢
  exact ⟨h.1.filter p, fun e he => h.2 e (List.mem_filter.mp he).1⟩

theorem SMap.mem_ins {α : Type} (k : Nat) (v : α) (m : SMap α) (e : Nat × α) :
    e ∈ SMap.ins k v m ↔ e = (k, v) ∨ e ∈ m := by
  induction m with
  | nil => simp [SMap.ins]
  | cons x m ih =>
    obtain ⟨a, u⟩ := x
    simp only [SMap.ins]
    split
    · simp
    · simp only [List.mem_cons, ih]; exact ⟨fun h => h.elim (fun a => .inr (.inl a)) (fun h => h.elim .inl (fun b => .inr (.inr b))),
        fun h => h.elim (fun a => .inr (.inl a)) (fun h => h.elim .inl (fun b => .inr (.inr b)))⟩

theorem SMap.pairwise_ins {α : Type} (k : Nat) (v : α) (m : SMap α) (h : m.Pairwise (fun a b => a.1 < b.1))
    (hk : ∀ e ∈ m, e.1 ≠ k) : (SMap.ins k v m).Pairwise (fun a b => a.1 < b.1) := by
  induction m with
  | nil => simp [SMap.ins]
  | cons x m ih =>
    obtain ⟨a, u⟩ := x
    have hp := List.pairwise_cons.mp h
    simp only [SMap.ins]
    split
    · rename_i hlt
      refine List.pairwise_cons.mpr ⟨?_, h⟩
      intro e he
      rcases List.mem_cons.mp he with rfl | he
      · exact hlt
      · exact Nat.lt_trans hlt (hp.1 e he)
    · rename_i hge
      have hne : a ≠ k := hk (a, u) (by simp)
      refine List.pairwise_cons.mpr ⟨?_, ih hp.2 (fun e he => hk e (by simp [he]))⟩
      intro e he
      rcases (SMap.mem_ins k v m e).mp he with rfl | he
      · simp only; omega
      · exact hp.1 e he

/-- A write keeps the canonical form. -/
theorem SMap.wf_set {α : Type} [DecidableEq α] (d : Nat → α) (m : SMap α) (k : Nat) (v : α)
    (h : SMap.wf d m = true) : SMap.wf d (SMap.set d m k v) = true := by
  unfold SMap.set
  have hf := SMap.wf_filter d m (fun e => e.1 != k) h
  split
  · exact hf
  · rename_i hv
    rw [SMap.wf_iff] at hf ⊢
    have hk : ∀ e ∈ m.filter (fun e => e.1 != k), e.1 ≠ k := fun e he => by simpa using (List.mem_filter.mp he).2
    refine ⟨SMap.pairwise_ins k v _ hf.1 hk, ?_⟩
    intro e he
    rcases (SMap.mem_ins k v _ e).mp he with rfl | he
    · exact hv
    · exact hf.2 e he

/-! ### Memory -/

/-- A read after a write to the same address. -/
@[simp] theorem Mem.get_put_same (m : List Host.Cell) (a : Nat) (b : Byte) : Mem.get (Mem.put m a b) a = b :=
  SMap.get_set_same _ _ _ _

/-- A write of one byte leaves every other byte alone. -/
theorem Mem.get_put_other (m : List Host.Cell) (a x : Nat) (b : Byte) (h : x ≠ a) :
    Mem.get (Mem.put m a b) x = Mem.get m x := SMap.get_set_other _ _ _ _ _ h

/-- A write of bytes leaves every byte outside them alone. -/
theorem Mem.get_write_other (m : List Host.Cell) (a x : Nat) (bs : List Byte) (h : x < a ∨ a + bs.length ≤ x) :
    Mem.get (Mem.write m a bs) x = Mem.get m x := by
  induction bs generalizing m a with
  | nil => rfl
  | cons b bs ih =>
    have h' : x < a + 1 ∨ a + 1 + bs.length ≤ x := by simp only [List.length_cons] at h; omega
    rw [Mem.write, ih _ _ h', Mem.get_put_other _ _ _ _ (by simp only [List.length_cons] at h; omega)]

theorem Memory.wf_put (m : List Host.Cell) (a : Nat) (b : Byte) (h : Memory.wf m = true) :
    Memory.wf (Mem.put m a b) = true := SMap.wf_set _ _ _ _ h

/-- Writing bytes keeps the canonical form. -/
theorem Memory.wf_write (m : List Host.Cell) (a : Nat) (bs : List Byte) (h : Memory.wf m = true) :
    Memory.wf (Mem.write m a bs) = true := by
  induction bs generalizing m a with
  | nil => exact h
  | cons b bs ih => exact ih _ _ (Memory.wf_put m a b h)

/-- Writing bytes under a mask keeps the canonical form. -/
theorem Memory.wf_writeMask (m : List Host.Cell) (a : Nat) (mask : Nat → Bool) (i : Nat) (bs : List Byte)
    (h : Memory.wf m = true) : Memory.wf (Mem.writeMask m a mask i bs) = true := by
  induction bs generalizing m i with
  | nil => exact h
  | cons b bs ih =>
    refine ih _ _ ?_
    split
    · exact Memory.wf_put m _ b h
    · exact h

/-- Forgetting addresses keeps the canonical form. -/
theorem Memory.wf_filter (m : List Host.Cell) (p : Host.Cell → Bool) (h : Memory.wf m = true) :
    Memory.wf (m.filter p) = true := SMap.wf_filter _ _ _ h

/-! ### Registers and fields -/

@[simp] theorem State.reg_setReg_same (s : State) (o : Nat) (w : Word) : (s.setReg o w).reg o = w :=
  SMap.get_set_same _ _ _ _

theorem State.reg_setReg_other (s : State) (o x : Nat) (w : Word) (h : x ≠ o) : (s.setReg o w).reg x = s.reg x :=
  SMap.get_set_other _ _ _ _ _ h

theorem State.reg_setF_other (s : State) (x : F) (v o : Nat) (h : o ≠ x.off) : (s.setF x v).reg o = s.reg o :=
  State.reg_setReg_other _ _ _ _ h

theorem State.f_setF_other (s : State) (x y : F) (v : Nat) (h : y.off ≠ x.off) : (s.setF x v).f y = s.f y := by
  unfold State.f; rw [State.reg_setF_other _ _ _ _ h]

theorem putFld_getLsbD (w : Word) (lo n v i : Nat) (hn : n ≤ 64) (hi : i < 64) :
    (putFld w lo n v).getLsbD i = if lo ≤ i ∧ i < lo + n then v.testBit (i - lo) else w.getLsbD i := by
  unfold putFld
  simp only [BitVec.getLsbD_or, BitVec.getLsbD_and, BitVec.getLsbD_not, BitVec.getLsbD_shiftLeft, BitVec.getLsbD_ofNat,
    Nat.testBit_two_pow_sub_one]
  by_cases h1 : i < lo
  · have : ¬ lo ≤ i := by omega
    simp [h1, hi, this]
  · by_cases h2 : i < lo + n
    · have a : i - lo < n := by omega
      have b : i - lo < 64 := by omega
      have c : lo ≤ i := by omega
      simp [h1, h2, hi, a, b, c]
    · have a : ¬ (i - lo < n) := by omega
      simp [h1, h2, hi, a]

/-- A field read after it is written. -/
theorem fld_putFld_same (w : Word) (lo n v : Nat) (h : lo + n ≤ 64) (hv : v < 2 ^ n) : fld (putFld w lo n v) lo n = v := by
  unfold fld
  apply Nat.eq_of_testBit_eq
  intro i
  rw [BitVec.testBit_toNat, BitVec.getLsbD_extractLsb']
  by_cases hi : i < n
  · rw [putFld_getLsbD _ _ _ _ _ (by omega) (by omega)]
    have : lo ≤ lo + i ∧ lo + i < lo + n := by omega
    simp [hi, this]
  · have : v.testBit i = false := Nat.testBit_lt_two_pow (Nat.lt_of_lt_of_le hv (Nat.pow_le_pow_right (by omega) (by omega)))
    simp [hi, this]

/-- A field read after another field of the same word is written. -/
theorem fld_putFld_other (w : Word) (lo n v lo' n' : Nat) (h : lo + n ≤ 64) (h' : lo' + n' ≤ 64)
    (d : lo' + n' ≤ lo ∨ lo + n ≤ lo') : fld (putFld w lo n v) lo' n' = fld w lo' n' := by
  unfold fld
  apply Nat.eq_of_testBit_eq
  intro i
  rw [BitVec.testBit_toNat, BitVec.testBit_toNat, BitVec.getLsbD_extractLsb', BitVec.getLsbD_extractLsb']
  by_cases hi : i < n'
  · rw [putFld_getLsbD _ _ _ _ _ (by omega) (by omega)]
    have : ¬ (lo ≤ lo' + i ∧ lo' + i < lo + n) := by omega
    simp [hi, this]
  · simp [hi]

/-- A register field read after it is written. -/
theorem State.f_setF_same (s : State) (x : F) (v : Nat) (h : x.lo + x.n ≤ 64) (hv : v < 2 ^ x.n) : (s.setF x v).f x = v := by
  unfold State.f State.setF
  rw [State.reg_setReg_same]; exact fld_putFld_same _ _ _ _ h hv

/-- Another field of the same register. -/
theorem State.f_setF_field (s : State) (x y : F) (v : Nat) (ho : y.off = x.off) (h : x.lo + x.n ≤ 64)
    (h' : y.lo + y.n ≤ 64) (d : y.lo + y.n ≤ x.lo ∨ x.lo + x.n ≤ y.lo) : (s.setF x v).f y = s.f y := by
  unfold State.f State.setF
  rw [ho, State.reg_setReg_same]; exact fld_putFld_other _ _ _ _ _ _ h h' d

end Sys2Proof.Machine
end

