-- ==== Sys2Proof/Laws/Frame.lean ====
section
/-! SUPPORT. Frames: a relation that says which components a function of the state may change, and that it keeps the
canonical form. -/

namespace Sys2Proof.Machine

/-- The number of a component. -/
def Comp.idx : Comp → Nat
  | .pending => 0
  | .freeIdx => 1
  | .sent => 2
  | .inbox => 3
  | .ids => 4
  | .tick => 5
  | .regs => 6
  | .regW => 7
  | .arb => 8
  | .arr => 9
  | .tbl => 10
  | .mnt => 11
  | .mq => 12
  | .lrn => 13
  | .dir => 14
  | .trie => 15
  | .dsram => 16
  | .rng => 17
  | .prt => 18
  | .lds => 19
  | .ctx => 20
  | .heldReads => 21
  | .tier => 22
  | .mem => 23
  | .host => 24
  | .dram => 25
  | .trn => 26
  | .pair => 27
  | .ras => 28
  | .mbox => 29
  | .life => 30
  | .pins => 31

/-- From `s` to `t`, only components whose bit is set in `w` change, and the canonical form is kept. -/
def Eff (w : Nat) (s t : State) : Prop :=
  (∀ x : Comp, w.testBit x.idx = false → State.same s t x) ∧ (s.canonical → t.canonical)

theorem Eff.refl {w : Nat} {s : State} : Eff w s s := ⟨fun x _ => by cases x <;> rfl, id⟩

theorem Comp.same_trans {s t u : State} {x : Comp} (h : State.same s t x) (k : State.same t u x) : State.same s u x := by
  cases x <;> exact Eq.trans k h

/-- A change that stays within `w'`, after one within `w`, where `w'` is part of `w`. -/
theorem Eff.then {w w' : Nat} {s t u : State} (h : Eff w s t) (k : Eff w' t u) (hw : w' &&& w = w') : Eff w s u := by
  refine ⟨fun x hx => Comp.same_trans (h.1 x hx) (k.1 x ?_), fun c => k.2 (h.2 c)⟩
  rw [← hw, Nat.testBit_and, hx, Bool.and_false]

/-- The components outside a change, said of one component. -/
theorem Eff.same {w : Nat} {s t : State} (h : Eff w s t) (x : Comp) (hx : w.testBit x.idx = false) : State.same s t x :=
  h.1 x hx

theorem Eff.step {w : Nat} {s x : State} {P : Prop} (h : Eff w s x) (k : Eff w s x → P) : P := k h

theorem Eff.ite {w : Nat} {s a b : State} {c : Prop} [Decidable c] (ha : Eff w s a) (hb : Eff w s b) :
    Eff w s (if c then a else b) := by split <;> assumption

theorem Eff.foldl {α : Type} {w : Nat} {s t : State} {l : List α} {f : State → α → State} (ht : Eff w s t)
    (hf : ∀ x a, Eff w s x → Eff w s (f x a)) : Eff w s (l.foldl f t) := by
  induction l generalizing t with
  | nil => exact ht
  | cons a l ih => exact ih (hf t a ht)

theorem Eff.mono {w w' : Nat} {s t : State} (k : Eff w' s t) (hw : w' &&& w = w') : Eff w s t := Eff.refl.then k hw

/-- A mask within a mask within a mask. -/
theorem mask_le {a b w : Nat} (h : a &&& b = a) (k : b &&& w = b) : a &&& w = a := by
  rw [← h, Nat.and_assoc, k]

/-! The same for a function that answers a pair or an option. -/

theorem EffL.mk {α : Type} {w : Nat} {s t : State} {a : α} (h : Eff w s t) : Eff w s (t, a).1 := h
theorem EffR.mk {α : Type} {w : Nat} {s t : State} {a : α} (h : Eff w s t) : Eff w s (a, t).2 := h
theorem EffX.at {w : Nat} {s t : State} {o : Res} (e : o = .next t) (h : ∀ u, o = .next u → Eff w s u) : Eff w s t := h t e

/-- An optional state, if there is one, is within the change. -/
abbrev EffO (w : Nat) (s : State) (o : Option State) : Prop := ∀ t, o = some t → Eff w s t
/-- An optional pair with a state. -/
abbrev EffOR {α : Type} (w : Nat) (s : State) (o : Option (α × State)) : Prop := ∀ a t, o = some (a, t) → Eff w s t

theorem EffO.none {w : Nat} {s : State} : EffO w s none := fun _ h => by cases h
theorem EffO.some {w : Nat} {s t : State} (h : Eff w s t) : EffO w s (some t) := fun _ e => by cases e; exact h
theorem EffO.ite {w : Nat} {s : State} {a b : Option State} {c : Prop} [Decidable c] (ha : EffO w s a) (hb : EffO w s b) :
    EffO w s (if c then a else b) := by split <;> assumption
theorem EffO.then {w w' : Nat} {s t : State} {o : Option State} (h : Eff w s t) (k : EffO w' t o) (hw : w' &&& w = w') :
    EffO w s o := fun u e => h.then (k u e) hw
theorem Eff.thenO {w w' : Nat} {s t u : State} {o : Option State} (h : Eff w s t) (e : o = .some u) (k : EffO w' t o)
    (hw : w' &&& w = w') : Eff w s u := h.then (k u e) hw

theorem EffOR.none {α : Type} {w : Nat} {s : State} : EffOR (α := α) w s none := fun _ _ h => by cases h
theorem EffOR.some {α : Type} {w : Nat} {s t : State} {a : α} (h : Eff w s t) : EffOR w s (some (a, t)) :=
  fun _ _ e => by cases e; exact h
theorem EffOR.ite {α : Type} {w : Nat} {s : State} {a b : Option (α × State)} {c : Prop} [Decidable c] (ha : EffOR w s a)
    (hb : EffOR w s b) : EffOR w s (if c then a else b) := by split <;> assumption
theorem EffOR.then {α : Type} {w w' : Nat} {s t : State} {o : Option (α × State)} (h : Eff w s t) (k : EffOR w' t o)
    (hw : w' &&& w = w') : EffOR w s o := fun a u e => h.then (k a u e) hw
theorem Eff.thenOR {α : Type} {w w' : Nat} {s t u : State} {a : α} {o : Option (α × State)} (h : Eff w s t)
    (e : o = .some (a, u)) (k : EffOR w' t o) (hw : w' &&& w = w') : Eff w s u := h.then (k a u e) hw

/-- The next state of an outcome, if there is one, is within the change. -/
abbrev EffX (w : Nat) (s : State) (o : Res) : Prop := ∀ t, o = .next t → Eff w s t

theorem EffX.next {w : Nat} {s t : State} (h : Eff w s t) : EffX w s (.next t) := fun _ e => by cases e; exact h
theorem EffX.ite {w : Nat} {s : State} {a b : Res} {c : Prop} [Decidable c] (ha : EffX w s a) (hb : EffX w s b) :
    EffX w s (if c then a else b) := by split <;> assumption
theorem EffX.then {w w' : Nat} {s t : State} {o : Res} (h : Eff w s t) (k : EffX w' t o) (hw : w' &&& w = w') :
    EffX w s o := fun u e => h.then (k u e) hw

theorem EffL.ite {α : Type} {w : Nat} {s : State} {a b : State × α} {c : Prop} [Decidable c] (ha : Eff w s a.1)
    (hb : Eff w s b.1) : Eff w s (if c then a else b).1 := by split <;> assumption
theorem EffR.ite {α : Type} {w : Nat} {s : State} {a b : α × State} {c : Prop} [Decidable c] (ha : Eff w s a.2)
    (hb : Eff w s b.2) : Eff w s (if c then a else b).2 := by split <;> assumption
theorem Eff.thenL {α : Type} {w w' : Nat} {s t u : State} {a : α} {p : State × α} (h : Eff w s t) (e : p = (u, a))
    (k : Eff w' t p.1) (hw : w' &&& w = w') : Eff w s u := h.then (by rw [e] at k; exact k) hw
theorem Eff.thenR {α : Type} {w w' : Nat} {s t u : State} {a : α} {p : α × State} (h : Eff w s t) (e : p = (a, u))
    (k : Eff w' t p.2) (hw : w' &&& w = w') : Eff w s u := h.then (by rw [e] at k; exact k) hw

theorem EffL.foldl {α β : Type} {w : Nat} {s : State} {t : State × β} {l : List α} {f : State × β → α → State × β}
    (ht : Eff w s t.1) (hf : ∀ x a, Eff w s x.1 → Eff w s (f x a).1) : Eff w s (l.foldl f t).1 := by
  induction l generalizing t with
  | nil => exact ht
  | cons a l ih => exact ih (hf t a ht)
theorem EffO.at {w : Nat} {s t : State} {o : Option State} (e : o = .some t) (h : EffO w s o) : Eff w s t := h t e
theorem EffOR.at {α : Type} {w : Nat} {s t : State} {a : α} {o : Option (α × State)} (e : o = .some (a, t))
    (h : EffOR w s o) : Eff w s t := h a t e
theorem EffL.at {α : Type} {w : Nat} {s t : State} {a : α} {p : State × α} (e : p = (t, a)) (h : Eff w s p.1) :
    Eff w s t := by rw [e] at h; exact h
theorem EffR.at {α : Type} {w : Nat} {s t : State} {a : α} {p : α × State} (e : p = (a, t)) (h : Eff w s p.2) :
    Eff w s t := by rw [e] at h; exact h
theorem Eff.getD {w : Nat} {s d : State} {o : Option State} (h : EffO w s o) (hd : Eff w s d) : Eff w s (o.getD d) := by
  cases o with
  | none => exact hd
  | some t => exact h t rfl
theorem EffO.mapR {α β : Type} {w : Nat} {s : State} {o : Option (α × State)} {f : α × State → β × State}
    (h : EffOR w s o) (hf : ∀ x, (f x).2 = x.2) : EffOR w s (o.map f) := by
  intro b t e
  cases o with
  | none => cases e
  | some p =>
    have e : f p = (b, t) := Option.some.inj e
    have ht : t = p.2 := by rw [← hf p, e]
    rw [ht]; exact h p.1 p.2 rfl

theorem EffR.foldl {α β : Type} {w : Nat} {s : State} {t : β × State} {l : List α} {f : β × State → α → β × State}
    (ht : Eff w s t.2) (hf : ∀ x a, Eff w s x.2 → Eff w s (f x a).2) : Eff w s (l.foldl f t).2 := by
  induction l generalizing t with
  | nil => exact ht
  | cons a l ih => exact ih (hf t a ht)

end Sys2Proof.Machine
end

