-- ==== Sys2Proof/Laws/EffOps.lean ====
section
/-! SUPPORT. What the functions of Machine/Ops.lean may change: bit i of a mask is component i of `Comp.idx`.
The theorems are checked one after another: each is small, and the joined text has many. -/

set_option Elab.async false

namespace Sys2Proof.Machine

theorem upd_freeIdx (s : State) (x) :
    Eff 2 s { s with freeIdx := x } :=
  ⟨fun x h => by cases x <;> first | rfl | exact absurd h (by decide), id⟩
theorem upd_sent (s : State) (x) :
    Eff 4 s { s with sent := x } :=
  ⟨fun x h => by cases x <;> first | rfl | exact absurd h (by decide), id⟩
theorem upd_ras (s : State) (x) :
    Eff 268435456 s { s with ras := x } :=
  ⟨fun x h => by cases x <;> first | rfl | exact absurd h (by decide), id⟩
theorem upd_lds (s : State) (x) :
    Eff 524288 s { s with lds := x } :=
  ⟨fun x h => by cases x <;> first | rfl | exact absurd h (by decide), id⟩
theorem upd_tbl (s : State) (x) :
    Eff 1024 s { s with tbl := x } :=
  ⟨fun x h => by cases x <;> first | rfl | exact absurd h (by decide), id⟩
theorem upd_ctx (s : State) (x) :
    Eff 1048576 s { s with ctx := x } :=
  ⟨fun x h => by cases x <;> first | rfl | exact absurd h (by decide), id⟩
theorem upd_mq (s : State) (x) :
    Eff 4096 s { s with mq := x } :=
  ⟨fun x h => by cases x <;> first | rfl | exact absurd h (by decide), id⟩
theorem upd_pair (s : State) (x) :
    Eff 134217728 s { s with pair := x } :=
  ⟨fun x h => by cases x <;> first | rfl | exact absurd h (by decide), id⟩
theorem upd_inbox (s : State) (x) :
    Eff 8 s { s with inbox := x } :=
  ⟨fun x h => by cases x <;> first | rfl | exact absurd h (by decide), id⟩
theorem upd_mnt (s : State) (x) :
    Eff 2048 s { s with mnt := x } :=
  ⟨fun x h => by cases x <;> first | rfl | exact absurd h (by decide), id⟩
theorem upd_arr (s : State) (x) :
    Eff 512 s { s with arr := x } :=
  ⟨fun x h => by cases x <;> first | rfl | exact absurd h (by decide), id⟩
theorem upd_arb (s : State) (x) :
    Eff 256 s { s with arb := x } :=
  ⟨fun x h => by cases x <;> first | rfl | exact absurd h (by decide), id⟩
theorem upd_arb_arr (s : State) (x0) (x1) :
    Eff 768 s { s with arb := x0, arr := x1 } :=
  ⟨fun x h => by cases x <;> first | rfl | exact absurd h (by decide), id⟩
theorem upd_arr_mnt (s : State) (x0) (x1) :
    Eff 2560 s { s with arr := x0, mnt := x1 } :=
  ⟨fun x h => by cases x <;> first | rfl | exact absurd h (by decide), id⟩
theorem upd_lrn (s : State) (x) :
    Eff 8192 s { s with lrn := x } :=
  ⟨fun x h => by cases x <;> first | rfl | exact absurd h (by decide), id⟩
theorem upd_dsram (s : State) (x) :
    Eff 65536 s { s with dsram := x } :=
  ⟨fun x h => by cases x <;> first | rfl | exact absurd h (by decide), id⟩
theorem upd_mbox (s : State) (x) :
    Eff 536870912 s { s with mbox := x } :=
  ⟨fun x h => by cases x <;> first | rfl | exact absurd h (by decide), id⟩
theorem upd_dram (s : State) (x) :
    Eff 33554432 s { s with dram := x } :=
  ⟨fun x h => by cases x <;> first | rfl | exact absurd h (by decide), id⟩
theorem upd_tier (s : State) (x) :
    Eff 4194304 s { s with tier := x } :=
  ⟨fun x h => by cases x <;> first | rfl | exact absurd h (by decide), id⟩
theorem upd_trie (s : State) (x) :
    Eff 32768 s { s with trie := x } :=
  ⟨fun x h => by cases x <;> first | rfl | exact absurd h (by decide), id⟩
theorem upd_tier_mem (s : State) (x0) (x1) (h : Memory.wf s.mem = true → Memory.wf x1 = true) :
    Eff 12582912 s { s with tier := x0, mem := x1 } :=
  ⟨fun x h => by cases x <;> first | rfl | exact absurd h (by decide), fun c => ⟨c.1, h c.2.1, c.2.2⟩⟩
theorem upd_mem_ras (s : State) (x0) (x1) (h : Memory.wf s.mem = true → Memory.wf x0 = true) :
    Eff 276824064 s { s with mem := x0, ras := x1 } :=
  ⟨fun x h => by cases x <;> first | rfl | exact absurd h (by decide), fun c => ⟨c.1, h c.2.1, c.2.2⟩⟩
theorem upd_mnt_ras (s : State) (x0) (x1) :
    Eff 268437504 s { s with mnt := x0, ras := x1 } :=
  ⟨fun x h => by cases x <;> first | rfl | exact absurd h (by decide), id⟩
theorem upd_arb_mnt_lrn_trie_dsram_pair (s : State) (x0) (x1) (x2) (x3) (x4) (x5) :
    Eff 134326528 s { s with arb := x0, mnt := x1, lrn := x2, trie := x3, dsram := x4, pair := x5 } :=
  ⟨fun x h => by cases x <;> first | rfl | exact absurd h (by decide), id⟩
theorem upd_dir (s : State) (x) :
    Eff 16384 s { s with dir := x } :=
  ⟨fun x h => by cases x <;> first | rfl | exact absurd h (by decide), id⟩
theorem upd_ids_lrn (s : State) (x0) (x1) :
    Eff 8208 s { s with ids := x0, lrn := x1 } :=
  ⟨fun x h => by cases x <;> first | rfl | exact absurd h (by decide), id⟩
theorem upd_mnt_lrn (s : State) (x0) (x1) :
    Eff 10240 s { s with mnt := x0, lrn := x1 } :=
  ⟨fun x h => by cases x <;> first | rfl | exact absurd h (by decide), id⟩
theorem upd_rng (s : State) (x) :
    Eff 131072 s { s with rng := x } :=
  ⟨fun x h => by cases x <;> first | rfl | exact absurd h (by decide), id⟩
theorem upd_ids_rng (s : State) (x0) (x1) :
    Eff 131088 s { s with ids := x0, rng := x1 } :=
  ⟨fun x h => by cases x <;> first | rfl | exact absurd h (by decide), id⟩
theorem upd_mnt_trie_dsram (s : State) (x0) (x1) (x2) :
    Eff 100352 s { s with mnt := x0, trie := x1, dsram := x2 } :=
  ⟨fun x h => by cases x <;> first | rfl | exact absurd h (by decide), id⟩
theorem upd_ids (s : State) (x) :
    Eff 16 s { s with ids := x } :=
  ⟨fun x h => by cases x <;> first | rfl | exact absurd h (by decide), id⟩
theorem upd_heldReads (s : State) (x) :
    Eff 2097152 s { s with heldReads := x } :=
  ⟨fun x h => by cases x <;> first | rfl | exact absurd h (by decide), id⟩
theorem upd_ids_dir (s : State) (x0) (x1) :
    Eff 16400 s { s with ids := x0, dir := x1 } :=
  ⟨fun x h => by cases x <;> first | rfl | exact absurd h (by decide), id⟩
theorem upd_prt (s : State) (x) :
    Eff 262144 s { s with prt := x } :=
  ⟨fun x h => by cases x <;> first | rfl | exact absurd h (by decide), id⟩
theorem upd_dir_heldReads_tier_dram_pair (s : State) (x0) (x1) (x2) (x3) (x4) :
    Eff 174080000 s { s with dir := x0, heldReads := x1, tier := x2, dram := x3, pair := x4 } :=
  ⟨fun x h => by cases x <;> first | rfl | exact absurd h (by decide), id⟩
theorem upd_prt_tier_mem_pair_ras (s : State) (x0) (x1) (x2) (x3) (x4) (h : Memory.wf s.mem = true → Memory.wf x2 = true) :
    Eff 415498240 s { s with prt := x0, tier := x1, mem := x2, pair := x3, ras := x4 } :=
  ⟨fun x h => by cases x <;> first | rfl | exact absurd h (by decide), fun c => ⟨c.1, h c.2.1, c.2.2⟩⟩
theorem upd_life (s : State) (x) :
    Eff 1073741824 s { s with life := x } :=
  ⟨fun x h => by cases x <;> first | rfl | exact absurd h (by decide), id⟩
theorem upd_trn (s : State) (x) :
    Eff 67108864 s { s with trn := x } :=
  ⟨fun x h => by cases x <;> first | rfl | exact absurd h (by decide), id⟩
theorem upd_tbl_trie (s : State) (x0) (x1) :
    Eff 33792 s { s with tbl := x0, trie := x1 } :=
  ⟨fun x h => by cases x <;> first | rfl | exact absurd h (by decide), id⟩
theorem upd_ids_pair (s : State) (x0) (x1) :
    Eff 134217744 s { s with ids := x0, pair := x1 } :=
  ⟨fun x h => by cases x <;> first | rfl | exact absurd h (by decide), id⟩
theorem upd_pins (s : State) (x) :
    Eff 2147483648 s { s with pins := x } :=
  ⟨fun x h => by cases x <;> first | rfl | exact absurd h (by decide), id⟩
theorem upd_tick_pins (s : State) (x0) (x1) :
    Eff 2147483680 s { s with tick := x0, pins := x1 } :=
  ⟨fun x h => by cases x <;> first | rfl | exact absurd h (by decide), id⟩
theorem upd_regW (s : State) (x) :
    Eff 128 s { s with regW := x } :=
  ⟨fun x h => by cases x <;> first | rfl | exact absurd h (by decide), id⟩
theorem upd_tick (s : State) (x) :
    Eff 32 s { s with tick := x } :=
  ⟨fun x h => by cases x <;> first | rfl | exact absurd h (by decide), id⟩

theorem whileUp_eff {w : Nat} {r s : State} {a1} (h : Eff w r s) (h1 : ∀ y0, Eff w r y0 → Eff w r (a1 y0)) :
    EffX w r (whileUp s a1) := by
  unfold whileUp
  refine EffX.next ?_
  refine Eff.ite ?_ ?_
  · refine h1 _ ?_
    exact h
  · exact h

theorem whileServing_eff {w : Nat} {r s : State} {a1} (h : Eff w r s) (h1 : ∀ y0, Eff w r y0 → Eff w r (a1 y0)) :
    EffX w r (whileServing s a1) := by
  unfold whileServing
  refine EffX.next ?_
  refine Eff.ite ?_ ?_
  · refine h1 _ ?_
    exact h
  · exact h

theorem State.when_eff {w : Nat} {r s : State} {a1} {a2} (h : Eff w r s) (h2 : ∀ y0, Eff w r y0 → Eff w r (a2 y0)) :
    Eff w r (State.when s a1 a2) := by
  unfold State.when
  refine Eff.ite ?_ ?_
  · refine h2 _ ?_
    exact h
  · exact h

theorem State.setReg_eff (s : State) (o) (v) : Eff 64 s (s.setReg o v) :=
  ⟨fun x h => by cases x <;> first | rfl | exact absurd h (by decide), fun c => ⟨SMap.wf_set _ _ _ _ c.1, c.2⟩⟩

theorem State.setF_eff (s : State) (a1) (a2) :
    Eff 64 s (State.setF s a1 a2) := by
  unfold State.setF
  refine Eff.then ?_ (State.setReg_eff _ _ _) (by decide)
  exact Eff.refl

theorem State.inc_eff (s : State) (a1) (a2) :
    Eff 64 s (State.inc s a1 a2) := by
  unfold State.inc
  refine Eff.then ?_ (State.setF_eff _ _ _) (by decide)
  exact Eff.refl

theorem State.incMod_eff (s : State) (a1) (a2) :
    Eff 64 s (State.incMod s a1 a2) := by
  unfold State.incMod
  refine Eff.then ?_ (State.setF_eff _ _ _) (by decide)
  exact Eff.refl

theorem State.free_eff (s : State) :
    Eff 2 s (State.free s).2 := by
  unfold State.free
  refine Eff.then ?_ (upd_freeIdx _ _) (by decide)
  exact Eff.refl

theorem State.send_eff (s : State) (a1) :
    Eff 4 s (State.send s a1) := by
  unfold State.send
  refine Eff.then ?_ (upd_sent _ _) (by decide)
  exact Eff.refl

theorem State.sendIrq_eff (s : State) (a1) :
    Eff 4 s (State.sendIrq s a1) := by
  unfold State.sendIrq
  extract_lets -merge x0 x1 x2
  clear_value x0
  have h3 : Eff 4 s x1 := by
    subst x1
    refine Eff.ite ?_ ?_
    · refine Eff.then ?_ (State.send_eff _ _) (by decide)
      exact Eff.refl
    · exact Eff.refl
  clear_value x1
  clear_value x2
  refine Eff.ite ?_ ?_
  · refine Eff.then ?_ (State.send_eff _ _) (by decide)
    exact h3
  · exact h3

theorem State.setIrq_eff (s : State) (a1) :
    Eff 268435524 s (State.setIrq s a1) := by
  unfold State.setIrq
  extract_lets -merge x0 x1 x2
  have h3 : Eff 268435524 s x0 := by
    subst x0
    refine Eff.then ?_ (State.setF_eff _ _ _) (by decide)
    exact Eff.refl
  clear_value x0
  clear_value x1
  have h4 : Eff 268435524 s x2 := by
    subst x2
    refine Eff.then ?_ (upd_ras _ _) (by decide)
    exact h3
  clear_value x2
  refine Eff.ite ?_ ?_
  · refine Eff.then ?_ (State.sendIrq_eff _ _) (by decide)
    exact h4
  · exact h4

theorem State.evtCheck_eff (s : State) :
    Eff 268435524 s (State.evtCheck s) := by
  unfold State.evtCheck
  refine Eff.ite ?_ ?_
  · refine Eff.then ?_ (State.setIrq_eff _ _) (by decide)
    refine Eff.then ?_ (upd_ras _ _) (by decide)
    exact Eff.refl
  · exact Eff.refl

theorem State.setLd_eff (s : State) (a1) (a2) :
    Eff 524288 s (State.setLd s a1 a2) := by
  unfold State.setLd
  refine Eff.then ?_ (upd_lds _ _) (by decide)
  exact Eff.refl

theorem State.updLd_eff (s : State) (a1) (a2) :
    Eff 524288 s (State.updLd s a1 a2) := by
  unfold State.updLd
  refine Eff.then ?_ (State.setLd_eff _ _ _) (by decide)
  exact Eff.refl

theorem State.logIrq_eff (s : State) (a1) (a2) :
    Eff 4 s (State.logIrq s a1 a2) := by
  unfold State.logIrq
  extract_lets -merge x0
  clear_value x0
  refine Eff.ite ?_ ?_
  · refine Eff.then ?_ (State.send_eff _ _) (by decide)
    exact Eff.refl
  · exact Eff.refl

theorem State.logCxl_eff (s : State) (a1) :
    Eff 524292 s (State.logCxl s a1) := by
  unfold State.logCxl
  split
  · rename_i v0 e1
    exact Eff.refl
  · rename_i v2 e3
    refine Eff.foldl ?_ ?_
    · exact Eff.refl
    · intro p4 p5 h6
      try beta_reduce
      refine Eff.ite ?_ ?_
      · refine Eff.then ?_ (State.logIrq_eff _ _ _) (by decide)
        refine Eff.then ?_ (State.updLd_eff _ _ _) (by decide)
        exact h6
      · exact h6
  · rename_i v7 e8 e9
    refine Eff.foldl ?_ ?_
    · exact Eff.refl
    · intro p10 p11 h12
      try beta_reduce
      refine Eff.ite ?_ ?_
      · refine Eff.then ?_ (State.logIrq_eff _ _ _) (by decide)
        refine Eff.then ?_ (State.updLd_eff _ _ _) (by decide)
        exact h12
      · exact h12

theorem State.raiseAt_eff (s : State) (a1) (a2) (a3) (a4) :
    Eff 268959812 s (State.raiseAt s a1 a2 a3 a4) := by
  unfold State.raiseAt
  extract_lets -merge x0 x1 x2 x3 x4 x5 x6 x7 x8
  clear_value x0
  clear_value x1
  clear_value x2
  clear_value x3
  clear_value x4
  have h9 : Eff 268959812 s x5 := by
    subst x5
    refine Eff.then ?_ (upd_ras _ _) (by decide)
    exact Eff.refl
  clear_value x5
  have h10 : Eff 268959812 s x6 := by
    subst x6
    refine Eff.then ?_ (State.incMod_eff _ _ _) (by decide)
    exact h9
  clear_value x6
  clear_value x7
  have h11 : Eff 268959812 s x8 := by
    subst x8
    refine Eff.ite ?_ ?_
    · refine Eff.then ?_ (upd_ras _ _) (by decide)
      exact h10
    · refine Eff.then ?_ (State.setIrq_eff _ _) (by decide)
      refine Eff.then ?_ (State.setF_eff _ _ _) (by decide)
      refine Eff.then ?_ (State.inc_eff _ _ _) (by decide)
      exact h10
  clear_value x8
  refine Eff.then ?_ (State.evtCheck_eff _) (by decide)
  refine Eff.then ?_ (State.logCxl_eff _ _) (by decide)
  exact h11

theorem State.raise_eff (s : State) (a1) (a2) (a3) :
    Eff 268959812 s (State.raise s a1 a2 a3) := by
  unfold State.raise
  refine Eff.then ?_ (State.raiseAt_eff _ _ _ _ _) (by decide)
  exact Eff.refl

theorem State.setLine_eff (s : State) (a) (l) : Eff 8388608 s (s.setLine a l) :=
  ⟨fun x h => by cases x <;> first | rfl | exact absurd h (by decide), fun c => ⟨c.1, Memory.wf_write _ _ _ c.2.1, c.2.2⟩⟩

theorem State.setPoison_eff (s : State) (a1) (a2) :
    Eff 268435456 s (State.setPoison s a1 a2) := by
  unfold State.setPoison
  refine Eff.then ?_ (upd_ras _ _) (by decide)
  exact Eff.refl

end Sys2Proof.Machine
end

