-- ==== Sys2Proof/Laws/EffDone.lean ====
section
/-! SUPPORT. What the functions of Machine/Done.lean may change: bit i of a mask is component i of `Comp.idx`.
The theorems are checked one after another: each is small, and the joined text has many. -/

set_option Elab.async false

namespace Sys2Proof.Machine

theorem State.setTb_eff (s : State) (a1) (a2) :
    Eff 1024 s (State.setTb s a1 a2) := by
  unfold State.setTb
  refine Eff.then ?_ (upd_tbl _ _) (by decide)
  exact Eff.refl

theorem State.updTb_eff (s : State) (a1) (a2) :
    Eff 1024 s (State.updTb s a1 a2) := by
  unfold State.updTb
  refine Eff.then ?_ (State.setTb_eff _ _ _) (by decide)
  exact Eff.refl

theorem State.setCx_eff (s : State) (a1) (a2) :
    Eff 1048576 s (State.setCx s a1 a2) := by
  unfold State.setCx
  refine Eff.then ?_ (upd_ctx _ _) (by decide)
  exact Eff.refl

theorem State.updCx_eff (s : State) (a1) (a2) :
    Eff 1048576 s (State.updCx s a1 a2) := by
  unfold State.updCx
  refine Eff.then ?_ (State.setCx_eff _ _ _) (by decide)
  exact Eff.refl

theorem State.setQp_eff (s : State) (a1) (a2) :
    Eff 4096 s (State.setQp s a1 a2) := by
  unfold State.setQp
  refine Eff.then ?_ (upd_mq _ _) (by decide)
  exact Eff.refl

theorem State.updQp_eff (s : State) (a1) (a2) :
    Eff 4096 s (State.updQp s a1 a2) := by
  unfold State.updQp
  refine Eff.then ?_ (State.setQp_eff _ _ _) (by decide)
  exact Eff.refl

theorem State.linkSend_eff (s : State) (a1) :
    Eff 134217728 s (State.linkSend s a1) := by
  unfold State.linkSend
  refine Eff.then ?_ (upd_pair _ _) (by decide)
  exact Eff.refl

theorem State.resolve_eff (s : State) (a1) (a2) :
    Eff 135268360 s (State.resolve s a1 a2) := by
  unfold State.resolve
  extract_lets -merge x0 x1
  clear_value x0
  clear_value x1
  split
  · rename_i v2 v3 v4
    refine Eff.then ?_ (State.updCx_eff _ _ _) (by decide)
    exact Eff.refl
  · rename_i v5 v6 v7
    refine Eff.then ?_ (State.updCx_eff _ _ _) (by decide)
    exact Eff.refl
  · rename_i v8
    refine Eff.then ?_ (upd_mnt _ _) (by decide)
    exact Eff.refl
  · rename_i v9 v10
    refine Eff.then ?_ (State.linkSend_eff _ _) (by decide)
    exact Eff.refl
  · rename_i v11
    exact Eff.refl
  · rename_i v12
    exact Eff.refl
  · rename_i v13
    exact Eff.refl
  · rename_i v14
    exact Eff.refl
  · rename_i v15 v16
    exact Eff.refl
  · rename_i v17
    exact Eff.refl
  · rename_i v18 v19
    exact Eff.refl
  · rename_i v20 v21
    exact Eff.refl
  · rename_i v22 v23
    exact Eff.refl
  · rename_i v24 v25
    refine Eff.then ?_ (upd_inbox _ _) (by decide)
    exact Eff.refl
  · rename_i v26 v27
    refine Eff.then ?_ (upd_inbox _ _) (by decide)
    exact Eff.refl
  · rename_i v28 v29 v30 v31
    refine Eff.then ?_ (upd_inbox _ _) (by decide)
    exact Eff.refl
  · rename_i v32 v33 v34
    refine Eff.then ?_ (upd_inbox _ _) (by decide)
    exact Eff.refl

theorem State.takeInbox_eff (s : State) (a1) :
    EffOR 8 s (State.takeInbox s a1) := by
  unfold State.takeInbox
  split
  · rename_i v0 v1 e2
    refine EffOR.some ?_
    refine Eff.then ?_ (upd_inbox _ _) (by decide)
    exact Eff.refl
  · rename_i v3 e4
    exact EffOR.none

end Sys2Proof.Machine
end

