-- ==== Sys2Proof/Laws/EffArray.lean ====
section
/-! SUPPORT. What the functions of Machine/Array.lean may change: bit i of a mask is component i of `Comp.idx`.
The theorems are checked one after another: each is small, and the joined text has many. -/

set_option Elab.async false

namespace Sys2Proof.Machine

theorem State.setArow_eff (s : State) (a1) (a2) :
    Eff 512 s (State.setArow s a1 a2) := by
  unfold State.setArow
  refine Eff.then ?_ (upd_arr _ _) (by decide)
  exact Eff.refl

theorem State.setHrow_eff (s : State) (a1) (a2) (a3) :
    Eff 512 s (State.setHrow s a1 a2 a3) := by
  unfold State.setHrow
  refine Eff.then ?_ (upd_arr _ _) (by decide)
  exact Eff.refl

theorem State.shadowPut_eff (s : State) (a1) (a2) :
    Eff 268435456 s (State.shadowPut s a1 a2) := by
  unfold State.shadowPut
  extract_lets -merge x0 x1 x2 x3 x4 x5
  clear_value x0
  have h6 : Eff 268435456 s x1 := by
    subst x1
    refine Eff.then ?_ (upd_ras _ _) (by decide)
    exact Eff.refl
  clear_value x1
  clear_value x2
  clear_value x3
  clear_value x4
  clear_value x5
  refine Eff.ite ?_ ?_
  · refine Eff.then ?_ (upd_ras _ _) (by decide)
    exact h6
  · refine Eff.ite ?_ ?_
    · refine Eff.then ?_ (upd_ras _ _) (by decide)
      exact h6
    · refine Eff.then ?_ (upd_ras _ _) (by decide)
      exact h6

theorem State.commitRow_eff (s : State) (a1) (a2) (a3) :
    Eff 268435968 s (State.commitRow s a1 a2 a3) := by
  unfold State.commitRow
  extract_lets -merge x0
  clear_value x0
  refine Eff.then ?_ (State.shadowPut_eff _ _ _) (by decide)
  refine Eff.then ?_ (State.setArow_eff _ _ _) (by decide)
  exact Eff.refl

theorem State.freeRow_eff (s : State) (a1) :
    Eff 268435968 s (State.freeRow s a1) := by
  unfold State.freeRow
  extract_lets -merge x0 x1
  clear_value x0
  have h2 : Eff 268435968 s x1 := by
    subst x1
    refine Eff.ite ?_ ?_
    · refine Eff.then ?_ (State.setHrow_eff _ _ _ _) (by decide)
      exact Eff.refl
    · exact Eff.refl
  clear_value x1
  refine Eff.then ?_ (State.commitRow_eff _ _ _ _) (by decide)
  exact h2

theorem State.rowLeft_eff (s : State) (a1) :
    Eff 2048 s (State.rowLeft s a1) := by
  unfold State.rowLeft
  refine Eff.ite ?_ ?_
  · refine Eff.then ?_ (upd_mnt _ _) (by decide)
    exact Eff.refl
  · exact Eff.refl

theorem State.report_eff (s : State) (a1) :
    Eff 268435520 s (State.report s a1) := by
  unfold State.report
  refine Eff.ite ?_ ?_
  · exact Eff.refl
  · refine Eff.ite ?_ ?_
    · refine Eff.then ?_ (upd_ras _ _) (by decide)
      exact Eff.refl
    · refine Eff.then ?_ (State.inc_eff _ _ _) (by decide)
      exact Eff.refl

theorem State.setIface_eff (s : State) (a1) (a2) (a3) :
    Eff 256 s (State.setIface s a1 a2 a3) := by
  unfold State.setIface
  refine Eff.then ?_ (upd_arb _ _) (by decide)
  exact Eff.refl

theorem State.enqAt_eff (s : State) (a1) (a2) (a3) :
    Eff 256 s (State.enqAt s a1 a2 a3) := by
  unfold State.enqAt
  extract_lets -merge x0
  clear_value x0
  refine Eff.then ?_ (State.setIface_eff _ _ _ _) (by decide)
  exact Eff.refl

theorem State.enqOp_eff (s : State) (a1) (a2) :
    Eff 256 s (State.enqOp s a1 a2) := by
  unfold State.enqOp
  refine Eff.ite ?_ ?_
  · refine Eff.then ?_ (State.enqAt_eff _ _ _ _) (by decide)
    exact Eff.refl
  · split
    · rename_i v0 v1 e2
      extract_lets -merge x3 x4
      have h5 : Eff 256 s x3 := by
        subst x3
        refine Eff.then ?_ (State.enqAt_eff _ _ _ _) (by decide)
        exact Eff.refl
      clear_value x3
      clear_value x4
      refine Eff.then ?_ (upd_arb _ _) (by decide)
      exact h5
    · rename_i v6 e7
      exact Eff.refl

theorem State.dropOps_eff (s : State) (a1) :
    Eff 256 s (State.dropOps s a1) := by
  unfold State.dropOps
  extract_lets -merge x0 x1
  clear_value x0
  clear_value x1
  refine Eff.then ?_ (upd_arb _ _) (by decide)
  exact Eff.refl

theorem State.enterPort_eff (s : State) (a1) (a2) (a3) (a4) :
    Eff 768 s (State.enterPort s a1 a2 a3 a4) := by
  unfold State.enterPort
  extract_lets -merge x0 x1 x2 x3
  clear_value x0
  clear_value x1
  clear_value x2
  clear_value x3
  refine Eff.then ?_ (upd_arb_arr _ _ _) (by decide)
  exact Eff.refl

theorem State.withdrawHead_eff (s : State) (a1) (a2) :
    Eff 256 s (State.withdrawHead s a1 a2) := by
  unfold State.withdrawHead
  extract_lets -merge x0
  clear_value x0
  split
  · rename_i v1 e2
    exact Eff.refl
  · rename_i v3 v4 v5 e6
    extract_lets -merge x7 x8
    have h9 : Eff 256 s x7 := by
      subst x7
      refine Eff.then ?_ (State.setIface_eff _ _ _ _) (by decide)
      exact Eff.refl
    clear_value x7
    clear_value x8
    refine Eff.then ?_ (upd_arb _ _) (by decide)
    exact h9

theorem State.arbPort_eff (ok) (t p n : Nat) (s : State) (l0) (l1) : Eff 768 s (State.arbPort ok t p n s l0 l1).1 := by
  induction n generalizing s with
  | zero => exact Eff.refl
  | succ n ih =>
    unfold State.arbPort
    extract_lets reqs lose src elig win
    have hl : ∀ x w, Eff 768 s x → Eff 768 s (lose x w) := by
      intro x w h
      exact Eff.foldl h (fun y a hy => Eff.ite hy (Eff.then hy (State.setIface_eff _ _ _ _) (by decide)))
    clear_value lose src win elig reqs
    split
    · exact hl _ _ (Eff.then (Eff.then Eff.refl (upd_arb _ _) (by decide)) (State.enterPort_eff _ _ _ _ _) (by decide))
    · refine EffL.ite (hl _ _ Eff.refl) ?_
      split
      · exact hl _ _ Eff.refl
      · refine EffL.ite (Eff.then (Eff.then Eff.refl (State.withdrawHead_eff _ _ _) (by decide)) (ih _) (by decide)) ?_
        exact hl _ _ (Eff.then (Eff.then Eff.refl (State.setIface_eff _ _ _ _) (by decide))
          (State.enterPort_eff _ _ _ _ _) (by decide))

theorem State.arbLoop_eff (ok) (t : Nat) (ks : List Nat) (s : State) (l0) (l1) :
    Eff 768 s (State.arbLoop ok t ks s l0 l1) := by
  induction ks generalizing s l0 l1 with
  | nil => exact Eff.refl
  | cons k ks ih => exact Eff.then (State.arbPort_eff ok t ((t + k) % 8) _ s l0 l1) (ih _ _ _) (by decide)

theorem State.countDelay_eff (s : State) (a1) :
    Eff 64 s (State.countDelay s a1) := by
  unfold State.countDelay
  refine Eff.ite ?_ ?_
  · exact Eff.refl
  · extract_lets -merge x0
    clear_value x0
    refine Eff.foldl ?_ ?_
    · exact Eff.refl
    · intro p1 p2 h3
      try beta_reduce
      refine Eff.then ?_ (State.inc_eff _ _ _) (by decide)
      exact h3

theorem State.arbitrate_eff (s : State) (a1) (a2) :
    Eff 832 s (State.arbitrate s a1 a2) := by
  unfold State.arbitrate
  refine Eff.then ?_ (State.arbLoop_eff _ _ _ _ _ _) (by decide)
  refine Eff.then ?_ (State.countDelay_eff _ _) (by decide)
  exact Eff.refl

theorem State.mapFlights_eff (s : State) (a1) :
    Eff 256 s (State.mapFlights s a1) := by
  unfold State.mapFlights
  refine Eff.then ?_ (upd_arb _ _) (by decide)
  exact Eff.refl

theorem State.setZ_eff (s : State) (a1) (a2) (a3) :
    Eff 512 s (State.setZ s a1 a2 a3) := by
  unfold State.setZ
  refine Eff.then ?_ (upd_arr _ _) (by decide)
  exact Eff.refl

theorem State.widen_eff (s : State) (a1) (a2) :
    Eff 512 s (State.widen s a1 a2) := by
  unfold State.widen
  extract_lets -merge x0
  clear_value x0
  refine Eff.ite ?_ ?_
  · exact Eff.refl
  · refine Eff.then ?_ (State.setZ_eff _ _ _ _) (by decide)
    exact Eff.refl

theorem State.tightenZ_eff (s : State) (a1) (a2) (a3) (a4) :
    Eff 2560 s (State.tightenZ s a1 a2 a3 a4) := by
  unfold State.tightenZ
  extract_lets -merge x0 x1 x2 x3
  clear_value x0
  clear_value x1
  have h4 : Eff 2560 s x2 := by
    subst x2
    refine Eff.then ?_ (State.setZ_eff _ _ _ _) (by decide)
    exact Eff.refl
  clear_value x2
  clear_value x3
  refine Eff.ite ?_ ?_
  · exact Eff.refl
  · refine Eff.then ?_ (upd_mnt _ _) (by decide)
    exact h4

theorem State.zParity_eff (s : State) (a1) (a2) :
    Eff 268962372 s (State.zParity s a1 a2) := by
  unfold State.zParity
  extract_lets -merge x0 x1 x2 x3
  clear_value x0
  clear_value x1
  clear_value x2
  have h4 : Eff 268962372 s x3 := by
    subst x3
    refine Eff.then ?_ (upd_arr_mnt _ _ _) (by decide)
    exact Eff.refl
  clear_value x3
  refine Eff.ite ?_ ?_
  · exact Eff.refl
  · refine Eff.foldl ?_ ?_
    · exact h4
    · intro p5 p6 h7
      try beta_reduce
      refine Eff.ite ?_ ?_
      · refine Eff.then ?_ (State.raise_eff _ _ _ _) (by decide)
        exact h7
      · exact h7

theorem State.t2_eff (s : State) (a1) (a2) :
    Eff 268962372 s (State.t2 s a1 a2) := by
  unfold State.t2
  refine Eff.ite ?_ ?_
  · exact Eff.refl
  · extract_lets -merge x0 x1 x2 x3
    clear_value x0
    have h4 : ∀ p0 p1, Eff 268962372 s p0 → Eff 268962372 s (x1 p0 p1) := by
      subst x1
      intro p5 p6 h7
      try beta_reduce
      refine Eff.then ?_ (upd_arr _ _) (by decide)
      exact h7
    clear_value x1
    clear_value x2
    have h8 : Eff 268962372 s x3 := by
      subst x3
      refine Eff.foldl ?_ ?_
      · exact Eff.refl
      · intro p9 p10 h11
        try beta_reduce
        refine Eff.then ?_ (State.zParity_eff _ _ _) (by decide)
        exact h11
    clear_value x3
    split
    · rename_i v12 v13 v14 v15 e16
      refine h4 _ _ ?_
      refine Eff.ite ?_ ?_
      · refine Eff.then ?_ (State.widen_eff _ _ _) (by decide)
        exact Eff.refl
      · exact Eff.refl
    · rename_i v17 v18 e19
      refine h4 _ _ ?_
      exact Eff.refl
    · rename_i v20 v21 v22 v23 v24 e25
      refine Eff.then ?_ (State.tightenZ_eff _ _ _ _ _) (by decide)
      exact Eff.refl
    · rename_i v26 v27 v28 e29 e30
      exact Eff.refl
    · rename_i v31 v32 v33 v34 e35
      split
      · rename_i v36 e37
        exact Eff.refl
      · rename_i v38 v39 e40
        extract_lets -merge x41
        clear_value x41
        refine h4 _ _ ?_
        exact h8
    · rename_i v42 v43 v44 v45 v46 v47 e48
      split
      · rename_i v49 e50
        exact Eff.refl
      · rename_i v51 v52 e53
        extract_lets -merge x54
        clear_value x54
        refine h4 _ _ ?_
        exact h8

theorem State.noteProbe_eff (s : State) (a1) (a2) :
    Eff 8192 s (State.noteProbe s a1 a2) := by
  unfold State.noteProbe
  refine Eff.ite ?_ ?_
  · exact Eff.refl
  · split
    · rename_i v0 v1 v2 v3 v4 v5 v6 v7 e8 e9 e10
      extract_lets -merge x11 x12
      clear_value x11
      clear_value x12
      refine Eff.then ?_ (upd_lrn _ _) (by decide)
      exact Eff.refl
    · rename_i v13 v14 v15 e16
      exact Eff.refl

theorem State.reportFails_eff (s : State) (a1) (a2) :
    Eff 268435520 s (State.reportFails s a1 a2) := by
  unfold State.reportFails
  refine Eff.ite ?_ ?_
  · exact Eff.refl
  · split
    · rename_i v0 v1 e2
      refine Eff.foldl ?_ ?_
      · exact Eff.refl
      · intro p3 p4 h5
        try beta_reduce
        refine Eff.ite ?_ ?_
        · refine Eff.then ?_ (State.report_eff _ _) (by decide)
          exact h5
        · exact h5
    · rename_i v6 e7
      exact Eff.refl

theorem State.cutFlights_eff (s : State) (a1) :
    Eff 768 s (State.cutFlights s a1) := by
  unfold State.cutFlights
  refine Eff.then ?_ (upd_arb_arr _ _ _) (by decide)
  exact Eff.refl

theorem State.chargeOwed_eff (s : State) (a1) :
    Eff 512 s (State.chargeOwed s a1) := by
  unfold State.chargeOwed
  refine Eff.then ?_ (upd_arr _ _) (by decide)
  exact Eff.refl

theorem State.govern_eff (s : State) :
    Eff 512 s (State.govern s) := by
  unfold State.govern
  refine Eff.then ?_ (upd_arr _ _) (by decide)
  exact Eff.refl

theorem State.arrayClose_eff (s : State) :
    Eff 268970820 s (State.arrayClose s) := by
  unfold State.arrayClose
  extract_lets -merge x0 x1 x2 x3 x4 x5 x6 x7
  clear_value x0
  have h8 : Eff 268970820 s x1 := by
    subst x1
    refine Eff.then ?_ (State.mapFlights_eff _ _) (by decide)
    exact Eff.refl
  clear_value x1
  have h9 : Eff 268970820 s x2 := by
    subst x2
    refine Eff.foldl ?_ ?_
    · exact h8
    · intro p10 p11 h12
      try beta_reduce
      refine Eff.then ?_ (State.t2_eff _ _ _) (by decide)
      exact h12
  clear_value x2
  have h13 : Eff 268970820 s x3 := by
    subst x3
    refine Eff.then ?_ (State.mapFlights_eff _ _) (by decide)
    exact h9
  clear_value x3
  have h14 : Eff 268970820 s x4 := by
    subst x4
    refine Eff.foldl ?_ ?_
    · exact h13
    · intro p15 p16 h17
      try beta_reduce
      refine Eff.then ?_ (State.noteProbe_eff _ _ _) (by decide)
      exact h17
  clear_value x4
  have h18 : Eff 268970820 s x5 := by
    subst x5
    refine Eff.then ?_ (State.mapFlights_eff _ _) (by decide)
    exact h14
  clear_value x5
  have h19 : Eff 268970820 s x6 := by
    subst x6
    refine Eff.foldl ?_ ?_
    · exact h18
    · intro p20 p21 h22
      try beta_reduce
      refine Eff.then ?_ (State.reportFails_eff _ _ _) (by decide)
      exact h22
  clear_value x6
  have h23 : Eff 268970820 s x7 := by
    subst x7
    refine Eff.then ?_ (State.mapFlights_eff _ _) (by decide)
    exact h19
  clear_value x7
  refine Eff.then ?_ (State.govern_eff _) (by decide)
  refine Eff.then ?_ (State.chargeOwed_eff _ _) (by decide)
  exact h23

end Sys2Proof.Machine
end

