-- ==== Sys2Proof/Laws/EffPipe.lean ====
section
/-! SUPPORT. What the functions of Machine/Pipe.lean may change: bit i of a mask is component i of `Comp.idx`.
The theorems are checked one after another: each is small, and the joined text has many. -/

set_option Elab.async false

namespace Sys2Proof.Machine

theorem State.setDword_eff (s : State) (a1) (a2) :
    Eff 65536 s (State.setDword s a1 a2) := by
  unfold State.setDword
  refine Eff.then ?_ (upd_dsram _ _) (by decide)
  exact Eff.refl

theorem State.setLdMap_eff (s : State) (a1) (a2) :
    Eff 65536 s (State.setLdMap s a1 a2) := by
  unfold State.setLdMap
  refine Eff.foldl ?_ ?_
  · exact Eff.refl
  · intro p0 p1 h2
    try beta_reduce
    refine Eff.then ?_ (State.setDword_eff _ _ _) (by decide)
    exact h2

theorem State.dropFlight_eff (s : State) (a1) :
    Eff 256 s (State.dropFlight s a1) := by
  unfold State.dropFlight
  refine Eff.then ?_ (upd_arb _ _) (by decide)
  exact Eff.refl

theorem State.searchDeliver_eff (s : State) (a1) :
    Eff 135268616 s (State.searchDeliver s a1) := by
  unfold State.searchDeliver
  split
  · rename_i v0 e1
    exact Eff.refl
  · rename_i v2 v3 e4
    extract_lets -merge x5 x6
    clear_value x5
    have h7 : Eff 135268616 s x6 := by
      subst x6
      refine Eff.then ?_ (State.dropFlight_eff _ _) (by decide)
      exact Eff.refl
    clear_value x6
    split
    · rename_i v8 v9 e10
      refine Eff.then ?_ (State.linkSend_eff _ _) (by decide)
      exact h7
    · rename_i v11 e12
      refine Eff.then ?_ (State.resolve_eff _ _ _) (by decide)
      exact h7

theorem execSearchResultDeliver_eff (a0) (s : State) :
    EffX 135268616 s (execSearchResultDeliver a0 s) := by
  unfold execSearchResultDeliver
  refine whileUp_eff ?_ ?_
  · exact Eff.refl
  · intro p0 h1
    try beta_reduce
    refine Eff.then ?_ (State.searchDeliver_eff _ _) (by decide)
    exact h1

theorem execBackoffExpiry_eff (a0) (a1) (s : State) :
    EffX 256 s (execBackoffExpiry a0 a1 s) := by
  unfold execBackoffExpiry
  refine whileUp_eff ?_ ?_
  · exact Eff.refl
  · intro p0 h1
    try beta_reduce
    extract_lets -merge x2
    clear_value x2
    refine State.when_eff ?_ ?_
    · exact h1
    · intro p3 h4
      try beta_reduce
      refine Eff.then ?_ (State.setIface_eff _ _ _ _) (by decide)
      exact h4

theorem State.stick_eff (s : State) (a1) (a2) (a3) :
    Eff 256 s (State.stick s a1 a2 a3) := by
  unfold State.stick
  extract_lets -merge x0 x1
  have h2 : Eff 256 s x0 := by
    subst x0
    refine Eff.then ?_ (State.mapFlights_eff _ _) (by decide)
    exact Eff.refl
  clear_value x0
  clear_value x1
  refine Eff.then ?_ (upd_arb _ _) (by decide)
  exact h2

theorem State.wdogFire_eff (s : State) (a1) :
    Eff 404228428 s (State.wdogFire s a1) := by
  unfold State.wdogFire
  split
  · rename_i v0 v1 v2 v3 e4
    refine Eff.ite ?_ ?_
    · refine Eff.then ?_ (State.stick_eff _ _ _ _) (by decide)
      exact Eff.refl
    · exact Eff.refl
  · rename_i v5 v6 v7 e8
    refine Eff.ite ?_ ?_
    · exact Eff.refl
    · extract_lets -merge x9 x10 x11 x12 x13 x14 x15 x16
      clear_value x9
      have h17 : Eff 404228428 s x10 := by
        subst x10
        refine Eff.then ?_ (State.setIface_eff _ _ _ _) (by decide)
        exact Eff.refl
      clear_value x10
      clear_value x11
      have h18 : Eff 404228428 s x12 := by
        subst x12
        refine Eff.then ?_ (upd_arb _ _) (by decide)
        exact h17
      clear_value x12
      have h19 : Eff 404228428 s x13 := by
        subst x13
        split
        · rename_i v20 v21 e22
          refine Eff.then ?_ (State.resolve_eff _ _ _) (by decide)
          refine Eff.then ?_ (State.dropFlight_eff _ _) (by decide)
          exact h18
        · rename_i v23 e24
          exact h18
      clear_value x13
      have h25 : Eff 404228428 s x14 := by
        subst x14
        refine Eff.then ?_ (State.setF_eff _ _ _) (by decide)
        exact h19
      clear_value x14
      have h26 : Eff 404228428 s x15 := by
        subst x15
        refine Eff.then ?_ (State.setF_eff _ _ _) (by decide)
        exact h25
      clear_value x15
      have h27 : Eff 404228428 s x16 := by
        subst x16
        refine Eff.then ?_ (State.setF_eff _ _ _) (by decide)
        exact h26
      clear_value x16
      refine Eff.then ?_ (State.raise_eff _ _ _ _) (by decide)
      exact h27
  · rename_i v28 e29 e30
    exact Eff.refl

theorem execArbWatchdogFire_eff (a0) (s : State) :
    EffX 404228428 s (execArbWatchdogFire a0 s) := by
  unfold execArbWatchdogFire
  refine whileUp_eff ?_ ?_
  · exact Eff.refl
  · intro p0 h1
    try beta_reduce
    refine Eff.then ?_ (State.wdogFire_eff _ _) (by decide)
    exact h1

theorem State.fixApply_eff (s : State) :
    Eff 64 s (State.fixApply s) := by
  unfold State.fixApply
  refine Eff.foldl ?_ ?_
  · exact Eff.refl
  · intro p0 p1 h2
    try beta_reduce
    refine Eff.then ?_ (State.setReg_eff _ _ _) (by decide)
    exact h2

theorem execFixApply_eff (a0) (s : State) :
    EffX 64 s (execFixApply a0 s) := by
  unfold execFixApply
  refine whileUp_eff ?_ ?_
  · exact Eff.refl
  · intro p0 h1
    try beta_reduce
    refine State.when_eff ?_ ?_
    · exact h1
    · intro p2 h3
      try beta_reduce
      refine Eff.then ?_ (State.fixApply_eff _) (by decide)
      exact h3

theorem execArbPortMaskWrite_eff (a0) (a1) (a2) (s : State) :
    EffX 64 s (execArbPortMaskWrite a0 a1 a2 s) := by
  unfold execArbPortMaskWrite
  refine whileUp_eff ?_ ?_
  · exact Eff.refl
  · intro p0 h1
    try beta_reduce
    refine State.when_eff ?_ ?_
    · exact h1
    · intro p2 h3
      try beta_reduce
      refine Eff.then ?_ (State.setF_eff _ _ _) (by decide)
      exact h3

theorem State.decline_eff (s : State) (a1) :
    Eff 134217792 s (State.decline s a1) := by
  unfold State.decline
  refine Eff.then ?_ (State.inc_eff _ _ _) (by decide)
  refine Eff.then ?_ (State.linkSend_eff _ _) (by decide)
  exact Eff.refl

theorem State.casReq_eff (s : State) (a1) :
    Eff 134218048 s (State.casReq s a1) := by
  unfold State.casReq
  extract_lets -merge x0 x1 x2 x3 x4 x5 x6 x7
  clear_value x0
  clear_value x1
  have h8 : Eff 134218048 s x2 := by
    subst x2
    refine Eff.ite ?_ ?_
    · refine Eff.then ?_ (State.inc_eff _ _ _) (by decide)
      exact Eff.refl
    · exact Eff.refl
  clear_value x2
  clear_value x3
  clear_value x4
  clear_value x5
  clear_value x6
  clear_value x7
  refine Eff.ite ?_ ?_
  · refine Eff.then ?_ (State.decline_eff _ _) (by decide)
    exact h8
  · refine Eff.ite ?_ ?_
    · refine Eff.then ?_ (State.decline_eff _ _) (by decide)
      exact h8
    · split
      · rename_i v9 e10
        refine Eff.then ?_ (State.decline_eff _ _) (by decide)
        exact h8
      · rename_i v11 v12 e13
        refine Eff.then ?_ (upd_arb _ _) (by decide)
        exact h8

theorem execCasReq_eff (a0) (s : State) :
    EffX 134218048 s (execCasReq a0 s) := by
  unfold execCasReq
  refine whileServing_eff ?_ ?_
  · exact Eff.refl
  · intro p0 h1
    try beta_reduce
    refine Eff.then ?_ (State.casReq_eff _ _) (by decide)
    exact h1

theorem State.putFlight_eff (s : State) (a1) (a2) :
    Eff 256 s (State.putFlight s a1 a2) := by
  unfold State.putFlight
  refine Eff.then ?_ (State.mapFlights_eff _ _) (by decide)
  exact Eff.refl

theorem State.casReply_eff (s : State) (a1) :
    Eff 320 s (State.casReply s a1) := by
  unfold State.casReply
  split
  · rename_i v0 v1 e2
    refine Eff.ite ?_ ?_
    · refine Eff.then ?_ (State.putFlight_eff _ _ _) (by decide)
      exact Eff.refl
    · exact Eff.refl
  · rename_i v3 e4
    refine Eff.ite ?_ ?_
    · refine Eff.then ?_ (State.inc_eff _ _ _) (by decide)
      exact Eff.refl
    · exact Eff.refl

theorem execCasReply_eff (a0) (s : State) :
    EffX 320 s (execCasReply a0 s) := by
  unfold execCasReply
  refine whileUp_eff ?_ ?_
  · exact Eff.refl
  · intro p0 h1
    try beta_reduce
    refine Eff.then ?_ (State.casReply_eff _ _) (by decide)
    exact h1

theorem State.casDecline_eff (s : State) (a1) :
    Eff 256 s (State.casDecline s a1) := by
  unfold State.casDecline
  split
  · rename_i v0 v1 e2
    refine Eff.then ?_ (State.putFlight_eff _ _ _) (by decide)
    exact Eff.refl
  · rename_i v3 e4
    exact Eff.refl

theorem execCasDecline_eff (a0) (s : State) :
    EffX 256 s (execCasDecline a0 s) := by
  unfold execCasDecline
  refine whileUp_eff ?_ ?_
  · exact Eff.refl
  · intro p0 h1
    try beta_reduce
    refine Eff.then ?_ (State.casDecline_eff _ _) (by decide)
    exact h1

theorem State.cascadeMerge_eff (s : State) (a1) :
    Eff 135268680 s (State.cascadeMerge s a1) := by
  unfold State.cascadeMerge
  split
  · rename_i v0 e1
    exact Eff.refl
  · rename_i v2 v3 e4
    extract_lets -merge x5 x6 x7
    clear_value x5
    have h8 : Eff 135268680 s x6 := by
      subst x6
      refine Eff.then ?_ (State.dropFlight_eff _ _) (by decide)
      exact Eff.refl
    clear_value x6
    have h9 : Eff 135268680 s x7 := by
      subst x7
      refine Eff.then ?_ (State.inc_eff _ _ _) (by decide)
      exact h8
    clear_value x7
    refine Eff.ite ?_ ?_
    · refine Eff.then ?_ (State.resolve_eff _ _ _) (by decide)
      exact h8
    · split
      · rename_i v10 v11 e12
        refine Eff.then ?_ (State.resolve_eff _ _ _) (by decide)
        exact h8
      · rename_i v13 e14
        refine Eff.then ?_ (State.resolve_eff _ _ _) (by decide)
        exact h9

theorem execCascadeMerge_eff (a0) (s : State) :
    EffX 135268680 s (execCascadeMerge a0 s) := by
  unfold execCascadeMerge
  refine whileUp_eff ?_ ?_
  · exact Eff.refl
  · intro p0 h1
    try beta_reduce
    refine Eff.then ?_ (State.cascadeMerge_eff _ _) (by decide)
    exact h1

theorem State.frameCascade_eff (s : State) (a1) :
    Eff 134217984 s (State.frameCascade s a1) := by
  unfold State.frameCascade
  refine Eff.foldl ?_ ?_
  · exact Eff.refl
  · intro p0 p1 h2
    try beta_reduce
    refine Eff.ite ?_ ?_
    · extract_lets -merge x3
      have h4 : Eff 134217984 s x3 := by
        subst x3
        refine Eff.then ?_ (State.putFlight_eff _ _ _) (by decide)
        exact h2
      clear_value x3
      split
      · rename_i v5 v6 e7
        refine Eff.ite ?_ ?_
        · refine Eff.then ?_ (State.linkSend_eff _ _) (by decide)
          exact h4
        · exact h4
      · rename_i v8 e9
        exact h4
    · exact h2

end Sys2Proof.Machine
end

