-- ==== Sys2Proof/Laws/EffOwnerCmd.lean ====
section
/-! SUPPORT. What the functions of Machine/OwnerCmd.lean may change: bit i of a mask is component i of `Comp.idx`.
The theorems are checked one after another: each is small, and the joined text has many. -/

set_option Elab.async false

namespace Sys2Proof.Machine

theorem State.ownerEnd_eff (s : State) (a1) (a2) (a3) (a4) (a5) :
    Eff 536870912 s (State.ownerEnd s a1 a2 a3 a4 a5) := by
  unfold State.ownerEnd
  extract_lets -merge x0 x1
  clear_value x0
  clear_value x1
  refine Eff.then ?_ (upd_mbox _ _) (by decide)
  exact Eff.refl

theorem State.owner1_eff {w : Nat} {r s : State} {a1} {a2} {a3} {a4} (h : Eff w r s) (h4 : ∀ y0, Eff w r y0 → Eff w r (a4 y0))
    (hw : 536870912 &&& w = 536870912 := by decide) :
    Eff w r (State.owner1 s a1 a2 a3 a4) := by
  unfold State.owner1
  refine Eff.ite ?_ ?_
  · exact h
  · refine Eff.ite ?_ ?_
    · refine Eff.then ?_ (State.ownerEnd_eff _ _ _ _ _ _) (mask_le (by decide) hw)
      exact h
    · split
      · rename_i v0 v1
        refine Eff.then ?_ (State.ownerEnd_eff _ _ _ _ _ _) (mask_le (by decide) hw)
        exact h
      · rename_i v2
        refine Eff.then ?_ (State.ownerEnd_eff _ _ _ _ _ _) (mask_le (by decide) hw)
        refine h4 _ ?_
        exact h

theorem State.runsLong_eff {w : Nat} {r s t : State} {via} (_ : Eff w r s) (h : Eff w r t)
    (hw : 536870912 &&& w = 536870912 := by decide) : Eff w r (s.runsLong t via) := by
  unfold State.runsLong
  exact Eff.ite (Eff.then h (upd_mbox _ _) hw) h

theorem State.ownerLong_eff {w : Nat} {r s : State} {a1} {a2} {a3} {a4} (h : Eff w r s) (h4 : ∀ y0, Eff w r y0 → Eff w r (a4 y0))
    (hw : 536870912 &&& w = 536870912 := by decide) :
    Eff w r (State.ownerLong s a1 a2 a3 a4) := by
  unfold State.ownerLong
  refine Eff.ite ?_ ?_
  · exact h
  · refine Eff.ite ?_ ?_
    · refine Eff.then ?_ (State.ownerEnd_eff _ _ _ _ _ _) (mask_le (by decide) hw)
      exact h
    · split
      · rename_i v0 v1
        refine Eff.then ?_ (State.ownerEnd_eff _ _ _ _ _ _) (mask_le (by decide) hw)
        exact h
      · rename_i v2
        refine State.runsLong_eff ?_ ?_ (hw := mask_le (by decide) hw)
        · exact h
        · refine h4 _ ?_
          exact h

theorem State.setBlockFree_eff (s : State) (a1) :
    Eff 64 s (State.setBlockFree s a1) := by
  unfold State.setBlockFree
  refine Eff.then ?_ (State.setReg_eff _ _ _) (by decide)
  refine Eff.then ?_ (State.setReg_eff _ _ _) (by decide)
  exact Eff.refl

theorem State.setHmapFree_eff (s : State) (a1) :
    Eff 64 s (State.setHmapFree s a1) := by
  unfold State.setHmapFree
  refine Eff.then ?_ (State.setReg_eff _ _ _) (by decide)
  refine Eff.then ?_ (State.setReg_eff _ _ _) (by decide)
  exact Eff.refl

theorem State.setUnits_eff (s : State) (a1) :
    Eff 65600 s (State.setUnits s a1) := by
  unfold State.setUnits
  extract_lets -merge x0 x1 x2
  clear_value x0
  have h3 : Eff 65600 s x1 := by
    subst x1
    refine Eff.then ?_ (upd_dsram _ _) (by decide)
    exact Eff.refl
  clear_value x1
  have h4 : Eff 65600 s x2 := by
    subst x2
    refine Eff.then ?_ (State.setF_eff _ _ _) (by decide)
    exact h3
  clear_value x2
  refine Eff.then ?_ (State.setF_eff _ _ _) (by decide)
  exact h4

end Sys2Proof.Machine
end

