-- ==== Sys2Proof/Laws/EffMem.lean ====
section
/-! SUPPORT. What the functions of Machine/Mem.lean may change: bit i of a mask is component i of `Comp.idx`.
The theorems are checked one after another: each is small, and the joined text has many. -/

set_option Elab.async false

namespace Sys2Proof.Machine

theorem State.enterAll_eff (s : State) :
    Eff 33554432 s (State.enterAll s) := by
  unfold State.enterAll
  refine Eff.foldl ?_ ?_
  · exact Eff.refl
  · intro p0 p1 h2
    try beta_reduce
    refine Eff.ite ?_ ?_
    · refine Eff.then ?_ (upd_dram _ _) (by decide)
      exact h2
    · exact h2

theorem State.dramPush_eff (s : State) (a1) :
    Eff 33554432 s (State.dramPush s a1) := by
  unfold State.dramPush
  refine Eff.ite ?_ ?_
  · exact Eff.refl
  · extract_lets -merge x0 x1 x2
    clear_value x0
    clear_value x1
    clear_value x2
    refine Eff.then ?_ (upd_dram _ _) (by decide)
    exact Eff.refl

theorem State.setFrame_eff (s : State) (a1) (a2) :
    Eff 4194304 s (State.setFrame s a1 a2) := by
  unfold State.setFrame
  refine Eff.then ?_ (upd_tier _ _) (by decide)
  exact Eff.refl

theorem State.takeFrame_eff (s : State) :
    EffOR 4194304 s (State.takeFrame s) := by
  unfold State.takeFrame
  split
  · rename_i v0 v1 e2
    refine EffOR.some ?_
    beta_reduce
    refine Eff.then ?_ (upd_tier _ _) (by decide)
    refine Eff.then ?_ (State.setFrame_eff _ _ _) (by decide)
    exact Eff.refl
  · rename_i v3 e4
    exact EffOR.none

theorem State.takePart_eff (s : State) (a1) :
    EffOR 4194304 s (State.takePart s a1) := by
  unfold State.takePart
  extract_lets -merge x0
  clear_value x0
  split
  · rename_i v1 v2 v3 e4
    split
    · rename_i v5 v6 e7
      refine EffOR.some ?_
      refine Eff.then ?_ (State.setFrame_eff _ _ _) (by decide)
      exact Eff.refl
    · rename_i v8 e9
      exact EffOR.none
  · rename_i v10 e11
    split
    · rename_i v12 v13 e14
      refine EffOR.some ?_
      extract_lets -merge x15 x16
      have h17 : Eff 4194304 s x15 := by
        subst x15
        refine Eff.then ?_ (State.setFrame_eff _ _ _) (by decide)
        exact Eff.refl
      clear_value x15
      clear_value x16
      refine Eff.then ?_ (upd_tier _ _) (by decide)
      exact h17
    · rename_i v18 e19
      exact EffOR.none

theorem State.freeUnit_eff (s : State) (a1) (a2) :
    Eff 4194304 s (State.freeUnit s a1 a2) := by
  unfold State.freeUnit
  extract_lets -merge x0 x1 x2 x3 x4 x5 x6 x7
  clear_value x0
  clear_value x1
  clear_value x2
  clear_value x3
  have h8 : Eff 4194304 s x4 := by
    subst x4
    refine Eff.then ?_ (State.setFrame_eff _ _ _) (by decide)
    exact Eff.refl
  clear_value x4
  clear_value x5
  have h9 : Eff 4194304 s x6 := by
    subst x6
    refine Eff.then ?_ (State.setFrame_eff _ _ _) (by decide)
    exact Eff.refl
  clear_value x6
  clear_value x7
  refine Eff.ite ?_ ?_
  · refine Eff.then ?_ (upd_tier _ _) (by decide)
    exact h8
  · refine Eff.then ?_ (upd_tier _ _) (by decide)
    exact h9

theorem State.freePageFrame_eff (s : State) (a1) :
    Eff 4194304 s (State.freePageFrame s a1) := by
  unfold State.freePageFrame
  refine Eff.ite ?_ ?_
  · exact Eff.refl
  · refine Eff.then ?_ (State.freeUnit_eff _ _ _) (by decide)
    exact Eff.refl

theorem State.leaveFrame_eff (s : State) (a1) :
    Eff 4194304 s (State.leaveFrame s a1) := by
  unfold State.leaveFrame
  refine Eff.ite ?_ ?_
  · exact Eff.refl
  · refine Eff.then ?_ (upd_tier _ _) (by decide)
    exact Eff.refl

theorem State.freeLeft_eff (s : State) :
    Eff 4194304 s (State.freeLeft s) := by
  unfold State.freeLeft
  refine Eff.foldl ?_ ?_
  · refine Eff.then ?_ (upd_tier _ _) (by decide)
    exact Eff.refl
  · intro p0 p1 h2
    try beta_reduce
    refine Eff.then ?_ (State.freeUnit_eff _ _ _) (by decide)
    exact h2

theorem State.takeSlot_eff (s : State) :
    Eff 32768 s (State.takeSlot s) := by
  unfold State.takeSlot
  extract_lets -merge x0 x1
  clear_value x0
  clear_value x1
  refine Eff.then ?_ (upd_trie _ _) (by decide)
  exact Eff.refl

theorem State.useBank_eff (s : State) (a1) :
    Eff 65536 s (State.useBank s a1) := by
  unfold State.useBank
  extract_lets -merge x0 x1
  clear_value x0
  clear_value x1
  refine Eff.then ?_ (upd_dsram _ _) (by decide)
  exact Eff.refl

theorem State.cacheDirty_eff (s : State) (a1) :
    Eff 4194304 s (State.cacheDirty s a1) := by
  unfold State.cacheDirty
  refine Eff.then ?_ (upd_tier _ _) (by decide)
  exact Eff.refl

theorem State.setPage_eff (s : State) (a1) (a2) :
    Eff 37748736 s (State.setPage s a1 a2) := by
  unfold State.setPage
  extract_lets -merge x0 x1 x2
  clear_value x0
  clear_value x1
  have h3 : Eff 37748736 s x2 := by
    subst x2
    refine Eff.then ?_ (upd_tier _ _) (by decide)
    exact Eff.refl
  clear_value x2
  refine Eff.ite ?_ ?_
  · exact h3
  · refine Eff.ite ?_ ?_
    · refine Eff.then ?_ (State.cacheDirty_eff _ _) (by decide)
      exact h3
    · split
      · rename_i v4 v5 e6
        refine Eff.then ?_ (State.dramPush_eff _ _) (by decide)
        exact h3
      · rename_i v7 e8
        exact h3

theorem State.recordPoison_eff (s : State) (a1) :
    Eff 524288 s (State.recordPoison s a1) := by
  unfold State.recordPoison
  refine Eff.foldl ?_ ?_
  · exact Eff.refl
  · intro p0 p1 h2
    try beta_reduce
    split
    · rename_i v3 v4 e5
      refine Eff.then ?_ (State.updLd_eff _ _ _) (by decide)
      exact h2
    · rename_i v6 e7
      exact h2

theorem State.dropPoison_eff (s : State) (a1) :
    Eff 524288 s (State.dropPoison s a1) := by
  unfold State.dropPoison
  refine Eff.foldl ?_ ?_
  · exact Eff.refl
  · intro p0 p1 h2
    try beta_reduce
    split
    · rename_i v3 v4 e5
      refine Eff.then ?_ (State.updLd_eff _ _ _) (by decide)
      exact h2
    · rename_i v6 e7
      exact h2

theorem State.poisonLine_eff (s : State) (a1) :
    Eff 268959744 s (State.poisonLine s a1) := by
  unfold State.poisonLine
  refine Eff.then ?_ (State.recordPoison_eff _ _) (by decide)
  refine Eff.then ?_ (State.setPoison_eff _ _ _) (by decide)
  exact Eff.refl

theorem State.loseWrite_eff (s : State) (a1) :
    Eff 268959812 s (State.loseWrite s a1) := by
  unfold State.loseWrite
  refine Eff.then ?_ (State.raise_eff _ _ _ _) (by decide)
  refine Eff.then ?_ (State.inc_eff _ _ _) (by decide)
  refine Eff.then ?_ (State.poisonLine_eff _ _) (by decide)
  exact Eff.refl

theorem State.startMig_eff (s : State) (a1) (a2) (a3) :
    Eff 37748736 s (State.startMig s a1 a2 a3) := by
  unfold State.startMig
  split
  · rename_i v0 v1 e2
    extract_lets -merge x3 x4 x5
    clear_value x3
    have h6 : Eff 37748736 s x4 := by
      subst x4
      refine Eff.then ?_ (State.setPage_eff _ _ _) (by decide)
      exact Eff.refl
    clear_value x4
    clear_value x5
    refine Eff.then ?_ (upd_tier _ _) (by decide)
    exact h6
  · rename_i v7 e8
    exact Eff.refl

theorem State.hotPromote_eff (s : State) (a1) :
    Eff 37748736 s (State.hotPromote s a1) := by
  unfold State.hotPromote
  extract_lets -merge x0
  clear_value x0
  refine Eff.ite ?_ ?_
  · exact Eff.refl
  · split
    · rename_i v1 v2 v3 e4
      have h5 : Eff 37748736 s v3 := by
        refine EffOR.at e4 ?_
        refine EffOR.then ?_ (State.takeFrame_eff _) (by decide)
        exact Eff.refl
      refine Eff.then ?_ (State.startMig_eff _ _ _ _) (by decide)
      exact h5
    · rename_i v6 e7
      exact Eff.refl

theorem State.touch_eff (s : State) (a1) :
    Eff 37748736 s (State.touch s a1) := by
  unfold State.touch
  split
  · rename_i v0 v1 e2
    extract_lets -merge x3 x4 x5 x6 x7 x8 x9
    clear_value x3
    clear_value x4
    clear_value x5
    have h10 : Eff 37748736 s x6 := by
      subst x6
      refine Eff.then ?_ (upd_tier _ _) (by decide)
      exact Eff.refl
    clear_value x6
    clear_value x7
    clear_value x8
    have h11 : Eff 37748736 s x9 := by
      subst x9
      refine Eff.then ?_ (State.setPage_eff _ _ _) (by decide)
      exact h10
    clear_value x9
    refine Eff.ite ?_ ?_
    · refine Eff.ite ?_ ?_
      · refine Eff.then ?_ (State.hotPromote_eff _ _) (by decide)
        exact h11
      · exact h11
    · exact h10
  · rename_i v12 e13
    exact Eff.refl

theorem State.cacheUse_eff (s : State) (a1) :
    Eff 4194304 s (State.cacheUse s a1) := by
  unfold State.cacheUse
  split
  · rename_i v0 v1 e2
    refine Eff.then ?_ (upd_tier _ _) (by decide)
    exact Eff.refl
  · rename_i v3 e4
    exact Eff.refl

theorem State.cacheInstall_eff (s : State) (a1) :
    Eff 37748800 s (State.cacheInstall s a1) := by
  unfold State.cacheInstall
  refine Eff.ite ?_ ?_
  · exact Eff.refl
  · extract_lets -merge x0 x1 x2 x3 x4 x5 x6 x7 x8
    clear_value x0
    have h9 : ∀ p0, Eff 37748800 s p0 → Eff 37748800 s (x1 p0) := by
      subst x1
      intro p10 h11
      try beta_reduce
      refine Eff.then ?_ (upd_tier _ _) (by decide)
      exact h11
    clear_value x1
    clear_value x2
    clear_value x3
    clear_value x4
    clear_value x5
    clear_value x6
    clear_value x7
    clear_value x8
    refine Eff.ite ?_ ?_
    · refine h9 _ ?_
      exact Eff.refl
    · split
      · rename_i v12 v13
        extract_lets -merge x14
        have h15 : Eff 37748800 s x14 := by
          subst x14
          refine h9 _ ?_
          refine Eff.then ?_ (upd_tier _ _) (by decide)
          exact Eff.refl
        clear_value x14
        split
        · rename_i v16 v17 v18 e19 e20
          refine Eff.then ?_ (State.dramPush_eff _ _) (by decide)
          refine Eff.then ?_ (State.inc_eff _ _ _) (by decide)
          exact h15
        · rename_i v21 v22 e23
          exact h15
      · rename_i v24
        exact Eff.refl

theorem State.decodeCheck_eff (s : State) (a1) :
    Eff 268959744 s (State.decodeCheck s a1) := by
  unfold State.decodeCheck
  refine Eff.ite ?_ ?_
  · exact Eff.refl
  · refine Eff.foldl ?_ ?_
    · exact Eff.refl
    · intro p0 p1 h2
      try beta_reduce
      refine Eff.then ?_ (State.poisonLine_eff _ _) (by decide)
      exact h2

theorem State.reopen_eff (s : State) (a1) :
    Eff 281542656 s (State.reopen s a1) := by
  unfold State.reopen
  refine Eff.ite ?_ ?_
  · exact Eff.refl
  · extract_lets -merge x0 x1
    have h2 : Eff 281542656 s x0 := by
      subst x0
      refine Eff.then ?_ (State.decodeCheck_eff _ _) (by decide)
      exact Eff.refl
    clear_value x0
    clear_value x1
    refine Eff.foldl ?_ ?_
    · exact h2
    · intro p3 p4 h5
      try beta_reduce
      refine Eff.then ?_ (upd_tier_mem _ _ _ (Memory.wf_write _ _ _)) (by decide)
      exact h5

theorem State.reopenPage_eff (s : State) (a1) :
    Eff 281542656 s (State.reopenPage s a1) := by
  unfold State.reopenPage
  refine Eff.foldl ?_ ?_
  · exact Eff.refl
  · intro p0 p1 h2
    try beta_reduce
    refine Eff.then ?_ (State.reopen_eff _ _) (by decide)
    exact h2

theorem State.sealPage_eff (s : State) (a1) :
    Eff 4194304 s (State.sealPage s a1) := by
  unfold State.sealPage
  extract_lets -merge x0 x1
  clear_value x0
  clear_value x1
  refine Eff.then ?_ (upd_tier _ _) (by decide)
  exact Eff.refl

theorem State.putLine_eff (s : State) (a1) (a2) (a3) :
    Eff 281542656 s (State.putLine s a1 a2 a3) := by
  unfold State.putLine
  extract_lets -merge x0 x1 x2 x3 x4 x5 x6 x7
  clear_value x0
  have h8 : Eff 281542656 s x1 := by
    subst x1
    refine Eff.then ?_ (State.reopen_eff _ _) (by decide)
    exact Eff.refl
  clear_value x1
  clear_value x2
  have h9 : Eff 281542656 s x3 := by
    subst x3
    refine Eff.then ?_ (upd_tier _ _) (by decide)
    exact h8
  clear_value x3
  clear_value x4
  have h10 : Eff 281542656 s x5 := by
    subst x5
    refine Eff.then ?_ (upd_mem_ras _ _ _ (Memory.wf_writeMask _ _ _ _ _)) (by decide)
    exact h9
  clear_value x5
  clear_value x6
  have h11 : Eff 281542656 s x7 := by
    subst x7
    refine Eff.then ?_ (upd_ras _ _) (by decide)
    exact h10
  clear_value x7
  refine Eff.ite ?_ ?_
  · refine Eff.ite ?_ ?_
    · refine Eff.then ?_ (State.dropPoison_eff _ _) (by decide)
      refine Eff.then ?_ (State.setPoison_eff _ _ _) (by decide)
      exact h11
    · exact h11
  · exact h10

theorem State.cancelMig_eff (s : State) (a1) :
    Eff 37748800 s (State.cancelMig s a1) := by
  unfold State.cancelMig
  extract_lets -merge x0 x1
  clear_value x0
  clear_value x1
  refine Eff.ite ?_ ?_
  · exact Eff.refl
  · split
    · rename_i v2 v3 e4
      extract_lets -merge x5 x6 x7 x8 x9
      clear_value x5
      have h10 : Eff 37748800 s x6 := by
        subst x6
        refine Eff.then ?_ (State.setPage_eff _ _ _) (by decide)
        exact Eff.refl
      clear_value x6
      have h11 : Eff 37748800 s x7 := by
        subst x7
        refine Eff.then ?_ (State.freePageFrame_eff _ _) (by decide)
        exact h10
      clear_value x7
      clear_value x8
      have h12 : Eff 37748800 s x9 := by
        subst x9
        refine Eff.then ?_ (upd_tier _ _) (by decide)
        exact h11
      clear_value x9
      refine Eff.then ?_ (State.inc_eff _ _ _) (by decide)
      exact h12
    · rename_i v13 e14
      exact Eff.refl

theorem State.lastResort_eff (s : State) (a1) (a2) (a3) :
    Eff 315097156 s (State.lastResort s a1 a2 a3) := by
  unfold State.lastResort
  extract_lets -merge x0 x1 x2 x3 x4 x5 x6 x7
  clear_value x0
  clear_value x1
  have h8 : Eff 315097156 s x2 := by
    subst x2
    refine Eff.then ?_ (State.inc_eff _ _ _) (by decide)
    refine Eff.then ?_ (State.putLine_eff _ _ _ _) (by decide)
    exact Eff.refl
  clear_value x2
  have h9 : Eff 315097156 s x3 := by
    subst x3
    refine Eff.then ?_ (State.setF_eff _ _ _) (by decide)
    exact h8
  clear_value x3
  clear_value x4
  clear_value x5
  have h10 : Eff 315097156 s x6 := by
    subst x6
    refine Eff.then ?_ (State.setPage_eff _ _ _) (by decide)
    exact h9
  clear_value x6
  clear_value x7
  refine Eff.ite ?_ ?_
  · refine Eff.then ?_ (State.putLine_eff _ _ _ _) (by decide)
    exact Eff.refl
  · refine Eff.ite ?_ ?_
    · refine Eff.then ?_ (upd_tier _ _) (by decide)
      exact h10
    · refine Eff.then ?_ (State.loseWrite_eff _ _) (by decide)
      exact Eff.refl

theorem State.promote_eff (s : State) (a1) (a2) (a3) :
    Eff 315097156 s (State.promote s a1 a2 a3).1 := by
  unfold State.promote
  extract_lets -merge x0 x1
  clear_value x0
  have h2 : Eff 315097156 s x1 := by
    subst x1
    refine Eff.then ?_ (State.inc_eff _ _ _) (by decide)
    exact Eff.refl
  clear_value x1
  split
  · rename_i v3 v4 v5 e6
    have h7 : Eff 315097156 s v5 := by
      refine EffOR.at e6 ?_
      refine EffOR.then ?_ (State.takeFrame_eff _) (by decide)
      exact h2
    extract_lets -merge x8 x9 x10
    clear_value x8
    clear_value x9
    clear_value x10
    refine Eff.then ?_ (upd_tier _ _) (by decide)
    exact h7
  · rename_i v11 e12
    refine EffL.ite ?_ ?_
    · refine Eff.then ?_ (State.lastResort_eff _ _ _ _) (by decide)
      exact h2
    · exact h2

theorem State.writePage_eff (s : State) (a1) (a2) (a3) (a4) (a5) :
    Eff 315097156 s (State.writePage s a1 a2 a3 a4 a5).1 := by
  unfold State.writePage
  extract_lets -merge x0 x1 x2 x3 x4 x5 x6 x7 x8 x9 x10 x11
  clear_value x0
  have h12 : Eff 315097156 s x1 := by
    subst x1
    refine Eff.then ?_ (State.putLine_eff _ _ _ _) (by decide)
    exact Eff.refl
  clear_value x1
  have h13 : Eff 315097156 s x2 := by
    subst x2
    refine Eff.then ?_ (State.cancelMig_eff _ _) (by decide)
    exact Eff.refl
  clear_value x2
  clear_value x3
  have h14 : Eff 315097156 s x4 := by
    subst x4
    refine Eff.then ?_ (State.setPage_eff _ _ _) (by decide)
    exact h13
  clear_value x4
  clear_value x5
  have h15 : Eff 315097156 s x6 := by
    subst x6
    refine Eff.then ?_ (State.putLine_eff _ _ _ _) (by decide)
    exact h14
  clear_value x6
  clear_value x7
  have h16 : Eff 315097156 s x8 := by
    subst x8
    refine Eff.then ?_ (State.putLine_eff _ _ _ _) (by decide)
    exact h14
  clear_value x8
  clear_value x9
  clear_value x10
  have h17 : Eff 315097156 s x11 := by
    subst x11
    refine Eff.then ?_ (State.setPage_eff _ _ _) (by decide)
    exact h16
  clear_value x11
  split
  · rename_i v18 v19 e20
    refine Eff.then ?_ (State.dramPush_eff _ _) (by decide)
    exact h12
  · rename_i v21 v22 e23
    refine EffL.ite ?_ ?_
    · exact Eff.refl
    · refine EffL.ite ?_ ?_
      · refine Eff.then ?_ (State.putLine_eff _ _ _ _) (by decide)
        exact h14
      · refine EffL.ite ?_ ?_
        · refine Eff.then ?_ (State.dramPush_eff _ _) (by decide)
          exact h15
        · refine EffL.ite ?_ ?_
          · split
            · rename_i v24 v25 v26 e27
              have h28 : Eff 315097156 s v26 := by
                refine EffOR.at e27 ?_
                refine EffOR.then ?_ (State.takeFrame_eff _) (by decide)
                exact h14
              extract_lets -merge x29 x30
              clear_value x29
              have h31 : Eff 315097156 s x30 := by
                subst x30
                refine Eff.then ?_ (State.putLine_eff _ _ _ _) (by decide)
                refine Eff.then ?_ (State.setPage_eff _ _ _) (by decide)
                exact h28
              clear_value x30
              refine Eff.then ?_ (State.dramPush_eff _ _) (by decide)
              exact h31
            · rename_i v32 e33
              refine EffL.ite ?_ ?_
              · refine Eff.then ?_ (State.lastResort_eff _ _ _ _) (by decide)
                exact h14
              · exact h14
          · refine EffL.ite ?_ ?_
            · refine Eff.then ?_ (State.dramPush_eff _ _) (by decide)
              exact h17
            · refine Eff.then ?_ (State.promote_eff _ _ _ _) (by decide)
              exact h14
  · rename_i v34 e35 e36
    exact Eff.refl

theorem State.mirrorCopy_eff (s : State) (a1) (a2) (a3) (a4) :
    Eff 134217728 s (State.mirrorCopy s a1 a2 a3 a4) := by
  unfold State.mirrorCopy
  extract_lets -merge x0 x1 x2
  clear_value x0
  clear_value x1
  have h3 : Eff 134217728 s x2 := by
    subst x2
    refine Eff.then ?_ (upd_pair _ _) (by decide)
    exact Eff.refl
  clear_value x2
  refine Eff.then ?_ (State.linkSend_eff _ _) (by decide)
  exact h3

theorem State.forwardWrite_eff (s : State) (a1) (a2) (a3) (a4) :
    Eff 134217728 s (State.forwardWrite s a1 a2 a3 a4) := by
  unfold State.forwardWrite
  extract_lets -merge x0 x1 x2
  clear_value x0
  clear_value x1
  have h3 : Eff 134217728 s x2 := by
    subst x2
    refine Eff.then ?_ (upd_pair _ _) (by decide)
    exact Eff.refl
  clear_value x2
  refine Eff.then ?_ (State.linkSend_eff _ _) (by decide)
  exact h3

theorem State.markDirty_eff (s : State) (a1) :
    Eff 134217728 s (State.markDirty s a1) := by
  unfold State.markDirty
  refine Eff.then ?_ (upd_pair _ _) (by decide)
  exact Eff.refl

theorem State.refillReq_eff (s : State) (a1) (a2) :
    Eff 33554496 s (State.refillReq s a1 a2) := by
  unfold State.refillReq
  refine Eff.then ?_ (State.dramPush_eff _ _) (by decide)
  refine Eff.then ?_ (State.inc_eff _ _ _) (by decide)
  exact Eff.refl

theorem State.probePage_eff (s : State) (a1) :
    Eff 306741316 s (State.probePage s a1) := by
  unfold State.probePage
  extract_lets -merge x0
  have h1 : Eff 306741316 s x0 := by
    subst x0
    refine Eff.ite ?_ ?_
    · refine Eff.then ?_ (State.cacheUse_eff _ _) (by decide)
      exact Eff.refl
    · split
      · rename_i v2 v3 e4
        refine Eff.then ?_ (State.cacheInstall_eff _ _) (by decide)
        refine Eff.then ?_ (State.inc_eff _ _ _) (by decide)
        refine Eff.then ?_ (State.takeSlot_eff _) (by decide)
        exact Eff.refl
      · rename_i v5 v6 e7
        refine Eff.ite ?_ ?_
        · refine Eff.then ?_ (State.refillReq_eff _ _ _) (by decide)
          refine Eff.then ?_ (State.takeSlot_eff _) (by decide)
          exact Eff.refl
        · refine Eff.then ?_ (State.cacheInstall_eff _ _) (by decide)
          refine Eff.then ?_ (State.refillReq_eff _ _ _) (by decide)
          refine Eff.then ?_ (State.takeSlot_eff _) (by decide)
          exact Eff.refl
      · rename_i v8 e9 e10
        refine Eff.then ?_ (State.raise_eff _ _ _ _) (by decide)
        refine Eff.then ?_ (State.takeSlot_eff _) (by decide)
        exact Eff.refl
  clear_value x0
  refine Eff.then ?_ (State.touch_eff _ _) (by decide)
  exact h1

theorem State.deviceLine_eff (s : State) (a1) (a2) (a3) (a4) (a5) :
    Eff 449347652 s (State.deviceLine s a1 a2 a3 a4 a5) := by
  unfold State.deviceLine
  extract_lets -merge x0 x1 x2 x3 x4
  have h5 : Eff 449347652 s x0 := by
    subst x0
    refine Eff.then ?_ (State.probePage_eff _ _) (by decide)
    exact Eff.refl
  clear_value x0
  clear_value x1
  clear_value x2
  have h6 : Eff 449347652 s x3.1 := by
    subst x3
    refine Eff.then ?_ (State.writePage_eff _ _ _ _ _ _) (by decide)
    exact h5
  clear_value x3
  have h7 : Eff 449347652 s x4 := by
    subst x4
    split
    · rename_i v8 e9
      exact h6
    · rename_i v10 e11
      refine Eff.then ?_ (State.putLine_eff _ _ _ _) (by decide)
      exact h6
  clear_value x4
  refine Eff.ite ?_ ?_
  · exact h5
  · refine Eff.ite ?_ ?_
    · refine Eff.then ?_ (State.forwardWrite_eff _ _ _ _ _) (by decide)
      exact h5
    · refine Eff.ite ?_ ?_
      · refine Eff.then ?_ (State.mirrorCopy_eff _ _ _ _ _) (by decide)
        exact h7
      · refine Eff.ite ?_ ?_
        · refine Eff.then ?_ (State.markDirty_eff _ _) (by decide)
          exact h7
        · exact h7

theorem State.deviceWrite_eff (s : State) (a1) (a2) (a3) (a4) :
    Eff 449347652 s (State.deviceWrite s a1 a2 a3 a4) := by
  unfold State.deviceWrite
  extract_lets -merge x0
  clear_value x0
  refine Eff.foldl ?_ ?_
  · exact Eff.refl
  · intro p1 p2 h3
    try beta_reduce
    extract_lets -merge x4 x5 x6 x7
    clear_value x4
    clear_value x5
    clear_value x6
    clear_value x7
    refine Eff.then ?_ (State.deviceLine_eff _ _ _ _ _ _) (by decide)
    exact h3

theorem State.markBack_eff (s : State) (a1) :
    Eff 33554432 s (State.markBack s a1) := by
  unfold State.markBack
  refine Eff.ite ?_ ?_
  · refine Eff.then ?_ (State.dramPush_eff _ _) (by decide)
    exact Eff.refl
  · exact Eff.refl

theorem State.eccCorrected_eff (s : State) (a1) (a2) (a3) (a4) :
    Eff 302514244 s (State.eccCorrected s a1 a2 a3 a4) := by
  unfold State.eccCorrected
  extract_lets -merge x0 x1 x2 x3 x4 x5
  have h6 : Eff 302514244 s x0 := by
    subst x0
    refine Eff.then ?_ (State.inc_eff _ _ _) (by decide)
    exact Eff.refl
  clear_value x0
  clear_value x1
  clear_value x2
  clear_value x3
  have h7 : Eff 302514244 s x4 := by
    subst x4
    refine Eff.ite ?_ ?_
    · refine Eff.then ?_ (State.raise_eff _ _ _ _) (by decide)
      refine Eff.then ?_ (upd_ras _ _) (by decide)
      exact h6
    · refine Eff.then ?_ (upd_ras _ _) (by decide)
      exact h6
  clear_value x4
  clear_value x5
  split
  · rename_i v8 v9
    refine Eff.ite ?_ ?_
    · exact h7
    · extract_lets -merge x10
      have h11 : Eff 302514244 s x10 := by
        subst x10
        refine Eff.then ?_ (upd_ras _ _) (by decide)
        exact h7
      clear_value x10
      refine Eff.then ?_ (State.markBack_eff _ _) (by decide)
      exact h11
  · rename_i v12
    exact h7

theorem State.eccUncorrectable_eff (s : State) (a1) (a2) (a3) :
    Eff 302514246 s (State.eccUncorrectable s a1 a2 a3) := by
  unfold State.eccUncorrectable
  extract_lets -merge x0 x1
  have h2 : Eff 302514246 s x0 := by
    subst x0
    refine Eff.then ?_ (State.inc_eff _ _ _) (by decide)
    exact Eff.refl
  clear_value x0
  have h3 : Eff 302514246 s x1.2 := by
    subst x1
    refine Eff.then ?_ (State.free_eff _) (by decide)
    exact h2
  clear_value x1
  split
  · rename_i v4 v5
    extract_lets -merge x6 x7 x8 x9
    have h10 : Eff 302514246 s x6 := by
      subst x6
      refine Eff.foldl ?_ ?_
      · exact h2
      · intro p11 p12 h13
        try beta_reduce
        refine Eff.then ?_ (State.poisonLine_eff _ _) (by decide)
        exact h13
    clear_value x6
    clear_value x7
    have h14 : Eff 302514246 s x8 := by
      subst x8
      refine Eff.then ?_ (upd_ras _ _) (by decide)
      exact h10
    clear_value x8
    have h15 : Eff 302514246 s x9 := by
      subst x9
      refine Eff.then ?_ (State.markBack_eff _ _) (by decide)
      exact h14
    clear_value x9
    refine Eff.then ?_ (State.raise_eff _ _ _ _) (by decide)
    exact h15
  · rename_i v16
    refine Eff.then ?_ (State.raise_eff _ _ _ _) (by decide)
    exact h3

theorem State.readLine_eff (s : State) (a1) (a2) (a3) :
    Eff 302514246 s (State.readLine s a1 a2 a3) := by
  unfold State.readLine
  extract_lets -merge x0 x1 x2 x3
  have h4 : Eff 302514246 s x0 := by
    subst x0
    refine Eff.then ?_ (State.decodeCheck_eff _ _) (by decide)
    exact Eff.refl
  clear_value x0
  clear_value x1
  clear_value x2
  have h5 : Eff 302514246 s x3 := by
    subst x3
    refine Eff.ite ?_ ?_
    · refine Eff.then ?_ (State.dramPush_eff _ _) (by decide)
      exact h4
    · exact h4
  clear_value x3
  refine Eff.ite ?_ ?_
  · refine Eff.then ?_ (State.inc_eff _ _ _) (by decide)
    exact h5
  · refine Eff.ite ?_ ?_
    · refine Eff.then ?_ (State.eccCorrected_eff _ _ _ _ _) (by decide)
      exact h5
    · refine Eff.ite ?_ ?_
      · refine Eff.then ?_ (State.eccUncorrectable_eff _ _ _ _) (by decide)
        exact h5
      · exact h5

theorem State.readCheck_eff (s : State) (a1) (a2) (a3) (a4) :
    Eff 306741318 s (State.readCheck s a1 a2 a3 a4) := by
  unfold State.readCheck
  extract_lets -merge x0 x1
  clear_value x0
  have h2 : Eff 306741318 s x1 := by
    subst x1
    refine Eff.foldl ?_ ?_
    · exact Eff.refl
    · intro p3 p4 h5
      try beta_reduce
      refine Eff.then ?_ (State.probePage_eff _ _) (by decide)
      exact h5
  clear_value x1
  refine Eff.foldl ?_ ?_
  · exact h2
  · intro p6 p7 h8
    try beta_reduce
    refine Eff.then ?_ (State.readLine_eff _ _ _ _) (by decide)
    exact h8

end Sys2Proof.Machine
end

