-- ==== Sys2Proof/Laws/EffRing.lean ====
section
/-! SUPPORT. What the functions of Machine/Ring.lean may change: bit i of a mask is component i of `Comp.idx`.
The theorems are checked one after another: each is small, and the joined text has many. -/

set_option Elab.async false

namespace Sys2Proof.Machine

theorem State.busWrite_eff (s : State) (a1) (a2) (a3) (a4) : Eff 466124868 s (State.busWrite s a1 a2 a3 a4) := by
  unfold State.busWrite
  refine Eff.ite ?_ ?_
  · exact ⟨fun x h => by cases x <;> first | rfl | exact absurd h (by decide),
      fun c => ⟨c.1, c.2.1, Memory.wf_write _ _ _ c.2.2⟩⟩
  · exact Eff.then Eff.refl (State.deviceWrite_eff _ _ _ _ _) (by decide)

theorem State.cqWrite_eff (s : State) (a1) (a2) (a3) :
    Eff 467173444 s (State.cqWrite s a1 a2 a3) := by
  unfold State.cqWrite
  extract_lets -merge x0 x1 x2 x3 x4
  clear_value x0
  clear_value x1
  clear_value x2
  clear_value x3
  have h5 : Eff 467173444 s x4 := by
    subst x4
    refine Eff.then ?_ (State.busWrite_eff _ _ _ _ _) (by decide)
    exact Eff.refl
  clear_value x4
  refine Eff.then ?_ (State.updCx_eff _ _ _) (by decide)
  exact h5

end Sys2Proof.Machine
end

