-- ==== Sys2Proof/Laws/EffMirror.lean ====
section
/-! SUPPORT. What the functions of Machine/Mirror.lean may change: bit i of a mask is component i of `Comp.idx`.
The theorems are checked one after another: each is small, and the joined text has many. -/

set_option Elab.async false

namespace Sys2Proof.Machine

theorem State.mirFrame_eff (s : State) (a1) :
    Eff 134217728 s (State.mirFrame s a1).1 := by
  unfold State.mirFrame
  extract_lets -merge x0 x1 x2
  clear_value x0
  clear_value x1
  have h3 : Eff 134217728 s x2 := by
    subst x2
    refine Eff.then ?_ (upd_pair _ _) (by decide)
    exact Eff.refl
  clear_value x2
  refine Eff.then ?_ (State.linkSend_eff _ _) (by decide)
  exact h3

theorem State.mirrorGrants_eff (s : State) (a1) :
    Eff 134217984 s (State.mirrorGrants s a1) := by
  unfold State.mirrorGrants
  refine Eff.foldl ?_ ?_
  · exact Eff.refl
  · intro p0 p1 h2
    try beta_reduce
    refine Eff.ite ?_ ?_
    · split
      · rename_i v3 v4 e5
        extract_lets -merge x6
        have h7 : Eff 134217984 s x6.1 := by
          subst x6
          refine Eff.then ?_ (State.mirFrame_eff _ _) (by decide)
          exact h2
        clear_value x6
        refine Eff.then ?_ (State.mapFlights_eff _ _) (by decide)
        exact h7
      · rename_i v8 e9
        exact h2
    · exact h2

theorem State.journal_eff (s : State) (a1) (a2) :
    Eff 403177540 s (State.journal s a1 a2) := by
  unfold State.journal
  refine Eff.ite ?_ ?_
  · exact Eff.refl
  · refine Eff.ite ?_ ?_
    · refine Eff.then ?_ (State.raise_eff _ _ _ _) (by decide)
      refine Eff.then ?_ (State.setF_eff _ _ _) (by decide)
      exact Eff.refl
    · extract_lets -merge x0 x1
      clear_value x0
      have h2 : Eff 403177540 s x1 := by
        subst x1
        refine Eff.then ?_ (upd_pair _ _) (by decide)
        exact Eff.refl
      clear_value x1
      refine Eff.then ?_ (State.incMod_eff _ _ _) (by decide)
      refine Eff.then ?_ (State.setF_eff _ _ _) (by decide)
      exact h2

theorem State.cover_eff (s : State) (a1) (a2) :
    Eff 134217792 s (State.cover s a1 a2) := by
  unfold State.cover
  extract_lets -merge x0 x1 x2 x3
  clear_value x0
  clear_value x1
  clear_value x2
  have h4 : Eff 134217792 s x3 := by
    subst x3
    refine Eff.then ?_ (upd_pair _ _) (by decide)
    exact Eff.refl
  clear_value x3
  refine Eff.then ?_ (State.incMod_eff _ _ _) (by decide)
  refine Eff.then ?_ (State.setF_eff _ _ _) (by decide)
  exact h4

theorem State.endMut_eff (s : State) (a1) (a2) (a3) (a4) :
    Eff 135268360 s (State.endMut s a1 a2 a3 a4) := by
  unfold State.endMut
  split
  · rename_i v0 v1 v2 v3 v4
    refine Eff.ite ?_ ?_
    · refine Eff.then ?_ (upd_pair _ _) (by decide)
      exact Eff.refl
    · refine Eff.then ?_ (State.resolve_eff _ _ _) (by decide)
      exact Eff.refl
  · rename_i v5 v6 v7
    refine Eff.ite ?_ ?_
    · refine Eff.then ?_ (upd_pair _ _) (by decide)
      exact Eff.refl
    · refine Eff.then ?_ (State.resolve_eff _ _ _) (by decide)
      exact Eff.refl
  · rename_i v8 v9 e10 e11
    refine Eff.then ?_ (State.resolve_eff _ _ _) (by decide)
    exact Eff.refl

theorem State.forward_eff (s : State) (a1) (a2) (a3) (a4) (a5) :
    Eff 134217728 s (State.forward s a1 a2 a3 a4 a5) := by
  unfold State.forward
  extract_lets -merge x0 x1 x2
  clear_value x0
  clear_value x1
  have h3 : Eff 134217728 s x2 := by
    subst x2
    refine Eff.then ?_ (upd_pair _ _) (by decide)
    exact Eff.refl
  clear_value x2
  refine Eff.then ?_ (State.linkSend_eff _ _) (by decide)
  exact h3

end Sys2Proof.Machine
end

