-- ==== Sys2Proof/Laws/EffQueue.lean ====
section
/-! SUPPORT. What the functions of Machine/Queue.lean may change: bit i of a mask is component i of `Comp.idx`.
The theorems are checked one after another: each is small, and the joined text has many. -/

set_option Elab.async false

namespace Sys2Proof.Machine

theorem State.fillBanks_eff (s : State) (a1) :
    Eff 4096 s (State.fillBanks s a1) := by
  unfold State.fillBanks
  refine Eff.foldl ?_ ?_
  · exact Eff.refl
  · intro p0 p1 h2
    try beta_reduce
    refine Eff.ite ?_ ?_
    · split
      · rename_i v3 v4 e5
        refine Eff.then ?_ (State.updQp_eff _ _ _) (by decide)
        exact h2
      · rename_i v6 e7
        exact h2
    · exact h2

theorem State.passDeliver_eff (s : State) (a1) :
    Eff 134222080 s (State.passDeliver s a1) := by
  unfold State.passDeliver
  split
  · rename_i v0 e1
    exact Eff.refl
  · rename_i v2 v3 e4
    extract_lets -merge x5 x6 x7 x8 x9
    clear_value x5
    clear_value x6
    clear_value x7
    have h10 : Eff 134222080 s x8 := by
      subst x8
      refine Eff.ite ?_ ?_
      · refine Eff.then ?_ (State.putFlight_eff _ _ _) (by decide)
        exact Eff.refl
      · refine Eff.then ?_ (State.dropFlight_eff _ _) (by decide)
        exact Eff.refl
    clear_value x8
    clear_value x9
    split
    · rename_i v11 v12 e13
      refine Eff.then ?_ (State.linkSend_eff _ _) (by decide)
      refine Eff.then ?_ (State.dropFlight_eff _ _) (by decide)
      exact Eff.refl
    · rename_i v14 e15
      split
      · rename_i v16 e17
        exact h10
      · rename_i v18 v19 e20
        refine Eff.then ?_ (State.updQp_eff _ _ _) (by decide)
        exact h10

theorem execEnumPassDeliver_eff (a0) (s : State) :
    EffX 134222080 s (execEnumPassDeliver a0 s) := by
  unfold execEnumPassDeliver
  refine whileUp_eff ?_ ?_
  · exact Eff.refl
  · intro p0 h1
    try beta_reduce
    refine Eff.then ?_ (State.passDeliver_eff _ _) (by decide)
    exact h1

theorem State.enumReply_eff (s : State) (a1) (a2) :
    Eff 4352 s (State.enumReply s a1 a2) := by
  unfold State.enumReply
  split
  · rename_i v0 e1
    exact Eff.refl
  · rename_i v2 v3 e4
    refine Eff.ite ?_ ?_
    · exact Eff.refl
    · extract_lets -merge x5 x6
      have h7 : Eff 4352 s x5 := by
        subst x5
        refine Eff.then ?_ (State.dropFlight_eff _ _) (by decide)
        exact Eff.refl
      clear_value x5
      clear_value x6
      split
      · rename_i v8 e9
        exact h7
      · rename_i v10 v11 e12
        refine Eff.then ?_ (State.updQp_eff _ _ _) (by decide)
        exact h7

theorem State.expirePasses_eff (s : State) (a1) :
    Eff 4352 s (State.expirePasses s a1) := by
  unfold State.expirePasses
  refine Eff.foldl ?_ ?_
  · exact Eff.refl
  · intro p0 p1 h2
    try beta_reduce
    extract_lets -merge x3
    have h4 : Eff 4352 s x3 := by
      subst x3
      refine Eff.then ?_ (State.dropFlight_eff _ _) (by decide)
      exact h2
    clear_value x3
    split
    · rename_i v5 v6 e7
      refine Eff.then ?_ (State.updQp_eff _ _ _) (by decide)
      exact h4
    · rename_i v8 e9
      exact h4

theorem execEnumReply_eff (a0) (a1) (s : State) :
    EffX 4352 s (execEnumReply a0 a1 s) := by
  unfold execEnumReply
  refine whileUp_eff ?_ ?_
  · exact Eff.refl
  · intro p0 h1
    try beta_reduce
    refine Eff.then ?_ (State.enumReply_eff _ _ _) (by decide)
    exact h1

theorem State.bankReady_eff (s : State) (a1) :
    Eff 4096 s (State.bankReady s a1) := by
  unfold State.bankReady
  extract_lets -merge x0 x1 x2 x3 x4 x5 x6
  clear_value x0
  clear_value x1
  clear_value x2
  clear_value x3
  clear_value x4
  clear_value x5
  clear_value x6
  split
  · rename_i v7 e8
    exact Eff.refl
  · rename_i v9 v10 e11
    refine Eff.ite ?_ ?_
    · exact Eff.refl
    · split
      · rename_i v12
        refine Eff.then ?_ (State.setQp_eff _ _ _) (by decide)
        exact Eff.refl
      · rename_i v13 v14
        refine Eff.ite ?_ ?_
        · refine Eff.then ?_ (State.setQp_eff _ _ _) (by decide)
          exact Eff.refl
        · refine Eff.then ?_ (State.setQp_eff _ _ _) (by decide)
          exact Eff.refl

theorem execBankReady_eff (a0) (s : State) :
    EffX 4096 s (execBankReady a0 s) := by
  unfold execBankReady
  refine whileUp_eff ?_ ?_
  · exact Eff.refl
  · intro p0 h1
    try beta_reduce
    refine Eff.then ?_ (State.bankReady_eff _ _) (by decide)
    exact h1

theorem State.continueQ_eff (s : State) (a1) :
    Eff 4352 s (State.continueQ s a1) := by
  unfold State.continueQ
  extract_lets -merge x0
  clear_value x0
  split
  · rename_i v1 e2
    exact Eff.refl
  · rename_i v3 v4 e5
    refine Eff.ite ?_ ?_
    · exact Eff.refl
    · extract_lets -merge x6
      clear_value x6
      refine Eff.then ?_ (State.enqOp_eff _ _ _) (by decide)
      refine Eff.then ?_ (State.setQp_eff _ _ _) (by decide)
      exact Eff.refl

theorem execContinuationQueue_eff (a0) (s : State) :
    EffX 4352 s (execContinuationQueue a0 s) := by
  unfold execContinuationQueue
  refine whileUp_eff ?_ ?_
  · exact Eff.refl
  · intro p0 h1
    try beta_reduce
    refine Eff.then ?_ (State.continueQ_eff _ _) (by decide)
    exact h1

theorem State.drainTake_eff (s : State) (a1) :
    Eff 4096 s (State.drainTake s a1) := by
  unfold State.drainTake
  extract_lets -merge x0
  clear_value x0
  split
  · rename_i v1 v2 e3
    exact Eff.refl
  · rename_i v4 e5
    split
    · rename_i v6 e7
      exact Eff.refl
    · rename_i v8 v9 e10
      extract_lets -merge x11 x12
      clear_value x11
      clear_value x12
      refine Eff.ite ?_ ?_
      · exact Eff.refl
      · refine Eff.ite ?_ ?_
        · refine Eff.then ?_ (State.setQp_eff _ _ _) (by decide)
          exact Eff.refl
        · refine Eff.then ?_ (State.setQp_eff _ _ _) (by decide)
          exact Eff.refl

theorem execBankDrainTake_eff (a0) (s : State) :
    EffX 4096 s (execBankDrainTake a0 s) := by
  unfold execBankDrainTake
  refine whileUp_eff ?_ ?_
  · exact Eff.refl
  · intro p0 h1
    try beta_reduce
    refine Eff.then ?_ (State.drainTake_eff _ _) (by decide)
    exact h1

theorem State.takeRecord_eff (s : State) (a1) :
    EffOR 268963908 s (State.takeRecord s a1) := by
  unfold State.takeRecord
  extract_lets -merge x0
  clear_value x0
  split
  · rename_i v1 e2
    exact EffOR.none
  · rename_i v3 v4 e5
    extract_lets -merge x6
    clear_value x6
    split
    · rename_i v7 e8
      exact EffOR.none
    · rename_i v9 v10 v11 e12
      extract_lets -merge x13 x14 x15 x16
      clear_value x13
      have h17 : Eff 268963908 s x14 := by
        subst x14
        refine Eff.ite ?_ ?_
        · refine Eff.then ?_ (State.raise_eff _ _ _ _) (by decide)
          exact Eff.refl
        · exact Eff.refl
      clear_value x14
      clear_value x15
      clear_value x16
      refine EffOR.some ?_
      refine Eff.then ?_ (State.setQp_eff _ _ _) (by decide)
      exact h17

theorem State.endConsumed_eff (s : State) (a1) :
    Eff 1052672 s (State.endConsumed s a1) := by
  unfold State.endConsumed
  extract_lets -merge x0 x1
  clear_value x0
  have h2 : Eff 1052672 s x1 := by
    subst x1
    refine Eff.then ?_ (State.updCx_eff _ _ _) (by decide)
    exact Eff.refl
  clear_value x1
  refine Eff.then ?_ (State.setQp_eff _ _ _) (by decide)
  exact h2

theorem State.nextRead_eff (s : State) (a1) (a2) :
    Eff 270012484 s (State.nextRead s a1 a2) := by
  unfold State.nextRead
  extract_lets -merge x0
  clear_value x0
  refine Eff.ite ?_ ?_
  · refine Eff.then ?_ (State.send_eff _ _) (by decide)
    exact Eff.refl
  · split
    · rename_i v1 e2
      refine Eff.then ?_ (State.send_eff _ _) (by decide)
      exact Eff.refl
    · rename_i v3 v4 e5
      extract_lets -merge x6
      clear_value x6
      refine Eff.ite ?_ ?_
      · refine Eff.then ?_ (State.send_eff _ _) (by decide)
        exact Eff.refl
      · split
        · rename_i v7 v8 v9 e10
          have h11 : Eff 270012484 s v9 := by
            refine EffOR.at e10 ?_
            refine EffOR.then ?_ (State.takeRecord_eff _ _) (by decide)
            exact Eff.refl
          refine Eff.then ?_ (State.send_eff _ _) (by decide)
          exact h11
        · rename_i v12 e13
          refine Eff.ite ?_ ?_
          · refine Eff.then ?_ (State.send_eff _ _) (by decide)
            refine Eff.then ?_ (State.endConsumed_eff _ _) (by decide)
            exact Eff.refl
          · refine Eff.then ?_ (State.send_eff _ _) (by decide)
            exact Eff.refl

theorem execNextRead_eff (a0) (a1) (s : State) :
    EffX 270012484 s (execNextRead a0 a1 s) := by
  unfold execNextRead
  refine whileServing_eff ?_ ?_
  · exact Eff.refl
  · intro p0 h1
    try beta_reduce
    refine Eff.then ?_ (State.nextRead_eff _ _ _) (by decide)
    exact h1

theorem State.takeRecords_eff (s : State) (q) (b) (n : Nat) : Eff 268963908 s (State.takeRecords s q b n).2 := by
  induction n generalizing s with
  | zero => exact Eff.refl
  | succ n ih =>
    unfold State.takeRecords
    refine EffR.ite Eff.refl ?_
    split
    · rename_i r t e
      exact Eff.then (EffOR.at e (EffOR.then Eff.refl (State.takeRecord_eff s q) (by decide))) (ih t) (by decide)
    · exact Eff.refl

theorem State.matchWrite_eff (s : State) (a1) (a2) :
    Eff 467177540 s (State.matchWrite s a1 a2) := by
  unfold State.matchWrite
  extract_lets -merge x0
  clear_value x0
  split
  · rename_i v1 e2
    exact Eff.refl
  · rename_i v3 v4 e5
    refine Eff.ite ?_ ?_
    · exact Eff.refl
    · extract_lets -merge x6 x7
      have h8 : Eff 467177540 s x6.2 := by
        subst x6
        refine Eff.then ?_ (State.takeRecords_eff _ _ _ _) (by decide)
        exact Eff.refl
      clear_value x6
      clear_value x7
      refine Eff.ite ?_ ?_
      · exact Eff.refl
      · split
        · rename_i v9 v10 e11
          extract_lets -merge x12
          clear_value x12
          refine Eff.then ?_ (State.cqWrite_eff _ _ _ _) (by decide)
          exact h8
        · rename_i v13 e14
          exact Eff.refl

theorem execMatchEntryWrite_eff (a0) (a1) (s : State) :
    EffX 467177540 s (execMatchEntryWrite a0 a1 s) := by
  unfold execMatchEntryWrite
  refine whileUp_eff ?_ ?_
  · exact Eff.refl
  · intro p0 h1
    try beta_reduce
    refine Eff.then ?_ (State.matchWrite_eff _ _ _) (by decide)
    exact h1

theorem State.dropPair_eff (s : State) (a1) :
    Eff 1052672 s (State.dropPair s a1) := by
  unfold State.dropPair
  split
  · rename_i v0 v1 e2
    refine Eff.then ?_ (State.setQp_eff _ _ _) (by decide)
    refine Eff.then ?_ (State.updCx_eff _ _ _) (by decide)
    exact Eff.refl
  · rename_i v3 e4
    exact Eff.refl

theorem State.resetQueue_eff (s : State) (a1) :
    Eff 1052928 s (State.resetQueue s a1) := by
  unfold State.resetQueue
  extract_lets -merge x0 x1 x2
  clear_value x0
  have h3 : Eff 1052928 s x1 := by
    subst x1
    refine Eff.then ?_ (State.dropOps_eff _ _) (by decide)
    exact Eff.refl
  clear_value x1
  have h4 : Eff 1052928 s x2 := by
    subst x2
    refine Eff.then ?_ (State.updCx_eff _ _ _) (by decide)
    exact h3
  clear_value x2
  refine Eff.ite ?_ ?_
  · exact Eff.refl
  · refine Eff.then ?_ (State.setQp_eff _ _ _) (by decide)
    exact h4

theorem State.queueClose_eff (s : State) :
    Eff 4352 s (State.queueClose s) := by
  unfold State.queueClose
  refine Eff.foldl ?_ ?_
  · refine Eff.then ?_ (State.expirePasses_eff _ _) (by decide)
    exact Eff.refl
  · intro p0 p1 h2
    try beta_reduce
    refine Eff.then ?_ (State.drainTake_eff _ _) (by decide)
    refine Eff.then ?_ (State.bankReady_eff _ _) (by decide)
    exact h2

theorem State.queueOpen_eff (s : State) :
    Eff 4352 s (State.queueOpen s) := by
  unfold State.queueOpen
  refine Eff.foldl ?_ ?_
  · exact Eff.refl
  · intro p0 p1 h2
    try beta_reduce
    refine Eff.then ?_ (State.continueQ_eff _ _) (by decide)
    exact h2

theorem State.resetQueuesOf_eff (s : State) (a1) :
    Eff 1052928 s (State.resetQueuesOf s a1) := by
  unfold State.resetQueuesOf
  refine Eff.foldl ?_ ?_
  · exact Eff.refl
  · intro p0 p1 h2
    try beta_reduce
    refine Eff.then ?_ (State.resetQueue_eff _ _) (by decide)
    exact h2

theorem State.disableQueues_eff (s : State) (a1) :
    Eff 4352 s (State.disableQueues s a1) := by
  unfold State.disableQueues
  refine Eff.foldl ?_ ?_
  · exact Eff.refl
  · intro p0 p1 h2
    try beta_reduce
    extract_lets -merge x3 x4 x5
    clear_value x3
    have h6 : Eff 4352 s x4 := by
      subst x4
      refine Eff.then ?_ (State.dropOps_eff _ _) (by decide)
      exact h2
    clear_value x4
    clear_value x5
    refine Eff.then ?_ (State.updQp_eff _ _ _) (by decide)
    exact h6

end Sys2Proof.Machine
end

