-- ==== Sys2Proof/Laws/EffTables.lean ====
section
/-! SUPPORT. What the functions of Machine/Tables.lean may change: bit i of a mask is component i of `Comp.idx`.
The theorems are checked one after another: each is small, and the joined text has many. -/

set_option Elab.async false

namespace Sys2Proof.Machine

theorem State.create_eff (s : State) (a1) (a2) (a3) (a4) (a5) (a6) (a7) :
    Eff 74816 s (State.create s a1 a2 a3 a4 a5 a6 a7) := by
  unfold State.create
  extract_lets -merge x0 x1 x2 x3 x4 x5 x6 x7
  clear_value x0
  clear_value x1
  have h8 : Eff 74816 s x2 := by
    subst x2
    refine Eff.ite ?_ ?_
    · refine Eff.then ?_ (upd_lrn _ _) (by decide)
      exact Eff.refl
    · exact Eff.refl
  clear_value x2
  clear_value x3
  have h9 : Eff 74816 s x4 := by
    subst x4
    refine Eff.then ?_ (State.setBlockFree_eff _ _) (by decide)
    exact h8
  clear_value x4
  have h10 : Eff 74816 s x5 := by
    subst x5
    refine Eff.then ?_ (State.setHmapFree_eff _ _) (by decide)
    exact h9
  clear_value x5
  clear_value x6
  have h11 : Eff 74816 s x7 := by
    subst x7
    refine Eff.then ?_ (State.setUnits_eff _ _) (by decide)
    exact h8
  clear_value x7
  refine Eff.ite ?_ ?_
  · refine Eff.then ?_ (State.setTb_eff _ _ _) (by decide)
    exact h10
  · refine Eff.ite ?_ ?_
    · refine Eff.then ?_ (State.setTb_eff _ _ _) (by decide)
      exact h11
    · refine Eff.ite ?_ ?_
      · refine Eff.then ?_ (State.setTb_eff _ _ _) (by decide)
        refine Eff.then ?_ (State.setF_eff _ _ _) (by decide)
        exact h8
      · refine Eff.then ?_ (State.setTb_eff _ _ _) (by decide)
        exact h8

theorem execCreateTable_eff (a0) (a1) (a2) (a3) (a4) (a5) (a6) (a7) (s : State) :
    EffX 536945728 s (execCreateTable a0 a1 a2 a3 a4 a5 a6 a7 s) := by
  unfold execCreateTable
  refine whileUp_eff ?_ ?_
  · exact Eff.refl
  · intro p0 h1
    try beta_reduce
    extract_lets -merge x2 x3
    clear_value x2
    clear_value x3
    refine State.owner1_eff ?_ ?_
    · exact h1
    · intro p4 h5
      try beta_reduce
      refine Eff.then ?_ (State.create_eff _ _ _ _ _ _ _ _) (by decide)
      exact h5

theorem State.clearBlocks_eff (s : State) (a1) :
    Eff 268438016 s (State.clearBlocks s a1) := by
  unfold State.clearBlocks
  extract_lets -merge x0 x1 x2 x3
  clear_value x0
  have h4 : Eff 268438016 s x1 := by
    subst x1
    refine Eff.then ?_ (upd_arr _ _) (by decide)
    exact Eff.refl
  clear_value x1
  clear_value x2
  clear_value x3
  refine Eff.then ?_ (upd_mnt_ras _ _ _) (by decide)
  exact h4

theorem State.zeroEntries_eff (s : State) (a1) (a2) (a3) :
    Eff 65536 s (State.zeroEntries s a1 a2 a3) := by
  unfold State.zeroEntries
  refine Eff.then ?_ (upd_dsram _ _) (by decide)
  exact Eff.refl

theorem State.shrinkStart_eff (s : State) (a1) (a2) (a3) :
    Eff 1024 s (State.shrinkStart s a1 a2 a3) := by
  unfold State.shrinkStart
  refine Eff.then ?_ (State.updTb_eff _ _ _) (by decide)
  exact Eff.refl

theorem State.resize_eff (s : State) (a1) (a2) (a3) (a4) (a5) :
    Eff 536937536 s (State.resize s a1 a2 a3 a4 a5) := by
  unfold State.resize
  refine Eff.ite ?_ ?_
  · refine Eff.ite ?_ ?_
    · extract_lets -merge x0
      have h1 : Eff 536937536 s x0 := by
        subst x0
        refine Eff.then ?_ (State.setBlockFree_eff _ _) (by decide)
        exact Eff.refl
      clear_value x0
      refine Eff.then ?_ (State.ownerEnd_eff _ _ _ _ _ _) (by decide)
      refine Eff.then ?_ (State.setTb_eff _ _ _) (by decide)
      exact h1
    · refine Eff.then ?_ (State.shrinkStart_eff _ _ _ _) (by decide)
      exact Eff.refl
  · refine Eff.ite ?_ ?_
    · extract_lets -merge x2
      have h3 : Eff 536937536 s x2 := by
        subst x2
        refine Eff.ite ?_ ?_
        · refine Eff.then ?_ (State.zeroEntries_eff _ _ _ _) (by decide)
          exact Eff.refl
        · exact Eff.refl
      clear_value x2
      refine Eff.then ?_ (State.ownerEnd_eff _ _ _ _ _ _) (by decide)
      refine Eff.then ?_ (State.setTb_eff _ _ _) (by decide)
      exact h3
    · extract_lets -merge x4
      have h5 : Eff 536937536 s x4 := by
        subst x4
        refine Eff.then ?_ (State.setF_eff _ _ _) (by decide)
        exact Eff.refl
      clear_value x4
      refine Eff.then ?_ (State.ownerEnd_eff _ _ _ _ _ _) (by decide)
      refine Eff.then ?_ (State.setTb_eff _ _ _) (by decide)
      exact h5

theorem execResizeTable_eff (a0) (a1) (a2) (a3) (s : State) :
    EffX 536937536 s (execResizeTable a0 a1 a2 a3 s) := by
  unfold execResizeTable
  refine whileUp_eff ?_ ?_
  · exact Eff.refl
  · intro p0 h1
    try beta_reduce
    extract_lets -merge x2 x3
    clear_value x2
    clear_value x3
    refine State.ownerLong_eff ?_ ?_
    · exact h1
    · intro p4 h5
      try beta_reduce
      refine Eff.then ?_ (State.resize_eff _ _ _ _ _ _) (by decide)
      exact h5

theorem State.afterLock_eff (s : State) (a1) :
    Eff 1088 s (State.afterLock s a1) := by
  unfold State.afterLock
  extract_lets -merge x0
  clear_value x0
  refine Eff.ite ?_ ?_
  · exact Eff.refl
  · split
    · rename_i v1 v2 v3 e4
      refine Eff.then ?_ (State.shrinkStart_eff _ _ _ _) (by decide)
      exact Eff.refl
    · rename_i v5 e6
      split
      · rename_i v7 v8 v9 e10
        extract_lets -merge x11
        have h12 : Eff 1088 s x11 := by
          subst x11
          refine Eff.then ?_ (State.setBlockFree_eff _ _) (by decide)
          exact Eff.refl
        clear_value x11
        refine Eff.then ?_ (State.updTb_eff _ _ _) (by decide)
        exact h12
      · rename_i v13 e14
        exact Eff.refl

theorem State.shrinkEnd_eff (s : State) (a1) :
    Eff 1024 s (State.shrinkEnd s a1) := by
  unfold State.shrinkEnd
  extract_lets -merge x0
  clear_value x0
  refine State.when_eff ?_ ?_
  · exact Eff.refl
  · intro p1 h2
    try beta_reduce
    refine Eff.then ?_ (State.setTb_eff _ _ _) (by decide)
    exact h2

theorem State.shrinkClear_eff (s : State) (a1) :
    Eff 805310016 s (State.shrinkClear s a1) := by
  unfold State.shrinkClear
  extract_lets -merge x0 x1 x2 x3
  clear_value x0
  have h4 : Eff 805310016 s x1 := by
    subst x1
    refine Eff.then ?_ (State.clearBlocks_eff _ _) (by decide)
    exact Eff.refl
  clear_value x1
  have h5 : Eff 805310016 s x2 := by
    subst x2
    refine Eff.then ?_ (State.setBlockFree_eff _ _) (by decide)
    exact h4
  clear_value x2
  have h6 : Eff 805310016 s x3 := by
    subst x3
    refine Eff.then ?_ (State.setTb_eff _ _ _) (by decide)
    exact h5
  clear_value x3
  split
  · rename_i v7 v8 e9
    refine Eff.ite ?_ ?_
    · exact Eff.refl
    · split
      · rename_i v10 v11 e12
        refine Eff.then ?_ (State.ownerEnd_eff _ _ _ _ _ _) (by decide)
        exact h6
      · rename_i v13 e14
        exact h6
  · rename_i v15 e16
    exact Eff.refl

theorem execShrinkBlockClear_eff (a0) (s : State) :
    EffX 805310016 s (execShrinkBlockClear a0 s) := by
  unfold execShrinkBlockClear
  refine whileUp_eff ?_ ?_
  · exact Eff.refl
  · intro p0 h1
    try beta_reduce
    refine Eff.then ?_ (State.shrinkClear_eff _ _) (by decide)
    exact h1

theorem State.refuseQueued_eff (s : State) (a1) :
    Eff 135375176 s (State.refuseQueued s a1) := by
  unfold State.refuseQueued
  extract_lets -merge x0 x1 x2 x3 x4 x5 x6 x7 x8 x9 x10 x11
  clear_value x0
  clear_value x1
  have h12 : Eff 135375176 s x2 := by
    subst x2
    refine Eff.then ?_ (State.dropOps_eff _ _) (by decide)
    exact Eff.refl
  clear_value x2
  clear_value x3
  clear_value x4
  clear_value x5
  clear_value x6
  clear_value x7
  clear_value x8
  have h13 : Eff 135375176 s x9 := by
    subst x9
    refine Eff.then ?_ (upd_arb_mnt_lrn_trie_dsram_pair _ _ _ _ _ _ _) (by decide)
    exact h12
  clear_value x9
  have h14 : Eff 135375176 s x10 := by
    subst x10
    refine Eff.foldl ?_ ?_
    · exact h13
    · intro p15 p16 h17
      try beta_reduce
      split
      · rename_i v18 v19 e20
        refine Eff.then ?_ (State.decline_eff _ _) (by decide)
        exact h17
      · rename_i v21 e22
        exact h17
  clear_value x10
  clear_value x11
  refine Eff.foldl ?_ ?_
  · exact h14
  · intro p23 p24 h25
    try beta_reduce
    refine Eff.then ?_ (State.resolve_eff _ _ _) (by decide)
    exact h25

theorem State.discardLock_eff (s : State) (a1) :
    Eff 268439040 s (State.discardLock s a1) := by
  unfold State.discardLock
  split
  · rename_i v0 e1
    exact Eff.refl
  · rename_i v2 v3 e4
    extract_lets -merge x5
    have h6 : Eff 268439040 s x5 := by
      subst x5
      refine Eff.foldl ?_ ?_
      · exact Eff.refl
      · intro p7 p8 h9
        try beta_reduce
        refine Eff.then ?_ (State.rowLeft_eff _ _) (by decide)
        refine Eff.then ?_ (State.freeRow_eff _ _) (by decide)
        exact h9
    clear_value x5
    refine Eff.then ?_ (State.updTb_eff _ _ _) (by decide)
    exact h6

theorem State.destroyStart_eff (s : State) (a1) (a2) :
    Eff 135380296 s (State.destroyStart s a1 a2) := by
  unfold State.destroyStart
  extract_lets -merge x0 x1 x2
  have h3 : Eff 135380296 s x0 := by
    subst x0
    split
    · rename_i v4 v5 e6
      refine Eff.then ?_ (State.updTb_eff _ _ _) (by decide)
      exact Eff.refl
    · rename_i v7 e8
      exact Eff.refl
  clear_value x0
  have h9 : Eff 135380296 s x1 := by
    subst x1
    refine Eff.then ?_ (State.resetQueuesOf_eff _ _) (by decide)
    exact h3
  clear_value x1
  have h10 : Eff 135380296 s x2 := by
    subst x2
    refine Eff.then ?_ (State.refuseQueued_eff _ _) (by decide)
    exact h9
  clear_value x2
  refine Eff.then ?_ (State.updTb_eff _ _ _) (by decide)
  exact h10

theorem execDestroyTable_eff (a0) (a1) (s : State) :
    EffX 672251208 s (execDestroyTable a0 a1 s) := by
  unfold execDestroyTable
  refine whileUp_eff ?_ ?_
  · exact Eff.refl
  · intro p0 h1
    try beta_reduce
    extract_lets -merge x2 x3
    clear_value x2
    clear_value x3
    refine State.ownerLong_eff ?_ ?_
    · exact h1
    · intro p4 h5
      try beta_reduce
      refine Eff.then ?_ (State.destroyStart_eff _ _ _) (by decide)
      exact h5

theorem State.clearSegs_eff (s : State) (a1) (a2) :
    Eff 268438016 s (State.clearSegs s a1 a2) := by
  unfold State.clearSegs
  extract_lets -merge x0 x1 x2 x3 x4
  clear_value x0
  clear_value x1
  have h5 : Eff 268438016 s x2 := by
    subst x2
    refine Eff.then ?_ (upd_arr _ _) (by decide)
    exact Eff.refl
  clear_value x2
  clear_value x3
  clear_value x4
  refine Eff.then ?_ (upd_mnt_ras _ _ _) (by decide)
  exact h5

theorem State.destroyClear_eff (s : State) (a1) :
    Eff 67072 s (State.destroyClear s a1) := by
  unfold State.destroyClear
  extract_lets -merge x0 x1 x2 x3
  clear_value x0
  clear_value x1
  have h4 : Eff 67072 s x2 := by
    subst x2
    refine Eff.then ?_ (upd_arr _ _) (by decide)
    exact Eff.refl
  clear_value x2
  have h5 : Eff 67072 s x3 := by
    subst x3
    refine Eff.ite ?_ ?_
    · refine Eff.then ?_ (State.zeroEntries_eff _ _ _ _) (by decide)
      exact h4
    · exact h4
  clear_value x3
  split
  · rename_i v6 v7 v8 e9
    refine Eff.ite ?_ ?_
    · exact Eff.refl
    · refine Eff.then ?_ (State.updTb_eff _ _ _) (by decide)
      exact h5
  · rename_i v10 e11
    exact Eff.refl

theorem execDestroyClearStart_eff (a0) (s : State) :
    EffX 67072 s (execDestroyClearStart a0 s) := by
  unfold execDestroyClearStart
  refine whileUp_eff ?_ ?_
  · exact Eff.refl
  · intro p0 h1
    try beta_reduce
    refine Eff.then ?_ (State.destroyClear_eff _ _) (by decide)
    exact h1

theorem State.clearTick_eff (s : State) :
    Eff 268504576 s (State.clearTick s) := by
  unfold State.clearTick
  refine Eff.foldl ?_ ?_
  · exact Eff.refl
  · intro p0 p1 h2
    try beta_reduce
    extract_lets -merge x3 x4 x5
    have h6 : Eff 268504576 s x3 := by
      subst x3
      refine Eff.then ?_ (State.destroyClear_eff _ _) (by decide)
      exact h2
    clear_value x3
    clear_value x4
    have h7 : Eff 268504576 s x5 := by
      subst x5
      split
      · rename_i v8 v9 v10 e11
        refine State.when_eff ?_ ?_
        · exact h6
        · intro p12 h13
          try beta_reduce
          refine Eff.then ?_ (State.clearSegs_eff _ _ _) (by decide)
          exact h13
      · rename_i v14 e15
        exact h6
    clear_value x5
    split
    · rename_i v16 v17 e18
      split
      · rename_i v19 v20 e21
        refine State.when_eff ?_ ?_
        · exact h7
        · intro p22 h23
          try beta_reduce
          refine Eff.then ?_ (State.clearSegs_eff _ _ _) (by decide)
          exact h23
      · rename_i v24 e25
        exact h7
    · rename_i v26 e27
      exact h7

theorem State.clearCounts_eff (s : State) (a1) :
    Eff 64 s (State.clearCounts s a1) := by
  unfold State.clearCounts
  extract_lets -merge x0
  clear_value x0
  refine Eff.foldl ?_ ?_
  · exact Eff.refl
  · intro p1 p2 h3
    try beta_reduce
    refine Eff.then ?_ (State.setF_eff _ _ _) (by decide)
    exact h3

theorem State.destroyFree_eff (s : State) (a1) :
    Eff 536945728 s (State.destroyFree s a1) := by
  unfold State.destroyFree
  extract_lets -merge x0 x1 x2 x3 x4 x5 x6
  clear_value x0
  have h7 : Eff 536945728 s x1 := by
    subst x1
    refine Eff.then ?_ (State.setBlockFree_eff _ _) (by decide)
    exact Eff.refl
  clear_value x1
  have h8 : Eff 536945728 s x2 := by
    subst x2
    refine Eff.ite ?_ ?_
    · refine Eff.then ?_ (State.setHmapFree_eff _ _) (by decide)
      exact h7
    · exact h7
  clear_value x2
  have h9 : Eff 536945728 s x3 := by
    subst x3
    refine Eff.ite ?_ ?_
    · refine Eff.then ?_ (State.setUnits_eff _ _) (by decide)
      exact h8
    · exact h8
  clear_value x3
  have h10 : Eff 536945728 s x4 := by
    subst x4
    refine Eff.ite ?_ ?_
    · refine Eff.then ?_ (State.setF_eff _ _ _) (by decide)
      exact h9
    · exact h9
  clear_value x4
  have h11 : Eff 536945728 s x5 := by
    subst x5
    refine Eff.then ?_ (upd_lrn _ _) (by decide)
    exact h10
  clear_value x5
  have h12 : Eff 536945728 s x6 := by
    subst x6
    refine Eff.then ?_ (State.clearCounts_eff _ _) (by decide)
    exact h11
  clear_value x6
  split
  · rename_i v13 v14 v15 e16
    refine Eff.ite ?_ ?_
    · exact Eff.refl
    · refine Eff.then ?_ (State.ownerEnd_eff _ _ _ _ _ _) (by decide)
      refine Eff.then ?_ (State.setTb_eff _ _ _) (by decide)
      exact h12
  · rename_i v17 e18
    exact Eff.refl

theorem execDestroyIdFree_eff (a0) (s : State) :
    EffX 536945728 s (execDestroyIdFree a0 s) := by
  unfold execDestroyIdFree
  refine whileUp_eff ?_ ?_
  · exact Eff.refl
  · intro p0 h1
    try beta_reduce
    refine Eff.then ?_ (State.destroyFree_eff _ _) (by decide)
    exact h1

theorem State.migrate_eff (s : State) (a1) (a2) (a3) :
    Eff 1088 s (State.migrate s a1 a2 a3) := by
  unfold State.migrate
  refine Eff.then ?_ (State.afterLock_eff _ _) (by decide)
  refine Eff.then ?_ (State.updTb_eff _ _ _) (by decide)
  exact Eff.refl

theorem execMigrateTable_eff (a0) (a1) (a2) (s : State) :
    EffX 536872000 s (execMigrateTable a0 a1 a2 s) := by
  unfold execMigrateTable
  refine whileUp_eff ?_ ?_
  · exact Eff.refl
  · intro p0 h1
    try beta_reduce
    refine State.ownerLong_eff ?_ ?_
    · exact h1
    · intro p2 h3
      try beta_reduce
      refine Eff.then ?_ (State.migrate_eff _ _ _ _) (by decide)
      exact h3

theorem State.cutoverStart_eff (s : State) (a1) :
    Eff 256 s (State.cutoverStart s a1) := by
  unfold State.cutoverStart
  extract_lets -merge x0
  clear_value x0
  split
  · rename_i v1 v2 e3
    extract_lets -merge x4
    clear_value x4
    refine Eff.ite ?_ ?_
    · exact Eff.refl
    · refine Eff.then ?_ (State.enqOp_eff _ _ _) (by decide)
      exact Eff.refl
  · rename_i v5 e6
    exact Eff.refl

theorem State.cutover_eff (s : State) (a1) :
    Eff 268439040 s (State.cutover s a1) := by
  unfold State.cutover
  extract_lets -merge x0
  clear_value x0
  split
  · rename_i v1 e2
    exact Eff.refl
  · rename_i v3 v4 e5
    extract_lets -merge x6
    have h7 : Eff 268439040 s x6 := by
      subst x6
      refine Eff.foldl ?_ ?_
      · exact Eff.refl
      · intro p8 p9 h10
        try beta_reduce
        split
        · rename_i v11 v12 e13
          refine Eff.ite ?_ ?_
          · extract_lets -merge x14 x15 x16
            clear_value x14
            clear_value x15
            have h17 : Eff 268439040 s x16 := by
              subst x16
              refine Eff.then ?_ (State.commitRow_eff _ _ _ _) (by decide)
              exact h10
            clear_value x16
            refine Eff.then ?_ (State.setHrow_eff _ _ _ _) (by decide)
            refine Eff.then ?_ (State.commitRow_eff _ _ _ _) (by decide)
            exact h17
          · refine Eff.then ?_ (State.rowLeft_eff _ _) (by decide)
            refine Eff.then ?_ (State.commitRow_eff _ _ _ _) (by decide)
            exact h10
        · rename_i v18 e19
          refine Eff.then ?_ (State.rowLeft_eff _ _) (by decide)
          refine Eff.then ?_ (State.commitRow_eff _ _ _ _) (by decide)
          exact h10
    clear_value x6
    refine Eff.then ?_ (State.updTb_eff _ _ _) (by decide)
    exact h7

theorem State.migOldClear_eff (s : State) (a1) :
    Eff 536872000 s (State.migOldClear s a1) := by
  unfold State.migOldClear
  extract_lets -merge x0
  clear_value x0
  split
  · rename_i v1 v2 e3
    split
    · rename_i v4 v5 e6
      refine Eff.ite ?_ ?_
      · exact Eff.refl
      · extract_lets -merge x7
        have h8 : Eff 536872000 s x7 := by
          subst x7
          refine Eff.then ?_ (State.setBlockFree_eff _ _) (by decide)
          exact Eff.refl
        clear_value x7
        refine Eff.then ?_ (State.ownerEnd_eff _ _ _ _ _ _) (by decide)
        refine Eff.then ?_ (State.updTb_eff _ _ _) (by decide)
        exact h8
    · rename_i v9 e10
      exact Eff.refl
  · rename_i v11 e12
    exact Eff.refl

theorem execMigrationOldClear_eff (a0) (s : State) :
    EffX 536872000 s (execMigrationOldClear a0 s) := by
  unfold execMigrationOldClear
  refine whileUp_eff ?_ ?_
  · exact Eff.refl
  · intro p0 h1
    try beta_reduce
    refine Eff.then ?_ (State.migOldClear_eff _ _) (by decide)
    exact h1

theorem execDirProfile_eff (a0) (a1) (a2) (s : State) :
    EffX 536871936 s (execDirProfile a0 a1 a2 s) := by
  unfold execDirProfile
  refine whileUp_eff ?_ ?_
  · exact Eff.refl
  · intro p0 h1
    try beta_reduce
    extract_lets -merge x2 x3 x4
    clear_value x2
    clear_value x3
    clear_value x4
    refine State.owner1_eff ?_ ?_
    · exact h1
    · intro p5 h6
      try beta_reduce
      refine Eff.then ?_ (State.updTb_eff _ _ _) (by decide)
      exact h6

end Sys2Proof.Machine
end

