-- ==== Sys2Proof/Laws/EffHold.lean ====
section
/-! SUPPORT. What the functions of Machine/Hold.lean may change: bit i of a mask is component i of `Comp.idx`.
The theorems are checked one after another: each is small, and the joined text has many. -/

set_option Elab.async false

namespace Sys2Proof.Machine

theorem State.updDir_eff (s : State) (a1) (a2) :
    Eff 16384 s (State.updDir s a1 a2) := by
  unfold State.updDir
  refine Eff.then ?_ (upd_dir _ _) (by decide)
  exact Eff.refl

theorem State.dirAgain_eff (s : State) (a1) :
    Eff 16384 s (State.dirAgain s a1) := by
  unfold State.dirAgain
  refine Eff.then ?_ (State.updDir_eff _ _ _) (by decide)
  exact Eff.refl

theorem State.snoop_eff (s : State) (a1) (a2) (a3) (a4) :
    Eff 16452 s (State.snoop s a1 a2 a3 a4) := by
  unfold State.snoop
  refine Eff.ite ?_ ?_
  · exact Eff.refl
  · extract_lets -merge x0 x1
    have h2 : Eff 16452 s x0 := by
      subst x0
      refine Eff.then ?_ (State.updDir_eff _ _ _) (by decide)
      exact Eff.refl
    clear_value x0
    have h3 : Eff 16452 s x1 := by
      subst x1
      refine Eff.then ?_ (State.setF_eff _ _ _) (by decide)
      refine Eff.then ?_ (State.inc_eff _ _ _) (by decide)
      exact h2
    clear_value x1
    refine Eff.then ?_ (State.send_eff _ _) (by decide)
    exact h3

theorem State.snoopEntry_eff (s : State) (a1) (a2) (a3) :
    Eff 16452 s (State.snoopEntry s a1 a2 a3) := by
  unfold State.snoopEntry
  refine Eff.ite ?_ ?_
  · exact Eff.refl
  · extract_lets -merge x0 x1 x2
    clear_value x0
    clear_value x1
    clear_value x2
    refine Eff.foldl ?_ ?_
    · exact Eff.refl
    · intro p3 p4 h5
      try beta_reduce
      refine Eff.foldl ?_ ?_
      · exact h5
      · intro p6 p7 h8
        try beta_reduce
        refine Eff.then ?_ (State.snoop_eff _ _ _ _ _) (by decide)
        exact h8

end Sys2Proof.Machine
end

