-- ==== Sys2Proof/Laws/EffMaint.lean ====
section
/-! SUPPORT. What the functions of Machine/Maint.lean may change: bit i of a mask is component i of `Comp.idx`.
The theorems are checked one after another: each is small, and the joined text has many. -/

set_option Elab.async false

namespace Sys2Proof.Machine

theorem State.updLock_eff (s : State) (a1) (a2) :
    Eff 1024 s (State.updLock s a1 a2) := by
  unfold State.updLock
  refine Eff.then ?_ (State.updTb_eff _ _ _) (by decide)
  exact Eff.refl

theorem State.renew_eff (s : State) (a1) :
    Eff 1024 s (State.renew s a1) := by
  unfold State.renew
  refine Eff.then ?_ (State.updLock_eff _ _ _) (by decide)
  exact Eff.refl

theorem State.enqM_eff (s : State) (a1) (a2) (a3) (a4) (a5) :
    Eff 256 s (State.enqM s a1 a2 a3 a4 a5) := by
  unfold State.enqM
  refine Eff.then ?_ (State.enqOp_eff _ _ _) (by decide)
  exact Eff.refl

theorem State.endLearn_eff (s : State) (a1) (a2) (a3) :
    Eff 135276552 s (State.endLearn s a1 a2 a3) := by
  unfold State.endLearn
  extract_lets -merge x0 x1
  clear_value x0
  have h2 : Eff 135276552 s x1 := by
    subst x1
    refine Eff.then ?_ (upd_lrn _ _) (by decide)
    exact Eff.refl
  clear_value x1
  refine Eff.then ?_ (State.endMut_eff _ _ _ _ _) (by decide)
  exact h2

theorem State.discardFar_eff (s : State) (a1) (a2) (a3) :
    Eff 134217728 s (State.discardFar s a1 a2 a3) := by
  unfold State.discardFar
  refine State.when_eff ?_ ?_
  · exact Eff.refl
  · intro p0 h1
    try beta_reduce
    refine Eff.then ?_ (State.forward_eff _ _ _ _ _ _) (by decide)
    exact h1

theorem State.endLockLearns_eff (s : State) (a1) :
    Eff 135276552 s (State.endLockLearns s a1) := by
  unfold State.endLockLearns
  extract_lets -merge x0
  clear_value x0
  refine Eff.foldl ?_ ?_
  · exact Eff.refl
  · intro p1 p2 h3
    try beta_reduce
    refine Eff.then ?_ (State.endLearn_eff _ _ _ _) (by decide)
    exact h3

theorem State.startDiscard_eff (s : State) (a1) (a2) :
    Eff 135277832 s (State.startDiscard s a1 a2) := by
  unfold State.startDiscard
  split
  · rename_i v0 e1
    exact Eff.refl
  · rename_i v2 v3 e4
    extract_lets -merge x5 x6 x7 x8 x9 x10 x11 x12 x13 x14 x15 x16 x17 x18 x19
    clear_value x5
    clear_value x6
    clear_value x7
    clear_value x8
    clear_value x9
    clear_value x10
    clear_value x11
    have h20 : Eff 135277832 s x12 := by
      subst x12
      refine Eff.then ?_ (State.endLockLearns_eff _ _) (by decide)
      exact Eff.refl
    clear_value x12
    have h21 : Eff 135277832 s x13 := by
      subst x13
      refine Eff.then ?_ (State.dropOps_eff _ _) (by decide)
      exact h20
    clear_value x13
    have h22 : Eff 135277832 s x14 := by
      subst x14
      refine Eff.foldl ?_ ?_
      · exact h21
      · intro p23 p24 h25
        try beta_reduce
        extract_lets -merge x26
        clear_value x26
        split
        · rename_i v27 v28 e29
          refine Eff.then ?_ (State.endLearn_eff _ _ _ _) (by decide)
          exact h25
        · rename_i v30 e31
          refine Eff.then ?_ (State.resolve_eff _ _ _) (by decide)
          exact h25
    clear_value x14
    clear_value x15
    clear_value x16
    have h32 : Eff 135277832 s x17 := by
      subst x17
      refine Eff.then ?_ (upd_mnt _ _) (by decide)
      exact h22
    clear_value x17
    have h33 : Eff 135277832 s x18 := by
      subst x18
      refine Eff.foldl ?_ ?_
      · exact h32
      · intro p34 p35 h36
        try beta_reduce
        refine Eff.then ?_ (State.resolve_eff _ _ _) (by decide)
        exact h36
    clear_value x18
    have h37 : Eff 135277832 s x19 := by
      subst x19
      refine Eff.then ?_ (State.updLock_eff _ _ _) (by decide)
      exact h33
    clear_value x19
    refine Eff.ite ?_ ?_
    · exact Eff.refl
    · refine Eff.ite ?_ ?_
      · exact h37
      · refine Eff.then ?_ (State.discardFar_eff _ _ _ _) (by decide)
        refine Eff.then ?_ (State.enqM_eff _ _ _ _ _ _) (by decide)
        exact h37

theorem execLeaseExpiry_eff (a0) (s : State) :
    EffX 135277832 s (execLeaseExpiry a0 s) := by
  unfold execLeaseExpiry
  refine whileUp_eff ?_ ?_
  · exact Eff.refl
  · intro p0 h1
    try beta_reduce
    split
    · rename_i v2 v3 e4
      refine State.when_eff ?_ ?_
      · exact h1
      · intro p5 h6
        try beta_reduce
        refine Eff.then ?_ (State.startDiscard_eff _ _ _) (by decide)
        exact h6
    · rename_i v7 e8
      exact h1

theorem State.leaseClose_eff (s : State) :
    Eff 135277832 s (State.leaseClose s) := by
  unfold State.leaseClose
  refine Eff.foldl ?_ ?_
  · exact Eff.refl
  · intro p0 p1 h2
    try beta_reduce
    split
    · rename_i v3 v4 e5
      refine State.when_eff ?_ ?_
      · exact h2
      · intro p6 h7
        try beta_reduce
        refine Eff.then ?_ (State.startDiscard_eff _ _ _) (by decide)
        exact h7
    · rename_i v8 e9
      exact h2

theorem State.failLoad_eff (s : State) (a1) (a2) :
    Eff 135310600 s (State.failLoad s a1 a2) := by
  unfold State.failLoad
  split
  · rename_i v0 v1 e2
    refine Eff.ite ?_ ?_
    · exact Eff.refl
    · extract_lets -merge x3 x4 x5
      have h6 : Eff 135310600 s x3 := by
        subst x3
        refine Eff.then ?_ (State.updTb_eff _ _ _) (by decide)
        exact Eff.refl
      clear_value x3
      clear_value x4
      have h7 : Eff 135310600 s x5 := by
        subst x5
        refine Eff.then ?_ (upd_trie _ _) (by decide)
        exact h6
      clear_value x5
      refine Eff.then ?_ (State.startDiscard_eff _ _ _) (by decide)
      refine Eff.then ?_ (State.resolve_eff _ _ _) (by decide)
      exact h7
  · rename_i v8 e9
    exact Eff.refl

theorem State.noRoom_eff (s : State) (a1) :
    Eff 404270412 s (State.noRoom s a1) := by
  unfold State.noRoom
  split
  · rename_i v0 v1 e2
    split
    · rename_i v3 v4 e5
      refine Eff.ite ?_ ?_
      · refine Eff.then ?_ (upd_mnt _ _) (by decide)
        exact Eff.refl
      · extract_lets -merge x6 x7
        have h8 : Eff 404270412 s x6 := by
          subst x6
          refine Eff.then ?_ (State.inc_eff _ _ _) (by decide)
          exact Eff.refl
        clear_value x6
        have h9 : Eff 404270412 s x7 := by
          subst x7
          refine Eff.then ?_ (State.raise_eff _ _ _ _) (by decide)
          exact h8
        clear_value x7
        refine Eff.then ?_ (State.endLearn_eff _ _ _ _) (by decide)
        exact h9
    · rename_i v10 e11
      exact Eff.refl
  · rename_i v12 v13 e14
    refine Eff.then ?_ (upd_mnt _ _) (by decide)
    exact Eff.refl
  · rename_i v15 e16 e17
    refine Eff.ite ?_ ?_
    · refine Eff.then ?_ (State.failLoad_eff _ _ _) (by decide)
      exact Eff.refl
    · extract_lets -merge x18 x19
      have h20 : Eff 404270412 s x18 := by
        subst x18
        split
        · rename_i v21 v22 e23
          refine Eff.then ?_ (State.updLock_eff _ _ _) (by decide)
          exact Eff.refl
        · rename_i v24 e25
          exact Eff.refl
      clear_value x18
      clear_value x19
      refine Eff.then ?_ (State.resolve_eff _ _ _) (by decide)
      exact h20

theorem State.placeAt_eff (s : State) (a1) (a2) (a3) (a4) :
    Eff 9472 s (State.placeAt s a1 a2 a3 a4) := by
  unfold State.placeAt
  extract_lets -merge x0 x1 x2 x3 x4
  clear_value x0
  have h5 : Eff 9472 s x1 := by
    subst x1
    split
    · rename_i v6 v7 e8
      refine Eff.ite ?_ ?_
      · exact Eff.refl
      · refine Eff.then ?_ (State.updLock_eff _ _ _) (by decide)
        exact Eff.refl
    · rename_i v9 e10
      exact Eff.refl
  clear_value x1
  clear_value x2
  have h11 : Eff 9472 s x3 := by
    subst x3
    refine Eff.then ?_ (State.enqOp_eff _ _ _) (by decide)
    exact h5
  clear_value x3
  clear_value x4
  split
  · rename_i v12 v13 e14
    refine Eff.ite ?_ ?_
    · exact h11
    · refine Eff.then ?_ (upd_lrn _ _) (by decide)
      exact h11
  · rename_i v15 e16
    exact h11

theorem State.victim_eff (s : State) (a1) (a2) :
    Eff 64 s (State.victim s a1 a2).2 := by
  unfold State.victim
  extract_lets -merge x0 x1 x2
  clear_value x0
  clear_value x1
  clear_value x2
  split
  · rename_i v3 e4
    refine EffR.ite ?_ ?_
    · exact Eff.refl
    · refine Eff.then ?_ (State.setF_eff _ _ _) (by decide)
      exact Eff.refl
  · rename_i v5 e6
    exact Eff.refl
  · rename_i v7 e8 e9
    exact Eff.refl

theorem State.evictOr_eff (s : State) (a1) (a2) :
    Eff 404286796 s (State.evictOr s a1 a2) := by
  unfold State.evictOr
  refine Eff.ite ?_ ?_
  · refine Eff.then ?_ (State.noRoom_eff _ _) (by decide)
    exact Eff.refl
  · extract_lets -merge x0
    have h1 : Eff 404286796 s x0.2 := by
      subst x0
      refine Eff.then ?_ (State.victim_eff _ _ _) (by decide)
      exact Eff.refl
    clear_value x0
    split
    · rename_i v2 e3
      refine Eff.then ?_ (State.noRoom_eff _ _) (by decide)
      exact h1
    · rename_i v4 v5 v6 e7
      extract_lets -merge x8 x9
      clear_value x8
      clear_value x9
      split
      · rename_i v10 v11 e12
        refine Eff.ite ?_ ?_
        · refine Eff.then ?_ (State.noRoom_eff _ _) (by decide)
          exact h1
        · extract_lets -merge x13
          have h14 : Eff 404286796 s x13 := by
            subst x13
            refine Eff.then ?_ (State.updDir_eff _ _ _) (by decide)
            exact h1
          clear_value x13
          refine Eff.then ?_ (State.snoopEntry_eff _ _ _ _) (by decide)
          refine Eff.then ?_ (State.inc_eff _ _ _) (by decide)
          exact h14
      · rename_i v15 e16
        refine Eff.then ?_ (State.placeAt_eff _ _ _ _ _) (by decide)
        exact h1

theorem State.decideIns_eff (s : State) (a1) :
    Eff 404286796 s (State.decideIns s a1) := by
  unfold State.decideIns
  extract_lets -merge x0 x1 x2 x3 x4 x5
  clear_value x0
  clear_value x1
  clear_value x2
  clear_value x3
  clear_value x4
  clear_value x5
  split
  · rename_i v6 e7
    refine Eff.then ?_ (State.evictOr_eff _ _ _) (by decide)
    exact Eff.refl
  · rename_i v8 v9 e10
    split
    · rename_i v11 v12 v13 e14 e15
      split
      · rename_i v16 v17 e18
        refine Eff.then ?_ (State.placeAt_eff _ _ _ _ _) (by decide)
        exact Eff.refl
      · rename_i v19 e20
        refine Eff.then ?_ (State.noRoom_eff _ _) (by decide)
        exact Eff.refl
    · rename_i v21 v22 e23
      extract_lets -merge x24
      have h25 : ∀ p0, Eff 404286796 s (x24 p0) := by
        subst x24
        intro p26
        try beta_reduce
        split
        · rename_i v27 v28 e29
          refine Eff.then ?_ (State.placeAt_eff _ _ _ _ _) (by decide)
          exact Eff.refl
        · rename_i v30 e31
          exact Eff.refl
      clear_value x24
      split
      · rename_i v32 v33 e34
        refine h25 _
      · rename_i v35 e36
        split
        · rename_i v37 v38 e39
          refine h25 _
        · rename_i v40 e41
          refine Eff.ite ?_ ?_
          · refine Eff.then ?_ (State.evictOr_eff _ _ _) (by decide)
            exact Eff.refl
          · refine Eff.ite ?_ ?_
            · split
              · rename_i v42 v43 e44
                refine h25 _
              · rename_i v45 e46
                exact Eff.refl
            · refine Eff.then ?_ (upd_mnt _ _) (by decide)
              exact Eff.refl

theorem State.placement_eff (s : State) :
    Eff 404286796 s (State.placement s) := by
  unfold State.placement
  refine Eff.ite ?_ ?_
  · exact Eff.refl
  · split
    · rename_i v0 e1
      exact Eff.refl
    · rename_i v2 v3 e4
      refine Eff.ite ?_ ?_
      · exact Eff.refl
      · extract_lets -merge x5 x6
        clear_value x5
        have h7 : Eff 404286796 s x6 := by
          subst x6
          refine Eff.then ?_ (upd_mnt _ _) (by decide)
          exact Eff.refl
        clear_value x6
        refine Eff.then ?_ (State.decideIns_eff _ _) (by decide)
        exact h7

theorem execPlacementDecision_eff (s : State) :
    EffX 404286796 s (execPlacementDecision s) := by
  unfold execPlacementDecision
  refine whileUp_eff ?_ ?_
  · exact Eff.refl
  · intro p0 h1
    try beta_reduce
    refine Eff.then ?_ (State.placement_eff _) (by decide)
    exact h1

theorem State.startReloc_eff (s : State) (a1) (a2) (a3) (a4) (a5) :
    Eff 2304 s (State.startReloc s a1 a2 a3 a4 a5) := by
  unfold State.startReloc
  extract_lets -merge x0 x1 x2
  clear_value x0
  clear_value x1
  have h3 : Eff 2304 s x2 := by
    subst x2
    refine Eff.then ?_ (upd_mnt _ _) (by decide)
    exact Eff.refl
  clear_value x2
  refine Eff.then ?_ (State.enqM_eff _ _ _ _ _ _) (by decide)
  exact h3

theorem State.refreshCopies_eff (s : State) :
    Eff 256 s (State.refreshCopies s) := by
  unfold State.refreshCopies
  extract_lets -merge x0 x1
  clear_value x0
  clear_value x1
  refine Eff.then ?_ (upd_arb _ _) (by decide)
  exact Eff.refl

theorem State.releaseWait_eff (s : State) (a1) (a2) :
    Eff 404270412 s (State.releaseWait s a1 a2) := by
  unfold State.releaseWait
  split
  · rename_i v0 e1
    exact Eff.refl
  · rename_i v2 v3 e4
    extract_lets -merge x5 x6 x7 x8
    clear_value x5
    clear_value x6
    have h9 : Eff 404270412 s x7 := by
      subst x7
      refine Eff.then ?_ (upd_mnt _ _) (by decide)
      exact Eff.refl
    clear_value x7
    clear_value x8
    split
    · rename_i v10 v11 e12
      refine Eff.ite ?_ ?_
      · split
        · rename_i v13 v14 e15
          refine Eff.then ?_ (State.placeAt_eff _ _ _ _ _) (by decide)
          exact h9
        · rename_i v16 e17
          refine Eff.then ?_ (State.noRoom_eff _ _) (by decide)
          exact h9
      · refine Eff.then ?_ (upd_mnt _ _) (by decide)
        exact h9
    · rename_i v18 e19
      exact h9

theorem State.settleWithdrawn_eff (s : State) :
    Eff 404270412 s (State.settleWithdrawn s) := by
  unfold State.settleWithdrawn
  extract_lets -merge x0 x1 x2
  clear_value x0
  clear_value x1
  have h3 : Eff 404270412 s x2 := by
    subst x2
    refine Eff.then ?_ (upd_arb _ _) (by decide)
    exact Eff.refl
  clear_value x2
  refine Eff.foldl ?_ ?_
  · exact h3
  · intro p4 p5 h6
    try beta_reduce
    split
    · rename_i v7 v8 e9
      extract_lets -merge x10 x11 x12 x13
      clear_value x10
      have h14 : Eff 404270412 s x11 := by
        subst x11
        refine Eff.then ?_ (upd_mnt _ _) (by decide)
        exact h6
      clear_value x11
      clear_value x12
      have h15 : Eff 404270412 s x13 := by
        subst x13
        split
        · rename_i v16 e17
          exact h14
        · rename_i v18 e19
          refine Eff.then ?_ (State.resolve_eff _ _ _) (by decide)
          exact h14
      clear_value x13
      refine Eff.then ?_ (State.releaseWait_eff _ _ _) (by decide)
      exact h15
    · rename_i v20 e21
      refine Eff.ite ?_ ?_
      · exact h6
      · refine Eff.then ?_ (State.resolve_eff _ _ _) (by decide)
        exact h6

theorem State.tmPlace_eff (s : State) :
    Eff 404286796 s (State.tmPlace s) := by
  unfold State.tmPlace
  refine Eff.ite ?_ ?_
  · exact Eff.refl
  · split
    · rename_i v0 e1
      exact Eff.refl
    · rename_i v2 v3 v4 e5
      extract_lets -merge x6 x7 x8 x9 x10 x11 x12 x13 x14
      clear_value x6
      have h15 : Eff 404286796 s x7 := by
        subst x7
        refine Eff.then ?_ (upd_mnt _ _) (by decide)
        exact Eff.refl
      clear_value x7
      clear_value x8
      clear_value x9
      clear_value x10
      clear_value x11
      clear_value x12
      clear_value x13
      clear_value x14
      split
      · rename_i v16 v17 v18 v19
        split
        · rename_i v20 v21 e22
          extract_lets -merge x23 x24
          have h25 : Eff 404286796 s x23 := by
            subst x23
            refine Eff.then ?_ (State.startReloc_eff _ _ _ _ _ _) (by decide)
            exact h15
          clear_value x23
          clear_value x24
          refine Eff.then ?_ (upd_mnt _ _) (by decide)
          exact h25
        · rename_i v26 e27
          exact h15
      · rename_i v28
        split
        · rename_i v29 e30
          refine Eff.then ?_ (State.noRoom_eff _ _) (by decide)
          exact h15
        · rename_i v31 v32 e33
          split
          · rename_i v34 v35 e36
            split
            · rename_i v37 v38 e39
              refine Eff.then ?_ (State.placeAt_eff _ _ _ _ _) (by decide)
              exact h15
            · rename_i v40 e41
              exact h15
          · rename_i v42 e43
            refine Eff.then ?_ (State.evictOr_eff _ _ _) (by decide)
            exact h15

theorem execTableManagerPlacement_eff (s : State) :
    EffX 404286796 s (execTableManagerPlacement s) := by
  unfold execTableManagerPlacement
  refine whileUp_eff ?_ ?_
  · exact Eff.refl
  · intro p0 h1
    try beta_reduce
    refine Eff.then ?_ (State.tmPlace_eff _) (by decide)
    exact h1

theorem State.shrinkMoves_eff (s : State) (a1) :
    Eff 2304 s (State.shrinkMoves s a1) := by
  unfold State.shrinkMoves
  refine Eff.ite ?_ ?_
  · exact Eff.refl
  · refine Eff.foldl ?_ ?_
    · exact Eff.refl
    · intro p0 p1 h2
      try beta_reduce
      refine Eff.ite ?_ ?_
      · exact h2
      · extract_lets -merge x3
        clear_value x3
        split
        · rename_i v4 v5 e6
          split
          · rename_i v7 v8 e9
            refine Eff.then ?_ (State.startReloc_eff _ _ _ _ _ _) (by decide)
            exact h2
          · rename_i v10 e11
            exact h2
        · rename_i v12 e13
          exact h2

theorem State.gladeRestore_eff (s : State) (a1) :
    Eff 2304 s (State.gladeRestore s a1) := by
  unfold State.gladeRestore
  refine Eff.ite ?_ ?_
  · exact Eff.refl
  · split
    · rename_i v0 e1
      exact Eff.refl
    · rename_i v2 v3 e4
      extract_lets -merge x5 x6 x7 x8 x9
      clear_value x5
      clear_value x6
      clear_value x7
      clear_value x8
      clear_value x9
      refine Eff.ite ?_ ?_
      · refine Eff.then ?_ (State.shrinkMoves_eff _ _) (by decide)
        exact Eff.refl
      · refine Eff.ite ?_ ?_
        · exact Eff.refl
        · split
          · rename_i v10 v11 v12
            split
            · rename_i v13 v14 e15
              refine Eff.then ?_ (State.startReloc_eff _ _ _ _ _ _) (by decide)
              exact Eff.refl
            · rename_i v16 e17
              exact Eff.refl
          · rename_i v18
            exact Eff.refl

theorem execGladeRestore_eff (a0) (s : State) :
    EffX 2304 s (execGladeRestore a0 s) := by
  unfold execGladeRestore
  refine whileUp_eff ?_ ?_
  · exact Eff.refl
  · intro p0 h1
    try beta_reduce
    refine Eff.then ?_ (State.gladeRestore_eff _ _) (by decide)
    exact h1

theorem State.canopyTighten_eff (s : State) (a1) :
    Eff 2304 s (State.canopyTighten s a1) := by
  unfold State.canopyTighten
  refine Eff.ite ?_ ?_
  · exact Eff.refl
  · split
    · rename_i v0 e1
      exact Eff.refl
    · rename_i v2 v3 e4
      extract_lets -merge x5 x6 x7 x8
      clear_value x5
      clear_value x6
      clear_value x7
      clear_value x8
      refine Eff.ite ?_ ?_
      · exact Eff.refl
      · refine Eff.ite ?_ ?_
        · refine Eff.then ?_ (State.enqM_eff _ _ _ _ _ _) (by decide)
          exact Eff.refl
        · refine Eff.then ?_ (upd_mnt _ _) (by decide)
          exact Eff.refl

theorem execCanopyTighten_eff (a0) (s : State) :
    EffX 2304 s (execCanopyTighten a0 s) := by
  unfold execCanopyTighten
  refine whileUp_eff ?_ ?_
  · exact Eff.refl
  · intro p0 h1
    try beta_reduce
    refine Eff.then ?_ (State.canopyTighten_eff _ _) (by decide)
    exact h1

theorem State.migCopies_eff (s : State) (a1) :
    Eff 256 s (State.migCopies s a1) := by
  unfold State.migCopies
  extract_lets -merge x0 x1
  clear_value x0
  clear_value x1
  split
  · rename_i v2 e3
    exact Eff.refl
  · rename_i v4 v5 e6
    refine Eff.ite ?_ ?_
    · exact Eff.refl
    · extract_lets -merge x7 x8
      clear_value x7
      clear_value x8
      refine Eff.foldl ?_ ?_
      · exact Eff.refl
      · intro p9 p10 h11
        try beta_reduce
        extract_lets -merge x12 x13
        clear_value x12
        clear_value x13
        split
        · rename_i v14 v15
          split
          · rename_i v16 v17 e18
            refine Eff.then ?_ (State.enqM_eff _ _ _ _ _ _) (by decide)
            exact h11
          · rename_i v19 e20
            exact h11
        · rename_i v21
          exact h11

theorem execShrinkEnd_eff (a0) (s : State) :
    EffX 3328 s (execShrinkEnd a0 s) := by
  unfold execShrinkEnd
  refine whileUp_eff ?_ ?_
  · exact Eff.refl
  · intro p0 h1
    try beta_reduce
    refine Eff.then ?_ (State.shrinkMoves_eff _ _) (by decide)
    refine Eff.then ?_ (State.shrinkEnd_eff _ _) (by decide)
    exact h1

theorem execMigrationCutover_eff (a0) (s : State) :
    EffX 256 s (execMigrationCutover a0 s) := by
  unfold execMigrationCutover
  refine whileUp_eff ?_ ?_
  · exact Eff.refl
  · intro p0 h1
    try beta_reduce
    refine Eff.then ?_ (State.migCopies_eff _ _) (by decide)
    refine Eff.then ?_ (State.cutoverStart_eff _ _) (by decide)
    exact h1

theorem State.dropReloc_eff (s : State) (a1) :
    Eff 268438272 s (State.dropReloc s a1) := by
  unfold State.dropReloc
  extract_lets -merge x0 x1 x2 x3
  have h4 : Eff 268438272 s x0 := by
    subst x0
    refine Eff.then ?_ (State.dropOps_eff _ _) (by decide)
    exact Eff.refl
  clear_value x0
  have h5 : Eff 268438272 s x1 := by
    subst x1
    refine Eff.then ?_ (State.cutFlights_eff _ _) (by decide)
    exact h4
  clear_value x1
  clear_value x2
  have h6 : Eff 268438272 s x3 := by
    subst x3
    refine Eff.then ?_ (upd_mnt _ _) (by decide)
    exact h5
  clear_value x3
  refine Eff.ite ?_ ?_
  · refine Eff.then ?_ (State.rowLeft_eff _ _) (by decide)
    refine Eff.then ?_ (State.commitRow_eff _ _ _ _) (by decide)
    exact h6
  · exact h6

end Sys2Proof.Machine
end

