-- ==== Sys2Proof/Laws/EffDesc.lean ====
section
/-! SUPPORT. What the functions of Machine/Desc.lean may change: bit i of a mask is component i of `Comp.idx`.
The theorems are checked one after another: each is small, and the joined text has many. -/

set_option Elab.async false

namespace Sys2Proof.Machine

theorem State.atEngine_eff (s : State) (a1) (a2) (a3) :
    Eff 1048576 s (State.atEngine s a1 a2 a3) := by
  unfold State.atEngine
  refine Eff.then ?_ (State.updCx_eff _ _ _) (by decide)
  exact Eff.refl

theorem State.runDesc_eff {w : Nat} {r s : State} {a1} {a2} {a3} {a4} (h : Eff w r s) (h4 : ∀ y0 y1, Eff w r y0 → EffO w r (a4 y0 y1))
    (hw : 135272456 &&& w = 135272456 := by decide) :
    Eff w r (State.runDesc s a1 a2 a3 a4) := by
  unfold State.runDesc
  split
  · rename_i v0 e1
    exact h
  · rename_i v2 v3 e4
    refine Eff.ite ?_ ?_
    · refine State.when_eff ?_ ?_
      · refine Eff.then ?_ (State.resolve_eff _ _ _) (mask_le (by decide) hw)
        exact h
      · intro p5 h6
        try beta_reduce
        refine Eff.then ?_ (State.dropPair_eff _ _) (mask_le (by decide) hw)
        exact h6
    · split
      · rename_i v7 e8
        exact h
      · rename_i v9 e10
        refine State.when_eff ?_ ?_
        · refine Eff.then ?_ (State.resolve_eff _ _ _) (mask_le (by decide) hw)
          exact h
        · intro p11 h12
          try beta_reduce
          refine Eff.then ?_ (State.dropPair_eff _ _) (mask_le (by decide) hw)
          exact h12
      · rename_i v13 e14
        split
        · rename_i v15 v16 e17
          have h18 : Eff w r v16 := by
            refine EffO.at e17 ?_
            refine h4 _ _ ?_
            exact h
          refine Eff.then ?_ (State.atEngine_eff _ _ _ _) (mask_le (by decide) hw)
          exact h18
        · rename_i v19 e20
          exact h

end Sys2Proof.Machine
end

