-- ==== Sys2Proof/Laws/EffEntry.lean ====
section
/-! SUPPORT. What the functions of Machine/Entry.lean may change: bit i of a mask is component i of `Comp.idx`.
The theorems are checked one after another: each is small, and the joined text has many. -/

set_option Elab.async false

namespace Sys2Proof.Machine

theorem State.route_eff {w : Nat} {r s : State} {a1} {a2} {a3} {a4} (h : Eff w r s) (h4 : ∀ y0, Eff w r y0 → EffO w r (a4 y0))
    (hw : 135269384 &&& w = 135269384 := by decide) :
    EffO w r (State.route s a1 a2 a3 a4) := by
  unfold State.route
  split
  · rename_i v0 v1
    refine h4 _ ?_
    exact h
  · rename_i v2 e3
    extract_lets -merge x4
    have h5 : ∀ p0, Eff w r p0 → Eff w r (x4 p0) := by
      subst x4
      intro p6 h7
      try beta_reduce
      refine Eff.ite ?_ ?_
      · refine Eff.then ?_ (State.renew_eff _ _) (mask_le (by decide) hw)
        exact h7
      · exact h7
    clear_value x4
    refine EffO.ite ?_ ?_
    · refine EffO.some ?_
      refine Eff.then ?_ (State.forward_eff _ _ _ _ _ _) (mask_le (by decide) hw)
      exact h
    · refine EffO.ite ?_ ?_
      · split
        · rename_i v8 v9 e10
          refine EffO.ite ?_ ?_
          · refine h4 _ ?_
            exact h
          · refine EffO.ite ?_ ?_
            · refine EffO.some ?_
              refine Eff.then ?_ (State.forward_eff _ _ _ _ _ _) (mask_le (by decide) hw)
              refine h5 _ ?_
              exact h
            · refine EffO.some ?_
              refine Eff.then ?_ (State.resolve_eff _ _ _) (mask_le (by decide) hw)
              exact h
        · rename_i v11 e12
          refine h4 _ ?_
          exact h
      · refine h4 _ ?_
        exact h

theorem State.routeHome_eff {w : Nat} {r s : State} {a1} {a2} {a3} {a4} (h : Eff w r s) (h4 : ∀ y0, Eff w r y0 → Eff w r (a4 y0))
    (hw : 134217728 &&& w = 134217728 := by decide) :
    Eff w r (State.routeHome s a1 a2 a3 a4) := by
  unfold State.routeHome
  split
  · rename_i v0 v1
    refine h4 _ ?_
    exact h
  · rename_i v2 e3
    refine Eff.ite ?_ ?_
    · refine Eff.then ?_ (State.forward_eff _ _ _ _ _ _) (mask_le (by decide) hw)
      exact h
    · refine h4 _ ?_
      exact h

theorem State.arrInsert_eff (s : State) (a1) (a2) (a3) :
    EffO 135269384 s (State.arrInsert s a1 a2 a3) := by
  unfold State.arrInsert
  extract_lets -merge x0 x1 x2 x3 x4
  clear_value x0
  have h5 : Eff 135269384 s x1 := by
    subst x1
    refine Eff.ite ?_ ?_
    · refine Eff.then ?_ (State.renew_eff _ _) (by decide)
      exact Eff.refl
    · exact Eff.refl
  clear_value x1
  clear_value x2
  have h6 : Eff 135269384 s x3 := by
    subst x3
    refine Eff.ite ?_ ?_
    · refine Eff.then ?_ (State.renew_eff _ _) (by decide)
      exact Eff.refl
    · exact Eff.refl
  clear_value x3
  clear_value x4
  refine EffO.ite ?_ ?_
  · refine EffO.some ?_
    refine Eff.then ?_ (State.resolve_eff _ _ _) (by decide)
    exact Eff.refl
  · refine EffO.ite ?_ ?_
    · refine EffO.some ?_
      refine Eff.then ?_ (State.resolve_eff _ _ _) (by decide)
      exact Eff.refl
    · split
      · rename_i v7 v8 e9
        refine EffO.ite ?_ ?_
        · exact EffO.none
        · refine EffO.ite ?_ ?_
          · refine EffO.some ?_
            refine Eff.then ?_ (State.resolve_eff _ _ _) (by decide)
            exact Eff.refl
          · refine EffO.ite ?_ ?_
            · refine EffO.some ?_
              refine Eff.then ?_ (State.resolve_eff _ _ _) (by decide)
              exact Eff.refl
            · refine EffO.some ?_
              refine Eff.then ?_ (upd_mnt _ _) (by decide)
              exact h5
      · rename_i v10 e11
        refine EffO.ite ?_ ?_
        · refine EffO.some ?_
          refine Eff.then ?_ (State.resolve_eff _ _ _) (by decide)
          exact Eff.refl
        · refine EffO.some ?_
          refine Eff.then ?_ (upd_mnt _ _) (by decide)
          exact h6

theorem State.arrUpdate_eff (s : State) (a1) (a2) (a3) (a4) (a5) :
    EffO 135269640 s (State.arrUpdate s a1 a2 a3 a4 a5) := by
  unfold State.arrUpdate
  refine EffO.ite ?_ ?_
  · refine EffO.some ?_
    refine Eff.then ?_ (State.resolve_eff _ _ _) (by decide)
    exact Eff.refl
  · refine EffO.ite ?_ ?_
    · refine EffO.some ?_
      refine Eff.then ?_ (State.resolve_eff _ _ _) (by decide)
      exact Eff.refl
    · refine EffO.ite ?_ ?_
      · exact EffO.none
      · split
        · rename_i v0 e1
          refine EffO.some ?_
          refine Eff.then ?_ (State.resolve_eff _ _ _) (by decide)
          exact Eff.refl
        · rename_i v2 v3 e4
          refine EffO.ite ?_ ?_
          · extract_lets -merge x5 x6 x7
            clear_value x5
            have h8 : Eff 135269640 s x6 := by
              subst x6
              refine Eff.then ?_ (State.renew_eff _ _) (by decide)
              exact Eff.refl
            clear_value x6
            clear_value x7
            refine EffO.ite ?_ ?_
            · refine EffO.some ?_
              refine Eff.then ?_ (State.resolve_eff _ _ _) (by decide)
              exact Eff.refl
            · refine EffO.some ?_
              refine Eff.then ?_ (upd_mnt _ _) (by decide)
              exact h8
          · extract_lets -merge x9 x10 x11
            clear_value x9
            clear_value x10
            clear_value x11
            refine EffO.ite ?_ ?_
            · refine EffO.ite ?_ ?_
              · exact EffO.none
              · split
                · rename_i v12 v13 e14
                  split
                  · rename_i v15 v16 e17
                    refine EffO.some ?_
                    refine Eff.then ?_ (State.startReloc_eff _ _ _ _ _ _) (by decide)
                    exact Eff.refl
                  · rename_i v18 e19
                    refine EffO.some ?_
                    refine Eff.then ?_ (State.resolve_eff _ _ _) (by decide)
                    exact Eff.refl
                · rename_i v20 e21
                  refine EffO.some ?_
                  refine Eff.then ?_ (State.resolve_eff _ _ _) (by decide)
                  exact Eff.refl
            · refine EffO.some ?_
              refine Eff.then ?_ (State.enqM_eff _ _ _ _ _ _) (by decide)
              exact Eff.refl

theorem State.markRetire_eff (s : State) (a1) (a2) :
    Eff 1024 s (State.markRetire s a1 a2) := by
  unfold State.markRetire
  refine Eff.then ?_ (State.updLock_eff _ _ _) (by decide)
  exact Eff.refl

theorem State.arrDelete_eff (s : State) (a1) (a2) (a3) (a4) :
    EffO 135269640 s (State.arrDelete s a1 a2 a3 a4) := by
  unfold State.arrDelete
  refine EffO.ite ?_ ?_
  · refine EffO.some ?_
    refine Eff.then ?_ (State.resolve_eff _ _ _) (by decide)
    exact Eff.refl
  · refine EffO.ite ?_ ?_
    · exact EffO.none
    · split
      · rename_i v0 e1
        refine EffO.some ?_
        refine Eff.then ?_ (State.resolve_eff _ _ _) (by decide)
        exact Eff.refl
      · rename_i v2 v3 e4
        refine EffO.ite ?_ ?_
        · split
          · rename_i v5 v6 e7
            refine EffO.some ?_
            refine Eff.then ?_ (State.enqM_eff _ _ _ _ _ _) (by decide)
            refine Eff.then ?_ (State.renew_eff _ _) (by decide)
            exact Eff.refl
          · rename_i v8 e9
            refine EffO.ite ?_ ?_
            · refine EffO.some ?_
              refine Eff.then ?_ (State.resolve_eff _ _ _) (by decide)
              exact Eff.refl
            · extract_lets -merge x10 x11
              have h12 : Eff 135269640 s x10 := by
                subst x10
                refine Eff.then ?_ (State.markRetire_eff _ _ _) (by decide)
                refine Eff.then ?_ (State.renew_eff _ _) (by decide)
                exact Eff.refl
              clear_value x10
              have h13 : Eff 135269640 s x11.1 := by
                subst x11
                refine EffL.ite ?_ ?_
                · refine Eff.then ?_ (State.mirFrame_eff _ _) (by decide)
                  exact h12
                · exact h12
              clear_value x11
              refine EffO.some ?_
              refine Eff.then ?_ (State.endMut_eff _ _ _ _ _) (by decide)
              exact h13
        · refine EffO.some ?_
          refine Eff.then ?_ (State.enqM_eff _ _ _ _ _ _) (by decide)
          exact Eff.refl

theorem State.arrRead_eff (s : State) (a1) (a2) (a3) (a4) :
    Eff 135268616 s (State.arrRead s a1 a2 a3 a4) := by
  unfold State.arrRead
  split
  · rename_i v0 e1
    refine Eff.then ?_ (State.resolve_eff _ _ _) (by decide)
    exact Eff.refl
  · rename_i v2 v3 e4
    refine Eff.then ?_ (State.enqOp_eff _ _ _) (by decide)
    exact Eff.refl

theorem State.observe_eff (s : State) (a1) (a2) (a3) (a4) :
    Eff 403703880 s (State.observe s a1 a2 a3 a4) := by
  unfold State.observe
  split
  · rename_i v0 e1
    refine Eff.then ?_ (State.resolve_eff _ _ _) (by decide)
    exact Eff.refl
  · rename_i v2 v3 e4
    extract_lets -merge x5 x6
    clear_value x5
    clear_value x6
    refine Eff.ite ?_ ?_
    · refine Eff.then ?_ (State.resolve_eff _ _ _) (by decide)
      refine Eff.then ?_ (State.report_eff _ _) (by decide)
      exact Eff.refl
    · refine Eff.then ?_ (State.resolve_eff _ _ _) (by decide)
      exact Eff.refl

theorem State.lockTable_eff (s : State) (a1) (a2) (a3) (a4) :
    Eff 135269384 s (State.lockTable s a1 a2 a3 a4) := by
  unfold State.lockTable
  extract_lets -merge x0 x1
  clear_value x0
  have h2 : Eff 135269384 s x1 := by
    subst x1
    refine Eff.then ?_ (State.updTb_eff _ _ _) (by decide)
    exact Eff.refl
  clear_value x1
  refine Eff.ite ?_ ?_
  · refine Eff.then ?_ (State.resolve_eff _ _ _) (by decide)
    exact Eff.refl
  · refine Eff.ite ?_ ?_
    · refine Eff.then ?_ (State.resolve_eff _ _ _) (by decide)
      exact Eff.refl
    · refine Eff.then ?_ (State.resolve_eff _ _ _) (by decide)
      exact h2

theorem State.commitTable_eff (s : State) (a1) (a2) (a3) :
    Eff 135269640 s (State.commitTable s a1 a2 a3) := by
  unfold State.commitTable
  refine Eff.ite ?_ ?_
  · refine Eff.then ?_ (State.resolve_eff _ _ _) (by decide)
    exact Eff.refl
  · extract_lets -merge x0 x1 x2 x3
    clear_value x0
    have h4 : Eff 135269640 s x1 := by
      subst x1
      refine Eff.then ?_ (State.updLock_eff _ _ _) (by decide)
      exact Eff.refl
    clear_value x1
    have h5 : Eff 135269640 s x2.1 := by
      subst x2
      refine Eff.then ?_ (State.mirFrame_eff _ _) (by decide)
      exact h4
    clear_value x2
    have h6 : Eff 135269640 s x3 := by
      subst x3
      refine Eff.ite ?_ ?_
      · refine Eff.then ?_ (State.updLock_eff _ _ _) (by decide)
        exact h5
      · exact h4
    clear_value x3
    refine Eff.then ?_ (State.enqM_eff _ _ _ _ _ _) (by decide)
    exact h6

theorem State.abandonTable_eff (s : State) (a1) (a2) (a3) :
    Eff 135277832 s (State.abandonTable s a1 a2 a3) := by
  unfold State.abandonTable
  refine Eff.ite ?_ ?_
  · refine Eff.then ?_ (State.resolve_eff _ _ _) (by decide)
    exact Eff.refl
  · refine Eff.then ?_ (State.startDiscard_eff _ _ _) (by decide)
    exact Eff.refl

theorem State.probe_eff (s : State) (a1) (a2) (a3) :
    Eff 256 s (State.probe s a1 a2 a3) := by
  unfold State.probe
  refine Eff.then ?_ (State.enqOp_eff _ _ _) (by decide)
  exact Eff.refl

theorem State.learnStart_eff (s : State) (a1) (a2) (a3) :
    Eff 135277848 s (State.learnStart s a1 a2 a3) := by
  unfold State.learnStart
  extract_lets -merge x0 x1 x2 x3 x4 x5
  clear_value x0
  clear_value x1
  have h6 : Eff 135277848 s x2 := by
    subst x2
    refine Eff.ite ?_ ?_
    · refine Eff.then ?_ (State.renew_eff _ _) (by decide)
      exact Eff.refl
    · exact Eff.refl
  clear_value x2
  clear_value x3
  clear_value x4
  have h7 : Eff 135277848 s x5 := by
    subst x5
    refine Eff.then ?_ (upd_ids_lrn _ _ _) (by decide)
    exact h6
  clear_value x5
  refine Eff.ite ?_ ?_
  · refine Eff.then ?_ (State.resolve_eff _ _ _) (by decide)
    exact Eff.refl
  · refine Eff.then ?_ (State.probe_eff _ _ _ _) (by decide)
    exact h7

theorem State.putProfile_eff (s : State) (a1) (a2) :
    Eff 1026 s (State.putProfile s a1 a2) := by
  unfold State.putProfile
  extract_lets -merge x0 x1
  clear_value x0
  clear_value x1
  refine Eff.ite ?_ ?_
  · split
    · rename_i v2 v3 v4 e5
      have h6 : Eff 1026 s v4 := by
        refine EffR.at e5 ?_
        refine Eff.then ?_ (State.free_eff _) (by decide)
        exact Eff.refl
      extract_lets -merge x7
      clear_value x7
      refine Eff.then ?_ (State.setTb_eff _ _ _) (by decide)
      exact h6
  · refine Eff.then ?_ (State.setTb_eff _ _ _) (by decide)
    exact Eff.refl

theorem State.loadProfile_eff (s : State) (a1) (a2) (a3) :
    Eff 403178566 s (State.loadProfile s a1 a2 a3) := by
  unfold State.loadProfile
  split
  · rename_i v0 v1
    refine Eff.then ?_ (State.journal_eff _ _ _) (by decide)
    refine Eff.then ?_ (State.putProfile_eff _ _ _) (by decide)
    exact Eff.refl
  · rename_i v2
    exact Eff.refl

theorem State.frameState_eff (s : State) (a1) (a2) (a3) :
    Eff 134217728 s (State.frameState s a1 a2 a3).1 := by
  unfold State.frameState
  refine EffL.ite ?_ ?_
  · extract_lets -merge x0
    have h1 : Eff 134217728 s x0.1 := by
      subst x0
      refine Eff.then ?_ (State.mirFrame_eff _ _) (by decide)
      exact Eff.refl
    clear_value x0
    exact h1
  · exact Eff.refl

theorem State.setProfile_eff (s : State) (a1) (a2) :
    EffO 404229198 s (State.setProfile s a1 a2) := by
  unfold State.setProfile
  extract_lets -merge x0 x1 x2 x3 x4 x5 x6
  clear_value x0
  clear_value x1
  clear_value x2
  have h7 : Eff 404229198 s x3 := by
    subst x3
    refine Eff.then ?_ (State.putProfile_eff _ _ _) (by decide)
    exact Eff.refl
  clear_value x3
  clear_value x4
  have h8 : Eff 404229198 s x5.1 := by
    subst x5
    refine Eff.then ?_ (State.frameState_eff _ _ _ _) (by decide)
    exact h7
  clear_value x5
  have h9 : Eff 404229198 s x6 := by
    subst x6
    refine Eff.then ?_ (State.journal_eff _ _ _) (by decide)
    exact h8
  clear_value x6
  refine EffO.ite ?_ ?_
  · exact EffO.none
  · refine EffO.ite ?_ ?_
    · refine EffO.some ?_
      refine Eff.then ?_ (State.resolve_eff _ _ _) (by decide)
      exact Eff.refl
    · refine EffO.some ?_
      refine Eff.then ?_ (State.endMut_eff _ _ _ _ _) (by decide)
      exact h9

theorem State.putState_eff (s : State) (a1) (a2) :
    Eff 13568 s (State.putState s a1 a2) := by
  unfold State.putState
  extract_lets -merge x0 x1 x2
  clear_value x0
  have h3 : Eff 13568 s x1 := by
    subst x1
    refine Eff.then ?_ (State.setTb_eff _ _ _) (by decide)
    exact Eff.refl
  clear_value x1
  have h4 : Eff 13568 s x2 := by
    subst x2
    refine Eff.then ?_ (State.updTb_eff _ _ _) (by decide)
    exact Eff.refl
  clear_value x2
  refine Eff.ite ?_ ?_
  · refine Eff.ite ?_ ?_
    · refine Eff.then ?_ (upd_lrn _ _) (by decide)
      exact h3
    · exact h3
  · refine Eff.ite ?_ ?_
    · refine Eff.then ?_ (State.disableQueues_eff _ _) (by decide)
      exact h4
    · refine Eff.then ?_ (State.updTb_eff _ _ _) (by decide)
      exact Eff.refl

theorem State.moveState_eff (s : State) (a1) (a2) (a3) :
    Eff 404241742 s (State.moveState s a1 a2 a3) := by
  unfold State.moveState
  extract_lets -merge x0 x1 x2 x3
  clear_value x0
  clear_value x1
  clear_value x2
  clear_value x3
  split
  · rename_i v4 v5 e6
    refine Eff.then ?_ (State.resolve_eff _ _ _) (by decide)
    exact Eff.refl
  · rename_i v7 e8
    split
    · rename_i v9 v10 v11 e12
      have h13 : Eff 404241742 s v11 := by
        refine EffR.at e12 ?_
        refine EffR.ite ?_ ?_
        · refine Eff.then ?_ (State.free_eff _) (by decide)
          exact Eff.refl
        · exact Eff.refl
      refine Eff.ite ?_ ?_
      · refine Eff.then ?_ (State.resolve_eff _ _ _) (by decide)
        exact h13
      · extract_lets -merge x14 x15 x16
        have h17 : Eff 404241742 s x14 := by
          subst x14
          refine Eff.then ?_ (State.putState_eff _ _ _) (by decide)
          exact h13
        clear_value x14
        have h18 : Eff 404241742 s x15.1 := by
          subst x15
          refine Eff.then ?_ (State.frameState_eff _ _ _ _) (by decide)
          exact h17
        clear_value x15
        have h19 : Eff 404241742 s x16 := by
          subst x16
          refine Eff.then ?_ (State.journal_eff _ _ _) (by decide)
          exact h18
        clear_value x16
        refine Eff.then ?_ (State.endMut_eff _ _ _ _ _) (by decide)
        exact h19

theorem State.trieMut_eff (s : State) (a1) (a2) (a3) :
    Eff 32768 s (State.trieMut s a1 a2 a3) := by
  unfold State.trieMut
  refine Eff.then ?_ (upd_trie _ _) (by decide)
  exact Eff.refl

theorem State.trieLook_eff (s : State) (a1) (a2) (a3) (a4) :
    Eff 32768 s (State.trieLook s a1 a2 a3 a4) := by
  unfold State.trieLook
  refine Eff.then ?_ (upd_trie _ _) (by decide)
  exact Eff.refl

theorem State.directOp_eff (s : State) (a1) (a2) (a3) (a4) :
    Eff 65536 s (State.directOp s a1 a2 a3 a4) := by
  unfold State.directOp
  refine Eff.then ?_ (upd_dsram _ _) (by decide)
  exact Eff.refl

theorem State.withPrefix_eff {w : Nat} {r s : State} {a1} {a2} {a3} (h : Eff w r s) (h3 : ∀ y0, Eff w r y0 → Eff w r (a3 y0))
    (hw : 135268360 &&& w = 135268360 := by decide) :
    Eff w r (State.withPrefix s a1 a2 a3) := by
  unfold State.withPrefix
  refine Eff.ite ?_ ?_
  · refine h3 _ ?_
    exact h
  · refine Eff.then ?_ (State.resolve_eff _ _ _) (mask_le (by decide) hw)
    exact h

theorem State.doInsert_eff (s : State) (a1) (a2) (a3) :
    EffO 135367688 s (State.doInsert s a1 a2 a3) := by
  unfold State.doInsert
  refine State.route_eff ?_ ?_
  · exact Eff.refl
  · intro p0 h1
    try beta_reduce
    extract_lets -merge x2
    clear_value x2
    refine EffO.ite ?_ ?_
    · refine EffO.then ?_ (State.arrInsert_eff _ _ _ _) (by decide)
      exact h1
    · refine EffO.ite ?_ ?_
      · refine EffO.some ?_
        refine State.withPrefix_eff ?_ ?_
        · exact h1
        · intro p3 h4
          try beta_reduce
          refine Eff.then ?_ (State.trieMut_eff _ _ _ _) (by decide)
          exact h4
      · refine EffO.some ?_
        refine Eff.then ?_ (State.directOp_eff _ _ _ _ _) (by decide)
        exact h1

theorem State.doUpdate_eff (s : State) (a1) (a2) (a3) :
    EffO 135367944 s (State.doUpdate s a1 a2 a3) := by
  unfold State.doUpdate
  refine State.route_eff ?_ ?_
  · exact Eff.refl
  · intro p0 h1
    try beta_reduce
    extract_lets -merge x2
    clear_value x2
    refine EffO.ite ?_ ?_
    · refine EffO.then ?_ (State.arrUpdate_eff _ _ _ _ _ _) (by decide)
      exact h1
    · refine EffO.ite ?_ ?_
      · refine EffO.some ?_
        refine State.withPrefix_eff ?_ ?_
        · exact h1
        · intro p3 h4
          try beta_reduce
          refine Eff.then ?_ (State.trieMut_eff _ _ _ _) (by decide)
          exact h4
      · refine EffO.some ?_
        refine Eff.then ?_ (State.directOp_eff _ _ _ _ _) (by decide)
        exact h1

theorem State.doDelete_eff (s : State) (a1) (a2) (a3) :
    EffO 135367944 s (State.doDelete s a1 a2 a3) := by
  unfold State.doDelete
  refine State.route_eff ?_ ?_
  · exact Eff.refl
  · intro p0 h1
    try beta_reduce
    extract_lets -merge x2
    clear_value x2
    refine EffO.ite ?_ ?_
    · refine EffO.then ?_ (State.arrDelete_eff _ _ _ _ _) (by decide)
      exact h1
    · refine EffO.ite ?_ ?_
      · refine EffO.some ?_
        refine State.withPrefix_eff ?_ ?_
        · exact h1
        · intro p3 h4
          try beta_reduce
          refine Eff.then ?_ (State.trieMut_eff _ _ _ _) (by decide)
          exact h4
      · refine EffO.some ?_
        refine Eff.then ?_ (State.directOp_eff _ _ _ _ _) (by decide)
        exact h1

theorem State.doRead_eff (s : State) (a1) (a2) (a3) :
    EffO 135367944 s (State.doRead s a1 a2 a3) := by
  unfold State.doRead
  refine State.route_eff ?_ ?_
  · exact Eff.refl
  · intro p0 h1
    try beta_reduce
    extract_lets -merge x2
    clear_value x2
    refine EffO.ite ?_ ?_
    · refine EffO.some ?_
      refine Eff.then ?_ (State.arrRead_eff _ _ _ _ _) (by decide)
      exact h1
    · refine EffO.ite ?_ ?_
      · refine EffO.some ?_
        refine Eff.then ?_ (State.trieLook_eff _ _ _ _ _) (by decide)
        exact h1
      · refine EffO.some ?_
        refine Eff.then ?_ (State.directOp_eff _ _ _ _ _) (by decide)
        exact h1

theorem State.doSearch_eff (s : State) (a1) (a2) (a3) (a4) (a5) (a6) :
    Eff 98560 s (State.doSearch s a1 a2 a3 a4 a5 a6) := by
  unfold State.doSearch
  extract_lets -merge x0 x1 x2
  clear_value x0
  clear_value x1
  clear_value x2
  refine Eff.ite ?_ ?_
  · refine Eff.then ?_ (State.enqOp_eff _ _ _) (by decide)
    exact Eff.refl
  · refine Eff.ite ?_ ?_
    · refine Eff.then ?_ (State.trieLook_eff _ _ _ _ _) (by decide)
      exact Eff.refl
    · refine Eff.then ?_ (State.directOp_eff _ _ _ _ _) (by decide)
      exact Eff.refl

theorem State.doReadKey_eff (s : State) (a1) (a2) (a3) (a4) :
    Eff 135366920 s (State.doReadKey s a1 a2 a3 a4) := by
  unfold State.doReadKey
  refine Eff.ite ?_ ?_
  · refine State.withPrefix_eff ?_ ?_
    · exact Eff.refl
    · intro p0 h1
      try beta_reduce
      refine Eff.then ?_ (State.trieLook_eff _ _ _ _ _) (by decide)
      exact h1
  · refine Eff.then ?_ (State.doSearch_eff _ _ _ _ _ _ _) (by decide)
    exact Eff.refl

theorem State.doLock_eff (s : State) (a1) (a2) (a3) :
    Eff 135269384 s (State.doLock s a1 a2 a3) := by
  unfold State.doLock
  refine State.routeHome_eff ?_ ?_
  · exact Eff.refl
  · intro p0 h1
    try beta_reduce
    extract_lets -merge x2 x3
    clear_value x2
    have h4 : Eff 135269384 s x3 := by
      subst x3
      refine Eff.then ?_ (State.lockTable_eff _ _ _ _ _) (by decide)
      exact h1
    clear_value x3
    refine Eff.ite ?_ ?_
    · refine Eff.then ?_ (State.forward_eff _ _ _ _ _ _) (by decide)
      exact h4
    · exact h4

theorem State.doCommit_eff (s : State) (a1) (a2) (a3) :
    Eff 135269640 s (State.doCommit s a1 a2 a3) := by
  unfold State.doCommit
  refine State.routeHome_eff ?_ ?_
  · exact Eff.refl
  · intro p0 h1
    try beta_reduce
    refine Eff.then ?_ (State.commitTable_eff _ _ _ _) (by decide)
    exact h1

theorem State.doAbandon_eff (s : State) (a1) (a2) (a3) :
    Eff 135277832 s (State.doAbandon s a1 a2 a3) := by
  unfold State.doAbandon
  refine State.routeHome_eff ?_ ?_
  · exact Eff.refl
  · intro p0 h1
    try beta_reduce
    extract_lets -merge x2
    clear_value x2
    refine Eff.then ?_ (State.abandonTable_eff _ _ _ _) (by decide)
    exact h1

theorem State.doLearn_eff (s : State) (a1) (a2) (a3) :
    EffO 135277848 s (State.doLearn s a1 a2 a3) := by
  unfold State.doLearn
  refine State.route_eff ?_ ?_
  · exact Eff.refl
  · intro p0 h1
    try beta_reduce
    refine EffO.some ?_
    refine Eff.then ?_ (State.learnStart_eff _ _ _ _) (by decide)
    exact h1

end Sys2Proof.Machine
end

