-- ==== Sys2Proof/Laws/EffCommit.lean ====
section
/-! SUPPORT. What the functions of Machine/Commit.lean may change: bit i of a mask is component i of `Comp.idx`.
The theorems are checked one after another: each is small, and the joined text has many. -/

set_option Elab.async false

namespace Sys2Proof.Machine

theorem State.mirApplied_eff (s : State) (a1) (a2) :
    Eff 135268360 s (State.mirApplied s a1 a2) := by
  unfold State.mirApplied
  split
  · rename_i v0 e1
    exact Eff.refl
  · rename_i v2 v3 e4
    extract_lets -merge x5 x6 x7 x8 x9
    clear_value x5
    clear_value x6
    clear_value x7
    have h10 : Eff 135268360 s x8 := by
      subst x8
      refine Eff.then ?_ (upd_pair _ _) (by decide)
      exact Eff.refl
    clear_value x8
    have h11 : Eff 135268360 s x9 := by
      subst x9
      refine Eff.then ?_ (State.linkSend_eff _ _) (by decide)
      exact h10
    clear_value x9
    refine Eff.foldl ?_ ?_
    · exact h11
    · intro p12 p13 h14
      try beta_reduce
      refine Eff.then ?_ (State.resolve_eff _ _ _) (by decide)
      exact h14

theorem State.dirCommitted_eff (s : State) (a1) :
    Eff 268976196 s (State.dirCommitted s a1) := by
  unfold State.dirCommitted
  split
  · rename_i v0 e1
    exact Eff.refl
  · rename_i v2 v3 e4
    extract_lets -merge x5 x6 x7 x8
    have h9 : Eff 268976196 s x5 := by
      subst x5
      refine Eff.then ?_ (State.updDir_eff _ _ _) (by decide)
      exact Eff.refl
    clear_value x5
    have h10 : Eff 268976196 s x6 := by
      subst x6
      refine Eff.then ?_ (State.inc_eff _ _ _) (by decide)
      exact h9
    clear_value x6
    have h11 : Eff 268976196 s x7 := by
      subst x7
      split
      · rename_i v12 v13 v14 e15
        refine Eff.ite ?_ ?_
        · refine Eff.then ?_ (State.raise_eff _ _ _ _) (by decide)
          exact h10
        · exact h10
      · rename_i v16 e17
        exact h9
    clear_value x7
    have h18 : Eff 268976196 s x8 := by
      subst x8
      refine Eff.ite ?_ ?_
      · refine Eff.then ?_ (State.inc_eff _ _ _) (by decide)
        exact h11
      · exact h11
    clear_value x8
    split
    · rename_i v19 v20 e21
      refine Eff.then ?_ (State.inc_eff _ _ _) (by decide)
      exact h18
    · rename_i v22 e23
      exact h18

theorem State.endOp_eff (s : State) (a1) (a2) :
    Eff 404244556 s (State.endOp s a1 a2) := by
  unfold State.endOp
  split
  · rename_i v0 v1 v2 e3
    refine Eff.then ?_ (State.mirApplied_eff _ _ _) (by decide)
    exact Eff.refl
  · rename_i v4 v5 e6
    refine Eff.then ?_ (State.dirCommitted_eff _ _) (by decide)
    exact Eff.refl
  · rename_i v7 e8 e9
    refine Eff.then ?_ (State.endMut_eff _ _ _ _ _) (by decide)
    exact Eff.refl

theorem State.journalH_eff (s : State) (a1) (a2) :
    Eff 403177540 s (State.journalH s a1 a2) := by
  unfold State.journalH
  refine Eff.then ?_ (State.journal_eff _ _ _) (by decide)
  exact Eff.refl

theorem State.dropCopy_eff (s : State) (a1) (a2) :
    Eff 268439040 s (State.dropCopy s a1 a2) := by
  unfold State.dropCopy
  split
  · rename_i v0 v1 e2
    split
    · rename_i v3 v4 e5
      refine Eff.then ?_ (State.updTb_eff _ _ _) (by decide)
      refine Eff.then ?_ (State.rowLeft_eff _ _) (by decide)
      refine Eff.then ?_ (State.commitRow_eff _ _ _ _) (by decide)
      exact Eff.refl
    · rename_i v6 e7
      exact Eff.refl
  · rename_i v8 e9
    exact Eff.refl

theorem State.unage_eff (s : State) (a1) (a2) :
    Eff 16384 s (State.unage s a1 a2) := by
  unfold State.unage
  refine State.when_eff ?_ ?_
  · exact Eff.refl
  · intro p0 h1
    try beta_reduce
    refine Eff.then ?_ (upd_dir _ _) (by decide)
    exact h1

theorem State.removeRow_eff (s : State) (a1) :
    Eff 268455424 s (State.removeRow s a1) := by
  unfold State.removeRow
  extract_lets -merge x0
  clear_value x0
  refine Eff.then ?_ (State.unage_eff _ _ _) (by decide)
  refine Eff.then ?_ (State.dropCopy_eff _ _ _) (by decide)
  refine Eff.then ?_ (State.rowLeft_eff _ _) (by decide)
  refine Eff.then ?_ (State.freeRow_eff _ _) (by decide)
  exact Eff.refl

theorem State.withdrawAfter_eff (s : State) (a1) :
    Eff 11008 s (State.withdrawAfter s a1) := by
  unfold State.withdrawAfter
  extract_lets -merge x0 x1 x2 x3 x4
  clear_value x0
  clear_value x1
  have h5 : Eff 11008 s x2 := by
    subst x2
    refine Eff.then ?_ (State.dropOps_eff _ _) (by decide)
    refine Eff.then ?_ (State.cutFlights_eff _ _) (by decide)
    exact Eff.refl
  clear_value x2
  clear_value x3
  clear_value x4
  refine Eff.then ?_ (upd_mnt_lrn _ _ _) (by decide)
  exact h5

theorem State.relearn_eff (s : State) (a1) :
    Eff 11072 s (State.relearn s a1) := by
  unfold State.relearn
  extract_lets -merge x0 x1 x2
  have h3 : Eff 11072 s x0 := by
    subst x0
    refine Eff.then ?_ (State.inc_eff _ _ _) (by decide)
    refine Eff.then ?_ (State.withdrawAfter_eff _ _) (by decide)
    exact Eff.refl
  clear_value x0
  clear_value x1
  have h4 : Eff 11072 s x2 := by
    subst x2
    refine Eff.then ?_ (upd_lrn _ _) (by decide)
    exact h3
  clear_value x2
  refine Eff.then ?_ (State.probe_eff _ _ _ _) (by decide)
  exact h4

theorem State.redecide_eff (s : State) (a1) :
    Eff 11072 s (State.redecide s a1) := by
  unfold State.redecide
  extract_lets -merge x0 x1 x2
  clear_value x0
  have h3 : Eff 11072 s x1 := by
    subst x1
    refine Eff.then ?_ (State.withdrawAfter_eff _ _) (by decide)
    exact Eff.refl
  clear_value x1
  clear_value x2
  refine Eff.ite ?_ ?_
  · refine Eff.then ?_ (State.relearn_eff _ _) (by decide)
    exact Eff.refl
  · refine Eff.then ?_ (upd_lrn _ _) (by decide)
    exact h3

theorem State.countLearn_eff (s : State) (a1) (a2) (a3) (a4) (a5) :
    Eff 268959812 s (State.countLearn s a1 a2 a3 a4 a5) := by
  unfold State.countLearn
  refine Eff.ite ?_ ?_
  · refine Eff.then ?_ (State.raise_eff _ _ _ _) (by decide)
    refine Eff.then ?_ (State.inc_eff _ _ _) (by decide)
    exact Eff.refl
  · refine Eff.ite ?_ ?_
    · extract_lets -merge x0
      have h1 : Eff 268959812 s x0 := by
        subst x0
        refine Eff.then ?_ (State.inc_eff _ _ _) (by decide)
        exact Eff.refl
      clear_value x0
      refine Eff.ite ?_ ?_
      · refine Eff.then ?_ (State.inc_eff _ _ _) (by decide)
        exact h1
      · exact h1
    · exact Eff.refl

theorem State.replaceIns_eff (s : State) (a1) (a2) (a3) :
    Eff 11008 s (State.replaceIns s a1 a2 a3) := by
  unfold State.replaceIns
  extract_lets -merge x0 x1 x2 x3 x4
  clear_value x0
  clear_value x1
  clear_value x2
  have h5 : Eff 11008 s x3 := by
    subst x3
    split
    · rename_i v6 v7 e8
      refine Eff.then ?_ (State.withdrawAfter_eff _ _) (by decide)
      exact Eff.refl
    · rename_i v9 e10
      exact Eff.refl
  clear_value x3
  clear_value x4
  refine Eff.then ?_ (upd_mnt _ _) (by decide)
  exact h5

theorem State.commitInsert_eff (s : State) (a1) (a2) (a3) (a4) (a5) :
    Eff 404254540 s (State.commitInsert s a1 a2 a3 a4 a5) := by
  unfold State.commitInsert
  extract_lets -merge x0 x1 x2 x3 x4 x5 x6 x7 x8 x9
  clear_value x0
  clear_value x1
  clear_value x2
  have h10 : Eff 404254540 s x3 := by
    subst x3
    split
    · rename_i v11 v12
      refine Eff.then ?_ (State.rowLeft_eff _ _) (by decide)
      refine Eff.then ?_ (State.unage_eff _ _ _) (by decide)
      refine Eff.then ?_ (State.dropCopy_eff _ _ _) (by decide)
      refine Eff.then ?_ (State.setHrow_eff _ _ _ _) (by decide)
      exact Eff.refl
    · rename_i v13
      exact Eff.refl
  clear_value x3
  have h14 : Eff 404254540 s x4 := by
    subst x4
    refine Eff.then ?_ (State.setHrow_eff _ _ _ _) (by decide)
    refine Eff.then ?_ (State.commitRow_eff _ _ _ _) (by decide)
    exact h10
  clear_value x4
  have h15 : Eff 404254540 s x5 := by
    subst x5
    split
    · rename_i v16 v17
      refine Eff.then ?_ (State.journalH_eff _ _ _) (by decide)
      exact h14
    · rename_i v18
      exact h14
  clear_value x5
  have h19 : Eff 404254540 s x6 := by
    subst x6
    refine Eff.then ?_ (State.journalH_eff _ _ _) (by decide)
    exact h15
  clear_value x6
  clear_value x7
  have h20 : Eff 404254540 s x8 := by
    subst x8
    split
    · rename_i v21 v22
      refine Eff.ite ?_ ?_
      · exact h19
      · refine Eff.ite ?_ ?_
        · refine Eff.then ?_ (State.raise_eff _ _ _ _) (by decide)
          exact h19
        · refine Eff.then ?_ (State.raise_eff _ _ _ _) (by decide)
          exact h19
    · rename_i v23
      exact h19
  clear_value x8
  clear_value x9
  split
  · rename_i v24 v25 e26
    refine Eff.then ?_ (State.redecide_eff _ _) (by decide)
    exact Eff.refl
  · rename_i v27 e28
    refine Eff.ite ?_ ?_
    · split
      · rename_i v29 v30 e31
        refine Eff.then ?_ (State.dirAgain_eff _ _) (by decide)
        exact Eff.refl
      · rename_i v32 e33
        exact Eff.refl
    · refine Eff.ite ?_ ?_
      · refine Eff.then ?_ (State.replaceIns_eff _ _ _ _) (by decide)
        exact Eff.refl
      · split
        · rename_i v34 v35
          refine Eff.then ?_ (State.endLearn_eff _ _ _ _) (by decide)
          refine Eff.then ?_ (State.countLearn_eff _ _ _ _ _ _) (by decide)
          exact h20
        · rename_i v36
          refine Eff.then ?_ (State.endOp_eff _ _ _) (by decide)
          exact h20

theorem State.commitStage_eff (s : State) (a1) (a2) (a3) :
    Eff 404254540 s (State.commitStage s a1 a2 a3) := by
  unfold State.commitStage
  extract_lets -merge x0 x1 x2 x3 x4 x5 x6 x7 x8
  clear_value x0
  clear_value x1
  clear_value x2
  clear_value x3
  clear_value x4
  have h9 : Eff 404254540 s x5 := by
    subst x5
    refine Eff.then ?_ (State.commitRow_eff _ _ _ _) (by decide)
    exact Eff.refl
  clear_value x5
  have h10 : Eff 404254540 s x6 := by
    subst x6
    refine Eff.ite ?_ ?_
    · exact h9
    · refine Eff.then ?_ (State.setHrow_eff _ _ _ _) (by decide)
      exact h9
  clear_value x6
  have h11 : Eff 404254540 s x7 := by
    subst x7
    refine Eff.then ?_ (State.updLock_eff _ _ _) (by decide)
    exact h10
  clear_value x7
  have h12 : Eff 404254540 s x8 := by
    subst x8
    refine Eff.ite ?_ ?_
    · refine Eff.then ?_ (State.markRetire_eff _ _ _) (by decide)
      exact h11
    · exact h11
  clear_value x8
  split
  · rename_i v13 v14 e15
    refine Eff.then ?_ (State.updTb_eff _ _ _) (by decide)
    exact h12
  · rename_i v16 e17
    split
    · rename_i v18 v19
      refine Eff.then ?_ (State.enqM_eff _ _ _ _ _ _) (by decide)
      exact h12
    · rename_i v20
      split
      · rename_i v21 v22 e23
        refine Eff.then ?_ (State.endLearn_eff _ _ _ _) (by decide)
        refine Eff.then ?_ (State.countLearn_eff _ _ _ _ _ _) (by decide)
        exact h12
      · rename_i v24 e25
        refine Eff.then ?_ (State.endOp_eff _ _ _) (by decide)
        exact h12

theorem State.commitUnstage_eff (s : State) (a1) (a2) :
    Eff 404254284 s (State.commitUnstage s a1 a2) := by
  unfold State.commitUnstage
  extract_lets -merge x0 x1 x2 x3 x4 x5 x6
  clear_value x0
  clear_value x1
  clear_value x2
  have h7 : Eff 404254284 s x3 := by
    subst x3
    refine Eff.then ?_ (State.rowLeft_eff _ _) (by decide)
    refine Eff.then ?_ (State.freeRow_eff _ _) (by decide)
    exact Eff.refl
  clear_value x3
  have h8 : Eff 404254284 s x4 := by
    subst x4
    refine Eff.then ?_ (State.updLock_eff _ _ _) (by decide)
    exact h7
  clear_value x4
  have h9 : Eff 404254284 s x5 := by
    subst x5
    split
    · rename_i v10 v11 e12
      refine Eff.ite ?_ ?_
      · exact h8
      · refine Eff.then ?_ (State.setHrow_eff _ _ _ _) (by decide)
        exact h8
    · rename_i v13 e14
      exact h8
  clear_value x5
  clear_value x6
  split
  · rename_i v15 v16 e17
    refine Eff.then ?_ (State.endLearn_eff _ _ _ _) (by decide)
    refine Eff.then ?_ (State.countLearn_eff _ _ _ _ _ _) (by decide)
    exact h9
  · rename_i v18 e19
    refine Eff.then ?_ (State.endOp_eff _ _ _) (by decide)
    exact h9

theorem State.noteLearned_eff (s : State) (a1) (a2) :
    Eff 1024 s (State.noteLearned s a1 a2) := by
  unfold State.noteLearned
  refine Eff.then ?_ (State.updLock_eff _ _ _) (by decide)
  exact Eff.refl

theorem State.commitMove_eff (s : State) (a1) (a2) (a3) (a4) :
    Eff 404254540 s (State.commitMove s a1 a2 a3 a4) := by
  unfold State.commitMove
  extract_lets -merge x0 x1
  clear_value x0
  clear_value x1
  split
  · rename_i v2 e3
    split
    · rename_i v4 v5 v6 e7
      refine Eff.then ?_ (State.redecide_eff _ _) (by decide)
      exact Eff.refl
    · rename_i v8 v9 v10 e11 e12
      refine Eff.then ?_ (State.dirAgain_eff _ _) (by decide)
      exact Eff.refl
    · rename_i v13 v14 e15 e16
      refine Eff.then ?_ (State.endOp_eff _ _ _) (by decide)
      exact Eff.refl
  · rename_i v17 v18 e19
    extract_lets -merge x20 x21 x22 x23 x24 x25
    clear_value x20
    clear_value x21
    clear_value x22
    have h26 : Eff 404254540 s x23 := by
      subst x23
      refine Eff.then ?_ (State.commitRow_eff _ _ _ _) (by decide)
      exact Eff.refl
    clear_value x23
    have h27 : Eff 404254540 s x24 := by
      subst x24
      refine Eff.then ?_ (State.noteLearned_eff _ _ _) (by decide)
      exact h26
    clear_value x24
    have h28 : Eff 404254540 s x25 := by
      subst x25
      refine Eff.then ?_ (State.journalH_eff _ _ _) (by decide)
      exact h27
    clear_value x25
    refine Eff.ite ?_ ?_
    · split
      · rename_i v29 v30
        refine Eff.then ?_ (State.redecide_eff _ _) (by decide)
        exact Eff.refl
      · rename_i v31
        refine Eff.then ?_ (State.endOp_eff _ _ _) (by decide)
        exact Eff.refl
    · split
      · rename_i v32 v33
        extract_lets -merge x34
        have h35 : Eff 404254540 s x34 := by
          subst x34
          refine Eff.then ?_ (State.countLearn_eff _ _ _ _ _ _) (by decide)
          exact h28
        clear_value x34
        refine Eff.then ?_ (State.endLearn_eff _ _ _ _) (by decide)
        exact h35
      · rename_i v36
        refine Eff.then ?_ (State.endOp_eff _ _ _) (by decide)
        exact h28

theorem State.updRas_eff (s : State) (a1) :
    Eff 268435456 s (State.updRas s a1) := by
  unfold State.updRas
  refine Eff.then ?_ (upd_ras _ _) (by decide)
  exact Eff.refl

theorem State.loseHandle_eff (s : State) (a1) (a2) :
    Eff 403177540 s (State.loseHandle s a1 a2) := by
  unfold State.loseHandle
  extract_lets -merge x0 x1 x2
  clear_value x0
  have h3 : Eff 403177540 s x1.1 := by
    subst x1
    refine Eff.then ?_ (State.mirFrame_eff _ _) (by decide)
    exact Eff.refl
  clear_value x1
  clear_value x2
  refine Eff.ite ?_ ?_
  · exact Eff.refl
  · refine Eff.ite ?_ ?_
    · refine Eff.then ?_ (State.journal_eff _ _ _) (by decide)
      exact h3
    · refine Eff.ite ?_ ?_
      · refine Eff.then ?_ (State.forward_eff _ _ _ _ _ _) (by decide)
        exact Eff.refl
      · refine Eff.ite ?_ ?_
        · refine Eff.then ?_ (upd_pair _ _) (by decide)
          exact Eff.refl
        · refine Eff.then ?_ (State.journal_eff _ _ _) (by decide)
          exact Eff.refl

theorem State.eraseRow_eff (s : State) (a1) :
    Eff 404270924 s (State.eraseRow s a1) := by
  unfold State.eraseRow
  extract_lets -merge x0 x1 x2 x3 x4
  clear_value x0
  have h5 : Eff 404270924 s x1 := by
    subst x1
    refine Eff.foldl ?_ ?_
    · exact Eff.refl
    · intro p6 p7 h8
      try beta_reduce
      refine Eff.then ?_ (State.loseHandle_eff _ _ _) (by decide)
      refine Eff.then ?_ (State.setHrow_eff _ _ _ _) (by decide)
      exact h8
  clear_value x1
  clear_value x2
  have h9 : Eff 404270924 s x3 := by
    subst x3
    refine Eff.then ?_ (upd_tbl _ _) (by decide)
    exact h5
  clear_value x3
  have h10 : Eff 404270924 s x4 := by
    subst x4
    refine Eff.foldl ?_ ?_
    · exact h9
    · intro p11 p12 h13
      try beta_reduce
      refine Eff.then ?_ (State.releaseWait_eff _ _ _) (by decide)
      refine Eff.then ?_ (State.dropReloc_eff _ _) (by decide)
      exact h13
  clear_value x4
  refine Eff.then ?_ (State.rowLeft_eff _ _) (by decide)
  refine Eff.then ?_ (State.commitRow_eff _ _ _ _) (by decide)
  exact h10

theorem State.loseRow_eff (s : State) (a1) :
    Eff 404270924 s (State.loseRow s a1) := by
  unfold State.loseRow
  extract_lets -merge x0
  clear_value x0
  refine Eff.then ?_ (State.raise_eff _ _ _ _) (by decide)
  refine Eff.then ?_ (State.eraseRow_eff _ _) (by decide)
  exact Eff.refl

theorem State.commitErase_eff (s : State) (a1) (a2) :
    Eff 404270924 s (State.commitErase s a1 a2) := by
  unfold State.commitErase
  split
  · rename_i v0
    refine Eff.ite ?_ ?_
    · refine Eff.then ?_ (State.rowLeft_eff _ _) (by decide)
      refine Eff.then ?_ (State.freeRow_eff _ _) (by decide)
      exact Eff.refl
    · exact Eff.refl
  · rename_i v1 v2
    extract_lets -merge x3
    have h4 : Eff 404270924 s x3 := by
      subst x3
      refine Eff.then ?_ (State.updRas_eff _ _) (by decide)
      exact Eff.refl
    clear_value x3
    refine Eff.ite ?_ ?_
    · refine Eff.then ?_ (State.updRas_eff _ _) (by decide)
      exact h4
    · refine Eff.then ?_ (State.loseRow_eff _ _) (by decide)
      exact h4

theorem State.commitRepair_eff (s : State) (a1) (a2) :
    Eff 268960324 s (State.commitRepair s a1 a2) := by
  unfold State.commitRepair
  extract_lets -merge x0 x1 x2 x3 x4 x5 x6 x7
  clear_value x0
  have h8 : Eff 268960324 s x1 := by
    subst x1
    refine Eff.then ?_ (upd_ras _ _) (by decide)
    exact Eff.refl
  clear_value x1
  have h9 : Eff 268960324 s x2 := by
    subst x2
    refine Eff.then ?_ (State.inc_eff _ _ _) (by decide)
    exact h8
  clear_value x2
  clear_value x3
  clear_value x4
  clear_value x5
  have h10 : Eff 268960324 s x6 := by
    subst x6
    refine Eff.then ?_ (State.commitRow_eff _ _ _ _) (by decide)
    exact h8
  clear_value x6
  have h11 : Eff 268960324 s x7 := by
    subst x7
    refine Eff.ite ?_ ?_
    · refine Eff.then ?_ (State.setHrow_eff _ _ _ _) (by decide)
      exact h10
    · exact h10
  clear_value x7
  refine Eff.ite ?_ ?_
  · refine Eff.then ?_ (upd_ras _ _) (by decide)
    exact h9
  · refine Eff.then ?_ (State.raise_eff _ _ _ _) (by decide)
    refine Eff.then ?_ (State.inc_eff _ _ _) (by decide)
    exact h11

theorem State.commitWrite_eff (s : State) (a1) (a2) (a3) (a4) :
    Eff 404287308 s (State.commitWrite s a1 a2 a3 a4) := by
  unfold State.commitWrite
  extract_lets -merge x0 x1 x2
  clear_value x0
  clear_value x1
  clear_value x2
  split
  · rename_i v3 v4
    refine Eff.then ?_ (State.commitInsert_eff _ _ _ _ _ _) (by decide)
    exact Eff.refl
  · rename_i v5 v6
    refine Eff.then ?_ (State.commitInsert_eff _ _ _ _ _ _) (by decide)
    exact Eff.refl
  · rename_i v7
    split
    · rename_i v8 v9 e10
      extract_lets -merge x11 x12 x13
      clear_value x11
      clear_value x12
      have h14 : Eff 404287308 s x13 := by
        subst x13
        refine Eff.then ?_ (State.commitRow_eff _ _ _ _) (by decide)
        exact Eff.refl
      clear_value x13
      refine Eff.then ?_ (State.endOp_eff _ _ _) (by decide)
      refine Eff.then ?_ (State.journalH_eff _ _ _) (by decide)
      exact h14
    · rename_i v15 e16
      refine Eff.then ?_ (State.endOp_eff _ _ _) (by decide)
      exact Eff.refl
  · rename_i v17
    refine Eff.ite ?_ ?_
    · refine Eff.then ?_ (State.endOp_eff _ _ _) (by decide)
      refine Eff.then ?_ (State.journalH_eff _ _ _) (by decide)
      refine Eff.then ?_ (State.removeRow_eff _ _) (by decide)
      exact Eff.refl
    · refine Eff.then ?_ (State.endOp_eff _ _ _) (by decide)
      exact Eff.refl
  · rename_i v18
    refine Eff.then ?_ (State.commitStage_eff _ _ _ _) (by decide)
    exact Eff.refl
  · rename_i v19
    refine Eff.then ?_ (State.commitUnstage_eff _ _ _) (by decide)
    exact Eff.refl
  · rename_i v20
    split
    · rename_i v21 v22 e23
      extract_lets -merge x24 x25 x26
      have h27 : Eff 404287308 s x24 := by
        subst x24
        refine Eff.then ?_ (State.commitRow_eff _ _ _ _) (by decide)
        exact Eff.refl
      clear_value x24
      clear_value x25
      have h28 : Eff 404287308 s x26 := by
        subst x26
        refine Eff.then ?_ (upd_mnt _ _) (by decide)
        exact h27
      clear_value x26
      refine Eff.then ?_ (State.enqM_eff _ _ _ _ _ _) (by decide)
      exact h28
    · rename_i v29 e30
      exact Eff.refl
  · rename_i v31
    split
    · rename_i v32 v33 e34
      refine Eff.then ?_ (State.updTb_eff _ _ _) (by decide)
      refine Eff.then ?_ (State.commitRow_eff _ _ _ _) (by decide)
      exact Eff.refl
    · rename_i v35 e36
      exact Eff.refl
  · rename_i v37 v38
    refine Eff.then ?_ (State.commitRepair_eff _ _ _) (by decide)
    exact Eff.refl
  · rename_i v39 v40
    refine Eff.then ?_ (State.commitErase_eff _ _ _) (by decide)
    exact Eff.refl
  · rename_i v41
    refine Eff.then ?_ (State.commitMove_eff _ _ _ _ _) (by decide)
    exact Eff.refl
  · rename_i v42
    refine Eff.then ?_ (State.commitMove_eff _ _ _ _ _) (by decide)
    exact Eff.refl

theorem State.commitSwitch_eff (s : State) (a1) (a2) (a3) :
    Eff 404287308 s (State.commitSwitch s a1 a2 a3) := by
  unfold State.commitSwitch
  extract_lets -merge x0 x1
  clear_value x0
  clear_value x1
  split
  · rename_i v2 e3
    exact Eff.refl
  · rename_i v4 v5 e6
    extract_lets -merge x7 x8 x9 x10 x11 x12 x13 x14 x15
    clear_value x7
    have h16 : Eff 404287308 s x8 := by
      subst x8
      refine Eff.then ?_ (upd_mnt _ _) (by decide)
      exact Eff.refl
    clear_value x8
    clear_value x9
    clear_value x10
    clear_value x11
    have h17 : Eff 404287308 s x12 := by
      subst x12
      refine Eff.then ?_ (State.rowLeft_eff _ _) (by decide)
      refine Eff.then ?_ (State.commitRow_eff _ _ _ _) (by decide)
      exact h16
    clear_value x12
    have h18 : Eff 404287308 s x13 := by
      subst x13
      refine Eff.then ?_ (State.setHrow_eff _ _ _ _) (by decide)
      refine Eff.then ?_ (State.commitRow_eff _ _ _ _) (by decide)
      exact h17
    clear_value x13
    have h19 : Eff 404287308 s x14 := by
      subst x14
      refine Eff.then ?_ (State.dropCopy_eff _ _ _) (by decide)
      exact h18
    clear_value x14
    have h20 : Eff 404287308 s x15 := by
      subst x15
      refine Eff.ite ?_ ?_
      · refine Eff.ite ?_ ?_
        · refine Eff.then ?_ (State.endOp_eff _ _ _) (by decide)
          refine Eff.then ?_ (State.journalH_eff _ _ _) (by decide)
          exact h19
        · refine Eff.then ?_ (State.endOp_eff _ _ _) (by decide)
          exact h19
      · refine Eff.then ?_ (State.endOp_eff _ _ _) (by decide)
        refine Eff.then ?_ (State.rowLeft_eff _ _) (by decide)
        refine Eff.then ?_ (State.commitRow_eff _ _ _ _) (by decide)
        exact h16
    clear_value x15
    refine Eff.then ?_ (State.releaseWait_eff _ _ _) (by decide)
    exact h20

theorem State.commitLock_eff (s : State) (a1) :
    Eff 404246094 s (State.commitLock s a1) := by
  unfold State.commitLock
  extract_lets -merge x0
  clear_value x0
  split
  · rename_i v1 e2
    exact Eff.refl
  · rename_i v3 v4 e5
    extract_lets -merge x6 x7 x8 x9 x10 x11 x12
    clear_value x6
    have h13 : Eff 404246094 s x7 := by
      subst x7
      refine Eff.foldl ?_ ?_
      · exact Eff.refl
      · intro p14 p15 h16
        try beta_reduce
        extract_lets -merge x17 x18
        clear_value x17
        clear_value x18
        refine Eff.then ?_ (State.commitRow_eff _ _ _ _) (by decide)
        exact h16
    clear_value x7
    have h19 : Eff 404246094 s x8 := by
      subst x8
      refine Eff.foldl ?_ ?_
      · exact h13
      · intro p20 p21 h22
        try beta_reduce
        refine Eff.then ?_ (State.setHrow_eff _ _ _ _) (by decide)
        refine Eff.then ?_ (State.rowLeft_eff _ _) (by decide)
        refine Eff.then ?_ (State.commitRow_eff _ _ _ _) (by decide)
        exact h22
    clear_value x8
    have h23 : Eff 404246094 s x9 := by
      subst x9
      refine Eff.foldl ?_ ?_
      · exact h19
      · intro p24 p25 h26
        try beta_reduce
        refine Eff.then ?_ (State.setHrow_eff _ _ _ _) (by decide)
        exact h26
    clear_value x9
    have h27 : Eff 404246094 s x10 := by
      subst x10
      refine Eff.foldl ?_ ?_
      · exact h23
      · intro p28 p29 h30
        try beta_reduce
        refine Eff.then ?_ (State.journalH_eff _ _ _) (by decide)
        exact h30
    clear_value x10
    have h31 : Eff 404246094 s x11 := by
      subst x11
      refine Eff.then ?_ (State.updTb_eff _ _ _) (by decide)
      exact h27
    clear_value x11
    have h32 : Eff 404246094 s x12 := by
      subst x12
      refine Eff.ite ?_ ?_
      · refine Eff.then ?_ (State.forward_eff _ _ _ _ _ _) (by decide)
        exact h31
      · exact h31
    clear_value x12
    split
    · rename_i v33 v34 e35
      extract_lets -merge x36
      have h37 : Eff 404246094 s x36 := by
        subst x36
        refine Eff.then ?_ (State.loadProfile_eff _ _ _ _) (by decide)
        refine Eff.then ?_ (State.updTb_eff _ _ _) (by decide)
        exact h32
      clear_value x36
      refine Eff.then ?_ (State.endMut_eff _ _ _ _ _) (by decide)
      refine Eff.then ?_ (State.afterLock_eff _ _) (by decide)
      exact h37
    · rename_i v38 e39
      refine Eff.then ?_ (State.endOp_eff _ _ _) (by decide)
      refine Eff.then ?_ (State.afterLock_eff _ _) (by decide)
      exact h32

theorem State.commitDiscard_eff (s : State) (a1) :
    Eff 404246092 s (State.commitDiscard s a1) := by
  unfold State.commitDiscard
  extract_lets -merge x0 x1 x2 x3
  clear_value x0
  have h4 : Eff 404246092 s x1 := by
    subst x1
    refine Eff.then ?_ (State.discardLock_eff _ _) (by decide)
    exact Eff.refl
  clear_value x1
  have h5 : Eff 404246092 s x2 := by
    subst x2
    refine Eff.then ?_ (State.afterLock_eff _ _) (by decide)
    exact h4
  clear_value x2
  clear_value x3
  split
  · rename_i v6 e7
    exact Eff.refl
  · rename_i v8 v9 e10
    extract_lets -merge x11
    have h12 : Eff 404246092 s x11 := by
      subst x11
      split
      · rename_i v13 v14 e15
        refine Eff.then ?_ (State.resolve_eff _ _ _) (by decide)
        exact h5
      · rename_i v16 e17
        exact h5
    clear_value x11
    refine Eff.then ?_ (State.endOp_eff _ _ _) (by decide)
    exact h12

theorem State.commitVisit_eff (s : State) (a1) (a2) :
    Eff 404254284 s (State.commitVisit s a1 a2) := by
  unfold State.commitVisit
  extract_lets -merge x0 x1 x2 x3 x4
  clear_value x0
  have h5 : ∀ p0 p1, Eff 404254284 s p0 → Eff 404254284 s (x1 p0 p1) := by
    subst x1
    intro p6 p7 h8
    try beta_reduce
    refine Eff.then ?_ (upd_lrn _ _) (by decide)
    exact h8
  clear_value x1
  have h9 : Eff 404254284 s x2 := by
    subst x2
    refine h5 _ _ ?_
    exact Eff.refl
  clear_value x2
  clear_value x3
  have h10 : ∀ p0, Eff 404254284 s p0 → Eff 404254284 s (x4 p0) := by
    subst x4
    intro p11 h12
    try beta_reduce
    refine Eff.then ?_ (State.endOp_eff _ _ _) (by decide)
    refine Eff.then ?_ (State.journalH_eff _ _ _) (by decide)
    exact h12
  clear_value x4
  refine Eff.ite ?_ ?_
  · refine h5 _ _ ?_
    exact h9
  · split
    · rename_i v13 e14
      refine Eff.then ?_ (State.endOp_eff _ _ _) (by decide)
      exact h9
    · rename_i v15 v16 e17
      extract_lets -merge x18 x19 x20 x21
      clear_value x18
      clear_value x19
      have h22 : Eff 404254284 s x20 := by
        subst x20
        refine Eff.then ?_ (State.inc_eff _ _ _) (by decide)
        refine Eff.then ?_ (State.removeRow_eff _ _) (by decide)
        exact h9
      clear_value x20
      have h23 : Eff 404254284 s x21 := by
        subst x21
        split
        · rename_i v24 v25 v26 e27
          exact h22
        · rename_i v28 e29
          refine Eff.then ?_ (State.raise_eff _ _ _ _) (by decide)
          exact h22
      clear_value x21
      refine Eff.ite ?_ ?_
      · refine h10 _ ?_
        refine Eff.then ?_ (State.commitRow_eff _ _ _ _) (by decide)
        exact h9
      · refine Eff.ite ?_ ?_
        · refine h10 _ ?_
          refine Eff.then ?_ (State.commitRow_eff _ _ _ _) (by decide)
          exact h9
        · refine Eff.ite ?_ ?_
          · refine Eff.then ?_ (State.endOp_eff _ _ _) (by decide)
            exact h9
          · refine Eff.ite ?_ ?_
            · refine State.when_eff ?_ ?_
              · exact h9
              · intro p30 h31
                try beta_reduce
                refine Eff.then ?_ (upd_dir _ _) (by decide)
                exact h31
            · refine h10 _ ?_
              exact h23

theorem State.commitUpd_eff (s : State) (a1) (a2) (a3) :
    Eff 404287310 s (State.commitUpd s a1 a2 a3) := by
  unfold State.commitUpd
  extract_lets -merge x0
  clear_value x0
  split
  · rename_i v1
    split
    · rename_i v2 v3 v4 v5 e6 e7
      refine Eff.ite ?_ ?_
      · extract_lets -merge x8
        have h9 : Eff 404287310 s x8 := by
          subst x8
          refine Eff.then ?_ (State.noteLearned_eff _ _ _) (by decide)
          refine Eff.then ?_ (State.commitRow_eff _ _ _ _) (by decide)
          exact Eff.refl
        clear_value x8
        refine Eff.then ?_ (State.endLearn_eff _ _ _ _) (by decide)
        refine Eff.then ?_ (State.journalH_eff _ _ _) (by decide)
        exact h9
      · refine Eff.then ?_ (State.redecide_eff _ _) (by decide)
        exact Eff.refl
    · rename_i v10 v11 v12 e13 e14
      refine Eff.then ?_ (State.redecide_eff _ _) (by decide)
      exact Eff.refl
    · rename_i v15 v16 v17 e18 e19
      refine Eff.then ?_ (State.endOp_eff _ _ _) (by decide)
      refine Eff.then ?_ (State.commitRow_eff _ _ _ _) (by decide)
      exact Eff.refl
    · rename_i v20 v21 e22 e23
      split
      · rename_i v24 v25 e26
        refine Eff.then ?_ (State.dirAgain_eff _ _) (by decide)
        exact Eff.refl
      · rename_i v27 e28
        refine Eff.then ?_ (State.endOp_eff _ _ _) (by decide)
        exact Eff.refl
  · rename_i v29
    refine Eff.then ?_ (State.commitVisit_eff _ _ _) (by decide)
    exact Eff.refl
  · rename_i v30
    split
    · rename_i v31 v32 e33
      refine Eff.then ?_ (State.endOp_eff _ _ _) (by decide)
      refine Eff.then ?_ (State.journalH_eff _ _ _) (by decide)
      refine Eff.then ?_ (State.removeRow_eff _ _) (by decide)
      exact Eff.refl
    · rename_i v34 e35
      refine Eff.then ?_ (State.endOp_eff _ _ _) (by decide)
      exact Eff.refl
  · rename_i v36 v37 v38 v39
    split
    · rename_i v40 v41 e42
      extract_lets -merge x43 x44 x45
      clear_value x43
      clear_value x44
      clear_value x45
      refine Eff.then ?_ (State.endOp_eff _ _ _) (by decide)
      refine Eff.then ?_ (State.commitRow_eff _ _ _ _) (by decide)
      exact Eff.refl
    · rename_i v46 e47
      refine Eff.then ?_ (State.endOp_eff _ _ _) (by decide)
      exact Eff.refl
  · rename_i v48 v49
    refine Eff.then ?_ (State.commitSwitch_eff _ _ _ _) (by decide)
    exact Eff.refl
  · rename_i v50
    refine Eff.then ?_ (State.commitLock_eff _ _) (by decide)
    exact Eff.refl
  · rename_i v51
    refine Eff.then ?_ (State.commitDiscard_eff _ _) (by decide)
    exact Eff.refl
  · rename_i v52
    refine Eff.then ?_ (State.cutover_eff _ _) (by decide)
    exact Eff.refl
  · rename_i v53 v54 v55 v56
    exact Eff.refl

theorem State.commitRead_eff (s : State) (a1) (a2) :
    Eff 403703880 s (State.commitRead s a1 a2) := by
  unfold State.commitRead
  split
  · rename_i v0 e1
    exact Eff.refl
  · rename_i v2 e3
    exact Eff.refl
  · rename_i v4 e5
    exact Eff.refl
  · rename_i v6 v7 e8
    exact Eff.refl
  · rename_i v9 e10 e11 e12 e13
    split
    · rename_i v14 v15 v16 e17
      refine Eff.then ?_ (State.observe_eff _ _ _ _ _) (by decide)
      exact Eff.refl
    · rename_i v18 e19
      refine Eff.then ?_ (State.observe_eff _ _ _ _ _) (by decide)
      exact Eff.refl

theorem State.commitFlight_eff (s : State) (a1) :
    Eff 404287310 s (State.commitFlight s a1) := by
  unfold State.commitFlight
  extract_lets -merge x0
  have h1 : Eff 404287310 s x0 := by
    subst x0
    refine Eff.then ?_ (State.dropFlight_eff _ _) (by decide)
    exact Eff.refl
  clear_value x0
  split
  · rename_i v2 v3 v4 v5 e6
    refine Eff.then ?_ (State.commitWrite_eff _ _ _ _ _) (by decide)
    exact h1
  · rename_i v7 v8 v9 e10
    refine Eff.then ?_ (State.commitUpd_eff _ _ _ _) (by decide)
    exact h1
  · rename_i v11 v12 e13
    refine Eff.then ?_ (State.commitRead_eff _ _ _) (by decide)
    exact h1
  · rename_i v14 v15 v16 v17 e18
    exact h1
  · rename_i v19 v20 v21 v22 v23 v24 e25
    exact h1

theorem State.commitNext_eff (s : State) (a1) :
    Eff 404287310 s (State.commitNext s a1) := by
  unfold State.commitNext
  split
  · rename_i v0 v1 e2
    refine Eff.then ?_ (State.commitFlight_eff _ _) (by decide)
    exact Eff.refl
  · rename_i v3 e4
    exact Eff.refl

theorem State.rowCommit_eff (s : State) :
    Eff 404287310 s (State.rowCommit s) := by
  unfold State.rowCommit
  refine Eff.then ?_ (State.commitNext_eff _ _) (by decide)
  exact Eff.refl

theorem execRowCommit_eff (s : State) :
    EffX 404287310 s (execRowCommit s) := by
  unfold execRowCommit
  refine whileUp_eff ?_ ?_
  · exact Eff.refl
  · intro p0 h1
    try beta_reduce
    refine Eff.then ?_ (State.rowCommit_eff _) (by decide)
    exact h1

theorem execRelocationSwitch_eff (a0) (a1) (s : State) :
    EffX 404287310 s (execRelocationSwitch a0 a1 s) := by
  unfold execRelocationSwitch
  refine whileUp_eff ?_ ?_
  · exact Eff.refl
  · intro p0 h1
    try beta_reduce
    refine Eff.then ?_ (State.commitNext_eff _ _) (by decide)
    exact h1

theorem State.commitAll_eff (p) (s : State) (n : Nat) : Eff 404287310 s (State.commitAll p s n) := by
  induction n generalizing s with
  | zero => exact Eff.refl
  | succ n ih =>
    unfold State.commitAll
    split
    · exact Eff.then (Eff.then Eff.refl (State.commitFlight_eff s _) (by decide)) (ih _) (by decide)
    · exact Eff.refl

end Sys2Proof.Machine
end

