-- ==== Sys2Proof/Laws/EffRangers.lean ====
section
/-! SUPPORT. What the functions of Machine/Rangers.lean may change: bit i of a mask is component i of `Comp.idx`.
The theorems are checked one after another: each is small, and the joined text has many. -/

set_option Elab.async false

namespace Sys2Proof.Machine

theorem State.setThread_eff (s : State) (a1) (a2) :
    Eff 131072 s (State.setThread s a1 a2) := by
  unfold State.setThread
  refine Eff.then ?_ (upd_rng _ _) (by decide)
  exact Eff.refl

theorem State.updJob_eff (s : State) (a1) (a2) :
    Eff 131072 s (State.updJob s a1 a2) := by
  unfold State.updJob
  refine Eff.then ?_ (upd_rng _ _) (by decide)
  exact Eff.refl

theorem State.scanRead_eff (s : State) (a1) (a2) (a3) :
    Eff 306741318 s (State.scanRead s a1 a2 a3) := by
  unfold State.scanRead
  extract_lets -merge x0 x1 x2 x3 x4 x5
  clear_value x0
  clear_value x1
  have h6 : Eff 306741318 s x2 := by
    subst x2
    refine Eff.ite ?_ ?_
    · exact Eff.refl
    · refine Eff.then ?_ (State.readCheck_eff _ _ _ _ _) (by decide)
      exact Eff.refl
  clear_value x2
  clear_value x3
  clear_value x4
  clear_value x5
  refine Eff.ite ?_ ?_
  · exact Eff.refl
  · refine Eff.ite ?_ ?_
    · exact h6
    · refine Eff.then ?_ (State.readCheck_eff _ _ _ _ _) (by decide)
      exact h6

theorem State.scanRetarget_eff (s : State) (a1) (a2) (a3) :
    Eff 135399432 s (State.scanRetarget s a1 a2 a3) := by
  unfold State.scanRetarget
  extract_lets -merge x0 x1 x2 x3 x4
  clear_value x0
  clear_value x1
  clear_value x2
  clear_value x3
  clear_value x4
  refine Eff.ite ?_ ?_
  · refine Eff.then ?_ (State.resolve_eff _ _ _) (by decide)
    exact Eff.refl
  · split
    · rename_i v5 v6 e7
      refine Eff.then ?_ (State.resolve_eff _ _ _) (by decide)
      refine Eff.then ?_ (State.updJob_eff _ _ _) (by decide)
      exact Eff.refl
    · rename_i v8 e9
      refine Eff.then ?_ (State.resolve_eff _ _ _) (by decide)
      exact Eff.refl

theorem State.chunkTake_eff (s : State) (a1) (a2) :
    Eff 131072 s (State.chunkTake s a1 a2) := by
  unfold State.chunkTake
  refine Eff.ite ?_ ?_
  · exact Eff.refl
  · split
    · rename_i v0 e1
      exact Eff.refl
    · rename_i v2 v3 v4 e5
      split
      · rename_i v6 e7
        exact Eff.refl
      · rename_i v8 v9 v10 e11
        extract_lets -merge x12 x13 x14 x15 x16 x17 x18 x19 x20 x21 x22 x23 x24
        clear_value x12
        clear_value x13
        clear_value x14
        clear_value x15
        clear_value x16
        clear_value x17
        clear_value x18
        clear_value x19
        clear_value x20
        clear_value x21
        have h25 : Eff 131072 s x22 := by
          subst x22
          refine Eff.then ?_ (upd_rng _ _) (by decide)
          exact Eff.refl
        clear_value x22
        have h26 : Eff 131072 s x23 := by
          subst x23
          refine Eff.then ?_ (State.updJob_eff _ _ _) (by decide)
          exact h25
        clear_value x23
        clear_value x24
        refine Eff.ite ?_ ?_
        · refine Eff.then ?_ (State.setThread_eff _ _ _) (by decide)
          exact h26
        · refine Eff.then ?_ (State.setThread_eff _ _ _) (by decide)
          refine Eff.then ?_ (State.updJob_eff _ _ _) (by decide)
          exact h26

theorem execChunkTake_eff (a0) (a1) (s : State) :
    EffX 131072 s (execChunkTake a0 a1 s) := by
  unfold execChunkTake
  refine whileServing_eff ?_ ?_
  · exact Eff.refl
  · intro p0 h1
    try beta_reduce
    refine Eff.then ?_ (State.chunkTake_eff _ _ _) (by decide)
    exact h1

theorem execImageLoadDone_eff (a0) (a1) (s : State) :
    EffX 131072 s (execImageLoadDone a0 a1 s) := by
  unfold execImageLoadDone
  refine whileUp_eff ?_ ?_
  · exact Eff.refl
  · intro p0 h1
    try beta_reduce
    split
    · rename_i v2 v3 e4
      refine State.when_eff ?_ ?_
      · exact h1
      · intro p5 h6
        try beta_reduce
        refine Eff.then ?_ (State.setThread_eff _ _ _) (by decide)
        exact h6
    · rename_i v7 e8
      exact h1

theorem State.keepMatch_eff (s : State) (a1) (a2) (a3) (a4) (a5) :
    Eff 98560 s (State.keepMatch s a1 a2 a3 a4 a5).1 := by
  unfold State.keepMatch
  extract_lets -merge x0 x1 x2 x3
  clear_value x0
  clear_value x1
  clear_value x2
  clear_value x3
  split
  · rename_i v4 e5
    exact Eff.refl
  · rename_i v6 v7 e8
    split
    · rename_i v9 e10
      exact Eff.refl
    · rename_i v11 v12 e13
      split
      · rename_i v14 e15
        exact Eff.refl
      · rename_i v16 v17 e18
        extract_lets -merge x19 x20
        clear_value x19
        have h21 : Eff 98560 s x20 := by
          subst x20
          refine Eff.ite ?_ ?_
          · refine Eff.then ?_ (State.enqOp_eff _ _ _) (by decide)
            exact Eff.refl
          · refine Eff.ite ?_ ?_
            · refine Eff.then ?_ (State.trieLook_eff _ _ _ _ _) (by decide)
              exact Eff.refl
            · refine Eff.then ?_ (State.directOp_eff _ _ _ _ _) (by decide)
              exact Eff.refl
        clear_value x20
        refine EffL.ite ?_ ?_
        · exact Eff.refl
        · refine EffL.ite ?_ ?_
          · exact Eff.refl
          · exact h21

theorem State.takeAccept_eff (s : State) (a1) (a2) :
    Eff 98560 s (State.takeAccept s a1 a2).1 := by
  unfold State.takeAccept
  split
  · rename_i v0 e1
    exact Eff.refl
  · rename_i v2 v3 v4 v5 e6
    refine EffL.ite ?_ ?_
    · exact Eff.refl
    · extract_lets -merge x7 x8
      clear_value x7
      clear_value x8
      refine EffL.ite ?_ ?_
      · refine Eff.then ?_ (State.keepMatch_eff _ _ _ _ _ _) (by decide)
        exact Eff.refl
      · exact Eff.refl

theorem State.highNibble_eff (s : State) (a1) (a2) (a3) :
    Eff 306872390 s (State.highNibble s a1 a2 a3).1 := by
  unfold State.highNibble
  extract_lets -merge x0 x1 x2 x3
  clear_value x0
  clear_value x1
  have h4 : Eff 306872390 s x2 := by
    subst x2
    refine Eff.ite ?_ ?_
    · refine Eff.then ?_ (State.readCheck_eff _ _ _ _ _) (by decide)
      exact Eff.refl
    · exact Eff.refl
  clear_value x2
  clear_value x3
  refine EffL.ite ?_ ?_
  · exact Eff.refl
  · refine EffL.ite ?_ ?_
    · refine Eff.then ?_ (State.setThread_eff _ _ _) (by decide)
      refine Eff.then ?_ (State.updJob_eff _ _ _) (by decide)
      exact h4
    · refine Eff.then ?_ (State.setThread_eff _ _ _) (by decide)
      exact h4

theorem State.lowNibble_eff (s : State) (a1) (a2) (a3) (a4) :
    Eff 131136 s (State.lowNibble s a1 a2 a3 a4) := by
  unfold State.lowNibble
  extract_lets -merge x0 x1 x2 x3
  clear_value x0
  clear_value x1
  have h4 : Eff 131136 s x2 := by
    subst x2
    refine Eff.then ?_ (State.setThread_eff _ _ _) (by decide)
    exact Eff.refl
  clear_value x2
  have h5 : Eff 131136 s x3 := by
    subst x3
    refine Eff.then ?_ (State.updJob_eff _ _ _) (by decide)
    exact h4
  clear_value x3
  refine Eff.then ?_ (State.inc_eff _ _ _) (by decide)
  exact h5

theorem State.scanClock_eff (s : State) (a1) :
    Eff 306938182 s (State.scanClock s a1).1 := by
  unfold State.scanClock
  split
  · rename_i v0 e1
    exact Eff.refl
  · rename_i v2 v3 e4
    split
    · rename_i v5 e6
      exact Eff.refl
    · rename_i v7 v8 e9
      extract_lets -merge x10 x11 x12
      have h13 : Eff 306938182 s x10.1 := by
        subst x10
        refine Eff.then ?_ (State.takeAccept_eff _ _ _) (by decide)
        exact Eff.refl
      clear_value x10
      clear_value x11
      have h14 : Eff 306938182 s x12 := by
        subst x12
        refine Eff.then ?_ (State.setThread_eff _ _ _) (by decide)
        exact h13
      clear_value x12
      refine EffL.ite ?_ ?_
      · exact h14
      · refine EffL.ite ?_ ?_
        · exact h14
        · split
          · rename_i v15 e16
            refine Eff.then ?_ (State.highNibble_eff _ _ _ _) (by decide)
            exact h14
          · rename_i v17 v18 e19
            refine EffL.ite ?_ ?_
            · refine Eff.then ?_ (State.lowNibble_eff _ _ _ _ _) (by decide)
              exact h14
            · exact h14

theorem State.scanTick_eff (s : State) (a1) :
    Eff 306938182 s (State.scanTick s a1) := by
  unfold State.scanTick
  split
  · rename_i v0 e1
    exact Eff.refl
  · rename_i v2 v3 e4
    split
    · rename_i v5 e6
      exact Eff.refl
    · rename_i v7 v8 e9
      refine Eff.ite ?_ ?_
      · exact Eff.refl
      · extract_lets -merge x10
        have h11 : Eff 306938182 s x10.1 := by
          subst x10
          refine EffL.foldl ?_ ?_
          · exact Eff.refl
          · intro p12 p13 h14
            try beta_reduce
            extract_lets -merge x15
            have h16 : Eff 306938182 s x15.1 := by
              subst x15
              refine Eff.then ?_ (State.scanClock_eff _ _) (by decide)
              exact h14
            clear_value x15
            exact h16
        clear_value x10
        refine State.when_eff ?_ ?_
        · exact h11
        · intro p17 h18
          try beta_reduce
          refine Eff.then ?_ (State.inc_eff _ _ _) (by decide)
          exact h18

theorem State.scanAll_eff (s : State) :
    Eff 306938182 s (State.scanAll s) := by
  unfold State.scanAll
  refine Eff.foldl ?_ ?_
  · exact Eff.refl
  · intro p0 p1 h2
    try beta_reduce
    refine Eff.then ?_ (State.scanTick_eff _ _) (by decide)
    exact h2

theorem State.chunkEnd_eff (s : State) (a1) :
    Eff 131072 s (State.chunkEnd s a1) := by
  unfold State.chunkEnd
  split
  · rename_i v0 e1
    exact Eff.refl
  · rename_i v2 v3 e4
    split
    · rename_i v5 e6
      refine Eff.then ?_ (State.setThread_eff _ _ _) (by decide)
      exact Eff.refl
    · rename_i v7 v8 e9
      refine Eff.ite ?_ ?_
      · exact Eff.refl
      · extract_lets -merge x10 x11 x12 x13
        clear_value x10
        clear_value x11
        clear_value x12
        have h14 : Eff 131072 s x13 := by
          subst x13
          refine Eff.then ?_ (State.updJob_eff _ _ _) (by decide)
          exact Eff.refl
        clear_value x13
        refine Eff.then ?_ (State.setThread_eff _ _ _) (by decide)
        exact h14

theorem execChunkEnd_eff (a0) (a1) (s : State) :
    EffX 131072 s (execChunkEnd a0 a1 s) := by
  unfold execChunkEnd
  refine whileUp_eff ?_ ?_
  · exact Eff.refl
  · intro p0 h1
    try beta_reduce
    refine Eff.then ?_ (State.chunkEnd_eff _ _) (by decide)
    exact h1

theorem State.takeLookups_eff (s : State) (a1) :
    Eff 131080 s (State.takeLookups s a1) := by
  unfold State.takeLookups
  split
  · rename_i v0 e1
    exact Eff.refl
  · rename_i v2 v3 e4
    extract_lets -merge x5 x6 x7 x8
    clear_value x5
    clear_value x6
    have h9 : Eff 131080 s x7 := by
      subst x7
      refine Eff.then ?_ (upd_inbox _ _) (by decide)
      exact Eff.refl
    clear_value x7
    clear_value x8
    refine Eff.ite ?_ ?_
    · refine Eff.then ?_ (State.setThread_eff _ _ _) (by decide)
      refine Eff.then ?_ (State.updJob_eff _ _ _) (by decide)
      exact h9
    · refine Eff.then ?_ (State.setThread_eff _ _ _) (by decide)
      exact h9

theorem State.reportPost_eff (s : State) (a1) :
    Eff 466255948 s (State.reportPost s a1) := by
  unfold State.reportPost
  extract_lets -merge x0
  have h1 : Eff 466255948 s x0 := by
    subst x0
    refine Eff.then ?_ (State.takeLookups_eff _ _) (by decide)
    exact Eff.refl
  clear_value x0
  split
  · rename_i v2 e3
    exact h1
  · rename_i v4 v5 e6
    split
    · rename_i v7 v8 v9 v10 v11 e12 e13
      refine Eff.ite ?_ ?_
      · exact h1
      · extract_lets -merge x14 x15 x16 x17 x18 x19 x20 x21
        clear_value x14
        clear_value x15
        clear_value x16
        clear_value x17
        clear_value x18
        have h22 : Eff 466255948 s x19 := by
          subst x19
          refine Eff.then ?_ (State.busWrite_eff _ _ _ _ _) (by decide)
          exact h1
        clear_value x19
        have h23 : Eff 466255948 s x20 := by
          subst x20
          refine Eff.then ?_ (State.updJob_eff _ _ _) (by decide)
          exact h22
        clear_value x20
        have h24 : Eff 466255948 s x21 := by
          subst x21
          refine Eff.then ?_ (State.inc_eff _ _ _) (by decide)
          exact h23
        clear_value x21
        refine Eff.ite ?_ ?_
        · refine Eff.then ?_ (State.setThread_eff _ _ _) (by decide)
          exact h1
        · refine Eff.ite ?_ ?_
          · exact h1
          · refine Eff.then ?_ (State.setThread_eff _ _ _) (by decide)
            exact h24
    · rename_i v25 v26 e27
      exact h1

theorem execReportPost_eff (a0) (a1) (s : State) :
    EffX 466255948 s (execReportPost a0 a1 s) := by
  unfold execReportPost
  refine whileUp_eff ?_ ?_
  · exact Eff.refl
  · intro p0 h1
    try beta_reduce
    refine Eff.then ?_ (State.reportPost_eff _ _) (by decide)
    exact h1

theorem State.showJobs_eff (s : State) :
    Eff 64 s (State.showJobs s) := by
  unfold State.showJobs
  refine Eff.then ?_ (State.setF_eff _ _ _) (by decide)
  exact Eff.refl

theorem State.jobComplete_eff (s : State) (a1) (a2) :
    Eff 1179712 s (State.jobComplete s a1 a2) := by
  unfold State.jobComplete
  split
  · rename_i v0 e1
    exact Eff.refl
  · rename_i v2 v3 e4
    extract_lets -merge x5 x6 x7 x8 x9 x10
    clear_value x5
    clear_value x6
    clear_value x7
    clear_value x8
    have h11 : Eff 1179712 s x9 := by
      subst x9
      refine Eff.then ?_ (upd_rng _ _) (by decide)
      exact Eff.refl
    clear_value x9
    have h12 : Eff 1179712 s x10 := by
      subst x10
      refine Eff.then ?_ (State.updCx_eff _ _ _) (by decide)
      exact h11
    clear_value x10
    refine Eff.ite ?_ ?_
    · exact Eff.refl
    · refine Eff.then ?_ (State.showJobs_eff _) (by decide)
      exact h12

theorem execJobComplete_eff (a0) (a1) (s : State) :
    EffX 1179712 s (execJobComplete a0 a1 s) := by
  unfold execJobComplete
  refine whileUp_eff ?_ ?_
  · exact Eff.refl
  · intro p0 h1
    try beta_reduce
    refine Eff.then ?_ (State.jobComplete_eff _ _ _) (by decide)
    exact h1

theorem State.dropJobs_eff (s : State) (a1) :
    Eff 131072 s (State.dropJobs s a1) := by
  unfold State.dropJobs
  refine Eff.then ?_ (upd_rng _ _) (by decide)
  exact Eff.refl

theorem State.abortJob_eff (s : State) (a1) (a2) :
    Eff 1179712 s (State.abortJob s a1 a2) := by
  unfold State.abortJob
  split
  · rename_i v0 e1
    exact Eff.refl
  · rename_i v2 v3 e4
    extract_lets -merge x5 x6 x7 x8 x9
    clear_value x5
    clear_value x6
    have h10 : Eff 1179712 s x7 := by
      subst x7
      refine Eff.then ?_ (upd_rng _ _) (by decide)
      exact Eff.refl
    clear_value x7
    have h11 : Eff 1179712 s x8 := by
      subst x8
      refine Eff.foldl ?_ ?_
      · exact h10
      · intro p12 p13 h14
        try beta_reduce
        split
        · rename_i v15 v16 e17
          refine Eff.ite ?_ ?_
          · refine Eff.then ?_ (State.setThread_eff _ _ _) (by decide)
            exact h14
          · exact h14
        · rename_i v18 e19
          exact h14
    clear_value x8
    have h20 : Eff 1179712 s x9 := by
      subst x9
      refine Eff.then ?_ (State.updCx_eff _ _ _) (by decide)
      exact h11
    clear_value x9
    refine Eff.then ?_ (State.showJobs_eff _) (by decide)
    exact h20

theorem State.scan_eff {w : Nat} {r s : State} {a1} {a2} {a3} {a4} {a5} (h : Eff w r s) (h5 : ∀ y0, Eff w r y0 → Eff w r (a5 y0))
    (hw : 307920982 &&& w = 307920982 := by decide) :
    Eff w r (State.scan s a1 a2 a3 a4 a5) := by
  unfold State.scan
  split
  · rename_i v0 e1
    exact h
  · rename_i v2 v3 e4
    refine Eff.ite ?_ ?_
    · exact h
    · extract_lets -merge x5 x6
      have h7 : Eff w r x5 := by
        subst x5
        refine Eff.then ?_ (State.scanRead_eff _ _ _ _) (mask_le (by decide) hw)
        exact h
      clear_value x5
      clear_value x6
      split
      · rename_i v8 e9
        refine h5 _ ?_
        exact h7
      · rename_i v10 v11 e12
        refine Eff.then ?_ (State.updCx_eff _ _ _) (mask_le (by decide) hw)
        exact h7
      · rename_i v13 v14 e15
        extract_lets -merge x16 x17
        have h18 : Eff w r x16 := by
          subst x16
          refine Eff.then ?_ (upd_ids_rng _ _ _) (mask_le (by decide) hw)
          exact h7
        clear_value x16
        have h19 : Eff w r x17 := by
          subst x17
          refine Eff.then ?_ (State.updCx_eff _ _ _) (mask_le (by decide) hw)
          exact h18
        clear_value x17
        refine Eff.then ?_ (State.showJobs_eff _) (mask_le (by decide) hw)
        refine Eff.then ?_ (State.atEngine_eff _ _ _ _) (mask_le (by decide) hw)
        exact h19

theorem execRngEnableWrite_eff (a0) (a1) (s : State) :
    EffX 64 s (execRngEnableWrite a0 a1 s) := by
  unfold execRngEnableWrite
  refine whileUp_eff ?_ ?_
  · exact Eff.refl
  · intro p0 h1
    try beta_reduce
    refine State.when_eff ?_ ?_
    · exact h1
    · intro p2 h3
      try beta_reduce
      refine Eff.then ?_ (State.setF_eff _ _ _) (by decide)
      exact h3

theorem execReportConsWrite_eff (a0) (a1) (a2) (a3) (s : State) :
    EffX 1048576 s (execReportConsWrite a0 a1 a2 a3 s) := by
  unfold execReportConsWrite
  refine whileUp_eff ?_ ?_
  · exact Eff.refl
  · intro p0 h1
    try beta_reduce
    extract_lets -merge x2
    clear_value x2
    refine State.when_eff ?_ ?_
    · exact h1
    · intro p3 h4
      try beta_reduce
      refine Eff.then ?_ (State.updCx_eff _ _ _) (by decide)
      exact h4

end Sys2Proof.Machine
end

