-- ==== Sys2Proof/Laws/EffCtx.lean ====
section
/-! SUPPORT. What the functions of Machine/Ctx.lean may change: bit i of a mask is component i of `Comp.idx`.
The theorems are checked one after another: each is small, and the joined text has many. -/

set_option Elab.async false

namespace Sys2Proof.Machine

theorem State.unreserve_eff (s : State) (a1) :
    Eff 1024 s (State.unreserve s a1) := by
  unfold State.unreserve
  split
  · rename_i v0 v1 v2 e3
    refine Eff.then ?_ (State.updLock_eff _ _ _) (by decide)
    exact Eff.refl
  · rename_i v4 e5
    exact Eff.refl

theorem State.unqueue_eff (s : State) (a1) :
    Eff 101632 s (State.unqueue s a1) := by
  unfold State.unqueue
  extract_lets -merge x0 x1 x2 x3 x4 x5
  clear_value x0
  have h6 : Eff 101632 s x1 := by
    subst x1
    refine Eff.foldl ?_ ?_
    · exact Eff.refl
    · intro p7 p8 h9
      try beta_reduce
      refine Eff.then ?_ (State.unreserve_eff _ _) (by decide)
      exact h9
  clear_value x1
  have h10 : Eff 101632 s x2 := by
    subst x2
    refine Eff.then ?_ (State.dropOps_eff _ _) (by decide)
    exact h6
  clear_value x2
  clear_value x3
  clear_value x4
  clear_value x5
  refine Eff.then ?_ (upd_mnt_trie_dsram _ _ _ _) (by decide)
  exact h10

theorem State.discardOps_eff (s : State) (a1) :
    Eff 268537600 s (State.discardOps s a1) := by
  unfold State.discardOps
  extract_lets -merge x0 x1 x2 x3 x4 x5
  have h6 : Eff 268537600 s x0 := by
    subst x0
    refine Eff.then ?_ (State.unqueue_eff _ _) (by decide)
    exact Eff.refl
  clear_value x0
  clear_value x1
  have h7 : Eff 268537600 s x2 := by
    subst x2
    refine Eff.foldl ?_ ?_
    · exact h6
    · intro p8 p9 h10
      try beta_reduce
      refine Eff.then ?_ (State.unreserve_eff _ _) (by decide)
      exact h10
  clear_value x2
  have h11 : Eff 268537600 s x3 := by
    subst x3
    refine Eff.then ?_ (State.cutFlights_eff _ _) (by decide)
    exact h7
  clear_value x3
  clear_value x4
  have h12 : Eff 268537600 s x5 := by
    subst x5
    refine Eff.then ?_ (upd_trie _ _) (by decide)
    exact h11
  clear_value x5
  refine Eff.foldl ?_ ?_
  · exact h12
  · intro p13 p14 h15
    try beta_reduce
    refine Eff.then ?_ (State.dropReloc_eff _ _) (by decide)
    exact h15

theorem State.endUnadmitted_eff (s : State) (a1) (a2) :
    Eff 135367944 s (State.endUnadmitted s a1 a2) := by
  unfold State.endUnadmitted
  extract_lets -merge x0
  clear_value x0
  refine Eff.ite ?_ ?_
  · refine Eff.then ?_ (State.updCx_eff _ _ _) (by decide)
    exact Eff.refl
  · refine Eff.ite ?_ ?_
    · refine Eff.then ?_ (State.resolve_eff _ _ _) (by decide)
      refine Eff.then ?_ (State.unqueue_eff _ _) (by decide)
      exact Eff.refl
    · exact Eff.refl

theorem State.endWork_eff (s : State) (a1) :
    Eff 135511304 s (State.endWork s a1) := by
  unfold State.endWork
  extract_lets -merge x0 x1 x2 x3 x4
  have h5 : Eff 135511304 s x0 := by
    subst x0
    refine Eff.foldl ?_ ?_
    · exact Eff.refl
    · intro p6 p7 h8
      try beta_reduce
      refine Eff.then ?_ (State.endUnadmitted_eff _ _ _) (by decide)
      exact h8
  clear_value x0
  have h9 : Eff 135511304 s x1 := by
    subst x1
    refine Eff.foldl ?_ ?_
    · exact h5
    · intro p10 p11 h12
      try beta_reduce
      refine Eff.then ?_ (State.failLoad_eff _ _ _) (by decide)
      exact h12
  clear_value x1
  have h13 : Eff 135511304 s x2 := by
    subst x2
    refine Eff.foldl ?_ ?_
    · exact h9
    · intro p14 p15 h16
      try beta_reduce
      refine Eff.then ?_ (State.startDiscard_eff _ _ _) (by decide)
      exact h16
  clear_value x2
  have h17 : Eff 135511304 s x3 := by
    subst x3
    refine Eff.foldl ?_ ?_
    · exact h13
    · intro p18 p19 h20
      try beta_reduce
      refine Eff.then ?_ (State.forward_eff _ _ _ _ _ _) (by decide)
      exact h20
  clear_value x3
  have h21 : Eff 135511304 s x4 := by
    subst x4
    refine Eff.then ?_ (State.resetQueuesOf_eff _ _) (by decide)
    exact h17
  clear_value x4
  refine Eff.then ?_ (State.dropJobs_eff _ _) (by decide)
  exact h21

theorem State.drain_eff (s : State) (a1) (a2) :
    Eff 135511304 s (State.drain s a1 a2) := by
  unfold State.drain
  extract_lets -merge x0
  have h1 : Eff 135511304 s x0 := by
    subst x0
    refine Eff.ite ?_ ?_
    · exact Eff.refl
    · refine Eff.then ?_ (State.endWork_eff _ _) (by decide)
      exact Eff.refl
  clear_value x0
  refine Eff.then ?_ (State.updCx_eff _ _ _) (by decide)
  exact h1

theorem State.endMaintOf_eff (s : State) (a1) :
    Eff 403803912 s (State.endMaintOf s a1) := by
  unfold State.endMaintOf
  split
  · rename_i v0 v1 e2
    refine Eff.ite ?_ ?_
    · refine Eff.then ?_ (State.resolve_eff _ _ _) (by decide)
      refine Eff.then ?_ (State.discardOps_eff _ _) (by decide)
      exact Eff.refl
    · exact Eff.refl
  · rename_i v3 e4
    exact Eff.refl

theorem State.resetCtx_eff (s : State) (a1) :
    Eff 403947272 s (State.resetCtx s a1) := by
  unfold State.resetCtx
  extract_lets -merge x0
  have h1 : Eff 403947272 s x0 := by
    subst x0
    refine Eff.then ?_ (State.endMaintOf_eff _ _) (by decide)
    exact Eff.refl
  clear_value x0
  refine Eff.ite ?_ ?_
  · refine Eff.then ?_ (State.updCx_eff _ _ _) (by decide)
    exact h1
  · refine Eff.then ?_ (State.drain_eff _ _ _) (by decide)
    exact h1

theorem State.faultCtx_eff (s : State) (a1) (a2) :
    Eff 404471116 s (State.faultCtx s a1 a2) := by
  unfold State.faultCtx
  refine Eff.ite ?_ ?_
  · exact Eff.refl
  · extract_lets -merge x0 x1 x2
    have h3 : Eff 404471116 s x0 := by
      subst x0
      refine Eff.then ?_ (State.endWork_eff _ _) (by decide)
      exact Eff.refl
    clear_value x0
    have h4 : Eff 404471116 s x1 := by
      subst x1
      refine Eff.then ?_ (State.updCx_eff _ _ _) (by decide)
      exact h3
    clear_value x1
    have h5 : Eff 404471116 s x2 := by
      subst x2
      refine Eff.then ?_ (State.setF_eff _ _ _) (by decide)
      exact h4
    clear_value x2
    refine Eff.then ?_ (State.raise_eff _ _ _ _) (by decide)
    exact h5

theorem State.drainLd_eff (s : State) (a1) (a2) :
    Eff 403947272 s (State.drainLd s a1 a2) := by
  unfold State.drainLd
  extract_lets -merge x0
  clear_value x0
  refine Eff.foldl ?_ ?_
  · exact Eff.refl
  · intro p1 p2 h3
    try beta_reduce
    refine Eff.then ?_ (State.drain_eff _ _ _) (by decide)
    refine Eff.ite ?_ ?_
    · refine Eff.then ?_ (State.endMaintOf_eff _ _) (by decide)
      exact h3
    · exact h3

theorem State.ctxEnable_eff (s : State) (a1) :
    Eff 1048640 s (State.ctxEnable s a1) := by
  unfold State.ctxEnable
  extract_lets -merge x0 x1 x2 x3 x4
  clear_value x0
  clear_value x1
  clear_value x2
  clear_value x3
  have h5 : Eff 1048640 s x4 := by
    subst x4
    refine Eff.then ?_ (State.updCx_eff _ _ _) (by decide)
    exact Eff.refl
  clear_value x4
  refine Eff.ite ?_ ?_
  · exact Eff.refl
  · refine Eff.ite ?_ ?_
    · refine Eff.then ?_ (State.setF_eff _ _ _) (by decide)
      exact Eff.refl
    · refine Eff.ite ?_ ?_
      · refine Eff.then ?_ (State.setF_eff _ _ _) (by decide)
        exact Eff.refl
      · refine Eff.then ?_ (State.setF_eff _ _ _) (by decide)
        exact h5

theorem execCtxEnableWrite_eff (a0) (a1) (s : State) :
    EffX 1048640 s (execCtxEnableWrite a0 a1 s) := by
  unfold execCtxEnableWrite
  refine whileUp_eff ?_ ?_
  · exact Eff.refl
  · intro p0 h1
    try beta_reduce
    refine State.when_eff ?_ ?_
    · exact h1
    · intro p2 h3
      try beta_reduce
      refine Eff.then ?_ (State.ctxEnable_eff _ _) (by decide)
      exact h3

theorem execCtxDisableWrite_eff (a0) (a1) (s : State) :
    EffX 135511304 s (execCtxDisableWrite a0 a1 s) := by
  unfold execCtxDisableWrite
  refine whileUp_eff ?_ ?_
  · exact Eff.refl
  · intro p0 h1
    try beta_reduce
    refine State.when_eff ?_ ?_
    · exact h1
    · intro p2 h3
      try beta_reduce
      refine Eff.then ?_ (State.drain_eff _ _ _) (by decide)
      exact h3

theorem execCtxResetWrite_eff (a0) (a1) (s : State) :
    EffX 403947272 s (execCtxResetWrite a0 a1 s) := by
  unfold execCtxResetWrite
  refine whileUp_eff ?_ ?_
  · exact Eff.refl
  · intro p0 h1
    try beta_reduce
    refine State.when_eff ?_ ?_
    · exact h1
    · intro p2 h3
      try beta_reduce
      refine Eff.then ?_ (State.resetCtx_eff _ _) (by decide)
      exact h3

theorem execContextDrained_eff (a0) (s : State) :
    EffX 1048576 s (execContextDrained a0 s) := by
  unfold execContextDrained
  refine whileUp_eff ?_ ?_
  · exact Eff.refl
  · intro p0 h1
    try beta_reduce
    refine State.when_eff ?_ ?_
    · exact h1
    · intro p2 h3
      try beta_reduce
      refine Eff.then ?_ (State.updCx_eff _ _ _) (by decide)
      exact h3

theorem execSqProdWrite_eff (a0) (a1) (a2) (s : State) :
    EffX 404471116 s (execSqProdWrite a0 a1 a2 s) := by
  unfold execSqProdWrite
  refine whileUp_eff ?_ ?_
  · exact Eff.refl
  · intro p0 h1
    try beta_reduce
    refine State.when_eff ?_ ?_
    · exact h1
    · intro p2 h3
      try beta_reduce
      extract_lets -merge x4
      clear_value x4
      refine Eff.ite ?_ ?_
      · refine Eff.then ?_ (State.faultCtx_eff _ _ _) (by decide)
        exact h3
      · refine Eff.then ?_ (State.updCx_eff _ _ _) (by decide)
        exact h3

theorem execCqConsWrite_eff (a0) (a1) (a2) (s : State) :
    EffX 404471116 s (execCqConsWrite a0 a1 a2 s) := by
  unfold execCqConsWrite
  refine whileUp_eff ?_ ?_
  · exact Eff.refl
  · intro p0 h1
    try beta_reduce
    refine State.when_eff ?_ ?_
    · exact h1
    · intro p2 h3
      try beta_reduce
      extract_lets -merge x4 x5
      clear_value x4
      clear_value x5
      refine Eff.ite ?_ ?_
      · refine Eff.then ?_ (State.faultCtx_eff _ _ _) (by decide)
        exact h3
      · refine Eff.then ?_ (State.updCx_eff _ _ _) (by decide)
        exact h3

theorem State.relock_eff (s : State) (a1) :
    Eff 1792 s (State.relock s a1) := by
  unfold State.relock
  extract_lets -merge x0 x1 x2
  clear_value x0
  have h3 : Eff 1792 s x1 := by
    subst x1
    refine Eff.then ?_ (State.dropOps_eff _ _) (by decide)
    exact Eff.refl
  clear_value x1
  have h4 : Eff 1792 s x2 := by
    subst x2
    refine Eff.then ?_ (State.cutFlights_eff _ _) (by decide)
    exact h3
  clear_value x2
  refine Eff.then ?_ (State.updLock_eff _ _ _) (by decide)
  exact h4

theorem State.stopReq_eff (s : State) (a1) (a2) :
    EffO 403947336 s (State.stopReq s a1 a2) := by
  unfold State.stopReq
  extract_lets -merge x0 x1 x2 x3
  clear_value x0
  have h4 : ∀ p0, Eff 403947336 s p0 → Eff 403947336 s (x1 p0) := by
    subst x1
    intro p5 h6
    try beta_reduce
    refine Eff.then ?_ (State.resolve_eff _ _ _) (by decide)
    exact h6
  clear_value x1
  have h7 : Eff 403947336 s x2 := by
    subst x2
    refine Eff.then ?_ (State.dropOps_eff _ _) (by decide)
    refine Eff.then ?_ (State.discardOps_eff _ _) (by decide)
    exact Eff.refl
  clear_value x2
  have h8 : Eff 403947336 s x3 := by
    subst x3
    refine Eff.then ?_ (State.cutFlights_eff _ _) (by decide)
    exact h7
  clear_value x3
  refine EffO.ite ?_ ?_
  · split
    · rename_i v9 v10 e11
      refine EffO.ite ?_ ?_
      · exact EffO.none
      · refine EffO.some ?_
        refine Eff.then ?_ (State.resetQueue_eff _ _) (by decide)
        exact Eff.refl
    · rename_i v12 e13
      refine EffO.ite ?_ ?_
      · refine EffO.some ?_
        refine h4 _ ?_
        exact Eff.refl
      · exact EffO.none
  · refine EffO.ite ?_ ?_
    · exact EffO.none
    · refine EffO.ite ?_ ?_
      · refine EffO.some ?_
        refine h4 _ ?_
        exact Eff.refl
      · split
        · rename_i v14 e15
          refine EffO.ite ?_ ?_
          · exact EffO.none
          · refine EffO.some ?_
            refine h4 _ ?_
            refine Eff.then ?_ (State.unqueue_eff _ _) (by decide)
            exact Eff.refl
        · rename_i v16 e17
          refine EffO.ite ?_ ?_
          · exact EffO.none
          · refine EffO.some ?_
            refine h4 _ ?_
            refine Eff.then ?_ (State.unqueue_eff _ _) (by decide)
            exact Eff.refl
        · rename_i v18 e19
          refine EffO.ite ?_ ?_
          · exact EffO.none
          · refine EffO.some ?_
            refine h4 _ ?_
            refine Eff.then ?_ (State.unqueue_eff _ _) (by decide)
            exact Eff.refl
        · rename_i v20 e21
          exact EffO.none
        · rename_i v22 e23
          exact EffO.none
        · rename_i v24 e25
          exact EffO.none
        · rename_i v26 e27
          refine EffO.ite ?_ ?_
          · exact EffO.none
          · refine EffO.some ?_
            refine h4 _ ?_
            refine Eff.then ?_ (State.relock_eff _ _) (by decide)
            exact Eff.refl
        · rename_i v28 e29
          refine EffO.ite ?_ ?_
          · exact EffO.none
          · refine EffO.some ?_
            refine h4 _ ?_
            refine Eff.then ?_ (State.relock_eff _ _) (by decide)
            exact Eff.refl
        · rename_i v30 e31
          refine EffO.ite ?_ ?_
          · exact EffO.none
          · refine EffO.some ?_
            refine Eff.then ?_ (State.failLoad_eff _ _ _) (by decide)
            exact h8
        · rename_i v32 e33
          refine EffO.some ?_
          refine Eff.then ?_ (State.abortJob_eff _ _ _) (by decide)
          exact Eff.refl
        · rename_i v34 e35 e36 e37 e38 e39 e40 e41 e42 e43 e44
          refine EffO.ite ?_ ?_
          · exact EffO.none
          · refine EffO.some ?_
            refine h4 _ ?_
            refine Eff.then ?_ (State.discardOps_eff _ _) (by decide)
            exact Eff.refl

theorem State.abort_eff (s : State) (a1) (a2) :
    Eff 403947336 s (State.abort s a1 a2) := by
  unfold State.abort
  extract_lets -merge x0 x1 x2
  clear_value x0
  have h3 : ∀ p0 p1, Eff 403947336 s p0 → Eff 403947336 s (x1 p0 p1) := by
    subst x1
    intro p4 p5 h6
    try beta_reduce
    refine Eff.then ?_ (State.resolve_eff _ _ _) (by decide)
    exact h6
  clear_value x1
  clear_value x2
  split
  · rename_i v7 e8
    refine h3 _ _ ?_
    exact Eff.refl
  · rename_i v9 v10 e11
    refine Eff.ite ?_ ?_
    · refine h3 _ _ ?_
      exact Eff.refl
    · split
      · rename_i v12 e13
        refine h3 _ _ ?_
        exact Eff.refl
      · rename_i v14 v15 e16
        split
        · rename_i v17 v18 e19
          have h20 : Eff 403947336 s v18 := by
            refine EffO.at e19 ?_
            refine EffO.then ?_ (State.stopReq_eff _ _ _) (by decide)
            exact Eff.refl
          refine h3 _ _ ?_
          exact h20
        · rename_i v21 e22
          refine h3 _ _ ?_
          exact Eff.refl

theorem execAbort_eff (a0) (a1) (s : State) :
    EffX 403947336 s (execAbort a0 a1 s) := by
  unfold execAbort
  refine whileUp_eff ?_ ?_
  · exact Eff.refl
  · intro p0 h1
    try beta_reduce
    split
    · rename_i v2 v3 e4
      refine Eff.then ?_ (State.abort_eff _ _ _) (by decide)
      exact h1
    · rename_i v5 e6
      exact h1

theorem execResetQueue_eff (a0) (a1) (s : State) :
    EffX 135272712 s (execResetQueue a0 a1 s) := by
  unfold execResetQueue
  refine whileUp_eff ?_ ?_
  · exact Eff.refl
  · intro p0 h1
    try beta_reduce
    split
    · rename_i v2 v3 e4
      extract_lets -merge x5
      clear_value x5
      split
      · rename_i v6 v7 e8
        refine Eff.then ?_ (State.resolve_eff _ _ _) (by decide)
        refine Eff.then ?_ (State.resetQueue_eff _ _) (by decide)
        exact h1
      · rename_i v9 e10
        refine Eff.then ?_ (State.resolve_eff _ _ _) (by decide)
        exact h1
    · rename_i v11 e12
      exact h1

end Sys2Proof.Machine
end

