-- ==== Sys2Proof/Laws/EffSlots.lean ====
section
/-! SUPPORT. What the functions of Machine/Slots.lean may change: bit i of a mask is component i of `Comp.idx`.
The theorems are checked one after another: each is small, and the joined text has many. -/

set_option Elab.async false

namespace Sys2Proof.Machine

theorem State.fetchSlot_eff {w : Nat} {r s : State} {a1} {a2} {a3} (h : Eff w r s) (h3 : ∀ y0, Eff w r y0 → Eff w r (a3 y0))
    (hw : 442219854 &&& w = 442219854 := by decide) :
    Eff w r (State.fetchSlot s a1 a2 a3) := by
  unfold State.fetchSlot
  extract_lets -merge x0 x1 x2 x3
  clear_value x0
  clear_value x1
  have h4 : Eff w r x2 := by
    subst x2
    refine Eff.ite ?_ ?_
    · exact h
    · refine Eff.then ?_ (State.readCheck_eff _ _ _ _ _) (mask_le (by decide) hw)
      exact h
  clear_value x2
  clear_value x3
  refine Eff.ite ?_ ?_
  · refine Eff.then ?_ (State.faultCtx_eff _ _ _) (mask_le (by decide) hw)
    exact h
  · refine Eff.ite ?_ ?_
    · exact h
    · split
      · rename_i v5
        refine Eff.then ?_ (State.faultCtx_eff _ _ _) (mask_le (by decide) hw)
        exact h4
      · rename_i v6 v7
        refine Eff.ite ?_ ?_
        · refine Eff.then ?_ (State.updCx_eff _ _ _) (mask_le (by decide) hw)
          exact h4
        · refine h3 _ ?_
          exact h4

theorem State.fetch_eff (s : State) (a1) (a2) :
    Eff 442219854 s (State.fetch s a1 a2) := by
  unfold State.fetch
  extract_lets -merge x0
  clear_value x0
  refine Eff.ite ?_ ?_
  · exact Eff.refl
  · refine State.fetchSlot_eff ?_ ?_
    · exact Eff.refl
    · intro p1 h2
      try beta_reduce
      refine Eff.then ?_ (State.updCx_eff _ _ _) (by decide)
      exact h2

theorem State.refetch_eff (s : State) (a1) (a2) :
    Eff 442219854 s (State.refetch s a1 a2) := by
  unfold State.refetch
  extract_lets -merge x0
  clear_value x0
  split
  · rename_i v1 v2 e3
    refine Eff.ite ?_ ?_
    · exact Eff.refl
    · refine State.fetchSlot_eff ?_ ?_
      · refine Eff.then ?_ (State.inc_eff _ _ _) (by decide)
        exact Eff.refl
      · intro p4 h5
        try beta_reduce
        refine Eff.then ?_ (State.updCx_eff _ _ _) (by decide)
        exact h5
  · rename_i v6 e7
    exact Eff.refl

theorem State.lastFetch_eff (s : State) (a1) (a2) :
    Eff 442219854 s (State.lastFetch s a1 a2) := by
  unfold State.lastFetch
  extract_lets -merge x0
  clear_value x0
  split
  · rename_i v1 v2 e3
    refine Eff.ite ?_ ?_
    · exact Eff.refl
    · refine State.fetchSlot_eff ?_ ?_
      · refine Eff.then ?_ (State.inc_eff _ _ _) (by decide)
        exact Eff.refl
      · intro p4 h5
        try beta_reduce
        refine Eff.then ?_ (State.faultCtx_eff _ _ _) (by decide)
        exact h5
  · rename_i v6 e7
    exact Eff.refl

theorem execDescriptorFetch_eff (a0) (a1) (s : State) :
    EffX 442219854 s (execDescriptorFetch a0 a1 s) := by
  unfold execDescriptorFetch
  refine whileUp_eff ?_ ?_
  · exact Eff.refl
  · intro p0 h1
    try beta_reduce
    refine Eff.then ?_ (State.fetch_eff _ _ _) (by decide)
    exact h1

theorem execStampRefetch_eff (a0) (a1) (s : State) :
    EffX 442219854 s (execStampRefetch a0 a1 s) := by
  unfold execStampRefetch
  refine whileUp_eff ?_ ?_
  · exact Eff.refl
  · intro p0 h1
    try beta_reduce
    refine Eff.then ?_ (State.refetch_eff _ _ _) (by decide)
    exact h1

theorem execStampTimeout_eff (a0) (a1) (s : State) :
    EffX 442219854 s (execStampTimeout a0 a1 s) := by
  unfold execStampTimeout
  refine whileUp_eff ?_ ?_
  · exact Eff.refl
  · intro p0 h1
    try beta_reduce
    refine Eff.then ?_ (State.lastFetch_eff _ _ _) (by decide)
    exact h1

theorem State.takePair_eff (s : State) (a1) (a2) (a3) :
    Eff 1052672 s (State.takePair s a1 a2 a3) := by
  unfold State.takePair
  extract_lets -merge x0
  have h1 : Eff 1052672 s x0 := by
    subst x0
    refine Eff.then ?_ (State.setQp_eff _ _ _) (by decide)
    exact Eff.refl
  clear_value x0
  refine Eff.then ?_ (State.updCx_eff _ _ _) (by decide)
  exact h1

theorem State.claimPair_eff (s : State) (a1) (a2) :
    Eff 135272456 s (State.claimPair s a1 a2) := by
  unfold State.claimPair
  extract_lets -merge x0
  clear_value x0
  refine Eff.ite ?_ ?_
  · refine Eff.then ?_ (State.resolve_eff _ _ _) (by decide)
    exact Eff.refl
  · split
    · rename_i v1 e2
      refine Eff.then ?_ (State.resolve_eff _ _ _) (by decide)
      exact Eff.refl
    · rename_i v3 v4 e5
      refine Eff.then ?_ (State.takePair_eff _ _ _ _) (by decide)
      exact Eff.refl

theorem State.settleClaims_eff (s : State) :
    Eff 135272456 s (State.settleClaims s) := by
  unfold State.settleClaims
  extract_lets -merge x0 x1 x2 x3
  clear_value x0
  clear_value x1
  have h4 : Eff 135272456 s x2 := by
    subst x2
    refine Eff.foldl ?_ ?_
    · exact Eff.refl
    · intro p5 p6 h7
      try beta_reduce
      refine Eff.then ?_ (State.setQp_eff _ _ _) (by decide)
      refine Eff.then ?_ (State.updCx_eff _ _ _) (by decide)
      exact h7
  clear_value x2
  have h8 : Eff 135272456 s x3 := by
    subst x3
    refine Eff.foldl ?_ ?_
    · exact h4
    · intro p9 p10 h11
      try beta_reduce
      refine Eff.then ?_ (State.updCx_eff _ _ _) (by decide)
      exact h11
  clear_value x3
  refine Eff.ite ?_ ?_
  · exact Eff.refl
  · refine EffL.foldl ?_ ?_
    · exact h8
    · intro p12 p13 h14
      try beta_reduce
      extract_lets -merge x15 x16
      have h17 : Eff 135272456 s x15 := by
        subst x15
        exact h14
      clear_value x15
      clear_value x16
      refine EffL.ite ?_ ?_
      · refine Eff.then ?_ (State.resolve_eff _ _ _) (by decide)
        exact h17
      · split
        · rename_i v18 e19
          refine Eff.then ?_ (State.resolve_eff _ _ _) (by decide)
          exact h17
        · rename_i v20 v21 v22 e23
          refine Eff.then ?_ (State.takePair_eff _ _ _ _) (by decide)
          exact h17

theorem State.accept_eff (s : State) (a1) :
    Eff 135272520 s (State.accept s a1) := by
  unfold State.accept
  extract_lets -merge x0
  clear_value x0
  refine Eff.ite ?_ ?_
  · exact Eff.refl
  · split
    · rename_i v1 e2
      exact Eff.refl
    · rename_i v3 v4 v5 e6
      extract_lets -merge x7 x8 x9 x10
      clear_value x7
      clear_value x8
      have h11 : Eff 135272520 s x9 := by
        subst x9
        refine Eff.then ?_ (State.updCx_eff _ _ _) (by decide)
        exact Eff.refl
      clear_value x9
      have h12 : Eff 135272520 s x10 := by
        subst x10
        refine Eff.then ?_ (State.inc_eff _ _ _) (by decide)
        exact h11
      clear_value x10
      refine Eff.ite ?_ ?_
      · exact Eff.refl
      · refine Eff.ite ?_ ?_
        · refine Eff.then ?_ (State.claimPair_eff _ _ _) (by decide)
          exact h12
        · exact h12

theorem execDescriptorAccept_eff (a0) (s : State) :
    EffX 135272520 s (execDescriptorAccept a0 s) := by
  unfold execDescriptorAccept
  refine whileUp_eff ?_ ?_
  · exact Eff.refl
  · intro p0 h1
    try beta_reduce
    refine Eff.then ?_ (State.accept_eff _ _) (by decide)
    exact h1

theorem execNop_eff (a0) (s : State) :
    EffX 135272520 s (execNop a0 s) := by
  unfold execNop
  refine whileServing_eff ?_ ?_
  · exact Eff.refl
  · intro p0 h1
    try beta_reduce
    refine State.when_eff ?_ ?_
    · exact h1
    · intro p2 h3
      try beta_reduce
      refine Eff.then ?_ (State.accept_eff _ _) (by decide)
      exact h3

theorem State.dispatch_eff (s : State) (a1) :
    Eff 135371016 s (State.dispatch s a1) := by
  unfold State.dispatch
  split
  · rename_i v0 e1
    exact Eff.refl
  · rename_i v2 v3 e4
    split
    · rename_i v5 v6 e7
      split
      · rename_i v8 v9 e10
        refine Eff.then ?_ (State.updCx_eff _ _ _) (by decide)
        exact Eff.refl
      · rename_i v11 e12
        extract_lets -merge x13
        have h14 : Eff 135371016 s x13 := by
          subst x13
          refine Eff.then ?_ (State.updCx_eff _ _ _) (by decide)
          exact Eff.refl
        clear_value x13
        split
        · rename_i v15 e16
          refine Eff.then ?_ (State.resolve_eff _ _ _) (by decide)
          exact h14
        · rename_i v17 e18
          exact Eff.refl
        · rename_i v19 e20
          refine Eff.then ?_ (State.doSearch_eff _ _ _ _ _ _ _) (by decide)
          exact h14
    · rename_i v21 e22
      split
      · rename_i v23 v24 e25
        extract_lets -merge x26
        have h27 : Eff 135371016 s x26 := by
          subst x26
          refine Eff.then ?_ (State.resolve_eff _ _ _) (by decide)
          exact Eff.refl
        clear_value x26
        split
        · rename_i v28 v29 e30
          refine Eff.ite ?_ ?_
          · refine Eff.then ?_ (State.updCx_eff _ _ _) (by decide)
            refine Eff.then ?_ (State.setQp_eff _ _ _) (by decide)
            exact h27
          · exact h27
        · rename_i v31 e32
          exact h27
      · rename_i v33 e34
        refine Eff.then ?_ (State.updCx_eff _ _ _) (by decide)
        exact Eff.refl

theorem execDescriptorDispatch_eff (a0) (s : State) :
    EffX 135371016 s (execDescriptorDispatch a0 s) := by
  unfold execDescriptorDispatch
  refine whileServing_eff ?_ ?_
  · exact Eff.refl
  · intro p0 h1
    try beta_reduce
    refine State.when_eff ?_ ?_
    · exact h1
    · intro p2 h3
      try beta_reduce
      refine Eff.then ?_ (State.dispatch_eff _ _) (by decide)
      exact h3

theorem execDescUndefinedOpcode_eff (a0) (a1) (s : State) :
    EffX 135268360 s (execDescUndefinedOpcode a0 a1 s) := by
  unfold execDescUndefinedOpcode
  refine whileServing_eff ?_ ?_
  · exact Eff.refl
  · intro p0 h1
    try beta_reduce
    split
    · rename_i v2 v3 e4
      refine State.when_eff ?_ ?_
      · exact h1
      · intro p5 h6
        try beta_reduce
        refine Eff.then ?_ (State.resolve_eff _ _ _) (by decide)
        exact h6
    · rename_i v7 e8
      exact h1

theorem State.freeBytes_eff (s : State) (n : Nat) : Eff 2 s (State.freeBytes s n).2 := by
  induction n generalizing s with
  | zero => exact Eff.refl
  | succ n ih => exact Eff.then (State.free_eff s) (ih s.free.2) (by decide)

theorem State.readRecord_eff (s : State) (a1) (a2) :
    Eff 2 s (State.readRecord s a1 a2).2 := by
  unfold State.readRecord
  split
  · rename_i v0 v1 e2
    refine EffR.ite ?_ ?_
    · exact Eff.refl
    · refine EffR.ite ?_ ?_
      · exact Eff.refl
      · exact Eff.refl
  · rename_i v3 e4
    refine Eff.then ?_ (State.freeBytes_eff _ _) (by decide)
    exact Eff.refl

theorem State.writeCompletion_eff (s : State) (a1) (a2) (a3) :
    Eff 467385678 s (State.writeCompletion s a1 a2 a3) := by
  unfold State.writeCompletion
  split
  · rename_i v0 e1
    exact Eff.refl
  · rename_i v2 v3 e4
    extract_lets -merge x5 x6 x7 x8 x9
    clear_value x5
    clear_value x6
    have h10 : Eff 467385678 s x7 := by
      subst x7
      refine Eff.ite ?_ ?_
      · split
        · rename_i v11 v12 v13 e14
          have h15 : Eff 467385678 s v13 := by
            refine EffR.at e14 ?_
            refine Eff.then ?_ (State.readRecord_eff _ _ _) (by decide)
            exact Eff.refl
          refine Eff.then ?_ (State.busWrite_eff _ _ _ _ _) (by decide)
          exact h15
      · exact Eff.refl
    clear_value x7
    clear_value x8
    have h16 : Eff 467385678 s x9 := by
      subst x9
      refine Eff.then ?_ (State.cqWrite_eff _ _ _ _) (by decide)
      exact h10
    clear_value x9
    refine Eff.ite ?_ ?_
    · refine Eff.then ?_ (State.faultCtx_eff _ _ _) (by decide)
      exact Eff.refl
    · refine Eff.ite ?_ ?_
      · refine Eff.then ?_ (State.faultCtx_eff _ _ _) (by decide)
        exact Eff.refl
      · refine Eff.then ?_ (State.updCx_eff _ _ _) (by decide)
        exact h16

theorem State.ringEnd_eff (s : State) (a1) (a2) :
    Eff 467385678 s (State.ringEnd s a1 a2) := by
  unfold State.ringEnd
  split
  · rename_i v0 v1 e2
    refine Eff.ite ?_ ?_
    · exact Eff.refl
    · refine Eff.ite ?_ ?_
      · refine Eff.then ?_ (State.faultCtx_eff _ _ _) (by decide)
        exact Eff.refl
      · refine Eff.ite ?_ ?_
        · refine Eff.then ?_ (State.faultCtx_eff _ _ _) (by decide)
          exact Eff.refl
        · extract_lets -merge x3
          have h4 : Eff 467385678 s x3 := by
            subst x3
            refine Eff.then ?_ (State.endConsumed_eff _ _) (by decide)
            exact Eff.refl
          clear_value x3
          split
          · rename_i v5 v6 e7
            refine Eff.then ?_ (State.writeCompletion_eff _ _ _ _) (by decide)
            exact h4
          · rename_i v8 e9
            exact h4
  · rename_i v10 e11
    exact Eff.refl

theorem State.settleWindow_eff (s : State) (c) (n : Nat) : Eff 1048576 s (State.settleWindow s c n) := by
  induction n generalizing s with
  | zero => exact Eff.refl
  | succ n ih =>
    unfold State.settleWindow
    split
    · split
      · refine Eff.ite ?_ Eff.refl
        exact Eff.then (Eff.then Eff.refl (State.updCx_eff s _ _) (by decide)) (ih _) (by decide)
      · exact Eff.refl
    · exact Eff.refl

theorem State.settleWindows_eff (s : State) :
    Eff 1048576 s (State.settleWindows s) := by
  unfold State.settleWindows
  refine Eff.foldl ?_ ?_
  · exact Eff.refl
  · intro p0 p1 h2
    try beta_reduce
    refine Eff.then ?_ (State.settleWindow_eff _ _ _) (by decide)
    exact h2

theorem State.complWrite_eff (s : State) (a1) (a2) :
    Eff 467385678 s (State.complWrite s a1 a2) := by
  unfold State.complWrite
  refine Eff.ite ?_ ?_
  · exact Eff.refl
  · refine Eff.ite ?_ ?_
    · exact Eff.refl
    · split
      · rename_i v0 v1 e2
        refine Eff.then ?_ (State.writeCompletion_eff _ _ _ _) (by decide)
        exact Eff.refl
      · rename_i v3 e4
        refine Eff.then ?_ (State.ringEnd_eff _ _ _) (by decide)
        exact Eff.refl

theorem State.endWrites_eff (s : State) (c) (n : Nat) : Eff 467385678 s (State.endWrites s c n) := by
  induction n generalizing s with
  | zero => exact Eff.refl
  | succ n ih =>
    unfold State.endWrites
    extract_lets x
    refine Eff.ite ?_ Eff.refl
    split
    · exact Eff.then (Eff.then Eff.refl (State.writeCompletion_eff s _ _ _) (by decide)) (ih _) (by decide)
    · exact Eff.refl

theorem State.endsClose_eff (s : State) :
    Eff 467385678 s (State.endsClose s) := by
  unfold State.endsClose
  refine Eff.foldl ?_ ?_
  · exact Eff.refl
  · intro p0 p1 h2
    try beta_reduce
    refine Eff.then ?_ (State.endWrites_eff _ _ _) (by decide)
    exact h2

theorem execCompletionWrite_eff (a0) (a1) (s : State) :
    EffX 467385678 s (execCompletionWrite a0 a1 s) := by
  unfold execCompletionWrite
  refine whileUp_eff ?_ ?_
  · exact Eff.refl
  · intro p0 h1
    try beta_reduce
    refine Eff.then ?_ (State.complWrite_eff _ _ _) (by decide)
    refine Eff.then ?_ (State.settleWindows_eff _) (by decide)
    exact h1

theorem State.windowWrite_eff (s : State) (a1) (a2) (a3) (a4) (a5) :
    Eff 1048656 s (State.windowWrite s a1 a2 a3 a4 a5) := by
  unfold State.windowWrite
  extract_lets -merge x0 x1 x2 x3 x4 x5
  clear_value x0
  clear_value x1
  clear_value x2
  clear_value x3
  have h6 : Eff 1048656 s x4 := by
    subst x4
    refine Eff.then ?_ (upd_ids _ _) (by decide)
    exact Eff.refl
  clear_value x4
  have h7 : Eff 1048656 s x5 := by
    subst x5
    refine Eff.then ?_ (State.updCx_eff _ _ _) (by decide)
    exact h6
  clear_value x5
  refine Eff.ite ?_ ?_
  · exact Eff.refl
  · refine Eff.ite ?_ ?_
    · refine Eff.then ?_ (State.updCx_eff _ _ _) (by decide)
      exact Eff.refl
    · refine Eff.then ?_ (State.inc_eff _ _ _) (by decide)
      exact h7

theorem execWindowWrite_eff (a0) (a1) (a2) (a3) (a4) (s : State) :
    EffX 1048656 s (execWindowWrite a0 a1 a2 a3 a4 s) := by
  unfold execWindowWrite
  refine whileServing_eff ?_ ?_
  · exact Eff.refl
  · intro p0 h1
    try beta_reduce
    refine Eff.then ?_ (State.windowWrite_eff _ _ _ _ _ _) (by decide)
    exact h1

theorem State.windowRead_eff (s : State) (a1) (a2) (a3) :
    Eff 272109636 s (State.windowRead s a1 a2 a3) := by
  unfold State.windowRead
  extract_lets -merge x0
  clear_value x0
  refine Eff.ite ?_ ?_
  · refine Eff.then ?_ (State.nextRead_eff _ _ _) (by decide)
    exact Eff.refl
  · refine Eff.ite ?_ ?_
    · refine Eff.then ?_ (State.send_eff _ _) (by decide)
      exact Eff.refl
    · refine Eff.ite ?_ ?_
      · refine Eff.then ?_ (upd_heldReads _ _) (by decide)
        exact Eff.refl
      · refine Eff.then ?_ (State.send_eff _ _) (by decide)
        exact Eff.refl

theorem execWindowRead_eff (a0) (a1) (a2) (s : State) :
    EffX 272109636 s (execWindowRead a0 a1 a2 s) := by
  unfold execWindowRead
  refine whileUp_eff ?_ ?_
  · exact Eff.refl
  · intro p0 h1
    try beta_reduce
    refine Eff.then ?_ (State.windowRead_eff _ _ _ _) (by decide)
    refine Eff.then ?_ (State.settleWindows_eff _) (by decide)
    exact h1

theorem State.holdExpiry_eff (s : State) (a1) (a2) (a3) :
    Eff 2097156 s (State.holdExpiry s a1 a2 a3) := by
  unfold State.holdExpiry
  split
  · rename_i v0 e1
    exact Eff.refl
  · rename_i v2 v3 e4
    refine Eff.ite ?_ ?_
    · exact Eff.refl
    · refine Eff.then ?_ (State.send_eff _ _) (by decide)
      refine Eff.then ?_ (upd_heldReads _ _) (by decide)
      exact Eff.refl

theorem execWindowReadHoldExpiry_eff (a0) (a1) (a2) (s : State) :
    EffX 3145732 s (execWindowReadHoldExpiry a0 a1 a2 s) := by
  unfold execWindowReadHoldExpiry
  refine whileUp_eff ?_ ?_
  · exact Eff.refl
  · intro p0 h1
    try beta_reduce
    refine Eff.then ?_ (State.holdExpiry_eff _ _ _ _) (by decide)
    refine Eff.then ?_ (State.settleWindows_eff _) (by decide)
    exact h1

end Sys2Proof.Machine
end

