-- ==== Sys2Proof/Laws/EffCmds.lean ====
section
/-! SUPPORT. What the functions of Machine/Cmds.lean may change: bit i of a mask is component i of `Comp.idx`.
The theorems are checked one after another: each is small, and the joined text has many. -/

set_option Elab.async false

namespace Sys2Proof.Machine

theorem execSearch_eff (a0) (a1) (s : State) :
    EffX 135371016 s (execSearch a0 a1 s) := by
  unfold execSearch
  refine whileServing_eff ?_ ?_
  · exact Eff.refl
  · intro p0 h1
    try beta_reduce
    refine State.runDesc_eff ?_ ?_
    · exact h1
    · intro p2 p3 h4
      try beta_reduce
      refine EffO.some ?_
      refine Eff.then ?_ (State.doSearch_eff _ _ _ _ _ _ _) (by decide)
      exact h4

theorem State.firstPass_eff (s : State) (a1) (a2) :
    Eff 256 s (State.firstPass s a1 a2) := by
  unfold State.firstPass
  split
  · rename_i v0 e1
    exact Eff.refl
  · rename_i v2 v3 e4
    refine Eff.then ?_ (State.enqOp_eff _ _ _) (by decide)
    exact Eff.refl

theorem execEnumerate_eff (a0) (a1) (s : State) :
    EffX 135272712 s (execEnumerate a0 a1 s) := by
  unfold execEnumerate
  refine whileServing_eff ?_ ?_
  · exact Eff.refl
  · intro p0 h1
    try beta_reduce
    refine State.runDesc_eff ?_ ?_
    · exact h1
    · intro p2 p3 h4
      try beta_reduce
      refine EffO.some ?_
      refine Eff.then ?_ (State.firstPass_eff _ _ _) (by decide)
      exact h4

theorem execInsert_eff (a0) (a1) (s : State) :
    EffX 135371784 s (execInsert a0 a1 s) := by
  unfold execInsert
  refine whileServing_eff ?_ ?_
  · exact Eff.refl
  · intro p0 h1
    try beta_reduce
    refine State.runDesc_eff ?_ ?_
    · exact h1
    · intro p2 p3 h4
      try beta_reduce
      refine EffO.then ?_ (State.doInsert_eff _ _ _ _) (by decide)
      exact h4

theorem execUpdate_eff (a0) (a1) (s : State) :
    EffX 135372040 s (execUpdate a0 a1 s) := by
  unfold execUpdate
  refine whileServing_eff ?_ ?_
  · exact Eff.refl
  · intro p0 h1
    try beta_reduce
    refine State.runDesc_eff ?_ ?_
    · exact h1
    · intro p2 p3 h4
      try beta_reduce
      refine EffO.then ?_ (State.doUpdate_eff _ _ _ _) (by decide)
      exact h4

theorem execDelete_eff (a0) (a1) (s : State) :
    EffX 135372040 s (execDelete a0 a1 s) := by
  unfold execDelete
  refine whileServing_eff ?_ ?_
  · exact Eff.refl
  · intro p0 h1
    try beta_reduce
    refine State.runDesc_eff ?_ ?_
    · exact h1
    · intro p2 p3 h4
      try beta_reduce
      refine EffO.then ?_ (State.doDelete_eff _ _ _ _) (by decide)
      exact h4

theorem execReadByHandle_eff (a0) (a1) (s : State) :
    EffX 135372040 s (execReadByHandle a0 a1 s) := by
  unfold execReadByHandle
  refine whileServing_eff ?_ ?_
  · exact Eff.refl
  · intro p0 h1
    try beta_reduce
    refine State.runDesc_eff ?_ ?_
    · exact h1
    · intro p2 p3 h4
      try beta_reduce
      refine EffO.then ?_ (State.doRead_eff _ _ _ _) (by decide)
      exact h4

theorem execReadByKey_eff (a0) (a1) (s : State) :
    EffX 135371016 s (execReadByKey a0 a1 s) := by
  unfold execReadByKey
  refine whileServing_eff ?_ ?_
  · exact Eff.refl
  · intro p0 h1
    try beta_reduce
    refine State.runDesc_eff ?_ ?_
    · exact h1
    · intro p2 p3 h4
      try beta_reduce
      refine EffO.some ?_
      refine Eff.then ?_ (State.doReadKey_eff _ _ _ _ _) (by decide)
      exact h4

theorem execLearn_eff (a0) (a1) (s : State) :
    EffX 135281944 s (execLearn a0 a1 s) := by
  unfold execLearn
  refine whileServing_eff ?_ ?_
  · exact Eff.refl
  · intro p0 h1
    try beta_reduce
    refine State.runDesc_eff ?_ ?_
    · exact h1
    · intro p2 p3 h4
      try beta_reduce
      refine EffO.then ?_ (State.doLearn_eff _ _ _ _) (by decide)
      exact h4

theorem execLock_eff (a0) (a1) (s : State) :
    EffX 135273480 s (execLock a0 a1 s) := by
  unfold execLock
  refine whileServing_eff ?_ ?_
  · exact Eff.refl
  · intro p0 h1
    try beta_reduce
    refine State.runDesc_eff ?_ ?_
    · exact h1
    · intro p2 p3 h4
      try beta_reduce
      refine EffO.some ?_
      refine Eff.then ?_ (State.doLock_eff _ _ _ _) (by decide)
      exact h4

theorem execCommit_eff (a0) (a1) (s : State) :
    EffX 135273736 s (execCommit a0 a1 s) := by
  unfold execCommit
  refine whileServing_eff ?_ ?_
  · exact Eff.refl
  · intro p0 h1
    try beta_reduce
    refine State.runDesc_eff ?_ ?_
    · exact h1
    · intro p2 p3 h4
      try beta_reduce
      refine EffO.some ?_
      refine Eff.then ?_ (State.doCommit_eff _ _ _ _) (by decide)
      exact h4

theorem execAbandon_eff (a0) (a1) (s : State) :
    EffX 135281928 s (execAbandon a0 a1 s) := by
  unfold execAbandon
  refine whileServing_eff ?_ ?_
  · exact Eff.refl
  · intro p0 h1
    try beta_reduce
    refine State.runDesc_eff ?_ ?_
    · exact h1
    · intro p2 p3 h4
      try beta_reduce
      refine EffO.some ?_
      refine Eff.then ?_ (State.doAbandon_eff _ _ _ _) (by decide)
      exact h4

theorem execSetProfile_eff (a0) (a1) (s : State) :
    EffX 404233294 s (execSetProfile a0 a1 s) := by
  unfold execSetProfile
  refine whileServing_eff ?_ ?_
  · exact Eff.refl
  · intro p0 h1
    try beta_reduce
    refine State.runDesc_eff ?_ ?_
    · exact h1
    · intro p2 p3 h4
      try beta_reduce
      extract_lets -merge x5
      clear_value x5
      refine EffO.ite ?_ ?_
      · refine EffO.some ?_
        refine Eff.then ?_ (State.forward_eff _ _ _ _ _ _) (by decide)
        exact h4
      · refine EffO.then ?_ (State.setProfile_eff _ _ _) (by decide)
        exact h4

theorem execOpenTable_eff (a0) (a1) (s : State) :
    EffX 404241742 s (execOpenTable a0 a1 s) := by
  unfold execOpenTable
  refine whileServing_eff ?_ ?_
  · exact Eff.refl
  · intro p0 h1
    try beta_reduce
    refine State.runDesc_eff ?_ ?_
    · exact h1
    · intro p2 p3 h4
      try beta_reduce
      extract_lets -merge x5
      clear_value x5
      refine EffO.some ?_
      refine State.routeHome_eff ?_ ?_
      · exact h4
      · intro p6 h7
        try beta_reduce
        refine Eff.then ?_ (State.moveState_eff _ _ _ _) (by decide)
        exact h7

theorem execDisable_eff (a0) (a1) (s : State) :
    EffX 404241742 s (execDisable a0 a1 s) := by
  unfold execDisable
  refine whileServing_eff ?_ ?_
  · exact Eff.refl
  · intro p0 h1
    try beta_reduce
    refine State.runDesc_eff ?_ ?_
    · exact h1
    · intro p2 p3 h4
      try beta_reduce
      extract_lets -merge x5
      clear_value x5
      refine EffO.some ?_
      refine State.routeHome_eff ?_ ?_
      · exact h4
      · intro p6 h7
        try beta_reduce
        refine Eff.then ?_ (State.moveState_eff _ _ _ _) (by decide)
        exact h7

theorem execEnable_eff (a0) (a1) (s : State) :
    EffX 404241742 s (execEnable a0 a1 s) := by
  unfold execEnable
  refine whileServing_eff ?_ ?_
  · exact Eff.refl
  · intro p0 h1
    try beta_reduce
    refine State.runDesc_eff ?_ ?_
    · exact h1
    · intro p2 p3 h4
      try beta_reduce
      extract_lets -merge x5
      clear_value x5
      refine EffO.some ?_
      refine State.routeHome_eff ?_ ?_
      · exact h4
      · intro p6 h7
        try beta_reduce
        refine Eff.then ?_ (State.moveState_eff _ _ _ _) (by decide)
        exact h7

theorem execScan_eff (a0) (a1) (a2) (a3) (s : State) :
    EffX 442219870 s (execScan a0 a1 a2 a3 s) := by
  unfold execScan
  refine whileServing_eff ?_ ?_
  · exact Eff.refl
  · intro p0 h1
    try beta_reduce
    refine State.scan_eff ?_ ?_
    · exact h1
    · intro p2 h3
      try beta_reduce
      refine Eff.then ?_ (State.faultCtx_eff _ _ _) (by decide)
      exact h3

theorem execScanRetarget_eff (a0) (a1) (s : State) :
    EffX 135403528 s (execScanRetarget a0 a1 s) := by
  unfold execScanRetarget
  refine whileServing_eff ?_ ?_
  · exact Eff.refl
  · intro p0 h1
    try beta_reduce
    refine State.runDesc_eff ?_ ?_
    · exact h1
    · intro p2 p3 h4
      try beta_reduce
      refine EffO.some ?_
      refine Eff.then ?_ (State.scanRetarget_eff _ _ _ _) (by decide)
      exact h4

theorem State.maintRun_eff (s : State) :
    Eff 135376136 s (State.maintRun s) := by
  unfold State.maintRun
  extract_lets -merge x0 x1 x2 x3 x4 x5 x6
  clear_value x0
  clear_value x1
  clear_value x2
  clear_value x3
  have h7 : Eff 135376136 s x4 := by
    subst x4
    refine Eff.then ?_ (upd_mnt _ _) (by decide)
    exact Eff.refl
  clear_value x4
  have h8 : ∀ p0, Eff 135376136 s p0 → Eff 135376136 s (x5 p0) := by
    subst x5
    intro p9 h10
    try beta_reduce
    refine Eff.then ?_ (upd_mnt _ _) (by decide)
    exact h10
  clear_value x5
  have h11 : EffO 135376136 s x6 := by
    subst x6
    split
    · rename_i v12 e13
      refine EffO.then ?_ (State.doInsert_eff _ _ _ _) (by decide)
      exact Eff.refl
    · rename_i v14 e15
      refine EffO.then ?_ (State.doUpdate_eff _ _ _ _) (by decide)
      exact Eff.refl
    · rename_i v16 e17
      refine EffO.then ?_ (State.doDelete_eff _ _ _ _) (by decide)
      exact Eff.refl
    · rename_i v18 e19
      refine EffO.then ?_ (State.doRead_eff _ _ _ _) (by decide)
      exact Eff.refl
    · rename_i v20 e21
      refine EffO.some ?_
      refine Eff.then ?_ (State.doReadKey_eff _ _ _ _ _) (by decide)
      exact Eff.refl
    · rename_i v22 e23
      refine EffO.some ?_
      refine Eff.then ?_ (State.doLock_eff _ _ _ _) (by decide)
      exact Eff.refl
    · rename_i v24 e25
      refine EffO.some ?_
      refine Eff.then ?_ (State.doCommit_eff _ _ _ _) (by decide)
      exact Eff.refl
    · rename_i v26 e27 e28 e29 e30 e31 e32 e33
      refine EffO.some ?_
      refine Eff.then ?_ (State.doAbandon_eff _ _ _ _) (by decide)
      exact Eff.refl
  clear_value x6
  split
  · rename_i v34 v35 e36
    refine Eff.then ?_ (State.resolve_eff _ _ _) (by decide)
    refine h8 _ ?_
    exact Eff.refl
  · rename_i v37 e38
    split
    · rename_i v39 e40
      exact h7
    · rename_i v41 e42
      refine Eff.then ?_ (State.resolve_eff _ _ _) (by decide)
      refine h8 _ ?_
      exact Eff.refl
    · rename_i v43 e44
      split
      · rename_i v45 v46
        refine h8 _ ?_
        exact h11 _ rfl
      · rename_i v47
        exact h7

theorem State.maintRetry_eff (s : State) :
    Eff 135376136 s (State.maintRetry s) := by
  unfold State.maintRetry
  split
  · rename_i v0 v1 e2
    refine Eff.ite ?_ ?_
    · refine Eff.then ?_ (State.maintRun_eff _) (by decide)
      exact Eff.refl
    · exact Eff.refl
  · rename_i v3 e4
    exact Eff.refl

theorem State.maintWrite_eff (s : State) (a1) (a2) (a3) :
    Eff 135376200 s (State.maintWrite s a1 a2 a3) := by
  unfold State.maintWrite
  refine Eff.ite ?_ ?_
  · exact Eff.refl
  · extract_lets -merge x0 x1 x2 x3 x4
    clear_value x0
    clear_value x1
    have h5 : Eff 135376200 s x2 := by
      subst x2
      refine Eff.then ?_ (State.setReg_eff _ _ _) (by decide)
      exact Eff.refl
    clear_value x2
    have h6 : Eff 135376200 s x3 := by
      subst x3
      refine Eff.then ?_ (State.setF_eff _ _ _) (by decide)
      exact h5
    clear_value x3
    clear_value x4
    refine Eff.ite ?_ ?_
    · refine Eff.then ?_ (State.maintRun_eff _) (by decide)
      refine Eff.then ?_ (upd_mnt _ _) (by decide)
      exact h6
    · exact h5

theorem execMaintInsert_eff (a0) (a1) (s : State) :
    EffX 135376200 s (execMaintInsert a0 a1 s) := by
  unfold execMaintInsert
  refine whileServing_eff ?_ ?_
  · exact Eff.refl
  · intro p0 h1
    try beta_reduce
    refine Eff.then ?_ (State.maintWrite_eff _ _ _ _) (by decide)
    exact h1

theorem execMaintUpdate_eff (a0) (a1) (s : State) :
    EffX 135376200 s (execMaintUpdate a0 a1 s) := by
  unfold execMaintUpdate
  refine whileServing_eff ?_ ?_
  · exact Eff.refl
  · intro p0 h1
    try beta_reduce
    refine Eff.then ?_ (State.maintWrite_eff _ _ _ _) (by decide)
    exact h1

theorem execMaintDelete_eff (a0) (a1) (s : State) :
    EffX 135376200 s (execMaintDelete a0 a1 s) := by
  unfold execMaintDelete
  refine whileServing_eff ?_ ?_
  · exact Eff.refl
  · intro p0 h1
    try beta_reduce
    refine Eff.then ?_ (State.maintWrite_eff _ _ _ _) (by decide)
    exact h1

theorem execMaintReadByHandle_eff (a0) (a1) (s : State) :
    EffX 135376200 s (execMaintReadByHandle a0 a1 s) := by
  unfold execMaintReadByHandle
  refine whileServing_eff ?_ ?_
  · exact Eff.refl
  · intro p0 h1
    try beta_reduce
    refine Eff.then ?_ (State.maintWrite_eff _ _ _ _) (by decide)
    exact h1

theorem execMaintReadByKey_eff (a0) (a1) (s : State) :
    EffX 135376200 s (execMaintReadByKey a0 a1 s) := by
  unfold execMaintReadByKey
  refine whileServing_eff ?_ ?_
  · exact Eff.refl
  · intro p0 h1
    try beta_reduce
    refine Eff.then ?_ (State.maintWrite_eff _ _ _ _) (by decide)
    exact h1

theorem execMaintLock_eff (a0) (a1) (s : State) :
    EffX 135376200 s (execMaintLock a0 a1 s) := by
  unfold execMaintLock
  refine whileServing_eff ?_ ?_
  · exact Eff.refl
  · intro p0 h1
    try beta_reduce
    refine Eff.then ?_ (State.maintWrite_eff _ _ _ _) (by decide)
    exact h1

theorem execMaintCommit_eff (a0) (a1) (s : State) :
    EffX 135376200 s (execMaintCommit a0 a1 s) := by
  unfold execMaintCommit
  refine whileServing_eff ?_ ?_
  · exact Eff.refl
  · intro p0 h1
    try beta_reduce
    refine Eff.then ?_ (State.maintWrite_eff _ _ _ _) (by decide)
    exact h1

theorem execMaintAbandon_eff (a0) (a1) (s : State) :
    EffX 135376200 s (execMaintAbandon a0 a1 s) := by
  unfold execMaintAbandon
  refine whileServing_eff ?_ ?_
  · exact Eff.refl
  · intro p0 h1
    try beta_reduce
    refine Eff.then ?_ (State.maintWrite_eff _ _ _ _) (by decide)
    exact h1

theorem execMaintReservedOpcode_eff (a0) (a1) (s : State) :
    EffX 135376200 s (execMaintReservedOpcode a0 a1 s) := by
  unfold execMaintReservedOpcode
  refine whileServing_eff ?_ ?_
  · exact Eff.refl
  · intro p0 h1
    try beta_reduce
    refine Eff.then ?_ (State.maintWrite_eff _ _ _ _) (by decide)
    exact h1

theorem State.maintDone_eff (s : State) :
    Eff 2114 s (State.maintDone s) := by
  unfold State.maintDone
  split
  · rename_i v0 v1 v2 e3
    refine Eff.ite ?_ ?_
    · exact Eff.refl
    · extract_lets -merge x4 x5 x6 x7 x8 x9 x10
      have h11 : Eff 2114 s x4 := by
        subst x4
        refine Eff.then ?_ (State.setF_eff _ _ _) (by decide)
        exact Eff.refl
      clear_value x4
      have h12 : Eff 2114 s x5 := by
        subst x5
        refine Eff.then ?_ (State.setReg_eff _ _ _) (by decide)
        exact h11
      clear_value x5
      have h13 : Eff 2114 s x6 := by
        subst x6
        refine Eff.then ?_ (State.setReg_eff _ _ _) (by decide)
        exact h12
      clear_value x6
      clear_value x7
      have h14 : Eff 2114 s x8 := by
        subst x8
        refine Eff.ite ?_ ?_
        · refine Eff.then ?_ (State.setF_eff _ _ _) (by decide)
          exact h13
        · exact h13
      clear_value x8
      have h15 : Eff 2114 s x9 := by
        subst x9
        refine Eff.ite ?_ ?_
        · split
          · rename_i v16 v17 v18 e19
            have h20 : Eff 2114 s v18 := by
              refine EffR.at e19 ?_
              refine Eff.then ?_ (State.readRecord_eff _ _ _) (by decide)
              exact h14
            refine Eff.foldl ?_ ?_
            · exact h20
            · intro p21 p22 h23
              try beta_reduce
              refine Eff.then ?_ (State.setReg_eff _ _ _) (by decide)
              exact h23
        · exact h14
      clear_value x9
      clear_value x10
      refine Eff.then ?_ (State.setF_eff _ _ _) (by decide)
      refine Eff.then ?_ (upd_mnt _ _) (by decide)
      exact h15
  · rename_i v24 e25
    exact Eff.refl

theorem execMaintCmdComplete_eff (s : State) :
    EffX 2114 s (execMaintCmdComplete s) := by
  unfold execMaintCmdComplete
  refine whileUp_eff ?_ ?_
  · exact Eff.refl
  · intro p0 h1
    try beta_reduce
    refine Eff.then ?_ (State.maintDone_eff _) (by decide)
    exact h1

theorem execMaintEvictSeedWrite_eff (a0) (a1) (s : State) :
    EffX 64 s (execMaintEvictSeedWrite a0 a1 s) := by
  unfold execMaintEvictSeedWrite
  refine whileUp_eff ?_ ?_
  · exact Eff.refl
  · intro p0 h1
    try beta_reduce
    refine State.when_eff ?_ ?_
    · exact h1
    · intro p2 h3
      try beta_reduce
      refine Eff.then ?_ (State.setF_eff _ _ _) (by decide)
      exact h3

end Sys2Proof.Machine
end

