-- ==== Sys2Proof/Laws/EffBulk.lean ====
section
/-! SUPPORT. What the functions of Machine/Bulk.lean may change: bit i of a mask is component i of `Comp.idx`.
The theorems are checked one after another: each is small, and the joined text has many. -/

set_option Elab.async false

namespace Sys2Proof.Machine

theorem State.loadArray_eff (s : State) (a1) (a2) (a3) (a4) :
    Eff 135269640 s (State.loadArray s a1 a2 a3 a4) := by
  unfold State.loadArray
  extract_lets -merge x0 x1 x2 x3 x4 x5 x6 x7 x8 x9 x10 x11 x12
  clear_value x0
  clear_value x1
  clear_value x2
  clear_value x3
  clear_value x4
  clear_value x5
  clear_value x6
  clear_value x7
  clear_value x8
  have h13 : Eff 135269640 s x9 := by
    subst x9
    refine Eff.then ?_ (State.updTb_eff _ _ _) (by decide)
    exact Eff.refl
  clear_value x9
  clear_value x10
  clear_value x11
  have h14 : Eff 135269640 s x12 := by
    subst x12
    refine Eff.then ?_ (State.updTb_eff _ _ _) (by decide)
    exact h13
  clear_value x12
  refine Eff.ite ?_ ?_
  · refine Eff.then ?_ (State.resolve_eff _ _ _) (by decide)
    exact Eff.refl
  · refine Eff.ite ?_ ?_
    · refine Eff.then ?_ (State.resolve_eff _ _ _) (by decide)
      exact Eff.refl
    · refine Eff.ite ?_ ?_
      · refine Eff.foldl ?_ ?_
        · exact h14
        · intro p15 p16 h17
          try beta_reduce
          refine Eff.then ?_ (State.enqM_eff _ _ _ _ _ _) (by decide)
          exact h17
      · refine Eff.foldl ?_ ?_
        · exact h13
        · intro p18 p19 h20
          try beta_reduce
          refine Eff.then ?_ (upd_mnt _ _) (by decide)
          exact h20

theorem State.loadStart_eff (s : State) (a1) (a2) (a3) (a4) :
    Eff 135302408 s (State.loadStart s a1 a2 a3 a4) := by
  unfold State.loadStart
  extract_lets -merge x0 x1 x2
  clear_value x0
  clear_value x1
  clear_value x2
  refine Eff.ite ?_ ?_
  · refine Eff.then ?_ (State.loadArray_eff _ _ _ _ _) (by decide)
    exact Eff.refl
  · refine Eff.ite ?_ ?_
    · refine Eff.ite ?_ ?_
      · refine Eff.then ?_ (State.resolve_eff _ _ _) (by decide)
        exact Eff.refl
      · refine Eff.then ?_ (State.trieMut_eff _ _ _ _) (by decide)
        refine Eff.then ?_ (State.updTb_eff _ _ _) (by decide)
        exact Eff.refl
    · refine Eff.ite ?_ ?_
      · refine Eff.then ?_ (State.updTb_eff _ _ _) (by decide)
        exact Eff.refl
      · refine Eff.then ?_ (State.updTb_eff _ _ _) (by decide)
        exact Eff.refl

theorem State.bulkLoad_eff {w : Nat} {r s : State} {a1} {a2} {a3} {a4} {a5} (h : Eff w r s) (h5 : ∀ y0, Eff w r y0 → Eff w r (a5 y0))
    (hw : 442010958 &&& w = 442010958 := by decide) :
    EffO w r (State.bulkLoad s a1 a2 a3 a4 a5) := by
  unfold State.bulkLoad
  extract_lets -merge x0 x1 x2 x3 x4 x5
  clear_value x0
  clear_value x1
  clear_value x2
  clear_value x3
  have h6 : Eff w r x4 := by
    subst x4
    refine Eff.ite ?_ ?_
    · exact h
    · refine Eff.then ?_ (State.readCheck_eff _ _ _ _ _) (mask_le (by decide) hw)
      exact h
  clear_value x4
  clear_value x5
  refine EffO.ite ?_ ?_
  · refine EffO.some ?_
    refine Eff.then ?_ (State.resolve_eff _ _ _) (mask_le (by decide) hw)
    exact h
  · refine EffO.ite ?_ ?_
    · refine EffO.some ?_
      refine Eff.then ?_ (State.resolve_eff _ _ _) (mask_le (by decide) hw)
      exact h
    · refine EffO.ite ?_ ?_
      · exact EffO.none
      · refine EffO.ite ?_ ?_
        · refine EffO.some ?_
          refine Eff.then ?_ (State.resolve_eff _ _ _) (mask_le (by decide) hw)
          exact h
        · refine EffO.ite ?_ ?_
          · exact EffO.none
          · refine EffO.ite ?_ ?_
            · refine EffO.some ?_
              refine h5 _ ?_
              exact h6
            · refine EffO.ite ?_ ?_
              · refine EffO.some ?_
                refine Eff.then ?_ (State.resolve_eff _ _ _) (mask_le (by decide) hw)
                exact h6
              · refine EffO.some ?_
                refine Eff.then ?_ (State.loadStart_eff _ _ _ _ _) (mask_le (by decide) hw)
                exact h6

theorem execBulkLoad_eff (a0) (a1) (a2) (s : State) :
    EffX 442219854 s (execBulkLoad a0 a1 a2 s) := by
  unfold execBulkLoad
  refine whileUp_eff ?_ ?_
  · exact Eff.refl
  · intro p0 h1
    try beta_reduce
    refine State.runDesc_eff ?_ ?_
    · exact h1
    · intro p2 p3 h4
      try beta_reduce
      extract_lets -merge x5
      clear_value x5
      refine EffO.ite ?_ ?_
      · refine EffO.some ?_
        refine Eff.then ?_ (State.forward_eff _ _ _ _ _ _) (by decide)
        exact h4
      · refine State.bulkLoad_eff ?_ ?_
        · exact h4
        · intro p6 h7
          try beta_reduce
          refine Eff.then ?_ (State.faultCtx_eff _ _ _) (by decide)
          exact h7

theorem State.frameLoad_eff (s : State) (a1) (a2) :
    Eff 134217728 s (State.frameLoad s a1 a2).1 := by
  unfold State.frameLoad
  refine EffL.ite ?_ ?_
  · extract_lets -merge x0 x1
    clear_value x0
    have h2 : Eff 134217728 s x1.1 := by
      subst x1
      refine Eff.then ?_ (State.mirFrame_eff _ _) (by decide)
      exact Eff.refl
    clear_value x1
    exact h2
  · exact Eff.refl

theorem State.loadDone_eff (s : State) (a1) (a2) (a3) :
    Eff 404229198 s (State.loadDone s a1 a2 a3) := by
  unfold State.loadDone
  extract_lets -merge x0 x1
  have h2 : Eff 404229198 s x0 := by
    subst x0
    refine Eff.then ?_ (State.updTb_eff _ _ _) (by decide)
    exact Eff.refl
  clear_value x0
  have h3 : Eff 404229198 s x1 := by
    subst x1
    refine Eff.then ?_ (State.loadProfile_eff _ _ _ _) (by decide)
    exact h2
  clear_value x1
  refine Eff.then ?_ (State.endMut_eff _ _ _ _ _) (by decide)
  exact h3

theorem State.putEntries_eff (s : State) (a1) (a2) :
    Eff 65536 s (State.putEntries s a1 a2) := by
  unfold State.putEntries
  refine Eff.foldl ?_ ?_
  · exact Eff.refl
  · intro p0 p1 h2
    try beta_reduce
    refine Eff.then ?_ (State.setDword_eff _ _ _) (by decide)
    exact h2

theorem State.loadEntries_eff (s : State) (a1) (a2) :
    Eff 403243076 s (State.loadEntries s a1 a2).1 := by
  unfold State.loadEntries
  extract_lets -merge x0
  have h1 : Eff 403243076 s x0.1 := by
    subst x0
    refine Eff.then ?_ (State.frameLoad_eff _ _ _) (by decide)
    refine Eff.then ?_ (State.putEntries_eff _ _ _) (by decide)
    exact Eff.refl
  clear_value x0
  refine Eff.foldl ?_ ?_
  · exact h1
  · intro p2 p3 h4
    try beta_reduce
    refine Eff.then ?_ (State.journal_eff _ _ _) (by decide)
    exact h4

theorem State.frameRecords_eff (s : State) (a1) (a2) (a3) :
    Eff 134217728 s (State.frameRecords s a1 a2 a3) := by
  unfold State.frameRecords
  extract_lets -merge x0
  have h1 : Eff 134217728 s x0 := by
    subst x0
    refine Eff.foldl ?_ ?_
    · exact Eff.refl
    · intro p2 p3 h4
      try beta_reduce
      refine Eff.then ?_ (State.mirFrame_eff _ _) (by decide)
      exact h4
  clear_value x0
  refine Eff.foldl ?_ ?_
  · exact h1
  · intro p5 p6 h7
    try beta_reduce
    refine Eff.then ?_ (State.mirFrame_eff _ _) (by decide)
    exact h7

theorem State.bulkCommit_eff (s : State) (a1) :
    Eff 404426062 s (State.bulkCommit s a1) := by
  unfold State.bulkCommit
  extract_lets -merge x0 x1 x2 x3 x4
  clear_value x0
  clear_value x1
  have h5 : Eff 404426062 s x2 := by
    subst x2
    refine Eff.then ?_ (State.updLock_eff _ _ _) (by decide)
    exact Eff.refl
  clear_value x2
  have h6 : Eff 404426062 s x3.1 := by
    subst x3
    refine Eff.then ?_ (State.mirFrame_eff _ _) (by decide)
    exact h5
  clear_value x3
  have h7 : Eff 404426062 s x4 := by
    subst x4
    refine Eff.ite ?_ ?_
    · refine Eff.then ?_ (State.updLock_eff _ _ _) (by decide)
      exact h6
    · exact h5
  clear_value x4
  split
  · rename_i v8 e9
    exact Eff.refl
  · rename_i v10 v11 e12
    refine Eff.ite ?_ ?_
    · exact Eff.refl
    · refine Eff.ite ?_ ?_
      · split
        · rename_i v13 e14
          exact Eff.refl
        · rename_i v15 v16 e17
          refine Eff.ite ?_ ?_
          · exact Eff.refl
          · refine Eff.then ?_ (State.enqM_eff _ _ _ _ _ _) (by decide)
            exact h7
      · refine Eff.ite ?_ ?_
        · refine Eff.ite ?_ ?_
          · extract_lets -merge x18 x19
            have h20 : Eff 404426062 s x18 := by
              subst x18
              refine Eff.then ?_ (State.frameRecords_eff _ _ _ _) (by decide)
              exact Eff.refl
            clear_value x18
            have h21 : Eff 404426062 s x19.1 := by
              subst x19
              refine Eff.then ?_ (State.mirFrame_eff _ _) (by decide)
              exact h20
            clear_value x19
            refine Eff.then ?_ (State.updTb_eff _ _ _) (by decide)
            exact h21
          · refine Eff.ite ?_ ?_
            · exact Eff.refl
            · split
              · rename_i v22 v23 v24 e25
                have h26 : Eff 404426062 s v23 := by
                  refine EffL.at e25 ?_
                  refine Eff.then ?_ (State.loadEntries_eff _ _ _) (by decide)
                  exact Eff.refl
                refine Eff.then ?_ (State.loadDone_eff _ _ _ _) (by decide)
                exact h26
        · refine Eff.ite ?_ ?_
          · refine Eff.ite ?_ ?_
            · exact Eff.refl
            · extract_lets -merge x27 x28 x29
              have h30 : Eff 404426062 s x27 := by
                subst x27
                refine Eff.then ?_ (State.updTb_eff _ _ _) (by decide)
                exact Eff.refl
              clear_value x27
              clear_value x28
              have h31 : Eff 404426062 s x29 := by
                subst x29
                refine Eff.then ?_ (upd_rng _ _) (by decide)
                exact h30
              clear_value x29
              refine Eff.then ?_ (State.loadDone_eff _ _ _ _) (by decide)
              exact h31
          · exact Eff.refl

theorem execBulkLoadCommit_eff (a0) (s : State) :
    EffX 404426062 s (execBulkLoadCommit a0 s) := by
  unfold execBulkLoadCommit
  refine whileUp_eff ?_ ?_
  · exact Eff.refl
  · intro p0 h1
    try beta_reduce
    refine Eff.then ?_ (State.bulkCommit_eff _ _) (by decide)
    exact h1

end Sys2Proof.Machine
end

