-- ==== Sys2Proof/Laws/EffLearning.lean ====
section
/-! SUPPORT. What the functions of Machine/Learning.lean may change: bit i of a mask is component i of `Comp.idx`.
The theorems are checked one after another: each is small, and the joined text has many. -/

set_option Elab.async false

namespace Sys2Proof.Machine

theorem State.updLearn_eff (s : State) (a1) (a2) :
    Eff 8192 s (State.updLearn s a1 a2) := by
  unfold State.updLearn
  refine Eff.then ?_ (upd_lrn _ _) (by decide)
  exact Eff.refl

theorem State.takeProbes_eff (s : State) (a1) :
    Eff 8200 s (State.takeProbes s a1) := by
  unfold State.takeProbes
  refine Eff.foldl ?_ ?_
  · exact Eff.refl
  · intro p0 p1 h2
    try beta_reduce
    refine Eff.ite ?_ ?_
    · exact h2
    · split
      · rename_i v3 v4 v5 e6
        have h7 : Eff 8200 s v5 := by
          refine EffOR.at e6 ?_
          refine EffOR.then ?_ (State.takeInbox_eff _ _) (by decide)
          exact h2
        refine Eff.then ?_ (State.updLearn_eff _ _ _) (by decide)
        exact h7
      · rename_i v8 e9
        exact h2

theorem State.learnStatic_eff (s : State) (a1) (a2) (a3) :
    Eff 404236364 s (State.learnStatic s a1 a2 a3) := by
  unfold State.learnStatic
  refine Eff.ite ?_ ?_
  · exact Eff.refl
  · extract_lets -merge x0 x1
    have h2 : Eff 404236364 s x0 := by
      subst x0
      refine Eff.then ?_ (State.inc_eff _ _ _) (by decide)
      exact Eff.refl
    clear_value x0
    have h3 : Eff 404236364 s x1 := by
      subst x1
      refine Eff.then ?_ (State.raise_eff _ _ _ _) (by decide)
      exact h2
    clear_value x1
    refine Eff.then ?_ (State.endLearn_eff _ _ _ _) (by decide)
    exact h3

theorem State.decided_eff (s : State) (a1) (a2) (a3) (a4) :
    Eff 8192 s (State.decided s a1 a2 a3 a4) := by
  unfold State.decided
  refine Eff.then ?_ (State.updLearn_eff _ _ _) (by decide)
  exact Eff.refl

theorem State.learnOn_eff (s : State) (a1) (a2) (a3) (a4) (a5) :
    Eff 404270412 s (State.learnOn s a1 a2 a3 a4 a5) := by
  unfold State.learnOn
  extract_lets -merge x0 x1 x2 x3 x4 x5
  clear_value x0
  clear_value x1
  clear_value x2
  have h6 : Eff 404270412 s x3 := by
    subst x3
    refine Eff.then ?_ (State.decided_eff _ _ _ _ _) (by decide)
    exact Eff.refl
  clear_value x3
  clear_value x4
  clear_value x5
  split
  · rename_i v7 v8 e9
    extract_lets -merge x10
    clear_value x10
    refine Eff.ite ?_ ?_
    · refine Eff.then ?_ (State.noRoom_eff _ _) (by decide)
      exact Eff.refl
    · refine Eff.then ?_ (upd_mnt _ _) (by decide)
      exact h6
  · rename_i v11 e12
    refine Eff.ite ?_ ?_
    · refine Eff.then ?_ (State.enqOp_eff _ _ _) (by decide)
      refine Eff.then ?_ (State.decided_eff _ _ _ _ _) (by decide)
      exact Eff.refl
    · refine Eff.then ?_ (State.enqOp_eff _ _ _) (by decide)
      refine Eff.then ?_ (State.decided_eff _ _ _ _ _) (by decide)
      exact Eff.refl

theorem State.learnAbsent_eff (s : State) (a1) :
    Eff 404270412 s (State.learnAbsent s a1) := by
  unfold State.learnAbsent
  extract_lets -merge x0 x1 x2
  clear_value x0
  have h3 : Eff 404270412 s x1 := by
    subst x1
    refine Eff.then ?_ (State.decided_eff _ _ _ _ _) (by decide)
    exact Eff.refl
  clear_value x1
  clear_value x2
  refine Eff.ite ?_ ?_
  · refine Eff.then ?_ (State.noRoom_eff _ _) (by decide)
    exact Eff.refl
  · refine Eff.then ?_ (upd_mnt _ _) (by decide)
    exact h3

theorem State.decideNow_eff (s : State) (a1) :
    Eff 404270412 s (State.decideNow s a1) := by
  unfold State.decideNow
  extract_lets -merge x0
  clear_value x0
  split
  · rename_i v1 e2
    refine Eff.then ?_ (State.learnAbsent_eff _ _) (by decide)
    exact Eff.refl
  · rename_i v3 v4 e5
    extract_lets -merge x6
    clear_value x6
    split
    · rename_i v7 v8 v9 v10 e11 e12
      extract_lets -merge x13
      clear_value x13
      refine Eff.ite ?_ ?_
      · refine Eff.then ?_ (State.learnStatic_eff _ _ _ _) (by decide)
        exact Eff.refl
      · refine Eff.then ?_ (State.learnOn_eff _ _ _ _ _ _) (by decide)
        exact Eff.refl
    · rename_i v14 v15 v16 e17 e18
      refine Eff.ite ?_ ?_
      · refine Eff.then ?_ (State.learnAbsent_eff _ _) (by decide)
        exact Eff.refl
      · refine Eff.ite ?_ ?_
        · refine Eff.then ?_ (State.learnStatic_eff _ _ _ _) (by decide)
          exact Eff.refl
        · refine Eff.then ?_ (State.learnOn_eff _ _ _ _ _ _) (by decide)
          exact Eff.refl
    · rename_i v19 v20 e21
      refine Eff.ite ?_ ?_
      · refine Eff.then ?_ (State.learnStatic_eff _ _ _ _) (by decide)
        exact Eff.refl
      · refine Eff.then ?_ (State.learnOn_eff _ _ _ _ _ _) (by decide)
        exact Eff.refl

theorem State.decideAfter_eff (s : State) (a1) (a2) :
    Eff 404270412 s (State.decideAfter s a1 a2) := by
  unfold State.decideAfter
  split
  · rename_i v0 v1 v2 v3 e4 e5
    extract_lets -merge x6 x7
    clear_value x6
    clear_value x7
    refine Eff.ite ?_ ?_
    · exact Eff.refl
    · refine Eff.then ?_ (State.learnOn_eff _ _ _ _ _ _) (by decide)
      exact Eff.refl
  · rename_i v8 v9 e10
    exact Eff.refl

theorem State.learnDecide_eff (s : State) (a1) :
    Eff 404270924 s (State.learnDecide s a1) := by
  unfold State.learnDecide
  extract_lets -merge x0
  have h1 : Eff 404270924 s x0 := by
    subst x0
    refine Eff.then ?_ (State.takeProbes_eff _ _) (by decide)
    exact Eff.refl
  clear_value x0
  split
  · rename_i v2 e3
    exact h1
  · rename_i v4 v5 e6
    split
    · rename_i v7 e8
      exact h1
    · rename_i v9 v10 e11
      refine Eff.ite ?_ ?_
      · exact h1
      · split
        · rename_i v12 v13 e14
          refine Eff.ite ?_ ?_
          · exact h1
          · refine Eff.then ?_ (State.decideAfter_eff _ _ _) (by decide)
            exact h1
        · rename_i v15 e16
          refine Eff.ite ?_ ?_
          · refine Eff.then ?_ (State.relearn_eff _ _) (by decide)
            exact h1
          · refine Eff.ite ?_ ?_
            · refine State.when_eff ?_ ?_
              · exact h1
              · intro p17 h18
                try beta_reduce
                refine Eff.then ?_ (State.endLearn_eff _ _ _ _) (by decide)
                exact h18
            · refine Eff.ite ?_ ?_
              · refine State.when_eff ?_ ?_
                · exact h1
                · intro p19 h20
                  try beta_reduce
                  refine Eff.then ?_ (State.endLearn_eff _ _ _ _) (by decide)
                  exact h20
              · refine Eff.then ?_ (State.decideNow_eff _ _) (by decide)
                exact h1

theorem execLearnDecide_eff (a0) (s : State) :
    EffX 404270924 s (execLearnDecide a0 s) := by
  unfold execLearnDecide
  refine whileUp_eff ?_ ?_
  · exact Eff.refl
  · intro p0 h1
    try beta_reduce
    refine Eff.then ?_ (State.learnDecide_eff _ _) (by decide)
    exact h1

theorem State.learnRetry_eff (s : State) (a1) :
    Eff 268545864 s (State.learnRetry s a1) := by
  unfold State.learnRetry
  extract_lets -merge x0
  have h1 : Eff 268545864 s x0 := by
    subst x0
    refine Eff.then ?_ (State.takeProbes_eff _ _) (by decide)
    exact Eff.refl
  clear_value x0
  split
  · rename_i v2 e3
    exact h1
  · rename_i v4 v5 e6
    refine Eff.then ?_ (State.relearn_eff _ _) (by decide)
    refine Eff.then ?_ (State.discardOps_eff _ _) (by decide)
    exact h1

theorem execLearnRetry_eff (a0) (s : State) :
    EffX 268545864 s (execLearnRetry a0 s) := by
  unfold execLearnRetry
  refine whileUp_eff ?_ ?_
  · exact Eff.refl
  · intro p0 h1
    try beta_reduce
    refine Eff.then ?_ (State.learnRetry_eff _ _) (by decide)
    exact h1

theorem State.updSweep_eff (s : State) (a1) (a2) :
    Eff 8192 s (State.updSweep s a1 a2) := by
  unfold State.updSweep
  refine Eff.then ?_ (upd_lrn _ _) (by decide)
  exact Eff.refl

theorem State.passStart_eff (s : State) (a1) :
    Eff 8256 s (State.passStart s a1) := by
  unfold State.passStart
  split
  · rename_i v0 e1
    exact Eff.refl
  · rename_i v2 v3 e4
    refine Eff.ite ?_ ?_
    · exact Eff.refl
    · extract_lets -merge x5 x6
      clear_value x5
      have h7 : Eff 8256 s x6 := by
        subst x6
        refine Eff.ite ?_ ?_
        · refine Eff.then ?_ (State.inc_eff _ _ _) (by decide)
          exact Eff.refl
        · exact Eff.refl
      clear_value x6
      refine Eff.then ?_ (State.updSweep_eff _ _ _) (by decide)
      exact h7

theorem execSweepPassStart_eff (a0) (s : State) :
    EffX 8256 s (execSweepPassStart a0 s) := by
  unfold execSweepPassStart
  refine whileUp_eff ?_ ?_
  · exact Eff.refl
  · intro p0 h1
    try beta_reduce
    refine Eff.then ?_ (State.passStart_eff _ _) (by decide)
    exact h1

theorem State.passEnd_eff (s : State) (a1) :
    Eff 8256 s (State.passEnd s a1) := by
  unfold State.passEnd
  extract_lets -merge x0
  have h1 : Eff 8256 s x0 := by
    subst x0
    refine Eff.then ?_ (State.inc_eff _ _ _) (by decide)
    exact Eff.refl
  clear_value x0
  refine Eff.then ?_ (State.updSweep_eff _ _ _) (by decide)
  exact h1

theorem State.sweeperVisit_eff (s : State) (a1) :
    Eff 8512 s (State.sweeperVisit s a1) := by
  unfold State.sweeperVisit
  split
  · rename_i v0 e1
    exact Eff.refl
  · rename_i v2 v3 e4
    refine Eff.ite ?_ ?_
    · exact Eff.refl
    · extract_lets -merge x5
      have h6 : ∀ p0 p1, Eff 8512 s p0 → Eff 8512 s (x5 p0 p1) := by
        subst x5
        intro p7 p8 h9
        try beta_reduce
        refine Eff.then ?_ (State.enqOp_eff _ _ _) (by decide)
        exact h9
      clear_value x5
      split
      · rename_i v10 v11 v12 e13
        refine Eff.ite ?_ ?_
        · refine Eff.then ?_ (State.updSweep_eff _ _ _) (by decide)
          exact Eff.refl
        · refine Eff.ite ?_ ?_
          · exact Eff.refl
          · refine Eff.then ?_ (State.updSweep_eff _ _ _) (by decide)
            refine h6 _ _ ?_
            exact Eff.refl
      · rename_i v14 e15
        split
        · rename_i v16 v17 e18
          refine Eff.ite ?_ ?_
          · exact Eff.refl
          · refine Eff.then ?_ (State.updSweep_eff _ _ _) (by decide)
            refine h6 _ _ ?_
            exact Eff.refl
        · rename_i v19 e20
          refine Eff.ite ?_ ?_
          · refine Eff.then ?_ (State.passEnd_eff _ _) (by decide)
            exact Eff.refl
          · exact Eff.refl

theorem execSweeperVisit_eff (a0) (s : State) :
    EffX 8512 s (execSweeperVisit a0 s) := by
  unfold execSweeperVisit
  refine whileUp_eff ?_ ?_
  · exact Eff.refl
  · intro p0 h1
    try beta_reduce
    refine Eff.then ?_ (State.sweeperVisit_eff _ _) (by decide)
    exact h1

end Sys2Proof.Machine
end

