-- ==== Sys2Proof/Laws/EffDir.lean ====
section
/-! SUPPORT. What the functions of Machine/Dir.lean may change: bit i of a mask is component i of `Comp.idx`.
The theorems are checked one after another: each is small, and the joined text has many. -/

set_option Elab.async false

namespace Sys2Proof.Machine

theorem State.showClaims_eff (s : State) :
    Eff 64 s (State.showClaims s) := by
  unfold State.showClaims
  refine Eff.then ?_ (State.setF_eff _ _ _) (by decide)
  exact Eff.refl

theorem State.dirEnter_eff (s : State) (a1) (a2) (a3) (a4) :
    Eff 16400 s (State.dirEnter s a1 a2 a3 a4) := by
  unfold State.dirEnter
  extract_lets -merge x0 x1
  clear_value x0
  clear_value x1
  refine Eff.then ?_ (upd_ids_dir _ _ _) (by decide)
  exact Eff.refl

theorem State.dirLookup_eff (s : State) (a1) (a2) (a3) :
    Eff 256 s (State.dirLookup s a1 a2 a3) := by
  unfold State.dirLookup
  extract_lets -merge x0
  clear_value x0
  refine Eff.then ?_ (State.enqOp_eff _ _ _) (by decide)
  exact Eff.refl

theorem State.dirWrite_eff (s : State) (a1) (a2) (a3) (a4) :
    Eff 16640 s (State.dirWrite s a1 a2 a3 a4) := by
  unfold State.dirWrite
  refine Eff.then ?_ (State.updDir_eff _ _ _) (by decide)
  refine Eff.then ?_ (State.enqOp_eff _ _ _) (by decide)
  exact Eff.refl

theorem State.dirInsert_eff (s : State) (a1) (a2) :
    Eff 18432 s (State.dirInsert s a1 a2) := by
  unfold State.dirInsert
  extract_lets -merge x0 x1
  clear_value x0
  have h2 : Eff 18432 s x1 := by
    subst x1
    refine Eff.then ?_ (upd_mnt _ _) (by decide)
    exact Eff.refl
  clear_value x1
  refine Eff.then ?_ (State.updDir_eff _ _ _) (by decide)
  exact h2

theorem State.dirRemove_eff (s : State) (a1) (a2) :
    Eff 16640 s (State.dirRemove s a1 a2) := by
  unfold State.dirRemove
  split
  · rename_i v0 v1 e2
    refine Eff.then ?_ (State.dirWrite_eff _ _ _ _ _) (by decide)
    exact Eff.refl
  · rename_i v3 e4
    refine Eff.then ?_ (State.updDir_eff _ _ _) (by decide)
    exact Eff.refl

theorem State.freshSharer_eff (s : State) (a1) (a2) :
    Eff 16384 s (State.freshSharer s a1 a2) := by
  unfold State.freshSharer
  extract_lets -merge x0 x1
  clear_value x0
  clear_value x1
  refine Eff.then ?_ (upd_dir _ _) (by decide)
  exact Eff.refl

theorem State.dirChange_eff (s : State) (a1) :
    Eff 18688 s (State.dirChange s a1) := by
  unfold State.dirChange
  split
  · rename_i v0 e1
    refine Eff.then ?_ (State.updDir_eff _ _ _) (by decide)
    exact Eff.refl
  · rename_i v2 v3 e4
    refine Eff.then ?_ (State.updDir_eff _ _ _) (by decide)
    refine Eff.then ?_ (State.enqOp_eff _ _ _) (by decide)
    refine Eff.then ?_ (State.freshSharer_eff _ _ _) (by decide)
    exact Eff.refl
  · rename_i v5 v6 v7 v8 v9 v10 e11
    extract_lets -merge x12 x13 x14
    have h15 : Eff 18688 s x12 := by
      subst x12
      refine Eff.then ?_ (State.freshSharer_eff _ _ _) (by decide)
      exact Eff.refl
    clear_value x12
    clear_value x13
    have h16 : Eff 18688 s x14 := by
      subst x14
      refine Eff.then ?_ (upd_dir _ _) (by decide)
      exact h15
    clear_value x14
    split
    · rename_i v17 v18 v19 e20
      refine Eff.ite ?_ ?_
      · refine Eff.then ?_ (State.dirRemove_eff _ _ _) (by decide)
        exact h16
      · split
        · rename_i v21 e22
          refine Eff.then ?_ (State.dirAgain_eff _ _) (by decide)
          exact h16
        · rename_i v23 v24 e25
          extract_lets -merge x26 x27 x28
          clear_value x26
          clear_value x27
          clear_value x28
          refine Eff.then ?_ (State.dirWrite_eff _ _ _ _ _) (by decide)
          exact h16
  · rename_i v29 v30 v31 v32 e33
    split
    · rename_i v34 v35 v36 e37
      refine Eff.then ?_ (State.dirInsert_eff _ _ _) (by decide)
      exact Eff.refl
  · rename_i v38 v39 e40
    refine Eff.then ?_ (State.dirInsert_eff _ _ _) (by decide)
    exact Eff.refl
  · rename_i v41 v42 e43
    refine Eff.then ?_ (State.dirRemove_eff _ _ _) (by decide)
    exact Eff.refl

theorem State.pinStep_eff (s : State) (a1) (a2) :
    Eff 18688 s (State.pinStep s a1 a2) := by
  unfold State.pinStep
  extract_lets -merge x0 x1 x2 x3
  clear_value x0
  clear_value x1
  clear_value x2
  clear_value x3
  refine Eff.ite ?_ ?_
  · exact Eff.refl
  · refine Eff.ite ?_ ?_
    · refine Eff.foldl ?_ ?_
      · exact Eff.refl
      · intro p4 p5 h6
        try beta_reduce
        refine Eff.then ?_ (State.dirWrite_eff _ _ _ _ _) (by decide)
        exact h6
    · split
      · rename_i v7 v8 e9
        refine Eff.then ?_ (State.updDir_eff _ _ _) (by decide)
        refine Eff.then ?_ (State.dirWrite_eff _ _ _ _ _) (by decide)
        exact Eff.refl
      · rename_i v10 e11
        refine Eff.then ?_ (State.updDir_eff _ _ _) (by decide)
        refine Eff.then ?_ (State.dirInsert_eff _ _ _) (by decide)
        exact Eff.refl

theorem State.dirAdvance_eff (s : State) (a1) :
    Eff 18688 s (State.dirAdvance s a1) := by
  unfold State.dirAdvance
  split
  · rename_i v0 e1
    exact Eff.refl
  · rename_i v2 v3 e4
    refine Eff.ite ?_ ?_
    · exact Eff.refl
    · split
      · rename_i v5 v6 v7 e8
        refine Eff.then ?_ (State.updDir_eff _ _ _) (by decide)
        refine Eff.then ?_ (State.dirWrite_eff _ _ _ _ _) (by decide)
        exact Eff.refl
      · rename_i v9 e10
        split
        · rename_i v11 v12 v13 e14
          refine Eff.ite ?_ ?_
          · refine Eff.then ?_ (State.pinStep_eff _ _ _) (by decide)
            exact Eff.refl
          · exact Eff.refl
        · rename_i v15 v16 v17 e18
          refine Eff.ite ?_ ?_
          · refine Eff.then ?_ (State.pinStep_eff _ _ _) (by decide)
            exact Eff.refl
          · exact Eff.refl
        · rename_i v19 e20 e21
          refine Eff.ite ?_ ?_
          · exact Eff.refl
          · refine Eff.then ?_ (State.dirChange_eff _ _) (by decide)
            exact Eff.refl

theorem State.dirBegin_eff (s : State) (a1) (a2) :
    Eff 18756 s (State.dirBegin s a1 a2) := by
  unfold State.dirBegin
  extract_lets -merge x0 x1
  have h2 : Eff 18756 s x0 := by
    subst x0
    refine Eff.then ?_ (State.updDir_eff _ _ _) (by decide)
    exact Eff.refl
  clear_value x0
  have h3 : Eff 18756 s x1 := by
    subst x1
    refine Eff.foldl ?_ ?_
    · exact h2
    · intro p4 p5 h6
      try beta_reduce
      refine Eff.then ?_ (State.snoop_eff _ _ _ _ _) (by decide)
      exact h6
  clear_value x1
  refine Eff.then ?_ (State.dirAdvance_eff _ _) (by decide)
  exact h3

theorem State.dirFound_eff (s : State) (a1) :
    Eff 16392 s (State.dirFound s a1).2 := by
  unfold State.dirFound
  split
  · rename_i v0 v1 v2 e3
    have h4 : Eff 16392 s v2 := by
      refine EffOR.at e3 ?_
      refine EffOR.then ?_ (State.takeInbox_eff _ _) (by decide)
      exact Eff.refl
    extract_lets -merge x5
    clear_value x5
    refine Eff.then ?_ (State.updDir_eff _ _ _) (by decide)
    exact h4
  · rename_i v6 e7
    exact Eff.refl

theorem State.pinBegin_eff (s : State) (a1) (a2) (a3) (a4) :
    Eff 135285068 s (State.pinBegin s a1 a2 a3 a4) := by
  unfold State.pinBegin
  extract_lets -merge x0 x1 x2 x3 x4
  clear_value x0
  clear_value x1
  have h5 : ∀ p0 p1, Eff 135285068 s p0 → Eff 135285068 s (x2 p0 p1) := by
    subst x2
    intro p6 p7 h8
    try beta_reduce
    extract_lets -merge x9 x10 x11
    clear_value x9
    have h12 : Eff 135285068 s x10 := by
      subst x10
      refine Eff.then ?_ (upd_dir _ _) (by decide)
      exact h8
    clear_value x10
    clear_value x11
    refine Eff.then ?_ (State.showClaims_eff _) (by decide)
    refine Eff.then ?_ (State.resolve_eff _ _ _) (by decide)
    exact h12
  clear_value x2
  have h13 : Eff 135285068 s x3 := by
    subst x3
    refine Eff.then ?_ (State.updDir_eff _ _ _) (by decide)
    exact Eff.refl
  clear_value x3
  have h14 : Eff 135285068 s x4 := by
    subst x4
    refine Eff.foldl ?_ ?_
    · exact h13
    · intro p15 p16 h17
      try beta_reduce
      refine Eff.then ?_ (State.snoopEntry_eff _ _ _ _) (by decide)
      exact h17
  clear_value x4
  refine Eff.ite ?_ ?_
  · refine Eff.ite ?_ ?_
    · refine h5 _ _ ?_
      exact Eff.refl
    · refine Eff.then ?_ (State.dirAdvance_eff _ _) (by decide)
      exact h14
  · refine Eff.ite ?_ ?_
    · refine Eff.then ?_ (State.dirAdvance_eff _ _) (by decide)
      refine Eff.then ?_ (State.updDir_eff _ _ _) (by decide)
      exact Eff.refl
    · refine h5 _ _ ?_
      exact Eff.refl

theorem State.dirDecide_eff (s : State) (a1) :
    Eff 135285068 s (State.dirDecide s a1) := by
  unfold State.dirDecide
  split
  · rename_i v0 v1 v2 v3 v4 e5 e6
    refine Eff.then ?_ (State.pinBegin_eff _ _ _ _ _) (by decide)
    exact Eff.refl
  · rename_i v7 v8 v9 v10 v11 e12 e13
    refine Eff.then ?_ (State.pinBegin_eff _ _ _ _ _) (by decide)
    exact Eff.refl
  · rename_i v14 v15 v16 v17 v18 e19 e20
    refine Eff.ite ?_ ?_
    · refine Eff.then ?_ (State.dirLookup_eff _ _ _ _) (by decide)
      refine Eff.then ?_ (State.updDir_eff _ _ _) (by decide)
      exact Eff.refl
    · refine Eff.ite ?_ ?_
      · refine Eff.then ?_ (State.dirBegin_eff _ _ _) (by decide)
        exact Eff.refl
      · refine Eff.ite ?_ ?_
        · refine Eff.ite ?_ ?_
          · refine Eff.then ?_ (State.dirBegin_eff _ _ _) (by decide)
            exact Eff.refl
          · refine Eff.ite ?_ ?_
            · refine Eff.then ?_ (State.dirLookup_eff _ _ _ _) (by decide)
              refine Eff.then ?_ (State.updDir_eff _ _ _) (by decide)
              exact Eff.refl
            · refine Eff.then ?_ (State.dirBegin_eff _ _ _) (by decide)
              exact Eff.refl
        · split
          · rename_i v21 v22 e23
            refine Eff.then ?_ (State.dirBegin_eff _ _ _) (by decide)
            exact Eff.refl
          · rename_i v24 e25
            refine Eff.then ?_ (State.dirLookup_eff _ _ _ _) (by decide)
            refine Eff.then ?_ (State.updDir_eff _ _ _) (by decide)
            exact Eff.refl
  · rename_i v26 v27 e28 e29 e30
    exact Eff.refl

theorem State.dirRequest_eff (s : State) :
    Eff 18756 s (State.dirRequest s) := by
  unfold State.dirRequest
  split
  · rename_i v0 e1
    exact Eff.refl
  · rename_i v2 v3 e4
    refine Eff.ite ?_ ?_
    · exact Eff.refl
    · extract_lets -merge x5 x6
      have h7 : Eff 18756 s x5 := by
        subst x5
        refine Eff.then ?_ (State.updDir_eff _ _ _) (by decide)
        exact Eff.refl
      clear_value x5
      have h8 : Eff 18756 s x6 := by
        subst x6
        split
        · rename_i v9 v10 v11 e12
          refine Eff.then ?_ (State.dirLookup_eff _ _ _ _) (by decide)
          exact h7
        · rename_i v13 v14 v15 e16
          refine Eff.then ?_ (State.dirLookup_eff _ _ _ _) (by decide)
          exact h7
        · rename_i v17 v18 v19 e20
          refine Eff.then ?_ (State.dirLookup_eff _ _ _ _) (by decide)
          exact h7
        · rename_i v21 v22 e23
          extract_lets -merge x24
          have h25 : Eff 18756 s x24 := by
            subst x24
            refine Eff.then ?_ (State.updDir_eff _ _ _) (by decide)
            exact h7
          clear_value x24
          split
          · rename_i v26 v27 e28
            refine Eff.ite ?_ ?_
            · refine Eff.then ?_ (State.dirAdvance_eff _ _) (by decide)
              refine Eff.then ?_ (State.updDir_eff _ _ _) (by decide)
              exact h25
            · refine Eff.then ?_ (State.dirAdvance_eff _ _) (by decide)
              refine Eff.then ?_ (State.snoopEntry_eff _ _ _ _) (by decide)
              exact h25
          · rename_i v29 e30
            refine Eff.then ?_ (State.dirAdvance_eff _ _) (by decide)
            exact h25
        · rename_i v31 v32 e33
          extract_lets -merge x34
          have h35 : Eff 18756 s x34 := by
            subst x34
            refine Eff.then ?_ (State.updDir_eff _ _ _) (by decide)
            exact h7
          clear_value x34
          split
          · rename_i v36 v37 e38
            refine Eff.ite ?_ ?_
            · refine Eff.then ?_ (State.dirAdvance_eff _ _) (by decide)
              refine Eff.then ?_ (State.updDir_eff _ _ _) (by decide)
              exact h35
            · refine Eff.then ?_ (State.dirAdvance_eff _ _) (by decide)
              refine Eff.then ?_ (State.snoopEntry_eff _ _ _ _) (by decide)
              exact h35
          · rename_i v39 e40
            refine Eff.then ?_ (State.dirAdvance_eff _ _) (by decide)
            exact h35
      clear_value x6
      refine Eff.then ?_ (State.showClaims_eff _) (by decide)
      exact h8

theorem execDirRequest_eff (s : State) :
    EffX 18756 s (execDirRequest s) := by
  unfold execDirRequest
  refine whileUp_eff ?_ ?_
  · exact Eff.refl
  · intro p0 h1
    try beta_reduce
    refine Eff.then ?_ (State.dirRequest_eff _) (by decide)
    exact h1

theorem State.dirResolve_eff (s : State) (a1) :
    Eff 135285068 s (State.dirResolve s a1) := by
  unfold State.dirResolve
  split
  · rename_i v0 e1
    exact Eff.refl
  · rename_i v2 v3 e4
    split
    · rename_i v5 v6 v7 e8
      have h9 : Eff 135285068 s v7 := by
        refine EffR.at e8 ?_
        refine Eff.then ?_ (State.dirFound_eff _ _) (by decide)
        exact Eff.refl
      extract_lets -merge x10
      have h11 : Eff 135285068 s x10 := by
        subst x10
        refine Eff.ite ?_ ?_
        · refine Eff.then ?_ (State.dirDecide_eff _ _) (by decide)
          exact h9
        · refine Eff.then ?_ (State.dirAdvance_eff _ _) (by decide)
          exact h9
      clear_value x10
      refine Eff.then ?_ (State.showClaims_eff _) (by decide)
      exact h11

theorem execDirResolve_eff (a0) (s : State) :
    EffX 135285068 s (execDirResolve a0 s) := by
  unfold execDirResolve
  refine whileUp_eff ?_ ?_
  · exact Eff.refl
  · intro p0 h1
    try beta_reduce
    refine Eff.then ?_ (State.dirResolve_eff _ _) (by decide)
    exact h1

theorem State.claimEnd_eff (s : State) (a1) :
    Eff 135284808 s (State.claimEnd s a1) := by
  unfold State.claimEnd
  split
  · rename_i v0 e1
    exact Eff.refl
  · rename_i v2 v3 e4
    extract_lets -merge x5 x6 x7 x8
    have h9 : ∀ p0, Eff 135284808 s p0 → Eff 135284808 s (x5 p0) := by
      subst x5
      intro p10 h11
      try beta_reduce
      refine Eff.then ?_ (upd_dir _ _) (by decide)
      exact h11
    clear_value x5
    clear_value x6
    have h12 : ∀ p0 p1, Eff 135284808 s (x7 p0 p1) := by
      subst x7
      intro p13 p14
      try beta_reduce
      refine Eff.then ?_ (State.resolve_eff _ _ _) (by decide)
      refine h9 _ ?_
      exact Eff.refl
    clear_value x7
    have h15 : Eff 135284808 s x8 := by
      subst x8
      split
      · rename_i v16 v17 v18 v19 e20
        refine h9 _ ?_
        exact Eff.refl
      · rename_i v21 v22 v23 e24 e25
        refine Eff.then ?_ (State.updDir_eff _ _ _) (by decide)
        exact Eff.refl
      · rename_i v26 v27 v28 e29
        refine h12 _ _
      · rename_i v30 v31 v32 e33
        refine h12 _ _
      · rename_i v34 v35 e36
        refine h9 _ ?_
        exact Eff.refl
      · rename_i v37 v38 e39
        refine h9 _ ?_
        exact Eff.refl
    clear_value x8
    refine Eff.then ?_ (State.showClaims_eff _) (by decide)
    exact h15

theorem execDirClaimEnd_eff (a0) (s : State) :
    EffX 135284808 s (execDirClaimEnd a0 s) := by
  unfold execDirClaimEnd
  refine whileUp_eff ?_ ?_
  · exact Eff.refl
  · intro p0 h1
    try beta_reduce
    refine Eff.then ?_ (State.claimEnd_eff _ _) (by decide)
    exact h1

theorem State.ageRemoval_eff (s : State) (a1) :
    Eff 18772 s (State.ageRemoval s a1) := by
  unfold State.ageRemoval
  refine Eff.ite ?_ ?_
  · exact Eff.refl
  · extract_lets -merge x0 x1
    clear_value x0
    have h2 : Eff 18772 s x1 := by
      subst x1
      refine Eff.then ?_ (upd_dir _ _) (by decide)
      exact Eff.refl
    clear_value x1
    split
    · rename_i v3 e4
      exact h2
    · rename_i v5 v6 e7
      extract_lets -merge x8 x9
      clear_value x8
      clear_value x9
      refine Eff.ite ?_ ?_
      · exact h2
      · refine Eff.ite ?_ ?_
        · exact Eff.refl
        · refine Eff.then ?_ (State.dirRequest_eff _) (by decide)
          refine Eff.then ?_ (State.dirEnter_eff _ _ _ _ _) (by decide)
          exact h2

theorem execDirAgeRemoval_eff (a0) (s : State) :
    EffX 18772 s (execDirAgeRemoval a0 s) := by
  unfold execDirAgeRemoval
  refine whileUp_eff ?_ ?_
  · exact Eff.refl
  · intro p0 h1
    try beta_reduce
    refine Eff.then ?_ (State.ageRemoval_eff _ _) (by decide)
    exact h1

theorem State.snoopDone_eff (s : State) (a1) (a2) :
    Eff 18752 s (State.snoopDone s a1 a2) := by
  unfold State.snoopDone
  split
  · rename_i v0 e1
    exact Eff.refl
  · rename_i v2 v3 e4
    split
    · rename_i v5 e6
      exact Eff.refl
    · rename_i v7 v8 e9
      extract_lets -merge x10
      have h11 : Eff 18752 s x10 := by
        subst x10
        refine Eff.then ?_ (State.updDir_eff _ _ _) (by decide)
        exact Eff.refl
      clear_value x10
      refine Eff.then ?_ (State.dirAdvance_eff _ _) (by decide)
      refine Eff.then ?_ (State.setF_eff _ _ _) (by decide)
      exact h11

theorem State.biTimeout_eff (s : State) (a1) (a2) :
    Eff 268978500 s (State.biTimeout s a1 a2) := by
  unfold State.biTimeout
  extract_lets -merge x0 x1 x2
  clear_value x0
  have h3 : Eff 268978500 s x1 := by
    subst x1
    refine Eff.then ?_ (State.inc_eff _ _ _) (by decide)
    refine Eff.then ?_ (State.raise_eff _ _ _ _) (by decide)
    exact Eff.refl
  clear_value x1
  have h4 : Eff 268978500 s x2 := by
    subst x2
    refine Eff.then ?_ (State.poisonLine_eff _ _) (by decide)
    exact h3
  clear_value x2
  split
  · rename_i v5 e6
    exact Eff.refl
  · rename_i v7 v8 e9
    extract_lets -merge x10
    have h11 : Eff 268978500 s x10 := by
      subst x10
      refine Eff.then ?_ (State.updDir_eff _ _ _) (by decide)
      exact h4
    clear_value x10
    refine Eff.then ?_ (State.snoopDone_eff _ _ _) (by decide)
    exact h11

theorem execDirBiTimeout_eff (a0) (a1) (s : State) :
    EffX 268978500 s (execDirBiTimeout a0 a1 s) := by
  unfold execDirBiTimeout
  refine whileUp_eff ?_ ?_
  · exact Eff.refl
  · intro p0 h1
    try beta_reduce
    refine Eff.then ?_ (State.biTimeout_eff _ _ _) (by decide)
    exact h1

theorem State.dirPin_eff (s : State) (a1) (a2) (a3) (a4) :
    Eff 135284760 s (State.dirPin s a1 a2 a3 a4) := by
  unfold State.dirPin
  extract_lets -merge x0 x1 x2 x3
  clear_value x0
  clear_value x1
  clear_value x2
  clear_value x3
  refine Eff.ite ?_ ?_
  · refine Eff.then ?_ (State.resolve_eff _ _ _) (by decide)
    exact Eff.refl
  · refine Eff.then ?_ (State.dirEnter_eff _ _ _ _ _) (by decide)
    exact Eff.refl

theorem execDirPin_eff (a0) (a1) (s : State) :
    EffX 135288856 s (execDirPin a0 a1 s) := by
  unfold execDirPin
  refine whileUp_eff ?_ ?_
  · exact Eff.refl
  · intro p0 h1
    try beta_reduce
    refine State.runDesc_eff ?_ ?_
    · exact h1
    · intro p2 p3 h4
      try beta_reduce
      refine EffO.some ?_
      refine Eff.then ?_ (State.dirPin_eff _ _ _ _ _) (by decide)
      exact h4

theorem execDirUnpin_eff (a0) (a1) (s : State) :
    EffX 135288856 s (execDirUnpin a0 a1 s) := by
  unfold execDirUnpin
  refine whileUp_eff ?_ ?_
  · exact Eff.refl
  · intro p0 h1
    try beta_reduce
    refine State.runDesc_eff ?_ ?_
    · exact h1
    · intro p2 p3 h4
      try beta_reduce
      refine EffO.some ?_
      refine Eff.then ?_ (State.dirPin_eff _ _ _ _ _) (by decide)
      exact h4

end Sys2Proof.Machine
end

