-- ==== Sys2Proof/Laws/EffTrie.lean ====
section
/-! SUPPORT. What the functions of Machine/Trie.lean may change: bit i of a mask is component i of `Comp.idx`.
The theorems are checked one after another: each is small, and the joined text has many. -/

set_option Elab.async false

namespace Sys2Proof.Machine

theorem State.trieParity_eff (s : State) (a1) (a2) :
    Eff 268992582 s (State.trieParity s a1 a2).2 := by
  unfold State.trieParity
  split
  · rename_i v0 e1
    exact Eff.refl
  · rename_i v2 v3 v4 e5
    split
    · rename_i v6 v7 v8 e9
      have h10 : Eff 268992582 s v8 := by
        refine EffR.at e9 ?_
        refine Eff.then ?_ (State.free_eff _) (by decide)
        exact Eff.refl
      refine EffR.ite ?_ ?_
      · extract_lets -merge x11 x12 x13
        have h14 : Eff 268992582 s x11 := by
          subst x11
          refine Eff.then ?_ (State.raise_eff _ _ _ _) (by decide)
          exact h10
        clear_value x11
        clear_value x12
        clear_value x13
        refine Eff.then ?_ (upd_trie _ _) (by decide)
        exact h14
      · exact h10

theorem State.trieEnds_eff (s : State) (a1) (a2) :
    Eff 135310600 s (State.trieEnds s a1 a2) := by
  unfold State.trieEnds
  split
  · rename_i v0 v1 e2
    refine Eff.then ?_ (State.failLoad_eff _ _ _) (by decide)
    exact Eff.refl
  · rename_i v3 v4 v5 v6 e7 e8
    refine Eff.then ?_ (State.mirApplied_eff _ _ _) (by decide)
    exact Eff.refl
  · rename_i v9 v10 e11 e12
    refine Eff.then ?_ (State.resolve_eff _ _ _) (by decide)
    exact Eff.refl

theorem State.trieTake_eff (s : State) (a1) :
    Eff 135310600 s (State.trieTake s a1) := by
  unfold State.trieTake
  split
  · rename_i v0 v1 v2 e3 e4
    extract_lets -merge x5 x6 x7 x8 x9 x10 x11 x12 x13 x14
    clear_value x5
    have h15 : Eff 135310600 s x6 := by
      subst x6
      refine Eff.then ?_ (upd_trie _ _) (by decide)
      exact Eff.refl
    clear_value x6
    clear_value x7
    clear_value x8
    clear_value x9
    have h16 : Eff 135310600 s x10 := by
      subst x10
      split
      · rename_i v17 v18 v19 e20 e21
        refine Eff.then ?_ (State.frameRecords_eff _ _ _ _) (by decide)
        exact h15
      · rename_i v22 v23 e24
        exact h15
    clear_value x10
    have h25 : Eff 135310600 s x11.1 := by
      subst x11
      refine Eff.then ?_ (State.mirFrame_eff _ _) (by decide)
      exact h16
    clear_value x11
    have h26 : Eff 135310600 s x12.1 := by
      subst x12
      refine EffL.ite ?_ ?_
      · exact h25
      · exact h15
    clear_value x12
    have h27 : Eff 135310600 s x13 := by
      subst x13
      exact h26
    clear_value x13
    clear_value x14
    split
    · rename_i v28 v29 e30
      refine Eff.then ?_ (State.trieEnds_eff _ _ _) (by decide)
      exact h15
    · rename_i v31 v32 e33
      extract_lets -merge x34 x35 x36 x37 x38
      clear_value x34
      clear_value x35
      clear_value x36
      clear_value x37
      clear_value x38
      refine Eff.ite ?_ ?_
      · refine Eff.then ?_ (State.trieEnds_eff _ _ _) (by decide)
        exact h15
      · refine Eff.then ?_ (upd_trie _ _) (by decide)
        exact h27
  · rename_i v39 v40 e41
    exact Eff.refl

theorem execTrieMutationTake_eff (a0) (s : State) :
    EffX 135310600 s (execTrieMutationTake a0 s) := by
  unfold execTrieMutationTake
  refine whileUp_eff ?_ ?_
  · exact Eff.refl
  · intro p0 h1
    try beta_reduce
    refine Eff.then ?_ (State.trieTake_eff _ _) (by decide)
    exact h1

theorem State.dropCached_eff (s : State) (a1) (a2) :
    Eff 4194304 s (State.dropCached s a1 a2) := by
  unfold State.dropCached
  refine Eff.then ?_ (upd_tier _ _) (by decide)
  exact Eff.refl

theorem State.prefixChange_eff (s : State) (a1) (a2) (a3) (a4) (a5) :
    Eff 403177540 s (State.prefixChange s a1 a2 a3 a4 a5).1 := by
  unfold State.prefixChange
  extract_lets -merge x0 x1 x2
  clear_value x0
  have h3 : Eff 403177540 s x1.1 := by
    subst x1
    refine Eff.then ?_ (State.mirFrame_eff _ _) (by decide)
    exact Eff.refl
  clear_value x1
  have h4 : Eff 403177540 s x2.1 := by
    subst x2
    refine EffL.ite ?_ ?_
    · exact h3
    · exact Eff.refl
  clear_value x2
  refine Eff.then ?_ (State.journal_eff _ _ _) (by decide)
  exact h4

theorem State.trieSwap_eff (s : State) (a1) :
    Eff 408456270 s (State.trieSwap s a1) := by
  unfold State.trieSwap
  split
  · rename_i v0 e1
    exact Eff.refl
  · rename_i v2 v3 e4
    refine Eff.ite ?_ ?_
    · exact Eff.refl
    · extract_lets -merge x5 x6 x7 x8
      clear_value x5
      have h9 : Eff 408456270 s x6 := by
        subst x6
        refine Eff.then ?_ (upd_trie _ _) (by decide)
        exact Eff.refl
      clear_value x6
      have h10 : Eff 408456270 s x7 := by
        subst x7
        refine Eff.then ?_ (State.updTb_eff _ _ _) (by decide)
        exact h9
      clear_value x7
      have h11 : ∀ p0 p1, Eff 408456270 s p0 → Eff 408456270 s (x8 p0 p1) := by
        subst x8
        intro p12 p13 h14
        try beta_reduce
        split
        · rename_i v15 v16 v17 e18
          refine Eff.then ?_ (State.mirApplied_eff _ _ _) (by decide)
          exact h14
        · rename_i v19 e20
          refine Eff.then ?_ (State.endMut_eff _ _ _ _ _) (by decide)
          exact h14
      clear_value x8
      split
      · rename_i v21 v22 v23 v24 v25 e26
        extract_lets -merge x27 x28
        have h29 : Eff 408456270 s x27 := by
          subst x27
          refine Eff.ite ?_ ?_
          · refine Eff.then ?_ (State.dropCached_eff _ _ _) (by decide)
            exact h10
          · exact h10
        clear_value x27
        have h30 : Eff 408456270 s x28.1 := by
          subst x28
          refine Eff.then ?_ (State.prefixChange_eff _ _ _ _ _ _) (by decide)
          exact h29
        clear_value x28
        refine h11 _ _ ?_
        exact h30
      · rename_i v31 v32 v33 e34
        extract_lets -merge x35 x36
        have h37 : Eff 408456270 s x35 := by
          subst x35
          refine Eff.ite ?_ ?_
          · refine Eff.then ?_ (State.dropCached_eff _ _ _) (by decide)
            exact h10
          · exact h10
        clear_value x35
        have h38 : Eff 408456270 s x36.1 := by
          subst x36
          refine Eff.then ?_ (State.prefixChange_eff _ _ _ _ _ _) (by decide)
          exact h37
        clear_value x36
        refine h11 _ _ ?_
        exact h38
      · rename_i v39 e40 e41
        split
        · rename_i v42 v43 e44
          extract_lets -merge x45 x46 x47
          have h48 : Eff 408456270 s x45 := by
            subst x45
            refine Eff.ite ?_ ?_
            · refine Eff.foldl ?_ ?_
              · exact h10
              · intro p49 p50 h51
                try beta_reduce
                refine Eff.then ?_ (State.dropCached_eff _ _ _) (by decide)
                exact h51
            · exact h10
          clear_value x45
          have h52 : Eff 408456270 s x46.1 := by
            subst x46
            refine Eff.then ?_ (State.frameLoad_eff _ _ _) (by decide)
            exact h48
          clear_value x46
          have h53 : Eff 408456270 s x47 := by
            subst x47
            refine Eff.foldl ?_ ?_
            · exact h52
            · intro p54 p55 h56
              try beta_reduce
              refine Eff.then ?_ (State.journal_eff _ _ _) (by decide)
              exact h56
          clear_value x47
          refine Eff.then ?_ (State.loadDone_eff _ _ _ _) (by decide)
          exact h53
        · rename_i v57 e58
          exact h10

theorem execTrieSwap_eff (a0) (s : State) :
    EffX 408456270 s (execTrieSwap a0 s) := by
  unfold execTrieSwap
  refine whileUp_eff ?_ ?_
  · exact Eff.refl
  · intro p0 h1
    try beta_reduce
    refine Eff.then ?_ (State.trieSwap_eff _ _) (by decide)
    exact h1

theorem State.swapsDue_eff (s : State) :
    Eff 408456270 s (State.swapsDue s) := by
  unfold State.swapsDue
  refine Eff.foldl ?_ ?_
  · exact Eff.refl
  · intro p0 p1 h2
    try beta_reduce
    refine Eff.then ?_ (State.trieSwap_eff _ _) (by decide)
    exact h2

theorem State.trieAdmit_eff (s : State) :
    Eff 408456270 s (State.trieAdmit s) := by
  unfold State.trieAdmit
  extract_lets -merge x0
  have h1 : Eff 408456270 s x0 := by
    subst x0
    refine Eff.then ?_ (State.swapsDue_eff _) (by decide)
    exact Eff.refl
  clear_value x0
  split
  · rename_i v2 e3
    exact h1
  · rename_i v4 v5 e6
    split
    · rename_i v7 v8 v9 e10
      have h11 : Eff 408456270 s v9 := by
        refine EffR.at e10 ?_
        refine Eff.then ?_ (State.trieParity_eff _ _ _) (by decide)
        exact h1
      refine Eff.then ?_ (upd_trie _ _) (by decide)
      exact h11

theorem execTrieAdmit_eff (s : State) :
    EffX 408456270 s (execTrieAdmit s) := by
  unfold execTrieAdmit
  refine whileServing_eff ?_ ?_
  · exact Eff.refl
  · intro p0 h1
    try beta_reduce
    refine Eff.then ?_ (State.trieAdmit_eff _) (by decide)
    exact h1

theorem State.trieDeliver_eff (s : State) :
    Eff 135301128 s (State.trieDeliver s) := by
  unfold State.trieDeliver
  split
  · rename_i v0 e1
    exact Eff.refl
  · rename_i v2 v3 e4
    refine Eff.then ?_ (State.resolve_eff _ _ _) (by decide)
    refine Eff.then ?_ (upd_trie _ _) (by decide)
    exact Eff.refl

theorem execTrieLookupDeliver_eff (s : State) :
    EffX 135301128 s (execTrieLookupDeliver s) := by
  unfold execTrieLookupDeliver
  refine whileUp_eff ?_ ?_
  · exact Eff.refl
  · intro p0 h1
    try beta_reduce
    refine Eff.then ?_ (State.trieDeliver_eff _) (by decide)
    exact h1

theorem State.nodeFree_eff (s : State) (a1) :
    Eff 32768 s (State.nodeFree s a1) := by
  unfold State.nodeFree
  refine Eff.then ?_ (upd_trie _ _) (by decide)
  exact Eff.refl

theorem execTrieNodeFree_eff (a0) (s : State) :
    EffX 32768 s (execTrieNodeFree a0 s) := by
  unfold execTrieNodeFree
  refine whileUp_eff ?_ ?_
  · exact Eff.refl
  · intro p0 h1
    try beta_reduce
    refine Eff.then ?_ (State.nodeFree_eff _ _) (by decide)
    exact h1

theorem State.directWrite_eff (s : State) (a1) (a2) (a3) :
    Eff 404293708 s (State.directWrite s a1 a2 a3) := by
  unfold State.directWrite
  extract_lets -merge x0 x1 x2 x3 x4 x5 x6 x7
  clear_value x0
  have h8 : ∀ p0 p1 p2, Eff 404293708 s p0 → Eff 404293708 s (x1 p0 p1 p2) := by
    subst x1
    intro p9 p10 p11 h12
    try beta_reduce
    split
    · rename_i v13 v14 v15 e16
      refine Eff.then ?_ (State.mirApplied_eff _ _ _) (by decide)
      exact h12
    · rename_i v17 e18
      refine Eff.then ?_ (State.endMut_eff _ _ _ _ _) (by decide)
      exact h12
  clear_value x1
  clear_value x2
  have h19 : Eff 404293708 s x3 := by
    subst x3
    refine Eff.then ?_ (State.setDword_eff _ _ _) (by decide)
    exact Eff.refl
  clear_value x3
  clear_value x4
  have h20 : Eff 404293708 s x5.1 := by
    subst x5
    refine Eff.then ?_ (State.mirFrame_eff _ _) (by decide)
    exact h19
  clear_value x5
  have h21 : Eff 404293708 s x6.1 := by
    subst x6
    refine EffL.ite ?_ ?_
    · exact h20
    · exact h19
  clear_value x6
  have h22 : Eff 404293708 s x7 := by
    subst x7
    refine Eff.then ?_ (State.journal_eff _ _ _) (by decide)
    exact h21
  clear_value x7
  refine Eff.ite ?_ ?_
  · refine h8 _ _ _ ?_
    exact Eff.refl
  · refine h8 _ _ _ ?_
    exact h22

theorem State.directFinds_eff (s : State) (a1) :
    Eff 268959812 s (State.directFinds s a1).2 := by
  unfold State.directFinds
  extract_lets -merge x0 x1 x2 x3 x4 x5 x6
  clear_value x0
  clear_value x1
  clear_value x2
  clear_value x3
  clear_value x4
  clear_value x5
  clear_value x6
  refine EffR.ite ?_ ?_
  · exact Eff.refl
  · refine EffR.ite ?_ ?_
    · exact Eff.refl
    · refine EffR.ite ?_ ?_
      · refine Eff.then ?_ (State.raise_eff _ _ _ _) (by decide)
        exact Eff.refl
      · exact Eff.refl

theorem State.directAccess_eff (s : State) (a1) :
    Eff 404293708 s (State.directAccess s a1) := by
  unfold State.directAccess
  split
  · rename_i v0 e1
    exact Eff.refl
  · rename_i v2 v3 e4
    extract_lets -merge x5 x6
    clear_value x5
    have h7 : Eff 404293708 s x6 := by
      subst x6
      refine Eff.then ?_ (State.useBank_eff _ _) (by decide)
      refine Eff.then ?_ (upd_dsram _ _) (by decide)
      exact Eff.refl
    clear_value x6
    split
    · rename_i v8 v9 v10 e11
      refine Eff.then ?_ (State.directWrite_eff _ _ _ _) (by decide)
      exact h7
    · rename_i v12 e13
      split
      · rename_i v14 v15 v16 e17
        have h18 : Eff 404293708 s v16 := by
          refine EffR.at e17 ?_
          refine Eff.then ?_ (State.directFinds_eff _ _) (by decide)
          exact h7
        refine Eff.then ?_ (upd_dsram _ _) (by decide)
        exact h18

theorem execDirectAccess_eff (a0) (s : State) :
    EffX 404293708 s (execDirectAccess a0 s) := by
  unfold execDirectAccess
  refine whileServing_eff ?_ ?_
  · exact Eff.refl
  · intro p0 h1
    try beta_reduce
    refine Eff.then ?_ (State.directAccess_eff _ _) (by decide)
    exact h1

theorem State.directDeliver_eff (s : State) :
    Eff 135333896 s (State.directDeliver s) := by
  unfold State.directDeliver
  split
  · rename_i v0 e1
    exact Eff.refl
  · rename_i v2 v3 e4
    refine Eff.then ?_ (State.resolve_eff _ _ _) (by decide)
    refine Eff.then ?_ (upd_dsram _ _) (by decide)
    exact Eff.refl

theorem execDirectLookupDeliver_eff (s : State) :
    EffX 135333896 s (execDirectLookupDeliver s) := by
  unfold execDirectLookupDeliver
  refine whileUp_eff ?_ ?_
  · exact Eff.refl
  · intro p0 h1
    try beta_reduce
    refine Eff.then ?_ (State.directDeliver_eff _) (by decide)
    exact h1

end Sys2Proof.Machine
end

