-- ==== Sys2Proof/Laws/EffPlace.lean ====
section
/-! SUPPORT. What the functions of Machine/Place.lean may change: bit i of a mask is component i of `Comp.idx`.
The theorems are checked one after another: each is small, and the joined text has many. -/

set_option Elab.async false

namespace Sys2Proof.Machine

theorem State.answerData_eff (s : State) (a1) (a2) (a3) (a4) (a5) :
    Eff 4 s (State.answerData s a1 a2 a3 a4 a5) := by
  unfold State.answerData
  refine Eff.ite ?_ ?_
  · exact Eff.refl
  · refine Eff.then ?_ (State.send_eff _ _) (by decide)
    exact Eff.refl

theorem State.answerCmp_eff (s : State) (a1) (a2) (a3) (a4) :
    Eff 4 s (State.answerCmp s a1 a2 a3 a4) := by
  unfold State.answerCmp
  refine Eff.ite ?_ ?_
  · exact Eff.refl
  · refine Eff.then ?_ (State.send_eff _ _) (by decide)
    exact Eff.refl

theorem State.freeLine_eff (s : State) :
    Eff 2 s (State.freeLine s).2 := by
  unfold State.freeLine
  refine EffR.foldl ?_ ?_
  · exact Eff.refl
  · intro p0 p1 h2
    try beta_reduce
    extract_lets -merge x3
    have h4 : Eff 2 s x3.2 := by
      subst x3
      refine Eff.then ?_ (State.free_eff _) (by decide)
      exact h2
    clear_value x3
    exact h4

theorem State.answerDead_eff (s : State) (a1) :
    Eff 6 s (State.answerDead s a1) := by
  unfold State.answerDead
  refine Eff.ite ?_ ?_
  · refine Eff.then ?_ (State.answerCmp_eff _ _ _ _ _) (by decide)
    exact Eff.refl
  · extract_lets -merge x0
    have h1 : Eff 6 s x0.2 := by
      subst x0
      refine Eff.then ?_ (State.freeLine_eff _) (by decide)
      exact Eff.refl
    clear_value x0
    refine Eff.then ?_ (State.answerData_eff _ _ _ _ _ _) (by decide)
    exact h1

theorem State.redirect_eff (s : State) (a1) (a2) (a3) :
    Eff 415760390 s (State.redirect s a1 a2 a3) := by
  unfold State.redirect
  refine Eff.ite ?_ ?_
  · refine Eff.then ?_ (State.answerDead_eff _ _) (by decide)
    exact Eff.refl
  · extract_lets -merge x0 x1 x2
    have h3 : Eff 415760390 s x0 := by
      subst x0
      refine Eff.ite ?_ ?_
      · refine Eff.then ?_ (State.putLine_eff _ _ _ _) (by decide)
        exact Eff.refl
      · exact Eff.refl
    clear_value x0
    clear_value x1
    have h4 : Eff 415760390 s x2 := by
      subst x2
      refine Eff.then ?_ (upd_pair _ _) (by decide)
      exact h3
    clear_value x2
    refine Eff.then ?_ (State.linkSend_eff _ _) (by decide)
    exact h4

theorem State.holdReq_eff (s : State) (a1) (a2) :
    Eff 4194304 s (State.holdReq s a1 a2) := by
  unfold State.holdReq
  refine Eff.then ?_ (upd_tier _ _) (by decide)
  exact Eff.refl

theorem State.zeroHold_eff (s : State) (a1) (a2) :
    Eff 4194304 s (State.zeroHold s a1 a2) := by
  unfold State.zeroHold
  refine Eff.then ?_ (upd_tier _ _) (by decide)
  exact Eff.refl

theorem State.placeWrite_eff (s : State) (a1) (a2) (a3) :
    Eff 449314884 s (State.placeWrite s a1 a2 a3) := by
  unfold State.placeWrite
  extract_lets -merge x0 x1 x2 x3
  clear_value x0
  clear_value x1
  have h4 : Eff 449314884 s x2.1 := by
    subst x2
    refine Eff.then ?_ (State.writePage_eff _ _ _ _ _ _) (by decide)
    exact Eff.refl
  clear_value x2
  have h5 : Eff 449314884 s x3 := by
    subst x3
    refine Eff.ite ?_ ?_
    · refine Eff.then ?_ (State.markDirty_eff _ _) (by decide)
      exact h4
    · exact h4
  clear_value x3
  refine Eff.ite ?_ ?_
  · refine Eff.then ?_ (State.forwardWrite_eff _ _ _ _ _) (by decide)
    exact Eff.refl
  · split
    · rename_i v6 e7
      refine Eff.then ?_ (State.holdReq_eff _ _ _) (by decide)
      exact h4
    · rename_i v8 e9
      refine Eff.then ?_ (State.zeroHold_eff _ _ _) (by decide)
      exact h4
    · rename_i v10 e11
      refine Eff.ite ?_ ?_
      · refine Eff.then ?_ (State.mirrorCopy_eff _ _ _ _ _) (by decide)
        exact h4
      · refine Eff.then ?_ (State.answerCmp_eff _ _ _ _ _) (by decide)
        exact h5

theorem State.placeRead_eff (s : State) (a1) (a2) :
    Eff 302514180 s (State.placeRead s a1 a2) := by
  unfold State.placeRead
  extract_lets -merge x0 x1
  have h2 : Eff 302514180 s x0 := by
    subst x0
    refine Eff.then ?_ (State.decodeCheck_eff _ _) (by decide)
    exact Eff.refl
  clear_value x0
  clear_value x1
  refine Eff.ite ?_ ?_
  · refine Eff.then ?_ (State.answerData_eff _ _ _ _ _ _) (by decide)
    exact h2
  · refine Eff.ite ?_ ?_
    · refine Eff.then ?_ (State.dramPush_eff _ _) (by decide)
      exact h2
    · refine Eff.then ?_ (State.answerData_eff _ _ _ _ _ _) (by decide)
      exact h2

theorem State.placeNow_eff (s : State) (a1) (a2) (a3) (a4) :
    Eff 449314886 s (State.placeNow s a1 a2 a3 a4) := by
  unfold State.placeNow
  extract_lets -merge x0 x1 x2
  clear_value x0
  clear_value x1
  have h3 : Eff 449314886 s x2 := by
    subst x2
    refine Eff.ite ?_ ?_
    · exact Eff.refl
    · refine Eff.then ?_ (State.touch_eff _ _) (by decide)
      exact Eff.refl
  clear_value x2
  refine Eff.ite ?_ ?_
  · refine Eff.ite ?_ ?_
    · refine Eff.then ?_ (State.answerCmp_eff _ _ _ _ _) (by decide)
      refine Eff.then ?_ (State.raise_eff _ _ _ _) (by decide)
      exact Eff.refl
    · refine Eff.then ?_ (State.answerDead_eff _ _) (by decide)
      exact Eff.refl
  · refine Eff.ite ?_ ?_
    · refine Eff.then ?_ (upd_pair _ _) (by decide)
      exact Eff.refl
    · refine Eff.ite ?_ ?_
      · refine Eff.then ?_ (State.redirect_eff _ _ _ _) (by decide)
        exact Eff.refl
      · refine Eff.ite ?_ ?_
        · refine Eff.then ?_ (State.holdReq_eff _ _ _) (by decide)
          exact h3
        · refine Eff.ite ?_ ?_
          · refine Eff.then ?_ (State.placeWrite_eff _ _ _ _) (by decide)
            exact h3
          · refine Eff.then ?_ (State.placeRead_eff _ _ _) (by decide)
            exact h3

theorem State.place_eff (s : State) (a1) (a2) (a3) :
    Eff 449347654 s (State.place s a1 a2 a3) := by
  unfold State.place
  split
  · rename_i v0 e1
    exact Eff.refl
  · rename_i v2 v3 e4
    extract_lets -merge x5 x6
    clear_value x5
    have h7 : Eff 449347654 s x6 := by
      subst x6
      refine Eff.then ?_ (State.takeSlot_eff _) (by decide)
      exact Eff.refl
    clear_value x6
    refine Eff.ite ?_ ?_
    · refine Eff.then ?_ (State.placeNow_eff _ _ _ _ _) (by decide)
      refine Eff.then ?_ (State.cacheUse_eff _ _) (by decide)
      exact Eff.refl
    · refine Eff.ite ?_ ?_
      · refine Eff.then ?_ (State.holdReq_eff _ _ _) (by decide)
        refine Eff.ite ?_ ?_
        · exact Eff.refl
        · refine Eff.then ?_ (State.touch_eff _ _) (by decide)
          exact Eff.refl
      · split
        · rename_i v8 v9 e10
          refine Eff.then ?_ (State.placeNow_eff _ _ _ _ _) (by decide)
          refine Eff.then ?_ (State.cacheInstall_eff _ _) (by decide)
          refine Eff.then ?_ (State.inc_eff _ _ _) (by decide)
          exact h7
        · rename_i v11 v12 e13
          extract_lets -merge x14 x15
          have h16 : Eff 449347654 s x14 := by
            subst x14
            refine Eff.ite ?_ ?_
            · refine Eff.then ?_ (State.inc_eff _ _ _) (by decide)
              exact h7
            · refine Eff.then ?_ (State.refillReq_eff _ _ _) (by decide)
              exact h7
          clear_value x14
          clear_value x15
          refine Eff.then ?_ (upd_tier _ _) (by decide)
          exact h16
        · rename_i v17 e18 e19
          refine Eff.then ?_ (State.answerDead_eff _ _) (by decide)
          refine Eff.then ?_ (State.raise_eff _ _ _ _) (by decide)
          exact h7

theorem State.cmpWait_eff (s : State) (a1) :
    Eff 4 s (State.cmpWait s a1) := by
  unfold State.cmpWait
  split
  · rename_i v0 v1 v2 e3
    refine Eff.then ?_ (State.answerCmp_eff _ _ _ _ _) (by decide)
    exact Eff.refl
  · rename_i v4 e5
    exact Eff.refl

theorem State.memWrIn_eff (s : State) (a1) :
    Eff 449314884 s (State.memWrIn s a1) := by
  unfold State.memWrIn
  split
  · rename_i v0 v1 v2 v3 v4 v5
    extract_lets -merge x6 x7 x8 x9 x10
    clear_value x6
    have h11 : Eff 449314884 s x7.1 := by
      subst x7
      refine Eff.then ?_ (State.writePage_eff _ _ _ _ _ _) (by decide)
      exact Eff.refl
    clear_value x7
    have h12 : Eff 449314884 s x8 := by
      subst x8
      exact h11
    clear_value x8
    have h13 : Eff 449314884 s x9 := by
      subst x9
      refine Eff.then ?_ (State.linkSend_eff _ _) (by decide)
      exact h12
    clear_value x9
    clear_value x10
    refine Eff.ite ?_ ?_
    · refine Eff.then ?_ (State.holdReq_eff _ _ _) (by decide)
      exact Eff.refl
    · split
      · rename_i v14 e15
        refine Eff.then ?_ (State.holdReq_eff _ _ _) (by decide)
        exact h11
      · rename_i v16 e17
        refine Eff.then ?_ (State.zeroHold_eff _ _ _) (by decide)
        exact h11
      · rename_i v18 e19
        refine Eff.ite ?_ ?_
        · split
          · rename_i v20 v21 e22
            refine Eff.then ?_ (State.cmpWait_eff _ _) (by decide)
            refine Eff.then ?_ (upd_pair _ _) (by decide)
            exact h13
          · rename_i v23 e24
            exact h13
        · refine Eff.then ?_ (State.mirrorCopy_eff _ _ _ _ _) (by decide)
          exact h12
  · rename_i v25 e26
    exact Eff.refl

theorem State.resume_eff (s : State) (a1) (a2) :
    Eff 449347654 s (State.resume s a1 a2) := by
  unfold State.resume
  split
  · rename_i v0 v1 v2 v3 v4 v5
    refine Eff.then ?_ (State.memWrIn_eff _ _) (by decide)
    exact Eff.refl
  · rename_i v6 e7
    refine Eff.then ?_ (State.place_eff _ _ _ _) (by decide)
    exact Eff.refl

theorem State.releaseHolds_eff (s : State) :
    Eff 449347654 s (State.releaseHolds s) := by
  unfold State.releaseHolds
  refine Eff.foldl ?_ ?_
  · refine Eff.then ?_ (upd_tier _ _) (by decide)
    exact Eff.refl
  · intro p0 p1 h2
    try beta_reduce
    refine Eff.ite ?_ ?_
    · refine Eff.then ?_ (State.holdReq_eff _ _ _) (by decide)
      exact h2
    · refine Eff.then ?_ (State.resume_eff _ _ _) (by decide)
      exact h2

theorem State.retryZero_eff (s : State) :
    Eff 449347654 s (State.retryZero s) := by
  unfold State.retryZero
  refine Eff.foldl ?_ ?_
  · refine Eff.then ?_ (upd_tier _ _) (by decide)
    exact Eff.refl
  · intro p0 p1 h2
    try beta_reduce
    refine Eff.ite ?_ ?_
    · refine Eff.then ?_ (State.zeroHold_eff _ _ _) (by decide)
      exact h2
    · refine Eff.then ?_ (State.resume_eff _ _ _) (by decide)
      exact h2

theorem State.markMap_eff (s : State) (a1) (a2) :
    Eff 4194304 s (State.markMap s a1 a2) := by
  unfold State.markMap
  extract_lets -merge x0 x1
  clear_value x0
  clear_value x1
  refine Eff.then ?_ (upd_tier _ _) (by decide)
  exact Eff.refl

theorem State.mapRead_eff (s : State) (a1) (a2) :
    Eff 302514246 s (State.mapRead s a1 a2) := by
  unfold State.mapRead
  split
  · rename_i v0 e1
    exact Eff.refl
  · rename_i v2 v3 e4
    extract_lets -merge x5 x6
    clear_value x5
    have h7 : Eff 302514246 s x6 := by
      subst x6
      refine Eff.then ?_ (State.enterAll_eff _) (by decide)
      refine Eff.then ?_ (upd_dram _ _) (by decide)
      exact Eff.refl
    clear_value x6
    split
    · rename_i v8
      refine Eff.then ?_ (State.eccCorrected_eff _ _ _ _ _) (by decide)
      exact h7
    · rename_i v9
      refine Eff.then ?_ (State.eccUncorrectable_eff _ _ _ _) (by decide)
      exact h7
    · rename_i v10
      exact h7
    · rename_i v11
      exact h7

theorem State.refill_eff (s : State) (a1) (a2) (a3) :
    Eff 449347654 s (State.refill s a1 a2 a3) := by
  unfold State.refill
  extract_lets -merge x0 x1 x2 x3 x4 x5 x6 x7 x8
  clear_value x0
  clear_value x1
  have h9 : Eff 449347654 s x2 := by
    subst x2
    refine Eff.then ?_ (State.mapRead_eff _ _ _) (by decide)
    exact Eff.refl
  clear_value x2
  clear_value x3
  have h10 : Eff 449347654 s x4 := by
    subst x4
    refine Eff.then ?_ (upd_tier _ _) (by decide)
    exact h9
  clear_value x4
  have h11 : Eff 449347654 s x5 := by
    subst x5
    refine Eff.then ?_ (State.raise_eff _ _ _ _) (by decide)
    refine Eff.then ?_ (State.markMap_eff _ _ _) (by decide)
    exact h10
  clear_value x5
  clear_value x6
  have h12 : Eff 449347654 s x7 := by
    subst x7
    refine Eff.then ?_ (upd_tier _ _) (by decide)
    exact h11
  clear_value x7
  have h13 : Eff 449347654 s x8 := by
    subst x8
    refine Eff.then ?_ (State.cacheInstall_eff _ _) (by decide)
    refine Eff.then ?_ (State.markMap_eff _ _ _) (by decide)
    exact h10
  clear_value x8
  refine Eff.ite ?_ ?_
  · exact Eff.refl
  · refine Eff.ite ?_ ?_
    · refine Eff.foldl ?_ ?_
      · exact h12
      · intro p14 p15 h16
        try beta_reduce
        split
        · rename_i v17 v18 e19
          refine Eff.then ?_ (State.answerDead_eff _ _) (by decide)
          exact h16
        · rename_i v20 e21
          exact h16
    · refine Eff.foldl ?_ ?_
      · exact h13
      · intro p22 p23 h24
        try beta_reduce
        refine Eff.then ?_ (State.place_eff _ _ _ _) (by decide)
        exact h24

theorem execPlacementRefill_eff (a0) (a1) (s : State) :
    EffX 449347654 s (execPlacementRefill a0 a1 s) := by
  unfold execPlacementRefill
  refine whileUp_eff ?_ ?_
  · exact Eff.refl
  · intro p0 h1
    try beta_reduce
    split
    · rename_i v2 v3 e4
      refine Eff.then ?_ (State.refill_eff _ _ _ _) (by decide)
      exact h1
    · rename_i v5 e6
      exact h1

theorem State.dirData_eff (s : State) (a1) :
    Eff 449364038 s (State.dirData s a1) := by
  unfold State.dirData
  split
  · rename_i v0 e1
    exact Eff.refl
  · rename_i v2 v3 e4
    extract_lets -merge x5 x6 x7
    clear_value x5
    clear_value x6
    have h8 : Eff 449364038 s x7 := by
      subst x7
      refine Eff.then ?_ (upd_dir _ _) (by decide)
      exact Eff.refl
    clear_value x7
    split
    · rename_i v9 v10 v11 e12
      extract_lets -merge x13 x14
      clear_value x13
      have h15 : Eff 449364038 s x14 := by
        subst x14
        refine Eff.then ?_ (State.place_eff _ _ _ _) (by decide)
        exact h8
      clear_value x14
      split
      · rename_i v16 v17 v18 v19 v20
        refine Eff.then ?_ (State.answerCmp_eff _ _ _ _ _) (by decide)
        exact h8
      · rename_i v21 v22 v23 v24 v25
        refine Eff.then ?_ (State.answerCmp_eff _ _ _ _ _) (by decide)
        exact h8
      · rename_i v26 e27 e28
        split
        · rename_i v29 v30 e31
          refine Eff.ite ?_ ?_
          · exact h15
          · refine Eff.then ?_ (State.answerCmp_eff _ _ _ _ _) (by decide)
            exact h15
        · rename_i v32 e33
          exact h15
    · rename_i v34 e35
      exact h8

theorem execDirDataReturn_eff (a0) (s : State) :
    EffX 449364038 s (execDirDataReturn a0 s) := by
  unfold execDirDataReturn
  refine whileUp_eff ?_ ?_
  · exact Eff.refl
  · intro p0 h1
    try beta_reduce
    refine Eff.then ?_ (State.dirData_eff _ _) (by decide)
    exact h1

end Sys2Proof.Machine
end

