-- ==== Sys2Proof/Laws/EffCxl.lean ====
section
/-! SUPPORT. What the functions of Machine/Cxl.lean may change: bit i of a mask is component i of `Comp.idx`.
The theorems are checked one after another: each is small, and the joined text has many. -/

set_option Elab.async false

namespace Sys2Proof.Machine

theorem State.updPort_eff (s : State) (a1) (a2) :
    Eff 262144 s (State.updPort s a1 a2) := by
  unfold State.updPort
  refine Eff.then ?_ (upd_prt _ _) (by decide)
  exact Eff.refl

theorem State.decoderCommit_eff (s : State) (a1) (a2) (a3) :
    Eff 524288 s (State.decoderCommit s a1 a2 a3) := by
  unfold State.decoderCommit
  extract_lets -merge x0 x1 x2 x3
  clear_value x0
  clear_value x1
  clear_value x2
  clear_value x3
  refine Eff.ite ?_ ?_
  · exact Eff.refl
  · refine Eff.then ?_ (State.updLd_eff _ _ _) (by decide)
    exact Eff.refl

theorem execDecoderCommit_eff (a0) (a1) (a2) (s : State) :
    EffX 524288 s (execDecoderCommit a0 a1 a2 s) := by
  unfold execDecoderCommit
  refine whileUp_eff ?_ ?_
  · exact Eff.refl
  · intro p0 h1
    try beta_reduce
    refine Eff.then ?_ (State.decoderCommit_eff _ _ _ _) (by decide)
    exact h1

theorem State.readLdMap_eff (s : State) (a1) :
    Eff 269025348 s (State.readLdMap s a1) := by
  unfold State.readLdMap
  extract_lets -merge x0 x1 x2 x3
  clear_value x0
  clear_value x1
  have h4 : Eff 269025348 s x2 := by
    subst x2
    refine Eff.then ?_ (upd_dsram _ _) (by decide)
    exact Eff.refl
  clear_value x2
  have h5 : Eff 269025348 s x3 := by
    subst x3
    refine Eff.then ?_ (State.useBank_eff _ _) (by decide)
    refine Eff.then ?_ (State.useBank_eff _ _) (by decide)
    exact h4
  clear_value x3
  refine Eff.ite ?_ ?_
  · refine Eff.then ?_ (State.raise_eff _ _ _ _) (by decide)
    exact h5
  · exact h5

theorem State.unmapped_eff (s : State) (a1) (a2) :
    Eff 268959814 s (State.unmapped s a1 a2) := by
  unfold State.unmapped
  extract_lets -merge x0 x1
  have h2 : Eff 268959814 s x0 := by
    subst x0
    refine Eff.then ?_ (State.inc_eff _ _ _) (by decide)
    exact Eff.refl
  clear_value x0
  have h3 : Eff 268959814 s x1 := by
    subst x1
    split
    · rename_i v4 v5
      refine Eff.then ?_ (State.raise_eff _ _ _ _) (by decide)
      exact h2
    · rename_i v6
      exact h2
  clear_value x1
  refine Eff.then ?_ (State.answerDead_eff _ _) (by decide)
  exact h3

theorem State.windowReq_eff (s : State) (a1) (a2) :
    Eff 272109652 s (State.windowReq s a1 a2) := by
  unfold State.windowReq
  extract_lets -merge x0 x1 x2 x3 x4
  clear_value x0
  clear_value x1
  clear_value x2
  clear_value x3
  have h5 : Eff 272109652 s x4 := by
    subst x4
    refine Eff.ite ?_ ?_
    · refine Eff.then ?_ (State.windowWrite_eff _ _ _ _ _ _) (by decide)
      exact Eff.refl
    · exact Eff.refl
  clear_value x4
  refine Eff.ite ?_ ?_
  · refine Eff.then ?_ (State.answerCmp_eff _ _ _ _ _) (by decide)
    exact h5
  · refine Eff.ite ?_ ?_
    · refine Eff.then ?_ (State.windowRead_eff _ _ _ _) (by decide)
      exact Eff.refl
    · refine Eff.then ?_ (State.answerData_eff _ _ _ _ _ _) (by decide)
      exact Eff.refl

theorem State.memCmd_eff (s : State) (a1) (a2) (a3) (a4) :
    Eff 452579414 s (State.memCmd s a1 a2 a3 a4) := by
  unfold State.memCmd
  refine Eff.ite ?_ ?_
  · exact Eff.refl
  · extract_lets -merge x0 x1
    have h2 : Eff 452579414 s x0 := by
      subst x0
      refine Eff.then ?_ (State.readLdMap_eff _ _) (by decide)
      exact Eff.refl
    clear_value x0
    clear_value x1
    refine Eff.ite ?_ ?_
    · refine Eff.then ?_ (State.unmapped_eff _ _ _) (by decide)
      exact h2
    · split
      · rename_i v3 e4
        refine Eff.then ?_ (State.unmapped_eff _ _ _) (by decide)
        exact h2
      · rename_i v5 v6 v7 e8
        split
        · rename_i v9 e10
          refine Eff.then ?_ (State.unmapped_eff _ _ _) (by decide)
          exact h2
        · rename_i v11 v12 e13
          refine Eff.ite ?_ ?_
          · refine Eff.then ?_ (State.windowReq_eff _ _ _) (by decide)
            exact h2
          · refine Eff.ite ?_ ?_
            · refine Eff.ite ?_ ?_
              · refine Eff.then ?_ (State.unmapped_eff _ _ _) (by decide)
                exact h2
              · refine Eff.then ?_ (State.dirEnter_eff _ _ _ _ _) (by decide)
                exact h2
            · refine Eff.then ?_ (State.place_eff _ _ _ _) (by decide)
              exact h2

theorem State.memInvCmd_eff (s : State) (a1) (a2) (a3) (a4) (a5) :
    Eff 269041750 s (State.memInvCmd s a1 a2 a3 a4 a5) := by
  unfold State.memInvCmd
  refine Eff.ite ?_ ?_
  · exact Eff.refl
  · extract_lets -merge x0 x1 x2
    have h3 : Eff 269041750 s x0 := by
      subst x0
      refine Eff.then ?_ (State.readLdMap_eff _ _) (by decide)
      exact Eff.refl
    clear_value x0
    clear_value x1
    clear_value x2
    refine Eff.ite ?_ ?_
    · refine Eff.then ?_ (State.unmapped_eff _ _ _) (by decide)
      exact h3
    · split
      · rename_i v4 e5
        refine Eff.then ?_ (State.unmapped_eff _ _ _) (by decide)
        exact h3
      · rename_i v6 v7 v8 e9
        split
        · rename_i v10 e11
          refine Eff.then ?_ (State.unmapped_eff _ _ _) (by decide)
          exact h3
        · rename_i v12 v13 e14
          refine Eff.ite ?_ ?_
          · refine Eff.then ?_ (State.unmapped_eff _ _ _) (by decide)
            exact h3
          · refine Eff.ite ?_ ?_
            · refine Eff.then ?_ (State.dirEnter_eff _ _ _ _ _) (by decide)
              exact h3
            · refine Eff.then ?_ (State.answerCmp_eff _ _ _ _ _) (by decide)
              exact h3

theorem execMemrd_eff (a0) (a1) (a2) (a3) (s : State) :
    EffX 452579414 s (execMemrd a0 a1 a2 a3 s) := by
  unfold execMemrd
  refine whileUp_eff ?_ ?_
  · exact Eff.refl
  · intro p0 h1
    try beta_reduce
    refine Eff.then ?_ (State.memCmd_eff _ _ _ _ _) (by decide)
    exact h1

theorem execMemrddata_eff (a0) (a1) (a2) (a3) (s : State) :
    EffX 452579414 s (execMemrddata a0 a1 a2 a3 s) := by
  unfold execMemrddata
  refine whileUp_eff ?_ ?_
  · exact Eff.refl
  · intro p0 h1
    try beta_reduce
    refine Eff.then ?_ (State.memCmd_eff _ _ _ _ _) (by decide)
    exact h1

theorem execMeminv_eff (a0) (a1) (a2) (a3) (s : State) :
    EffX 269041750 s (execMeminv a0 a1 a2 a3 s) := by
  unfold execMeminv
  refine whileUp_eff ?_ ?_
  · exact Eff.refl
  · intro p0 h1
    try beta_reduce
    refine Eff.then ?_ (State.memInvCmd_eff _ _ _ _ _ _) (by decide)
    exact h1

theorem execMeminvnt_eff (a0) (a1) (a2) (a3) (s : State) :
    EffX 269041750 s (execMeminvnt a0 a1 a2 a3 s) := by
  unfold execMeminvnt
  refine whileUp_eff ?_ ?_
  · exact Eff.refl
  · intro p0 h1
    try beta_reduce
    refine Eff.then ?_ (State.memInvCmd_eff _ _ _ _ _ _) (by decide)
    exact h1

theorem execMemspecrd_eff (a0) (a1) (s : State) :
    EffX 0 s (execMemspecrd a0 a1 s) := by
  unfold execMemspecrd
  refine EffX.next ?_
  exact Eff.refl

theorem execMemclnevct_eff (a0) (a1) (a2) (s : State) :
    EffX 4 s (execMemclnevct a0 a1 a2 s) := by
  unfold execMemclnevct
  refine whileUp_eff ?_ ?_
  · exact Eff.refl
  · intro p0 h1
    try beta_reduce
    refine State.when_eff ?_ ?_
    · exact h1
    · intro p2 h3
      try beta_reduce
      refine Eff.then ?_ (State.answerCmp_eff _ _ _ _ _) (by decide)
      exact h3

theorem execMemwr_eff (a0) (a1) (a2) (a3) (a4) (s : State) :
    EffX 452579414 s (execMemwr a0 a1 a2 a3 a4 s) := by
  unfold execMemwr
  refine whileUp_eff ?_ ?_
  · exact Eff.refl
  · intro p0 h1
    try beta_reduce
    refine Eff.then ?_ (State.memCmd_eff _ _ _ _ _) (by decide)
    exact h1

theorem execMemwrptl_eff (a0) (a1) (a2) (a3) (a4) (a5) (s : State) :
    EffX 452579414 s (execMemwrptl a0 a1 a2 a3 a4 a5 s) := by
  unfold execMemwrptl
  refine whileUp_eff ?_ ?_
  · exact Eff.refl
  · intro p0 h1
    try beta_reduce
    refine Eff.then ?_ (State.memCmd_eff _ _ _ _ _) (by decide)
    exact h1

theorem State.unsupported_eff (s : State) (a1) (a2) (a3) (a4) :
    Eff 268959814 s (State.unsupported s a1 a2 a3 a4) := by
  unfold State.unsupported
  refine Eff.ite ?_ ?_
  · exact Eff.refl
  · extract_lets -merge x0
    have h1 : Eff 268959814 s x0 := by
      subst x0
      refine Eff.then ?_ (State.raise_eff _ _ _ _) (by decide)
      refine Eff.then ?_ (State.inc_eff _ _ _) (by decide)
      exact Eff.refl
    clear_value x0
    refine Eff.then ?_ (State.answerDead_eff _ _) (by decide)
    exact h1

theorem execMemrdfwd_eff (a0) (a1) (s : State) :
    EffX 268959814 s (execMemrdfwd a0 a1 s) := by
  unfold execMemrdfwd
  refine whileUp_eff ?_ ?_
  · exact Eff.refl
  · intro p0 h1
    try beta_reduce
    refine Eff.then ?_ (State.unsupported_eff _ _ _ _ _) (by decide)
    exact h1

theorem execMemwrfwd_eff (a0) (a1) (s : State) :
    EffX 268959814 s (execMemwrfwd a0 a1 s) := by
  unfold execMemwrfwd
  refine whileUp_eff ?_ ?_
  · exact Eff.refl
  · intro p0 h1
    try beta_reduce
    refine Eff.then ?_ (State.unsupported_eff _ _ _ _ _) (by decide)
    exact h1

theorem execMemrdtee_eff (a0) (a1) (s : State) :
    EffX 268959814 s (execMemrdtee a0 a1 s) := by
  unfold execMemrdtee
  refine whileUp_eff ?_ ?_
  · exact Eff.refl
  · intro p0 h1
    try beta_reduce
    refine Eff.then ?_ (State.unsupported_eff _ _ _ _ _) (by decide)
    exact h1

theorem execMemwrtee_eff (a0) (a1) (s : State) :
    EffX 268959814 s (execMemwrtee a0 a1 s) := by
  unfold execMemwrtee
  refine whileUp_eff ?_ ?_
  · exact Eff.refl
  · intro p0 h1
    try beta_reduce
    refine Eff.then ?_ (State.unsupported_eff _ _ _ _ _) (by decide)
    exact h1

theorem execReservedMemOpcode_eff (a0) (a1) (a2) (a3) (s : State) :
    EffX 268959814 s (execReservedMemOpcode a0 a1 a2 a3 s) := by
  unfold execReservedMemOpcode
  refine whileUp_eff ?_ ?_
  · exact Eff.refl
  · intro p0 h1
    try beta_reduce
    refine Eff.then ?_ (State.unsupported_eff _ _ _ _ _) (by decide)
    exact h1

theorem execBiconflict_eff (a0) (a1) (a2) (s : State) :
    EffX 4 s (execBiconflict a0 a1 a2 s) := by
  unfold execBiconflict
  refine whileUp_eff ?_ ?_
  · exact Eff.refl
  · intro p0 h1
    try beta_reduce
    refine State.when_eff ?_ ?_
    · exact h1
    · intro p2 h3
      try beta_reduce
      refine Eff.then ?_ (State.send_eff _ _) (by decide)
      exact h3

theorem State.birsp_eff (s : State) (a1) (a2) (a3) :
    Eff 449366340 s (State.birsp s a1 a2 a3) := by
  unfold State.birsp
  refine Eff.ite ?_ ?_
  · exact Eff.refl
  · refine Eff.ite ?_ ?_
    · exact Eff.refl
    · extract_lets -merge x0
      have h1 : Eff 449366340 s x0 := by
        subst x0
        split
        · rename_i v2 v3
          refine Eff.then ?_ (State.deviceLine_eff _ _ _ _ _ _) (by decide)
          exact Eff.refl
        · rename_i v4
          exact Eff.refl
      clear_value x0
      refine Eff.then ?_ (State.snoopDone_eff _ _ _) (by decide)
      exact h1

theorem execBirspi_eff (a0) (a1) (a2) (s : State) :
    EffX 449366340 s (execBirspi a0 a1 a2 s) := by
  unfold execBirspi
  refine whileUp_eff ?_ ?_
  · exact Eff.refl
  · intro p0 h1
    try beta_reduce
    refine Eff.then ?_ (State.birsp_eff _ _ _ _) (by decide)
    exact h1

theorem execBirsps_eff (a0) (a1) (a2) (s : State) :
    EffX 449366340 s (execBirsps a0 a1 a2 s) := by
  unfold execBirsps
  refine whileUp_eff ?_ ?_
  · exact Eff.refl
  · intro p0 h1
    try beta_reduce
    refine Eff.then ?_ (State.birsp_eff _ _ _ _) (by decide)
    exact h1

theorem execBirspe_eff (a0) (a1) (a2) (s : State) :
    EffX 449366340 s (execBirspe a0 a1 a2 s) := by
  unfold execBirspe
  refine whileUp_eff ?_ ?_
  · exact Eff.refl
  · intro p0 h1
    try beta_reduce
    refine Eff.then ?_ (State.birsp_eff _ _ _ _) (by decide)
    exact h1

theorem State.dropReads_eff (s : State) (a1) :
    Eff 174080000 s (State.dropReads s a1) := by
  unfold State.dropReads
  extract_lets -merge x0 x1 x2 x3 x4 x5
  clear_value x0
  clear_value x1
  clear_value x2
  clear_value x3
  clear_value x4
  clear_value x5
  refine Eff.then ?_ (upd_dir_heldReads_tier_dram_pair _ _ _ _ _ _) (by decide)
  exact Eff.refl

theorem State.dropSnoops_eff (s : State) (a1) :
    Eff 18752 s (State.dropSnoops s a1) := by
  unfold State.dropSnoops
  refine Eff.foldl ?_ ?_
  · exact Eff.refl
  · intro p0 p1 h2
    try beta_reduce
    refine Eff.ite ?_ ?_
    · refine Eff.then ?_ (State.snoopDone_eff _ _ _) (by decide)
      exact h2
    · exact h2

theorem State.portLoss_eff (s : State) (a1) :
    Eff 443042132 s (State.portLoss s a1) := by
  unfold State.portLoss
  refine Eff.ite ?_ ?_
  · exact Eff.refl
  · extract_lets -merge x0 x1 x2 x3 x4 x5 x6 x7 x8
    have h9 : Eff 443042132 s x0 := by
      subst x0
      refine Eff.then ?_ (State.setF_eff _ _ _) (by decide)
      refine Eff.then ?_ (State.setF_eff _ _ _) (by decide)
      refine Eff.then ?_ (State.setF_eff _ _ _) (by decide)
      exact Eff.refl
    clear_value x0
    have h10 : Eff 443042132 s x1 := by
      subst x1
      refine Eff.then ?_ (State.dropReads_eff _ _) (by decide)
      refine Eff.then ?_ (State.inc_eff _ _ _) (by decide)
      exact h9
    clear_value x1
    have h11 : Eff 443042132 s x2 := by
      subst x2
      refine Eff.then ?_ (State.dropSnoops_eff _ _) (by decide)
      exact h10
    clear_value x2
    clear_value x3
    clear_value x4
    clear_value x5
    have h12 : Eff 443042132 s x6 := by
      subst x6
      refine Eff.foldl ?_ ?_
      · exact h11
      · intro p13 p14 h15
        try beta_reduce
        extract_lets -merge x16 x17
        clear_value x16
        clear_value x17
        refine Eff.then ?_ (upd_dir _ _) (by decide)
        exact h15
    clear_value x6
    have h18 : Eff 443042132 s x7 := by
      subst x7
      refine Eff.foldl ?_ ?_
      · exact h12
      · intro p19 p20 h21
        try beta_reduce
        refine Eff.then ?_ (State.poisonLine_eff _ _) (by decide)
        exact h21
    clear_value x7
    have h22 : Eff 443042132 s x8 := by
      subst x8
      refine Eff.foldl ?_ ?_
      · exact h18
      · intro p23 p24 h25
        try beta_reduce
        refine Eff.then ?_ (State.dirEnter_eff _ _ _ _ _) (by decide)
        exact h25
    clear_value x8
    refine Eff.then ?_ (State.raise_eff _ _ _ _) (by decide)
    exact h22

theorem State.portReset_eff (s : State) (a1) :
    Eff 981204828 s (State.portReset s a1) := by
  unfold State.portReset
  extract_lets -merge x0 x1 x2 x3
  have h4 : Eff 981204828 s x0 := by
    subst x0
    refine Eff.then ?_ (State.portLoss_eff _ _) (by decide)
    exact Eff.refl
  clear_value x0
  have h5 : Eff 981204828 s x1 := by
    subst x1
    refine Eff.foldl ?_ ?_
    · exact h4
    · intro p6 p7 h8
      try beta_reduce
      refine Eff.then ?_ (State.drainLd_eff _ _ _) (by decide)
      exact h8
  clear_value x1
  clear_value x2
  clear_value x3
  split
  · rename_i v9 v10 e11
    refine Eff.ite ?_ ?_
    · refine Eff.ite ?_ ?_
      · refine Eff.then ?_ (upd_mbox _ _) (by decide)
        exact h5
      · refine Eff.then ?_ (upd_mbox _ _) (by decide)
        exact h5
    · exact h5
  · rename_i v12 e13
    exact h5

theorem execPortLinkLoss_eff (a0) (s : State) :
    EffX 981204828 s (execPortLinkLoss a0 s) := by
  unfold execPortLinkLoss
  refine whileUp_eff ?_ ?_
  · exact Eff.refl
  · intro p0 h1
    try beta_reduce
    refine State.when_eff ?_ ?_
    · exact h1
    · intro p2 h3
      try beta_reduce
      refine Eff.then ?_ (State.portReset_eff _ _) (by decide)
      exact h3

theorem execPerstAssert_eff (a0) (s : State) :
    EffX 981466972 s (execPerstAssert a0 s) := by
  unfold execPerstAssert
  refine whileUp_eff ?_ ?_
  · exact Eff.refl
  · intro p0 h1
    try beta_reduce
    refine Eff.then ?_ (State.updPort_eff _ _ _) (by decide)
    refine Eff.then ?_ (State.portReset_eff _ _) (by decide)
    exact h1

theorem execFunctionLevelReset_eff (a0) (s : State) :
    EffX 940818184 s (execFunctionLevelReset a0 s) := by
  unfold execFunctionLevelReset
  refine whileUp_eff ?_ ?_
  · exact Eff.refl
  · intro p0 h1
    try beta_reduce
    extract_lets -merge x2 x3 x4
    have h5 : Eff 940818184 s x2 := by
      subst x2
      refine Eff.then ?_ (State.drainLd_eff _ _ _) (by decide)
      exact h1
    clear_value x2
    clear_value x3
    clear_value x4
    refine Eff.ite ?_ ?_
    · refine Eff.ite ?_ ?_
      · refine Eff.then ?_ (upd_mbox _ _) (by decide)
        exact h5
      · refine Eff.then ?_ (upd_mbox _ _) (by decide)
        exact h5
    · exact h5

theorem State.linkTrain_eff (s : State) (a1) (a2) (a3) (a4) (a5) (a6) :
    Eff 269221956 s (State.linkTrain s a1 a2 a3 a4 a5 a6) := by
  unfold State.linkTrain
  extract_lets -merge x0 x1
  have h2 : Eff 269221956 s x0 := by
    subst x0
    refine Eff.then ?_ (State.updPort_eff _ _ _) (by decide)
    exact Eff.refl
  clear_value x0
  have h3 : Eff 269221956 s x1 := by
    subst x1
    refine Eff.then ?_ (State.setF_eff _ _ _) (by decide)
    refine Eff.then ?_ (State.setF_eff _ _ _) (by decide)
    refine Eff.then ?_ (State.setF_eff _ _ _) (by decide)
    exact h2
  clear_value x1
  refine Eff.ite ?_ ?_
  · exact h2
  · refine Eff.ite ?_ ?_
    · exact h2
    · refine Eff.ite ?_ ?_
      · refine Eff.then ?_ (State.raise_eff _ _ _ _) (by decide)
        exact h2
      · refine Eff.ite ?_ ?_
        · refine Eff.then ?_ (State.setF_eff _ _ _) (by decide)
          refine Eff.then ?_ (State.updPort_eff _ _ _) (by decide)
          exact h3
        · exact h3

theorem execLinkTrain_eff (a0) (a1) (a2) (a3) (a4) (a5) (s : State) :
    EffX 269221956 s (execLinkTrain a0 a1 a2 a3 a4 a5 s) := by
  unfold execLinkTrain
  refine whileUp_eff ?_ ?_
  · exact Eff.refl
  · intro p0 h1
    try beta_reduce
    refine Eff.then ?_ (State.linkTrain_eff _ _ _ _ _ _ _) (by decide)
    exact h1

theorem State.ideFailure_eff (s : State) (a1) (a2) :
    Eff 269221956 s (State.ideFailure s a1 a2) := by
  unfold State.ideFailure
  extract_lets -merge x0 x1 x2
  clear_value x0
  have h3 : Eff 269221956 s x1 := by
    subst x1
    refine Eff.then ?_ (State.setF_eff _ _ _) (by decide)
    refine Eff.then ?_ (State.updPort_eff _ _ _) (by decide)
    exact Eff.refl
  clear_value x1
  have h4 : Eff 269221956 s x2 := by
    subst x2
    refine Eff.then ?_ (State.raise_eff _ _ _ _) (by decide)
    exact h3
  clear_value x2
  refine Eff.ite ?_ ?_
  · exact Eff.refl
  · refine Eff.foldl ?_ ?_
    · exact h4
    · intro p5 p6 h7
      try beta_reduce
      refine Eff.then ?_ (State.send_eff _ _) (by decide)
      exact h7

theorem execIdeFailure_eff (a0) (a1) (s : State) :
    EffX 269221956 s (execIdeFailure a0 a1 s) := by
  unfold execIdeFailure
  refine whileUp_eff ?_ ?_
  · exact Eff.refl
  · intro p0 h1
    try beta_reduce
    refine Eff.then ?_ (State.ideFailure_eff _ _ _) (by decide)
    exact h1

theorem State.ideKm_eff (s : State) (a1) (a2) (a3) (a4) (a5) (a6) :
    Eff 262208 s (State.ideKm s a1 a2 a3 a4 a5 a6) := by
  unfold State.ideKm
  refine Eff.ite ?_ ?_
  · exact Eff.refl
  · refine Eff.ite ?_ ?_
    · exact Eff.refl
    · refine Eff.ite ?_ ?_
      · refine Eff.then ?_ (State.updPort_eff _ _ _) (by decide)
        exact Eff.refl
      · refine Eff.then ?_ (State.setF_eff _ _ _) (by decide)
        refine Eff.then ?_ (State.updPort_eff _ _ _) (by decide)
        exact Eff.refl

theorem execIdeKm_eff (a0) (a1) (a2) (a3) (a4) (a5) (s : State) :
    EffX 262208 s (execIdeKm a0 a1 a2 a3 a4 a5 s) := by
  unfold execIdeKm
  refine whileUp_eff ?_ ?_
  · exact Eff.refl
  · intro p0 h1
    try beta_reduce
    refine Eff.then ?_ (State.ideKm_eff _ _ _ _ _ _ _) (by decide)
    exact h1

end Sys2Proof.Machine
end

