-- ==== Sys2Proof/Laws/EffFm.lean ====
section
/-! SUPPORT. What the functions of Machine/Fm.lean may change: bit i of a mask is component i of `Comp.idx`.
The theorems are checked one after another: each is small, and the joined text has many. -/

set_option Elab.async false

namespace Sys2Proof.Machine

theorem State.mboxAns_eff (s : State) (a1) (a2) (a3) (a4) :
    Eff 4 s (State.mboxAns s a1 a2 a3 a4) := by
  unfold State.mboxAns
  refine Eff.then ?_ (State.send_eff _ _) (by decide)
  exact Eff.refl

theorem State.fmAns_eff (s : State) (a1) (a2) (a3) :
    Eff 4 s (State.fmAns s a1 a2 a3) := by
  unfold State.fmAns
  refine Eff.then ?_ (State.send_eff _ _) (by decide)
  exact Eff.refl

theorem State.qosUpdate_eff (s : State) :
    Eff 268959812 s (State.qosUpdate s) := by
  unfold State.qosUpdate
  extract_lets -merge x0 x1 x2 x3 x4
  clear_value x0
  clear_value x1
  have h5 : Eff 268959812 s x2 := by
    subst x2
    refine Eff.then ?_ (State.setF_eff _ _ _) (by decide)
    refine Eff.then ?_ (State.setF_eff _ _ _) (by decide)
    exact Eff.refl
  clear_value x2
  have h6 : Eff 268959812 s x3 := by
    subst x3
    refine Eff.foldl ?_ ?_
    · exact h5
    · intro p7 p8 h9
      try beta_reduce
      refine Eff.then ?_ (State.setF_eff _ _ _) (by decide)
      exact h9
  clear_value x3
  clear_value x4
  refine Eff.ite ?_ ?_
  · refine Eff.then ?_ (State.raise_eff _ _ _ _) (by decide)
    refine Eff.then ?_ (State.setIrq_eff _ _) (by decide)
    refine Eff.then ?_ (State.setF_eff _ _ _) (by decide)
    exact h6
  · refine Eff.ite ?_ ?_
    · refine Eff.then ?_ (State.raise_eff _ _ _ _) (by decide)
      refine Eff.then ?_ (State.setIrq_eff _ _) (by decide)
      refine Eff.then ?_ (State.setF_eff _ _ _) (by decide)
      exact h6
    · exact h6

theorem State.coverUnit_eff (s : State) (a1) :
    Eff 1024 s (State.coverUnit s a1) := by
  unfold State.coverUnit
  refine Eff.ite ?_ ?_
  · exact Eff.refl
  · refine Eff.then ?_ (State.updTb_eff _ _ _) (by decide)
    exact Eff.refl

theorem State.mapSegs_eff (s : State) (a1) (a2) :
    Eff 525312 s (State.mapSegs s a1 a2) := by
  unfold State.mapSegs
  extract_lets -merge x0
  have h1 : Eff 525312 s x0 := by
    subst x0
    refine Eff.then ?_ (State.updLd_eff _ _ _) (by decide)
    exact Eff.refl
  clear_value x0
  refine Eff.foldl ?_ ?_
  · exact h1
  · intro p2 p3 h4
    try beta_reduce
    refine Eff.foldl ?_ ?_
    · exact h4
    · intro p5 p6 h7
      try beta_reduce
      refine Eff.then ?_ (State.coverUnit_eff _ _) (by decide)
      exact h7

theorem State.wipeUnit_eff (s : State) (a1) :
    Eff 449052742 s (State.wipeUnit s a1) := by
  unfold State.wipeUnit
  extract_lets -merge x0 x1 x2 x3 x4 x5 x6 x7 x8 x9 x10 x11 x12 x13 x14 x15
  clear_value x0
  clear_value x1
  clear_value x2
  have h16 : Eff 449052742 s x3 := by
    subst x3
    refine Eff.foldl ?_ ?_
    · exact Eff.refl
    · intro p17 p18 h19
      try beta_reduce
      refine Eff.then ?_ (State.setPage_eff _ _ _) (by decide)
      refine Eff.then ?_ (State.freePageFrame_eff _ _) (by decide)
      refine Eff.then ?_ (State.cancelMig_eff _ _) (by decide)
      exact h19
  clear_value x3
  clear_value x4
  have h20 : Eff 449052742 s x5 := by
    subst x5
    refine Eff.foldl ?_ ?_
    · exact h16
    · intro p21 p22 h23
      try beta_reduce
      refine Eff.then ?_ (State.freeUnit_eff _ _ _) (by decide)
      exact h23
  clear_value x5
  clear_value x6
  clear_value x7
  clear_value x8
  clear_value x9
  have h24 : Eff 449052742 s x10 := by
    subst x10
    refine Eff.then ?_ (State.setF_eff _ _ _) (by decide)
    exact h20
  clear_value x10
  clear_value x11
  clear_value x12
  clear_value x13
  clear_value x14
  have h25 : Eff 449052742 s x15 := by
    subst x15
    refine Eff.then ?_ (upd_prt_tier_mem_pair_ras _ _ _ _ _ _ (Memory.wf_filter _ _)) (by decide)
    exact h24
  clear_value x15
  refine Eff.foldl ?_ ?_
  · exact h25
  · intro p26 p27 h28
    try beta_reduce
    split
    · rename_i v29 v30 e31
      refine Eff.then ?_ (State.answerDead_eff _ _) (by decide)
      exact h28
    · rename_i v32 e33
      exact h28

theorem State.unmapSeg_eff (s : State) (a1) (a2) :
    Eff 449577030 s (State.unmapSeg s a1 a2) := by
  unfold State.unmapSeg
  extract_lets -merge x0
  have h1 : Eff 449577030 s x0 := by
    subst x0
    refine Eff.then ?_ (State.updLd_eff _ _ _) (by decide)
    exact Eff.refl
  clear_value x0
  refine Eff.foldl ?_ ?_
  · exact h1
  · intro p2 p3 h4
    try beta_reduce
    refine Eff.ite ?_ ?_
    · exact h4
    · refine Eff.then ?_ (State.wipeUnit_eff _ _) (by decide)
      exact h4

theorem State.releaseStep_eff (s : State) (a1) (a2) :
    Eff 449593430 s (State.releaseStep s a1 a2) := by
  unfold State.releaseStep
  split
  · rename_i v0 e1
    refine Eff.then ?_ (State.updLd_eff _ _ _) (by decide)
    exact Eff.refl
  · rename_i v2 v3 e4
    extract_lets -merge x5 x6
    clear_value x5
    have h7 : Eff 449593430 s x6 := by
      subst x6
      refine Eff.foldl ?_ ?_
      · exact Eff.refl
      · intro p8 p9 h10
        try beta_reduce
        refine Eff.ite ?_ ?_
        · exact h10
        · refine Eff.then ?_ (State.dirEnter_eff _ _ _ _ _) (by decide)
          exact h10
    clear_value x6
    refine Eff.ite ?_ ?_
    · refine Eff.then ?_ (State.unmapSeg_eff _ _ _) (by decide)
      exact Eff.refl
    · refine Eff.then ?_ (State.updLd_eff _ _ _) (by decide)
      exact h7

theorem State.releaseSteps_eff (s : State) :
    Eff 449593430 s (State.releaseSteps s) := by
  unfold State.releaseSteps
  refine Eff.foldl ?_ ?_
  · exact Eff.refl
  · intro p0 p1 h2
    try beta_reduce
    refine Eff.foldl ?_ ?_
    · exact h2
    · intro p3 p4 h5
      try beta_reduce
      refine Eff.then ?_ (State.releaseStep_eff _ _ _) (by decide)
      exact h5

theorem State.dcEvent_eff (s : State) (a1) (a2) (a3) (a4) :
    Eff 524292 s (State.dcEvent s a1 a2 a3 a4) := by
  unfold State.dcEvent
  extract_lets -merge x0 x1
  have h2 : Eff 524292 s x0 := by
    subst x0
    refine Eff.then ?_ (State.send_eff _ _) (by decide)
    exact Eff.refl
  clear_value x0
  have h3 : Eff 524292 s x1 := by
    subst x1
    refine Eff.then ?_ (State.updLd_eff _ _ _) (by decide)
    exact h2
  clear_value x1
  refine Eff.then ?_ (State.logIrq_eff _ _ _) (by decide)
  exact h3

theorem State.askRelease_eff (s : State) (a1) (a2) (a3) :
    Eff 524292 s (State.askRelease s a1 a2 a3) := by
  unfold State.askRelease
  refine Eff.then ?_ (State.updLd_eff _ _ _) (by decide)
  refine Eff.then ?_ (State.dcEvent_eff _ _ _ _ _) (by decide)
  exact Eff.refl

theorem State.offer_eff (s : State) (a1) (a2) (a3) (a4) :
    EffO 524292 s (State.offer s a1 a2 a3 a4) := by
  unfold State.offer
  extract_lets -merge x0 x1 x2 x3 x4
  clear_value x0
  clear_value x1
  clear_value x2
  clear_value x3
  have h5 : Eff 524292 s x4 := by
    subst x4
    refine Eff.then ?_ (State.updLd_eff _ _ _) (by decide)
    exact Eff.refl
  clear_value x4
  refine EffO.ite ?_ ?_
  · exact EffO.none
  · refine EffO.some ?_
    refine Eff.foldl ?_ ?_
    · exact h5
    · intro p6 p7 h8
      try beta_reduce
      refine Eff.then ?_ (State.dcEvent_eff _ _ _ _ _) (by decide)
      exact h8

theorem mboxCmd_eff {w : Nat} {r s : State} {f : State → State} (h : Eff w r s)
    (hf : ∀ x, Eff w r x → Eff w r (f x)) : EffX w r (mboxCmd s f) := by
  unfold mboxCmd; exact whileUp_eff h (fun x hx => State.when_eff hx hf)

theorem execIdentify_eff (a0) (s : State) :
    EffX 4 s (execIdentify a0 s) := by
  unfold execIdentify
  refine mboxCmd_eff ?_ ?_
  · exact Eff.refl
  · intro p0 h1
    try beta_reduce
    refine Eff.then ?_ (State.mboxAns_eff _ _ _ _ _) (by decide)
    exact h1

theorem execGetSupportedLogs_eff (a0) (s : State) :
    EffX 4 s (execGetSupportedLogs a0 s) := by
  unfold execGetSupportedLogs
  refine mboxCmd_eff ?_ ?_
  · exact Eff.refl
  · intro p0 h1
    try beta_reduce
    refine Eff.then ?_ (State.mboxAns_eff _ _ _ _ _) (by decide)
    exact h1

theorem execGetLog_eff (a0) (s : State) :
    EffX 4 s (execGetLog a0 s) := by
  unfold execGetLog
  refine mboxCmd_eff ?_ ?_
  · exact Eff.refl
  · intro p0 h1
    try beta_reduce
    refine Eff.then ?_ (State.mboxAns_eff _ _ _ _ _) (by decide)
    exact h1

theorem execGetEventRecords_eff (a0) (a1) (s : State) :
    EffX 4 s (execGetEventRecords a0 a1 s) := by
  unfold execGetEventRecords
  refine mboxCmd_eff ?_ ?_
  · exact Eff.refl
  · intro p0 h1
    try beta_reduce
    extract_lets -merge x2 x3
    clear_value x2
    clear_value x3
    refine Eff.then ?_ (State.mboxAns_eff _ _ _ _ _) (by decide)
    exact h1

theorem execClearEventRecords_eff (a0) (a1) (a2) (s : State) :
    EffX 524292 s (execClearEventRecords a0 a1 a2 s) := by
  unfold execClearEventRecords
  refine mboxCmd_eff ?_ ?_
  · exact Eff.refl
  · intro p0 h1
    try beta_reduce
    extract_lets -merge x2
    have h3 : Eff 524292 s x2 := by
      subst x2
      refine Eff.then ?_ (State.updLd_eff _ _ _) (by decide)
      exact h1
    clear_value x2
    refine Eff.then ?_ (State.mboxAns_eff _ _ _ _ _) (by decide)
    exact h3

theorem execGetEventInterruptPolicy_eff (a0) (s : State) :
    EffX 4 s (execGetEventInterruptPolicy a0 s) := by
  unfold execGetEventInterruptPolicy
  refine mboxCmd_eff ?_ ?_
  · exact Eff.refl
  · intro p0 h1
    try beta_reduce
    refine Eff.then ?_ (State.mboxAns_eff _ _ _ _ _) (by decide)
    exact h1

theorem execSetEventInterruptPolicy_eff (a0) (a1) (s : State) :
    EffX 524292 s (execSetEventInterruptPolicy a0 a1 s) := by
  unfold execSetEventInterruptPolicy
  refine mboxCmd_eff ?_ ?_
  · exact Eff.refl
  · intro p0 h1
    try beta_reduce
    refine Eff.then ?_ (State.mboxAns_eff _ _ _ _ _) (by decide)
    refine Eff.then ?_ (State.updLd_eff _ _ _) (by decide)
    exact h1

theorem execGetTimestamp_eff (a0) (s : State) :
    EffX 4 s (execGetTimestamp a0 s) := by
  unfold execGetTimestamp
  refine mboxCmd_eff ?_ ?_
  · exact Eff.refl
  · intro p0 h1
    try beta_reduce
    refine Eff.then ?_ (State.mboxAns_eff _ _ _ _ _) (by decide)
    exact h1

theorem execSetTimestamp_eff (a0) (a1) (s : State) :
    EffX 524292 s (execSetTimestamp a0 a1 s) := by
  unfold execSetTimestamp
  refine mboxCmd_eff ?_ ?_
  · exact Eff.refl
  · intro p0 h1
    try beta_reduce
    refine Eff.then ?_ (State.mboxAns_eff _ _ _ _ _) (by decide)
    refine Eff.then ?_ (State.updLd_eff _ _ _) (by decide)
    exact h1

theorem execGetHealthInfo_eff (a0) (s : State) :
    EffX 4 s (execGetHealthInfo a0 s) := by
  unfold execGetHealthInfo
  refine mboxCmd_eff ?_ ?_
  · exact Eff.refl
  · intro p0 h1
    try beta_reduce
    extract_lets -merge x2
    clear_value x2
    refine Eff.then ?_ (State.mboxAns_eff _ _ _ _ _) (by decide)
    exact h1

theorem execIdentifyMemoryDevice_eff (a0) (s : State) :
    EffX 4 s (execIdentifyMemoryDevice a0 s) := by
  unfold execIdentifyMemoryDevice
  refine mboxCmd_eff ?_ ?_
  · exact Eff.refl
  · intro p0 h1
    try beta_reduce
    extract_lets -merge x2
    clear_value x2
    refine Eff.then ?_ (State.mboxAns_eff _ _ _ _ _) (by decide)
    exact h1

theorem execGetPoisonList_eff (a0) (s : State) :
    EffX 4 s (execGetPoisonList a0 s) := by
  unfold execGetPoisonList
  refine mboxCmd_eff ?_ ?_
  · exact Eff.refl
  · intro p0 h1
    try beta_reduce
    extract_lets -merge x2
    clear_value x2
    refine Eff.then ?_ (State.mboxAns_eff _ _ _ _ _) (by decide)
    exact h1

theorem execInjectPoison_eff (a0) (a1) (s : State) :
    EffX 268959748 s (execInjectPoison a0 a1 s) := by
  unfold execInjectPoison
  refine mboxCmd_eff ?_ ?_
  · exact Eff.refl
  · intro p0 h1
    try beta_reduce
    refine Eff.ite ?_ ?_
    · refine Eff.then ?_ (State.mboxAns_eff _ _ _ _ _) (by decide)
      exact h1
    · split
      · rename_i v2 v3 e4
        refine Eff.then ?_ (State.mboxAns_eff _ _ _ _ _) (by decide)
        refine Eff.then ?_ (State.poisonLine_eff _ _) (by decide)
        exact h1
      · rename_i v5 e6
        refine Eff.then ?_ (State.mboxAns_eff _ _ _ _ _) (by decide)
        exact h1

theorem execClearPoison_eff (a0) (a1) (a2) (s : State) :
    EffX 449347652 s (execClearPoison a0 a1 a2 s) := by
  unfold execClearPoison
  refine mboxCmd_eff ?_ ?_
  · exact Eff.refl
  · intro p0 h1
    try beta_reduce
    refine Eff.ite ?_ ?_
    · refine Eff.then ?_ (State.mboxAns_eff _ _ _ _ _) (by decide)
      exact h1
    · split
      · rename_i v2 v3 e4
        refine Eff.then ?_ (State.mboxAns_eff _ _ _ _ _) (by decide)
        refine Eff.then ?_ (State.dropPoison_eff _ _) (by decide)
        refine Eff.then ?_ (State.setPoison_eff _ _ _) (by decide)
        refine Eff.then ?_ (State.deviceLine_eff _ _ _ _ _ _) (by decide)
        exact h1
      · rename_i v5 e6
        refine Eff.then ?_ (State.mboxAns_eff _ _ _ _ _) (by decide)
        exact h1

theorem execGetDynamicCapacityConfig_eff (a0) (s : State) :
    EffX 4 s (execGetDynamicCapacityConfig a0 s) := by
  unfold execGetDynamicCapacityConfig
  refine mboxCmd_eff ?_ ?_
  · exact Eff.refl
  · intro p0 h1
    try beta_reduce
    refine Eff.then ?_ (State.mboxAns_eff _ _ _ _ _) (by decide)
    exact h1

theorem execGetDynamicCapacityExtents_eff (a0) (s : State) :
    EffX 4 s (execGetDynamicCapacityExtents a0 s) := by
  unfold execGetDynamicCapacityExtents
  refine mboxCmd_eff ?_ ?_
  · exact Eff.refl
  · intro p0 h1
    try beta_reduce
    refine Eff.then ?_ (State.mboxAns_eff _ _ _ _ _) (by decide)
    exact h1

theorem execAddDynamicCapacityResponse_eff (a0) (a1) (s : State) :
    EffX 525316 s (execAddDynamicCapacityResponse a0 a1 s) := by
  unfold execAddDynamicCapacityResponse
  refine mboxCmd_eff ?_ ?_
  · exact Eff.refl
  · intro p0 h1
    try beta_reduce
    extract_lets -merge x2 x3 x4
    clear_value x2
    clear_value x3
    clear_value x4
    refine Eff.ite ?_ ?_
    · refine Eff.then ?_ (State.mboxAns_eff _ _ _ _ _) (by decide)
      exact h1
    · refine Eff.then ?_ (State.mboxAns_eff _ _ _ _ _) (by decide)
      refine Eff.then ?_ (State.mapSegs_eff _ _ _) (by decide)
      refine Eff.then ?_ (State.updLd_eff _ _ _) (by decide)
      exact h1

theorem execReleaseDynamicCapacity_eff (a0) (a1) (s : State) :
    EffX 449593430 s (execReleaseDynamicCapacity a0 a1 s) := by
  unfold execReleaseDynamicCapacity
  refine mboxCmd_eff ?_ ?_
  · exact Eff.refl
  · intro p0 h1
    try beta_reduce
    refine Eff.ite ?_ ?_
    · refine Eff.then ?_ (State.mboxAns_eff _ _ _ _ _) (by decide)
      refine Eff.then ?_ (State.releaseStep_eff _ _ _) (by decide)
      exact h1
    · refine Eff.then ?_ (State.mboxAns_eff _ _ _ _ _) (by decide)
      exact h1

theorem execUnsupportedMailboxCmd_eff (a0) (a1) (s : State) :
    EffX 4 s (execUnsupportedMailboxCmd a0 a1 s) := by
  unfold execUnsupportedMailboxCmd
  refine mboxCmd_eff ?_ ?_
  · exact Eff.refl
  · intro p0 h1
    try beta_reduce
    refine Eff.then ?_ (State.mboxAns_eff _ _ _ _ _) (by decide)
    exact h1

theorem State.setAlloc_eff (s : State) (a1) (a2) :
    Eff 449578054 s (State.setAlloc s a1 a2).2 := by
  unfold State.setAlloc
  extract_lets -merge x0 x1 x2 x3 x4 x5 x6 x7
  clear_value x0
  clear_value x1
  clear_value x2
  clear_value x3
  have h8 : Eff 449578054 s x4 := by
    subst x4
    refine Eff.foldl ?_ ?_
    · exact Eff.refl
    · intro p9 p10 h11
      try beta_reduce
      extract_lets -merge x12 x13 x14
      clear_value x12
      have h15 : Eff 449578054 s x13 := by
        subst x13
        refine Eff.ite ?_ ?_
        · refine Eff.then ?_ (State.updLd_eff _ _ _) (by decide)
          exact h11
        · exact h11
      clear_value x13
      clear_value x14
      refine Eff.then ?_ (State.unmapSeg_eff _ _ _) (by decide)
      exact h15
  clear_value x4
  clear_value x5
  clear_value x6
  clear_value x7
  refine EffR.ite ?_ ?_
  · refine EffR.ite ?_ ?_
    · exact Eff.refl
    · exact h8
  · refine EffR.ite ?_ ?_
    · exact Eff.refl
    · refine EffR.ite ?_ ?_
      · exact Eff.refl
      · refine Eff.then ?_ (State.mapSegs_eff _ _ _) (by decide)
        exact Eff.refl

theorem execSetLdAllocations_eff (a0) (a1) (s : State) :
    EffX 449578054 s (execSetLdAllocations a0 a1 s) := by
  unfold execSetLdAllocations
  refine mboxCmd_eff ?_ ?_
  · exact Eff.refl
  · intro p0 h1
    try beta_reduce
    extract_lets -merge x2
    have h3 : Eff 449578054 s x2.2 := by
      subst x2
      refine Eff.then ?_ (State.setAlloc_eff _ _ _) (by decide)
      exact h1
    clear_value x2
    refine Eff.then ?_ (State.fmAns_eff _ _ _ _) (by decide)
    exact h3

theorem execBindLd_eff (a0) (s : State) :
    EffX 268959812 s (execBindLd a0 s) := by
  unfold execBindLd
  refine mboxCmd_eff ?_ ?_
  · exact Eff.refl
  · intro p0 h1
    try beta_reduce
    extract_lets -merge x2
    clear_value x2
    refine Eff.ite ?_ ?_
    · refine Eff.then ?_ (State.fmAns_eff _ _ _ _) (by decide)
      exact h1
    · refine Eff.ite ?_ ?_
      · refine Eff.then ?_ (State.fmAns_eff _ _ _ _) (by decide)
        exact h1
      · refine Eff.then ?_ (State.fmAns_eff _ _ _ _) (by decide)
        refine Eff.then ?_ (State.qosUpdate_eff _) (by decide)
        refine Eff.then ?_ (State.setF_eff _ _ _) (by decide)
        exact h1

theorem execUnbindLd_eff (a0) (s : State) :
    EffX 941342540 s (execUnbindLd a0 s) := by
  unfold execUnbindLd
  refine mboxCmd_eff ?_ ?_
  · exact Eff.refl
  · intro p0 h1
    try beta_reduce
    extract_lets -merge x2 x3 x4 x5
    have h6 : Eff 941342540 s x2 := by
      subst x2
      refine Eff.then ?_ (State.qosUpdate_eff _) (by decide)
      refine Eff.then ?_ (State.drainLd_eff _ _ _) (by decide)
      refine Eff.then ?_ (State.setF_eff _ _ _) (by decide)
      exact h1
    clear_value x2
    clear_value x3
    clear_value x4
    have h7 : Eff 941342540 s x5 := by
      subst x5
      refine Eff.ite ?_ ?_
      · refine Eff.ite ?_ ?_
        · refine Eff.then ?_ (upd_mbox _ _) (by decide)
          exact h6
        · refine Eff.then ?_ (upd_mbox _ _) (by decide)
          exact h6
      · exact h6
    clear_value x5
    refine Eff.then ?_ (State.fmAns_eff _ _ _ _) (by decide)
    exact h7

theorem execSetQosAllocatedBw_eff (a0) (a1) (s : State) :
    EffX 268959812 s (execSetQosAllocatedBw a0 a1 s) := by
  unfold execSetQosAllocatedBw
  refine mboxCmd_eff ?_ ?_
  · exact Eff.refl
  · intro p0 h1
    try beta_reduce
    extract_lets -merge x2
    clear_value x2
    refine Eff.ite ?_ ?_
    · refine Eff.then ?_ (State.fmAns_eff _ _ _ _) (by decide)
      exact h1
    · refine Eff.then ?_ (State.fmAns_eff _ _ _ _) (by decide)
      refine Eff.then ?_ (State.qosUpdate_eff _) (by decide)
      refine Eff.then ?_ (State.setF_eff _ _ _) (by decide)
      exact h1

theorem execSetQosBwLimit_eff (a0) (a1) (s : State) :
    EffX 68 s (execSetQosBwLimit a0 a1 s) := by
  unfold execSetQosBwLimit
  refine mboxCmd_eff ?_ ?_
  · exact Eff.refl
  · intro p0 h1
    try beta_reduce
    refine Eff.then ?_ (State.fmAns_eff _ _ _ _) (by decide)
    refine Eff.then ?_ (State.setF_eff _ _ _) (by decide)
    exact h1

theorem execSetQosControl_eff (a0) (a1) (a2) (s : State) :
    EffX 262148 s (execSetQosControl a0 a1 a2 s) := by
  unfold execSetQosControl
  refine mboxCmd_eff ?_ ?_
  · exact Eff.refl
  · intro p0 h1
    try beta_reduce
    refine Eff.then ?_ (State.fmAns_eff _ _ _ _) (by decide)
    refine Eff.then ?_ (upd_prt _ _) (by decide)
    exact h1

theorem execSetDcRegionConfig_eff (a0) (a1) (a2) (a3) (s : State) :
    EffX 524292 s (execSetDcRegionConfig a0 a1 a2 a3 s) := by
  unfold execSetDcRegionConfig
  refine mboxCmd_eff ?_ ?_
  · exact Eff.refl
  · intro p0 h1
    try beta_reduce
    extract_lets -merge x2 x3 x4 x5
    clear_value x2
    clear_value x3
    clear_value x4
    clear_value x5
    refine Eff.ite ?_ ?_
    · refine Eff.then ?_ (State.fmAns_eff _ _ _ _) (by decide)
      exact h1
    · refine Eff.then ?_ (State.fmAns_eff _ _ _ _) (by decide)
      refine Eff.then ?_ (State.updLd_eff _ _ _) (by decide)
      exact h1

theorem execInitiateDcAdd_eff (a0) (a1) (a2) (s : State) :
    EffX 524292 s (execInitiateDcAdd a0 a1 a2 s) := by
  unfold execInitiateDcAdd
  refine mboxCmd_eff ?_ ?_
  · exact Eff.refl
  · intro p0 h1
    try beta_reduce
    extract_lets -merge x2
    clear_value x2
    refine Eff.ite ?_ ?_
    · refine Eff.then ?_ (State.fmAns_eff _ _ _ _) (by decide)
      exact h1
    · refine Eff.ite ?_ ?_
      · refine Eff.then ?_ (State.fmAns_eff _ _ _ _) (by decide)
        exact h1
      · split
        · rename_i v3 v4 e5
          have h6 : Eff 524292 s v4 := by
            refine EffO.at e5 ?_
            refine EffO.then ?_ (State.offer_eff _ _ _ _ _) (by decide)
            exact h1
          refine Eff.then ?_ (State.fmAns_eff _ _ _ _) (by decide)
          exact h6
        · rename_i v7 e8
          refine Eff.then ?_ (State.fmAns_eff _ _ _ _) (by decide)
          exact h1

theorem execInitiateDcRelease_eff (a0) (a1) (a2) (s : State) :
    EffX 449593430 s (execInitiateDcRelease a0 a1 a2 s) := by
  unfold execInitiateDcRelease
  refine mboxCmd_eff ?_ ?_
  · exact Eff.refl
  · intro p0 h1
    try beta_reduce
    split
    · rename_i v2 e3
      refine Eff.then ?_ (State.fmAns_eff _ _ _ _) (by decide)
      exact h1
    · rename_i v4 v5 e6
      refine Eff.ite ?_ ?_
      · refine Eff.then ?_ (State.fmAns_eff _ _ _ _) (by decide)
        refine Eff.then ?_ (State.releaseStep_eff _ _ _) (by decide)
        refine Eff.then ?_ (State.dcEvent_eff _ _ _ _ _) (by decide)
        exact h1
      · refine Eff.then ?_ (State.fmAns_eff _ _ _ _) (by decide)
        refine Eff.then ?_ (State.askRelease_eff _ _ _ _) (by decide)
        exact h1

theorem execGetMultiHeadedInfo_eff (s : State) :
    EffX 4 s (execGetMultiHeadedInfo s) := by
  unfold execGetMultiHeadedInfo
  refine mboxCmd_eff ?_ ?_
  · exact Eff.refl
  · intro p0 h1
    try beta_reduce
    refine Eff.then ?_ (State.fmAns_eff _ _ _ _) (by decide)
    exact h1

theorem execFmApiOtherCommand_eff (a0) (s : State) :
    EffX 4 s (execFmApiOtherCommand a0 s) := by
  unfold execFmApiOtherCommand
  refine mboxCmd_eff ?_ ?_
  · exact Eff.refl
  · intro p0 h1
    try beta_reduce
    refine Eff.ite ?_ ?_
    · refine Eff.then ?_ (State.fmAns_eff _ _ _ _) (by decide)
      exact h1
    · refine Eff.then ?_ (State.fmAns_eff _ _ _ _) (by decide)
      exact h1

theorem execFmApiOwnerCommand_eff (a0) (a1) (s : State) :
    EffX 536870916 s (execFmApiOwnerCommand a0 a1 s) := by
  unfold execFmApiOwnerCommand
  refine whileUp_eff ?_ ?_
  · exact Eff.refl
  · intro p0 h1
    try beta_reduce
    extract_lets -merge x2 x3
    clear_value x2
    clear_value x3
    refine Eff.ite ?_ ?_
    · refine Eff.then ?_ (State.fmAns_eff _ _ _ _) (by decide)
      exact h1
    · refine Eff.ite ?_ ?_
      · refine Eff.then ?_ (State.fmAns_eff _ _ _ _) (by decide)
        exact h1
      · refine Eff.ite ?_ ?_
        · refine Eff.then ?_ (State.fmAns_eff _ _ _ _) (by decide)
          exact h1
        · refine Eff.then ?_ (upd_mbox _ _) (by decide)
          exact h1

end Sys2Proof.Machine
end

