-- ==== Sys2Proof/Laws/EffTier.lean ====
section
/-! SUPPORT. What the functions of Machine/Tier.lean may change: bit i of a mask is component i of `Comp.idx`.
The theorems are checked one after another: each is small, and the joined text has many. -/

set_option Elab.async false

namespace Sys2Proof.Machine

theorem State.pageTraffic_eff (s : State) (a1) (a2) (a3) (a4) :
    Eff 33554432 s (State.pageTraffic s a1 a2 a3 a4) := by
  unfold State.pageTraffic
  extract_lets -merge x0
  clear_value x0
  refine Eff.foldl ?_ ?_
  · exact Eff.refl
  · intro p1 p2 h3
    try beta_reduce
    refine Eff.ite ?_ ?_
    · exact h3
    · refine Eff.foldl ?_ ?_
      · exact h3
      · intro p4 p5 h6
        try beta_reduce
        refine Eff.then ?_ (State.dramPush_eff _ _) (by decide)
        exact h6

theorem State.startPromos_eff (s : State) :
    Eff 4194304 s (State.startPromos s) := by
  unfold State.startPromos
  extract_lets -merge x0 x1 x2
  clear_value x0
  clear_value x1
  clear_value x2
  refine Eff.then ?_ (upd_tier _ _) (by decide)
  exact Eff.refl

theorem State.promoCommit_eff (s : State) (a1) :
    Eff 449347654 s (State.promoCommit s a1) := by
  unfold State.promoCommit
  split
  · rename_i v0 e1
    exact Eff.refl
  · rename_i v2 v3 e4
    extract_lets -merge x5 x6 x7 x8 x9 x10 x11 x12 x13
    clear_value x5
    clear_value x6
    have h14 : Eff 449347654 s x7 := by
      subst x7
      refine Eff.then ?_ (State.sealPage_eff _ _) (by decide)
      refine Eff.then ?_ (State.setPage_eff _ _ _) (by decide)
      refine Eff.then ?_ (State.pageTraffic_eff _ _ _ _ _) (by decide)
      refine Eff.then ?_ (State.reopenPage_eff _ _) (by decide)
      exact Eff.refl
    clear_value x7
    have h15 : Eff 449347654 s x8 := by
      subst x8
      refine Eff.then ?_ (State.leaveFrame_eff _ _) (by decide)
      exact h14
    clear_value x8
    clear_value x9
    have h16 : Eff 449347654 s x10 := by
      subst x10
      refine Eff.then ?_ (upd_tier _ _) (by decide)
      exact h15
    clear_value x10
    have h17 : Eff 449347654 s x11 := by
      subst x11
      refine Eff.then ?_ (State.inc_eff _ _ _) (by decide)
      refine Eff.then ?_ (State.pageTraffic_eff _ _ _ _ _) (by decide)
      exact h16
    clear_value x11
    clear_value x12
    have h18 : Eff 449347654 s x13 := by
      subst x13
      split
      · rename_i v19 v20 e21
        refine Eff.then ?_ (State.resume_eff _ _ _) (by decide)
        refine Eff.then ?_ (upd_tier _ _) (by decide)
        exact h17
      · rename_i v22 e23
        exact h17
    clear_value x13
    refine Eff.then ?_ (State.startPromos_eff _) (by decide)
    exact h18

theorem execPromotionCommit_eff (a0) (s : State) :
    EffX 449347654 s (execPromotionCommit a0 s) := by
  unfold execPromotionCommit
  refine whileUp_eff ?_ ?_
  · exact Eff.refl
  · intro p0 h1
    try beta_reduce
    refine Eff.then ?_ (State.promoCommit_eff _ _) (by decide)
    exact h1

theorem State.demote_eff (s : State) (a1) :
    Eff 37748800 s (State.demote s a1) := by
  unfold State.demote
  extract_lets -merge x0 x1 x2 x3 x4 x5
  clear_value x0
  clear_value x1
  clear_value x2
  clear_value x3
  have h6 : ∀ p0 p1 p2, Eff 37748800 s p0 → Eff 37748800 s (x4 p0 p1 p2) := by
    subst x4
    intro p7 p8 p9 h10
    try beta_reduce
    split
    · rename_i v11 v12 v13 e14
      have h15 : Eff 37748800 s v13 := by
        refine EffOR.at e14 ?_
        refine EffOR.then ?_ (State.takePart_eff _ _) (by decide)
        exact h10
      refine Eff.then ?_ (State.startMig_eff _ _ _ _) (by decide)
      refine Eff.then ?_ (State.pageTraffic_eff _ _ _ _ _) (by decide)
      exact h15
    · rename_i v16 e17
      exact h10
  clear_value x4
  clear_value x5
  refine Eff.ite ?_ ?_
  · refine Eff.then ?_ (State.inc_eff _ _ _) (by decide)
    refine Eff.then ?_ (State.setPage_eff _ _ _) (by decide)
    exact Eff.refl
  · refine Eff.ite ?_ ?_
    · refine Eff.then ?_ (State.startMig_eff _ _ _ _) (by decide)
      exact Eff.refl
    · refine Eff.ite ?_ ?_
      · refine h6 _ _ _ ?_
        exact Eff.refl
      · refine Eff.ite ?_ ?_
        · refine h6 _ _ _ ?_
          exact Eff.refl
        · refine Eff.then ?_ (State.inc_eff _ _ _) (by decide)
          refine Eff.then ?_ (State.setPage_eff _ _ _) (by decide)
          exact Eff.refl

theorem State.sweepPage_eff (s : State) (a1) :
    Eff 37748800 s (State.sweepPage s a1) := by
  unfold State.sweepPage
  split
  · rename_i v0 v1 e2
    extract_lets -merge x3 x4 x5 x6
    clear_value x3
    have h7 : Eff 37748800 s x4 := by
      subst x4
      refine Eff.then ?_ (State.setPage_eff _ _ _) (by decide)
      exact Eff.refl
    clear_value x4
    clear_value x5
    clear_value x6
    refine Eff.ite ?_ ?_
    · refine Eff.then ?_ (State.demote_eff _ _) (by decide)
      exact h7
    · refine Eff.ite ?_ ?_
      · refine Eff.then ?_ (State.hotPromote_eff _ _) (by decide)
        exact h7
      · exact h7
  · rename_i v8 e9
    exact Eff.refl

theorem walkPages_eff {w : Nat} {r s : State} {f : State → Nat → State} {l : List Nat} (h : Eff w r s)
    (hf : ∀ x q, Eff w r x → Eff w r (f x q)) : Eff w r (walkPages f l s).1 := by
  induction l generalizing s with
  | nil => exact h
  | cons q l ih =>
    unfold walkPages
    exact EffL.ite h (ih (hf _ _ h))

theorem State.heatSweep_eff (s : State) :
    Eff 37748800 s (State.heatSweep s) := by
  unfold State.heatSweep
  extract_lets -merge x0 x1
  have h2 : ∀ p0 p1, Eff 37748800 s p0 → Eff 37748800 s (x0 p0 p1) := by
    subst x0
    intro p3 p4 h5
    try beta_reduce
    extract_lets -merge x6 x7 x8
    have h9 : Eff 37748800 s x6.1 := by
      subst x6
      refine walkPages_eff ?_ ?_
      · exact h5
      · intro p10 p11 h12
        try beta_reduce
        refine Eff.then ?_ (State.sweepPage_eff _ _) (by decide)
        exact h12
    clear_value x6
    have h13 : Eff 37748800 s x7 := by
      subst x7
      exact h9
    clear_value x7
    clear_value x8
    refine Eff.then ?_ (upd_tier _ _) (by decide)
    exact h13
  clear_value x0
  clear_value x1
  split
  · rename_i v14 v15 e16
    refine Eff.ite ?_ ?_
    · refine h2 _ _ ?_
      exact Eff.refl
    · exact Eff.refl
  · rename_i v17 e18
    refine Eff.ite ?_ ?_
    · exact Eff.refl
    · refine h2 _ _ ?_
      refine Eff.then ?_ (upd_tier _ _) (by decide)
      exact Eff.refl

theorem execHeatSweep_eff (s : State) :
    EffX 37748800 s (execHeatSweep s) := by
  unfold execHeatSweep
  refine whileUp_eff ?_ ?_
  · exact Eff.refl
  · intro p0 h1
    try beta_reduce
    refine Eff.then ?_ (State.heatSweep_eff _) (by decide)
    exact h1

theorem State.emergencyPass_eff (s : State) :
    Eff 37748800 s (State.emergencyPass s) := by
  unfold State.emergencyPass
  refine Eff.ite ?_ ?_
  · exact Eff.refl
  · extract_lets -merge x0 x1 x2 x3
    have h4 : Eff 37748800 s x0.1 := by
      subst x0
      refine walkPages_eff ?_ ?_
      · exact Eff.refl
      · intro p5 p6 h7
        try beta_reduce
        refine Eff.ite ?_ ?_
        · refine Eff.then ?_ (State.demote_eff _ _) (by decide)
          exact h7
        · exact h7
    clear_value x0
    clear_value x1
    have h8 : Eff 37748800 s x2 := by
      subst x2
      exact h4
    clear_value x2
    clear_value x3
    refine Eff.then ?_ (upd_tier _ _) (by decide)
    exact h8

theorem execEmergencyDemotionPass_eff (s : State) :
    EffX 37748800 s (execEmergencyDemotionPass s) := by
  unfold execEmergencyDemotionPass
  refine whileUp_eff ?_ ?_
  · exact Eff.refl
  · intro p0 h1
    try beta_reduce
    refine Eff.then ?_ (State.emergencyPass_eff _) (by decide)
    exact h1

theorem State.takeSplit_eff (s : State) (a1) (a2) :
    EffOR 4194304 s (State.takeSplit s a1 a2) := by
  unfold State.takeSplit
  extract_lets -merge x0
  clear_value x0
  split
  · rename_i v1 v2 v3 e4
    split
    · rename_i v5 v6 e7
      refine EffOR.some ?_
      refine Eff.then ?_ (State.setFrame_eff _ _ _) (by decide)
      exact Eff.refl
    · rename_i v8 e9
      exact EffOR.none
  · rename_i v10 e11
    exact EffOR.none

theorem State.compact_eff (s : State) (a1) :
    Eff 37748736 s (State.compact s a1) := by
  unfold State.compact
  extract_lets -merge x0 x1
  clear_value x0
  clear_value x1
  refine Eff.ite ?_ ?_
  · exact Eff.refl
  · split
    · rename_i v2 v3 v4 e5
      have h6 : Eff 37748736 s v4 := by
        refine EffOR.at e5 ?_
        refine EffOR.then ?_ (State.takeSplit_eff _ _ _) (by decide)
        exact Eff.refl
      refine Eff.then ?_ (State.startMig_eff _ _ _ _) (by decide)
      refine Eff.then ?_ (State.pageTraffic_eff _ _ _ _ _) (by decide)
      exact h6
    · rename_i v7 e8
      exact Eff.refl

theorem execCompaction_eff (a0) (s : State) :
    EffX 37748736 s (execCompaction a0 s) := by
  unfold execCompaction
  refine whileUp_eff ?_ ?_
  · exact Eff.refl
  · intro p0 h1
    try beta_reduce
    refine Eff.then ?_ (State.compact_eff _ _) (by decide)
    exact h1

theorem State.freeLr_eff (s : State) (a1) :
    Eff 37748800 s (State.freeLr s a1) := by
  unfold State.freeLr
  extract_lets -merge x0 x1 x2 x3 x4
  clear_value x0
  have h5 : Eff 37748800 s x1 := by
    subst x1
    refine Eff.then ?_ (State.setF_eff _ _ _) (by decide)
    exact Eff.refl
  clear_value x1
  clear_value x2
  have h6 : Eff 37748800 s x3 := by
    subst x3
    refine Eff.then ?_ (upd_tier _ _) (by decide)
    exact h5
  clear_value x3
  clear_value x4
  refine Eff.then ?_ (State.setPage_eff _ _ _) (by decide)
  exact h6

theorem State.lrDrain_eff (s : State) :
    Eff 37748800 s (State.lrDrain s) := by
  unfold State.lrDrain
  refine Eff.ite ?_ ?_
  · exact Eff.refl
  · split
    · rename_i v0 e1
      exact Eff.refl
    · rename_i v2 v3 e4
      extract_lets -merge x5
      clear_value x5
      refine Eff.ite ?_ ?_
      · refine Eff.then ?_ (State.freeLr_eff _ _) (by decide)
        exact Eff.refl
      · split
        · rename_i v6 v7 v8 e9
          have h10 : Eff 37748800 s v8 := by
            refine EffOR.at e9 ?_
            refine EffOR.then ?_ (State.takeFrame_eff _) (by decide)
            exact Eff.refl
          refine Eff.then ?_ (State.startMig_eff _ _ _ _) (by decide)
          refine Eff.then ?_ (State.pageTraffic_eff _ _ _ _ _) (by decide)
          exact h10
        · rename_i v11 e12
          exact Eff.refl

theorem execLrDrain_eff (s : State) :
    EffX 37748800 s (execLrDrain s) := by
  unfold execLrDrain
  refine whileUp_eff ?_ ?_
  · exact Eff.refl
  · intro p0 h1
    try beta_reduce
    refine Eff.then ?_ (State.lrDrain_eff _) (by decide)
    exact h1

theorem State.setRot_eff (s : State) (a1) :
    Eff 4194368 s (State.setRot s a1) := by
  unfold State.setRot
  extract_lets -merge x0 x1 x2 x3
  clear_value x0
  clear_value x1
  clear_value x2
  have h4 : Eff 4194368 s x3 := by
    subst x3
    refine Eff.then ?_ (upd_tier _ _) (by decide)
    exact Eff.refl
  clear_value x3
  refine Eff.then ?_ (State.setF_eff _ _ _) (by decide)
  refine Eff.then ?_ (State.setF_eff _ _ _) (by decide)
  refine Eff.then ?_ (State.setF_eff _ _ _) (by decide)
  exact h4

theorem State.rotDone_eff (s : State) (a1) :
    Eff 4194368 s (State.rotDone s a1) := by
  unfold State.rotDone
  split
  · rename_i v0 v1 e2
    refine Eff.ite ?_ ?_
    · refine Eff.then ?_ (State.setRot_eff _ _) (by decide)
      exact Eff.refl
    · exact Eff.refl
  · rename_i v3 e4
    exact Eff.refl

theorem State.rotCopy_eff (s : State) (a1) :
    Eff 37748800 s (State.rotCopy s a1) := by
  unfold State.rotCopy
  split
  · rename_i v0 e1
    exact Eff.refl
  · rename_i v2 v3 e4
    refine Eff.ite ?_ ?_
    · exact Eff.refl
    · extract_lets -merge x5 x6
      clear_value x5
      have h7 : EffOR 37748800 s x6 := by
        subst x6
        refine EffOR.ite ?_ ?_
        · refine EffO.mapR ?_ (fun _ => rfl)
          refine EffOR.then ?_ (State.takeFrame_eff _) (by decide)
          exact Eff.refl
        · refine EffOR.then ?_ (State.takePart_eff _ _) (by decide)
          exact Eff.refl
      clear_value x6
      refine Eff.ite ?_ ?_
      · exact Eff.refl
      · refine Eff.ite ?_ ?_
        · refine Eff.then ?_ (State.rotDone_eff _ _) (by decide)
          exact Eff.refl
        · split
          · rename_i v8 v9 v10
            refine Eff.then ?_ (State.startMig_eff _ _ _ _) (by decide)
            refine Eff.then ?_ (State.pageTraffic_eff _ _ _ _ _) (by decide)
            exact h7 _ _ rfl
          · rename_i v11
            exact Eff.refl

theorem execRotationPageCopy_eff (a0) (s : State) :
    EffX 37748800 s (execRotationPageCopy a0 s) := by
  unfold execRotationPageCopy
  refine whileUp_eff ?_ ?_
  · exact Eff.refl
  · intro p0 h1
    try beta_reduce
    refine Eff.then ?_ (State.rotCopy_eff _ _) (by decide)
    exact h1

theorem State.rotLine_eff (s : State) :
    Eff 315097152 s (State.rotLine s) := by
  unfold State.rotLine
  split
  · rename_i v0 v1 e2
    split
    · rename_i v3 v4 v5 v6 v7 e8 e9
      extract_lets -merge x10 x11 x12 x13 x14
      clear_value x10
      have h15 : Eff 315097152 s x11 := by
        subst x11
        refine Eff.then ?_ (State.reopen_eff _ _) (by decide)
        exact Eff.refl
      clear_value x11
      have h16 : Eff 315097152 s x12 := by
        subst x12
        refine Eff.then ?_ (State.dramPush_eff _ _) (by decide)
        refine Eff.then ?_ (State.dramPush_eff _ _) (by decide)
        exact h15
      clear_value x12
      have h17 : Eff 315097152 s x13 := by
        subst x13
        refine Eff.then ?_ (State.setRot_eff _ _) (by decide)
        exact h16
      clear_value x13
      clear_value x14
      refine Eff.ite ?_ ?_
      · refine Eff.then ?_ (upd_tier _ _) (by decide)
        exact h17
      · exact h17
    · rename_i v18 v19 e20
      exact Eff.refl
  · rename_i v21 e22
    exact Eff.refl

theorem execRotationLineAdvance_eff (s : State) :
    EffX 315097152 s (execRotationLineAdvance s) := by
  unfold execRotationLineAdvance
  refine whileUp_eff ?_ ?_
  · exact Eff.refl
  · intro p0 h1
    try beta_reduce
    refine Eff.then ?_ (State.rotLine_eff _) (by decide)
    exact h1

theorem State.migSwitch_eff (s : State) (a1) :
    Eff 315097152 s (State.migSwitch s a1) := by
  unfold State.migSwitch
  split
  · rename_i v0 e1
    exact Eff.refl
  · rename_i v2 v3 e4
    refine Eff.ite ?_ ?_
    · exact Eff.refl
    · extract_lets -merge x5 x6 x7 x8 x9 x10 x11
      clear_value x5
      have h12 : Eff 315097152 s x6 := by
        subst x6
        refine Eff.then ?_ (State.pageTraffic_eff _ _ _ _ _) (by decide)
        refine Eff.then ?_ (State.reopenPage_eff _ _) (by decide)
        exact Eff.refl
      clear_value x6
      clear_value x7
      have h13 : Eff 315097152 s x8 := by
        subst x8
        refine Eff.then ?_ (State.sealPage_eff _ _) (by decide)
        refine Eff.then ?_ (State.setPage_eff _ _ _) (by decide)
        exact h12
      clear_value x8
      have h14 : Eff 315097152 s x9 := by
        subst x9
        refine Eff.then ?_ (State.leaveFrame_eff _ _) (by decide)
        exact h13
      clear_value x9
      clear_value x10
      have h15 : Eff 315097152 s x11 := by
        subst x11
        refine Eff.then ?_ (upd_tier _ _) (by decide)
        exact h14
      clear_value x11
      split
      · rename_i v16 e17
        refine Eff.then ?_ (State.inc_eff _ _ _) (by decide)
        exact h15
      · rename_i v18 e19
        refine Eff.then ?_ (State.inc_eff _ _ _) (by decide)
        exact h15
      · rename_i v20 e21
        refine Eff.then ?_ (State.rotDone_eff _ _) (by decide)
        exact h15
      · rename_i v22 e23
        refine Eff.then ?_ (State.freeLr_eff _ _) (by decide)
        exact h15
      · rename_i v24 e25 e26 e27 e28
        exact h15

theorem execTierMigrationSwitch_eff (a0) (s : State) :
    EffX 315097152 s (execTierMigrationSwitch a0 s) := by
  unfold execTierMigrationSwitch
  refine whileUp_eff ?_ ?_
  · exact Eff.refl
  · intro p0 h1
    try beta_reduce
    refine Eff.then ?_ (State.migSwitch_eff _ _) (by decide)
    exact h1

theorem State.setFloor_eff (s : State) :
    Eff 64 s (State.setFloor s) := by
  unfold State.setFloor
  extract_lets -merge x0 x1
  clear_value x0
  clear_value x1
  refine Eff.then ?_ (State.setF_eff _ _ _) (by decide)
  exact Eff.refl

theorem State.askSavings_eff (s : State) :
    Eff 524292 s (State.askSavings s) := by
  unfold State.askSavings
  extract_lets -merge x0 x1 x2
  clear_value x0
  clear_value x1
  clear_value x2
  refine EffL.foldl ?_ ?_
  · exact Eff.refl
  · intro p3 p4 h5
    try beta_reduce
    refine EffL.ite ?_ ?_
    · refine Eff.then ?_ (State.askRelease_eff _ _ _ _) (by decide)
      exact h5
    · exact h5

theorem State.levelUp_eff (s : State) :
    Eff 268959812 s (State.levelUp s) := by
  unfold State.levelUp
  extract_lets -merge x0 x1 x2
  clear_value x0
  clear_value x1
  have h3 : Eff 268959812 s x2 := by
    subst x2
    refine Eff.then ?_ (State.setIrq_eff _ _) (by decide)
    refine Eff.then ?_ (State.setF_eff _ _ _) (by decide)
    exact Eff.refl
  clear_value x2
  refine Eff.ite ?_ ?_
  · refine Eff.then ?_ (State.raise_eff _ _ _ _) (by decide)
    exact h3
  · refine Eff.ite ?_ ?_
    · refine Eff.then ?_ (State.askSavings_eff _) (by decide)
      refine Eff.then ?_ (State.raise_eff _ _ _ _) (by decide)
      exact h3
    · refine Eff.then ?_ (State.setFloor_eff _) (by decide)
      refine Eff.then ?_ (State.raise_eff _ _ _ _) (by decide)
      exact h3

theorem State.headroom_eff (s : State) :
    Eff 273154116 s (State.headroom s) := by
  unfold State.headroom
  extract_lets -merge x0 x1 x2 x3 x4 x5 x6 x7
  clear_value x0
  clear_value x1
  have h8 : Eff 273154116 s x2 := by
    subst x2
    refine Eff.then ?_ (State.setF_eff _ _ _) (by decide)
    refine Eff.then ?_ (State.setF_eff _ _ _) (by decide)
    exact Eff.refl
  clear_value x2
  clear_value x3
  clear_value x4
  have h9 : Eff 273154116 s x5 := by
    subst x5
    refine Eff.then ?_ (State.setIrq_eff _ _) (by decide)
    refine Eff.then ?_ (State.setF_eff _ _ _) (by decide)
    exact h8
  clear_value x5
  have h10 : Eff 273154116 s x6 := by
    subst x6
    refine Eff.then ?_ (State.raise_eff _ _ _ _) (by decide)
    exact h9
  clear_value x6
  clear_value x7
  refine Eff.ite ?_ ?_
  · refine Eff.foldl ?_ ?_
    · exact h8
    · intro p11 p12 h13
      try beta_reduce
      refine Eff.then ?_ (State.levelUp_eff _) (by decide)
      exact h13
  · refine Eff.ite ?_ ?_
    · refine Eff.then ?_ (State.setFloor_eff _) (by decide)
      refine Eff.then ?_ (upd_tier _ _) (by decide)
      exact h10
    · exact h8

theorem State.zeroTraffic_eff (s : State) (a1) (a2) (a3) :
    Eff 33554432 s (State.zeroTraffic s a1 a2 a3) := by
  unfold State.zeroTraffic
  extract_lets -merge x0
  clear_value x0
  refine Eff.foldl ?_ ?_
  · exact Eff.refl
  · intro p1 p2 h3
    try beta_reduce
    refine Eff.then ?_ (State.dramPush_eff _ _) (by decide)
    exact h3

theorem State.zeroOne_eff (s : State) (a1) (a2) (a3) :
    Eff 37748736 s (State.zeroOne s a1 a2 a3) := by
  unfold State.zeroOne
  extract_lets -merge x0 x1 x2 x3
  clear_value x0
  have h4 : Eff 37748736 s x1 := by
    subst x1
    refine Eff.then ?_ (State.zeroTraffic_eff _ _ _ _) (by decide)
    exact Eff.refl
  clear_value x1
  have h5 : Eff 37748736 s x2 := by
    subst x2
    refine Eff.then ?_ (State.setFrame_eff _ _ _) (by decide)
    exact h4
  clear_value x2
  clear_value x3
  refine Eff.ite ?_ ?_
  · refine Eff.then ?_ (upd_tier _ _) (by decide)
    exact h5
  · refine Eff.then ?_ (State.setFrame_eff _ _ _) (by decide)
    exact h4

theorem State.zeroBack_eff (s : State) :
    Eff 37748736 s (State.zeroBack s) := by
  unfold State.zeroBack
  split
  · rename_i v0 v1 v2 v3 e4
    extract_lets -merge x5 x6 x7
    clear_value x5
    clear_value x6
    clear_value x7
    refine Eff.then ?_ (State.zeroOne_eff _ _ _ _) (by decide)
    refine Eff.then ?_ (upd_tier _ _) (by decide)
    exact Eff.refl
  · rename_i v8 e9
    exact Eff.refl

theorem State.zeroFrame_eff (s : State) :
    Eff 449609798 s (State.zeroFrame s) := by
  unfold State.zeroFrame
  extract_lets -merge x0 x1 x2 x3 x4 x5 x6 x7
  clear_value x0
  clear_value x1
  clear_value x2
  have h8 : Eff 449609798 s x3 := by
    subst x3
    refine Eff.then ?_ (State.zeroTraffic_eff _ _ _ _) (by decide)
    refine Eff.then ?_ (upd_tier _ _) (by decide)
    exact Eff.refl
  clear_value x3
  clear_value x4
  have h9 : Eff 449609798 s x5 := by
    subst x5
    split
    · rename_i v10 v11 v12 v13 v14 e15
      refine Eff.then ?_ (State.zeroOne_eff _ _ _ _) (by decide)
      refine Eff.then ?_ (upd_tier _ _) (by decide)
      exact Eff.refl
    · rename_i v16 e17
      refine Eff.ite ?_ ?_
      · refine Eff.then ?_ (State.zeroBack_eff _) (by decide)
        exact Eff.refl
      · refine Eff.ite ?_ ?_
        · refine Eff.ite ?_ ?_
          · refine Eff.then ?_ (State.setF_eff _ _ _) (by decide)
            refine Eff.then ?_ (upd_tier _ _) (by decide)
            exact h8
          · exact h8
        · exact Eff.refl
  clear_value x5
  clear_value x6
  have h18 : Eff 449609798 s x7 := by
    subst x7
    refine Eff.ite ?_ ?_
    · refine Eff.then ?_ (upd_prt _ _) (by decide)
      exact h9
    · exact h9
  clear_value x7
  refine Eff.then ?_ (State.setF_eff _ _ _) (by decide)
  refine Eff.then ?_ (State.retryZero_eff _) (by decide)
  exact h18

theorem execZeroFrameDone_eff (s : State) :
    EffX 449609798 s (execZeroFrameDone s) := by
  unfold execZeroFrameDone
  refine whileUp_eff ?_ ?_
  · exact Eff.refl
  · intro p0 h1
    try beta_reduce
    refine Eff.then ?_ (State.zeroFrame_eff _) (by decide)
    exact h1

theorem State.onDemand_eff (s : State) :
    Eff 449347654 s (State.onDemand s) := by
  unfold State.onDemand
  refine Eff.ite ?_ ?_
  · exact Eff.refl
  · split
    · rename_i v0 e1
      exact Eff.refl
    · rename_i v2 v3 e4
      extract_lets -merge x5 x6
      clear_value x5
      have h7 : Eff 449347654 s x6 := by
        subst x6
        refine Eff.then ?_ (upd_tier _ _) (by decide)
        exact Eff.refl
      clear_value x6
      refine Eff.then ?_ (State.retryZero_eff _) (by decide)
      refine Eff.then ?_ (State.zeroOne_eff _ _ _ _) (by decide)
      exact h7

theorem execOnDemandZero_eff (s : State) :
    EffX 449347654 s (execOnDemandZero s) := by
  unfold execOnDemandZero
  refine whileUp_eff ?_ ?_
  · exact Eff.refl
  · intro p0 h1
    try beta_reduce
    refine Eff.then ?_ (State.onDemand_eff _) (by decide)
    exact h1

end Sys2Proof.Machine
end

