-- ==== Sys2Proof/Laws/EffOwner.lean ====
section
/-! SUPPORT. What the functions of Machine/Owner.lean may change: bit i of a mask is component i of `Comp.idx`.
The theorems are checked one after another: each is small, and the joined text has many. -/

set_option Elab.async false

namespace Sys2Proof.Machine

theorem State.setKey_eff (s : State) (a1) (a2) :
    Eff 1073741824 s (State.setKey s a1 a2) := by
  unfold State.setKey
  refine Eff.then ?_ (upd_life _ _) (by decide)
  exact Eff.refl

theorem execDomainCreate_eff (a0) (a1) (a2) (s : State) :
    EffX 536936448 s (execDomainCreate a0 a1 a2 s) := by
  unfold execDomainCreate
  refine whileUp_eff ?_ ?_
  · exact Eff.refl
  · intro p0 h1
    try beta_reduce
    extract_lets -merge x2 x3 x4
    clear_value x2
    clear_value x3
    clear_value x4
    refine State.owner1_eff ?_ ?_
    · exact h1
    · intro p5 h6
      try beta_reduce
      refine Eff.then ?_ (State.setDword_eff _ _ _) (by decide)
      exact h6

theorem execDomainDestroy_eff (a0) (a1) (s : State) :
    EffX 536936448 s (execDomainDestroy a0 a1 s) := by
  unfold execDomainDestroy
  refine whileUp_eff ?_ ?_
  · exact Eff.refl
  · intro p0 h1
    try beta_reduce
    extract_lets -merge x2 x3
    clear_value x2
    clear_value x3
    refine State.owner1_eff ?_ ?_
    · exact h1
    · intro p4 h5
      try beta_reduce
      refine Eff.then ?_ (State.setDword_eff _ _ _) (by decide)
      exact h5

theorem execLdMapSet_eff (a0) (a1) (a2) (a3) (s : State) :
    EffX 940818184 s (execLdMapSet a0 a1 a2 a3 s) := by
  unfold execLdMapSet
  refine whileUp_eff ?_ ?_
  · exact Eff.refl
  · intro p0 h1
    try beta_reduce
    extract_lets -merge x2 x3 x4
    clear_value x2
    clear_value x3
    clear_value x4
    refine State.owner1_eff ?_ ?_
    · exact h1
    · intro p5 h6
      try beta_reduce
      extract_lets -merge x7
      have h8 : Eff 940818184 s x7 := by
        subst x7
        refine Eff.then ?_ (State.setLdMap_eff _ _ _) (by decide)
        exact h6
      clear_value x7
      refine Eff.ite ?_ ?_
      · exact h8
      · refine Eff.then ?_ (State.drainLd_eff _ _ _) (by decide)
        exact h8

theorem execWindowMap_eff (a0) (a1) (a2) (a3) (s : State) :
    EffX 537395200 s (execWindowMap a0 a1 a2 a3 s) := by
  unfold execWindowMap
  refine whileUp_eff ?_ ?_
  · exact Eff.refl
  · intro p0 h1
    try beta_reduce
    extract_lets -merge x2 x3 x4 x5
    clear_value x2
    clear_value x3
    clear_value x4
    clear_value x5
    refine State.owner1_eff ?_ ?_
    · exact h1
    · intro p6 h7
      try beta_reduce
      refine Eff.then ?_ (State.updLd_eff _ _ _) (by decide)
      exact h7

theorem execLdMgmtSet_eff (a0) (a1) (a2) (a3) (s : State) :
    EffX 536870976 s (execLdMgmtSet a0 a1 a2 a3 s) := by
  unfold execLdMgmtSet
  refine whileUp_eff ?_ ?_
  · exact Eff.refl
  · intro p0 h1
    try beta_reduce
    extract_lets -merge x2 x3
    clear_value x2
    clear_value x3
    refine State.owner1_eff ?_ ?_
    · exact h1
    · intro p4 h5
      try beta_reduce
      refine Eff.then ?_ (State.setF_eff _ _ _) (by decide)
      refine Eff.then ?_ (State.setF_eff _ _ _) (by decide)
      exact h5

theorem execCtxAssign_eff (a0) (a1) (a2) (a3) (a4) (a5) (s : State) :
    EffX 537919488 s (execCtxAssign a0 a1 a2 a3 a4 a5 s) := by
  unfold execCtxAssign
  refine whileUp_eff ?_ ?_
  · exact Eff.refl
  · intro p0 h1
    try beta_reduce
    extract_lets -merge x2 x3 x4 x5
    clear_value x2
    clear_value x3
    clear_value x4
    clear_value x5
    refine State.owner1_eff ?_ ?_
    · exact h1
    · intro p6 h7
      try beta_reduce
      refine Eff.then ?_ (State.updCx_eff _ _ _) (by decide)
      exact h7

theorem execCtxDisable_eff (a0) (a1) (a2) (s : State) :
    EffX 940818184 s (execCtxDisable a0 a1 a2 s) := by
  unfold execCtxDisable
  refine whileUp_eff ?_ ?_
  · exact Eff.refl
  · intro p0 h1
    try beta_reduce
    extract_lets -merge x2
    clear_value x2
    refine State.owner1_eff ?_ ?_
    · exact h1
    · intro p3 h4
      try beta_reduce
      refine Eff.ite ?_ ?_
      · refine Eff.then ?_ (State.resetCtx_eff _ _) (by decide)
        exact h4
      · refine Eff.ite ?_ ?_
        · refine Eff.then ?_ (State.drain_eff _ _ _) (by decide)
          exact h4
        · exact h4

theorem execTableCapture_eff (a0) (a1) (a2) (a3) (s : State) :
    EffX 986218564 s (execTableCapture a0 a1 a2 a3 s) := by
  unfold execTableCapture
  refine whileUp_eff ?_ ?_
  · exact Eff.refl
  · intro p0 h1
    try beta_reduce
    extract_lets -merge x2 x3 x4 x5 x6
    clear_value x2
    clear_value x3
    clear_value x4
    clear_value x5
    clear_value x6
    refine State.ownerLong_eff ?_ ?_
    · exact h1
    · intro p7 h8
      try beta_reduce
      refine Eff.then ?_ (State.ownerEnd_eff _ _ _ _ _ _) (by decide)
      refine Eff.then ?_ (State.deviceWrite_eff _ _ _ _ _) (by decide)
      exact h8

theorem State.stewardCmd_eff {w : Nat} {r s : State} {a1} {a2} {a3} {a4} (h : Eff w r s) (h4 : ∀ y0, Eff w r y0 → Eff w r (a4 y0))
    (hw : 536870912 &&& w = 536870912 := by decide) :
    Eff w r (State.stewardCmd s a1 a2 a3 a4) := by
  unfold State.stewardCmd
  refine Eff.ite ?_ ?_
  · exact h
  · split
    · rename_i v0 v1 e2
      refine Eff.then ?_ (State.ownerEnd_eff _ _ _ _ _ _) (mask_le (by decide) hw)
      exact h
    · rename_i v3 e4
      refine Eff.then ?_ (State.ownerEnd_eff _ _ _ _ _ _) (mask_le (by decide) hw)
      refine h4 _ ?_
      exact h

theorem execTierSetPolicy_eff (a0) (a1) (a2) (a3) (a4) (a5) (s : State) :
    EffX 536870976 s (execTierSetPolicy a0 a1 a2 a3 a4 a5 s) := by
  unfold execTierSetPolicy
  refine whileUp_eff ?_ ?_
  · exact Eff.refl
  · intro p0 h1
    try beta_reduce
    extract_lets -merge x2 x3 x4 x5 x6
    clear_value x2
    clear_value x3
    clear_value x4
    clear_value x5
    clear_value x6
    refine State.stewardCmd_eff ?_ ?_
    · exact h1
    · intro p7 h8
      try beta_reduce
      refine Eff.then ?_ (State.setReg_eff _ _ _) (by decide)
      exact h8

theorem State.pinPages_eff (s : State) (a1) (a2) (a3) :
    Eff 37748736 s (State.pinPages s a1 a2 a3) := by
  unfold State.pinPages
  refine Eff.foldl ?_ ?_
  · exact Eff.refl
  · intro p0 p1 h2
    try beta_reduce
    refine Eff.then ?_ (State.setPage_eff _ _ _) (by decide)
    exact h2

theorem execTierPin_eff (a0) (a1) (a2) (a3) (s : State) :
    EffX 574619648 s (execTierPin a0 a1 a2 a3 s) := by
  unfold execTierPin
  refine whileUp_eff ?_ ?_
  · exact Eff.refl
  · intro p0 h1
    try beta_reduce
    refine State.stewardCmd_eff ?_ ?_
    · exact h1
    · intro p2 h3
      try beta_reduce
      refine Eff.then ?_ (State.pinPages_eff _ _ _ _) (by decide)
      exact h3

theorem execTierUnpin_eff (a0) (a1) (a2) (a3) (s : State) :
    EffX 574619648 s (execTierUnpin a0 a1 a2 a3 s) := by
  unfold execTierUnpin
  refine whileUp_eff ?_ ?_
  · exact Eff.refl
  · intro p0 h1
    try beta_reduce
    refine State.stewardCmd_eff ?_ ?_
    · exact h1
    · intro p2 h3
      try beta_reduce
      refine Eff.then ?_ (State.pinPages_eff _ _ _ _) (by decide)
      exact h3

theorem execTierOffer_eff (a0) (a1) (a2) (a3) (s : State) :
    EffX 537395204 s (execTierOffer a0 a1 a2 a3 s) := by
  unfold execTierOffer
  refine whileUp_eff ?_ ?_
  · exact Eff.refl
  · intro p0 h1
    try beta_reduce
    extract_lets -merge x2 x3 x4
    clear_value x2
    clear_value x3
    clear_value x4
    refine State.ownerLong_eff ?_ ?_
    · exact h1
    · intro p5 h6
      try beta_reduce
      refine Eff.then ?_ (State.ownerEnd_eff _ _ _ _ _ _) (by decide)
      refine Eff.getD ?_ ?_
      · refine EffO.then ?_ (State.offer_eff _ _ _ _ _) (by decide)
        exact h6
      · exact h6

theorem execKeyRotate_eff (a0) (a1) (a2) (s : State) :
    EffX 541130816 s (execKeyRotate a0 a1 a2 s) := by
  unfold execKeyRotate
  refine whileUp_eff ?_ ?_
  · exact Eff.refl
  · intro p0 h1
    try beta_reduce
    extract_lets -merge x2 x3 x4
    clear_value x2
    clear_value x3
    clear_value x4
    refine State.ownerLong_eff ?_ ?_
    · exact h1
    · intro p5 h6
      try beta_reduce
      extract_lets -merge x7 x8 x9
      clear_value x7
      have h10 : Eff 541130816 s x8 := by
        subst x8
        refine Eff.then ?_ (State.setF_eff _ _ _) (by decide)
        refine Eff.then ?_ (State.setDword_eff _ _ _) (by decide)
        exact h6
      clear_value x8
      clear_value x9
      refine Eff.then ?_ (State.setRot_eff _ _) (by decide)
      exact h10

theorem State.rotFinish_eff (s : State) :
    Eff 1648427072 s (State.rotFinish s) := by
  unfold State.rotFinish
  split
  · rename_i v0 v1 e2
    refine Eff.ite ?_ ?_
    · exact Eff.refl
    · extract_lets -merge x3 x4 x5 x6 x7 x8 x9 x10 x11 x12 x13
      clear_value x3
      clear_value x4
      clear_value x5
      have h14 : Eff 1648427072 s x6 := by
        subst x6
        refine Eff.then ?_ (State.setKey_eff _ _ _) (by decide)
        refine Eff.then ?_ (State.setDword_eff _ _ _) (by decide)
        exact Eff.refl
      clear_value x6
      clear_value x7
      have h15 : Eff 1648427072 s x8 := by
        subst x8
        refine Eff.foldl ?_ ?_
        · exact h14
        · intro p16 p17 h18
          try beta_reduce
          refine Eff.then ?_ (State.setPage_eff _ _ _) (by decide)
          exact h18
      clear_value x8
      clear_value x9
      clear_value x10
      clear_value x11
      have h19 : Eff 1648427072 s x12 := by
        subst x12
        refine Eff.then ?_ (upd_tier _ _) (by decide)
        exact h15
      clear_value x12
      have h20 : Eff 1648427072 s x13 := by
        subst x13
        refine Eff.then ?_ (State.setReg_eff _ _ _) (by decide)
        exact h19
      clear_value x13
      refine Eff.then ?_ (State.ownerEnd_eff _ _ _ _ _ _) (by decide)
      exact h20
  · rename_i v21 e22
    exact Eff.refl

theorem execRotationFinish_eff (s : State) :
    EffX 1648427072 s (execRotationFinish s) := by
  unfold execRotationFinish
  refine whileUp_eff ?_ ?_
  · exact Eff.refl
  · intro p0 h1
    try beta_reduce
    refine Eff.then ?_ (State.rotFinish_eff _) (by decide)
    exact h1

theorem execOwnerCmdUnknown_eff (a0) (a1) (s : State) :
    EffX 536870912 s (execOwnerCmdUnknown a0 a1 s) := by
  unfold execOwnerCmdUnknown
  refine whileUp_eff ?_ ?_
  · exact Eff.refl
  · intro p0 h1
    try beta_reduce
    refine State.owner1_eff ?_ ?_
    · exact h1
    · intro p2 h3
      try beta_reduce
      exact h3

end Sys2Proof.Machine
end

