-- ==== Sys2Proof/Laws/EffCal.lean ====
section
/-! SUPPORT. What the functions of Machine/Cal.lean may change: bit i of a mask is component i of `Comp.idx`.
The theorems are checked one after another: each is small, and the joined text has many. -/

set_option Elab.async false

namespace Sys2Proof.Machine

theorem State.storeCal_eff (s : State) :
    Eff 67108864 s (State.storeCal s) := by
  unfold State.storeCal
  refine Eff.ite ?_ ?_
  · exact Eff.refl
  · extract_lets -merge x0 x1 x2 x3 x4 x5 x6
    clear_value x0
    clear_value x1
    clear_value x2
    clear_value x3
    have h7 : Eff 67108864 s x4 := by
      subst x4
      refine Eff.then ?_ (upd_trn _ _) (by decide)
      exact Eff.refl
    clear_value x4
    clear_value x5
    clear_value x6
    refine Eff.ite ?_ ?_
    · refine Eff.then ?_ (upd_trn _ _) (by decide)
      exact h7
    · refine Eff.then ?_ (upd_trn _ _) (by decide)
      exact h7

theorem State.setSampler_eff (s : State) (a1) (a2) (a3) (a4) :
    Eff 67108864 s (State.setSampler s a1 a2 a3 a4) := by
  unfold State.setSampler
  refine Eff.then ?_ (upd_trn _ _) (by decide)
  exact Eff.refl

theorem State.sampleBurst_eff (s : State) (a1) (a2) (a3) (a4) :
    Eff 67108864 s (State.sampleBurst s a1 a2 a3 a4) := by
  unfold State.sampleBurst
  refine Eff.foldl ?_ ?_
  · exact Eff.refl
  · intro p0 p1 h2
    try beta_reduce
    extract_lets -merge x3 x4
    clear_value x3
    clear_value x4
    refine Eff.ite ?_ ?_
    · exact h2
    · refine Eff.then ?_ (State.setSampler_eff _ _ _ _ _) (by decide)
      exact h2

theorem State.snapshot_eff (s : State) (a1) :
    Eff 67108928 s (State.snapshot s a1) := by
  unfold State.snapshot
  refine Eff.foldl ?_ ?_
  · exact Eff.refl
  · intro p0 p1 h2
    try beta_reduce
    extract_lets -merge x3 x4 x5 x6
    clear_value x3
    clear_value x4
    clear_value x5
    have h7 : Eff 67108928 s x6 := by
      subst x6
      refine Eff.then ?_ (State.setReg_eff _ _ _) (by decide)
      exact h2
    clear_value x6
    refine Eff.then ?_ (State.setSampler_eff _ _ _ _ _) (by decide)
    exact h7

theorem State.nudgeField_eff (s : State) (a1) (a2) (a3) (a4) (a5) (a6) :
    Eff 268959814 s (State.nudgeField s a1 a2 a3 a4 a5 a6) := by
  unfold State.nudgeField
  extract_lets -merge x0 x1 x2 x3
  clear_value x0
  clear_value x1
  clear_value x2
  have h4 : Eff 268959814 s x3.2 := by
    subst x3
    refine Eff.then ?_ (State.free_eff _) (by decide)
    exact Eff.refl
  clear_value x3
  refine Eff.ite ?_ ?_
  · exact Eff.refl
  · refine Eff.ite ?_ ?_
    · refine Eff.then ?_ (State.raise_eff _ _ _ _) (by decide)
      refine Eff.then ?_ (State.setF_eff _ _ _) (by decide)
      exact Eff.refl
    · refine Eff.ite ?_ ?_
      · refine Eff.then ?_ (State.setF_eff _ _ _) (by decide)
        exact Eff.refl
      · refine Eff.then ?_ (State.setF_eff _ _ _) (by decide)
        exact h4

theorem State.applyNudge_eff (s : State) (a1) (a2) :
    Eff 336068678 s (State.applyNudge s a1 a2) := by
  unfold State.applyNudge
  refine Eff.ite ?_ ?_
  · exact Eff.refl
  · extract_lets -merge x0 x1 x2
    clear_value x0
    have h3 : Eff 336068678 s x1 := by
      subst x1
      refine Eff.foldl ?_ ?_
      · exact Eff.refl
      · intro p4 p5 h6
        try beta_reduce
        extract_lets -merge x7 x8 x9 x10 x11
        clear_value x7
        clear_value x8
        have h12 : Eff 336068678 s x9 := by
          subst x9
          refine Eff.then ?_ (State.nudgeField_eff _ _ _ _ _ _ _) (by decide)
          exact h6
        clear_value x9
        have h13 : Eff 336068678 s x10 := by
          subst x10
          refine Eff.then ?_ (State.nudgeField_eff _ _ _ _ _ _ _) (by decide)
          exact h12
        clear_value x10
        clear_value x11
        refine Eff.ite ?_ ?_
        · exact h13
        · refine Eff.then ?_ (State.setSampler_eff _ _ _ _ _) (by decide)
          exact h13
    clear_value x1
    have h14 : Eff 336068678 s x2 := by
      subst x2
      refine Eff.then ?_ (State.inc_eff _ _ _) (by decide)
      refine Eff.then ?_ (State.setF_eff _ _ _) (by decide)
      exact h3
    clear_value x2
    refine Eff.ite ?_ ?_
    · refine Eff.then ?_ (State.storeCal_eff _) (by decide)
      exact h14
    · exact h14

end Sys2Proof.Machine
end

