-- ==== Sys2Proof/Laws/EffDram.lean ====
section
/-! SUPPORT. What the functions of Machine/Dram.lean may change: bit i of a mask is component i of `Comp.idx`.
The theorems are checked one after another: each is small, and the joined text has many. -/

set_option Elab.async false

namespace Sys2Proof.Machine

theorem State.updRk_eff (s : State) (a1) (a2) (a3) :
    Eff 33554432 s (State.updRk s a1 a2 a3) := by
  unfold State.updRk
  refine Eff.then ?_ (upd_dram _ _) (by decide)
  exact Eff.refl

theorem State.updBanks_eff (s : State) (a1) (a2) (a3) (a4) :
    Eff 33554432 s (State.updBanks s a1 a2 a3 a4) := by
  unfold State.updBanks
  extract_lets -merge x0 x1 x2 x3
  clear_value x0
  clear_value x1
  clear_value x2
  clear_value x3
  refine Eff.then ?_ (upd_dram _ _) (by decide)
  exact Eff.refl

theorem State.refresh_eff (s : State) (a1) (a2) (a3) :
    Eff 369623110 s (State.refresh s a1 a2 a3) := by
  unfold State.refresh
  extract_lets -merge x0 x1 x2 x3 x4 x5 x6 x7 x8 x9
  clear_value x0
  clear_value x1
  clear_value x2
  have h10 : Eff 369623110 s x3 := by
    subst x3
    refine Eff.ite ?_ ?_
    · refine Eff.then ?_ (State.inc_eff _ _ _) (by decide)
      exact Eff.refl
    · exact Eff.refl
  clear_value x3
  have h11 : Eff 369623110 s x4 := by
    subst x4
    refine Eff.ite ?_ ?_
    · refine Eff.then ?_ (State.setF_eff _ _ _) (by decide)
      exact h10
    · exact h10
  clear_value x4
  have h12 : Eff 369623110 s x5 := by
    subst x5
    refine Eff.then ?_ (State.updBanks_eff _ _ _ _ _) (by decide)
    exact h11
  clear_value x5
  have h13 : Eff 369623110 s x6 := by
    subst x6
    refine Eff.then ?_ (State.setF_eff _ _ _) (by decide)
    exact h12
  clear_value x6
  have h14 : Eff 369623110 s x7 := by
    subst x7
    refine Eff.then ?_ (State.updBanks_eff _ _ _ _ _) (by decide)
    exact h11
  clear_value x7
  have h15 : Eff 369623110 s x8 := by
    subst x8
    refine Eff.then ?_ (State.setF_eff _ _ _) (by decide)
    exact h14
  clear_value x8
  have h16 : Eff 369623110 s x9 := by
    subst x9
    refine Eff.then ?_ (State.updRk_eff _ _ _ _) (by decide)
    exact h15
  clear_value x9
  refine Eff.ite ?_ ?_
  · refine Eff.then ?_ (State.updRk_eff _ _ _ _) (by decide)
    exact h13
  · refine Eff.then ?_ (State.applyNudge_eff _ _ _) (by decide)
    exact h16

theorem State.refreshWork_eff (s : State) (a1) :
    Eff 369623110 s (State.refreshWork s a1) := by
  unfold State.refreshWork
  refine Eff.foldl ?_ ?_
  · exact Eff.refl
  · intro p0 p1 h2
    try beta_reduce
    extract_lets -merge x3
    clear_value x3
    refine Eff.ite ?_ ?_
    · exact h2
    · refine Eff.ite ?_ ?_
      · refine Eff.then ?_ (State.refresh_eff _ _ _ _) (by decide)
        exact h2
      · refine Eff.ite ?_ ?_
        · refine Eff.then ?_ (State.refresh_eff _ _ _ _) (by decide)
          exact h2
        · exact h2

theorem execRefreshInterval_eff (a0) (a1) (s : State) :
    EffX 33554496 s (execRefreshInterval a0 a1 s) := by
  unfold execRefreshInterval
  refine whileUp_eff ?_ ?_
  · exact Eff.refl
  · intro p0 h1
    try beta_reduce
    extract_lets -merge x2 x3 x4
    clear_value x2
    clear_value x3
    clear_value x4
    refine State.when_eff ?_ ?_
    · exact h1
    · intro p5 h6
      try beta_reduce
      refine Eff.then ?_ (State.updRk_eff _ _ _ _) (by decide)
      refine Eff.then ?_ (State.setF_eff _ _ _) (by decide)
      exact h6

theorem execMr4ReadDue_eff (a0) (a1) (s : State) :
    EffX 33554432 s (execMr4ReadDue a0 a1 s) := by
  unfold execMr4ReadDue
  refine whileUp_eff ?_ ?_
  · exact Eff.refl
  · intro p0 h1
    try beta_reduce
    extract_lets -merge x2 x3
    clear_value x2
    clear_value x3
    refine State.when_eff ?_ ?_
    · exact h1
    · intro p4 h5
      try beta_reduce
      refine Eff.then ?_ (State.updRk_eff _ _ _ _) (by decide)
      exact h5

theorem State.mr4Result_eff (s : State) (a1) (a2) (a3) :
    Eff 302514244 s (State.mr4Result s a1 a2 a3) := by
  unfold State.mr4Result
  refine Eff.ite ?_ ?_
  · exact Eff.refl
  · extract_lets -merge x0 x1 x2 x3 x4 x5
    have h6 : Eff 302514244 s x0 := by
      subst x0
      refine Eff.then ?_ (State.updRk_eff _ _ _ _) (by decide)
      exact Eff.refl
    clear_value x0
    clear_value x1
    clear_value x2
    clear_value x3
    have h7 : Eff 302514244 s x4 := by
      subst x4
      refine Eff.then ?_ (State.setF_eff _ _ _) (by decide)
      exact h6
    clear_value x4
    have h8 : Eff 302514244 s x5 := by
      subst x5
      refine Eff.then ?_ (State.setF_eff _ _ _) (by decide)
      exact h7
    clear_value x5
    refine Eff.ite ?_ ?_
    · exact h6
    · refine Eff.then ?_ (State.qosUpdate_eff _) (by decide)
      refine Eff.then ?_ (State.updRk_eff _ _ _ _) (by decide)
      exact h8

theorem execMr4Result_eff (a0) (a1) (a2) (s : State) :
    EffX 302514244 s (execMr4Result a0 a1 a2 s) := by
  unfold execMr4Result
  refine whileUp_eff ?_ ?_
  · exact Eff.refl
  · intro p0 h1
    try beta_reduce
    refine Eff.then ?_ (State.mr4Result_eff _ _ _ _) (by decide)
    exact h1

theorem execPowerDownEnter_eff (a0) (a1) (s : State) :
    EffX 64 s (execPowerDownEnter a0 a1 s) := by
  unfold execPowerDownEnter
  refine whileUp_eff ?_ ?_
  · exact Eff.refl
  · intro p0 h1
    try beta_reduce
    extract_lets -merge x2 x3
    clear_value x2
    clear_value x3
    refine State.when_eff ?_ ?_
    · exact h1
    · intro p4 h5
      try beta_reduce
      refine Eff.then ?_ (State.setF_eff _ _ _) (by decide)
      exact h5

theorem State.payDebt_eff (s : State) (a1) (a2) :
    Eff 369623110 s (State.payDebt s a1 a2) := by
  unfold State.payDebt
  refine Eff.foldl ?_ ?_
  · exact Eff.refl
  · intro p0 p1 h2
    try beta_reduce
    refine Eff.ite ?_ ?_
    · exact h2
    · refine Eff.then ?_ (State.refresh_eff _ _ _ _) (by decide)
      exact h2

theorem execSelfRefreshEnter_eff (a0) (a1) (s : State) :
    EffX 369623110 s (execSelfRefreshEnter a0 a1 s) := by
  unfold execSelfRefreshEnter
  refine whileUp_eff ?_ ?_
  · exact Eff.refl
  · intro p0 h1
    try beta_reduce
    extract_lets -merge x2 x3
    clear_value x2
    clear_value x3
    refine State.when_eff ?_ ?_
    · exact h1
    · intro p4 h5
      try beta_reduce
      refine Eff.then ?_ (State.setF_eff _ _ _) (by decide)
      refine Eff.then ?_ (State.payDebt_eff _ _ _) (by decide)
      exact h5

theorem execSelfRefreshExit_eff (a0) (a1) (s : State) :
    EffX 369623110 s (execSelfRefreshExit a0 a1 s) := by
  unfold execSelfRefreshExit
  refine whileUp_eff ?_ ?_
  · exact Eff.refl
  · intro p0 h1
    try beta_reduce
    extract_lets -merge x2 x3
    clear_value x2
    clear_value x3
    refine State.when_eff ?_ ?_
    · exact h1
    · intro p4 h5
      try beta_reduce
      extract_lets -merge x6
      have h7 : Eff 369623110 s x6 := by
        subst x6
        refine Eff.then ?_ (State.updRk_eff _ _ _ _) (by decide)
        refine Eff.then ?_ (State.setF_eff _ _ _) (by decide)
        refine Eff.then ?_ (State.setF_eff _ _ _) (by decide)
        exact h5
      clear_value x6
      refine Eff.then ?_ (State.applyNudge_eff _ _ _) (by decide)
      refine Eff.then ?_ (State.updBanks_eff _ _ _ _ _) (by decide)
      exact h7

theorem State.column_eff (s : State) (a1) :
    Eff 33554496 s (State.column s a1) := by
  unfold State.column
  extract_lets -merge x0 x1 x2 x3 x4 x5 x6 x7 x8 x9 x10 x11
  clear_value x0
  clear_value x1
  clear_value x2
  clear_value x3
  have h12 : Eff 33554496 s x4 := by
    subst x4
    refine Eff.then ?_ (State.inc_eff _ _ _) (by decide)
    exact Eff.refl
  clear_value x4
  clear_value x5
  clear_value x6
  clear_value x7
  clear_value x8
  clear_value x9
  have h13 : Eff 33554496 s x10 := by
    subst x10
    refine Eff.then ?_ (upd_dram _ _) (by decide)
    exact h12
  clear_value x10
  have h14 : Eff 33554496 s x11 := by
    subst x11
    refine Eff.then ?_ (State.incMod_eff _ _ _) (by decide)
    exact h13
  clear_value x11
  refine Eff.then ?_ (State.updRk_eff _ _ _ _) (by decide)
  refine Eff.then ?_ (State.setF_eff _ _ _) (by decide)
  exact h14

theorem State.slot_eff (s : State) (a1) (a2) :
    Eff 33554496 s (State.slot s a1 a2) := by
  unfold State.slot
  extract_lets -merge x0 x1 x2 x3 x4 x5 x6 x7 x8
  clear_value x0
  clear_value x1
  clear_value x2
  have h9 : ∀ p0 p1, Eff 33554496 s p0 → Eff 33554496 s (x3 p0 p1) := by
    subst x3
    intro p10 p11 h12
    try beta_reduce
    refine Eff.then ?_ (upd_dram _ _) (by decide)
    exact h12
  clear_value x3
  have h13 : Eff 33554496 s x4 := by
    subst x4
    refine h9 _ _ ?_
    exact Eff.refl
  clear_value x4
  clear_value x5
  clear_value x6
  clear_value x7
  clear_value x8
  split
  · rename_i v14 v15 e16
    refine h9 _ _ ?_
    refine Eff.then ?_ (State.column_eff _ _) (by decide)
    exact Eff.refl
  · rename_i v17 e18
    split
    · rename_i v19 v20 e21
      refine h9 _ _ ?_
      refine Eff.then ?_ (State.column_eff _ _) (by decide)
      exact h13
    · rename_i v22 e23
      split
      · rename_i v24 v25 e26
        refine Eff.then ?_ (State.column_eff _ _) (by decide)
        exact h13
      · rename_i v27 e28
        split
        · rename_i v29 v30 e31
          refine Eff.then ?_ (State.column_eff _ _) (by decide)
          exact h13
        · rename_i v32 e33
          split
          · rename_i v34 v35 e36
            refine Eff.then ?_ (State.column_eff _ _) (by decide)
            exact h13
          · rename_i v37 e38
            exact h13

theorem State.setDrain_eff (s : State) (a1) :
    Eff 33554432 s (State.setDrain s a1) := by
  unfold State.setDrain
  extract_lets -merge x0 x1 x2 x3
  clear_value x0
  clear_value x1
  clear_value x2
  clear_value x3
  split
  · rename_i v4 v5 v6 e7
    extract_lets -merge x8
    clear_value x8
    refine Eff.then ?_ (upd_dram _ _) (by decide)
    exact Eff.refl

theorem State.dramTick_eff (s : State) :
    Eff 369623110 s (State.dramTick s) := by
  unfold State.dramTick
  refine Eff.ite ?_ ?_
  · exact Eff.refl
  · refine Eff.foldl ?_ ?_
    · refine Eff.then ?_ (State.enterAll_eff _) (by decide)
      exact Eff.refl
    · intro p0 p1 h2
      try beta_reduce
      extract_lets -merge x3
      have h4 : Eff 369623110 s x3 := by
        subst x3
        refine Eff.then ?_ (State.refreshWork_eff _ _) (by decide)
        refine Eff.then ?_ (State.setDrain_eff _ _) (by decide)
        exact h2
      clear_value x3
      refine Eff.then ?_ (State.slot_eff _ _ _) (by decide)
      refine Eff.then ?_ (State.slot_eff _ _ _) (by decide)
      exact h4

theorem State.readReturn_eff (s : State) (a1) (a2) (a3) :
    Eff 369623110 s (State.readReturn s a1 a2 a3) := by
  unfold State.readReturn
  split
  · rename_i v0 e1
    exact Eff.refl
  · rename_i v2 v3 e4
    split
    · rename_i v5 e6
      exact Eff.refl
    · rename_i v7 v8 e9
      extract_lets -merge x10 x11
      have h12 : ∀ p0 p1, Eff 369623110 s p0 → Eff 369623110 s (x10 p0 p1) := by
        subst x10
        intro p13 p14 h15
        try beta_reduce
        refine Eff.ite ?_ ?_
        · refine Eff.then ?_ (State.answerData_eff _ _ _ _ _ _) (by decide)
          exact h15
        · exact h15
      clear_value x10
      have h16 : ∀ p0, Eff 369623110 s p0 → Eff 369623110 s (x11 p0) := by
        subst x11
        intro p17 h18
        try beta_reduce
        refine Eff.then ?_ (State.enterAll_eff _) (by decide)
        refine Eff.then ?_ (upd_dram _ _) (by decide)
        exact h18
      clear_value x11
      split
      · rename_i v19
        refine h16 _ ?_
        refine h12 _ _ ?_
        refine Eff.then ?_ (State.sampleBurst_eff _ _ _ _ _) (by decide)
        exact Eff.refl
      · rename_i v20
        refine h16 _ ?_
        refine h12 _ _ ?_
        refine Eff.then ?_ (State.eccCorrected_eff _ _ _ _ _) (by decide)
        refine Eff.then ?_ (State.sampleBurst_eff _ _ _ _ _) (by decide)
        exact Eff.refl
      · rename_i v21
        refine h16 _ ?_
        refine h12 _ _ ?_
        refine Eff.then ?_ (State.eccUncorrectable_eff _ _ _ _) (by decide)
        exact Eff.refl
      · rename_i v22
        refine h16 _ ?_
        refine h12 _ _ ?_
        refine Eff.then ?_ (State.inc_eff _ _ _) (by decide)
        exact Eff.refl

theorem execDramReadReturn_eff (a0) (a1) (a2) (s : State) :
    EffX 369623110 s (execDramReadReturn a0 a1 a2 s) := by
  unfold execDramReadReturn
  refine whileUp_eff ?_ ?_
  · exact Eff.refl
  · intro p0 h1
    try beta_reduce
    refine Eff.then ?_ (State.readReturn_eff _ _ _ _) (by decide)
    exact h1

theorem State.patrolScrub_eff (s : State) (a1) :
    Eff 302514246 s (State.patrolScrub s a1) := by
  unfold State.patrolScrub
  refine Eff.ite ?_ ?_
  · exact Eff.refl
  · extract_lets -merge x0 x1 x2 x3
    clear_value x0
    clear_value x1
    clear_value x2
    have h4 : ∀ p0, Eff 302514246 s p0 → Eff 302514246 s (x3 p0) := by
      subst x3
      intro p5 h6
      try beta_reduce
      refine Eff.then ?_ (upd_ras _ _) (by decide)
      exact h6
    clear_value x3
    split
    · rename_i v7 v8 v9 e10
      extract_lets -merge x11 x12 x13 x14 x15 x16
      clear_value x11
      clear_value x12
      clear_value x13
      have h17 : Eff 302514246 s x14 := by
        subst x14
        refine h4 _ ?_
        refine Eff.then ?_ (State.incMod_eff _ _ _) (by decide)
        exact Eff.refl
      clear_value x14
      have h18 : Eff 302514246 s x15 := by
        subst x15
        refine Eff.then ?_ (State.eccUncorrectable_eff _ _ _ _) (by decide)
        exact h17
      clear_value x15
      clear_value x16
      refine Eff.ite ?_ ?_
      · refine h4 _ ?_
        exact Eff.refl
      · split
        · rename_i v19 e20
          exact Eff.refl
        · rename_i v21 v22 e23
          split
          · rename_i v24
            exact h17
          · rename_i v25
            refine Eff.then ?_ (State.eccCorrected_eff _ _ _ _ _) (by decide)
            exact h17
          · rename_i v26
            refine Eff.then ?_ (State.inc_eff _ _ _) (by decide)
            exact h17
          · rename_i v27
            split
            · rename_i v28 v29 e30
              refine Eff.ite ?_ ?_
              · refine Eff.then ?_ (upd_ras _ _) (by decide)
                exact h18
              · exact h18
            · rename_i v31 e32
              exact h18

theorem execPatrolScrub_eff (a0) (s : State) :
    EffX 302514246 s (execPatrolScrub a0 s) := by
  unfold execPatrolScrub
  refine whileUp_eff ?_ ?_
  · exact Eff.refl
  · intro p0 h1
    try beta_reduce
    refine Eff.then ?_ (State.patrolScrub_eff _ _) (by decide)
    exact h1

theorem State.bootFail_eff (s : State) (a1) :
    Eff 64 s (State.bootFail s a1) := by
  unfold State.bootFail
  refine Eff.then ?_ (State.setF_eff _ _ _) (by decide)
  refine Eff.then ?_ (State.setF_eff _ _ _) (by decide)
  exact Eff.refl

theorem State.withdraw_eff (s : State) (a1) :
    Eff 4194304 s (State.withdraw s a1) := by
  unfold State.withdraw
  refine Eff.ite ?_ ?_
  · exact Eff.refl
  · refine Eff.then ?_ (upd_tier _ _) (by decide)
    exact Eff.refl

theorem execMapValidWrite_eff (a0) (a1) (s : State) :
    EffX 4194368 s (execMapValidWrite a0 a1 s) := by
  unfold execMapValidWrite
  refine whileUp_eff ?_ ?_
  · exact Eff.refl
  · intro p0 h1
    try beta_reduce
    refine State.when_eff ?_ ?_
    · exact h1
    · intro p2 h3
      try beta_reduce
      extract_lets -merge x4 x5 x6
      have h7 : Eff 4194368 s x4 := by
        subst x4
        refine Eff.then ?_ (State.setF_eff _ _ _) (by decide)
        refine Eff.then ?_ (State.setF_eff _ _ _) (by decide)
        refine Eff.then ?_ (State.setF_eff _ _ _) (by decide)
        exact h3
      clear_value x4
      have h8 : Eff 4194368 s x5 := by
        subst x5
        refine Eff.then ?_ (State.setF_eff _ _ _) (by decide)
        exact h7
      clear_value x5
      have h9 : Eff 4194368 s x6 := by
        subst x6
        refine Eff.then ?_ (State.setF_eff _ _ _) (by decide)
        exact h7
      clear_value x6
      refine Eff.ite ?_ ?_
      · exact h7
      · refine Eff.ite ?_ ?_
        · refine Eff.ite ?_ ?_
          · refine Eff.then ?_ (State.withdraw_eff _ _) (by decide)
            refine Eff.then ?_ (State.setF_eff _ _ _) (by decide)
            exact h8
          · exact h8
        · refine Eff.ite ?_ ?_
          · refine Eff.then ?_ (State.bootFail_eff _ _) (by decide)
            exact h9
          · exact h9

theorem execQosClassWrite_eff (a0) (a1) (s : State) :
    EffX 268959812 s (execQosClassWrite a0 a1 s) := by
  unfold execQosClassWrite
  refine whileUp_eff ?_ ?_
  · exact Eff.refl
  · intro p0 h1
    try beta_reduce
    refine State.when_eff ?_ ?_
    · exact h1
    · intro p2 h3
      try beta_reduce
      extract_lets -merge x4
      have h5 : Eff 268959812 s x4 := by
        subst x4
        refine Eff.then ?_ (State.setF_eff _ _ _) (by decide)
        refine Eff.then ?_ (State.setF_eff _ _ _) (by decide)
        exact h3
      clear_value x4
      refine Eff.ite ?_ ?_
      · refine Eff.then ?_ (State.setF_eff _ _ _) (by decide)
        exact h3
      · refine Eff.then ?_ (State.qosUpdate_eff _) (by decide)
        exact h5

theorem State.evacStep_eff (s : State) :
    Eff 37748736 s (State.evacStep s) := by
  unfold State.evacStep
  extract_lets -merge x0
  clear_value x0
  refine Eff.ite ?_ ?_
  · exact Eff.refl
  · refine Eff.foldl ?_ ?_
    · exact Eff.refl
    · intro p1 p2 h3
      try beta_reduce
      extract_lets -merge x4 x5 x6
      clear_value x4
      clear_value x5
      have h7 : ∀ p0 p1, Eff 37748736 s p1 → Eff 37748736 s (x6 p0 p1) := by
        subst x6
        intro p8 p9 h10
        try beta_reduce
        refine Eff.then ?_ (State.startMig_eff _ _ _ _) (by decide)
        refine Eff.then ?_ (State.pageTraffic_eff _ _ _ _ _) (by decide)
        exact h10
      clear_value x6
      refine Eff.ite ?_ ?_
      · exact h3
      · refine Eff.ite ?_ ?_
        · split
          · rename_i v11 v12 v13 e14
            have h15 : Eff 37748736 s v13 := by
              refine EffOR.at e14 ?_
              refine EffOR.then ?_ (State.takeFrame_eff _) (by decide)
              exact h3
            refine h7 _ _ ?_
            exact h15
          · rename_i v16 e17
            exact h3
        · split
          · rename_i v18 v19 v20 e21
            have h22 : Eff 37748736 s v20 := by
              refine EffOR.at e21 ?_
              refine EffOR.then ?_ (State.takePart_eff _ _) (by decide)
              exact h3
            refine h7 _ _ ?_
            exact h22
          · rename_i v23 e24
            exact h3

theorem execChanRetire_eff (a0) (a1) (s : State) :
    EffX 574619712 s (execChanRetire a0 a1 s) := by
  unfold execChanRetire
  refine whileUp_eff ?_ ?_
  · exact Eff.refl
  · intro p0 h1
    try beta_reduce
    extract_lets -merge x2 x3 x4
    clear_value x2
    clear_value x3
    clear_value x4
    refine State.ownerLong_eff ?_ ?_
    · exact h1
    · intro p5 h6
      try beta_reduce
      extract_lets -merge x7 x8 x9
      have h10 : Eff 574619712 s x7 := by
        subst x7
        refine Eff.then ?_ (State.withdraw_eff _ _) (by decide)
        exact h6
      clear_value x7
      have h11 : Eff 574619712 s x8 := by
        subst x8
        refine Eff.then ?_ (State.setF_eff _ _ _) (by decide)
        refine Eff.then ?_ (State.setF_eff _ _ _) (by decide)
        refine Eff.then ?_ (State.setF_eff _ _ _) (by decide)
        refine Eff.then ?_ (State.setF_eff _ _ _) (by decide)
        exact h10
      clear_value x8
      clear_value x9
      refine Eff.then ?_ (upd_dram _ _) (by decide)
      exact h11

theorem State.chanRetired_eff (s : State) (a1) :
    Eff 302514244 s (State.chanRetired s a1) := by
  unfold State.chanRetired
  extract_lets -merge x0 x1 x2 x3 x4
  have h5 : Eff 302514244 s x0 := by
    subst x0
    refine Eff.then ?_ (State.setF_eff _ _ _) (by decide)
    refine Eff.then ?_ (State.setF_eff _ _ _) (by decide)
    refine Eff.then ?_ (State.setF_eff _ _ _) (by decide)
    refine Eff.then ?_ (State.setF_eff _ _ _) (by decide)
    exact Eff.refl
  clear_value x0
  have h6 : Eff 302514244 s x1 := by
    subst x1
    refine Eff.foldl ?_ ?_
    · exact h5
    · intro p7 p8 h9
      try beta_reduce
      refine Eff.ite ?_ ?_
      · exact h9
      · refine Eff.then ?_ (State.setF_eff _ _ _) (by decide)
        exact h9
  clear_value x1
  clear_value x2
  clear_value x3
  have h10 : Eff 302514244 s x4 := by
    subst x4
    refine Eff.then ?_ (upd_dram _ _) (by decide)
    exact h6
  clear_value x4
  refine Eff.then ?_ (State.qosUpdate_eff _) (by decide)
  refine Eff.then ?_ (State.raise_eff _ _ _ _) (by decide)
  exact h10

theorem State.granuleMove_eff (s : State) (a1) :
    Eff 64 s (State.granuleMove s a1) := by
  unfold State.granuleMove
  extract_lets -merge x0 x1 x2
  clear_value x0
  clear_value x1
  have h3 : Eff 64 s x2 := by
    subst x2
    refine Eff.then ?_ (State.setF_eff _ _ _) (by decide)
    refine Eff.then ?_ (State.setF_eff _ _ _) (by decide)
    exact Eff.refl
  clear_value x2
  refine Eff.then ?_ (State.incMod_eff _ _ _) (by decide)
  refine Eff.then ?_ (State.incMod_eff _ _ _) (by decide)
  exact h3

theorem State.retireEnd_eff (s : State) :
    Eff 839385156 s (State.retireEnd s) := by
  unfold State.retireEnd
  extract_lets -merge x0 x1 x2
  clear_value x0
  have h3 : Eff 839385156 s x1 := by
    subst x1
    refine Eff.then ?_ (State.chanRetired_eff _ _) (by decide)
    exact Eff.refl
  clear_value x1
  clear_value x2
  split
  · rename_i v4 v5
    refine Eff.then ?_ (State.ownerEnd_eff _ _ _ _ _ _) (by decide)
    refine Eff.then ?_ (upd_dram _ _) (by decide)
    exact h3
  · rename_i v6
    exact h3

theorem State.granuleCopy_eff (s : State) :
    Eff 839385156 s (State.granuleCopy s) := by
  unfold State.granuleCopy
  extract_lets -merge x0 x1 x2
  clear_value x0
  clear_value x1
  have h3 : Eff 839385156 s x2 := by
    subst x2
    refine Eff.then ?_ (State.granuleMove_eff _ _) (by decide)
    exact Eff.refl
  clear_value x2
  refine Eff.ite ?_ ?_
  · exact Eff.refl
  · refine Eff.ite ?_ ?_
    · refine Eff.then ?_ (State.retireEnd_eff _) (by decide)
      exact h3
    · exact h3

theorem execRetireGranuleCopy_eff (s : State) :
    EffX 839385156 s (execRetireGranuleCopy s) := by
  unfold execRetireGranuleCopy
  refine whileUp_eff ?_ ?_
  · exact Eff.refl
  · intro p0 h1
    try beta_reduce
    refine Eff.then ?_ (State.granuleCopy_eff _) (by decide)
    exact h1

end Sys2Proof.Machine
end

