-- ==== Sys2Proof/Laws/EffTrain.lean ====
section
/-! SUPPORT. What the functions of Machine/Train.lean may change: bit i of a mask is component i of `Comp.idx`.
The theorems are checked one after another: each is small, and the joined text has many. -/

set_option Elab.async false

namespace Sys2Proof.Machine

theorem State.trnStart_eff (s : State) (a1) (a2) :
    Eff 67108928 s (State.trnStart s a1 a2) := by
  unfold State.trnStart
  extract_lets -merge x0 x1 x2 x3 x4 x5 x6 x7
  have h8 : ∀ p0, Eff 67108928 s p0 → Eff 67108928 s (x0 p0) := by
    subst x0
    intro p9 h10
    try beta_reduce
    refine Eff.then ?_ (State.setReg_eff _ _ _) (by decide)
    exact h10
  clear_value x0
  clear_value x1
  have h11 : Eff 67108928 s x2 := by
    subst x2
    refine h8 _ ?_
    exact Eff.refl
  clear_value x2
  have h12 : Eff 67108928 s x3 := by
    subst x3
    refine Eff.foldl ?_ ?_
    · exact h11
    · intro p13 p14 h15
      try beta_reduce
      refine Eff.then ?_ (State.setF_eff _ _ _) (by decide)
      exact h15
  clear_value x3
  have h16 : Eff 67108928 s x4 := by
    subst x4
    refine Eff.then ?_ (State.setF_eff _ _ _) (by decide)
    refine Eff.then ?_ (State.setF_eff _ _ _) (by decide)
    exact h12
  clear_value x4
  clear_value x5
  clear_value x6
  have h17 : Eff 67108928 s x7 := by
    subst x7
    refine Eff.then ?_ (upd_trn _ _) (by decide)
    exact h16
  clear_value x7
  refine Eff.ite ?_ ?_
  · refine h8 _ ?_
    exact Eff.refl
  · refine Eff.ite ?_ ?_
    · refine Eff.then ?_ (State.setF_eff _ _ _) (by decide)
      exact Eff.refl
    · refine Eff.ite ?_ ?_
      · exact Eff.refl
      · split
        · rename_i v18 v19 e20
          refine Eff.then ?_ (State.setF_eff _ _ _) (by decide)
          exact h17
        · rename_i v21 e22
          exact h17

theorem execTrnStart_eff (a0) (a1) (a2) (s : State) :
    EffX 67108928 s (execTrnStart a0 a1 a2 s) := by
  unfold execTrnStart
  refine whileUp_eff ?_ ?_
  · exact Eff.refl
  · intro p0 h1
    try beta_reduce
    refine State.when_eff ?_ ?_
    · exact h1
    · intro p2 h3
      try beta_reduce
      refine Eff.then ?_ (State.trnStart_eff _ _ _) (by decide)
      exact h3

theorem State.trnDone_eff (s : State) (a1) (a2) :
    Eff 67108928 s (State.trnDone s a1 a2) := by
  unfold State.trnDone
  split
  · rename_i v0 e1
    exact Eff.refl
  · rename_i v2 v3 e4
    extract_lets -merge x5 x6 x7 x8 x9 x10 x11
    clear_value x5
    clear_value x6
    have h12 : Eff 67108928 s x7 := by
      subst x7
      refine Eff.foldl ?_ ?_
      · exact Eff.refl
      · intro p13 p14 h15
        try beta_reduce
        extract_lets -merge x16
        clear_value x16
        refine Eff.then ?_ (State.inc_eff _ _ _) (by decide)
        refine Eff.then ?_ (State.inc_eff _ _ _) (by decide)
        exact h15
    clear_value x7
    have h17 : Eff 67108928 s x8 := by
      subst x8
      refine Eff.foldl ?_ ?_
      · exact h12
      · intro p18 p19 h20
        try beta_reduce
        extract_lets -merge x21
        clear_value x21
        refine Eff.then ?_ (State.setReg_eff _ _ _) (by decide)
        exact h20
    clear_value x8
    have h22 : Eff 67108928 s x9 := by
      subst x9
      split
      · rename_i v23 v24 v25 v26 v27 e28 e29
        refine Eff.then ?_ (State.setF_eff _ _ _) (by decide)
        exact h17
      · rename_i v30 v31 e32
        exact h12
    clear_value x9
    have h33 : Eff 67108928 s x10 := by
      subst x10
      refine Eff.then ?_ (State.setF_eff _ _ _) (by decide)
      exact h22
    clear_value x10
    clear_value x11
    refine Eff.then ?_ (upd_trn _ _) (by decide)
    exact h33

theorem execTrainingRunDone_eff (a0) (a1) (s : State) :
    EffX 67108928 s (execTrainingRunDone a0 a1 s) := by
  unfold execTrainingRunDone
  refine whileUp_eff ?_ ?_
  · exact Eff.refl
  · intro p0 h1
    try beta_reduce
    refine Eff.then ?_ (State.trnDone_eff _ _ _) (by decide)
    exact h1

theorem State.dlyWrite_eff (s : State) (a1) (a2) (a3) (a4) (a5) :
    Eff 64 s (State.dlyWrite s a1 a2 a3 a4 a5) := by
  unfold State.dlyWrite
  extract_lets -merge x0 x1
  clear_value x0
  have h2 : Eff 64 s x1 := by
    subst x1
    refine Eff.then ?_ (State.setF_eff _ _ _) (by decide)
    refine Eff.then ?_ (State.setF_eff _ _ _) (by decide)
    refine Eff.then ?_ (State.setF_eff _ _ _) (by decide)
    exact Eff.refl
  clear_value x1
  refine Eff.ite ?_ ?_
  · exact Eff.refl
  · refine Eff.ite ?_ ?_
    · refine Eff.then ?_ (State.setReg_eff _ _ _) (by decide)
      exact Eff.refl
    · refine Eff.ite ?_ ?_
      · exact Eff.refl
      · refine Eff.ite ?_ ?_
        · refine Eff.then ?_ (State.setF_eff _ _ _) (by decide)
          refine Eff.then ?_ (State.setF_eff _ _ _) (by decide)
          exact h2
        · exact h2

theorem execDlyWrite_eff (a0) (a1) (a2) (a3) (a4) (a5) (s : State) :
    EffX 64 s (execDlyWrite a0 a1 a2 a3 a4 a5 s) := by
  unfold execDlyWrite
  refine whileUp_eff ?_ ?_
  · exact Eff.refl
  · intro p0 h1
    try beta_reduce
    refine State.when_eff ?_ ?_
    · exact h1
    · intro p2 h3
      try beta_reduce
      refine Eff.then ?_ (State.dlyWrite_eff _ _ _ _ _ _) (by decide)
      exact h3

theorem execDrcTimingWrite_eff (a0) (a1) (a2) (a3) (s : State) :
    EffX 64 s (execDrcTimingWrite a0 a1 a2 a3 s) := by
  unfold execDrcTimingWrite
  refine whileUp_eff ?_ ?_
  · exact Eff.refl
  · intro p0 h1
    try beta_reduce
    refine State.when_eff ?_ ?_
    · exact h1
    · intro p2 h3
      try beta_reduce
      refine Eff.then ?_ (State.setReg_eff _ _ _) (by decide)
      exact h3

theorem execCalSnap_eff (a0) (a1) (s : State) :
    EffX 67108928 s (execCalSnap a0 a1 s) := by
  unfold execCalSnap
  refine whileUp_eff ?_ ?_
  · exact Eff.refl
  · intro p0 h1
    try beta_reduce
    refine State.when_eff ?_ ?_
    · exact h1
    · intro p2 h3
      try beta_reduce
      refine Eff.then ?_ (State.snapshot_eff _ _) (by decide)
      exact h3

theorem execCalNudgeWrite_eff (a0) (a1) (a2) (a3) (s : State) :
    EffX 64 s (execCalNudgeWrite a0 a1 a2 a3 s) := by
  unfold execCalNudgeWrite
  refine whileUp_eff ?_ ?_
  · exact Eff.refl
  · intro p0 h1
    try beta_reduce
    extract_lets -merge x2 x3 x4
    clear_value x2
    clear_value x3
    clear_value x4
    refine State.when_eff ?_ ?_
    · exact h1
    · intro p5 h6
      try beta_reduce
      refine Eff.then ?_ (State.setReg_eff _ _ _) (by decide)
      exact h6

theorem execRankRetrain_eff (a0) (a1) (a2) (a3) (s : State) :
    EffX 608174144 s (execRankRetrain a0 a1 a2 a3 s) := by
  unfold execRankRetrain
  refine whileUp_eff ?_ ?_
  · exact Eff.refl
  · intro p0 h1
    try beta_reduce
    extract_lets -merge x2 x3 x4 x5 x6
    clear_value x2
    clear_value x3
    clear_value x4
    clear_value x5
    clear_value x6
    refine State.ownerLong_eff ?_ ?_
    · exact h1
    · intro p7 h8
      try beta_reduce
      extract_lets -merge x9 x10 x11
      have h12 : Eff 608174144 s x9 := by
        subst x9
        refine Eff.then ?_ (State.setF_eff _ _ _) (by decide)
        exact h8
      clear_value x9
      clear_value x10
      have h13 : Eff 608174144 s x11 := by
        subst x11
        refine Eff.then ?_ (upd_trn _ _) (by decide)
        exact h12
      clear_value x11
      refine Eff.ite ?_ ?_
      · refine Eff.then ?_ (State.setF_eff _ _ _) (by decide)
        exact h13
      · refine Eff.then ?_ (State.setF_eff _ _ _) (by decide)
        refine Eff.then ?_ (State.withdraw_eff _ _) (by decide)
        exact h13

theorem execEvacuationDone_eff (s : State) :
    EffX 64 s (execEvacuationDone s) := by
  unfold execEvacuationDone
  refine whileUp_eff ?_ ?_
  · exact Eff.refl
  · intro p0 h1
    try beta_reduce
    split
    · rename_i v2 v3 e4
      refine State.when_eff ?_ ?_
      · exact h1
      · intro p5 h6
        try beta_reduce
        refine Eff.then ?_ (State.setF_eff _ _ _) (by decide)
        exact h6
    · rename_i v7 e8
      exact h1

theorem State.retrainStep_eff (s : State) :
    Eff 64 s (State.retrainStep s) := by
  unfold State.retrainStep
  split
  · rename_i v0 v1 e2
    refine Eff.ite ?_ ?_
    · refine Eff.then ?_ (State.setF_eff _ _ _) (by decide)
      exact Eff.refl
    · exact Eff.refl
  · rename_i v3 e4
    exact Eff.refl

theorem State.rankFresh_eff (s : State) (a1) (a2) :
    Eff 33554496 s (State.rankFresh s a1 a2) := by
  unfold State.rankFresh
  extract_lets -merge x0 x1
  have h2 : Eff 33554496 s x0 := by
    subst x0
    refine Eff.then ?_ (State.updRk_eff _ _ _ _) (by decide)
    refine Eff.then ?_ (State.setF_eff _ _ _) (by decide)
    exact Eff.refl
  clear_value x0
  have h3 : Eff 33554496 s x1 := by
    subst x1
    refine Eff.then ?_ (State.updBanks_eff _ _ _ _ _) (by decide)
    exact h2
  clear_value x1
  refine Eff.ite ?_ ?_
  · refine Eff.then ?_ (State.setF_eff _ _ _) (by decide)
    exact h3
  · exact h3

theorem State.keepTrained_eff (s : State) (a1) (a2) :
    Eff 64 s (State.keepTrained s a1 a2) := by
  unfold State.keepTrained
  refine Eff.foldl ?_ ?_
  · exact Eff.refl
  · intro p0 p1 h2
    try beta_reduce
    refine Eff.then ?_ (State.setF_eff _ _ _) (by decide)
    refine Eff.then ?_ (State.setF_eff _ _ _) (by decide)
    exact h2

theorem State.rankFailed_eff (s : State) (a1) (a2) :
    Eff 268959812 s (State.rankFailed s a1 a2) := by
  unfold State.rankFailed
  refine Eff.then ?_ (State.raise_eff _ _ _ _) (by decide)
  refine Eff.then ?_ (State.setF_eff _ _ _) (by decide)
  exact Eff.refl

theorem State.bootChannelFailed_eff (s : State) (a1) :
    Eff 302514244 s (State.bootChannelFailed s a1) := by
  unfold State.bootChannelFailed
  refine Eff.ite ?_ ?_
  · refine Eff.ite ?_ ?_
    · exact Eff.refl
    · refine Eff.then ?_ (State.bootFail_eff _ _) (by decide)
      exact Eff.refl
  · refine Eff.then ?_ (State.chanRetired_eff _ _) (by decide)
    exact Eff.refl

theorem State.retrainEnd_eff (s : State) (a1) :
    Eff 603979776 s (State.retrainEnd s a1) := by
  unfold State.retrainEnd
  refine Eff.then ?_ (State.ownerEnd_eff _ _ _ _ _ _) (by decide)
  refine Eff.then ?_ (upd_trn _ _) (by decide)
  exact Eff.refl

theorem State.trainingExit_eff (s : State) (a1) (a2) (a3) :
    Eff 1044906052 s (State.trainingExit s a1 a2 a3) := by
  unfold State.trainingExit
  refine Eff.ite ?_ ?_
  · refine Eff.ite ?_ ?_
    · exact Eff.refl
    · refine Eff.ite ?_ ?_
      · extract_lets -merge x0
        have h1 : Eff 1044906052 s x0 := by
          subst x0
          refine Eff.ite ?_ ?_
          · exact Eff.refl
          · refine Eff.then ?_ (State.keepTrained_eff _ _ _) (by decide)
            exact Eff.refl
        clear_value x0
        refine Eff.then ?_ (State.rankFresh_eff _ _ _) (by decide)
        refine Eff.then ?_ (State.setF_eff _ _ _) (by decide)
        exact h1
      · refine Eff.then ?_ (State.bootChannelFailed_eff _ _) (by decide)
        refine Eff.then ?_ (State.rankFailed_eff _ _ _) (by decide)
        exact Eff.refl
  · split
    · rename_i v2 e3
      exact Eff.refl
    · rename_i v4 v5 e6
      refine Eff.ite ?_ ?_
      · exact Eff.refl
      · refine Eff.ite ?_ ?_
        · extract_lets -merge x7
          have h8 : Eff 1044906052 s x7 := by
            subst x7
            refine Eff.then ?_ (State.rankFresh_eff _ _ _) (by decide)
            refine Eff.then ?_ (State.rankFailed_eff _ _ _) (by decide)
            exact Eff.refl
          clear_value x7
          refine Eff.ite ?_ ?_
          · refine Eff.then ?_ (State.ownerEnd_eff _ _ _ _ _ _) (by decide)
            exact h8
          · refine Eff.then ?_ (State.retrainEnd_eff _ _) (by decide)
            exact h8
        · extract_lets -merge x9 x10 x11 x12 x13 x14 x15 x16
          have h17 : Eff 1044906052 s x9 := by
            subst x9
            refine Eff.then ?_ (State.rankFresh_eff _ _ _) (by decide)
            refine Eff.then ?_ (State.keepTrained_eff _ _ _) (by decide)
            exact Eff.refl
          clear_value x9
          clear_value x10
          have h18 : Eff 1044906052 s x11 := by
            subst x11
            refine Eff.then ?_ (State.storeCal_eff _) (by decide)
            refine Eff.then ?_ (State.setF_eff _ _ _) (by decide)
            exact h17
          clear_value x11
          clear_value x12
          have h19 : Eff 1044906052 s x13 := by
            subst x13
            refine Eff.then ?_ (upd_trn _ _) (by decide)
            exact h18
          clear_value x13
          clear_value x14
          have h20 : Eff 1044906052 s x15 := by
            subst x15
            refine Eff.then ?_ (State.storeCal_eff _) (by decide)
            refine Eff.then ?_ (State.setF_eff _ _ _) (by decide)
            exact h17
          clear_value x15
          clear_value x16
          refine Eff.ite ?_ ?_
          · split
            · rename_i v21 v22 v23
              refine Eff.then ?_ (State.linkSend_eff _ _) (by decide)
              exact h19
            · rename_i v24
              exact h19
          · refine Eff.then ?_ (State.retrainEnd_eff _ _) (by decide)
            refine Eff.then ?_ (upd_tier _ _) (by decide)
            exact h20

theorem execRankTrainingExit_eff (a0) (a1) (a2) (s : State) :
    EffX 1044906052 s (execRankTrainingExit a0 a1 a2 s) := by
  unfold execRankTrainingExit
  refine whileUp_eff ?_ ?_
  · exact Eff.refl
  · intro p0 h1
    try beta_reduce
    refine Eff.then ?_ (State.trainingExit_eff _ _ _ _) (by decide)
    exact h1

theorem execRestoreCopyDone_eff (s : State) :
    EffX 603979840 s (execRestoreCopyDone s) := by
  unfold execRestoreCopyDone
  refine whileUp_eff ?_ ?_
  · exact Eff.refl
  · intro p0 h1
    try beta_reduce
    split
    · rename_i v2 v3 e4
      refine State.when_eff ?_ ?_
      · exact h1
      · intro p5 h6
        try beta_reduce
        refine Eff.then ?_ (State.retrainEnd_eff _ _) (by decide)
        refine Eff.then ?_ (State.setF_eff _ _ _) (by decide)
        exact h6
    · rename_i v7 e8
      exact h1

theorem execRestoreFactory_eff (a0) (s : State) :
    EffX 603979776 s (execRestoreFactory a0 s) := by
  unfold execRestoreFactory
  refine whileUp_eff ?_ ?_
  · exact Eff.refl
  · intro p0 h1
    try beta_reduce
    refine State.owner1_eff ?_ ?_
    · exact h1
    · intro p2 h3
      try beta_reduce
      refine Eff.then ?_ (upd_trn _ _) (by decide)
      exact h3

end Sys2Proof.Machine
end

