-- ==== Sys2Proof/Laws/EffLink.lean ====
section
/-! SUPPORT. What the functions of Machine/Link.lean may change: bit i of a mask is component i of `Comp.idx`.
The theorems are checked one after another: each is small, and the joined text has many. -/

set_option Elab.async false

namespace Sys2Proof.Machine

theorem State.setPst_eff (s : State) (a1) :
    Eff 268435524 s (State.setPst s a1) := by
  unfold State.setPst
  refine Eff.ite ?_ ?_
  · exact Eff.refl
  · refine Eff.then ?_ (State.setIrq_eff _ _) (by decide)
    refine Eff.then ?_ (State.setF_eff _ _ _) (by decide)
    exact Eff.refl

theorem State.updPair_eff (s : State) (a1) :
    Eff 134217728 s (State.updPair s a1) := by
  unfold State.updPair
  refine Eff.then ?_ (upd_pair _ _) (by decide)
  exact Eff.refl

theorem State.admitHeld_eff (s : State) :
    Eff 138412032 s (State.admitHeld s) := by
  unfold State.admitHeld
  extract_lets -merge x0 x1 x2
  clear_value x0
  have h3 : Eff 138412032 s x1 := by
    subst x1
    refine Eff.then ?_ (State.updPair_eff _ _) (by decide)
    exact Eff.refl
  clear_value x1
  clear_value x2
  refine Eff.then ?_ (upd_tier _ _) (by decide)
  exact h3

theorem State.dropForeign_eff (s : State) :
    Eff 268471872 s (State.dropForeign s) := by
  unfold State.dropForeign
  extract_lets -merge x0 x1 x2 x3 x4 x5
  clear_value x0
  have h6 : Eff 268471872 s x1 := by
    subst x1
    refine Eff.foldl ?_ ?_
    · exact Eff.refl
    · intro p7 p8 h9
      try beta_reduce
      refine Eff.then ?_ (State.afterLock_eff _ _) (by decide)
      refine Eff.then ?_ (State.discardLock_eff _ _) (by decide)
      exact h9
  clear_value x1
  clear_value x2
  clear_value x3
  have h10 : Eff 268471872 s x4 := by
    subst x4
    refine Eff.then ?_ (upd_tbl _ _) (by decide)
    exact h6
  clear_value x4
  clear_value x5
  refine Eff.then ?_ (upd_trie _ _) (by decide)
  exact h10

theorem State.readyOwn_eff (s : State) :
    Eff 33792 s (State.readyOwn s) := by
  unfold State.readyOwn
  extract_lets -merge x0 x1 x2
  clear_value x0
  clear_value x1
  clear_value x2
  refine Eff.then ?_ (upd_tbl_trie _ _ _) (by decide)
  exact Eff.refl

theorem State.keeperEnds_eff (s : State) :
    Eff 450399822 s (State.keeperEnds s) := by
  unfold State.keeperEnds
  extract_lets -merge x0 x1 x2 x3 x4 x5 x6 x7 x8
  clear_value x0
  clear_value x1
  clear_value x2
  clear_value x3
  have h9 : Eff 450399822 s x4 := by
    subst x4
    refine Eff.then ?_ (State.updPair_eff _ _) (by decide)
    exact Eff.refl
  clear_value x4
  have h10 : Eff 450399822 s x5 := by
    subst x5
    refine Eff.foldl ?_ ?_
    · exact h9
    · intro p11 p12 h13
      try beta_reduce
      refine Eff.ite ?_ ?_
      · split
        · rename_i v14 v15 v16 e17
          refine Eff.then ?_ (State.resume_eff _ _ _) (by decide)
          exact h13
        · rename_i v18 e19
          exact h13
      · refine Eff.then ?_ (State.markDirty_eff _ _) (by decide)
        refine Eff.then ?_ (State.cmpWait_eff _ _) (by decide)
        exact h13
  clear_value x5
  have h20 : Eff 450399822 s x6 := by
    subst x6
    refine Eff.foldl ?_ ?_
    · exact h10
    · intro p21 p22 h23
      try beta_reduce
      refine Eff.then ?_ (State.resolve_eff _ _ _) (by decide)
      exact h23
  clear_value x6
  have h24 : Eff 450399822 s x7 := by
    subst x7
    refine Eff.foldl ?_ ?_
    · exact h20
    · intro p25 p26 h27
      try beta_reduce
      refine Eff.then ?_ (State.resolve_eff _ _ _) (by decide)
      exact h27
  clear_value x7
  have h28 : Eff 450399822 s x8 := by
    subst x8
    refine Eff.foldl ?_ ?_
    · exact h24
    · intro p29 p30 h31
      try beta_reduce
      split
      · rename_i v32 v33 e34
        refine Eff.ite ?_ ?_
        · refine Eff.then ?_ (State.resolve_eff _ _ _) (by decide)
          exact h31
        · extract_lets -merge x35
          have h36 : Eff 450399822 s x35.2 := by
            subst x35
            refine Eff.then ?_ (State.free_eff _) (by decide)
            exact h31
          clear_value x35
          refine Eff.then ?_ (State.resolve_eff _ _ _) (by decide)
          exact h36
      · rename_i v37 e38
        exact h31
  clear_value x8
  refine Eff.then ?_ (State.readyOwn_eff _) (by decide)
  refine Eff.then ?_ (State.dropForeign_eff _) (by decide)
  exact h28

theorem State.benchedEnds_eff (s : State) :
    Eff 403746636 s (State.benchedEnds s) := by
  unfold State.benchedEnds
  extract_lets -merge x0 x1 x2 x3 x4 x5 x6 x7 x8 x9
  clear_value x0
  clear_value x1
  clear_value x2
  clear_value x3
  have h10 : Eff 403746636 s x4 := by
    subst x4
    refine Eff.then ?_ (State.updPair_eff _ _) (by decide)
    exact Eff.refl
  clear_value x4
  have h11 : Eff 403746636 s x5 := by
    subst x5
    refine Eff.foldl ?_ ?_
    · exact h10
    · intro p12 p13 h14
      try beta_reduce
      refine Eff.then ?_ (State.cmpWait_eff _ _) (by decide)
      exact h14
  clear_value x5
  have h15 : Eff 403746636 s x6 := by
    subst x6
    refine Eff.foldl ?_ ?_
    · exact h11
    · intro p16 p17 h18
      try beta_reduce
      split
      · rename_i v19 v20 e21
        refine Eff.then ?_ (State.resolve_eff _ _ _) (by decide)
        exact h18
      · rename_i v22 e23
        exact h18
  clear_value x6
  clear_value x7
  have h24 : Eff 403746636 s x8 := by
    subst x8
    refine Eff.foldl ?_ ?_
    · exact h15
    · intro p25 p26 h27
      try beta_reduce
      split
      · rename_i v28 v29 e30
        extract_lets -merge x31 x32
        have h33 : Eff 403746636 s x31 := by
          subst x31
          split
          · rename_i v34 v35 e36
            refine Eff.then ?_ (State.resolve_eff _ _ _) (by decide)
            refine Eff.then ?_ (State.updTb_eff _ _ _) (by decide)
            exact h27
          · rename_i v37 e38
            exact h27
        clear_value x31
        have h39 : Eff 403746636 s x32 := by
          subst x32
          split
          · rename_i v40 v41 e42
            refine Eff.then ?_ (State.resolve_eff _ _ _) (by decide)
            exact h33
          · rename_i v43 e44
            exact h33
        clear_value x32
        refine Eff.then ?_ (State.afterLock_eff _ _) (by decide)
        refine Eff.then ?_ (State.discardLock_eff _ _) (by decide)
        exact h39
      · rename_i v45 e46
        exact h27
  clear_value x8
  clear_value x9
  refine Eff.foldl ?_ ?_
  · refine Eff.then ?_ (State.dropForeign_eff _) (by decide)
    exact h24
  · intro p47 p48 h49
    try beta_reduce
    extract_lets -merge x50 x51
    clear_value x50
    have h52 : Eff 403746636 s x51 := by
      subst x51
      refine Eff.then ?_ (upd_trie _ _) (by decide)
      exact h49
    clear_value x51
    refine Eff.then ?_ (State.trieEnds_eff _ _ _) (by decide)
    exact h52

theorem State.becomeKeeper_eff (s : State) (a1) :
    Eff 450399822 s (State.becomeKeeper s a1) := by
  unfold State.becomeKeeper
  extract_lets -merge x0 x1 x2 x3 x4 x5 x6
  clear_value x0
  have h7 : Eff 450399822 s x1 := by
    subst x1
    refine Eff.then ?_ (State.setF_eff _ _ _) (by decide)
    refine Eff.then ?_ (State.setF_eff _ _ _) (by decide)
    exact Eff.refl
  clear_value x1
  have h8 : Eff 450399822 s x2 := by
    subst x2
    refine Eff.then ?_ (State.updPair_eff _ _) (by decide)
    refine Eff.then ?_ (State.setF_eff _ _ _) (by decide)
    exact h7
  clear_value x2
  have h9 : Eff 450399822 s x3 := by
    subst x3
    refine Eff.then ?_ (State.setPst_eff _ _) (by decide)
    exact h8
  clear_value x3
  have h10 : Eff 450399822 s x4 := by
    subst x4
    refine Eff.ite ?_ ?_
    · refine Eff.then ?_ (State.raise_eff _ _ _ _) (by decide)
      exact h9
    · exact h9
  clear_value x4
  have h11 : Eff 450399822 s x5 := by
    subst x5
    refine Eff.ite ?_ ?_
    · refine Eff.then ?_ (State.raise_eff _ _ _ _) (by decide)
      exact h10
    · exact h10
  clear_value x5
  have h12 : Eff 450399822 s x6 := by
    subst x6
    refine Eff.then ?_ (State.admitHeld_eff _) (by decide)
    refine Eff.then ?_ (State.keeperEnds_eff _) (by decide)
    exact h11
  clear_value x6
  refine Eff.ite ?_ ?_
  · refine Eff.then ?_ (State.linkSend_eff _ _) (by decide)
    exact h12
  · exact h12

theorem State.becomeBenched_eff (s : State) :
    Eff 408465228 s (State.becomeBenched s) := by
  unfold State.becomeBenched
  extract_lets -merge x0 x1 x2 x3
  clear_value x0
  have h4 : Eff 408465228 s x1 := by
    subst x1
    refine Eff.then ?_ (State.setPst_eff _ _) (by decide)
    refine Eff.then ?_ (State.setF_eff _ _ _) (by decide)
    exact Eff.refl
  clear_value x1
  have h5 : Eff 408465228 s x2 := by
    subst x2
    refine Eff.ite ?_ ?_
    · refine Eff.then ?_ (State.raise_eff _ _ _ _) (by decide)
      exact h4
    · exact h4
  clear_value x2
  have h6 : Eff 408465228 s x3 := by
    subst x3
    refine Eff.then ?_ (State.admitHeld_eff _) (by decide)
    refine Eff.then ?_ (State.benchedEnds_eff _) (by decide)
    exact h5
  clear_value x3
  refine Eff.ite ?_ ?_
  · refine Eff.then ?_ (State.linkSend_eff _ _) (by decide)
    exact h6
  · exact h6

theorem State.sendToss_eff (s : State) :
    Eff 134217732 s (State.sendToss s) := by
  unfold State.sendToss
  refine Eff.then ?_ (State.updPair_eff _ _) (by decide)
  refine Eff.then ?_ (State.send_eff _ _) (by decide)
  exact Eff.refl

theorem State.endRdr_eff (s : State) :
    Eff 134217734 s (State.endRdr s) := by
  unfold State.endRdr
  refine Eff.foldl ?_ ?_
  · refine Eff.then ?_ (State.updPair_eff _ _) (by decide)
    exact Eff.refl
  · intro p0 p1 h2
    try beta_reduce
    split
    · rename_i v3 v4 e5
      refine Eff.then ?_ (State.answerDead_eff _ _) (by decide)
      exact h2
    · rename_i v6 e7
      exact h2

theorem State.linkLoss_eff (s : State) (a1) :
    Eff 402653254 s (State.linkLoss s a1) := by
  unfold State.linkLoss
  refine Eff.ite ?_ ?_
  · exact Eff.refl
  · extract_lets -merge x0 x1 x2
    have h3 : Eff 402653254 s x0 := by
      subst x0
      refine Eff.then ?_ (State.updPair_eff _ _) (by decide)
      exact Eff.refl
    clear_value x0
    have h4 : Eff 402653254 s x1 := by
      subst x1
      refine Eff.then ?_ (State.setReg_eff _ _ _) (by decide)
      refine Eff.then ?_ (State.setF_eff _ _ _) (by decide)
      refine Eff.then ?_ (State.inc_eff _ _ _) (by decide)
      exact h3
    clear_value x1
    have h5 : Eff 402653254 s x2 := by
      subst x2
      refine Eff.then ?_ (State.endRdr_eff _) (by decide)
      exact h4
    clear_value x2
    split
    · rename_i v6 e7
      refine Eff.then ?_ (State.sendToss_eff _) (by decide)
      refine Eff.then ?_ (State.updPair_eff _ _) (by decide)
      refine Eff.then ?_ (State.setPst_eff _ _) (by decide)
      exact h5
    · rename_i v8 e9
      refine Eff.ite ?_ ?_
      · refine Eff.then ?_ (State.updPair_eff _ _) (by decide)
        refine Eff.then ?_ (State.setPst_eff _ _) (by decide)
        exact h5
      · refine Eff.then ?_ (State.setPst_eff _ _) (by decide)
        refine Eff.then ?_ (State.setF_eff _ _ _) (by decide)
        exact h5
    · rename_i v10 e11 e12
      exact h5

theorem execPairLinkLoss_eff (s : State) :
    EffX 402653254 s (execPairLinkLoss s) := by
  unfold execPairLinkLoss
  refine whileUp_eff ?_ ?_
  · exact Eff.refl
  · intro p0 h1
    try beta_reduce
    refine Eff.then ?_ (State.linkLoss_eff _ _) (by decide)
    exact h1

theorem execHeartbeatTimeout_eff (s : State) :
    EffX 402653254 s (execHeartbeatTimeout s) := by
  unfold execHeartbeatTimeout
  refine whileUp_eff ?_ ?_
  · exact Eff.refl
  · intro p0 h1
    try beta_reduce
    refine State.when_eff ?_ ?_
    · exact h1
    · intro p2 h3
      try beta_reduce
      refine Eff.then ?_ (State.linkLoss_eff _ _) (by decide)
      exact h3

theorem execTossResend_eff (s : State) :
    EffX 134217732 s (execTossResend s) := by
  unfold execTossResend
  refine whileUp_eff ?_ ?_
  · exact Eff.refl
  · intro p0 h1
    try beta_reduce
    refine State.when_eff ?_ ?_
    · exact h1
    · intro p2 h3
      try beta_reduce
      refine Eff.then ?_ (State.sendToss_eff _) (by decide)
      exact h3

theorem execTossAnswer_eff (a0) (a1) (a2) (a3) (a4) (a5) (s : State) :
    EffX 450408270 s (execTossAnswer a0 a1 a2 a3 a4 a5 s) := by
  unfold execTossAnswer
  refine whileUp_eff ?_ ?_
  · exact Eff.refl
  · intro p0 h1
    try beta_reduce
    refine State.when_eff ?_ ?_
    · exact h1
    · intro p2 h3
      try beta_reduce
      refine Eff.ite ?_ ?_
      · refine Eff.then ?_ (State.becomeKeeper_eff _ _) (by decide)
        exact h3
      · refine Eff.ite ?_ ?_
        · refine Eff.then ?_ (State.becomeBenched_eff _) (by decide)
          exact h3
        · exact h3

theorem execTossTimeout_eff (s : State) :
    EffX 450408270 s (execTossTimeout s) := by
  unfold execTossTimeout
  refine whileUp_eff ?_ ?_
  · exact Eff.refl
  · intro p0 h1
    try beta_reduce
    refine State.when_eff ?_ ?_
    · exact h1
    · intro p2 h3
      try beta_reduce
      refine Eff.ite ?_ ?_
      · refine Eff.then ?_ (State.becomeBenched_eff _) (by decide)
        exact h3
      · refine Eff.then ?_ (State.becomeKeeper_eff _ _) (by decide)
        exact h3

theorem execPartnerLossDetect_eff (s : State) :
    EffX 450399822 s (execPartnerLossDetect s) := by
  unfold execPartnerLossDetect
  refine whileUp_eff ?_ ?_
  · exact Eff.refl
  · intro p0 h1
    try beta_reduce
    refine State.when_eff ?_ ?_
    · exact h1
    · intro p2 h3
      try beta_reduce
      refine Eff.then ?_ (State.becomeKeeper_eff _ _) (by decide)
      refine Eff.then ?_ (State.setF_eff _ _ _) (by decide)
      exact h3

theorem State.linkGo_eff (s : State) (a1) :
    Eff 402653252 s (State.linkGo s a1) := by
  unfold State.linkGo
  extract_lets -merge x0 x1 x2
  have h3 : Eff 402653252 s x0 := by
    subst x0
    refine Eff.then ?_ (State.setF_eff _ _ _) (by decide)
    exact Eff.refl
  clear_value x0
  have h4 : Eff 402653252 s x1 := by
    subst x1
    refine Eff.ite ?_ ?_
    · exact h3
    · refine Eff.then ?_ (State.setF_eff _ _ _) (by decide)
      refine Eff.then ?_ (State.setF_eff _ _ _) (by decide)
      exact h3
  clear_value x1
  have h5 : Eff 402653252 s x2 := by
    subst x2
    refine Eff.then ?_ (State.setPst_eff _ _) (by decide)
    refine Eff.then ?_ (State.updPair_eff _ _) (by decide)
    exact h4
  clear_value x2
  refine Eff.ite ?_ ?_
  · exact h4
  · refine Eff.ite ?_ ?_
    · refine Eff.then ?_ (State.setF_eff _ _ _) (by decide)
      exact h5
    · exact h5

theorem execLinkGo_eff (a0) (a1) (s : State) :
    EffX 402653252 s (execLinkGo a0 a1 s) := by
  unfold execLinkGo
  refine whileUp_eff ?_ ?_
  · exact Eff.refl
  · intro p0 h1
    try beta_reduce
    refine State.when_eff ?_ ?_
    · exact h1
    · intro p2 h3
      try beta_reduce
      refine Eff.then ?_ (State.linkGo_eff _ _) (by decide)
      exact h3

theorem execHeartbeatSend_eff (s : State) :
    EffX 134217728 s (execHeartbeatSend s) := by
  unfold execHeartbeatSend
  refine whileUp_eff ?_ ?_
  · exact Eff.refl
  · intro p0 h1
    try beta_reduce
    refine State.when_eff ?_ ?_
    · exact h1
    · intro p2 h3
      try beta_reduce
      refine Eff.then ?_ (State.linkSend_eff _ _) (by decide)
      exact h3

theorem execHeartbeat_eff (a0) (a1) (a2) (s : State) :
    EffX 402653254 s (execHeartbeat a0 a1 a2 s) := by
  unfold execHeartbeat
  refine whileUp_eff ?_ ?_
  · exact Eff.refl
  · intro p0 h1
    try beta_reduce
    refine State.when_eff ?_ ?_
    · exact h1
    · intro p2 h3
      try beta_reduce
      extract_lets -merge x4 x5
      clear_value x4
      have h6 : Eff 402653254 s x5 := by
        subst x5
        refine Eff.then ?_ (State.updPair_eff _ _) (by decide)
        exact h3
      clear_value x5
      refine Eff.ite ?_ ?_
      · refine Eff.then ?_ (State.updPair_eff _ _) (by decide)
        refine Eff.then ?_ (State.setReg_eff _ _ _) (by decide)
        exact h6
      · refine Eff.ite ?_ ?_
        · exact h6
        · refine Eff.then ?_ (State.linkLoss_eff _ _) (by decide)
          exact h6

theorem State.linkTick_eff (s : State) :
    Eff 134217732 s (State.linkTick s) := by
  unfold State.linkTick
  refine Eff.ite ?_ ?_
  · refine Eff.then ?_ (State.updPair_eff _ _) (by decide)
    exact Eff.refl
  · extract_lets -merge x0 x1 x2
    clear_value x0
    clear_value x1
    clear_value x2
    refine Eff.ite ?_ ?_
    · exact Eff.refl
    · refine Eff.foldl ?_ ?_
      · refine Eff.then ?_ (upd_pair _ _) (by decide)
        exact Eff.refl
      · intro p3 p4 h5
        try beta_reduce
        refine Eff.then ?_ (State.send_eff _ _) (by decide)
        exact h5

theorem State.flitIn_eff (s : State) (a1) (a2) (a3) (a4) (a5) :
    Eff 402653254 s (State.flitIn s a1 a2 a3 a4 a5) := by
  unfold State.flitIn
  refine Eff.ite ?_ ?_
  · refine Eff.ite ?_ ?_
    · exact Eff.refl
    · refine Eff.then ?_ (State.updPair_eff _ _) (by decide)
      refine Eff.then ?_ (State.send_eff _ _) (by decide)
      exact Eff.refl
  · extract_lets -merge x0 x1 x2
    have h3 : Eff 402653254 s x0 := by
      subst x0
      refine Eff.then ?_ (State.updPair_eff _ _) (by decide)
      refine Eff.then ?_ (State.send_eff _ _) (by decide)
      exact Eff.refl
    clear_value x0
    have h4 : Eff 402653254 s x1 := by
      subst x1
      refine Eff.then ?_ (State.updPair_eff _ _) (by decide)
      exact h3
    clear_value x1
    clear_value x2
    refine Eff.ite ?_ ?_
    · refine Eff.then ?_ (State.updPair_eff _ _) (by decide)
      exact h4
    · split
      · rename_i v5 e6
        refine Eff.then ?_ (State.linkLoss_eff _ _) (by decide)
        exact h4
      · rename_i v7 v8 e9
        extract_lets -merge x10
        have h11 : Eff 402653254 s x10 := by
          subst x10
          refine Eff.then ?_ (State.inc_eff _ _ _) (by decide)
          refine Eff.then ?_ (State.updPair_eff _ _) (by decide)
          exact h4
        clear_value x10
        refine Eff.foldl ?_ ?_
        · exact h11
        · intro p12 p13 h14
          try beta_reduce
          refine Eff.foldl ?_ ?_
          · refine Eff.then ?_ (State.send_eff _ _) (by decide)
            exact h14
          · intro p15 p16 h17
            try beta_reduce
            refine Eff.then ?_ (State.send_eff _ _) (by decide)
            exact h17

theorem execFlitReceive_eff (a0) (a1) (a2) (a3) (a4) (a5) (s : State) :
    EffX 402653254 s (execFlitReceive a0 a1 a2 a3 a4 a5 s) := by
  unfold execFlitReceive
  refine whileUp_eff ?_ ?_
  · exact Eff.refl
  · intro p0 h1
    try beta_reduce
    refine State.when_eff ?_ ?_
    · exact h1
    · intro p2 h3
      try beta_reduce
      refine Eff.then ?_ (State.flitIn_eff _ _ _ _ _ _) (by decide)
      exact h3

theorem State.clearTable_eff (s : State) (a1) :
    Eff 66816 s (State.clearTable s a1) := by
  unfold State.clearTable
  extract_lets -merge x0 x1 x2
  clear_value x0
  have h3 : Eff 66816 s x1 := by
    subst x1
    refine Eff.foldl ?_ ?_
    · exact Eff.refl
    · intro p4 p5 h6
      try beta_reduce
      refine Eff.then ?_ (State.enqOp_eff _ _ _) (by decide)
      exact h6
  clear_value x1
  have h7 : Eff 66816 s x2 := by
    subst x2
    refine Eff.then ?_ (State.updTb_eff _ _ _) (by decide)
    exact h3
  clear_value x2
  refine Eff.ite ?_ ?_
  · refine Eff.foldl ?_ ?_
    · exact h7
    · intro p8 p9 h10
      try beta_reduce
      refine Eff.then ?_ (State.setDword_eff _ _ _) (by decide)
      exact h10
  · exact h7

theorem State.putRegions_eff (s : State) (a1) :
    Eff 64 s (State.putRegions s a1) := by
  unfold State.putRegions
  refine Eff.foldl ?_ ?_
  · exact Eff.refl
  · intro p0 p1 h2
    try beta_reduce
    refine Eff.then ?_ (State.setReg_eff _ _ _) (by decide)
    exact h2

theorem State.showResync_eff (s : State) :
    Eff 64 s (State.showResync s) := by
  unfold State.showResync
  refine Eff.then ?_ (State.setF_eff _ _ _) (by decide)
  refine Eff.then ?_ (State.setF_eff _ _ _) (by decide)
  exact Eff.refl

theorem State.startKeeper_eff (s : State) (a1) :
    Eff 402653252 s (State.startKeeper s a1) := by
  unfold State.startKeeper
  extract_lets -merge x0 x1 x2 x3
  have h4 : Eff 402653252 s x0 := by
    subst x0
    refine Eff.then ?_ (State.setPst_eff _ _) (by decide)
    refine Eff.then ?_ (State.setF_eff _ _ _) (by decide)
    exact Eff.refl
  clear_value x0
  have h5 : Eff 402653252 s x1 := by
    subst x1
    refine Eff.then ?_ (State.linkSend_eff _ _) (by decide)
    exact h4
  clear_value x1
  clear_value x2
  clear_value x3
  refine Eff.then ?_ (State.showResync_eff _) (by decide)
  refine Eff.then ?_ (State.updPair_eff _ _) (by decide)
  exact h5

theorem State.startJoiner_eff (s : State) (a1) :
    Eff 402720070 s (State.startJoiner s a1) := by
  unfold State.startJoiner
  extract_lets -merge x0 x1 x2 x3
  clear_value x0
  have h4 : Eff 402720070 s x1 := by
    subst x1
    refine Eff.then ?_ (State.setPst_eff _ _) (by decide)
    refine Eff.then ?_ (State.setF_eff _ _ _) (by decide)
    refine Eff.then ?_ (State.setF_eff _ _ _) (by decide)
    exact Eff.refl
  clear_value x1
  have h5 : Eff 402720070 s x2 := by
    subst x2
    refine Eff.ite ?_ ?_
    · refine Eff.foldl ?_ ?_
      · exact h4
      · intro p6 p7 h8
        try beta_reduce
        refine Eff.then ?_ (State.clearTable_eff _ _) (by decide)
        exact h8
    · exact h4
  clear_value x2
  have h9 : Eff 402720070 s x3 := by
    subst x3
    refine Eff.ite ?_ ?_
    · refine Eff.foldl ?_ ?_
      · exact h5
      · intro p10 p11 h12
        try beta_reduce
        extract_lets -merge x13
        have h14 : Eff 402720070 s x13.2 := by
          subst x13
          refine Eff.then ?_ (State.free_eff _) (by decide)
          exact h12
        clear_value x13
        refine Eff.then ?_ (State.updTb_eff _ _ _) (by decide)
        exact h14
    · exact h5
  clear_value x3
  refine Eff.then ?_ (State.linkSend_eff _ _) (by decide)
  exact h9

theorem State.yieldKeeper_eff (s : State) :
    Eff 403244356 s (State.yieldKeeper s) := by
  unfold State.yieldKeeper
  extract_lets -merge x0 x1 x2 x3
  have h4 : Eff 403244356 s x0 := by
    subst x0
    refine Eff.foldl ?_ ?_
    · exact Eff.refl
    · intro p5 p6 h7
      try beta_reduce
      refine Eff.then ?_ (State.clearTable_eff _ _) (by decide)
      exact h7
  clear_value x0
  have h8 : Eff 403244356 s x1 := by
    subst x1
    refine Eff.then ?_ (State.raise_eff _ _ _ _) (by decide)
    refine Eff.then ?_ (State.putRegions_eff _ _) (by decide)
    exact h4
  clear_value x1
  have h9 : Eff 403244356 s x2 := by
    subst x2
    refine Eff.then ?_ (State.setReg_eff _ _ _) (by decide)
    refine Eff.then ?_ (State.setF_eff _ _ _) (by decide)
    refine Eff.then ?_ (State.setF_eff _ _ _) (by decide)
    exact h8
  clear_value x2
  have h10 : Eff 403244356 s x3 := by
    subst x3
    refine Eff.then ?_ (State.updPair_eff _ _) (by decide)
    exact h9
  clear_value x3
  refine Eff.then ?_ (State.setPst_eff _ _) (by decide)
  exact h10

theorem State.helloIn_eff (s : State) (a1) :
    Eff 450465614 s (State.helloIn s a1) := by
  unfold State.helloIn
  extract_lets -merge x0 x1 x2 x3
  have h4 : Eff 450465614 s x0 := by
    subst x0
    refine Eff.then ?_ (State.updPair_eff _ _) (by decide)
    exact Eff.refl
  clear_value x0
  clear_value x1
  clear_value x2
  clear_value x3
  refine Eff.ite ?_ ?_
  · refine Eff.then ?_ (State.setF_eff _ _ _) (by decide)
    exact h4
  · split
    · rename_i v5 v6 e7 e8
      refine Eff.ite ?_ ?_
      · exact h4
      · refine Eff.then ?_ (State.yieldKeeper_eff _) (by decide)
        exact h4
    · rename_i v9 v10 e11 e12
      refine Eff.ite ?_ ?_
      · refine Eff.ite ?_ ?_
        · refine Eff.then ?_ (State.startKeeper_eff _ _) (by decide)
          exact h4
        · refine Eff.then ?_ (State.setF_eff _ _ _) (by decide)
          exact h4
      · exact h4
    · rename_i v13 v14 e15 e16
      refine Eff.ite ?_ ?_
      · refine Eff.ite ?_ ?_
        · refine Eff.then ?_ (State.startJoiner_eff _ _) (by decide)
          exact h4
        · refine Eff.then ?_ (State.setF_eff _ _ _) (by decide)
          exact h4
      · exact h4
    · rename_i v17 v18 e19 e20
      refine Eff.ite ?_ ?_
      · refine Eff.then ?_ (State.startKeeper_eff _ _) (by decide)
        exact h4
      · refine Eff.then ?_ (State.setF_eff _ _ _) (by decide)
        exact h4
    · rename_i v21 v22 e23 e24
      refine Eff.ite ?_ ?_
      · refine Eff.then ?_ (State.setF_eff _ _ _) (by decide)
        exact h4
      · refine Eff.ite ?_ ?_
        · refine Eff.then ?_ (State.startJoiner_eff _ _) (by decide)
          exact h4
        · exact h4
    · rename_i v25 v26 e27 e28
      refine Eff.ite ?_ ?_
      · exact h4
      · refine Eff.ite ?_ ?_
        · refine Eff.then ?_ (State.setF_eff _ _ _) (by decide)
          exact h4
        · refine Eff.ite ?_ ?_
          · refine Eff.then ?_ (State.setF_eff _ _ _) (by decide)
            exact h4
          · refine Eff.then ?_ (State.setPst_eff _ _) (by decide)
            refine Eff.then ?_ (State.updPair_eff _ _) (by decide)
            refine Eff.then ?_ (State.setF_eff _ _ _) (by decide)
            refine Eff.then ?_ (State.setF_eff _ _ _) (by decide)
            exact h4
    · rename_i v29 v30 e31 e32
      refine Eff.then ?_ (State.becomeKeeper_eff _ _) (by decide)
      exact h4
    · rename_i v33 v34 e35 e36
      exact h4
    · rename_i v37 v38 e39 e40
      refine Eff.ite ?_ ?_
      · refine Eff.then ?_ (State.showResync_eff _) (by decide)
        refine Eff.then ?_ (State.updPair_eff _ _) (by decide)
        refine Eff.then ?_ (State.setPst_eff _ _) (by decide)
        exact h4
      · exact h4
    · rename_i v41 v42 e43 e44 e45 e46 e47 e48 e49 e50 e51
      exact h4

theorem execHello_eff (a0) (s : State) :
    EffX 450465614 s (execHello a0 s) := by
  unfold execHello
  refine whileUp_eff ?_ ?_
  · exact Eff.refl
  · intro p0 h1
    try beta_reduce
    refine State.when_eff ?_ ?_
    · exact h1
    · intro p2 h3
      try beta_reduce
      refine Eff.then ?_ (State.helloIn_eff _ _) (by decide)
      exact h3

theorem State.linkUp_eff (s : State) (a1) (a2) (a3) :
    Eff 450465614 s (State.linkUp s a1 a2 a3) := by
  unfold State.linkUp
  refine Eff.ite ?_ ?_
  · exact Eff.refl
  · refine Eff.ite ?_ ?_
    · refine Eff.then ?_ (State.setF_eff _ _ _) (by decide)
      exact Eff.refl
    · refine Eff.ite ?_ ?_
      · refine Eff.then ?_ (State.setF_eff _ _ _) (by decide)
        exact Eff.refl
      · refine Eff.ite ?_ ?_
        · refine Eff.then ?_ (State.setF_eff _ _ _) (by decide)
          exact Eff.refl
        · extract_lets -merge x0 x1
          have h2 : Eff 450465614 s x0 := by
            subst x0
            refine Eff.then ?_ (State.updPair_eff _ _) (by decide)
            exact Eff.refl
          clear_value x0
          have h3 : Eff 450465614 s x1 := by
            subst x1
            refine Eff.then ?_ (State.setF_eff _ _ _) (by decide)
            exact h2
          clear_value x1
          refine Eff.then ?_ (State.helloIn_eff _ _) (by decide)
          refine Eff.then ?_ (State.linkSend_eff _ _) (by decide)
          exact h3

theorem execGweutLinkUp_eff (a0) (a1) (a2) (s : State) :
    EffX 450465614 s (execGweutLinkUp a0 a1 a2 s) := by
  unfold execGweutLinkUp
  refine whileUp_eff ?_ ?_
  · exact Eff.refl
  · intro p0 h1
    try beta_reduce
    refine State.when_eff ?_ ?_
    · exact h1
    · intro p2 h3
      try beta_reduce
      refine Eff.then ?_ (State.linkUp_eff _ _ _ _) (by decide)
      exact h3

theorem execPairBench_eff (a0) (s : State) :
    EffX 945336140 s (execPairBench a0 s) := by
  unfold execPairBench
  refine whileUp_eff ?_ ?_
  · exact Eff.refl
  · intro p0 h1
    try beta_reduce
    refine State.owner1_eff ?_ ?_
    · exact h1
    · intro p2 h3
      try beta_reduce
      extract_lets -merge x4
      have h5 : Eff 945336140 s x4 := by
        subst x4
        refine Eff.then ?_ (State.becomeBenched_eff _) (by decide)
        exact h3
      clear_value x4
      refine Eff.then ?_ (State.linkSend_eff _ _) (by decide)
      exact h5

theorem execPairJoin_eff (a0) (s : State) :
    EffX 987336526 s (execPairJoin a0 s) := by
  unfold execPairJoin
  refine whileUp_eff ?_ ?_
  · exact Eff.refl
  · intro p0 h1
    try beta_reduce
    refine State.owner1_eff ?_ ?_
    · exact h1
    · intro p2 h3
      try beta_reduce
      extract_lets -merge x4
      have h5 : Eff 987336526 s x4 := by
        subst x4
        refine Eff.then ?_ (State.updPair_eff _ _) (by decide)
        exact h3
      clear_value x4
      split
      · rename_i v6 v7 e8
        refine Eff.ite ?_ ?_
        · refine Eff.then ?_ (State.helloIn_eff _ _) (by decide)
          exact h5
        · exact h5
      · rename_i v9 e10
        exact h5

theorem execMirrorRegion_eff (a0) (a1) (a2) (a3) (a4) (s : State) :
    EffX 671088704 s (execMirrorRegion a0 a1 a2 a3 a4 s) := by
  unfold execMirrorRegion
  refine whileUp_eff ?_ ?_
  · exact Eff.refl
  · intro p0 h1
    try beta_reduce
    extract_lets -merge x2 x3 x4 x5 x6
    clear_value x2
    clear_value x3
    clear_value x4
    clear_value x5
    clear_value x6
    refine State.owner1_eff ?_ ?_
    · exact h1
    · intro p7 h8
      try beta_reduce
      refine Eff.then ?_ (State.linkSend_eff _ _) (by decide)
      refine Eff.then ?_ (State.putRegions_eff _ _) (by decide)
      exact h8

end Sys2Proof.Machine
end

