-- ==== Sys2Proof/Laws/EffPairMsg.lean ====
section
/-! SUPPORT. What the functions of Machine/PairMsg.lean may change: bit i of a mask is component i of `Comp.idx`.
The theorems are checked one after another: each is small, and the joined text has many. -/

set_option Elab.async false

namespace Sys2Proof.Machine

theorem State.mirDropReloc_eff (s : State) (a1) :
    Eff 404270924 s (State.mirDropReloc s a1) := by
  unfold State.mirDropReloc
  refine Eff.then ?_ (State.releaseWait_eff _ _ _) (by decide)
  refine Eff.then ?_ (State.dropReloc_eff _ _) (by decide)
  exact Eff.refl

theorem State.mirPick_eff (s : State) (a1) (a2) :
    Eff 404270924 s (State.mirPick s a1 a2).2 := by
  unfold State.mirPick
  extract_lets -merge x0
  clear_value x0
  split
  · rename_i v1 v2 e3
    exact Eff.refl
  · rename_i v4 e5
    split
    · rename_i v6 v7 e8
      extract_lets -merge x9
      have h10 : Eff 404270924 s x9 := by
        subst x9
        refine Eff.then ?_ (State.mirDropReloc_eff _ _) (by decide)
        exact Eff.refl
      clear_value x9
      exact h10
    · rename_i v11 e12
      exact Eff.refl

theorem State.mirArrOp_eff (s : State) (a1) :
    Eff 404270924 s (State.mirArrOp s a1).2 := by
  unfold State.mirArrOp
  extract_lets -merge x0 x1 x2 x3 x4
  clear_value x0
  clear_value x1
  clear_value x2
  have h5 : Eff 404270924 s x3.2 := by
    subst x3
    refine Eff.then ?_ (State.mirPick_eff _ _ _) (by decide)
    exact Eff.refl
  clear_value x3
  have h6 : ∀ p0, Eff 404270924 s (x4 p0).2 := by
    subst x4
    intro p7
    try beta_reduce
    exact h5
  clear_value x4
  refine EffR.ite ?_ ?_
  · exact Eff.refl
  · split
    · rename_i v8 e9
      refine EffR.ite ?_ ?_
      · exact Eff.refl
      · split
        · rename_i v10 v11 e12
          exact Eff.refl
        · rename_i v13 e14
          refine h6 _
    · rename_i v15 e16
      split
      · rename_i v17 v18 e19
        exact Eff.refl
      · rename_i v20 e21
        refine h6 _
    · rename_i v22 e23
      exact Eff.refl
    · rename_i v24 e25
      exact Eff.refl
    · rename_i v26 e27
      refine EffR.ite ?_ ?_
      · exact Eff.refl
      · refine h6 _
    · rename_i v28 e29
      exact Eff.refl
    · rename_i v30 e31
      exact Eff.refl
    · rename_i v32 e33 e34 e35 e36 e37 e38 e39
      exact Eff.refl

theorem State.mirDropRelocsOf_eff (s : State) (a1) (a2) :
    Eff 404270924 s (State.mirDropRelocsOf s a1 a2) := by
  unfold State.mirDropRelocsOf
  refine Eff.foldl ?_ ?_
  · exact Eff.refl
  · intro p0 p1 h2
    try beta_reduce
    refine Eff.then ?_ (State.mirDropReloc_eff _ _) (by decide)
    exact h2

theorem State.mirReserve_eff (s : State) (a1) :
    Eff 404270926 s (State.mirReserve s a1) := by
  unfold State.mirReserve
  extract_lets -merge x0 x1 x2 x3 x4 x5 x6 x7 x8
  clear_value x0
  clear_value x1
  have h9 : Eff 404270926 s x2 := by
    subst x2
    refine Eff.ite ?_ ?_
    · refine Eff.then ?_ (State.inc_eff _ _ _) (by decide)
      exact Eff.refl
    · exact Eff.refl
  clear_value x2
  have h10 : Eff 404270926 s x3 := by
    subst x3
    refine Eff.then ?_ (State.mirDropRelocsOf_eff _ _ _) (by decide)
    exact h9
  clear_value x3
  clear_value x4
  have h11 : Eff 404270926 s x5.2 := by
    subst x5
    refine Eff.then ?_ (State.mirArrOp_eff _ _) (by decide)
    exact h10
  clear_value x5
  have h12 : Eff 404270926 s x6 := by
    subst x6
    exact h11
  clear_value x6
  clear_value x7
  clear_value x8
  split
  · rename_i v13 e14
    refine Eff.then ?_ (State.linkLoss_eff _ _) (by decide)
    exact h12
  · rename_i v15 v16 e17
    extract_lets -merge x18 x19
    have h20 : Eff 404270926 s x18 := by
      subst x18
      refine Eff.then ?_ (State.updPair_eff _ _) (by decide)
      exact h12
    clear_value x18
    clear_value x19
    split
    · rename_i v21 v22 e23
      extract_lets -merge x24
      clear_value x24
      refine Eff.then ?_ (upd_arb _ _) (by decide)
      exact h20
    · rename_i v25 e26
      exact h20

theorem State.mirLock_eff (s : State) (a1) :
    Eff 1024 s (State.mirLock s a1) := by
  unfold State.mirLock
  refine Eff.then ?_ (State.updTb_eff _ _ _) (by decide)
  exact Eff.refl

theorem State.mirTarget_eff (s : State) (a1) (a2) :
    Eff 404270924 s (State.mirTarget s a1 a2).2 := by
  unfold State.mirTarget
  split
  · rename_i v0 v1
    refine EffR.ite ?_ ?_
    · refine Eff.then ?_ (State.mirPick_eff _ _ _) (by decide)
      exact Eff.refl
    · exact Eff.refl
  · rename_i v2
    refine Eff.then ?_ (State.mirPick_eff _ _ _) (by decide)
    exact Eff.refl

theorem State.putRow_eff (s : State) (a1) (a2) (a3) :
    Eff 268435968 s (State.putRow s a1 a2 a3) := by
  unfold State.putRow
  refine Eff.then ?_ (State.widen_eff _ _ _) (by decide)
  refine Eff.then ?_ (State.commitRow_eff _ _ _ _) (by decide)
  exact Eff.refl

theorem State.mirPut_eff (s : State) (a1) (a2) :
    Eff 404270924 s (State.mirPut s a1 a2) := by
  unfold State.mirPut
  extract_lets -merge x0 x1 x2 x3
  clear_value x0
  clear_value x1
  clear_value x2
  have h4 : Eff 404270924 s x3.2 := by
    subst x3
    refine Eff.then ?_ (State.mirTarget_eff _ _ _) (by decide)
    exact Eff.refl
  clear_value x3
  split
  · rename_i v5 v6 e7
    extract_lets -merge x8
    clear_value x8
    refine Eff.then ?_ (State.putRow_eff _ _ _ _) (by decide)
    exact Eff.refl
  · rename_i v9 e10
    split
    · rename_i v11 v12 e13
      refine Eff.then ?_ (State.setHrow_eff _ _ _ _) (by decide)
      refine Eff.then ?_ (State.putRow_eff _ _ _ _) (by decide)
      exact h4
    · rename_i v14 e15
      exact h4

theorem State.mirEvict_eff (s : State) (a1) (a2) :
    Eff 404270924 s (State.mirEvict s a1 a2) := by
  unfold State.mirEvict
  extract_lets -merge x0 x1 x2
  clear_value x0
  clear_value x1
  have h3 : Eff 404270924 s x2 := by
    subst x2
    refine Eff.then ?_ (State.dropCopy_eff _ _ _) (by decide)
    refine Eff.then ?_ (State.setHrow_eff _ _ _ _) (by decide)
    exact Eff.refl
  clear_value x2
  split
  · rename_i v4 v5 e6
    refine Eff.then ?_ (State.setHrow_eff _ _ _ _) (by decide)
    refine Eff.then ?_ (State.putRow_eff _ _ _ _) (by decide)
    exact h3
  · rename_i v7 e8
    refine Eff.then ?_ (State.mirPut_eff _ _ _) (by decide)
    exact Eff.refl

theorem State.mirStage_eff (s : State) (a1) (a2) :
    Eff 404270924 s (State.mirStage s a1 a2) := by
  unfold State.mirStage
  extract_lets -merge x0 x1 x2 x3 x4 x5
  clear_value x0
  clear_value x1
  have h6 : Eff 404270924 s x2 := by
    subst x2
    refine Eff.then ?_ (State.mirLock_eff _ _) (by decide)
    exact Eff.refl
  clear_value x2
  have h7 : Eff 404270924 s x3.2 := by
    subst x3
    refine Eff.then ?_ (State.mirTarget_eff _ _ _) (by decide)
    exact h6
  clear_value x3
  have h8 : Eff 404270924 s x4 := by
    subst x4
    exact h7
  clear_value x4
  clear_value x5
  refine Eff.ite ?_ ?_
  · split
    · rename_i v9 v10 e11
      extract_lets -merge x12 x13
      have h14 : Eff 404270924 s x12 := by
        subst x12
        refine Eff.then ?_ (State.rowLeft_eff _ _) (by decide)
        refine Eff.then ?_ (State.freeRow_eff _ _) (by decide)
        exact h6
      clear_value x12
      have h15 : Eff 404270924 s x13 := by
        subst x13
        refine Eff.then ?_ (State.updLock_eff _ _ _) (by decide)
        exact h14
      clear_value x13
      split
      · rename_i v16 v17 e18
        refine Eff.ite ?_ ?_
        · exact h15
        · refine Eff.then ?_ (State.setHrow_eff _ _ _ _) (by decide)
          exact h15
      · rename_i v19 e20
        exact h15
    · rename_i v21 e22
      exact h6
  · split
    · rename_i v23 v24 e25
      extract_lets -merge x26 x27
      have h28 : Eff 404270924 s x26 := by
        subst x26
        refine Eff.then ?_ (State.putRow_eff _ _ _ _) (by decide)
        exact h8
      clear_value x26
      have h29 : Eff 404270924 s x27 := by
        subst x27
        refine Eff.then ?_ (State.updLock_eff _ _ _) (by decide)
        exact h28
      clear_value x27
      refine Eff.ite ?_ ?_
      · refine Eff.then ?_ (State.markRetire_eff _ _ _) (by decide)
        exact h29
      · refine Eff.then ?_ (State.setHrow_eff _ _ _ _) (by decide)
        exact h29
    · rename_i v30 e31
      exact h7

theorem State.mirRecord_eff (s : State) (a1) :
    Eff 1024 s (State.mirRecord s a1) := by
  unfold State.mirRecord
  extract_lets -merge x0
  clear_value x0
  refine Eff.then ?_ (State.updTb_eff _ _ _) (by decide)
  exact Eff.refl

theorem State.mirLoad_eff (s : State) (a1) :
    Eff 66562 s (State.mirLoad s a1) := by
  unfold State.mirLoad
  extract_lets -merge x0 x1
  clear_value x0
  have h2 : Eff 66562 s x1 := by
    subst x1
    split
    · rename_i v3 v4 e5
      extract_lets -merge x6
      have h7 : Eff 66562 s x6 := by
        subst x6
        refine Eff.then ?_ (State.putEntries_eff _ _ _) (by decide)
        refine Eff.then ?_ (State.updTb_eff _ _ _) (by decide)
        exact Eff.refl
      clear_value x6
      exact h7
    · rename_i v8 e9
      exact Eff.refl
  clear_value x1
  refine Eff.ite ?_ ?_
  · refine Eff.then ?_ (State.putProfile_eff _ _ _) (by decide)
    exact h2
  · exact h2

theorem State.mirLockCommit_eff (s : State) (a1) :
    Eff 404246094 s (State.mirLockCommit s a1) := by
  unfold State.mirLockCommit
  extract_lets -merge x0
  have h1 : Eff 404246094 s x0 := by
    subst x0
    refine Eff.then ?_ (State.commitLock_eff _ _) (by decide)
    exact Eff.refl
  clear_value x0
  refine Eff.ite ?_ ?_
  · refine Eff.then ?_ (State.putProfile_eff _ _ _) (by decide)
    exact h1
  · exact h1

theorem State.mirPrepare_eff (s : State) (a1) :
    Eff 134250496 s (State.mirPrepare s a1) := by
  unfold State.mirPrepare
  extract_lets -merge x0 x1 x2 x3 x4
  clear_value x0
  clear_value x1
  clear_value x2
  clear_value x3
  clear_value x4
  refine Eff.ite ?_ ?_
  · split
    · rename_i v5 v6 e7
      refine Eff.then ?_ (State.linkSend_eff _ _) (by decide)
      exact Eff.refl
    · rename_i v8 v9 e10
      extract_lets -merge x11 x12
      clear_value x11
      clear_value x12
      refine Eff.then ?_ (upd_trie _ _) (by decide)
      exact Eff.refl
  · refine Eff.then ?_ (State.linkSend_eff _ _) (by decide)
    exact Eff.refl

theorem State.mirBuilt_eff (s : State) :
    Eff 134250496 s (State.mirBuilt s) := by
  unfold State.mirBuilt
  refine Eff.foldl ?_ ?_
  · exact Eff.refl
  · intro p0 p1 h2
    try beta_reduce
    split
    · rename_i v3 v4 e5
      split
      · rename_i v6 v7 v8 v9 v10 e11 e12
        refine Eff.ite ?_ ?_
        · extract_lets -merge x13 x14 x15
          have h16 : Eff 134250496 s x13 := by
            subst x13
            refine Eff.then ?_ (State.linkSend_eff _ _) (by decide)
            exact h2
          clear_value x13
          clear_value x14
          clear_value x15
          refine Eff.then ?_ (upd_trie _ _) (by decide)
          exact h16
        · exact h2
      · rename_i v17 v18 e19
        exact h2
    · rename_i v20 e21
      exact h2

theorem State.mirPrefix_eff (s : State) (a1) :
    Eff 33792 s (State.mirPrefix s a1) := by
  unfold State.mirPrefix
  extract_lets -merge x0 x1 x2 x3 x4 x5 x6
  clear_value x0
  clear_value x1
  clear_value x2
  clear_value x3
  clear_value x4
  clear_value x5
  have h7 : Eff 33792 s x6 := by
    subst x6
    split
    · rename_i v8 v9 e10
      split
      · rename_i v11 v12 v13 e14
        extract_lets -merge x15
        clear_value x15
        refine Eff.then ?_ (upd_trie _ _) (by decide)
        exact Eff.refl
      · rename_i v16 e17
        exact Eff.refl
    · rename_i v18 e19
      exact Eff.refl
  clear_value x6
  refine Eff.then ?_ (State.updTb_eff _ _ _) (by decide)
  exact h7

theorem State.mirVisit_eff (s : State) (a1) (a2) :
    Eff 268435968 s (State.mirVisit s a1 a2) := by
  unfold State.mirVisit
  split
  · rename_i v0 e1
    exact Eff.refl
  · rename_i v2 v3 e4
    extract_lets -merge x5 x6
    clear_value x5
    clear_value x6
    refine Eff.ite ?_ ?_
    · refine Eff.then ?_ (State.commitRow_eff _ _ _ _) (by decide)
      exact Eff.refl
    · refine Eff.then ?_ (State.commitRow_eff _ _ _ _) (by decide)
      exact Eff.refl

theorem State.mirApply_eff (s : State) (a1) (a2) :
    Eff 404356942 s (State.mirApply s a1 a2) := by
  unfold State.mirApply
  extract_lets -merge x0 x1 x2 x3
  clear_value x0
  clear_value x1
  have h4 : Eff 404356942 s x2 := by
    subst x2
    refine Eff.then ?_ (State.mirDropRelocsOf_eff _ _ _) (by decide)
    exact Eff.refl
  clear_value x2
  have h5 : Eff 404356942 s x3 := by
    subst x3
    refine Eff.then ?_ (State.putProfile_eff _ _ _) (by decide)
    exact h4
  clear_value x3
  split
  · rename_i v6 e7
    refine Eff.ite ?_ ?_
    · split
      · rename_i v8 v9 e10
        refine Eff.then ?_ (State.removeRow_eff _ _) (by decide)
        exact h4
      · rename_i v11 e12
        exact h4
    · refine Eff.then ?_ (State.mirPut_eff _ _ _) (by decide)
      exact h4
  · rename_i v13 e14
    refine Eff.then ?_ (State.mirEvict_eff _ _ _) (by decide)
    exact h4
  · rename_i v15 e16
    split
    · rename_i v17 v18 e19
      refine Eff.then ?_ (State.removeRow_eff _ _) (by decide)
      exact h4
    · rename_i v20 e21
      exact h4
  · rename_i v22 e23
    refine Eff.ite ?_ ?_
    · refine Eff.then ?_ (State.mirVisit_eff _ _ _) (by decide)
      exact h4
    · split
      · rename_i v24 v25 e26
        refine Eff.then ?_ (State.commitRow_eff _ _ _ _) (by decide)
        exact h4
      · rename_i v27 e28
        exact h4
  · rename_i v29 e30
    refine Eff.ite ?_ ?_
    · refine Eff.then ?_ (State.mirStage_eff _ _ _) (by decide)
      exact h4
    · refine Eff.then ?_ (State.mirRecord_eff _ _) (by decide)
      exact h4
  · rename_i v31 e32
    refine Eff.then ?_ (State.markRetire_eff _ _ _) (by decide)
    refine Eff.then ?_ (State.mirLock_eff _ _) (by decide)
    exact h4
  · rename_i v33 e34
    refine Eff.then ?_ (State.mirPrepare_eff _ _) (by decide)
    exact h4
  · rename_i v35 e36
    refine Eff.ite ?_ ?_
    · refine Eff.then ?_ (State.mirLockCommit_eff _ _) (by decide)
      exact h4
    · refine Eff.then ?_ (State.mirLoad_eff _ _) (by decide)
      exact h4
  · rename_i v37 e38
    refine Eff.then ?_ (State.commitDiscard_eff _ _) (by decide)
    exact h4
  · rename_i v39 e40
    refine Eff.ite ?_ ?_
    · refine Eff.then ?_ (State.putState_eff _ _ _) (by decide)
      exact h5
    · exact h5
  · rename_i v41 e42
    refine Eff.then ?_ (State.putState_eff _ _ _) (by decide)
    exact h4
  · rename_i v43 e44
    refine Eff.then ?_ (State.mirPrefix_eff _ _) (by decide)
    exact h4
  · rename_i v45 e46
    refine Eff.then ?_ (State.mirPrefix_eff _ _) (by decide)
    exact h4
  · rename_i v47 e48
    refine Eff.then ?_ (State.setDword_eff _ _ _) (by decide)
    exact h4

theorem State.mirCommit_eff (s : State) (a1) :
    Eff 404356942 s (State.mirCommit s a1) := by
  unfold State.mirCommit
  extract_lets -merge x0 x1 x2 x3 x4 x5 x6
  clear_value x0
  clear_value x1
  clear_value x2
  clear_value x3
  have h7 : Eff 404356942 s x4 := by
    subst x4
    refine Eff.then ?_ (upd_arb _ _) (by decide)
    exact Eff.refl
  clear_value x4
  have h8 : Eff 404356942 s x5 := by
    subst x5
    refine Eff.then ?_ (State.updPair_eff _ _) (by decide)
    exact h7
  clear_value x5
  have h9 : Eff 404356942 s x6 := by
    subst x6
    refine Eff.foldl ?_ ?_
    · exact h8
    · intro p10 p11 h12
      try beta_reduce
      refine Eff.ite ?_ ?_
      · refine Eff.then ?_ (State.mirApply_eff _ _ _) (by decide)
        refine Eff.then ?_ (State.updPair_eff _ _) (by decide)
        exact h12
      · exact h12
  clear_value x6
  refine Eff.then ?_ (State.mirApplied_eff _ _ _) (by decide)
  refine Eff.then ?_ (State.mirApply_eff _ _ _) (by decide)
  exact h9

theorem State.joinTake_eff (s : State) (a1) :
    Eff 404356942 s (State.joinTake s a1) := by
  unfold State.joinTake
  extract_lets -merge x0 x1 x2 x3
  clear_value x0
  clear_value x1
  have h4 : Eff 404356942 s x2 := by
    subst x2
    refine Eff.then ?_ (State.mirDropRelocsOf_eff _ _ _) (by decide)
    exact Eff.refl
  clear_value x2
  have h5 : Eff 404356942 s x3.2 := by
    subst x3
    refine Eff.then ?_ (State.mirArrOp_eff _ _) (by decide)
    exact h4
  clear_value x3
  refine Eff.ite ?_ ?_
  · exact Eff.refl
  · split
    · rename_i v6 v7 e8
      refine Eff.then ?_ (State.enqOp_eff _ _ _) (by decide)
      exact h5
    · rename_i v9 e10
      refine Eff.then ?_ (State.mirApply_eff _ _ _) (by decide)
      refine Eff.then ?_ (State.updPair_eff _ _) (by decide)
      exact h5

theorem State.joinStep_eff (s : State) :
    Eff 404356942 s (State.joinStep s) := by
  unfold State.joinStep
  refine Eff.foldl ?_ ?_
  · exact Eff.refl
  · intro p0 p1 h2
    try beta_reduce
    refine Eff.then ?_ (State.joinTake_eff _ _) (by decide)
    exact h2

theorem State.joinIn_eff (s : State) (a1) :
    Eff 134217744 s (State.joinIn s a1) := by
  unfold State.joinIn
  extract_lets -merge x0 x1
  clear_value x0
  clear_value x1
  refine Eff.then ?_ (upd_ids_pair _ _ _) (by decide)
  exact Eff.refl

theorem State.mirNext_eff (s : State) :
    Eff 404356942 s (State.mirNext s) := by
  unfold State.mirNext
  split
  · rename_i v0 v1 e2
    refine Eff.then ?_ (State.mirCommit_eff _ _) (by decide)
    exact Eff.refl
  · rename_i v3 e4
    exact Eff.refl

theorem execMirOpCommit_eff (s : State) :
    EffX 404356942 s (execMirOpCommit s) := by
  unfold execMirOpCommit
  refine whileUp_eff ?_ ?_
  · exact Eff.refl
  · intro p0 h1
    try beta_reduce
    refine Eff.then ?_ (State.mirNext_eff _) (by decide)
    exact h1

theorem State.mirOpen_eff (s : State) (n : Nat) : Eff 404356942 s (State.mirOpen s n) := by
  induction n generalizing s with
  | zero => exact Eff.refl
  | succ n ih =>
    unfold State.mirOpen
    split
    · exact Eff.ite Eff.refl (Eff.then (Eff.then Eff.refl (State.mirCommit_eff s _) (by decide)) (ih _) (by decide))
    · exact Eff.refl

theorem State.mirAll_eff (s : State) (n : Nat) : Eff 404356942 s (State.mirAll s n) := by
  induction n generalizing s with
  | zero => exact Eff.refl
  | succ n ih =>
    unfold State.mirAll
    split
    · exact Eff.then (Eff.then Eff.refl (State.mirCommit_eff s _) (by decide)) (ih _) (by decide)
    · exact Eff.refl

theorem execMirOp_eff (a0) (s : State) :
    EffX 404270942 s (execMirOp a0 s) := by
  unfold execMirOp
  refine whileUp_eff ?_ ?_
  · exact Eff.refl
  · intro p0 h1
    try beta_reduce
    refine State.when_eff ?_ ?_
    · exact h1
    · intro p2 h3
      try beta_reduce
      refine Eff.ite ?_ ?_
      · refine Eff.then ?_ (State.joinIn_eff _ _) (by decide)
        exact h3
      · refine State.when_eff ?_ ?_
        · exact h3
        · intro p4 h5
          try beta_reduce
          refine Eff.then ?_ (State.mirReserve_eff _ _) (by decide)
          exact h5

theorem execResyncRow_eff (a0) (s : State) :
    EffX 134217744 s (execResyncRow a0 s) := by
  unfold execResyncRow
  refine whileUp_eff ?_ ?_
  · exact Eff.refl
  · intro p0 h1
    try beta_reduce
    refine State.when_eff ?_ ?_
    · exact h1
    · intro p2 h3
      try beta_reduce
      refine Eff.then ?_ (State.joinIn_eff _ _) (by decide)
      exact h3

theorem State.mirReadyIn_eff (s : State) (a1) (a2) :
    Eff 33792 s (State.mirReadyIn s a1 a2) := by
  unfold State.mirReadyIn
  extract_lets -merge x0 x1 x2 x3
  clear_value x0
  clear_value x1
  have h4 : Eff 33792 s x2 := by
    subst x2
    refine Eff.then ?_ (State.updTb_eff _ _ _) (by decide)
    exact Eff.refl
  clear_value x2
  clear_value x3
  split
  · rename_i v5 v6 e7
    refine Eff.ite ?_ ?_
    · extract_lets -merge x8
      clear_value x8
      refine Eff.then ?_ (upd_trie _ _) (by decide)
      exact h4
    · exact h4
  · rename_i v9 e10
    exact h4

theorem execMirReady_eff (a0) (a1) (s : State) :
    EffX 33792 s (execMirReady a0 a1 s) := by
  unfold execMirReady
  refine whileUp_eff ?_ ?_
  · exact Eff.refl
  · intro p0 h1
    try beta_reduce
    refine State.when_eff ?_ ?_
    · exact h1
    · intro p2 h3
      try beta_reduce
      refine Eff.then ?_ (State.mirReadyIn_eff _ _ _) (by decide)
      exact h3

theorem State.appliedIn_eff (s : State) (a1) (a2) :
    Eff 135268424 s (State.appliedIn s a1 a2) := by
  unfold State.appliedIn
  extract_lets -merge x0 x1 x2 x3
  have h4 : Eff 135268424 s x0 := by
    subst x0
    refine Eff.then ?_ (State.cover_eff _ _ _) (by decide)
    exact Eff.refl
  clear_value x0
  clear_value x1
  clear_value x2
  have h5 : Eff 135268424 s x3 := by
    subst x3
    refine Eff.then ?_ (State.updPair_eff _ _) (by decide)
    exact h4
  clear_value x3
  refine Eff.foldl ?_ ?_
  · exact h5
  · intro p6 p7 h8
    try beta_reduce
    refine Eff.then ?_ (State.resolve_eff _ _ _) (by decide)
    exact h8

theorem execApplied_eff (a0) (a1) (a2) (s : State) :
    EffX 135268424 s (execApplied a0 a1 a2 s) := by
  unfold execApplied
  refine whileUp_eff ?_ ?_
  · exact Eff.refl
  · intro p0 h1
    try beta_reduce
    refine State.when_eff ?_ ?_
    · exact h1
    · intro p2 h3
      try beta_reduce
      refine Eff.then ?_ (State.appliedIn_eff _ _ _) (by decide)
      exact h3

theorem State.freeRowImage_eff (s : State) (a1) (a2) :
    Eff 2 s (State.freeRowImage s a1 a2).2 := by
  unfold State.freeRowImage
  extract_lets -merge x0 x1 x2
  have h3 : Eff 2 s x0.2 := by
    subst x0
    refine EffR.foldl ?_ ?_
    · exact Eff.refl
    · intro p4 p5 h6
      try beta_reduce
      extract_lets -merge x7
      have h8 : Eff 2 s x7.2 := by
        subst x7
        refine Eff.then ?_ (State.free_eff _) (by decide)
        exact h6
      clear_value x7
      exact h8
  clear_value x0
  have h9 : Eff 2 s x1.2 := by
    subst x1
    refine Eff.then ?_ (State.free_eff _) (by decide)
    exact h3
  clear_value x1
  have h10 : Eff 2 s x2.2 := by
    subst x2
    refine Eff.then ?_ (State.free_eff _) (by decide)
    exact h9
  clear_value x2
  exact h10

theorem State.holdFar_eff (s : State) (a1) (a2) :
    Eff 1024 s (State.holdFar s a1 a2) := by
  unfold State.holdFar
  refine Eff.then ?_ (State.updLock_eff _ _ _) (by decide)
  refine Eff.then ?_ (State.mirLock_eff _ _) (by decide)
  exact Eff.refl

theorem State.mutDoneIn_eff (s : State) (a1) (a2) (a3) :
    Eff 135277834 s (State.mutDoneIn s a1 a2 a3) := by
  unfold State.mutDoneIn
  split
  · rename_i v0 e1
    exact Eff.refl
  · rename_i v2 v3 e4
    extract_lets -merge x5 x6
    have h7 : Eff 135277834 s x5 := by
      subst x5
      refine Eff.then ?_ (State.updPair_eff _ _) (by decide)
      exact Eff.refl
    clear_value x5
    clear_value x6
    split
    · rename_i v8 e9
      exact h7
    · rename_i v10 v11 e12
      extract_lets -merge x13
      clear_value x13
      refine Eff.ite ?_ ?_
      · refine Eff.then ?_ (State.updPair_eff _ _) (by decide)
        exact h7
      · split
        · rename_i v14 v15 v16 e17
          refine Eff.ite ?_ ?_
          · refine Eff.then ?_ (State.lockTable_eff _ _ _ _ _) (by decide)
            exact h7
          · refine Eff.ite ?_ ?_
            · refine Eff.then ?_ (State.commitTable_eff _ _ _ _) (by decide)
              exact h7
            · refine Eff.ite ?_ ?_
              · refine Eff.then ?_ (State.abandonTable_eff _ _ _ _) (by decide)
                exact h7
              · refine Eff.ite ?_ ?_
                · refine Eff.then ?_ (State.resolve_eff _ _ _) (by decide)
                  refine Eff.then ?_ (State.holdFar_eff _ _ _) (by decide)
                  exact h7
                · refine Eff.ite ?_ ?_
                  · extract_lets -merge x18
                    have h19 : Eff 135277834 s x18.2 := by
                      subst x18
                      refine Eff.then ?_ (State.freeRowImage_eff _ _ _) (by decide)
                      exact h7
                    clear_value x18
                    refine Eff.then ?_ (State.resolve_eff _ _ _) (by decide)
                    exact h19
                  · refine Eff.then ?_ (State.resolve_eff _ _ _) (by decide)
                    exact h7
        · rename_i v20 e21
          refine Eff.then ?_ (State.resolve_eff _ _ _) (by decide)
          exact h7

theorem execMutDone_eff (a0) (a1) (a2) (s : State) :
    EffX 135277834 s (execMutDone a0 a1 a2 s) := by
  unfold execMutDone
  refine whileUp_eff ?_ ?_
  · exact Eff.refl
  · intro p0 h1
    try beta_reduce
    refine State.when_eff ?_ ?_
    · exact h1
    · intro p2 h3
      try beta_reduce
      refine Eff.then ?_ (State.mutDoneIn_eff _ _ _ _) (by decide)
      exact h3

theorem State.runFwd_eff (s : State) (a1) :
    EffO 442088798 s (State.runFwd s a1) := by
  unfold State.runFwd
  extract_lets -merge x0 x1 x2 x3
  clear_value x0
  clear_value x1
  clear_value x2
  clear_value x3
  split
  · rename_i v4 e5
    exact EffO.none
  · rename_i v6 e7
    refine EffO.some ?_
    refine Eff.then ?_ (State.resolve_eff _ _ _) (by decide)
    exact Eff.refl
  · rename_i v8 e9
    split
    · rename_i v10 e11
      refine EffO.then ?_ (State.doInsert_eff _ _ _ _) (by decide)
      exact Eff.refl
    · rename_i v12 e13
      refine EffO.then ?_ (State.doUpdate_eff _ _ _ _) (by decide)
      exact Eff.refl
    · rename_i v14 e15
      refine EffO.then ?_ (State.doDelete_eff _ _ _ _) (by decide)
      exact Eff.refl
    · rename_i v16 e17
      refine EffO.then ?_ (State.doRead_eff _ _ _ _) (by decide)
      exact Eff.refl
    · rename_i v18 e19
      refine EffO.then ?_ (State.doLearn_eff _ _ _ _) (by decide)
      exact Eff.refl
    · rename_i v20 e21
      refine EffO.some ?_
      refine Eff.then ?_ (State.doLock_eff _ _ _ _) (by decide)
      exact Eff.refl
    · rename_i v22 e23
      refine EffO.some ?_
      refine Eff.then ?_ (State.doCommit_eff _ _ _ _) (by decide)
      exact Eff.refl
    · rename_i v24 e25
      refine EffO.some ?_
      refine Eff.then ?_ (State.doAbandon_eff _ _ _ _) (by decide)
      exact Eff.refl
    · rename_i v26 e27
      refine State.bulkLoad_eff ?_ ?_
      · exact Eff.refl
      · intro p28 h29
        try beta_reduce
        refine Eff.then ?_ (State.resolve_eff _ _ _) (by decide)
        exact h29
    · rename_i v30 e31
      refine EffO.then ?_ (State.setProfile_eff _ _ _) (by decide)
      exact Eff.refl
    · rename_i v32 e33
      refine EffO.some ?_
      refine Eff.then ?_ (State.moveState_eff _ _ _ _) (by decide)
      exact Eff.refl
    · rename_i v34 e35
      refine EffO.some ?_
      refine Eff.then ?_ (State.moveState_eff _ _ _ _) (by decide)
      exact Eff.refl
    · rename_i v36 e37
      refine EffO.some ?_
      refine Eff.then ?_ (State.moveState_eff _ _ _ _) (by decide)
      exact Eff.refl
    · rename_i v38 e39 e40 e41 e42 e43 e44 e45 e46 e47 e48 e49 e50 e51
      refine EffO.some ?_
      refine Eff.then ?_ (State.resolve_eff _ _ _) (by decide)
      exact Eff.refl

theorem State.fwdRetry_eff (s : State) :
    Eff 442088798 s (State.fwdRetry s) := by
  unfold State.fwdRetry
  refine Eff.foldl ?_ ?_
  · refine Eff.then ?_ (State.updPair_eff _ _) (by decide)
    exact Eff.refl
  · intro p0 p1 h2
    try beta_reduce
    split
    · rename_i v3 v4 e5
      have h6 : Eff 442088798 s v4 := by
        refine EffO.at e5 ?_
        refine EffO.then ?_ (State.runFwd_eff _ _) (by decide)
        exact h2
      exact h6
    · rename_i v7 e8
      refine Eff.then ?_ (State.updPair_eff _ _) (by decide)
      exact h2

theorem execFwdMut_eff (a0) (a1) (a2) (a3) (a4) (s : State) :
    EffX 442088798 s (execFwdMut a0 a1 a2 a3 a4 s) := by
  unfold execFwdMut
  refine whileUp_eff ?_ ?_
  · exact Eff.refl
  · intro p0 h1
    try beta_reduce
    refine State.when_eff ?_ ?_
    · exact h1
    · intro p2 h3
      try beta_reduce
      refine Eff.then ?_ (State.fwdRetry_eff _) (by decide)
      refine Eff.then ?_ (State.updPair_eff _ _) (by decide)
      exact h3

theorem State.memAckIn_eff (s : State) (a1) :
    Eff 134217732 s (State.memAckIn s a1) := by
  unfold State.memAckIn
  split
  · rename_i v0 v1 e2
    refine Eff.then ?_ (State.cmpWait_eff _ _) (by decide)
    refine Eff.then ?_ (State.updPair_eff _ _) (by decide)
    exact Eff.refl
  · rename_i v3 e4
    exact Eff.refl

theorem execMemAck_eff (a0) (s : State) :
    EffX 134217732 s (execMemAck a0 s) := by
  unfold execMemAck
  refine whileUp_eff ?_ ?_
  · exact Eff.refl
  · intro p0 h1
    try beta_reduce
    refine State.when_eff ?_ ?_
    · exact h1
    · intro p2 h3
      try beta_reduce
      refine Eff.then ?_ (State.memAckIn_eff _ _) (by decide)
      exact h3

theorem execMemWrMsg_eff (a0) (a1) (a2) (a3) (a4) (s : State) :
    EffX 449347652 s (execMemWrMsg a0 a1 a2 a3 a4 s) := by
  unfold execMemWrMsg
  refine whileUp_eff ?_ ?_
  · exact Eff.refl
  · intro p0 h1
    try beta_reduce
    refine State.when_eff ?_ ?_
    · exact h1
    · intro p2 h3
      try beta_reduce
      refine Eff.then ?_ (State.memWrIn_eff _ _) (by decide)
      refine Eff.then ?_ (State.probePage_eff _ _) (by decide)
      exact h3

theorem State.putBlock_eff (s : State) (a1) (a2) (a3) :
    Eff 315097156 s (State.putBlock s a1 a2 a3) := by
  unfold State.putBlock
  refine Eff.foldl ?_ ?_
  · exact Eff.refl
  · intro p0 p1 h2
    try beta_reduce
    extract_lets -merge x3 x4 x5
    clear_value x3
    have h6 : Eff 315097156 s x4.1 := by
      subst x4
      refine Eff.then ?_ (State.writePage_eff _ _ _ _ _ _) (by decide)
      exact h2
    clear_value x4
    clear_value x5
    split
    · rename_i v7 e8
      exact h6
    · rename_i v9 e10
      refine Eff.then ?_ (State.holdReq_eff _ _ _) (by decide)
      exact h6
    · rename_i v11 e12
      refine Eff.then ?_ (State.zeroHold_eff _ _ _) (by decide)
      exact h6

theorem execResyncBlock_eff (a0) (a1) (a2) (s : State) :
    EffX 315129924 s (execResyncBlock a0 a1 a2 s) := by
  unfold execResyncBlock
  refine whileUp_eff ?_ ?_
  · exact Eff.refl
  · intro p0 h1
    try beta_reduce
    refine State.when_eff ?_ ?_
    · exact h1
    · intro p2 h3
      try beta_reduce
      refine Eff.then ?_ (State.putBlock_eff _ _ _ _) (by decide)
      refine Eff.then ?_ (State.probePage_eff _ _) (by decide)
      exact h3

theorem State.rdrServe_eff (s : State) (a1) (a2) (a3) :
    Eff 449347654 s (State.rdrServe s a1 a2 a3) := by
  unfold State.rdrServe
  extract_lets -merge x0 x1 x2 x3
  have h4 : Eff 449347654 s x0 := by
    subst x0
    refine Eff.then ?_ (State.probePage_eff _ _) (by decide)
    exact Eff.refl
  clear_value x0
  have h5 : Eff 449347654 s x1.1 := by
    subst x1
    refine Eff.then ?_ (State.writePage_eff _ _ _ _ _ _) (by decide)
    exact h4
  clear_value x1
  have h6 : Eff 449347654 s x2 := by
    subst x2
    split
    · rename_i v7 e8
      exact h5
    · rename_i v9 e10
      refine Eff.then ?_ (State.putLine_eff _ _ _ _) (by decide)
      exact h4
  clear_value x2
  have h11 : Eff 449347654 s x3 := by
    subst x3
    refine Eff.then ?_ (State.readLine_eff _ _ _ _) (by decide)
    exact h4
  clear_value x3
  refine Eff.ite ?_ ?_
  · refine Eff.then ?_ (State.linkSend_eff _ _) (by decide)
    exact h6
  · refine Eff.then ?_ (State.linkSend_eff _ _) (by decide)
    exact h11

theorem execRdrReq_eff (a0) (a1) (a2) (s : State) :
    EffX 449347654 s (execRdrReq a0 a1 a2 s) := by
  unfold execRdrReq
  refine whileUp_eff ?_ ?_
  · exact Eff.refl
  · intro p0 h1
    try beta_reduce
    refine State.when_eff ?_ ?_
    · exact h1
    · intro p2 h3
      try beta_reduce
      refine Eff.then ?_ (State.rdrServe_eff _ _ _ _) (by decide)
      exact h3

theorem State.rdrDone_eff (s : State) (a1) (a2) (a3) :
    Eff 134217734 s (State.rdrDone s a1 a2 a3) := by
  unfold State.rdrDone
  split
  · rename_i v0 e1
    exact Eff.refl
  · rename_i v2 v3 e4
    extract_lets -merge x5
    have h6 : Eff 134217734 s x5 := by
      subst x5
      refine Eff.then ?_ (State.updPair_eff _ _) (by decide)
      exact Eff.refl
    clear_value x5
    split
    · rename_i v7 v8 e9
      refine Eff.ite ?_ ?_
      · refine Eff.then ?_ (State.answerCmp_eff _ _ _ _ _) (by decide)
        exact h6
      · split
        · rename_i v10 v11
          refine Eff.then ?_ (State.answerData_eff _ _ _ _ _ _) (by decide)
          exact h6
        · rename_i v12
          refine Eff.then ?_ (State.answerDead_eff _ _) (by decide)
          exact h6
    · rename_i v13 e14
      exact h6

theorem execRdrRsp_eff (a0) (a1) (a2) (s : State) :
    EffX 134217734 s (execRdrRsp a0 a1 a2 s) := by
  unfold execRdrRsp
  refine whileUp_eff ?_ ?_
  · exact Eff.refl
  · intro p0 h1
    try beta_reduce
    refine State.when_eff ?_ ?_
    · exact h1
    · intro p2 h3
      try beta_reduce
      refine Eff.then ?_ (State.rdrDone_eff _ _ _ _) (by decide)
      exact h3

theorem State.sendPage_eff (s : State) (a1) (a2) :
    Eff 440959046 s (State.sendPage s a1 a2) := by
  unfold State.sendPage
  refine Eff.foldl ?_ ?_
  · refine Eff.then ?_ (State.readCheck_eff _ _ _ _ _) (by decide)
    exact Eff.refl
  · intro p0 p1 h2
    try beta_reduce
    refine Eff.then ?_ (State.linkSend_eff _ _) (by decide)
    exact h2

theorem execPageReq_eff (a0) (s : State) :
    EffX 440959046 s (execPageReq a0 s) := by
  unfold execPageReq
  refine whileUp_eff ?_ ?_
  · exact Eff.refl
  · intro p0 h1
    try beta_reduce
    refine State.when_eff ?_ ?_
    · exact h1
    · intro p2 h3
      try beta_reduce
      refine Eff.then ?_ (State.sendPage_eff _ _ _) (by decide)
      exact h3

theorem State.pageBlockIn_eff (s : State) (a1) (a2) (a3) :
    Eff 478150656 s (State.pageBlockIn s a1 a2 a3) := by
  unfold State.pageBlockIn
  split
  · rename_i v0 e1
    exact Eff.refl
  · rename_i v2 v3 e4
    refine Eff.ite ?_ ?_
    · exact Eff.refl
    · extract_lets -merge x5 x6 x7 x8 x9 x10 x11
      clear_value x5
      have h12 : Eff 478150656 s x6 := by
        subst x6
        refine Eff.foldl ?_ ?_
        · exact Eff.refl
        · intro p13 p14 h15
          try beta_reduce
          refine Eff.then ?_ (State.setPoison_eff _ _ _) (by decide)
          refine Eff.then ?_ (State.setLine_eff _ _ _) (by decide)
          exact h15
      clear_value x6
      clear_value x7
      clear_value x8
      clear_value x9
      clear_value x10
      have h16 : Eff 478150656 s x11 := by
        subst x11
        refine Eff.then ?_ (upd_trn _ _) (by decide)
        exact h12
      clear_value x11
      refine Eff.ite ?_ ?_
      · refine Eff.then ?_ (upd_trn _ _) (by decide)
        exact h12
      · split
        · rename_i v17 v18 v19
          refine Eff.then ?_ (State.linkSend_eff _ _) (by decide)
          exact h16
        · rename_i v20
          exact h16

theorem execPageBlock_eff (a0) (a1) (a2) (s : State) :
    EffX 478150656 s (execPageBlock a0 a1 a2 s) := by
  unfold execPageBlock
  refine whileUp_eff ?_ ?_
  · exact Eff.refl
  · intro p0 h1
    try beta_reduce
    refine State.when_eff ?_ ?_
    · exact h1
    · intro p2 h3
      try beta_reduce
      refine Eff.then ?_ (State.pageBlockIn_eff _ _ _ _) (by decide)
      exact h3

theorem State.regionsIn_eff (s : State) (a1) :
    Eff 402653252 s (State.regionsIn s a1) := by
  unfold State.regionsIn
  refine Eff.ite ?_ ?_
  · refine Eff.ite ?_ ?_
    · extract_lets -merge x0 x1
      have h2 : Eff 402653252 s x0 := by
        subst x0
        refine Eff.then ?_ (State.setF_eff _ _ _) (by decide)
        refine Eff.then ?_ (State.setF_eff _ _ _) (by decide)
        exact Eff.refl
      clear_value x0
      have h3 : Eff 402653252 s x1 := by
        subst x1
        refine Eff.then ?_ (State.setPst_eff _ _) (by decide)
        exact h2
      clear_value x1
      refine Eff.then ?_ (State.linkSend_eff _ _) (by decide)
      exact h3
    · refine Eff.then ?_ (State.putRegions_eff _ _) (by decide)
      exact Eff.refl
  · refine Eff.ite ?_ ?_
    · refine Eff.then ?_ (State.putRegions_eff _ _) (by decide)
      exact Eff.refl
    · exact Eff.refl

theorem execRegionList_eff (a0) (s : State) :
    EffX 402653252 s (execRegionList a0 s) := by
  unfold execRegionList
  refine whileUp_eff ?_ ?_
  · exact Eff.refl
  · intro p0 h1
    try beta_reduce
    refine State.when_eff ?_ ?_
    · exact h1
    · intro p2 h3
      try beta_reduce
      refine Eff.then ?_ (State.regionsIn_eff _ _) (by decide)
      exact h3

theorem State.resyncFrame_eff (s : State) (a1) :
    Eff 134217728 s (State.resyncFrame s a1) := by
  unfold State.resyncFrame
  refine Eff.then ?_ (State.linkSend_eff _ _) (by decide)
  refine Eff.then ?_ (State.updPair_eff _ _) (by decide)
  exact Eff.refl

theorem State.resyncNext_eff (s : State) :
    Eff 134217984 s (State.resyncNext s) := by
  unfold State.resyncNext
  split
  · rename_i v0 e1
    exact Eff.refl
  · rename_i v2 v3 v4 e5
    refine Eff.ite ?_ ?_
    · refine Eff.then ?_ (State.resyncFrame_eff _ _) (by decide)
      exact Eff.refl
    · extract_lets -merge x6
      clear_value x6
      split
      · rename_i v7 v8 v9 e10
        refine Eff.ite ?_ ?_
        · refine Eff.then ?_ (State.resyncFrame_eff _ _) (by decide)
          refine Eff.then ?_ (State.dropFlight_eff _ _) (by decide)
          exact Eff.refl
        · exact Eff.refl
      · rename_i v11 v12 v13 e14 e15
        refine Eff.ite ?_ ?_
        · exact Eff.refl
        · refine Eff.then ?_ (State.enqOp_eff _ _ _) (by decide)
          exact Eff.refl
      · rename_i v16 v17 e18 e19
        refine Eff.ite ?_ ?_
        · exact Eff.refl
        · refine Eff.then ?_ (State.resyncFrame_eff _ _) (by decide)
          exact Eff.refl

theorem State.resyncSend_eff (s : State) :
    Eff 440959302 s (State.resyncSend s) := by
  unfold State.resyncSend
  extract_lets -merge x0 x1
  have h2 : Eff 440959302 s x0 := by
    subst x0
    refine Eff.then ?_ (State.resyncNext_eff _) (by decide)
    exact Eff.refl
  clear_value x0
  have h3 : Eff 440959302 s x1 := by
    subst x1
    split
    · rename_i v4 v5 v6 e7
      refine Eff.ite ?_ ?_
      · exact h2
      · extract_lets -merge x8
        have h9 : Eff 440959302 s x8 := by
          subst x8
          refine Eff.then ?_ (State.updPair_eff _ _) (by decide)
          exact h2
        clear_value x8
        refine Eff.then ?_ (State.sendPage_eff _ _ _) (by decide)
        exact h9
    · rename_i v10 e11
      exact h2
  clear_value x1
  refine Eff.then ?_ (State.showResync_eff _) (by decide)
  exact h3

theorem State.journalClear_eff (s : State) :
    Eff 134217792 s (State.journalClear s) := by
  unfold State.journalClear
  extract_lets -merge x0
  have h1 : Eff 134217792 s x0 := by
    subst x0
    refine Eff.then ?_ (State.updPair_eff _ _) (by decide)
    exact Eff.refl
  clear_value x0
  refine Eff.then ?_ (State.setF_eff _ _ _) (by decide)
  refine Eff.then ?_ (State.setF_eff _ _ _) (by decide)
  refine Eff.then ?_ (State.setF_eff _ _ _) (by decide)
  exact h1

theorem State.resyncTick_eff (s : State) :
    Eff 440959302 s (State.resyncTick s) := by
  unfold State.resyncTick
  extract_lets -merge x0 x1 x2
  have h3 : Eff 440959302 s x0 := by
    subst x0
    split
    · rename_i v4 v5 e6
      refine Eff.ite ?_ ?_
      · refine Eff.then ?_ (State.updPair_eff _ _) (by decide)
        refine Eff.then ?_ (State.raise_eff _ _ _ _) (by decide)
        exact Eff.refl
      · exact Eff.refl
    · rename_i v7 e8
      exact Eff.refl
  clear_value x0
  have h9 : Eff 440959302 s x1 := by
    subst x1
    refine Eff.then ?_ (State.setPst_eff _ _) (by decide)
    refine Eff.then ?_ (State.setF_eff _ _ _) (by decide)
    refine Eff.then ?_ (State.setF_eff _ _ _) (by decide)
    exact h3
  clear_value x1
  have h10 : Eff 440959302 s x2 := by
    subst x2
    refine Eff.then ?_ (State.updPair_eff _ _) (by decide)
    refine Eff.then ?_ (State.journalClear_eff _) (by decide)
    exact h9
  clear_value x2
  refine Eff.ite ?_ ?_
  · exact h3
  · refine Eff.ite ?_ ?_
    · refine Eff.then ?_ (State.linkSend_eff _ _) (by decide)
      exact h10
    · refine Eff.then ?_ (State.resyncSend_eff _) (by decide)
      exact h3

theorem State.resyncEnd_eff (s : State) (a1) :
    Eff 403177540 s (State.resyncEnd s a1) := by
  unfold State.resyncEnd
  extract_lets -merge x0
  have h1 : Eff 403177540 s x0 := by
    subst x0
    refine Eff.then ?_ (State.setF_eff _ _ _) (by decide)
    refine Eff.then ?_ (State.setF_eff _ _ _) (by decide)
    refine Eff.then ?_ (State.setF_eff _ _ _) (by decide)
    exact Eff.refl
  clear_value x0
  refine Eff.then ?_ (State.raise_eff _ _ _ _) (by decide)
  refine Eff.then ?_ (State.setPst_eff _ _) (by decide)
  refine Eff.then ?_ (State.journalClear_eff _) (by decide)
  exact h1

theorem execResyncDone_eff (a0) (s : State) :
    EffX 403177540 s (execResyncDone a0 s) := by
  unfold execResyncDone
  refine whileUp_eff ?_ ?_
  · exact Eff.refl
  · intro p0 h1
    try beta_reduce
    refine State.when_eff ?_ ?_
    · exact h1
    · intro p2 h3
      try beta_reduce
      refine Eff.then ?_ (State.resyncEnd_eff _ _) (by decide)
      exact h3

end Sys2Proof.Machine
end

