-- ==== Sys2Proof/Laws/EffRas.lean ====
section
/-! SUPPORT. What the functions of Machine/Ras.lean may change: bit i of a mask is component i of `Comp.idx`.
The theorems are checked one after another: each is small, and the joined text has many. -/

set_option Elab.async false

namespace Sys2Proof.Machine

theorem State.takeSpare_eff (s : State) :
    Eff 268435520 s (State.takeSpare s).2 := by
  unfold State.takeSpare
  split
  · rename_i v0 e1
    exact Eff.refl
  · rename_i v2 v3 v4 e5
    refine Eff.then ?_ (State.setF_eff _ _ _) (by decide)
    refine Eff.then ?_ (State.updRas_eff _ _) (by decide)
    exact Eff.refl

theorem State.blockFailing_eff (s : State) (a1) (a2) :
    Eff 268959812 s (State.blockFailing s a1 a2) := by
  unfold State.blockFailing
  refine Eff.ite ?_ ?_
  · exact Eff.refl
  · extract_lets -merge x0 x1 x2 x3 x4 x5
    clear_value x0
    have h6 : Eff 268959812 s x1 := by
      subst x1
      refine Eff.then ?_ (State.updRas_eff _ _) (by decide)
      exact Eff.refl
    clear_value x1
    have h7 : Eff 268959812 s x2 := by
      subst x2
      refine Eff.then ?_ (State.raise_eff _ _ _ _) (by decide)
      exact h6
    clear_value x2
    clear_value x3
    have h8 : Eff 268959812 s x4.2 := by
      subst x4
      refine Eff.then ?_ (State.takeSpare_eff _) (by decide)
      exact h7
    clear_value x4
    have h9 : ∀ p0 p1, Eff 268959812 s p0 → Eff 268959812 s (x5 p0 p1) := by
      subst x5
      intro p10 p11 h12
      try beta_reduce
      refine Eff.then ?_ (State.updRas_eff _ _) (by decide)
      exact h12
    clear_value x5
    split
    · rename_i v13 v14 v15 e16
      refine h9 _ _ ?_
      exact h8
    · rename_i v17 v18 e19
      refine h9 _ _ ?_
      exact h8
    · rename_i v20 v21 v22 v23 e24
      refine Eff.then ?_ (State.updRas_eff _ _) (by decide)
      exact h8
    · rename_i v25 v26 v27 e28
      refine h9 _ _ ?_
      exact h8

theorem State.physFailed_eff (s : State) (a1) :
    Eff 268435520 s (State.physFailed s a1) := by
  unfold State.physFailed
  refine Eff.then ?_ (State.setF_eff _ _ _) (by decide)
  refine Eff.then ?_ (State.updRas_eff _ _) (by decide)
  exact Eff.refl

theorem State.inService_eff (s : State) (a1) (a2) (a3) :
    Eff 268435520 s (State.inService s a1 a2 a3) := by
  unfold State.inService
  extract_lets -merge x0 x1
  have h2 : Eff 268435520 s x0 := by
    subst x0
    refine Eff.then ?_ (State.setF_eff _ _ _) (by decide)
    exact Eff.refl
  clear_value x0
  have h3 : Eff 268435520 s x1 := by
    subst x1
    refine Eff.then ?_ (State.physFailed_eff _ _) (by decide)
    refine Eff.then ?_ (State.setF_eff _ _ _) (by decide)
    refine Eff.then ?_ (State.setF_eff _ _ _) (by decide)
    exact h2
  clear_value x1
  refine Eff.then ?_ (State.updRas_eff _ _) (by decide)
  exact h3

theorem State.leaveBlock_eff (s : State) (a1) :
    Eff 268436224 s (State.leaveBlock s a1) := by
  unfold State.leaveBlock
  extract_lets -merge x0 x1 x2 x3
  clear_value x0
  have h4 : Eff 268436224 s x1 := by
    subst x1
    refine Eff.then ?_ (State.dropOps_eff _ _) (by decide)
    refine Eff.then ?_ (State.cutFlights_eff _ _) (by decide)
    exact Eff.refl
  clear_value x1
  clear_value x2
  have h5 : Eff 268436224 s x3 := by
    subst x3
    refine Eff.then ?_ (upd_arb _ _) (by decide)
    exact h4
  clear_value x3
  refine Eff.then ?_ (State.updRas_eff _ _) (by decide)
  exact h5

theorem State.logicalFailed_eff (s : State) (a1) (a2) :
    Eff 268436288 s (State.logicalFailed s a1 a2) := by
  unfold State.logicalFailed
  extract_lets -merge x0
  have h1 : Eff 268436288 s x0 := by
    subst x0
    refine Eff.then ?_ (State.setReg_eff _ _ _) (by decide)
    refine Eff.then ?_ (State.leaveBlock_eff _ _) (by decide)
    exact Eff.refl
  clear_value x0
  refine Eff.then ?_ (State.physFailed_eff _ _) (by decide)
  refine Eff.then ?_ (State.setF_eff _ _ _) (by decide)
  exact h1

theorem State.endInBlock_eff (s : State) (a1) :
    Eff 135277320 s (State.endInBlock s a1) := by
  unfold State.endInBlock
  extract_lets -merge x0 x1 x2 x3
  clear_value x0
  clear_value x1
  have h4 : Eff 135277320 s x2 := by
    subst x2
    refine Eff.then ?_ (State.dropOps_eff _ _) (by decide)
    refine Eff.then ?_ (State.cutFlights_eff _ _) (by decide)
    exact Eff.refl
  clear_value x2
  have h5 : ∀ p0 p1, Eff 135277320 s p0 → Eff 135277320 s (x3 p0 p1) := by
    subst x3
    intro p6 p7 h8
    try beta_reduce
    split
    · rename_i v9 v10 v11 v12 e13
      refine Eff.then ?_ (State.replaceIns_eff _ _ _ _) (by decide)
      exact h8
    · rename_i v14 v15 v16 v17 e18
      refine Eff.then ?_ (State.replaceIns_eff _ _ _ _) (by decide)
      exact h8
    · rename_i v19 v20 v21 e22
      refine Eff.then ?_ (State.replaceIns_eff _ _ _ _) (by decide)
      exact h8
    · rename_i v23 v24 v25 e26
      refine Eff.then ?_ (State.resolve_eff _ _ _) (by decide)
      exact h8
    · rename_i v27 v28 v29 e30
      refine Eff.then ?_ (State.resolve_eff _ _ _) (by decide)
      exact h8
    · rename_i v31 e32 e33 e34 e35 e36
      exact h8
  clear_value x3
  refine Eff.foldl ?_ ?_
  · refine Eff.foldl ?_ ?_
    · exact h4
    · intro p37 p38 h39
      try beta_reduce
      refine h5 _ _ ?_
      exact h39
  · intro p40 p41 h42
    try beta_reduce
    refine h5 _ _ ?_
    exact h42

theorem State.loseBlock_eff (s : State) (a1) (a2) (a3) :
    Eff 404270924 s (State.loseBlock s a1 a2 a3) := by
  unfold State.loseBlock
  extract_lets -merge x0 x1 x2 x3 x4 x5
  clear_value x0
  clear_value x1
  have h6 : Eff 404270924 s x2 := by
    subst x2
    refine Eff.then ?_ (State.endInBlock_eff _ _) (by decide)
    exact Eff.refl
  clear_value x2
  have h7 : Eff 404270924 s x3 := by
    subst x3
    refine Eff.foldl ?_ ?_
    · exact h6
    · intro p8 p9 h10
      try beta_reduce
      refine Eff.then ?_ (State.eraseRow_eff _ _) (by decide)
      exact h10
  clear_value x3
  clear_value x4
  have h11 : Eff 404270924 s x5 := by
    subst x5
    refine Eff.then ?_ (State.updTb_eff _ _ _) (by decide)
    exact h7
  clear_value x5
  refine Eff.then ?_ (State.raise_eff _ _ _ _) (by decide)
  refine Eff.then ?_ (State.logicalFailed_eff _ _ _) (by decide)
  exact h11

theorem State.blkAct_eff (s : State) (a1) :
    Eff 404270924 s (State.blkAct s a1) := by
  unfold State.blkAct
  split
  · rename_i v0 v1 v2 v3
    refine Eff.then ?_ (State.inService_eff _ _ _ _) (by decide)
    exact Eff.refl
  · rename_i v4 v5 v6
    extract_lets -merge x7
    have h8 : Eff 404270924 s x7 := by
      subst x7
      refine Eff.then ?_ (State.setBlockFree_eff _ _) (by decide)
      exact Eff.refl
    clear_value x7
    refine Eff.then ?_ (State.raise_eff _ _ _ _) (by decide)
    refine Eff.then ?_ (State.logicalFailed_eff _ _ _) (by decide)
    exact h8
  · rename_i v9 v10 v11 v12
    refine Eff.then ?_ (State.loseBlock_eff _ _ _ _) (by decide)
    exact Eff.refl

theorem State.blkDue_eff (s : State) :
    Eff 404270924 s (State.blkDue s) := by
  unfold State.blkDue
  extract_lets -merge x0 x1
  clear_value x0
  have h2 : Eff 404270924 s x1 := by
    subst x1
    refine Eff.then ?_ (State.updRas_eff _ _) (by decide)
    exact Eff.refl
  clear_value x1
  refine Eff.foldl ?_ ?_
  · exact h2
  · intro p3 p4 h5
    try beta_reduce
    refine Eff.then ?_ (State.blkAct_eff _ _) (by decide)
    exact h5

theorem execBlockSenseFault_eff (a0) (s : State) :
    EffX 268959812 s (execBlockSenseFault a0 s) := by
  unfold execBlockSenseFault
  refine whileUp_eff ?_ ?_
  · exact Eff.refl
  · intro p0 h1
    try beta_reduce
    refine Eff.then ?_ (State.blockFailing_eff _ _ _) (by decide)
    exact h1

theorem execBlockSpare_eff (a0) (a1) (s : State) :
    EffX 805830724 s (execBlockSpare a0 a1 s) := by
  unfold execBlockSpare
  refine whileUp_eff ?_ ?_
  · exact Eff.refl
  · intro p0 h1
    try beta_reduce
    refine State.owner1_eff ?_ ?_
    · exact h1
    · intro p2 h3
      try beta_reduce
      refine Eff.then ?_ (State.blockFailing_eff _ _ _) (by decide)
      exact h3

theorem State.rebuildSwitch_eff (s : State) (a1) :
    Eff 404270924 s (State.rebuildSwitch s a1) := by
  unfold State.rebuildSwitch
  extract_lets -merge x0 x1 x2 x3 x4
  clear_value x0
  clear_value x1
  have h5 : Eff 404270924 s x2 := by
    subst x2
    refine Eff.foldl ?_ ?_
    · exact Eff.refl
    · intro p6 p7 h8
      try beta_reduce
      refine Eff.ite ?_ ?_
      · refine Eff.ite ?_ ?_
        · refine Eff.then ?_ (State.loseRow_eff _ _) (by decide)
          exact h8
        · exact h8
      · extract_lets -merge x9
        clear_value x9
        refine Eff.then ?_ (State.setArow_eff _ _ _) (by decide)
        exact h8
  clear_value x2
  clear_value x3
  have h10 : Eff 404270924 s x4 := by
    subst x4
    refine Eff.foldl ?_ ?_
    · exact h5
    · intro p11 p12 h13
      try beta_reduce
      extract_lets -merge x14
      clear_value x14
      refine Eff.then ?_ (State.setZ_eff _ _ _ _) (by decide)
      exact h13
  clear_value x4
  refine Eff.then ?_ (State.inService_eff _ _ _ _) (by decide)
  exact h10

theorem execSpareRebuildSwitch_eff (s : State) :
    EffX 404270924 s (execSpareRebuildSwitch s) := by
  unfold execSpareRebuildSwitch
  refine whileUp_eff ?_ ?_
  · exact Eff.refl
  · intro p0 h1
    try beta_reduce
    split
    · rename_i v2 v3 e4
      refine Eff.then ?_ (State.rebuildSwitch_eff _ _) (by decide)
      exact h1
    · rename_i v5 e6
      exact h1

theorem execSparePauseEnd_eff (s : State) :
    EffX 268959812 s (execSparePauseEnd s) := by
  unfold execSparePauseEnd
  refine whileUp_eff ?_ ?_
  · exact Eff.refl
  · intro p0 h1
    try beta_reduce
    split
    · rename_i v2 v3 e4
      refine Eff.then ?_ (State.raise_eff _ _ _ _) (by decide)
      refine Eff.then ?_ (State.updRas_eff _ _) (by decide)
      exact h1
    · rename_i v5 e6
      exact h1

theorem State.tallyReserve_eff (s : State) (a1) (a2) :
    Eff 256 s (State.tallyReserve s a1 a2).1 := by
  unfold State.tallyReserve
  split
  · rename_i v0 e1
    exact Eff.refl
  · rename_i v2 v3 v4 e5
    extract_lets -merge x6 x7
    clear_value x6
    clear_value x7
    refine Eff.then ?_ (upd_arb _ _) (by decide)
    exact Eff.refl

theorem State.reservePaced_eff (s : State) :
    Eff 268435712 s (State.reservePaced s) := by
  unfold State.reservePaced
  refine Eff.ite ?_ ?_
  · exact Eff.refl
  · extract_lets -merge x0
    clear_value x0
    refine Eff.ite ?_ ?_
    · exact Eff.refl
    · split
      · rename_i v1 e2
        exact Eff.refl
      · rename_i v3 v4 e5
        extract_lets -merge x6
        have h7 : Eff 268435712 s x6.1 := by
          subst x6
          refine Eff.then ?_ (State.tallyReserve_eff _ _ _) (by decide)
          exact Eff.refl
        clear_value x6
        split
        · rename_i v8 v9 e10
          refine Eff.then ?_ (State.updRas_eff _ _) (by decide)
          exact h7
        · rename_i v11 e12
          exact Eff.refl

theorem State.reserveOut_eff (s : State) :
    Eff 268435712 s (State.reserveOut s) := by
  unfold State.reserveOut
  extract_lets -merge x0
  clear_value x0
  refine Eff.ite ?_ ?_
  · exact Eff.refl
  · split
    · rename_i v1 e2
      exact Eff.refl
    · rename_i v3 v4 v5 e6
      extract_lets -merge x7
      have h8 : Eff 268435712 s x7.1 := by
        subst x7
        refine Eff.then ?_ (State.tallyReserve_eff _ _ _) (by decide)
        exact Eff.refl
      clear_value x7
      split
      · rename_i v9 v10 e11
        refine Eff.then ?_ (State.updRas_eff _ _) (by decide)
        exact h8
      · rename_i v12 e13
        exact Eff.refl

theorem State.tallyTick_eff (s : State) :
    Eff 268435712 s (State.tallyTick s) := by
  unfold State.tallyTick
  refine Eff.then ?_ (State.reservePaced_eff _) (by decide)
  refine Eff.then ?_ (State.reserveOut_eff _) (by decide)
  exact Eff.refl

theorem State.judge_eff (s : State) :
    Eff 256 s (State.judge s) := by
  unfold State.judge
  refine Eff.then ?_ (State.mapFlights_eff _ _) (by decide)
  exact Eff.refl

theorem State.reserveWrite_eff (s : State) (a1) (a2) (a3) (a4) :
    Eff 268435712 s (State.reserveWrite s a1 a2 a3 a4) := by
  unfold State.reserveWrite
  extract_lets -merge x0
  have h1 : Eff 268435712 s x0.1 := by
    subst x0
    refine Eff.then ?_ (State.tallyReserve_eff _ _ _) (by decide)
    exact Eff.refl
  clear_value x0
  split
  · rename_i v2 v3 e4
    refine Eff.then ?_ (State.updRas_eff _ _) (by decide)
    exact h1
  · rename_i v5 e6
    exact Eff.refl

theorem State.shadowTraffic_eff (s : State) (a1) (a2) :
    Eff 33554432 s (State.shadowTraffic s a1 a2) := by
  unfold State.shadowTraffic
  refine Eff.foldl ?_ ?_
  · exact Eff.refl
  · intro p0 p1 h2
    try beta_reduce
    refine Eff.then ?_ (State.dramPush_eff _ _) (by decide)
    exact h2

theorem State.visitRow_eff (s : State) (a1) (a2) (a3) :
    Eff 302514500 s (State.visitRow s a1 a2 a3) := by
  unfold State.visitRow
  extract_lets -merge x0 x1 x2
  clear_value x0
  have h3 : Eff 302514500 s x1 := by
    subst x1
    refine Eff.ite ?_ ?_
    · exact Eff.refl
    · refine Eff.then ?_ (State.shadowTraffic_eff _ _ _) (by decide)
      exact Eff.refl
  clear_value x1
  have h4 : Eff 302514500 s x2 := by
    subst x2
    refine Eff.ite ?_ ?_
    · refine Eff.then ?_ (State.raise_eff _ _ _ _) (by decide)
      exact h3
    · exact h3
  clear_value x2
  refine Eff.ite ?_ ?_
  · exact h4
  · split
    · rename_i v5 e6
      exact h4
    · rename_i v7 v8 e9
      extract_lets -merge x10 x11 x12
      have h13 : Eff 302514500 s x10 := by
        subst x10
        refine Eff.then ?_ (State.raise_eff _ _ _ _) (by decide)
        refine Eff.then ?_ (State.inc_eff _ _ _) (by decide)
        exact h4
      clear_value x10
      clear_value x11
      have h14 : Eff 302514500 s x12 := by
        subst x12
        refine Eff.then ?_ (State.updRas_eff _ _) (by decide)
        exact h13
      clear_value x12
      refine Eff.ite ?_ ?_
      · refine Eff.then ?_ (State.blockFailing_eff _ _ _) (by decide)
        exact h14
      · refine Eff.ite ?_ ?_
        · refine Eff.ite ?_ ?_
          · refine Eff.then ?_ (State.reserveWrite_eff _ _ _ _ _) (by decide)
            exact h14
          · exact h14
        · refine Eff.then ?_ (State.reserveWrite_eff _ _ _ _ _) (by decide)
          exact h14

theorem State.segmentEnd_eff (s : State) (a1) :
    Eff 268435456 s (State.segmentEnd s a1) := by
  unfold State.segmentEnd
  extract_lets -merge x0 x1
  clear_value x0
  clear_value x1
  refine Eff.ite ?_ ?_
  · exact Eff.refl
  · refine Eff.then ?_ (State.updRas_eff _ _) (by decide)
    exact Eff.refl

theorem State.pacedVisit_eff (s : State) (a1) (a2) (a3) :
    Eff 302514500 s (State.pacedVisit s a1 a2 a3) := by
  unfold State.pacedVisit
  extract_lets -merge x0 x1 x2 x3 x4 x5 x6 x7 x8
  have h9 : Eff 302514500 s x0 := by
    subst x0
    refine Eff.ite ?_ ?_
    · refine Eff.then ?_ (State.updRas_eff _ _) (by decide)
      exact Eff.refl
    · exact Eff.refl
  clear_value x0
  have h10 : Eff 302514500 s x1 := by
    subst x1
    refine Eff.ite ?_ ?_
    · refine Eff.then ?_ (State.updRas_eff _ _) (by decide)
      exact h9
    · exact h9
  clear_value x1
  have h11 : Eff 302514500 s x2 := by
    subst x2
    refine Eff.then ?_ (State.visitRow_eff _ _ _ _) (by decide)
    exact h10
  clear_value x2
  clear_value x3
  clear_value x4
  have h12 : Eff 302514500 s x5 := by
    subst x5
    refine Eff.ite ?_ ?_
    · exact h11
    · refine Eff.then ?_ (State.updRas_eff _ _) (by decide)
      exact h11
  clear_value x5
  have h13 : Eff 302514500 s x6 := by
    subst x6
    refine Eff.ite ?_ ?_
    · refine Eff.then ?_ (State.segmentEnd_eff _ _) (by decide)
      exact h12
    · exact h12
  clear_value x6
  clear_value x7
  have h14 : Eff 302514500 s x8 := by
    subst x8
    refine Eff.then ?_ (State.setF_eff _ _ _) (by decide)
    exact h13
  clear_value x8
  refine Eff.ite ?_ ?_
  · refine Eff.then ?_ (State.inc_eff _ _ _) (by decide)
    exact h14
  · exact h14

theorem State.tallyVisit_eff (s : State) :
    Eff 302514500 s (State.tallyVisit s) := by
  unfold State.tallyVisit
  split
  · rename_i v0 v1 v2 v3 e4
    refine Eff.then ?_ (State.pacedVisit_eff _ _ _ _) (by decide)
    refine Eff.then ?_ (State.dropFlight_eff _ _) (by decide)
    exact Eff.refl
  · rename_i v5 e6
    exact Eff.refl

theorem State.tallyOut_eff (s : State) :
    Eff 302514500 s (State.tallyOut s) := by
  unfold State.tallyOut
  split
  · rename_i v0 v1 v2 v3 e4
    refine Eff.then ?_ (State.visitRow_eff _ _ _ _) (by decide)
    refine Eff.then ?_ (State.dropFlight_eff _ _) (by decide)
    exact Eff.refl
  · rename_i v5 e6
    exact Eff.refl

theorem execTallyVisit_eff (s : State) :
    EffX 302514500 s (execTallyVisit s) := by
  unfold execTallyVisit
  refine whileUp_eff ?_ ?_
  · exact Eff.refl
  · intro p0 h1
    try beta_reduce
    refine Eff.then ?_ (State.tallyVisit_eff _) (by decide)
    exact h1

theorem execTallyOutOfTurn_eff (s : State) :
    EffX 302514500 s (execTallyOutOfTurn s) := by
  unfold execTallyOutOfTurn
  refine whileUp_eff ?_ ?_
  · exact Eff.refl
  · intro p0 h1
    try beta_reduce
    refine Eff.then ?_ (State.tallyOut_eff _) (by decide)
    exact h1

theorem execTallyRepair_eff (s : State) :
    EffX 404287310 s (execTallyRepair s) := by
  unfold execTallyRepair
  refine whileUp_eff ?_ ?_
  · exact Eff.refl
  · intro p0 h1
    try beta_reduce
    refine Eff.then ?_ (State.commitNext_eff _ _) (by decide)
    exact h1

theorem State.widenDue_eff (s : State) :
    Eff 268960324 s (State.widenDue s) := by
  unfold State.widenDue
  extract_lets -merge x0 x1
  clear_value x0
  have h2 : Eff 268960324 s x1 := by
    subst x1
    refine Eff.then ?_ (State.updRas_eff _ _) (by decide)
    exact Eff.refl
  clear_value x1
  refine Eff.foldl ?_ ?_
  · exact h2
  · intro p3 p4 h5
    try beta_reduce
    refine Eff.then ?_ (State.raise_eff _ _ _ _) (by decide)
    refine Eff.then ?_ (State.widen_eff _ _ _) (by decide)
    exact h5

theorem State.shadowDrain_eff (s : State) :
    Eff 301989888 s (State.shadowDrain s) := by
  unfold State.shadowDrain
  split
  · rename_i v0 e1
    exact Eff.refl
  · rename_i v2 v3 v4 v5 e6
    extract_lets -merge x7
    have h8 : Eff 301989888 s x7 := by
      subst x7
      refine Eff.then ?_ (State.shadowTraffic_eff _ _ _) (by decide)
      exact Eff.refl
    clear_value x7
    refine Eff.then ?_ (State.updRas_eff _ _) (by decide)
    exact h8

theorem execShadowDrain_eff (s : State) :
    EffX 301989888 s (execShadowDrain s) := by
  unfold execShadowDrain
  refine whileUp_eff ?_ ?_
  · exact Eff.refl
  · intro p0 h1
    try beta_reduce
    refine Eff.then ?_ (State.shadowDrain_eff _) (by decide)
    exact h1

theorem State.dirtyFill_eff (s : State) (a1) :
    Eff 268435776 s (State.dirtyFill s a1) := by
  unfold State.dirtyFill
  refine Eff.ite ?_ ?_
  · exact Eff.refl
  · split
    · rename_i v0 v1 e2
      split
      · rename_i v3 e4
        exact Eff.refl
      · rename_i v5 v6 e7
        extract_lets -merge x8
        have h9 : Eff 268435776 s x8 := by
          subst x8
          refine Eff.then ?_ (State.dropFlight_eff _ _) (by decide)
          exact Eff.refl
        clear_value x8
        refine Eff.ite ?_ ?_
        · exact h9
        · refine Eff.then ?_ (State.inc_eff _ _ _) (by decide)
          refine Eff.then ?_ (State.updRas_eff _ _) (by decide)
          exact h9
    · rename_i v10 e11
      refine Eff.ite ?_ ?_
      · exact Eff.refl
      · refine Eff.then ?_ (State.enqOp_eff _ _ _) (by decide)
        exact Eff.refl

theorem execShadowDirtyFill_eff (a0) (s : State) :
    EffX 268435776 s (execShadowDirtyFill a0 s) := by
  unfold execShadowDirtyFill
  refine whileUp_eff ?_ ?_
  · exact Eff.refl
  · intro p0 h1
    try beta_reduce
    refine Eff.then ?_ (State.dirtyFill_eff _ _) (by decide)
    exact h1

theorem execMpWdogKick_eff (a0) (a1) (s : State) :
    EffX 268435520 s (execMpWdogKick a0 a1 s) := by
  unfold execMpWdogKick
  refine whileUp_eff ?_ ?_
  · exact Eff.refl
  · intro p0 h1
    try beta_reduce
    refine State.when_eff ?_ ?_
    · exact h1
    · intro p2 h3
      try beta_reduce
      extract_lets -merge x4
      have h5 : Eff 268435520 s x4 := by
        subst x4
        refine Eff.then ?_ (State.setF_eff _ _ _) (by decide)
        exact h3
      clear_value x4
      refine Eff.ite ?_ ?_
      · refine Eff.then ?_ (State.updRas_eff _ _) (by decide)
        exact h5
      · exact h5

theorem State.updLife_eff (s : State) (a1) :
    Eff 1073741824 s (State.updLife s a1) := by
  unfold State.updLife
  refine Eff.then ?_ (upd_life _ _) (by decide)
  exact Eff.refl

theorem State.mpRestart_eff (s : State) : Eff 1342177344 s (State.mpRestart s) := by
  unfold State.mpRestart
  have h : Eff 1342177344 s { s with ras := { s.ras with mpRunning := false } } :=
    Eff.then Eff.refl (upd_ras _ _) (by decide)
  refine Eff.then ?_ (State.updLife_eff _ _) (by decide)
  refine Eff.ite ?_ h
  exact Eff.then (Eff.then h (State.setF_eff _ _ _) (by decide)) (State.setF_eff _ _ _) (by decide)

theorem State.mpReset_eff (s : State) (a1) :
    Eff 1342701636 s (State.mpReset s a1) := by
  unfold State.mpReset
  refine Eff.ite ?_ ?_
  · exact Eff.refl
  · extract_lets -merge x0
    have h1 : Eff 1342701636 s x0 := by
      subst x0
      refine Eff.then ?_ (State.inc_eff _ _ _) (by decide)
      refine Eff.then ?_ (State.mpRestart_eff _) (by decide)
      exact Eff.refl
    clear_value x0
    refine Eff.then ?_ (State.raise_eff _ _ _ _) (by decide)
    exact h1

theorem execMpWatchdogExpiry_eff (s : State) :
    EffX 1342701636 s (execMpWatchdogExpiry s) := by
  unfold execMpWatchdogExpiry
  refine whileUp_eff ?_ ?_
  · exact Eff.refl
  · intro p0 h1
    try beta_reduce
    refine State.when_eff ?_ ?_
    · exact h1
    · intro p2 h3
      try beta_reduce
      refine Eff.then ?_ (State.mpReset_eff _ _) (by decide)
      exact h3

theorem execMpProcessorFault_eff (s : State) :
    EffX 1342701636 s (execMpProcessorFault s) := by
  unfold execMpProcessorFault
  refine whileUp_eff ?_ ?_
  · exact Eff.refl
  · intro p0 h1
    try beta_reduce
    refine Eff.then ?_ (State.mpReset_eff _ _) (by decide)
    exact h1

theorem State.goFatal_eff (s : State) (a1) :
    Eff 2416443460 s (State.goFatal s a1) := by
  unfold State.goFatal
  refine Eff.ite ?_ ?_
  · exact Eff.refl
  · extract_lets -merge x0 x1 x2 x3 x4 x5
    have h6 : Eff 2416443460 s x0 := by
      subst x0
      refine Eff.then ?_ (State.raise_eff _ _ _ _) (by decide)
      exact Eff.refl
    clear_value x0
    have h7 : Eff 2416443460 s x1 := by
      subst x1
      refine Eff.then ?_ (State.setF_eff _ _ _) (by decide)
      refine Eff.then ?_ (State.setF_eff _ _ _) (by decide)
      exact h6
    clear_value x1
    have h8 : Eff 2416443460 s x2 := by
      subst x2
      refine Eff.foldl ?_ ?_
      · exact h7
      · intro p9 p10 h11
        try beta_reduce
        refine Eff.then ?_ (State.send_eff _ _) (by decide)
        exact h11
    clear_value x2
    have h12 : Eff 2416443460 s x3 := by
      subst x3
      refine Eff.then ?_ (State.send_eff _ _) (by decide)
      exact h8
    clear_value x3
    have h13 : Eff 2416443460 s x4 := by
      subst x4
      refine Eff.then ?_ (State.setIrq_eff _ _) (by decide)
      exact h12
    clear_value x4
    clear_value x5
    refine Eff.then ?_ (upd_pins _ _) (by decide)
    exact h13

theorem execDeviceFatal_eff (a0) (s : State) :
    EffX 2416443460 s (execDeviceFatal a0 s) := by
  unfold execDeviceFatal
  refine whileUp_eff ?_ ?_
  · exact Eff.refl
  · intro p0 h1
    try beta_reduce
    refine Eff.then ?_ (State.goFatal_eff _ _) (by decide)
    exact h1

theorem execRasEvtConsWrite_eff (a0) (a1) (s : State) :
    EffX 268435520 s (execRasEvtConsWrite a0 a1 s) := by
  unfold execRasEvtConsWrite
  refine whileUp_eff ?_ ?_
  · exact Eff.refl
  · intro p0 h1
    try beta_reduce
    refine State.when_eff ?_ ?_
    · exact h1
    · intro p2 h3
      try beta_reduce
      extract_lets -merge x4
      have h5 : Eff 268435520 s x4 := by
        subst x4
        refine Eff.then ?_ (State.setF_eff _ _ _) (by decide)
        exact h3
      clear_value x4
      refine Eff.ite ?_ ?_
      · refine Eff.then ?_ (State.updRas_eff _ _) (by decide)
        exact h5
      · split
        · rename_i v6 v7 e8
          refine Eff.then ?_ (State.updRas_eff _ _) (by decide)
          exact h5
        · rename_i v9 e10
          exact h5

theorem execEvtCoalesceExpiry_eff (s : State) :
    EffX 268435524 s (execEvtCoalesceExpiry s) := by
  unfold execEvtCoalesceExpiry
  refine whileUp_eff ?_ ?_
  · exact Eff.refl
  · intro p0 h1
    try beta_reduce
    refine Eff.then ?_ (State.evtCheck_eff _) (by decide)
    exact h1

theorem State.inject_eff (s : State) (a1) (a2) (a3) :
    EffO 268538368 s (State.inject s a1 a2 a3) := by
  unfold State.inject
  split
  · rename_i v0
    refine EffO.ite ?_ ?_
    · extract_lets -merge x1
      clear_value x1
      refine EffO.some ?_
      refine Eff.then ?_ (State.setArow_eff _ _ _) (by decide)
      exact Eff.refl
    · exact EffO.none
  · rename_i v2
    refine EffO.ite ?_ ?_
    · extract_lets -merge x3 x4
      clear_value x3
      clear_value x4
      refine EffO.some ?_
      refine Eff.then ?_ (upd_arr _ _) (by decide)
      exact Eff.refl
    · exact EffO.none
  · rename_i v5
    refine EffO.ite ?_ ?_
    · extract_lets -merge x6 x7
      clear_value x6
      clear_value x7
      refine EffO.some ?_
      refine Eff.then ?_ (upd_trie _ _) (by decide)
      exact Eff.refl
    · exact EffO.none
  · rename_i v8
    refine EffO.ite ?_ ?_
    · refine EffO.some ?_
      refine Eff.then ?_ (upd_dsram _ _) (by decide)
      exact Eff.refl
    · exact EffO.none
  · rename_i v9
    refine EffO.ite ?_ ?_
    · refine EffO.some ?_
      refine Eff.then ?_ (State.updQp_eff _ _ _) (by decide)
      exact Eff.refl
    · exact EffO.none
  · rename_i v10
    refine EffO.ite ?_ ?_
    · refine EffO.some ?_
      refine Eff.then ?_ (State.updRas_eff _ _) (by decide)
      exact Eff.refl
    · exact EffO.none
  · rename_i v11
    refine EffO.ite ?_ ?_
    · refine EffO.some ?_
      refine Eff.then ?_ (State.updRas_eff _ _) (by decide)
      exact Eff.refl
    · exact EffO.none
  · rename_i v12 e13 e14 e15 e16 e17 e18 e19
    exact EffO.none

theorem State.injGo_eff (s : State) (a1) :
    Eff 268538432 s (State.injGo s a1) := by
  unfold State.injGo
  extract_lets -merge x0 x1 x2 x3
  have h4 : Eff 268538432 s x0 := by
    subst x0
    refine Eff.then ?_ (State.setF_eff _ _ _) (by decide)
    refine Eff.then ?_ (State.setF_eff _ _ _) (by decide)
    exact Eff.refl
  clear_value x0
  have h5 : Eff 268538432 s x1 := by
    subst x1
    refine Eff.ite ?_ ?_
    · refine Eff.then ?_ (State.setF_eff _ _ _) (by decide)
      exact h4
    · exact h4
  clear_value x1
  have h6 : Eff 268538432 s x2 := by
    subst x2
    refine Eff.ite ?_ ?_
    · refine Eff.then ?_ (State.setF_eff _ _ _) (by decide)
      exact h5
    · exact h5
  clear_value x2
  clear_value x3
  refine Eff.ite ?_ ?_
  · exact h6
  · split
    · rename_i v7 v8 e9
      have h10 : Eff 268538432 s v8 := by
        refine EffO.at e9 ?_
        refine EffO.ite ?_ ?_
        · refine EffO.then ?_ (State.inject_eff _ _ _ _) (by decide)
          exact h6
        · exact EffO.none
      exact h10
    · rename_i v11 e12
      refine Eff.then ?_ (State.setF_eff _ _ _) (by decide)
      exact h6

theorem execRasInjGo_eff (a0) (a1) (s : State) :
    EffX 268538432 s (execRasInjGo a0 a1 s) := by
  unfold execRasInjGo
  refine whileUp_eff ?_ ?_
  · exact Eff.refl
  · intro p0 h1
    try beta_reduce
    refine State.when_eff ?_ ?_
    · exact h1
    · intro p2 h3
      try beta_reduce
      refine Eff.then ?_ (State.injGo_eff _ _) (by decide)
      exact h3

end Sys2Proof.Machine
end

