-- ==== Sys2Proof/Laws/EffReset.lean ====
section
/-! SUPPORT. What the functions of Machine/Reset.lean may change: bit i of a mask is component i of `Comp.idx`.
The theorems are checked one after another: each is small, and the joined text has many. -/

set_option Elab.async false

namespace Sys2Proof.Machine

theorem State.selfTest_eff (s : State) (a1) :
    Eff 268435520 s (State.selfTest s a1) := by
  unfold State.selfTest
  extract_lets -merge x0 x1 x2 x3 x4
  clear_value x0
  clear_value x1
  have h5 : Eff 268435520 s x2 := by
    subst x2
    refine Eff.foldl ?_ ?_
    · exact Eff.refl
    · intro p6 p7 h8
      try beta_reduce
      refine Eff.then ?_ (State.setReg_eff _ _ _) (by decide)
      exact h8
  clear_value x2
  have h9 : Eff 268435520 s x3 := by
    subst x3
    refine Eff.foldl ?_ ?_
    · exact h5
    · intro p10 p11 h12
      try beta_reduce
      refine Eff.then ?_ (State.setF_eff _ _ _) (by decide)
      exact h12
  clear_value x3
  have h13 : Eff 268435520 s x4 := by
    subst x4
    refine Eff.then ?_ (State.setBlockFree_eff _ _) (by decide)
    exact h9
  clear_value x4
  refine Eff.then ?_ (State.updRas_eff _ _) (by decide)
  refine Eff.then ?_ (State.setF_eff _ _ _) (by decide)
  exact h13

theorem State.freeBlocks_eff (s : State) :
    Eff 2 s (State.freeBlocks s).2 := by
  unfold State.freeBlocks
  extract_lets -merge x0 x1 x2
  have h3 : Eff 2 s x0.2 := by
    subst x0
    refine Eff.then ?_ (State.free_eff _) (by decide)
    exact Eff.refl
  clear_value x0
  have h4 : Eff 2 s x1.2 := by
    subst x1
    refine Eff.then ?_ (State.free_eff _) (by decide)
    exact h3
  clear_value x1
  have h5 : Eff 2 s x2.2 := by
    subst x2
    refine Eff.then ?_ (State.free_eff _) (by decide)
    exact h4
  clear_value x2
  exact h5

theorem State.wipe_eff (s : State) (a1) (a2) :
    Eff 4278190076 s (State.wipe s a1 a2) := by
  unfold State.wipe
  extract_lets -merge x0 x1 x2 x3 x4 x5 x6 x7
  clear_value x0
  clear_value x1
  clear_value x2
  clear_value x3
  clear_value x4
  have h8 : Eff 4278190076 s x5 := by
    subst x5
    refine ⟨fun x h => by cases x <;> first | rfl | exact absurd h (by decide), fun c => ⟨?_, rfl, c.2.2⟩⟩
    exact SMap.wf_filter _ _ _ c.1
  clear_value x5
  have h9 : Eff 4278190076 s x6 := by
    subst x6
    refine Eff.then ?_ (State.setReg_eff _ _ _) (by decide)
    refine Eff.then ?_ (State.setReg_eff _ _ _) (by decide)
    exact h8
  clear_value x6
  have h10 : Eff 4278190076 s x7 := by
    subst x7
    refine Eff.ite ?_ ?_
    · refine Eff.then ?_ (State.setF_eff _ _ _) (by decide)
      exact h9
    · exact h9
  clear_value x7
  refine Eff.then ?_ (State.send_eff _ _) (by decide)
  refine Eff.then ?_ (State.selfTest_eff _ _) (by decide)
  exact h10

theorem State.strapPair_eff (s : State) :
    Eff 64 s (State.strapPair s) := by
  unfold State.strapPair
  extract_lets -merge x0
  clear_value x0
  refine Eff.then ?_ (State.setF_eff _ _ _) (by decide)
  refine Eff.then ?_ (State.setF_eff _ _ _) (by decide)
  refine Eff.then ?_ (State.setF_eff _ _ _) (by decide)
  exact Eff.refl

theorem State.warmReset_eff (s : State) (a1) (a2) :
    Eff 4278190076 s (State.warmReset s a1 a2) := by
  unfold State.warmReset
  refine Eff.then ?_ (State.strapPair_eff _) (by decide)
  refine Eff.then ?_ (State.setF_eff _ _ _) (by decide)
  refine Eff.then ?_ (State.wipe_eff _ _ _) (by decide)
  exact Eff.refl

theorem State.coldReset_eff (s : State) :
    Eff 4278190078 s (State.coldReset s) := by
  unfold State.coldReset
  extract_lets -merge x0 x1 x2 x3
  have h4 : Eff 4278190078 s x0.2 := by
    subst x0
    refine Eff.then ?_ (State.freeBlocks_eff _) (by decide)
    exact Eff.refl
  clear_value x0
  have h5 : Eff 4278190078 s x1 := by
    subst x1
    refine Eff.then ?_ (State.wipe_eff _ _ _) (by decide)
    exact h4
  clear_value x1
  clear_value x2
  have h6 : Eff 4278190078 s x3 := by
    subst x3
    refine Eff.then ?_ (upd_pins _ _) (by decide)
    exact h5
  clear_value x3
  refine Eff.ite ?_ ?_
  · refine Eff.then ?_ (State.send_eff _ _) (by decide)
    exact h6
  · exact h6

theorem execPowerGoodRise_eff (s : State) :
    EffX 2147483648 s (execPowerGoodRise s) := by
  unfold execPowerGoodRise
  refine EffX.next ?_
  refine State.when_eff ?_ ?_
  · exact Eff.refl
  · intro p0 h1
    try beta_reduce
    refine Eff.then ?_ (upd_pins _ _) (by decide)
    exact h1

theorem execColdResetRelease_eff (a0) (s : State) :
    EffX 2147483748 s (execColdResetRelease a0 s) := by
  unfold execColdResetRelease
  refine EffX.next ?_
  refine State.when_eff ?_ ?_
  · exact Eff.refl
  · intro p0 h1
    try beta_reduce
    extract_lets -merge x2 x3
    clear_value x2
    have h4 : Eff 2147483748 s x3 := by
      subst x3
      refine Eff.then ?_ (upd_tick_pins _ _ _) (by decide)
      exact h1
    clear_value x3
    refine Eff.then ?_ (State.send_eff _ _) (by decide)
    refine Eff.then ?_ (State.strapPair_eff _) (by decide)
    refine Eff.then ?_ (State.setReg_eff _ _ _) (by decide)
    exact h4

theorem execPowerGoodLoss_eff (s : State) :
    EffX 4278190078 s (execPowerGoodLoss s) := by
  unfold execPowerGoodLoss
  refine EffX.next ?_
  refine Eff.then ?_ (State.coldReset_eff _) (by decide)
  exact Eff.refl

theorem execRailUndervoltage_eff (s : State) :
    EffX 4278190078 s (execRailUndervoltage s) := by
  unfold execRailUndervoltage
  refine EffX.next ?_
  refine Eff.then ?_ (State.coldReset_eff _) (by decide)
  exact Eff.refl

theorem execSysResetAssert_eff (a0) (s : State) :
    EffX 4278190076 s (execSysResetAssert a0 s) := by
  unfold execSysResetAssert
  refine EffX.next ?_
  refine State.when_eff ?_ ?_
  · exact Eff.refl
  · intro p0 h1
    try beta_reduce
    refine Eff.then ?_ (State.warmReset_eff _ _ _) (by decide)
    exact h1

theorem execSysResetRelease_eff (s : State) :
    EffX 2147483684 s (execSysResetRelease s) := by
  unfold execSysResetRelease
  refine EffX.next ?_
  refine State.when_eff ?_ ?_
  · exact Eff.refl
  · intro p0 h1
    try beta_reduce
    extract_lets -merge x2 x3
    clear_value x2
    have h4 : Eff 2147483684 s x3 := by
      subst x3
      refine Eff.then ?_ (upd_tick_pins _ _ _) (by decide)
      exact h1
    clear_value x3
    refine Eff.ite ?_ ?_
    · exact h4
    · refine Eff.then ?_ (State.send_eff _ _) (by decide)
      exact h4

theorem execDeviceReset_eff (a0) (a1) (s : State) :
    EffX 1610612736 s (execDeviceReset a0 a1 s) := by
  unfold execDeviceReset
  refine whileUp_eff ?_ ?_
  · exact Eff.refl
  · intro p0 h1
    try beta_reduce
    refine State.owner1_eff ?_ ?_
    · exact h1
    · intro p2 h3
      try beta_reduce
      refine Eff.then ?_ (State.updLife_eff _ _) (by decide)
      exact h3

theorem execDeviceResetDelayExpiry_eff (s : State) :
    EffX 4278190078 s (execDeviceResetDelayExpiry s) := by
  unfold execDeviceResetDelayExpiry
  refine whileUp_eff ?_ ?_
  · exact Eff.refl
  · intro p0 h1
    try beta_reduce
    split
    · rename_i v2 v3 e4
      refine Eff.ite ?_ ?_
      · exact h1
      · refine Eff.then ?_ (State.warmReset_eff _ _ _) (by decide)
        refine Eff.then ?_ (State.freeBlocks_eff _) (by decide)
        exact h1
    · rename_i v5 e6
      exact h1

end Sys2Proof.Machine
end

