-- ==== Sys2Proof/Laws/EffLife.lean ====
section
/-! SUPPORT. What the functions of Machine/Life.lean may change: bit i of a mask is component i of `Comp.idx`.
The theorems are checked one after another: each is small, and the joined text has many. -/

set_option Elab.async false

namespace Sys2Proof.Machine

theorem State.restoreCal_eff (s : State) :
    Eff 268959812 s (State.restoreCal s) := by
  unfold State.restoreCal
  extract_lets -merge x0 x1
  have h2 : Eff 268959812 s x0 := by
    subst x0
    refine Eff.ite ?_ ?_
    · refine Eff.then ?_ (State.raise_eff _ _ _ _) (by decide)
      exact Eff.refl
    · exact Eff.refl
  clear_value x0
  have h3 : Eff 268959812 s x1 := by
    subst x1
    refine Eff.ite ?_ ?_
    · refine Eff.then ?_ (State.raise_eff _ _ _ _) (by decide)
      exact h2
    · exact h2
  clear_value x1
  split
  · rename_i v4 v5 e6
    refine Eff.foldl ?_ ?_
    · exact h3
    · intro p7 p8 h9
      try beta_reduce
      refine Eff.ite ?_ ?_
      · refine Eff.then ?_ (State.setReg_eff _ _ _) (by decide)
        exact h9
      · exact h9
  · rename_i v10 e11
    exact h3

theorem State.keepTraining_eff (s : State) :
    Eff 67108864 s (State.keepTraining s) := by
  unfold State.keepTraining
  refine Eff.ite ?_ ?_
  · exact Eff.refl
  · refine Eff.then ?_ (State.storeCal_eff _) (by decide)
    exact Eff.refl

theorem State.createPlacement_eff (s : State) :
    Eff 1088 s (State.createPlacement s) := by
  unfold State.createPlacement
  extract_lets -merge x0 x1
  clear_value x0
  clear_value x1
  refine Eff.then ?_ (State.setTb_eff _ _ _) (by decide)
  refine Eff.then ?_ (State.setF_eff _ _ _) (by decide)
  exact Eff.refl

theorem State.becomeReady_eff (s : State) :
    Eff 4718656 s (State.becomeReady s) := by
  unfold State.becomeReady
  extract_lets -merge x0 x1 x2
  have h3 : Eff 4718656 s x0 := by
    subst x0
    refine Eff.foldl ?_ ?_
    · exact Eff.refl
    · intro p4 p5 h6
      try beta_reduce
      refine Eff.then ?_ (State.updLd_eff _ _ _) (by decide)
      exact h6
  clear_value x0
  clear_value x1
  have h7 : Eff 4718656 s x2 := by
    subst x2
    refine Eff.then ?_ (upd_tier _ _) (by decide)
    exact h3
  clear_value x2
  refine Eff.then ?_ (State.setF_eff _ _ _) (by decide)
  exact h7

theorem State.bootNext_eff (s : State) (a1) (a2) :
    Eff 1414005828 s (State.bootNext s a1 a2) := by
  unfold State.bootNext
  extract_lets -merge x0 x1 x2
  clear_value x0
  have h3 : Eff 1414005828 s x1 := by
    subst x1
    refine Eff.ite ?_ ?_
    · refine Eff.then ?_ (State.setF_eff _ _ _) (by decide)
      exact Eff.refl
    · exact Eff.refl
  clear_value x1
  have h4 : Eff 1414005828 s x2 := by
    subst x2
    refine Eff.then ?_ (State.setF_eff _ _ _) (by decide)
    refine Eff.then ?_ (State.setF_eff _ _ _) (by decide)
    exact Eff.refl
  clear_value x2
  refine Eff.ite ?_ ?_
  · refine Eff.ite ?_ ?_
    · refine Eff.then ?_ (State.bootFail_eff _ _) (by decide)
      exact Eff.refl
    · split
      · rename_i v5 e6
        refine Eff.then ?_ (State.bootFail_eff _ _) (by decide)
        exact Eff.refl
      · rename_i v7 v8 e9
        refine Eff.then ?_ (State.setF_eff _ _ _) (by decide)
        refine Eff.then ?_ (State.updLife_eff _ _) (by decide)
        exact h3
  · refine Eff.ite ?_ ?_
    · refine Eff.ite ?_ ?_
      · refine Eff.then ?_ (State.bootFail_eff _ _) (by decide)
        exact Eff.refl
      · refine Eff.ite ?_ ?_
        · exact Eff.refl
        · refine Eff.then ?_ (State.restoreCal_eff _) (by decide)
          refine Eff.then ?_ (State.setF_eff _ _ _) (by decide)
          refine Eff.then ?_ (State.updLife_eff _ _) (by decide)
          exact Eff.refl
    · refine Eff.ite ?_ ?_
      · refine Eff.ite ?_ ?_
        · refine Eff.then ?_ (State.bootFail_eff _ _) (by decide)
          exact Eff.refl
        · refine Eff.ite ?_ ?_
          · exact Eff.refl
          · refine Eff.then ?_ (State.setF_eff _ _ _) (by decide)
            refine Eff.then ?_ (State.keepTraining_eff _) (by decide)
            exact Eff.refl
      · refine Eff.ite ?_ ?_
        · refine Eff.then ?_ (State.becomeReady_eff _) (by decide)
          refine Eff.then ?_ (State.setF_eff _ _ _) (by decide)
          refine Eff.then ?_ (State.createPlacement_eff _) (by decide)
          exact h4
        · exact Eff.refl

theorem execBootPhaseAdvance_eff (a0) (a1) (s : State) :
    EffX 1414005828 s (execBootPhaseAdvance a0 a1 s) := by
  unfold execBootPhaseAdvance
  refine whileUp_eff ?_ ?_
  · exact Eff.refl
  · intro p0 h1
    try beta_reduce
    refine State.when_eff ?_ ?_
    · exact h1
    · intro p2 h3
      try beta_reduce
      refine Eff.then ?_ (State.bootNext_eff _ _ _) (by decide)
      exact h3

theorem State.spdmErr_eff (s : State) (a1) :
    Eff 4 s (State.spdmErr s a1) := by
  unfold State.spdmErr
  refine Eff.then ?_ (State.send_eff _ _) (by decide)
  exact Eff.refl

theorem State.freeDigest_eff (s : State) :
    Eff 2 s (State.freeDigest s).2 := by
  unfold State.freeDigest
  refine EffR.foldl ?_ ?_
  · exact Eff.refl
  · intro p0 p1 h2
    try beta_reduce
    refine Eff.then ?_ (State.free_eff _) (by decide)
    exact h2

theorem State.measurement_eff (s : State) (a1) :
    Eff 2 s (State.measurement s a1).2 := by
  unfold State.measurement
  refine EffR.ite ?_ ?_
  · extract_lets -merge x0
    have h1 : Eff 2 s x0.2 := by
      subst x0
      refine Eff.then ?_ (State.free_eff _) (by decide)
      exact Eff.refl
    clear_value x0
    exact h1
  · refine EffR.ite ?_ ?_
    · exact Eff.refl
    · refine EffR.ite ?_ ?_
      · exact Eff.refl
      · refine Eff.then ?_ (State.freeDigest_eff _) (by decide)
        exact Eff.refl

theorem execSpdmRequest_eff (a0) (a1) (s : State) :
    EffX 6 s (execSpdmRequest a0 a1 s) := by
  unfold execSpdmRequest
  refine whileUp_eff ?_ ?_
  · exact Eff.refl
  · intro p0 h1
    try beta_reduce
    refine State.when_eff ?_ ?_
    · exact h1
    · intro p2 h3
      try beta_reduce
      refine Eff.ite ?_ ?_
      · refine Eff.then ?_ (State.send_eff _ _) (by decide)
        exact h3
      · refine Eff.ite ?_ ?_
        · refine Eff.then ?_ (State.send_eff _ _) (by decide)
          refine Eff.then ?_ (State.measurement_eff _ _) (by decide)
          exact h3
        · refine Eff.then ?_ (State.spdmErr_eff _ _) (by decide)
          exact h3

theorem State.vendorAns_eff (s : State) (a1) (a2) (a3) :
    Eff 4 s (State.vendorAns s a1 a2 a3) := by
  unfold State.vendorAns
  refine Eff.then ?_ (State.send_eff _ _) (by decide)
  exact Eff.refl

theorem State.vendorReq_eff {w : Nat} {r s : State} {a1} {a2} {a3} {a4} {a5} {a6} (h : Eff w r s) (h6 : ∀ y0, Eff w r y0 → Eff w r (a6 y0))
    (hw : 4 &&& w = 4 := by decide) :
    Eff w r (State.vendorReq s a1 a2 a3 a4 a5 a6) := by
  unfold State.vendorReq
  refine Eff.ite ?_ ?_
  · exact h
  · refine Eff.ite ?_ ?_
    · refine Eff.then ?_ (State.spdmErr_eff _ _) (mask_le (by decide) hw)
      exact h
    · refine Eff.ite ?_ ?_
      · refine Eff.then ?_ (State.vendorAns_eff _ _ _ _) (mask_le (by decide) hw)
        exact h
      · split
        · rename_i v0 v1
          refine Eff.then ?_ (State.vendorAns_eff _ _ _ _) (mask_le (by decide) hw)
          exact h
        · rename_i v2
          refine Eff.then ?_ (State.vendorAns_eff _ _ _ _) (mask_le (by decide) hw)
          refine h6 _ ?_
          exact h

theorem execKeyLoad_eff (a0) (a1) (a2) (a3) (a4) (s : State) :
    EffX 1073741828 s (execKeyLoad a0 a1 a2 a3 a4 s) := by
  unfold execKeyLoad
  refine whileUp_eff ?_ ?_
  · exact Eff.refl
  · intro p0 h1
    try beta_reduce
    extract_lets -merge x2 x3
    clear_value x2
    clear_value x3
    refine State.vendorReq_eff ?_ ?_
    · exact h1
    · intro p4 h5
      try beta_reduce
      refine Eff.then ?_ (State.setKey_eff _ _ _) (by decide)
      exact h5

theorem execKeyErase_eff (a0) (a1) (a2) (s : State) :
    EffX 1073741828 s (execKeyErase a0 a1 a2 s) := by
  unfold execKeyErase
  refine whileUp_eff ?_ ?_
  · exact Eff.refl
  · intro p0 h1
    try beta_reduce
    extract_lets -merge x2 x3
    clear_value x2
    clear_value x3
    refine State.vendorReq_eff ?_ ?_
    · exact h1
    · intro p4 h5
      try beta_reduce
      refine Eff.then ?_ (State.setKey_eff _ _ _) (by decide)
      exact h5

theorem execKeyQuery_eff (a0) (a1) (a2) (s : State) :
    EffX 4 s (execKeyQuery a0 a1 a2 s) := by
  unfold execKeyQuery
  refine whileUp_eff ?_ ?_
  · exact Eff.refl
  · intro p0 h1
    try beta_reduce
    extract_lets -merge x2
    clear_value x2
    refine State.vendorReq_eff ?_ ?_
    · exact h1
    · intro p3 h4
      try beta_reduce
      exact h4

theorem execLcTransition_eff (a0) (a1) (a2) (a3) (a4) (s : State) :
    EffX 1073741892 s (execLcTransition a0 a1 a2 a3 a4 s) := by
  unfold execLcTransition
  refine whileUp_eff ?_ ?_
  · exact Eff.refl
  · intro p0 h1
    try beta_reduce
    extract_lets -merge x2 x3 x4 x5
    clear_value x2
    clear_value x3
    clear_value x4
    clear_value x5
    refine State.vendorReq_eff ?_ ?_
    · exact h1
    · intro p6 h7
      try beta_reduce
      extract_lets -merge x8 x9 x10
      have h11 : Eff 1073741892 s x8 := by
        subst x8
        refine Eff.then ?_ (State.setF_eff _ _ _) (by decide)
        exact h7
      clear_value x8
      clear_value x9
      have h12 : Eff 1073741892 s x10 := by
        subst x10
        refine Eff.then ?_ (State.setF_eff _ _ _) (by decide)
        exact h11
      clear_value x10
      refine Eff.then ?_ (State.updLife_eff _ _) (by decide)
      exact h12

theorem execLcWarmResetDue_eff (s : State) :
    EffX 4278190078 s (execLcWarmResetDue s) := by
  unfold execLcWarmResetDue
  refine whileUp_eff ?_ ?_
  · exact Eff.refl
  · intro p0 h1
    try beta_reduce
    split
    · rename_i v2 v3 e4
      refine Eff.ite ?_ ?_
      · exact h1
      · refine Eff.then ?_ (State.warmReset_eff _ _ _) (by decide)
        refine Eff.then ?_ (State.freeBlocks_eff _) (by decide)
        exact h1
    · rename_i v5 e6
      exact h1

theorem execLockSet_eff (a0) (s : State) :
    EffX 64 s (execLockSet a0 s) := by
  unfold execLockSet
  refine whileUp_eff ?_ ?_
  · exact Eff.refl
  · intro p0 h1
    try beta_reduce
    refine State.when_eff ?_ ?_
    · exact h1
    · intro p2 h3
      try beta_reduce
      refine Eff.then ?_ (State.setF_eff _ _ _) (by decide)
      exact h3

theorem State.fwAns_eff (s : State) (a1) (a2) (a3) :
    Eff 4 s (State.fwAns s a1 a2 a3) := by
  unfold State.fwAns
  split
  · rename_i v0 v1
    refine Eff.then ?_ (State.mboxAns_eff _ _ _ _ _) (by decide)
    exact Eff.refl
  · rename_i v2
    refine Eff.then ?_ (State.fmAns_eff _ _ _ _) (by decide)
    exact Eff.refl

theorem execGetFwInfo_eff (a0) (s : State) :
    EffX 4 s (execGetFwInfo a0 s) := by
  unfold execGetFwInfo
  refine mboxCmd_eff ?_ ?_
  · exact Eff.refl
  · intro p0 h1
    try beta_reduce
    refine Eff.then ?_ (State.mboxAns_eff _ _ _ _ _) (by decide)
    exact h1

theorem execTransferFw_eff (a0) (a1) (a2) (a3) (a4) (s : State) :
    EffX 1073741892 s (execTransferFw a0 a1 a2 a3 a4 s) := by
  unfold execTransferFw
  refine mboxCmd_eff ?_ ?_
  · exact Eff.refl
  · intro p0 h1
    try beta_reduce
    refine Eff.ite ?_ ?_
    · refine Eff.then ?_ (State.fwAns_eff _ _ _ _) (by decide)
      exact h1
    · refine Eff.ite ?_ ?_
      · refine Eff.then ?_ (State.fwAns_eff _ _ _ _) (by decide)
        exact h1
      · refine Eff.ite ?_ ?_
        · refine Eff.then ?_ (State.fwAns_eff _ _ _ _) (by decide)
          exact h1
        · extract_lets -merge x2 x3 x4
          clear_value x2
          have h5 : Eff 1073741892 s x3 := by
            subst x3
            refine Eff.then ?_ (State.setF_eff _ _ _) (by decide)
            exact h1
          clear_value x3
          have h6 : Eff 1073741892 s x4 := by
            subst x4
            refine Eff.then ?_ (State.updLife_eff _ _) (by decide)
            exact h5
          clear_value x4
          refine Eff.ite ?_ ?_
          · refine Eff.then ?_ (State.fwAns_eff _ _ _ _) (by decide)
            exact h6
          · exact h6

theorem execActivateFw_eff (a0) (a1) (s : State) :
    EffX 1342177348 s (execActivateFw a0 a1 s) := by
  unfold execActivateFw
  refine mboxCmd_eff ?_ ?_
  · exact Eff.refl
  · intro p0 h1
    try beta_reduce
    refine Eff.ite ?_ ?_
    · refine Eff.then ?_ (State.fwAns_eff _ _ _ _) (by decide)
      exact h1
    · refine Eff.ite ?_ ?_
      · refine Eff.then ?_ (State.fwAns_eff _ _ _ _) (by decide)
        exact h1
      · refine Eff.ite ?_ ?_
        · refine Eff.then ?_ (State.fwAns_eff _ _ _ _) (by decide)
          exact h1
        · refine Eff.ite ?_ ?_
          · refine Eff.then ?_ (State.fwAns_eff _ _ _ _) (by decide)
            exact h1
          · extract_lets -merge x2 x3 x4
            have h5 : Eff 1342177348 s x2 := by
              subst x2
              refine Eff.then ?_ (State.setF_eff _ _ _) (by decide)
              refine Eff.then ?_ (State.fwAns_eff _ _ _ _) (by decide)
              exact h1
            clear_value x2
            have h6 : Eff 1342177348 s x3 := by
              subst x3
              refine Eff.then ?_ (State.updLife_eff _ _) (by decide)
              exact h5
            clear_value x3
            clear_value x4
            refine Eff.then ?_ (upd_ras _ _) (by decide)
            exact h6

theorem execMpRestartComplete_eff (s : State) :
    EffX 1342177280 s (execMpRestartComplete s) := by
  unfold execMpRestartComplete
  refine whileUp_eff ?_ ?_
  · exact Eff.refl
  · intro p0 h1
    try beta_reduce
    refine State.when_eff ?_ ?_
    · exact h1
    · intro p2 h3
      try beta_reduce
      extract_lets -merge x4 x5 x6
      clear_value x4
      have h7 : Eff 1342177280 s x5 := by
        subst x5
        refine Eff.then ?_ (upd_ras _ _) (by decide)
        exact h3
      clear_value x5
      clear_value x6
      refine Eff.then ?_ (State.updLife_eff _ _) (by decide)
      exact h7

theorem execFwConfirm_eff (a0) (s : State) :
    EffX 1073741888 s (execFwConfirm a0 s) := by
  unfold execFwConfirm
  refine whileUp_eff ?_ ?_
  · exact Eff.refl
  · intro p0 h1
    try beta_reduce
    refine State.when_eff ?_ ?_
    · exact h1
    · intro p2 h3
      try beta_reduce
      extract_lets -merge x4
      have h5 : Eff 1073741888 s x4 := by
        subst x4
        refine Eff.then ?_ (State.setF_eff _ _ _) (by decide)
        refine Eff.then ?_ (State.setF_eff _ _ _) (by decide)
        exact h3
      clear_value x4
      refine Eff.then ?_ (State.updLife_eff _ _) (by decide)
      exact h5

theorem execTrialWindowExpiry_eff (s : State) :
    EffX 1342177344 s (execTrialWindowExpiry s) := by
  unfold execTrialWindowExpiry
  refine whileUp_eff ?_ ?_
  · exact Eff.refl
  · intro p0 h1
    try beta_reduce
    split
    · rename_i v2 v3 e4
      refine Eff.ite ?_ ?_
      · exact h1
      · refine Eff.then ?_ (State.mpRestart_eff _) (by decide)
        exact h1
    · rename_i v5 e6
      exact h1

theorem State.svnCommit_eff (s : State) :
    Eff 1073741888 s (State.svnCommit s) := by
  unfold State.svnCommit
  extract_lets -merge x0 x1 x2
  clear_value x0
  have h3 : Eff 1073741888 s x1 := by
    subst x1
    refine Eff.then ?_ (State.setF_eff _ _ _) (by decide)
    exact Eff.refl
  clear_value x1
  have h4 : Eff 1073741888 s x2 := by
    subst x2
    refine Eff.then ?_ (State.setF_eff _ _ _) (by decide)
    exact h3
  clear_value x2
  refine Eff.ite ?_ ?_
  · exact h3
  · refine Eff.then ?_ (State.updLife_eff _ _) (by decide)
    exact h4

theorem execFwSvnCommit_eff (a0) (s : State) :
    EffX 1610612800 s (execFwSvnCommit a0 s) := by
  unfold execFwSvnCommit
  refine whileUp_eff ?_ ?_
  · exact Eff.refl
  · intro p0 h1
    try beta_reduce
    refine State.owner1_eff ?_ ?_
    · exact h1
    · intro p2 h3
      try beta_reduce
      refine Eff.then ?_ (State.svnCommit_eff _) (by decide)
      exact h3

theorem execCompatProfileWrite_eff (a0) (a1) (s : State) :
    EffX 64 s (execCompatProfileWrite a0 a1 s) := by
  unfold execCompatProfileWrite
  refine whileUp_eff ?_ ?_
  · exact Eff.refl
  · intro p0 h1
    try beta_reduce
    refine State.when_eff ?_ ?_
    · exact h1
    · intro p2 h3
      try beta_reduce
      refine Eff.then ?_ (State.setF_eff _ _ _) (by decide)
      exact h3

end Sys2Proof.Machine
end

