-- ==== Sys2Proof/Laws/EffThermal.lean ====
section
/-! SUPPORT. What the functions of Machine/Thermal.lean may change: bit i of a mask is component i of `Comp.idx`.
The theorems are checked one after another: each is small, and the joined text has many. -/

set_option Elab.async false

namespace Sys2Proof.Machine

theorem State.thermSample_eff (s : State) (a1) :
    Eff 2147483712 s (State.thermSample s a1) := by
  unfold State.thermSample
  extract_lets -merge x0 x1 x2 x3 x4 x5 x6 x7 x8 x9 x10
  clear_value x0
  clear_value x1
  clear_value x2
  have h11 : Eff 2147483712 s x3 := by
    subst x3
    refine Eff.foldl ?_ ?_
    · exact Eff.refl
    · intro p12 p13 h14
      try beta_reduce
      refine Eff.then ?_ (State.setReg_eff _ _ _) (by decide)
      exact h14
  clear_value x3
  have h15 : Eff 2147483712 s x4 := by
    subst x4
    refine Eff.then ?_ (State.setF_eff _ _ _) (by decide)
    refine Eff.then ?_ (State.setF_eff _ _ _) (by decide)
    exact h11
  clear_value x4
  clear_value x5
  have h16 : Eff 2147483712 s x6 := by
    subst x6
    refine Eff.ite ?_ ?_
    · refine Eff.then ?_ (State.setF_eff _ _ _) (by decide)
      exact h15
    · exact h15
  clear_value x6
  clear_value x7
  clear_value x8
  clear_value x9
  clear_value x10
  refine Eff.then ?_ (upd_pins _ _) (by decide)
  exact h16

theorem execThermalSample_eff (a0) (s : State) :
    EffX 2147483712 s (execThermalSample a0 s) := by
  unfold execThermalSample
  refine whileUp_eff ?_ ?_
  · exact Eff.refl
  · intro p0 h1
    try beta_reduce
    refine State.when_eff ?_ ?_
    · exact h1
    · intro p2 h3
      try beta_reduce
      refine Eff.then ?_ (State.thermSample_eff _ _) (by decide)
      exact h3

theorem State.doTrip_eff (s : State) :
    Eff 2147483716 s (State.doTrip s) := by
  unfold State.doTrip
  extract_lets -merge x0 x1 x2
  have h3 : Eff 2147483716 s x0 := by
    subst x0
    refine Eff.foldl ?_ ?_
    · exact Eff.refl
    · intro p4 p5 h6
      try beta_reduce
      refine Eff.ite ?_ ?_
      · exact h6
      · refine Eff.then ?_ (State.setF_eff _ _ _) (by decide)
        exact h6
  clear_value x0
  clear_value x1
  have h7 : Eff 2147483716 s x2 := by
    subst x2
    refine Eff.then ?_ (upd_pins _ _) (by decide)
    exact h3
  clear_value x2
  refine Eff.then ?_ (State.send_eff _ _) (by decide)
  refine Eff.then ?_ (State.send_eff _ _) (by decide)
  exact h7

theorem State.thermTick_eff (s : State) :
    Eff 2416443460 s (State.thermTick s) := by
  unfold State.thermTick
  extract_lets -merge x0 x1 x2 x3 x4 x5 x6 x7 x8
  clear_value x0
  clear_value x1
  clear_value x2
  have h9 : Eff 2416443460 s x3 := by
    subst x3
    refine Eff.then ?_ (upd_pins _ _) (by decide)
    exact Eff.refl
  clear_value x3
  have h10 : Eff 2416443460 s x4 := by
    subst x4
    refine Eff.then ?_ (State.setIrq_eff _ _) (by decide)
    refine Eff.then ?_ (State.setFloor_eff _) (by decide)
    refine Eff.then ?_ (State.setF_eff _ _ _) (by decide)
    exact h9
  clear_value x4
  clear_value x5
  have h11 : Eff 2416443460 s x6 := by
    subst x6
    refine Eff.then ?_ (upd_pins _ _) (by decide)
    exact h10
  clear_value x6
  have h12 : Eff 2416443460 s x7 := by
    subst x7
    refine Eff.then ?_ (State.inc_eff _ _ _) (by decide)
    refine Eff.then ?_ (State.inc_eff _ _ _) (by decide)
    refine Eff.then ?_ (State.setIrq_eff _ _) (by decide)
    refine Eff.then ?_ (State.setFloor_eff _) (by decide)
    refine Eff.then ?_ (State.setF_eff _ _ _) (by decide)
    exact h9
  clear_value x7
  have h13 : Eff 2416443460 s x8 := by
    subst x8
    split
    · rename_i v14 v15 v16
      refine Eff.then ?_ (State.raise_eff _ _ _ _) (by decide)
      exact h11
    · rename_i v17 v18 v19 v20 e21
      refine Eff.then ?_ (State.raise_eff _ _ _ _) (by decide)
      exact h12
    · rename_i v22
      exact h9
  clear_value x8
  refine Eff.ite ?_ ?_
  · refine Eff.then ?_ (State.doTrip_eff _) (by decide)
    exact h13
  · exact h13

end Sys2Proof.Machine
end

