-- ==== Sys2Proof/Laws/EffMbox.lean ====
section
/-! SUPPORT. What the functions of Machine/Mbox.lean may change: bit i of a mask is component i of `Comp.idx`.
The theorems are checked one after another: each is small, and the joined text has many. -/

set_option Elab.async false

namespace Sys2Proof.Machine

theorem State.intStatusWrite_eff (s : State) (a1) :
    Eff 64 s (State.intStatusWrite s a1) := by
  unfold State.intStatusWrite
  refine Eff.foldl ?_ ?_
  · exact Eff.refl
  · intro p0 p1 h2
    try beta_reduce
    refine Eff.ite ?_ ?_
    · refine Eff.then ?_ (State.setF_eff _ _ _) (by decide)
      exact h2
    · exact h2

theorem State.intEnableWrite_eff (s : State) (a1) :
    Eff 68 s (State.intEnableWrite s a1) := by
  unfold State.intEnableWrite
  extract_lets -merge x0 x1
  clear_value x0
  have h2 : Eff 68 s x1 := by
    subst x1
    refine Eff.then ?_ (State.setReg_eff _ _ _) (by decide)
    exact Eff.refl
  clear_value x1
  refine Eff.foldl ?_ ?_
  · exact h2
  · intro p3 p4 h5
    try beta_reduce
    refine Eff.ite ?_ ?_
    · refine Eff.then ?_ (State.sendIrq_eff _ _) (by decide)
      exact h5
    · exact h5

theorem execGlbIntStatusWrite_eff (a0) (a1) (s : State) :
    EffX 64 s (execGlbIntStatusWrite a0 a1 s) := by
  unfold execGlbIntStatusWrite
  refine whileUp_eff ?_ ?_
  · exact Eff.refl
  · intro p0 h1
    try beta_reduce
    refine State.when_eff ?_ ?_
    · exact h1
    · intro p2 h3
      try beta_reduce
      refine Eff.then ?_ (State.intStatusWrite_eff _ _) (by decide)
      exact h3

theorem execGlbIntEnableWrite_eff (a0) (a1) (s : State) :
    EffX 68 s (execGlbIntEnableWrite a0 a1 s) := by
  unfold execGlbIntEnableWrite
  refine whileUp_eff ?_ ?_
  · exact Eff.refl
  · intro p0 h1
    try beta_reduce
    refine State.when_eff ?_ ?_
    · exact h1
    · intro p2 h3
      try beta_reduce
      refine Eff.then ?_ (State.intEnableWrite_eff _ _) (by decide)
      exact h3

theorem execMboxOwnerRead_eff (a0) (s : State) :
    EffX 536870916 s (execMboxOwnerRead a0 s) := by
  unfold execMboxOwnerRead
  refine whileUp_eff ?_ ?_
  · exact Eff.refl
  · intro p0 h1
    try beta_reduce
    refine Eff.ite ?_ ?_
    · refine Eff.then ?_ (State.send_eff _ _) (by decide)
      exact h1
    · extract_lets -merge x2 x3
      clear_value x2
      have h4 : Eff 536870916 s x3 := by
        subst x3
        refine Eff.ite ?_ ?_
        · refine Eff.then ?_ (upd_mbox _ _) (by decide)
          exact h1
        · exact h1
      clear_value x3
      refine Eff.then ?_ (State.send_eff _ _) (by decide)
      exact h4

theorem State.mboxFree_eff (s : State) :
    Eff 536870912 s (State.mboxFree s) := by
  unfold State.mboxFree
  refine Eff.ite ?_ ?_
  · refine Eff.then ?_ (upd_mbox _ _) (by decide)
    exact Eff.refl
  · refine Eff.then ?_ (upd_mbox _ _) (by decide)
    exact Eff.refl

theorem execMboxRelease_eff (a0) (s : State) :
    EffX 536870912 s (execMboxRelease a0 s) := by
  unfold execMboxRelease
  refine whileUp_eff ?_ ?_
  · exact Eff.refl
  · intro p0 h1
    try beta_reduce
    refine State.when_eff ?_ ?_
    · exact h1
    · intro p2 h3
      try beta_reduce
      refine Eff.then ?_ (State.mboxFree_eff _) (by decide)
      exact h3

theorem outState_eff {w : Nat} {r s : State} {o : Res} (h : Eff w r s) (hx : EffX w r o) : Eff w r (outState s o) := by
  unfold outState
  split
  · exact hx _ rfl
  · exact h

theorem State.ownerRun_eff (s : State) (a1) (a2) (a3) :
    Eff 2128330574 s (State.ownerRun s a1 a2 a3) := by
  unfold State.ownerRun
  extract_lets -merge x0 x1 x2
  clear_value x0
  clear_value x1
  clear_value x2
  refine Eff.ite ?_ ?_
  · refine Eff.ite ?_ ?_
    · refine State.stewardCmd_eff ?_ ?_
      · exact Eff.refl
      · intro p3 h4
        try beta_reduce
        exact h4
    · refine State.owner1_eff ?_ ?_
      · exact Eff.refl
      · intro p5 h6
        try beta_reduce
        exact h6
  · refine outState_eff ?_ ?_
    · exact Eff.refl
    · split
      · rename_i v7
        refine EffX.then ?_ (execDomainCreate_eff _ _ _ _) (by decide)
        exact Eff.refl
      · rename_i v8
        refine EffX.then ?_ (execDomainDestroy_eff _ _ _) (by decide)
        exact Eff.refl
      · rename_i v9
        refine EffX.then ?_ (execLdMapSet_eff _ _ _ _ _) (by decide)
        exact Eff.refl
      · rename_i v10
        refine EffX.then ?_ (execWindowMap_eff _ _ _ _ _) (by decide)
        exact Eff.refl
      · rename_i v11
        refine EffX.then ?_ (execLdMgmtSet_eff _ _ _ _ _) (by decide)
        exact Eff.refl
      · rename_i v12
        refine EffX.then ?_ (execCtxAssign_eff _ _ _ _ _ _ _) (by decide)
        exact Eff.refl
      · rename_i v13
        refine EffX.then ?_ (execCtxDisable_eff _ _ _ _) (by decide)
        exact Eff.refl
      · rename_i v14
        refine EffX.then ?_ (execCreateTable_eff _ _ _ _ _ _ _ _ _) (by decide)
        exact Eff.refl
      · rename_i v15
        refine EffX.then ?_ (execResizeTable_eff _ _ _ _ _) (by decide)
        exact Eff.refl
      · rename_i v16
        refine EffX.then ?_ (execDestroyTable_eff _ _ _) (by decide)
        exact Eff.refl
      · rename_i v17
        refine EffX.then ?_ (execMigrateTable_eff _ _ _ _) (by decide)
        exact Eff.refl
      · rename_i v18
        refine EffX.then ?_ (execTableCapture_eff _ _ _ _ _) (by decide)
        exact Eff.refl
      · rename_i v19
        refine EffX.then ?_ (execDirProfile_eff _ _ _ _) (by decide)
        exact Eff.refl
      · rename_i v20
        refine EffX.then ?_ (execBlockSpare_eff _ _ _) (by decide)
        exact Eff.refl
      · rename_i v21
        refine EffX.then ?_ (execTierSetPolicy_eff _ _ _ _ _ _ _) (by decide)
        exact Eff.refl
      · rename_i v22
        refine EffX.then ?_ (execTierPin_eff _ _ _ _ _) (by decide)
        exact Eff.refl
      · rename_i v23
        refine EffX.then ?_ (execTierUnpin_eff _ _ _ _ _) (by decide)
        exact Eff.refl
      · rename_i v24
        refine EffX.then ?_ (execTierOffer_eff _ _ _ _ _) (by decide)
        exact Eff.refl
      · rename_i v25
        refine EffX.then ?_ (execKeyRotate_eff _ _ _ _) (by decide)
        exact Eff.refl
      · rename_i v26
        refine EffX.then ?_ (execChanRetire_eff _ _ _) (by decide)
        exact Eff.refl
      · rename_i v27
        refine EffX.then ?_ (execRankRetrain_eff _ _ _ _ _) (by decide)
        exact Eff.refl
      · rename_i v28
        refine EffX.then ?_ (execRestoreFactory_eff _ _) (by decide)
        exact Eff.refl
      · rename_i v29
        refine EffX.then ?_ (execMirrorRegion_eff _ _ _ _ _ _) (by decide)
        exact Eff.refl
      · rename_i v30
        refine EffX.then ?_ (execPairBench_eff _ _) (by decide)
        exact Eff.refl
      · rename_i v31
        refine EffX.then ?_ (execPairJoin_eff _ _) (by decide)
        exact Eff.refl
      · rename_i v32
        refine EffX.then ?_ (execDeviceReset_eff _ _ _) (by decide)
        exact Eff.refl
      · rename_i v33 e34 e35 e36 e37 e38 e39 e40 e41 e42 e43 e44 e45 e46 e47 e48 e49 e50 e51 e52 e53 e54 e55 e56 e57 e58 e59
        refine EffX.then ?_ (execFwSvnCommit_eff _ _) (by decide)
        exact Eff.refl

theorem State.ownerTake_eff (s : State) :
    Eff 2128330574 s (State.ownerTake s) := by
  unfold State.ownerTake
  refine Eff.ite ?_ ?_
  · exact Eff.refl
  · extract_lets -merge x0 x1 x2 x3
    clear_value x0
    have h4 : ∀ p0, Eff 2128330574 s (x1 p0) := by
      subst x1
      intro p5
      try beta_reduce
      refine Eff.then ?_ (State.ownerRun_eff _ _ _ _) (by decide)
      refine Eff.then ?_ (upd_mbox _ _) (by decide)
      exact Eff.refl
    clear_value x1
    clear_value x2
    have h6 : ∀ p0, Eff 2128330574 s (x3 p0) := by
      subst x3
      intro p7
      try beta_reduce
      refine Eff.then ?_ (State.ownerRun_eff _ _ _ _) (by decide)
      refine Eff.then ?_ (upd_mbox _ _) (by decide)
      exact Eff.refl
    clear_value x3
    split
    · rename_i v8 v9 v10 v11 v12 e13 e14
      refine Eff.ite ?_ ?_
      · refine h4 _
      · refine h6 _
    · rename_i v15 v16 v17 e18 e19
      refine h4 _
    · rename_i v20 v21 v22 v23 e24 e25
      refine h6 _
    · rename_i v26 v27 e28 e29
      exact Eff.refl

theorem State.ownerPublish_eff (s : State) (a1) :
    Eff 805306436 s (State.ownerPublish s a1) := by
  unfold State.ownerPublish
  extract_lets -merge x0 x1 x2 x3 x4 x5 x6 x7 x8 x9 x10
  clear_value x0
  clear_value x1
  have h11 : Eff 805306436 s x2 := by
    subst x2
    refine Eff.then ?_ (upd_mbox _ _) (by decide)
    exact Eff.refl
  clear_value x2
  clear_value x3
  have h12 : Eff 805306436 s x4 := by
    subst x4
    refine Eff.foldl ?_ ?_
    · exact h11
    · intro p13 p14 h15
      try beta_reduce
      refine Eff.then ?_ (State.setReg_eff _ _ _) (by decide)
      exact h15
  clear_value x4
  have h16 : Eff 805306436 s x5 := by
    subst x5
    refine Eff.then ?_ (State.setF_eff _ _ _) (by decide)
    refine Eff.then ?_ (State.setReg_eff _ _ _) (by decide)
    refine Eff.then ?_ (State.setF_eff _ _ _) (by decide)
    refine Eff.then ?_ (State.setF_eff _ _ _) (by decide)
    exact h12
  clear_value x5
  clear_value x6
  clear_value x7
  have h17 : Eff 805306436 s x8 := by
    subst x8
    refine Eff.then ?_ (upd_mbox _ _) (by decide)
    exact h16
  clear_value x8
  clear_value x9
  have h18 : Eff 805306436 s x10 := by
    subst x10
    refine Eff.ite ?_ ?_
    · refine Eff.then ?_ (upd_mbox _ _) (by decide)
      exact h11
    · exact h11
  clear_value x10
  split
  · rename_i v19 v20 e21
    refine Eff.then ?_ (State.setIrq_eff _ _) (by decide)
    exact h17
  · rename_i v22 v23 e24
    refine Eff.then ?_ (State.fmAns_eff _ _ _ _) (by decide)
    exact h18

theorem execOwnerCmdComplete_eff (s : State) :
    EffX 2128330574 s (execOwnerCmdComplete s) := by
  unfold execOwnerCmdComplete
  refine whileUp_eff ?_ ?_
  · exact Eff.refl
  · intro p0 h1
    try beta_reduce
    refine State.when_eff ?_ ?_
    · exact h1
    · intro p2 h3
      try beta_reduce
      extract_lets -merge x4
      have h5 : Eff 2128330574 s x4 := by
        subst x4
        refine Eff.ite ?_ ?_
        · refine Eff.then ?_ (State.ownerTake_eff _) (by decide)
          exact h3
        · exact h3
      clear_value x4
      split
      · rename_i v6 v7 v8 e9
        refine Eff.ite ?_ ?_
        · exact h5
        · refine Eff.then ?_ (State.ownerPublish_eff _ _) (by decide)
          exact h5
      · rename_i v10 e11
        exact h5

theorem execBar0BadAccess_eff (a0) (a1) (a2) (a3) (s : State) :
    EffX 68 s (execBar0BadAccess a0 a1 a2 a3 s) := by
  unfold execBar0BadAccess
  refine whileUp_eff ?_ ?_
  · exact Eff.refl
  · intro p0 h1
    try beta_reduce
    extract_lets -merge x2
    clear_value x2
    refine State.when_eff ?_ ?_
    · exact h1
    · intro p3 h4
      try beta_reduce
      extract_lets -merge x5
      have h6 : Eff 68 s x5 := by
        subst x5
        refine Eff.then ?_ (State.setF_eff _ _ _) (by decide)
        exact h4
      clear_value x5
      split
      · rename_i v7 v8 v9
        refine Eff.then ?_ (State.send_eff _ _) (by decide)
        exact h6
      · rename_i v10 v11 e12
        exact h6

theorem State.mboxCtrl_eff (s : State) (a1) (a2) (a3) :
    Eff 536870976 s (State.mboxCtrl s a1 a2 a3) := by
  unfold State.mboxCtrl
  refine Eff.ite ?_ ?_
  · exact Eff.refl
  · extract_lets -merge x0 x1 x2 x3
    have h4 : Eff 536870976 s x0 := by
      subst x0
      refine Eff.then ?_ (State.setF_eff _ _ _) (by decide)
      refine Eff.then ?_ (State.setF_eff _ _ _) (by decide)
      exact Eff.refl
    clear_value x0
    clear_value x1
    have h5 : Eff 536870976 s x2 := by
      subst x2
      refine Eff.then ?_ (State.setF_eff _ _ _) (by decide)
      exact h4
    clear_value x2
    clear_value x3
    refine Eff.ite ?_ ?_
    · refine Eff.then ?_ (upd_mbox _ _) (by decide)
      exact h5
    · exact h4

theorem State.ctxCtrl_eff (s : State) (a1) (a2) (a3) (a4) :
    EffX 403947336 s (State.ctxCtrl s a1 a2 a3 a4) := by
  unfold State.ctxCtrl
  extract_lets -merge x0
  clear_value x0
  refine EffX.ite ?_ ?_
  · refine EffX.then ?_ (execCtxResetWrite_eff _ _ _) (by decide)
    exact Eff.refl
  · refine EffX.ite ?_ ?_
    · refine EffX.next ?_
      exact Eff.refl
    · refine EffX.ite ?_ ?_
      · refine EffX.then ?_ (execCtxEnableWrite_eff _ _ _) (by decide)
        exact Eff.refl
      · refine EffX.then ?_ (execCtxDisableWrite_eff _ _ _) (by decide)
        exact Eff.refl

theorem State.chanWrite_eff {w : Nat} {r s p : State} {who c o m v x} (h : Eff w r s) (hp : Eff w r p)
    (hw : 67108928 &&& w = 67108928 := by decide) : EffX w r (s.chanWrite who c o m v x p) := by
  unfold State.chanWrite
  extract_lets ch
  refine EffX.ite (EffX.then h (execDrcTimingWrite_eff _ _ _ _ _) (mask_le (by decide) hw)) ?_
  refine EffX.ite (EffX.ite (EffX.then h (execTrnStart_eff _ _ _ _) (mask_le (by decide) hw)) (EffX.next hp)) ?_
  refine EffX.ite (EffX.then h (execDlyWrite_eff _ _ _ _ _ _ _) (mask_le (by decide) hw)) ?_
  refine EffX.ite (EffX.then h (execDlyWrite_eff _ _ _ _ _ _ _) (mask_le (by decide) hw)) ?_
  refine EffX.ite (EffX.ite (EffX.next h) (EffX.then h (execCalNudgeWrite_eff _ _ _ _ _) (mask_le (by decide) hw))) ?_
  refine EffX.ite ?_ (EffX.next hp)
  unfold State.chanWrite.execCalSnapIf
  exact EffX.ite (EffX.then hp (execCalSnap_eff _ _ _) (mask_le (by decide) hw)) (EffX.next hp)

theorem State.chanWrite.execCalSnapIf_eff (a0) (a1) (a2) (s : State) :
    EffX 67108928 s (State.chanWrite.execCalSnapIf a0 a1 a2 s) := by
  unfold State.chanWrite.execCalSnapIf
  refine EffX.ite ?_ ?_
  · refine EffX.then ?_ (execCalSnap_eff _ _ _) (by decide)
    exact Eff.refl
  · refine EffX.next ?_
    exact Eff.refl

theorem State.regWrite_eff (s : State) (a1) :
    EffX 4233871180 s (State.regWrite s a1) := by
  unfold State.regWrite
  split
  · rename_i v0 e1
    refine EffX.next ?_
    exact Eff.refl
  · rename_i v2 v3 v4 e5
    extract_lets -merge x6 x7 x8 x9 x10 x11 x12 x13
    clear_value x6
    clear_value x7
    clear_value x8
    have h14 : Eff 4233871180 s x9 := by
      subst x9
      refine Eff.then ?_ (State.setReg_eff _ _ _) (by decide)
      exact Eff.refl
    clear_value x9
    clear_value x10
    have h15 : Eff 4233871180 s x11 := by
      subst x11
      refine Eff.then ?_ (State.setF_eff _ _ _) (by decide)
      exact Eff.refl
    clear_value x11
    clear_value x12
    clear_value x13
    refine EffX.ite ?_ ?_
    · refine EffX.next ?_
      exact Eff.refl
    · refine EffX.ite ?_ ?_
      · refine EffX.then ?_ (execGlbIntStatusWrite_eff _ _ _) (by decide)
        exact Eff.refl
      · refine EffX.ite ?_ ?_
        · refine EffX.then ?_ (execGlbIntEnableWrite_eff _ _ _) (by decide)
          exact Eff.refl
        · refine EffX.ite ?_ ?_
          · refine EffX.next ?_
            refine Eff.then ?_ (State.evtCheck_eff _) (by decide)
            exact h14
          · refine EffX.ite ?_ ?_
            · refine EffX.ite ?_ ?_
              · refine EffX.then ?_ (execLockSet_eff _ _) (by decide)
                exact Eff.refl
              · refine EffX.next ?_
                exact Eff.refl
            · refine EffX.ite ?_ ?_
              · refine EffX.ite ?_ ?_
                · refine EffX.then ?_ (execFwConfirm_eff _ _) (by decide)
                  exact h14
                · refine EffX.next ?_
                  exact h14
              · refine EffX.ite ?_ ?_
                · refine EffX.ite ?_ ?_
                  · refine EffX.then ?_ (execCompatProfileWrite_eff _ _ _) (by decide)
                    exact Eff.refl
                  · refine EffX.next ?_
                    exact Eff.refl
                · refine EffX.ite ?_ ?_
                  · refine EffX.next ?_
                    refine Eff.then ?_ (State.setFloor_eff _) (by decide)
                    exact h14
                  · refine EffX.ite ?_ ?_
                    · refine EffX.next ?_
                      refine Eff.ite ?_ ?_
                      · refine Eff.then ?_ (upd_pins _ _) (by decide)
                        exact h15
                      · exact Eff.refl
                    · refine EffX.ite ?_ ?_
                      · refine EffX.ite ?_ ?_
                        · refine EffX.then ?_ (execFixApply_eff _ _) (by decide)
                          exact Eff.refl
                        · refine EffX.next ?_
                          exact Eff.refl
                      · refine EffX.ite ?_ ?_
                        · refine EffX.ite ?_ ?_
                          · refine EffX.then ?_ (execArbPortMaskWrite_eff _ _ _ _) (by decide)
                            exact Eff.refl
                          · refine EffX.next ?_
                            exact Eff.refl
                        · refine EffX.ite ?_ ?_
                          · refine EffX.next ?_
                            refine Eff.ite ?_ ?_
                            · exact Eff.refl
                            · refine Eff.then ?_ (State.maintWrite_eff _ _ _ _) (by decide)
                              exact Eff.refl
                          · refine EffX.ite ?_ ?_
                            · refine EffX.next ?_
                              refine Eff.ite ?_ ?_
                              · exact Eff.refl
                              · exact h14
                            · refine EffX.ite ?_ ?_
                              · refine EffX.ite ?_ ?_
                                · refine EffX.then ?_ (execMaintEvictSeedWrite_eff _ _ _) (by decide)
                                  exact Eff.refl
                                · refine EffX.next ?_
                                  exact Eff.refl
                              · refine EffX.ite ?_ ?_
                                · refine EffX.then ?_ (execRngEnableWrite_eff _ _ _) (by decide)
                                  exact Eff.refl
                                · refine EffX.ite ?_ ?_
                                  · refine EffX.ite ?_ ?_
                                    · refine EffX.then ?_ (State.ctxCtrl_eff _ _ _ _ _) (by decide)
                                      exact Eff.refl
                                    · refine EffX.next ?_
                                      refine Eff.ite ?_ ?_
                                      · exact h14
                                      · exact Eff.refl
                                  · refine EffX.ite ?_ ?_
                                    · refine EffX.then ?_ (execMapValidWrite_eff _ _ _) (by decide)
                                      exact Eff.refl
                                    · refine EffX.ite ?_ ?_
                                      · refine EffX.next ?_
                                        refine Eff.ite ?_ ?_
                                        · exact Eff.refl
                                        · exact h14
                                      · refine EffX.ite ?_ ?_
                                        · refine EffX.then ?_ (execQosClassWrite_eff _ _ _) (by decide)
                                          exact Eff.refl
                                        · refine EffX.ite ?_ ?_
                                          · refine State.chanWrite_eff ?_ ?_
                                            · exact Eff.refl
                                            · exact h14
                                          · refine EffX.ite ?_ ?_
                                            · refine EffX.then ?_ (execLinkGo_eff _ _ _) (by decide)
                                              exact Eff.refl
                                            · refine EffX.ite ?_ ?_
                                              · refine EffX.then ?_ (execRasEvtConsWrite_eff _ _ _) (by decide)
                                                exact Eff.refl
                                              · refine EffX.ite ?_ ?_
                                                · refine EffX.then ?_ (execMpWdogKick_eff _ _ _) (by decide)
                                                  exact Eff.refl
                                                · refine EffX.ite ?_ ?_
                                                  · refine EffX.then ?_ (execRasInjGo_eff _ _ _) (by decide)
                                                    exact Eff.refl
                                                  · refine EffX.ite ?_ ?_
                                                    · refine EffX.next ?_
                                                      refine Eff.then ?_ (State.mboxCtrl_eff _ _ _ _) (by decide)
                                                      exact Eff.refl
                                                    · refine EffX.ite ?_ ?_
                                                      · split
                                                        · rename_i v16 v17 e18
                                                          refine EffX.ite ?_ ?_
                                                          · refine EffX.then ?_ (execMboxRelease_eff _ _) (by decide)
                                                            exact Eff.refl
                                                          · refine EffX.next ?_
                                                            exact Eff.refl
                                                        · rename_i v19 e20
                                                          refine EffX.next ?_
                                                          exact Eff.refl
                                                      · refine EffX.ite ?_ ?_
                                                        · refine EffX.next ?_
                                                          refine Eff.ite ?_ ?_
                                                          · exact h14
                                                          · exact Eff.refl
                                                        · refine EffX.next ?_
                                                          exact h14

theorem State.applyWrites_eff (s : State) :
    Eff 4233871308 s (State.applyWrites s) := by
  unfold State.applyWrites
  extract_lets -merge x0
  clear_value x0
  refine Eff.foldl ?_ ?_
  · refine Eff.then ?_ (upd_regW _ _) (by decide)
    exact Eff.refl
  · intro p1 p2 h3
    try beta_reduce
    refine outState_eff ?_ ?_
    · exact h3
    · refine EffX.then ?_ (State.regWrite_eff _ _) (by decide)
      exact h3

theorem execRegisterWrite_eff (a0) (a1) (a2) (a3) (s : State) :
    EffX 192 s (execRegisterWrite a0 a1 a2 a3 s) := by
  unfold execRegisterWrite
  refine whileUp_eff Eff.refl (fun x h => State.when_eff h (fun y h => ?_))
  refine Eff.ite (Eff.then h (State.setF_eff _ _ _) (by decide)) ?_
  exact Eff.then h (upd_regW _ _) (by decide)

end Sys2Proof.Machine
end

