-- ==== Sys2Proof/Laws/EffTick.lean ====
section
/-! SUPPORT. What the functions of Machine/Tick.lean may change: bit i of a mask is component i of `Comp.idx`.
The theorems are checked one after another: each is small, and the joined text has many. -/

set_option Elab.async false

namespace Sys2Proof.Machine

theorem State.deliverClose_eff (s : State) :
    Eff 135272776 s (State.deliverClose s) := by
  unfold State.deliverClose
  refine Eff.foldl ?_ ?_
  · exact Eff.refl
  · intro p0 p1 h2
    try beta_reduce
    refine Eff.then ?_ (State.passDeliver_eff _ _) (by decide)
    refine Eff.then ?_ (State.cascadeMerge_eff _ _) (by decide)
    refine Eff.then ?_ (State.searchDeliver_eff _ _) (by decide)
    exact h2

theorem State.closeTick_eff (s : State) :
    Eff 534773598 s (State.closeTick s) := by
  unfold State.closeTick
  extract_lets -merge x0 x1 x2 x3 x4 x5 x6 x7
  have h8 : Eff 534773598 s x0 := by
    subst x0
    refine Eff.then ?_ (State.commitAll_eff _ _ _) (by decide)
    refine Eff.then ?_ (State.leaseClose_eff _) (by decide)
    refine Eff.then ?_ (State.settleClaims_eff _) (by decide)
    exact Eff.refl
  clear_value x0
  have h9 : Eff 534773598 s x1 := by
    subst x1
    refine Eff.then ?_ (State.commitAll_eff _ _ _) (by decide)
    refine Eff.then ?_ (State.mirAll_eff _ _) (by decide)
    exact h8
  clear_value x1
  have h10 : Eff 534773598 s x2 := by
    subst x2
    refine Eff.then ?_ (State.mirrorGrants_eff _ _) (by decide)
    exact h9
  clear_value x2
  have h11 : Eff 534773598 s x3 := by
    subst x3
    refine Eff.then ?_ (State.frameCascade_eff _ _) (by decide)
    exact h10
  clear_value x3
  have h12 : Eff 534773598 s x4 := by
    subst x4
    refine Eff.then ?_ (State.clearTick_eff _) (by decide)
    refine Eff.then ?_ (State.endsClose_eff _) (by decide)
    refine Eff.then ?_ (State.queueClose_eff _) (by decide)
    refine Eff.then ?_ (State.deliverClose_eff _) (by decide)
    refine Eff.then ?_ (State.judge_eff _) (by decide)
    refine Eff.then ?_ (State.arrayClose_eff _) (by decide)
    exact h11
  clear_value x4
  have h13 : Eff 534773598 s x5 := by
    subst x5
    refine Eff.then ?_ (State.dramTick_eff _) (by decide)
    refine Eff.then ?_ (State.scanAll_eff _) (by decide)
    exact h12
  clear_value x5
  have h14 : Eff 534773598 s x6 := by
    subst x6
    refine Eff.ite ?_ ?_
    · refine Eff.then ?_ (State.headroom_eff _) (by decide)
      exact h13
    · exact h13
  clear_value x6
  have h15 : Eff 534773598 s x7 := by
    subst x7
    refine Eff.then ?_ (State.startPromos_eff _) (by decide)
    refine Eff.then ?_ (State.releaseSteps_eff _) (by decide)
    refine Eff.then ?_ (State.retrainStep_eff _) (by decide)
    refine Eff.then ?_ (State.evacStep_eff _) (by decide)
    exact h14
  clear_value x7
  refine Eff.then ?_ (State.tallyTick_eff _) (by decide)
  refine Eff.then ?_ (State.linkTick_eff _) (by decide)
  refine Eff.then ?_ (State.fwdRetry_eff _) (by decide)
  refine Eff.then ?_ (State.resyncTick_eff _) (by decide)
  refine Eff.then ?_ (State.joinStep_eff _) (by decide)
  refine Eff.then ?_ (State.mirBuilt_eff _) (by decide)
  exact h15

theorem State.openTick_eff (s : State) :
    Eff 4275830766 s (State.openTick s) := by
  unfold State.openTick
  extract_lets -merge x0 x1 x2 x3 x4
  have h5 : Eff 4275830766 s x0 := by
    subst x0
    refine Eff.then ?_ (upd_tick _ _) (by decide)
    exact Eff.refl
  clear_value x0
  have h6 : Eff 4275830766 s x1 := by
    subst x1
    refine Eff.then ?_ (State.thermTick_eff _) (by decide)
    exact h5
  clear_value x1
  have h7 : Eff 4275830766 s x2 := by
    subst x2
    refine Eff.then ?_ (State.releaseHolds_eff _) (by decide)
    refine Eff.then ?_ (State.freeLeft_eff _) (by decide)
    refine Eff.then ?_ (State.widenDue_eff _) (by decide)
    refine Eff.then ?_ (State.blkDue_eff _) (by decide)
    refine Eff.then ?_ (State.applyWrites_eff _) (by decide)
    exact h6
  clear_value x2
  have h8 : Eff 4275830766 s x3 := by
    subst x3
    refine Eff.then ?_ (State.mirOpen_eff _ _) (by decide)
    exact h7
  clear_value x3
  have h9 : Eff 4275830766 s x4 := by
    subst x4
    refine Eff.ite ?_ ?_
    · exact h8
    · refine Eff.then ?_ (State.settleWithdrawn_eff _) (by decide)
      refine Eff.then ?_ (State.arbitrate_eff _ _ _) (by decide)
      refine Eff.then ?_ (State.refreshCopies_eff _) (by decide)
      refine Eff.then ?_ (State.queueOpen_eff _) (by decide)
      exact h8
  clear_value x4
  refine Eff.ite ?_ ?_
  · exact h6
  · refine Eff.then ?_ (State.evtCheck_eff _) (by decide)
    refine Eff.then ?_ (State.maintRetry_eff _) (by decide)
    refine Eff.then ?_ (State.settleWindows_eff _) (by decide)
    refine Eff.then ?_ (State.fillBanks_eff _ _) (by decide)
    exact h9

theorem execTick_eff (s : State) :
    EffX 4292870142 s (execTick s) := by
  unfold execTick
  refine EffX.next ?_
  refine Eff.ite ?_ ?_
  · exact Eff.refl
  · refine Eff.ite ?_ ?_
    · refine Eff.then ?_ (upd_tick _ _) (by decide)
      exact Eff.refl
    · refine Eff.then ?_ (State.openTick_eff _) (by decide)
      refine Eff.then ?_ (State.closeTick_eff _) (by decide)
      exact Eff.refl

end Sys2Proof.Machine
end

