-- ==== Sys2Proof/Laws/State.lean ====
section
/-! SUPPORT. What each named update leaves of the state: one lemma per update and component, and the readers over updates. -/

set_option Elab.async false

namespace Sys2Proof.Machine

theorem State.reg_congr {s t : State} (h : t.regs = s.regs) (o : Nat) : t.reg o = s.reg o := by unfold State.reg; rw [h]
theorem State.f_congr {s t : State} (h : t.regs = s.regs) (x : F) : t.f x = s.f x := by unfold State.f; rw [State.reg_congr h]
theorem State.up_congr {s t : State} (h : t.pins = s.pins) : t.up = s.up := by unfold State.up; rw [h]
theorem State.ld_congr {s t : State} (h : t.lds = s.lds) (n : Nat) : t.ld n = s.ld n := by unfold State.ld; rw [h]
theorem State.tb_congr {s t : State} (h : t.tbl = s.tbl) (n : Nat) : t.tb n = s.tb n := by unfold State.tb; rw [h]
theorem State.cx_congr {s t : State} (h : t.ctx = s.ctx) (n : Nat) : t.cx n = s.cx n := by unfold State.cx; rw [h]
theorem State.qp_congr {s t : State} (h : t.mq = s.mq) (n : Nat) : t.qp n = s.qp n := by unfold State.qp; rw [h]

@[simp] theorem State.setReg_pending (s : State) (o w) : (s.setReg o w).pending = s.pending := rfl
@[simp] theorem State.setReg_freeIdx (s : State) (o w) : (s.setReg o w).freeIdx = s.freeIdx := rfl
@[simp] theorem State.setReg_sent (s : State) (o w) : (s.setReg o w).sent = s.sent := rfl
@[simp] theorem State.setReg_inbox (s : State) (o w) : (s.setReg o w).inbox = s.inbox := rfl
@[simp] theorem State.setReg_ids (s : State) (o w) : (s.setReg o w).ids = s.ids := rfl
@[simp] theorem State.setReg_tick (s : State) (o w) : (s.setReg o w).tick = s.tick := rfl
@[simp] theorem State.setReg_regW (s : State) (o w) : (s.setReg o w).regW = s.regW := rfl
@[simp] theorem State.setReg_arb (s : State) (o w) : (s.setReg o w).arb = s.arb := rfl
@[simp] theorem State.setReg_arr (s : State) (o w) : (s.setReg o w).arr = s.arr := rfl
@[simp] theorem State.setReg_tbl (s : State) (o w) : (s.setReg o w).tbl = s.tbl := rfl
@[simp] theorem State.setReg_mnt (s : State) (o w) : (s.setReg o w).mnt = s.mnt := rfl
@[simp] theorem State.setReg_mq (s : State) (o w) : (s.setReg o w).mq = s.mq := rfl
@[simp] theorem State.setReg_lrn (s : State) (o w) : (s.setReg o w).lrn = s.lrn := rfl
@[simp] theorem State.setReg_dir (s : State) (o w) : (s.setReg o w).dir = s.dir := rfl
@[simp] theorem State.setReg_trie (s : State) (o w) : (s.setReg o w).trie = s.trie := rfl
@[simp] theorem State.setReg_dsram (s : State) (o w) : (s.setReg o w).dsram = s.dsram := rfl
@[simp] theorem State.setReg_rng (s : State) (o w) : (s.setReg o w).rng = s.rng := rfl
@[simp] theorem State.setReg_prt (s : State) (o w) : (s.setReg o w).prt = s.prt := rfl
@[simp] theorem State.setReg_lds (s : State) (o w) : (s.setReg o w).lds = s.lds := rfl
@[simp] theorem State.setReg_ctx (s : State) (o w) : (s.setReg o w).ctx = s.ctx := rfl
@[simp] theorem State.setReg_heldReads (s : State) (o w) : (s.setReg o w).heldReads = s.heldReads := rfl
@[simp] theorem State.setReg_tier (s : State) (o w) : (s.setReg o w).tier = s.tier := rfl
@[simp] theorem State.setReg_mem (s : State) (o w) : (s.setReg o w).mem = s.mem := rfl
@[simp] theorem State.setReg_host (s : State) (o w) : (s.setReg o w).host = s.host := rfl
@[simp] theorem State.setReg_dram (s : State) (o w) : (s.setReg o w).dram = s.dram := rfl
@[simp] theorem State.setReg_trn (s : State) (o w) : (s.setReg o w).trn = s.trn := rfl
@[simp] theorem State.setReg_pair (s : State) (o w) : (s.setReg o w).pair = s.pair := rfl
@[simp] theorem State.setReg_ras (s : State) (o w) : (s.setReg o w).ras = s.ras := rfl
@[simp] theorem State.setReg_mbox (s : State) (o w) : (s.setReg o w).mbox = s.mbox := rfl
@[simp] theorem State.setReg_life (s : State) (o w) : (s.setReg o w).life = s.life := rfl
@[simp] theorem State.setReg_pins (s : State) (o w) : (s.setReg o w).pins = s.pins := rfl
@[simp] theorem State.setReg_up (s : State) (o w) : (s.setReg o w).up = s.up := 
  State.up_congr (State.setReg_pins ..)
@[simp] theorem State.setF_pending (s : State) (x v) : (s.setF x v).pending = s.pending := rfl
@[simp] theorem State.setF_freeIdx (s : State) (x v) : (s.setF x v).freeIdx = s.freeIdx := rfl
@[simp] theorem State.setF_sent (s : State) (x v) : (s.setF x v).sent = s.sent := rfl
@[simp] theorem State.setF_inbox (s : State) (x v) : (s.setF x v).inbox = s.inbox := rfl
@[simp] theorem State.setF_ids (s : State) (x v) : (s.setF x v).ids = s.ids := rfl
@[simp] theorem State.setF_tick (s : State) (x v) : (s.setF x v).tick = s.tick := rfl
@[simp] theorem State.setF_regW (s : State) (x v) : (s.setF x v).regW = s.regW := rfl
@[simp] theorem State.setF_arb (s : State) (x v) : (s.setF x v).arb = s.arb := rfl
@[simp] theorem State.setF_arr (s : State) (x v) : (s.setF x v).arr = s.arr := rfl
@[simp] theorem State.setF_tbl (s : State) (x v) : (s.setF x v).tbl = s.tbl := rfl
@[simp] theorem State.setF_mnt (s : State) (x v) : (s.setF x v).mnt = s.mnt := rfl
@[simp] theorem State.setF_mq (s : State) (x v) : (s.setF x v).mq = s.mq := rfl
@[simp] theorem State.setF_lrn (s : State) (x v) : (s.setF x v).lrn = s.lrn := rfl
@[simp] theorem State.setF_dir (s : State) (x v) : (s.setF x v).dir = s.dir := rfl
@[simp] theorem State.setF_trie (s : State) (x v) : (s.setF x v).trie = s.trie := rfl
@[simp] theorem State.setF_dsram (s : State) (x v) : (s.setF x v).dsram = s.dsram := rfl
@[simp] theorem State.setF_rng (s : State) (x v) : (s.setF x v).rng = s.rng := rfl
@[simp] theorem State.setF_prt (s : State) (x v) : (s.setF x v).prt = s.prt := rfl
@[simp] theorem State.setF_lds (s : State) (x v) : (s.setF x v).lds = s.lds := rfl
@[simp] theorem State.setF_ctx (s : State) (x v) : (s.setF x v).ctx = s.ctx := rfl
@[simp] theorem State.setF_heldReads (s : State) (x v) : (s.setF x v).heldReads = s.heldReads := rfl
@[simp] theorem State.setF_tier (s : State) (x v) : (s.setF x v).tier = s.tier := rfl
@[simp] theorem State.setF_mem (s : State) (x v) : (s.setF x v).mem = s.mem := rfl
@[simp] theorem State.setF_host (s : State) (x v) : (s.setF x v).host = s.host := rfl
@[simp] theorem State.setF_dram (s : State) (x v) : (s.setF x v).dram = s.dram := rfl
@[simp] theorem State.setF_trn (s : State) (x v) : (s.setF x v).trn = s.trn := rfl
@[simp] theorem State.setF_pair (s : State) (x v) : (s.setF x v).pair = s.pair := rfl
@[simp] theorem State.setF_ras (s : State) (x v) : (s.setF x v).ras = s.ras := rfl
@[simp] theorem State.setF_mbox (s : State) (x v) : (s.setF x v).mbox = s.mbox := rfl
@[simp] theorem State.setF_life (s : State) (x v) : (s.setF x v).life = s.life := rfl
@[simp] theorem State.setF_pins (s : State) (x v) : (s.setF x v).pins = s.pins := rfl
@[simp] theorem State.setF_up (s : State) (x v) : (s.setF x v).up = s.up := 
  State.up_congr (State.setF_pins ..)
@[simp] theorem State.inc_pending (s : State) (x k) : (s.inc x k).pending = s.pending := rfl
@[simp] theorem State.inc_freeIdx (s : State) (x k) : (s.inc x k).freeIdx = s.freeIdx := rfl
@[simp] theorem State.inc_sent (s : State) (x k) : (s.inc x k).sent = s.sent := rfl
@[simp] theorem State.inc_inbox (s : State) (x k) : (s.inc x k).inbox = s.inbox := rfl
@[simp] theorem State.inc_ids (s : State) (x k) : (s.inc x k).ids = s.ids := rfl
@[simp] theorem State.inc_tick (s : State) (x k) : (s.inc x k).tick = s.tick := rfl
@[simp] theorem State.inc_regW (s : State) (x k) : (s.inc x k).regW = s.regW := rfl
@[simp] theorem State.inc_arb (s : State) (x k) : (s.inc x k).arb = s.arb := rfl
@[simp] theorem State.inc_arr (s : State) (x k) : (s.inc x k).arr = s.arr := rfl
@[simp] theorem State.inc_tbl (s : State) (x k) : (s.inc x k).tbl = s.tbl := rfl
@[simp] theorem State.inc_mnt (s : State) (x k) : (s.inc x k).mnt = s.mnt := rfl
@[simp] theorem State.inc_mq (s : State) (x k) : (s.inc x k).mq = s.mq := rfl
@[simp] theorem State.inc_lrn (s : State) (x k) : (s.inc x k).lrn = s.lrn := rfl
@[simp] theorem State.inc_dir (s : State) (x k) : (s.inc x k).dir = s.dir := rfl
@[simp] theorem State.inc_trie (s : State) (x k) : (s.inc x k).trie = s.trie := rfl
@[simp] theorem State.inc_dsram (s : State) (x k) : (s.inc x k).dsram = s.dsram := rfl
@[simp] theorem State.inc_rng (s : State) (x k) : (s.inc x k).rng = s.rng := rfl
@[simp] theorem State.inc_prt (s : State) (x k) : (s.inc x k).prt = s.prt := rfl
@[simp] theorem State.inc_lds (s : State) (x k) : (s.inc x k).lds = s.lds := rfl
@[simp] theorem State.inc_ctx (s : State) (x k) : (s.inc x k).ctx = s.ctx := rfl
@[simp] theorem State.inc_heldReads (s : State) (x k) : (s.inc x k).heldReads = s.heldReads := rfl
@[simp] theorem State.inc_tier (s : State) (x k) : (s.inc x k).tier = s.tier := rfl
@[simp] theorem State.inc_mem (s : State) (x k) : (s.inc x k).mem = s.mem := rfl
@[simp] theorem State.inc_host (s : State) (x k) : (s.inc x k).host = s.host := rfl
@[simp] theorem State.inc_dram (s : State) (x k) : (s.inc x k).dram = s.dram := rfl
@[simp] theorem State.inc_trn (s : State) (x k) : (s.inc x k).trn = s.trn := rfl
@[simp] theorem State.inc_pair (s : State) (x k) : (s.inc x k).pair = s.pair := rfl
@[simp] theorem State.inc_ras (s : State) (x k) : (s.inc x k).ras = s.ras := rfl
@[simp] theorem State.inc_mbox (s : State) (x k) : (s.inc x k).mbox = s.mbox := rfl
@[simp] theorem State.inc_life (s : State) (x k) : (s.inc x k).life = s.life := rfl
@[simp] theorem State.inc_pins (s : State) (x k) : (s.inc x k).pins = s.pins := rfl
@[simp] theorem State.inc_up (s : State) (x k) : (s.inc x k).up = s.up := 
  State.up_congr (State.inc_pins ..)
@[simp] theorem State.incMod_pending (s : State) (x k) : (s.incMod x k).pending = s.pending := rfl
@[simp] theorem State.incMod_freeIdx (s : State) (x k) : (s.incMod x k).freeIdx = s.freeIdx := rfl
@[simp] theorem State.incMod_sent (s : State) (x k) : (s.incMod x k).sent = s.sent := rfl
@[simp] theorem State.incMod_inbox (s : State) (x k) : (s.incMod x k).inbox = s.inbox := rfl
@[simp] theorem State.incMod_ids (s : State) (x k) : (s.incMod x k).ids = s.ids := rfl
@[simp] theorem State.incMod_tick (s : State) (x k) : (s.incMod x k).tick = s.tick := rfl
@[simp] theorem State.incMod_regW (s : State) (x k) : (s.incMod x k).regW = s.regW := rfl
@[simp] theorem State.incMod_arb (s : State) (x k) : (s.incMod x k).arb = s.arb := rfl
@[simp] theorem State.incMod_arr (s : State) (x k) : (s.incMod x k).arr = s.arr := rfl
@[simp] theorem State.incMod_tbl (s : State) (x k) : (s.incMod x k).tbl = s.tbl := rfl
@[simp] theorem State.incMod_mnt (s : State) (x k) : (s.incMod x k).mnt = s.mnt := rfl
@[simp] theorem State.incMod_mq (s : State) (x k) : (s.incMod x k).mq = s.mq := rfl
@[simp] theorem State.incMod_lrn (s : State) (x k) : (s.incMod x k).lrn = s.lrn := rfl
@[simp] theorem State.incMod_dir (s : State) (x k) : (s.incMod x k).dir = s.dir := rfl
@[simp] theorem State.incMod_trie (s : State) (x k) : (s.incMod x k).trie = s.trie := rfl
@[simp] theorem State.incMod_dsram (s : State) (x k) : (s.incMod x k).dsram = s.dsram := rfl
@[simp] theorem State.incMod_rng (s : State) (x k) : (s.incMod x k).rng = s.rng := rfl
@[simp] theorem State.incMod_prt (s : State) (x k) : (s.incMod x k).prt = s.prt := rfl
@[simp] theorem State.incMod_lds (s : State) (x k) : (s.incMod x k).lds = s.lds := rfl
@[simp] theorem State.incMod_ctx (s : State) (x k) : (s.incMod x k).ctx = s.ctx := rfl
@[simp] theorem State.incMod_heldReads (s : State) (x k) : (s.incMod x k).heldReads = s.heldReads := rfl
@[simp] theorem State.incMod_tier (s : State) (x k) : (s.incMod x k).tier = s.tier := rfl
@[simp] theorem State.incMod_mem (s : State) (x k) : (s.incMod x k).mem = s.mem := rfl
@[simp] theorem State.incMod_host (s : State) (x k) : (s.incMod x k).host = s.host := rfl
@[simp] theorem State.incMod_dram (s : State) (x k) : (s.incMod x k).dram = s.dram := rfl
@[simp] theorem State.incMod_trn (s : State) (x k) : (s.incMod x k).trn = s.trn := rfl
@[simp] theorem State.incMod_pair (s : State) (x k) : (s.incMod x k).pair = s.pair := rfl
@[simp] theorem State.incMod_ras (s : State) (x k) : (s.incMod x k).ras = s.ras := rfl
@[simp] theorem State.incMod_mbox (s : State) (x k) : (s.incMod x k).mbox = s.mbox := rfl
@[simp] theorem State.incMod_life (s : State) (x k) : (s.incMod x k).life = s.life := rfl
@[simp] theorem State.incMod_pins (s : State) (x k) : (s.incMod x k).pins = s.pins := rfl
@[simp] theorem State.incMod_up (s : State) (x k) : (s.incMod x k).up = s.up := 
  State.up_congr (State.incMod_pins ..)
@[simp] theorem State.send_pending (s : State) (o) : (s.send o).pending = s.pending := rfl
@[simp] theorem State.send_freeIdx (s : State) (o) : (s.send o).freeIdx = s.freeIdx := rfl
@[simp] theorem State.send_inbox (s : State) (o) : (s.send o).inbox = s.inbox := rfl
@[simp] theorem State.send_ids (s : State) (o) : (s.send o).ids = s.ids := rfl
@[simp] theorem State.send_tick (s : State) (o) : (s.send o).tick = s.tick := rfl
@[simp] theorem State.send_regs (s : State) (o) : (s.send o).regs = s.regs := rfl
@[simp] theorem State.send_regW (s : State) (o) : (s.send o).regW = s.regW := rfl
@[simp] theorem State.send_arb (s : State) (o) : (s.send o).arb = s.arb := rfl
@[simp] theorem State.send_arr (s : State) (o) : (s.send o).arr = s.arr := rfl
@[simp] theorem State.send_tbl (s : State) (o) : (s.send o).tbl = s.tbl := rfl
@[simp] theorem State.send_mnt (s : State) (o) : (s.send o).mnt = s.mnt := rfl
@[simp] theorem State.send_mq (s : State) (o) : (s.send o).mq = s.mq := rfl
@[simp] theorem State.send_lrn (s : State) (o) : (s.send o).lrn = s.lrn := rfl
@[simp] theorem State.send_dir (s : State) (o) : (s.send o).dir = s.dir := rfl
@[simp] theorem State.send_trie (s : State) (o) : (s.send o).trie = s.trie := rfl
@[simp] theorem State.send_dsram (s : State) (o) : (s.send o).dsram = s.dsram := rfl
@[simp] theorem State.send_rng (s : State) (o) : (s.send o).rng = s.rng := rfl
@[simp] theorem State.send_prt (s : State) (o) : (s.send o).prt = s.prt := rfl
@[simp] theorem State.send_lds (s : State) (o) : (s.send o).lds = s.lds := rfl
@[simp] theorem State.send_ctx (s : State) (o) : (s.send o).ctx = s.ctx := rfl
@[simp] theorem State.send_heldReads (s : State) (o) : (s.send o).heldReads = s.heldReads := rfl
@[simp] theorem State.send_tier (s : State) (o) : (s.send o).tier = s.tier := rfl
@[simp] theorem State.send_mem (s : State) (o) : (s.send o).mem = s.mem := rfl
@[simp] theorem State.send_host (s : State) (o) : (s.send o).host = s.host := rfl
@[simp] theorem State.send_dram (s : State) (o) : (s.send o).dram = s.dram := rfl
@[simp] theorem State.send_trn (s : State) (o) : (s.send o).trn = s.trn := rfl
@[simp] theorem State.send_pair (s : State) (o) : (s.send o).pair = s.pair := rfl
@[simp] theorem State.send_ras (s : State) (o) : (s.send o).ras = s.ras := rfl
@[simp] theorem State.send_mbox (s : State) (o) : (s.send o).mbox = s.mbox := rfl
@[simp] theorem State.send_life (s : State) (o) : (s.send o).life = s.life := rfl
@[simp] theorem State.send_pins (s : State) (o) : (s.send o).pins = s.pins := rfl
@[simp] theorem State.send_reg (s : State) (o) (y : Nat) : (s.send o).reg y = s.reg y := 
  State.reg_congr (State.send_regs ..) y
@[simp] theorem State.send_f (s : State) (o) (y : F) : (s.send o).f y = s.f y := 
  State.f_congr (State.send_regs ..) y
@[simp] theorem State.send_up (s : State) (o) : (s.send o).up = s.up := 
  State.up_congr (State.send_pins ..)
@[simp] theorem State.setLd_pending (s : State) (n l) : (s.setLd n l).pending = s.pending := rfl
@[simp] theorem State.setLd_freeIdx (s : State) (n l) : (s.setLd n l).freeIdx = s.freeIdx := rfl
@[simp] theorem State.setLd_sent (s : State) (n l) : (s.setLd n l).sent = s.sent := rfl
@[simp] theorem State.setLd_inbox (s : State) (n l) : (s.setLd n l).inbox = s.inbox := rfl
@[simp] theorem State.setLd_ids (s : State) (n l) : (s.setLd n l).ids = s.ids := rfl
@[simp] theorem State.setLd_tick (s : State) (n l) : (s.setLd n l).tick = s.tick := rfl
@[simp] theorem State.setLd_regs (s : State) (n l) : (s.setLd n l).regs = s.regs := rfl
@[simp] theorem State.setLd_regW (s : State) (n l) : (s.setLd n l).regW = s.regW := rfl
@[simp] theorem State.setLd_arb (s : State) (n l) : (s.setLd n l).arb = s.arb := rfl
@[simp] theorem State.setLd_arr (s : State) (n l) : (s.setLd n l).arr = s.arr := rfl
@[simp] theorem State.setLd_tbl (s : State) (n l) : (s.setLd n l).tbl = s.tbl := rfl
@[simp] theorem State.setLd_mnt (s : State) (n l) : (s.setLd n l).mnt = s.mnt := rfl
@[simp] theorem State.setLd_mq (s : State) (n l) : (s.setLd n l).mq = s.mq := rfl
@[simp] theorem State.setLd_lrn (s : State) (n l) : (s.setLd n l).lrn = s.lrn := rfl
@[simp] theorem State.setLd_dir (s : State) (n l) : (s.setLd n l).dir = s.dir := rfl
@[simp] theorem State.setLd_trie (s : State) (n l) : (s.setLd n l).trie = s.trie := rfl
@[simp] theorem State.setLd_dsram (s : State) (n l) : (s.setLd n l).dsram = s.dsram := rfl
@[simp] theorem State.setLd_rng (s : State) (n l) : (s.setLd n l).rng = s.rng := rfl
@[simp] theorem State.setLd_prt (s : State) (n l) : (s.setLd n l).prt = s.prt := rfl
@[simp] theorem State.setLd_ctx (s : State) (n l) : (s.setLd n l).ctx = s.ctx := rfl
@[simp] theorem State.setLd_heldReads (s : State) (n l) : (s.setLd n l).heldReads = s.heldReads := rfl
@[simp] theorem State.setLd_tier (s : State) (n l) : (s.setLd n l).tier = s.tier := rfl
@[simp] theorem State.setLd_mem (s : State) (n l) : (s.setLd n l).mem = s.mem := rfl
@[simp] theorem State.setLd_host (s : State) (n l) : (s.setLd n l).host = s.host := rfl
@[simp] theorem State.setLd_dram (s : State) (n l) : (s.setLd n l).dram = s.dram := rfl
@[simp] theorem State.setLd_trn (s : State) (n l) : (s.setLd n l).trn = s.trn := rfl
@[simp] theorem State.setLd_pair (s : State) (n l) : (s.setLd n l).pair = s.pair := rfl
@[simp] theorem State.setLd_ras (s : State) (n l) : (s.setLd n l).ras = s.ras := rfl
@[simp] theorem State.setLd_mbox (s : State) (n l) : (s.setLd n l).mbox = s.mbox := rfl
@[simp] theorem State.setLd_life (s : State) (n l) : (s.setLd n l).life = s.life := rfl
@[simp] theorem State.setLd_pins (s : State) (n l) : (s.setLd n l).pins = s.pins := rfl
@[simp] theorem State.setLd_reg (s : State) (n l) (y : Nat) : (s.setLd n l).reg y = s.reg y := 
  State.reg_congr (State.setLd_regs ..) y
@[simp] theorem State.setLd_f (s : State) (n l) (y : F) : (s.setLd n l).f y = s.f y := 
  State.f_congr (State.setLd_regs ..) y
@[simp] theorem State.setLd_up (s : State) (n l) : (s.setLd n l).up = s.up := 
  State.up_congr (State.setLd_pins ..)
@[simp] theorem State.updLd_pending (s : State) (n f) : (s.updLd n f).pending = s.pending := rfl
@[simp] theorem State.updLd_freeIdx (s : State) (n f) : (s.updLd n f).freeIdx = s.freeIdx := rfl
@[simp] theorem State.updLd_sent (s : State) (n f) : (s.updLd n f).sent = s.sent := rfl
@[simp] theorem State.updLd_inbox (s : State) (n f) : (s.updLd n f).inbox = s.inbox := rfl
@[simp] theorem State.updLd_ids (s : State) (n f) : (s.updLd n f).ids = s.ids := rfl
@[simp] theorem State.updLd_tick (s : State) (n f) : (s.updLd n f).tick = s.tick := rfl
@[simp] theorem State.updLd_regs (s : State) (n f) : (s.updLd n f).regs = s.regs := rfl
@[simp] theorem State.updLd_regW (s : State) (n f) : (s.updLd n f).regW = s.regW := rfl
@[simp] theorem State.updLd_arb (s : State) (n f) : (s.updLd n f).arb = s.arb := rfl
@[simp] theorem State.updLd_arr (s : State) (n f) : (s.updLd n f).arr = s.arr := rfl
@[simp] theorem State.updLd_tbl (s : State) (n f) : (s.updLd n f).tbl = s.tbl := rfl
@[simp] theorem State.updLd_mnt (s : State) (n f) : (s.updLd n f).mnt = s.mnt := rfl
@[simp] theorem State.updLd_mq (s : State) (n f) : (s.updLd n f).mq = s.mq := rfl
@[simp] theorem State.updLd_lrn (s : State) (n f) : (s.updLd n f).lrn = s.lrn := rfl
@[simp] theorem State.updLd_dir (s : State) (n f) : (s.updLd n f).dir = s.dir := rfl
@[simp] theorem State.updLd_trie (s : State) (n f) : (s.updLd n f).trie = s.trie := rfl
@[simp] theorem State.updLd_dsram (s : State) (n f) : (s.updLd n f).dsram = s.dsram := rfl
@[simp] theorem State.updLd_rng (s : State) (n f) : (s.updLd n f).rng = s.rng := rfl
@[simp] theorem State.updLd_prt (s : State) (n f) : (s.updLd n f).prt = s.prt := rfl
@[simp] theorem State.updLd_ctx (s : State) (n f) : (s.updLd n f).ctx = s.ctx := rfl
@[simp] theorem State.updLd_heldReads (s : State) (n f) : (s.updLd n f).heldReads = s.heldReads := rfl
@[simp] theorem State.updLd_tier (s : State) (n f) : (s.updLd n f).tier = s.tier := rfl
@[simp] theorem State.updLd_mem (s : State) (n f) : (s.updLd n f).mem = s.mem := rfl
@[simp] theorem State.updLd_host (s : State) (n f) : (s.updLd n f).host = s.host := rfl
@[simp] theorem State.updLd_dram (s : State) (n f) : (s.updLd n f).dram = s.dram := rfl
@[simp] theorem State.updLd_trn (s : State) (n f) : (s.updLd n f).trn = s.trn := rfl
@[simp] theorem State.updLd_pair (s : State) (n f) : (s.updLd n f).pair = s.pair := rfl
@[simp] theorem State.updLd_ras (s : State) (n f) : (s.updLd n f).ras = s.ras := rfl
@[simp] theorem State.updLd_mbox (s : State) (n f) : (s.updLd n f).mbox = s.mbox := rfl
@[simp] theorem State.updLd_life (s : State) (n f) : (s.updLd n f).life = s.life := rfl
@[simp] theorem State.updLd_pins (s : State) (n f) : (s.updLd n f).pins = s.pins := rfl
@[simp] theorem State.updLd_reg (s : State) (n f) (y : Nat) : (s.updLd n f).reg y = s.reg y := 
  State.reg_congr (State.updLd_regs ..) y
@[simp] theorem State.updLd_f (s : State) (n f) (y : F) : (s.updLd n f).f y = s.f y := 
  State.f_congr (State.updLd_regs ..) y
@[simp] theorem State.updLd_up (s : State) (n f) : (s.updLd n f).up = s.up := 
  State.up_congr (State.updLd_pins ..)
@[simp] theorem State.setTb_pending (s : State) (n r) : (s.setTb n r).pending = s.pending := rfl
@[simp] theorem State.setTb_freeIdx (s : State) (n r) : (s.setTb n r).freeIdx = s.freeIdx := rfl
@[simp] theorem State.setTb_sent (s : State) (n r) : (s.setTb n r).sent = s.sent := rfl
@[simp] theorem State.setTb_inbox (s : State) (n r) : (s.setTb n r).inbox = s.inbox := rfl
@[simp] theorem State.setTb_ids (s : State) (n r) : (s.setTb n r).ids = s.ids := rfl
@[simp] theorem State.setTb_tick (s : State) (n r) : (s.setTb n r).tick = s.tick := rfl
@[simp] theorem State.setTb_regs (s : State) (n r) : (s.setTb n r).regs = s.regs := rfl
@[simp] theorem State.setTb_regW (s : State) (n r) : (s.setTb n r).regW = s.regW := rfl
@[simp] theorem State.setTb_arb (s : State) (n r) : (s.setTb n r).arb = s.arb := rfl
@[simp] theorem State.setTb_arr (s : State) (n r) : (s.setTb n r).arr = s.arr := rfl
@[simp] theorem State.setTb_mnt (s : State) (n r) : (s.setTb n r).mnt = s.mnt := rfl
@[simp] theorem State.setTb_mq (s : State) (n r) : (s.setTb n r).mq = s.mq := rfl
@[simp] theorem State.setTb_lrn (s : State) (n r) : (s.setTb n r).lrn = s.lrn := rfl
@[simp] theorem State.setTb_dir (s : State) (n r) : (s.setTb n r).dir = s.dir := rfl
@[simp] theorem State.setTb_trie (s : State) (n r) : (s.setTb n r).trie = s.trie := rfl
@[simp] theorem State.setTb_dsram (s : State) (n r) : (s.setTb n r).dsram = s.dsram := rfl
@[simp] theorem State.setTb_rng (s : State) (n r) : (s.setTb n r).rng = s.rng := rfl
@[simp] theorem State.setTb_prt (s : State) (n r) : (s.setTb n r).prt = s.prt := rfl
@[simp] theorem State.setTb_lds (s : State) (n r) : (s.setTb n r).lds = s.lds := rfl
@[simp] theorem State.setTb_ctx (s : State) (n r) : (s.setTb n r).ctx = s.ctx := rfl
@[simp] theorem State.setTb_heldReads (s : State) (n r) : (s.setTb n r).heldReads = s.heldReads := rfl
@[simp] theorem State.setTb_tier (s : State) (n r) : (s.setTb n r).tier = s.tier := rfl
@[simp] theorem State.setTb_mem (s : State) (n r) : (s.setTb n r).mem = s.mem := rfl
@[simp] theorem State.setTb_host (s : State) (n r) : (s.setTb n r).host = s.host := rfl
@[simp] theorem State.setTb_dram (s : State) (n r) : (s.setTb n r).dram = s.dram := rfl
@[simp] theorem State.setTb_trn (s : State) (n r) : (s.setTb n r).trn = s.trn := rfl
@[simp] theorem State.setTb_pair (s : State) (n r) : (s.setTb n r).pair = s.pair := rfl
@[simp] theorem State.setTb_ras (s : State) (n r) : (s.setTb n r).ras = s.ras := rfl
@[simp] theorem State.setTb_mbox (s : State) (n r) : (s.setTb n r).mbox = s.mbox := rfl
@[simp] theorem State.setTb_life (s : State) (n r) : (s.setTb n r).life = s.life := rfl
@[simp] theorem State.setTb_pins (s : State) (n r) : (s.setTb n r).pins = s.pins := rfl
@[simp] theorem State.setTb_reg (s : State) (n r) (y : Nat) : (s.setTb n r).reg y = s.reg y := 
  State.reg_congr (State.setTb_regs ..) y
@[simp] theorem State.setTb_f (s : State) (n r) (y : F) : (s.setTb n r).f y = s.f y := 
  State.f_congr (State.setTb_regs ..) y
@[simp] theorem State.setTb_up (s : State) (n r) : (s.setTb n r).up = s.up := 
  State.up_congr (State.setTb_pins ..)
@[simp] theorem State.updTb_pending (s : State) (n f) : (s.updTb n f).pending = s.pending := rfl
@[simp] theorem State.updTb_freeIdx (s : State) (n f) : (s.updTb n f).freeIdx = s.freeIdx := rfl
@[simp] theorem State.updTb_sent (s : State) (n f) : (s.updTb n f).sent = s.sent := rfl
@[simp] theorem State.updTb_inbox (s : State) (n f) : (s.updTb n f).inbox = s.inbox := rfl
@[simp] theorem State.updTb_ids (s : State) (n f) : (s.updTb n f).ids = s.ids := rfl
@[simp] theorem State.updTb_tick (s : State) (n f) : (s.updTb n f).tick = s.tick := rfl
@[simp] theorem State.updTb_regs (s : State) (n f) : (s.updTb n f).regs = s.regs := rfl
@[simp] theorem State.updTb_regW (s : State) (n f) : (s.updTb n f).regW = s.regW := rfl
@[simp] theorem State.updTb_arb (s : State) (n f) : (s.updTb n f).arb = s.arb := rfl
@[simp] theorem State.updTb_arr (s : State) (n f) : (s.updTb n f).arr = s.arr := rfl
@[simp] theorem State.updTb_mnt (s : State) (n f) : (s.updTb n f).mnt = s.mnt := rfl
@[simp] theorem State.updTb_mq (s : State) (n f) : (s.updTb n f).mq = s.mq := rfl
@[simp] theorem State.updTb_lrn (s : State) (n f) : (s.updTb n f).lrn = s.lrn := rfl
@[simp] theorem State.updTb_dir (s : State) (n f) : (s.updTb n f).dir = s.dir := rfl
@[simp] theorem State.updTb_trie (s : State) (n f) : (s.updTb n f).trie = s.trie := rfl
@[simp] theorem State.updTb_dsram (s : State) (n f) : (s.updTb n f).dsram = s.dsram := rfl
@[simp] theorem State.updTb_rng (s : State) (n f) : (s.updTb n f).rng = s.rng := rfl
@[simp] theorem State.updTb_prt (s : State) (n f) : (s.updTb n f).prt = s.prt := rfl
@[simp] theorem State.updTb_lds (s : State) (n f) : (s.updTb n f).lds = s.lds := rfl
@[simp] theorem State.updTb_ctx (s : State) (n f) : (s.updTb n f).ctx = s.ctx := rfl
@[simp] theorem State.updTb_heldReads (s : State) (n f) : (s.updTb n f).heldReads = s.heldReads := rfl
@[simp] theorem State.updTb_tier (s : State) (n f) : (s.updTb n f).tier = s.tier := rfl
@[simp] theorem State.updTb_mem (s : State) (n f) : (s.updTb n f).mem = s.mem := rfl
@[simp] theorem State.updTb_host (s : State) (n f) : (s.updTb n f).host = s.host := rfl
@[simp] theorem State.updTb_dram (s : State) (n f) : (s.updTb n f).dram = s.dram := rfl
@[simp] theorem State.updTb_trn (s : State) (n f) : (s.updTb n f).trn = s.trn := rfl
@[simp] theorem State.updTb_pair (s : State) (n f) : (s.updTb n f).pair = s.pair := rfl
@[simp] theorem State.updTb_ras (s : State) (n f) : (s.updTb n f).ras = s.ras := rfl
@[simp] theorem State.updTb_mbox (s : State) (n f) : (s.updTb n f).mbox = s.mbox := rfl
@[simp] theorem State.updTb_life (s : State) (n f) : (s.updTb n f).life = s.life := rfl
@[simp] theorem State.updTb_pins (s : State) (n f) : (s.updTb n f).pins = s.pins := rfl
@[simp] theorem State.updTb_reg (s : State) (n f) (y : Nat) : (s.updTb n f).reg y = s.reg y := 
  State.reg_congr (State.updTb_regs ..) y
@[simp] theorem State.updTb_f (s : State) (n f) (y : F) : (s.updTb n f).f y = s.f y := 
  State.f_congr (State.updTb_regs ..) y
@[simp] theorem State.updTb_up (s : State) (n f) : (s.updTb n f).up = s.up := 
  State.up_congr (State.updTb_pins ..)
@[simp] theorem State.setCx_pending (s : State) (n r) : (s.setCx n r).pending = s.pending := rfl
@[simp] theorem State.setCx_freeIdx (s : State) (n r) : (s.setCx n r).freeIdx = s.freeIdx := rfl
@[simp] theorem State.setCx_sent (s : State) (n r) : (s.setCx n r).sent = s.sent := rfl
@[simp] theorem State.setCx_inbox (s : State) (n r) : (s.setCx n r).inbox = s.inbox := rfl
@[simp] theorem State.setCx_ids (s : State) (n r) : (s.setCx n r).ids = s.ids := rfl
@[simp] theorem State.setCx_tick (s : State) (n r) : (s.setCx n r).tick = s.tick := rfl
@[simp] theorem State.setCx_regs (s : State) (n r) : (s.setCx n r).regs = s.regs := rfl
@[simp] theorem State.setCx_regW (s : State) (n r) : (s.setCx n r).regW = s.regW := rfl
@[simp] theorem State.setCx_arb (s : State) (n r) : (s.setCx n r).arb = s.arb := rfl
@[simp] theorem State.setCx_arr (s : State) (n r) : (s.setCx n r).arr = s.arr := rfl
@[simp] theorem State.setCx_tbl (s : State) (n r) : (s.setCx n r).tbl = s.tbl := rfl
@[simp] theorem State.setCx_mnt (s : State) (n r) : (s.setCx n r).mnt = s.mnt := rfl
@[simp] theorem State.setCx_mq (s : State) (n r) : (s.setCx n r).mq = s.mq := rfl
@[simp] theorem State.setCx_lrn (s : State) (n r) : (s.setCx n r).lrn = s.lrn := rfl
@[simp] theorem State.setCx_dir (s : State) (n r) : (s.setCx n r).dir = s.dir := rfl
@[simp] theorem State.setCx_trie (s : State) (n r) : (s.setCx n r).trie = s.trie := rfl
@[simp] theorem State.setCx_dsram (s : State) (n r) : (s.setCx n r).dsram = s.dsram := rfl
@[simp] theorem State.setCx_rng (s : State) (n r) : (s.setCx n r).rng = s.rng := rfl
@[simp] theorem State.setCx_prt (s : State) (n r) : (s.setCx n r).prt = s.prt := rfl
@[simp] theorem State.setCx_lds (s : State) (n r) : (s.setCx n r).lds = s.lds := rfl
@[simp] theorem State.setCx_heldReads (s : State) (n r) : (s.setCx n r).heldReads = s.heldReads := rfl
@[simp] theorem State.setCx_tier (s : State) (n r) : (s.setCx n r).tier = s.tier := rfl
@[simp] theorem State.setCx_mem (s : State) (n r) : (s.setCx n r).mem = s.mem := rfl
@[simp] theorem State.setCx_host (s : State) (n r) : (s.setCx n r).host = s.host := rfl
@[simp] theorem State.setCx_dram (s : State) (n r) : (s.setCx n r).dram = s.dram := rfl
@[simp] theorem State.setCx_trn (s : State) (n r) : (s.setCx n r).trn = s.trn := rfl
@[simp] theorem State.setCx_pair (s : State) (n r) : (s.setCx n r).pair = s.pair := rfl
@[simp] theorem State.setCx_ras (s : State) (n r) : (s.setCx n r).ras = s.ras := rfl
@[simp] theorem State.setCx_mbox (s : State) (n r) : (s.setCx n r).mbox = s.mbox := rfl
@[simp] theorem State.setCx_life (s : State) (n r) : (s.setCx n r).life = s.life := rfl
@[simp] theorem State.setCx_pins (s : State) (n r) : (s.setCx n r).pins = s.pins := rfl
@[simp] theorem State.setCx_reg (s : State) (n r) (y : Nat) : (s.setCx n r).reg y = s.reg y := 
  State.reg_congr (State.setCx_regs ..) y
@[simp] theorem State.setCx_f (s : State) (n r) (y : F) : (s.setCx n r).f y = s.f y := 
  State.f_congr (State.setCx_regs ..) y
@[simp] theorem State.setCx_up (s : State) (n r) : (s.setCx n r).up = s.up := 
  State.up_congr (State.setCx_pins ..)
@[simp] theorem State.updCx_pending (s : State) (n f) : (s.updCx n f).pending = s.pending := rfl
@[simp] theorem State.updCx_freeIdx (s : State) (n f) : (s.updCx n f).freeIdx = s.freeIdx := rfl
@[simp] theorem State.updCx_sent (s : State) (n f) : (s.updCx n f).sent = s.sent := rfl
@[simp] theorem State.updCx_inbox (s : State) (n f) : (s.updCx n f).inbox = s.inbox := rfl
@[simp] theorem State.updCx_ids (s : State) (n f) : (s.updCx n f).ids = s.ids := rfl
@[simp] theorem State.updCx_tick (s : State) (n f) : (s.updCx n f).tick = s.tick := rfl
@[simp] theorem State.updCx_regs (s : State) (n f) : (s.updCx n f).regs = s.regs := rfl
@[simp] theorem State.updCx_regW (s : State) (n f) : (s.updCx n f).regW = s.regW := rfl
@[simp] theorem State.updCx_arb (s : State) (n f) : (s.updCx n f).arb = s.arb := rfl
@[simp] theorem State.updCx_arr (s : State) (n f) : (s.updCx n f).arr = s.arr := rfl
@[simp] theorem State.updCx_tbl (s : State) (n f) : (s.updCx n f).tbl = s.tbl := rfl
@[simp] theorem State.updCx_mnt (s : State) (n f) : (s.updCx n f).mnt = s.mnt := rfl
@[simp] theorem State.updCx_mq (s : State) (n f) : (s.updCx n f).mq = s.mq := rfl
@[simp] theorem State.updCx_lrn (s : State) (n f) : (s.updCx n f).lrn = s.lrn := rfl
@[simp] theorem State.updCx_dir (s : State) (n f) : (s.updCx n f).dir = s.dir := rfl
@[simp] theorem State.updCx_trie (s : State) (n f) : (s.updCx n f).trie = s.trie := rfl
@[simp] theorem State.updCx_dsram (s : State) (n f) : (s.updCx n f).dsram = s.dsram := rfl
@[simp] theorem State.updCx_rng (s : State) (n f) : (s.updCx n f).rng = s.rng := rfl
@[simp] theorem State.updCx_prt (s : State) (n f) : (s.updCx n f).prt = s.prt := rfl
@[simp] theorem State.updCx_lds (s : State) (n f) : (s.updCx n f).lds = s.lds := rfl
@[simp] theorem State.updCx_heldReads (s : State) (n f) : (s.updCx n f).heldReads = s.heldReads := rfl
@[simp] theorem State.updCx_tier (s : State) (n f) : (s.updCx n f).tier = s.tier := rfl
@[simp] theorem State.updCx_mem (s : State) (n f) : (s.updCx n f).mem = s.mem := rfl
@[simp] theorem State.updCx_host (s : State) (n f) : (s.updCx n f).host = s.host := rfl
@[simp] theorem State.updCx_dram (s : State) (n f) : (s.updCx n f).dram = s.dram := rfl
@[simp] theorem State.updCx_trn (s : State) (n f) : (s.updCx n f).trn = s.trn := rfl
@[simp] theorem State.updCx_pair (s : State) (n f) : (s.updCx n f).pair = s.pair := rfl
@[simp] theorem State.updCx_ras (s : State) (n f) : (s.updCx n f).ras = s.ras := rfl
@[simp] theorem State.updCx_mbox (s : State) (n f) : (s.updCx n f).mbox = s.mbox := rfl
@[simp] theorem State.updCx_life (s : State) (n f) : (s.updCx n f).life = s.life := rfl
@[simp] theorem State.updCx_pins (s : State) (n f) : (s.updCx n f).pins = s.pins := rfl
@[simp] theorem State.updCx_reg (s : State) (n f) (y : Nat) : (s.updCx n f).reg y = s.reg y := 
  State.reg_congr (State.updCx_regs ..) y
@[simp] theorem State.updCx_f (s : State) (n f) (y : F) : (s.updCx n f).f y = s.f y := 
  State.f_congr (State.updCx_regs ..) y
@[simp] theorem State.updCx_up (s : State) (n f) : (s.updCx n f).up = s.up := 
  State.up_congr (State.updCx_pins ..)
@[simp] theorem State.setQp_pending (s : State) (n r) : (s.setQp n r).pending = s.pending := rfl
@[simp] theorem State.setQp_freeIdx (s : State) (n r) : (s.setQp n r).freeIdx = s.freeIdx := rfl
@[simp] theorem State.setQp_sent (s : State) (n r) : (s.setQp n r).sent = s.sent := rfl
@[simp] theorem State.setQp_inbox (s : State) (n r) : (s.setQp n r).inbox = s.inbox := rfl
@[simp] theorem State.setQp_ids (s : State) (n r) : (s.setQp n r).ids = s.ids := rfl
@[simp] theorem State.setQp_tick (s : State) (n r) : (s.setQp n r).tick = s.tick := rfl
@[simp] theorem State.setQp_regs (s : State) (n r) : (s.setQp n r).regs = s.regs := rfl
@[simp] theorem State.setQp_regW (s : State) (n r) : (s.setQp n r).regW = s.regW := rfl
@[simp] theorem State.setQp_arb (s : State) (n r) : (s.setQp n r).arb = s.arb := rfl
@[simp] theorem State.setQp_arr (s : State) (n r) : (s.setQp n r).arr = s.arr := rfl
@[simp] theorem State.setQp_tbl (s : State) (n r) : (s.setQp n r).tbl = s.tbl := rfl
@[simp] theorem State.setQp_mnt (s : State) (n r) : (s.setQp n r).mnt = s.mnt := rfl
@[simp] theorem State.setQp_lrn (s : State) (n r) : (s.setQp n r).lrn = s.lrn := rfl
@[simp] theorem State.setQp_dir (s : State) (n r) : (s.setQp n r).dir = s.dir := rfl
@[simp] theorem State.setQp_trie (s : State) (n r) : (s.setQp n r).trie = s.trie := rfl
@[simp] theorem State.setQp_dsram (s : State) (n r) : (s.setQp n r).dsram = s.dsram := rfl
@[simp] theorem State.setQp_rng (s : State) (n r) : (s.setQp n r).rng = s.rng := rfl
@[simp] theorem State.setQp_prt (s : State) (n r) : (s.setQp n r).prt = s.prt := rfl
@[simp] theorem State.setQp_lds (s : State) (n r) : (s.setQp n r).lds = s.lds := rfl
@[simp] theorem State.setQp_ctx (s : State) (n r) : (s.setQp n r).ctx = s.ctx := rfl
@[simp] theorem State.setQp_heldReads (s : State) (n r) : (s.setQp n r).heldReads = s.heldReads := rfl
@[simp] theorem State.setQp_tier (s : State) (n r) : (s.setQp n r).tier = s.tier := rfl
@[simp] theorem State.setQp_mem (s : State) (n r) : (s.setQp n r).mem = s.mem := rfl
@[simp] theorem State.setQp_host (s : State) (n r) : (s.setQp n r).host = s.host := rfl
@[simp] theorem State.setQp_dram (s : State) (n r) : (s.setQp n r).dram = s.dram := rfl
@[simp] theorem State.setQp_trn (s : State) (n r) : (s.setQp n r).trn = s.trn := rfl
@[simp] theorem State.setQp_pair (s : State) (n r) : (s.setQp n r).pair = s.pair := rfl
@[simp] theorem State.setQp_ras (s : State) (n r) : (s.setQp n r).ras = s.ras := rfl
@[simp] theorem State.setQp_mbox (s : State) (n r) : (s.setQp n r).mbox = s.mbox := rfl
@[simp] theorem State.setQp_life (s : State) (n r) : (s.setQp n r).life = s.life := rfl
@[simp] theorem State.setQp_pins (s : State) (n r) : (s.setQp n r).pins = s.pins := rfl
@[simp] theorem State.setQp_reg (s : State) (n r) (y : Nat) : (s.setQp n r).reg y = s.reg y := 
  State.reg_congr (State.setQp_regs ..) y
@[simp] theorem State.setQp_f (s : State) (n r) (y : F) : (s.setQp n r).f y = s.f y := 
  State.f_congr (State.setQp_regs ..) y
@[simp] theorem State.setQp_up (s : State) (n r) : (s.setQp n r).up = s.up := 
  State.up_congr (State.setQp_pins ..)
@[simp] theorem State.updQp_pending (s : State) (n f) : (s.updQp n f).pending = s.pending := rfl
@[simp] theorem State.updQp_freeIdx (s : State) (n f) : (s.updQp n f).freeIdx = s.freeIdx := rfl
@[simp] theorem State.updQp_sent (s : State) (n f) : (s.updQp n f).sent = s.sent := rfl
@[simp] theorem State.updQp_inbox (s : State) (n f) : (s.updQp n f).inbox = s.inbox := rfl
@[simp] theorem State.updQp_ids (s : State) (n f) : (s.updQp n f).ids = s.ids := rfl
@[simp] theorem State.updQp_tick (s : State) (n f) : (s.updQp n f).tick = s.tick := rfl
@[simp] theorem State.updQp_regs (s : State) (n f) : (s.updQp n f).regs = s.regs := rfl
@[simp] theorem State.updQp_regW (s : State) (n f) : (s.updQp n f).regW = s.regW := rfl
@[simp] theorem State.updQp_arb (s : State) (n f) : (s.updQp n f).arb = s.arb := rfl
@[simp] theorem State.updQp_arr (s : State) (n f) : (s.updQp n f).arr = s.arr := rfl
@[simp] theorem State.updQp_tbl (s : State) (n f) : (s.updQp n f).tbl = s.tbl := rfl
@[simp] theorem State.updQp_mnt (s : State) (n f) : (s.updQp n f).mnt = s.mnt := rfl
@[simp] theorem State.updQp_lrn (s : State) (n f) : (s.updQp n f).lrn = s.lrn := rfl
@[simp] theorem State.updQp_dir (s : State) (n f) : (s.updQp n f).dir = s.dir := rfl
@[simp] theorem State.updQp_trie (s : State) (n f) : (s.updQp n f).trie = s.trie := rfl
@[simp] theorem State.updQp_dsram (s : State) (n f) : (s.updQp n f).dsram = s.dsram := rfl
@[simp] theorem State.updQp_rng (s : State) (n f) : (s.updQp n f).rng = s.rng := rfl
@[simp] theorem State.updQp_prt (s : State) (n f) : (s.updQp n f).prt = s.prt := rfl
@[simp] theorem State.updQp_lds (s : State) (n f) : (s.updQp n f).lds = s.lds := rfl
@[simp] theorem State.updQp_ctx (s : State) (n f) : (s.updQp n f).ctx = s.ctx := rfl
@[simp] theorem State.updQp_heldReads (s : State) (n f) : (s.updQp n f).heldReads = s.heldReads := rfl
@[simp] theorem State.updQp_tier (s : State) (n f) : (s.updQp n f).tier = s.tier := rfl
@[simp] theorem State.updQp_mem (s : State) (n f) : (s.updQp n f).mem = s.mem := rfl
@[simp] theorem State.updQp_host (s : State) (n f) : (s.updQp n f).host = s.host := rfl
@[simp] theorem State.updQp_dram (s : State) (n f) : (s.updQp n f).dram = s.dram := rfl
@[simp] theorem State.updQp_trn (s : State) (n f) : (s.updQp n f).trn = s.trn := rfl
@[simp] theorem State.updQp_pair (s : State) (n f) : (s.updQp n f).pair = s.pair := rfl
@[simp] theorem State.updQp_ras (s : State) (n f) : (s.updQp n f).ras = s.ras := rfl
@[simp] theorem State.updQp_mbox (s : State) (n f) : (s.updQp n f).mbox = s.mbox := rfl
@[simp] theorem State.updQp_life (s : State) (n f) : (s.updQp n f).life = s.life := rfl
@[simp] theorem State.updQp_pins (s : State) (n f) : (s.updQp n f).pins = s.pins := rfl
@[simp] theorem State.updQp_reg (s : State) (n f) (y : Nat) : (s.updQp n f).reg y = s.reg y := 
  State.reg_congr (State.updQp_regs ..) y
@[simp] theorem State.updQp_f (s : State) (n f) (y : F) : (s.updQp n f).f y = s.f y := 
  State.f_congr (State.updQp_regs ..) y
@[simp] theorem State.updQp_up (s : State) (n f) : (s.updQp n f).up = s.up := 
  State.up_congr (State.updQp_pins ..)
@[simp] theorem State.setLine_pending (s : State) (a l) : (s.setLine a l).pending = s.pending := rfl
@[simp] theorem State.setLine_freeIdx (s : State) (a l) : (s.setLine a l).freeIdx = s.freeIdx := rfl
@[simp] theorem State.setLine_sent (s : State) (a l) : (s.setLine a l).sent = s.sent := rfl
@[simp] theorem State.setLine_inbox (s : State) (a l) : (s.setLine a l).inbox = s.inbox := rfl
@[simp] theorem State.setLine_ids (s : State) (a l) : (s.setLine a l).ids = s.ids := rfl
@[simp] theorem State.setLine_tick (s : State) (a l) : (s.setLine a l).tick = s.tick := rfl
@[simp] theorem State.setLine_regs (s : State) (a l) : (s.setLine a l).regs = s.regs := rfl
@[simp] theorem State.setLine_regW (s : State) (a l) : (s.setLine a l).regW = s.regW := rfl
@[simp] theorem State.setLine_arb (s : State) (a l) : (s.setLine a l).arb = s.arb := rfl
@[simp] theorem State.setLine_arr (s : State) (a l) : (s.setLine a l).arr = s.arr := rfl
@[simp] theorem State.setLine_tbl (s : State) (a l) : (s.setLine a l).tbl = s.tbl := rfl
@[simp] theorem State.setLine_mnt (s : State) (a l) : (s.setLine a l).mnt = s.mnt := rfl
@[simp] theorem State.setLine_mq (s : State) (a l) : (s.setLine a l).mq = s.mq := rfl
@[simp] theorem State.setLine_lrn (s : State) (a l) : (s.setLine a l).lrn = s.lrn := rfl
@[simp] theorem State.setLine_dir (s : State) (a l) : (s.setLine a l).dir = s.dir := rfl
@[simp] theorem State.setLine_trie (s : State) (a l) : (s.setLine a l).trie = s.trie := rfl
@[simp] theorem State.setLine_dsram (s : State) (a l) : (s.setLine a l).dsram = s.dsram := rfl
@[simp] theorem State.setLine_rng (s : State) (a l) : (s.setLine a l).rng = s.rng := rfl
@[simp] theorem State.setLine_prt (s : State) (a l) : (s.setLine a l).prt = s.prt := rfl
@[simp] theorem State.setLine_lds (s : State) (a l) : (s.setLine a l).lds = s.lds := rfl
@[simp] theorem State.setLine_ctx (s : State) (a l) : (s.setLine a l).ctx = s.ctx := rfl
@[simp] theorem State.setLine_heldReads (s : State) (a l) : (s.setLine a l).heldReads = s.heldReads := rfl
@[simp] theorem State.setLine_tier (s : State) (a l) : (s.setLine a l).tier = s.tier := rfl
@[simp] theorem State.setLine_host (s : State) (a l) : (s.setLine a l).host = s.host := rfl
@[simp] theorem State.setLine_dram (s : State) (a l) : (s.setLine a l).dram = s.dram := rfl
@[simp] theorem State.setLine_trn (s : State) (a l) : (s.setLine a l).trn = s.trn := rfl
@[simp] theorem State.setLine_pair (s : State) (a l) : (s.setLine a l).pair = s.pair := rfl
@[simp] theorem State.setLine_ras (s : State) (a l) : (s.setLine a l).ras = s.ras := rfl
@[simp] theorem State.setLine_mbox (s : State) (a l) : (s.setLine a l).mbox = s.mbox := rfl
@[simp] theorem State.setLine_life (s : State) (a l) : (s.setLine a l).life = s.life := rfl
@[simp] theorem State.setLine_pins (s : State) (a l) : (s.setLine a l).pins = s.pins := rfl
@[simp] theorem State.setLine_reg (s : State) (a l) (y : Nat) : (s.setLine a l).reg y = s.reg y := 
  State.reg_congr (State.setLine_regs ..) y
@[simp] theorem State.setLine_f (s : State) (a l) (y : F) : (s.setLine a l).f y = s.f y := 
  State.f_congr (State.setLine_regs ..) y
@[simp] theorem State.setLine_up (s : State) (a l) : (s.setLine a l).up = s.up := 
  State.up_congr (State.setLine_pins ..)
@[simp] theorem State.setPoison_pending (s : State) (a v) : (s.setPoison a v).pending = s.pending := rfl
@[simp] theorem State.setPoison_freeIdx (s : State) (a v) : (s.setPoison a v).freeIdx = s.freeIdx := rfl
@[simp] theorem State.setPoison_sent (s : State) (a v) : (s.setPoison a v).sent = s.sent := rfl
@[simp] theorem State.setPoison_inbox (s : State) (a v) : (s.setPoison a v).inbox = s.inbox := rfl
@[simp] theorem State.setPoison_ids (s : State) (a v) : (s.setPoison a v).ids = s.ids := rfl
@[simp] theorem State.setPoison_tick (s : State) (a v) : (s.setPoison a v).tick = s.tick := rfl
@[simp] theorem State.setPoison_regs (s : State) (a v) : (s.setPoison a v).regs = s.regs := rfl
@[simp] theorem State.setPoison_regW (s : State) (a v) : (s.setPoison a v).regW = s.regW := rfl
@[simp] theorem State.setPoison_arb (s : State) (a v) : (s.setPoison a v).arb = s.arb := rfl
@[simp] theorem State.setPoison_arr (s : State) (a v) : (s.setPoison a v).arr = s.arr := rfl
@[simp] theorem State.setPoison_tbl (s : State) (a v) : (s.setPoison a v).tbl = s.tbl := rfl
@[simp] theorem State.setPoison_mnt (s : State) (a v) : (s.setPoison a v).mnt = s.mnt := rfl
@[simp] theorem State.setPoison_mq (s : State) (a v) : (s.setPoison a v).mq = s.mq := rfl
@[simp] theorem State.setPoison_lrn (s : State) (a v) : (s.setPoison a v).lrn = s.lrn := rfl
@[simp] theorem State.setPoison_dir (s : State) (a v) : (s.setPoison a v).dir = s.dir := rfl
@[simp] theorem State.setPoison_trie (s : State) (a v) : (s.setPoison a v).trie = s.trie := rfl
@[simp] theorem State.setPoison_dsram (s : State) (a v) : (s.setPoison a v).dsram = s.dsram := rfl
@[simp] theorem State.setPoison_rng (s : State) (a v) : (s.setPoison a v).rng = s.rng := rfl
@[simp] theorem State.setPoison_prt (s : State) (a v) : (s.setPoison a v).prt = s.prt := rfl
@[simp] theorem State.setPoison_lds (s : State) (a v) : (s.setPoison a v).lds = s.lds := rfl
@[simp] theorem State.setPoison_ctx (s : State) (a v) : (s.setPoison a v).ctx = s.ctx := rfl
@[simp] theorem State.setPoison_heldReads (s : State) (a v) : (s.setPoison a v).heldReads = s.heldReads := rfl
@[simp] theorem State.setPoison_tier (s : State) (a v) : (s.setPoison a v).tier = s.tier := rfl
@[simp] theorem State.setPoison_mem (s : State) (a v) : (s.setPoison a v).mem = s.mem := rfl
@[simp] theorem State.setPoison_host (s : State) (a v) : (s.setPoison a v).host = s.host := rfl
@[simp] theorem State.setPoison_dram (s : State) (a v) : (s.setPoison a v).dram = s.dram := rfl
@[simp] theorem State.setPoison_trn (s : State) (a v) : (s.setPoison a v).trn = s.trn := rfl
@[simp] theorem State.setPoison_pair (s : State) (a v) : (s.setPoison a v).pair = s.pair := rfl
@[simp] theorem State.setPoison_mbox (s : State) (a v) : (s.setPoison a v).mbox = s.mbox := rfl
@[simp] theorem State.setPoison_life (s : State) (a v) : (s.setPoison a v).life = s.life := rfl
@[simp] theorem State.setPoison_pins (s : State) (a v) : (s.setPoison a v).pins = s.pins := rfl
@[simp] theorem State.setPoison_reg (s : State) (a v) (y : Nat) : (s.setPoison a v).reg y = s.reg y := 
  State.reg_congr (State.setPoison_regs ..) y
@[simp] theorem State.setPoison_f (s : State) (a v) (y : F) : (s.setPoison a v).f y = s.f y := 
  State.f_congr (State.setPoison_regs ..) y
@[simp] theorem State.setPoison_up (s : State) (a v) : (s.setPoison a v).up = s.up := 
  State.up_congr (State.setPoison_pins ..)
@[simp] theorem State.linkSend_pending (s : State) (m) : (s.linkSend m).pending = s.pending := rfl
@[simp] theorem State.linkSend_freeIdx (s : State) (m) : (s.linkSend m).freeIdx = s.freeIdx := rfl
@[simp] theorem State.linkSend_sent (s : State) (m) : (s.linkSend m).sent = s.sent := rfl
@[simp] theorem State.linkSend_inbox (s : State) (m) : (s.linkSend m).inbox = s.inbox := rfl
@[simp] theorem State.linkSend_ids (s : State) (m) : (s.linkSend m).ids = s.ids := rfl
@[simp] theorem State.linkSend_tick (s : State) (m) : (s.linkSend m).tick = s.tick := rfl
@[simp] theorem State.linkSend_regs (s : State) (m) : (s.linkSend m).regs = s.regs := rfl
@[simp] theorem State.linkSend_regW (s : State) (m) : (s.linkSend m).regW = s.regW := rfl
@[simp] theorem State.linkSend_arb (s : State) (m) : (s.linkSend m).arb = s.arb := rfl
@[simp] theorem State.linkSend_arr (s : State) (m) : (s.linkSend m).arr = s.arr := rfl
@[simp] theorem State.linkSend_tbl (s : State) (m) : (s.linkSend m).tbl = s.tbl := rfl
@[simp] theorem State.linkSend_mnt (s : State) (m) : (s.linkSend m).mnt = s.mnt := rfl
@[simp] theorem State.linkSend_mq (s : State) (m) : (s.linkSend m).mq = s.mq := rfl
@[simp] theorem State.linkSend_lrn (s : State) (m) : (s.linkSend m).lrn = s.lrn := rfl
@[simp] theorem State.linkSend_dir (s : State) (m) : (s.linkSend m).dir = s.dir := rfl
@[simp] theorem State.linkSend_trie (s : State) (m) : (s.linkSend m).trie = s.trie := rfl
@[simp] theorem State.linkSend_dsram (s : State) (m) : (s.linkSend m).dsram = s.dsram := rfl
@[simp] theorem State.linkSend_rng (s : State) (m) : (s.linkSend m).rng = s.rng := rfl
@[simp] theorem State.linkSend_prt (s : State) (m) : (s.linkSend m).prt = s.prt := rfl
@[simp] theorem State.linkSend_lds (s : State) (m) : (s.linkSend m).lds = s.lds := rfl
@[simp] theorem State.linkSend_ctx (s : State) (m) : (s.linkSend m).ctx = s.ctx := rfl
@[simp] theorem State.linkSend_heldReads (s : State) (m) : (s.linkSend m).heldReads = s.heldReads := rfl
@[simp] theorem State.linkSend_tier (s : State) (m) : (s.linkSend m).tier = s.tier := rfl
@[simp] theorem State.linkSend_mem (s : State) (m) : (s.linkSend m).mem = s.mem := rfl
@[simp] theorem State.linkSend_host (s : State) (m) : (s.linkSend m).host = s.host := rfl
@[simp] theorem State.linkSend_dram (s : State) (m) : (s.linkSend m).dram = s.dram := rfl
@[simp] theorem State.linkSend_trn (s : State) (m) : (s.linkSend m).trn = s.trn := rfl
@[simp] theorem State.linkSend_ras (s : State) (m) : (s.linkSend m).ras = s.ras := rfl
@[simp] theorem State.linkSend_mbox (s : State) (m) : (s.linkSend m).mbox = s.mbox := rfl
@[simp] theorem State.linkSend_life (s : State) (m) : (s.linkSend m).life = s.life := rfl
@[simp] theorem State.linkSend_pins (s : State) (m) : (s.linkSend m).pins = s.pins := rfl
@[simp] theorem State.linkSend_reg (s : State) (m) (y : Nat) : (s.linkSend m).reg y = s.reg y := 
  State.reg_congr (State.linkSend_regs ..) y
@[simp] theorem State.linkSend_f (s : State) (m) (y : F) : (s.linkSend m).f y = s.f y := 
  State.f_congr (State.linkSend_regs ..) y
@[simp] theorem State.linkSend_up (s : State) (m) : (s.linkSend m).up = s.up := 
  State.up_congr (State.linkSend_pins ..)
@[simp] theorem State.ownerEnd_pending (s : State) (via code st r c) : (s.ownerEnd via code st r c).pending = s.pending := rfl
@[simp] theorem State.ownerEnd_freeIdx (s : State) (via code st r c) : (s.ownerEnd via code st r c).freeIdx = s.freeIdx := rfl
@[simp] theorem State.ownerEnd_sent (s : State) (via code st r c) : (s.ownerEnd via code st r c).sent = s.sent := rfl
@[simp] theorem State.ownerEnd_inbox (s : State) (via code st r c) : (s.ownerEnd via code st r c).inbox = s.inbox := rfl
@[simp] theorem State.ownerEnd_ids (s : State) (via code st r c) : (s.ownerEnd via code st r c).ids = s.ids := rfl
@[simp] theorem State.ownerEnd_tick (s : State) (via code st r c) : (s.ownerEnd via code st r c).tick = s.tick := rfl
@[simp] theorem State.ownerEnd_regs (s : State) (via code st r c) : (s.ownerEnd via code st r c).regs = s.regs := rfl
@[simp] theorem State.ownerEnd_regW (s : State) (via code st r c) : (s.ownerEnd via code st r c).regW = s.regW := rfl
@[simp] theorem State.ownerEnd_arb (s : State) (via code st r c) : (s.ownerEnd via code st r c).arb = s.arb := rfl
@[simp] theorem State.ownerEnd_arr (s : State) (via code st r c) : (s.ownerEnd via code st r c).arr = s.arr := rfl
@[simp] theorem State.ownerEnd_tbl (s : State) (via code st r c) : (s.ownerEnd via code st r c).tbl = s.tbl := rfl
@[simp] theorem State.ownerEnd_mnt (s : State) (via code st r c) : (s.ownerEnd via code st r c).mnt = s.mnt := rfl
@[simp] theorem State.ownerEnd_mq (s : State) (via code st r c) : (s.ownerEnd via code st r c).mq = s.mq := rfl
@[simp] theorem State.ownerEnd_lrn (s : State) (via code st r c) : (s.ownerEnd via code st r c).lrn = s.lrn := rfl
@[simp] theorem State.ownerEnd_dir (s : State) (via code st r c) : (s.ownerEnd via code st r c).dir = s.dir := rfl
@[simp] theorem State.ownerEnd_trie (s : State) (via code st r c) : (s.ownerEnd via code st r c).trie = s.trie := rfl
@[simp] theorem State.ownerEnd_dsram (s : State) (via code st r c) : (s.ownerEnd via code st r c).dsram = s.dsram := rfl
@[simp] theorem State.ownerEnd_rng (s : State) (via code st r c) : (s.ownerEnd via code st r c).rng = s.rng := rfl
@[simp] theorem State.ownerEnd_prt (s : State) (via code st r c) : (s.ownerEnd via code st r c).prt = s.prt := rfl
@[simp] theorem State.ownerEnd_lds (s : State) (via code st r c) : (s.ownerEnd via code st r c).lds = s.lds := rfl
@[simp] theorem State.ownerEnd_ctx (s : State) (via code st r c) : (s.ownerEnd via code st r c).ctx = s.ctx := rfl
@[simp] theorem State.ownerEnd_heldReads (s : State) (via code st r c) : (s.ownerEnd via code st r c).heldReads = s.heldReads := rfl
@[simp] theorem State.ownerEnd_tier (s : State) (via code st r c) : (s.ownerEnd via code st r c).tier = s.tier := rfl
@[simp] theorem State.ownerEnd_mem (s : State) (via code st r c) : (s.ownerEnd via code st r c).mem = s.mem := rfl
@[simp] theorem State.ownerEnd_host (s : State) (via code st r c) : (s.ownerEnd via code st r c).host = s.host := rfl
@[simp] theorem State.ownerEnd_dram (s : State) (via code st r c) : (s.ownerEnd via code st r c).dram = s.dram := rfl
@[simp] theorem State.ownerEnd_trn (s : State) (via code st r c) : (s.ownerEnd via code st r c).trn = s.trn := rfl
@[simp] theorem State.ownerEnd_pair (s : State) (via code st r c) : (s.ownerEnd via code st r c).pair = s.pair := rfl
@[simp] theorem State.ownerEnd_ras (s : State) (via code st r c) : (s.ownerEnd via code st r c).ras = s.ras := rfl
@[simp] theorem State.ownerEnd_life (s : State) (via code st r c) : (s.ownerEnd via code st r c).life = s.life := rfl
@[simp] theorem State.ownerEnd_pins (s : State) (via code st r c) : (s.ownerEnd via code st r c).pins = s.pins := rfl
@[simp] theorem State.ownerEnd_reg (s : State) (via code st r c) (y : Nat) : (s.ownerEnd via code st r c).reg y = s.reg y := 
  State.reg_congr (State.ownerEnd_regs ..) y
@[simp] theorem State.ownerEnd_f (s : State) (via code st r c) (y : F) : (s.ownerEnd via code st r c).f y = s.f y := 
  State.f_congr (State.ownerEnd_regs ..) y
@[simp] theorem State.ownerEnd_up (s : State) (via code st r c) : (s.ownerEnd via code st r c).up = s.up := 
  State.up_congr (State.ownerEnd_pins ..)
@[simp] theorem State.setBlockFree_pending (s : State) (b) : (s.setBlockFree b).pending = s.pending := rfl
@[simp] theorem State.setBlockFree_freeIdx (s : State) (b) : (s.setBlockFree b).freeIdx = s.freeIdx := rfl
@[simp] theorem State.setBlockFree_sent (s : State) (b) : (s.setBlockFree b).sent = s.sent := rfl
@[simp] theorem State.setBlockFree_inbox (s : State) (b) : (s.setBlockFree b).inbox = s.inbox := rfl
@[simp] theorem State.setBlockFree_ids (s : State) (b) : (s.setBlockFree b).ids = s.ids := rfl
@[simp] theorem State.setBlockFree_tick (s : State) (b) : (s.setBlockFree b).tick = s.tick := rfl
@[simp] theorem State.setBlockFree_regW (s : State) (b) : (s.setBlockFree b).regW = s.regW := rfl
@[simp] theorem State.setBlockFree_arb (s : State) (b) : (s.setBlockFree b).arb = s.arb := rfl
@[simp] theorem State.setBlockFree_arr (s : State) (b) : (s.setBlockFree b).arr = s.arr := rfl
@[simp] theorem State.setBlockFree_tbl (s : State) (b) : (s.setBlockFree b).tbl = s.tbl := rfl
@[simp] theorem State.setBlockFree_mnt (s : State) (b) : (s.setBlockFree b).mnt = s.mnt := rfl
@[simp] theorem State.setBlockFree_mq (s : State) (b) : (s.setBlockFree b).mq = s.mq := rfl
@[simp] theorem State.setBlockFree_lrn (s : State) (b) : (s.setBlockFree b).lrn = s.lrn := rfl
@[simp] theorem State.setBlockFree_dir (s : State) (b) : (s.setBlockFree b).dir = s.dir := rfl
@[simp] theorem State.setBlockFree_trie (s : State) (b) : (s.setBlockFree b).trie = s.trie := rfl
@[simp] theorem State.setBlockFree_dsram (s : State) (b) : (s.setBlockFree b).dsram = s.dsram := rfl
@[simp] theorem State.setBlockFree_rng (s : State) (b) : (s.setBlockFree b).rng = s.rng := rfl
@[simp] theorem State.setBlockFree_prt (s : State) (b) : (s.setBlockFree b).prt = s.prt := rfl
@[simp] theorem State.setBlockFree_lds (s : State) (b) : (s.setBlockFree b).lds = s.lds := rfl
@[simp] theorem State.setBlockFree_ctx (s : State) (b) : (s.setBlockFree b).ctx = s.ctx := rfl
@[simp] theorem State.setBlockFree_heldReads (s : State) (b) : (s.setBlockFree b).heldReads = s.heldReads := rfl
@[simp] theorem State.setBlockFree_tier (s : State) (b) : (s.setBlockFree b).tier = s.tier := rfl
@[simp] theorem State.setBlockFree_mem (s : State) (b) : (s.setBlockFree b).mem = s.mem := rfl
@[simp] theorem State.setBlockFree_host (s : State) (b) : (s.setBlockFree b).host = s.host := rfl
@[simp] theorem State.setBlockFree_dram (s : State) (b) : (s.setBlockFree b).dram = s.dram := rfl
@[simp] theorem State.setBlockFree_trn (s : State) (b) : (s.setBlockFree b).trn = s.trn := rfl
@[simp] theorem State.setBlockFree_pair (s : State) (b) : (s.setBlockFree b).pair = s.pair := rfl
@[simp] theorem State.setBlockFree_ras (s : State) (b) : (s.setBlockFree b).ras = s.ras := rfl
@[simp] theorem State.setBlockFree_mbox (s : State) (b) : (s.setBlockFree b).mbox = s.mbox := rfl
@[simp] theorem State.setBlockFree_life (s : State) (b) : (s.setBlockFree b).life = s.life := rfl
@[simp] theorem State.setBlockFree_pins (s : State) (b) : (s.setBlockFree b).pins = s.pins := rfl
@[simp] theorem State.setBlockFree_up (s : State) (b) : (s.setBlockFree b).up = s.up := 
  State.up_congr (State.setBlockFree_pins ..)
@[simp] theorem State.setHmapFree_pending (s : State) (b) : (s.setHmapFree b).pending = s.pending := rfl
@[simp] theorem State.setHmapFree_freeIdx (s : State) (b) : (s.setHmapFree b).freeIdx = s.freeIdx := rfl
@[simp] theorem State.setHmapFree_sent (s : State) (b) : (s.setHmapFree b).sent = s.sent := rfl
@[simp] theorem State.setHmapFree_inbox (s : State) (b) : (s.setHmapFree b).inbox = s.inbox := rfl
@[simp] theorem State.setHmapFree_ids (s : State) (b) : (s.setHmapFree b).ids = s.ids := rfl
@[simp] theorem State.setHmapFree_tick (s : State) (b) : (s.setHmapFree b).tick = s.tick := rfl
@[simp] theorem State.setHmapFree_regW (s : State) (b) : (s.setHmapFree b).regW = s.regW := rfl
@[simp] theorem State.setHmapFree_arb (s : State) (b) : (s.setHmapFree b).arb = s.arb := rfl
@[simp] theorem State.setHmapFree_arr (s : State) (b) : (s.setHmapFree b).arr = s.arr := rfl
@[simp] theorem State.setHmapFree_tbl (s : State) (b) : (s.setHmapFree b).tbl = s.tbl := rfl
@[simp] theorem State.setHmapFree_mnt (s : State) (b) : (s.setHmapFree b).mnt = s.mnt := rfl
@[simp] theorem State.setHmapFree_mq (s : State) (b) : (s.setHmapFree b).mq = s.mq := rfl
@[simp] theorem State.setHmapFree_lrn (s : State) (b) : (s.setHmapFree b).lrn = s.lrn := rfl
@[simp] theorem State.setHmapFree_dir (s : State) (b) : (s.setHmapFree b).dir = s.dir := rfl
@[simp] theorem State.setHmapFree_trie (s : State) (b) : (s.setHmapFree b).trie = s.trie := rfl
@[simp] theorem State.setHmapFree_dsram (s : State) (b) : (s.setHmapFree b).dsram = s.dsram := rfl
@[simp] theorem State.setHmapFree_rng (s : State) (b) : (s.setHmapFree b).rng = s.rng := rfl
@[simp] theorem State.setHmapFree_prt (s : State) (b) : (s.setHmapFree b).prt = s.prt := rfl
@[simp] theorem State.setHmapFree_lds (s : State) (b) : (s.setHmapFree b).lds = s.lds := rfl
@[simp] theorem State.setHmapFree_ctx (s : State) (b) : (s.setHmapFree b).ctx = s.ctx := rfl
@[simp] theorem State.setHmapFree_heldReads (s : State) (b) : (s.setHmapFree b).heldReads = s.heldReads := rfl
@[simp] theorem State.setHmapFree_tier (s : State) (b) : (s.setHmapFree b).tier = s.tier := rfl
@[simp] theorem State.setHmapFree_mem (s : State) (b) : (s.setHmapFree b).mem = s.mem := rfl
@[simp] theorem State.setHmapFree_host (s : State) (b) : (s.setHmapFree b).host = s.host := rfl
@[simp] theorem State.setHmapFree_dram (s : State) (b) : (s.setHmapFree b).dram = s.dram := rfl
@[simp] theorem State.setHmapFree_trn (s : State) (b) : (s.setHmapFree b).trn = s.trn := rfl
@[simp] theorem State.setHmapFree_pair (s : State) (b) : (s.setHmapFree b).pair = s.pair := rfl
@[simp] theorem State.setHmapFree_ras (s : State) (b) : (s.setHmapFree b).ras = s.ras := rfl
@[simp] theorem State.setHmapFree_mbox (s : State) (b) : (s.setHmapFree b).mbox = s.mbox := rfl
@[simp] theorem State.setHmapFree_life (s : State) (b) : (s.setHmapFree b).life = s.life := rfl
@[simp] theorem State.setHmapFree_pins (s : State) (b) : (s.setHmapFree b).pins = s.pins := rfl
@[simp] theorem State.setHmapFree_up (s : State) (b) : (s.setHmapFree b).up = s.up := 
  State.up_congr (State.setHmapFree_pins ..)
@[simp] theorem State.updRas_pending (s : State) (f) : (s.updRas f).pending = s.pending := rfl
@[simp] theorem State.updRas_freeIdx (s : State) (f) : (s.updRas f).freeIdx = s.freeIdx := rfl
@[simp] theorem State.updRas_sent (s : State) (f) : (s.updRas f).sent = s.sent := rfl
@[simp] theorem State.updRas_inbox (s : State) (f) : (s.updRas f).inbox = s.inbox := rfl
@[simp] theorem State.updRas_ids (s : State) (f) : (s.updRas f).ids = s.ids := rfl
@[simp] theorem State.updRas_tick (s : State) (f) : (s.updRas f).tick = s.tick := rfl
@[simp] theorem State.updRas_regs (s : State) (f) : (s.updRas f).regs = s.regs := rfl
@[simp] theorem State.updRas_regW (s : State) (f) : (s.updRas f).regW = s.regW := rfl
@[simp] theorem State.updRas_arb (s : State) (f) : (s.updRas f).arb = s.arb := rfl
@[simp] theorem State.updRas_arr (s : State) (f) : (s.updRas f).arr = s.arr := rfl
@[simp] theorem State.updRas_tbl (s : State) (f) : (s.updRas f).tbl = s.tbl := rfl
@[simp] theorem State.updRas_mnt (s : State) (f) : (s.updRas f).mnt = s.mnt := rfl
@[simp] theorem State.updRas_mq (s : State) (f) : (s.updRas f).mq = s.mq := rfl
@[simp] theorem State.updRas_lrn (s : State) (f) : (s.updRas f).lrn = s.lrn := rfl
@[simp] theorem State.updRas_dir (s : State) (f) : (s.updRas f).dir = s.dir := rfl
@[simp] theorem State.updRas_trie (s : State) (f) : (s.updRas f).trie = s.trie := rfl
@[simp] theorem State.updRas_dsram (s : State) (f) : (s.updRas f).dsram = s.dsram := rfl
@[simp] theorem State.updRas_rng (s : State) (f) : (s.updRas f).rng = s.rng := rfl
@[simp] theorem State.updRas_prt (s : State) (f) : (s.updRas f).prt = s.prt := rfl
@[simp] theorem State.updRas_lds (s : State) (f) : (s.updRas f).lds = s.lds := rfl
@[simp] theorem State.updRas_ctx (s : State) (f) : (s.updRas f).ctx = s.ctx := rfl
@[simp] theorem State.updRas_heldReads (s : State) (f) : (s.updRas f).heldReads = s.heldReads := rfl
@[simp] theorem State.updRas_tier (s : State) (f) : (s.updRas f).tier = s.tier := rfl
@[simp] theorem State.updRas_mem (s : State) (f) : (s.updRas f).mem = s.mem := rfl
@[simp] theorem State.updRas_host (s : State) (f) : (s.updRas f).host = s.host := rfl
@[simp] theorem State.updRas_dram (s : State) (f) : (s.updRas f).dram = s.dram := rfl
@[simp] theorem State.updRas_trn (s : State) (f) : (s.updRas f).trn = s.trn := rfl
@[simp] theorem State.updRas_pair (s : State) (f) : (s.updRas f).pair = s.pair := rfl
@[simp] theorem State.updRas_mbox (s : State) (f) : (s.updRas f).mbox = s.mbox := rfl
@[simp] theorem State.updRas_life (s : State) (f) : (s.updRas f).life = s.life := rfl
@[simp] theorem State.updRas_pins (s : State) (f) : (s.updRas f).pins = s.pins := rfl
@[simp] theorem State.updRas_reg (s : State) (f) (y : Nat) : (s.updRas f).reg y = s.reg y := 
  State.reg_congr (State.updRas_regs ..) y
@[simp] theorem State.updRas_f (s : State) (f) (y : F) : (s.updRas f).f y = s.f y := 
  State.f_congr (State.updRas_regs ..) y
@[simp] theorem State.updRas_up (s : State) (f) : (s.updRas f).up = s.up := 
  State.up_congr (State.updRas_pins ..)
@[simp] theorem State.updLife_pending (s : State) (f) : (s.updLife f).pending = s.pending := rfl
@[simp] theorem State.updLife_freeIdx (s : State) (f) : (s.updLife f).freeIdx = s.freeIdx := rfl
@[simp] theorem State.updLife_sent (s : State) (f) : (s.updLife f).sent = s.sent := rfl
@[simp] theorem State.updLife_inbox (s : State) (f) : (s.updLife f).inbox = s.inbox := rfl
@[simp] theorem State.updLife_ids (s : State) (f) : (s.updLife f).ids = s.ids := rfl
@[simp] theorem State.updLife_tick (s : State) (f) : (s.updLife f).tick = s.tick := rfl
@[simp] theorem State.updLife_regs (s : State) (f) : (s.updLife f).regs = s.regs := rfl
@[simp] theorem State.updLife_regW (s : State) (f) : (s.updLife f).regW = s.regW := rfl
@[simp] theorem State.updLife_arb (s : State) (f) : (s.updLife f).arb = s.arb := rfl
@[simp] theorem State.updLife_arr (s : State) (f) : (s.updLife f).arr = s.arr := rfl
@[simp] theorem State.updLife_tbl (s : State) (f) : (s.updLife f).tbl = s.tbl := rfl
@[simp] theorem State.updLife_mnt (s : State) (f) : (s.updLife f).mnt = s.mnt := rfl
@[simp] theorem State.updLife_mq (s : State) (f) : (s.updLife f).mq = s.mq := rfl
@[simp] theorem State.updLife_lrn (s : State) (f) : (s.updLife f).lrn = s.lrn := rfl
@[simp] theorem State.updLife_dir (s : State) (f) : (s.updLife f).dir = s.dir := rfl
@[simp] theorem State.updLife_trie (s : State) (f) : (s.updLife f).trie = s.trie := rfl
@[simp] theorem State.updLife_dsram (s : State) (f) : (s.updLife f).dsram = s.dsram := rfl
@[simp] theorem State.updLife_rng (s : State) (f) : (s.updLife f).rng = s.rng := rfl
@[simp] theorem State.updLife_prt (s : State) (f) : (s.updLife f).prt = s.prt := rfl
@[simp] theorem State.updLife_lds (s : State) (f) : (s.updLife f).lds = s.lds := rfl
@[simp] theorem State.updLife_ctx (s : State) (f) : (s.updLife f).ctx = s.ctx := rfl
@[simp] theorem State.updLife_heldReads (s : State) (f) : (s.updLife f).heldReads = s.heldReads := rfl
@[simp] theorem State.updLife_tier (s : State) (f) : (s.updLife f).tier = s.tier := rfl
@[simp] theorem State.updLife_mem (s : State) (f) : (s.updLife f).mem = s.mem := rfl
@[simp] theorem State.updLife_host (s : State) (f) : (s.updLife f).host = s.host := rfl
@[simp] theorem State.updLife_dram (s : State) (f) : (s.updLife f).dram = s.dram := rfl
@[simp] theorem State.updLife_trn (s : State) (f) : (s.updLife f).trn = s.trn := rfl
@[simp] theorem State.updLife_pair (s : State) (f) : (s.updLife f).pair = s.pair := rfl
@[simp] theorem State.updLife_ras (s : State) (f) : (s.updLife f).ras = s.ras := rfl
@[simp] theorem State.updLife_mbox (s : State) (f) : (s.updLife f).mbox = s.mbox := rfl
@[simp] theorem State.updLife_pins (s : State) (f) : (s.updLife f).pins = s.pins := rfl
@[simp] theorem State.updLife_reg (s : State) (f) (y : Nat) : (s.updLife f).reg y = s.reg y := 
  State.reg_congr (State.updLife_regs ..) y
@[simp] theorem State.updLife_f (s : State) (f) (y : F) : (s.updLife f).f y = s.f y := 
  State.f_congr (State.updLife_regs ..) y
@[simp] theorem State.updLife_up (s : State) (f) : (s.updLife f).up = s.up := 
  State.up_congr (State.updLife_pins ..)
@[simp] theorem State.mboxAns_pending (s : State) (n c rc p) : (s.mboxAns n c rc p).pending = s.pending := rfl
@[simp] theorem State.mboxAns_freeIdx (s : State) (n c rc p) : (s.mboxAns n c rc p).freeIdx = s.freeIdx := rfl
@[simp] theorem State.mboxAns_inbox (s : State) (n c rc p) : (s.mboxAns n c rc p).inbox = s.inbox := rfl
@[simp] theorem State.mboxAns_ids (s : State) (n c rc p) : (s.mboxAns n c rc p).ids = s.ids := rfl
@[simp] theorem State.mboxAns_tick (s : State) (n c rc p) : (s.mboxAns n c rc p).tick = s.tick := rfl
@[simp] theorem State.mboxAns_regs (s : State) (n c rc p) : (s.mboxAns n c rc p).regs = s.regs := rfl
@[simp] theorem State.mboxAns_regW (s : State) (n c rc p) : (s.mboxAns n c rc p).regW = s.regW := rfl
@[simp] theorem State.mboxAns_arb (s : State) (n c rc p) : (s.mboxAns n c rc p).arb = s.arb := rfl
@[simp] theorem State.mboxAns_arr (s : State) (n c rc p) : (s.mboxAns n c rc p).arr = s.arr := rfl
@[simp] theorem State.mboxAns_tbl (s : State) (n c rc p) : (s.mboxAns n c rc p).tbl = s.tbl := rfl
@[simp] theorem State.mboxAns_mnt (s : State) (n c rc p) : (s.mboxAns n c rc p).mnt = s.mnt := rfl
@[simp] theorem State.mboxAns_mq (s : State) (n c rc p) : (s.mboxAns n c rc p).mq = s.mq := rfl
@[simp] theorem State.mboxAns_lrn (s : State) (n c rc p) : (s.mboxAns n c rc p).lrn = s.lrn := rfl
@[simp] theorem State.mboxAns_dir (s : State) (n c rc p) : (s.mboxAns n c rc p).dir = s.dir := rfl
@[simp] theorem State.mboxAns_trie (s : State) (n c rc p) : (s.mboxAns n c rc p).trie = s.trie := rfl
@[simp] theorem State.mboxAns_dsram (s : State) (n c rc p) : (s.mboxAns n c rc p).dsram = s.dsram := rfl
@[simp] theorem State.mboxAns_rng (s : State) (n c rc p) : (s.mboxAns n c rc p).rng = s.rng := rfl
@[simp] theorem State.mboxAns_prt (s : State) (n c rc p) : (s.mboxAns n c rc p).prt = s.prt := rfl
@[simp] theorem State.mboxAns_lds (s : State) (n c rc p) : (s.mboxAns n c rc p).lds = s.lds := rfl
@[simp] theorem State.mboxAns_ctx (s : State) (n c rc p) : (s.mboxAns n c rc p).ctx = s.ctx := rfl
@[simp] theorem State.mboxAns_heldReads (s : State) (n c rc p) : (s.mboxAns n c rc p).heldReads = s.heldReads := rfl
@[simp] theorem State.mboxAns_tier (s : State) (n c rc p) : (s.mboxAns n c rc p).tier = s.tier := rfl
@[simp] theorem State.mboxAns_mem (s : State) (n c rc p) : (s.mboxAns n c rc p).mem = s.mem := rfl
@[simp] theorem State.mboxAns_host (s : State) (n c rc p) : (s.mboxAns n c rc p).host = s.host := rfl
@[simp] theorem State.mboxAns_dram (s : State) (n c rc p) : (s.mboxAns n c rc p).dram = s.dram := rfl
@[simp] theorem State.mboxAns_trn (s : State) (n c rc p) : (s.mboxAns n c rc p).trn = s.trn := rfl
@[simp] theorem State.mboxAns_pair (s : State) (n c rc p) : (s.mboxAns n c rc p).pair = s.pair := rfl
@[simp] theorem State.mboxAns_ras (s : State) (n c rc p) : (s.mboxAns n c rc p).ras = s.ras := rfl
@[simp] theorem State.mboxAns_mbox (s : State) (n c rc p) : (s.mboxAns n c rc p).mbox = s.mbox := rfl
@[simp] theorem State.mboxAns_life (s : State) (n c rc p) : (s.mboxAns n c rc p).life = s.life := rfl
@[simp] theorem State.mboxAns_pins (s : State) (n c rc p) : (s.mboxAns n c rc p).pins = s.pins := rfl
@[simp] theorem State.mboxAns_reg (s : State) (n c rc p) (y : Nat) : (s.mboxAns n c rc p).reg y = s.reg y := 
  State.reg_congr (State.mboxAns_regs ..) y
@[simp] theorem State.mboxAns_f (s : State) (n c rc p) (y : F) : (s.mboxAns n c rc p).f y = s.f y := 
  State.f_congr (State.mboxAns_regs ..) y
@[simp] theorem State.mboxAns_up (s : State) (n c rc p) : (s.mboxAns n c rc p).up = s.up := 
  State.up_congr (State.mboxAns_pins ..)
@[simp] theorem State.fmAns_pending (s : State) (c rc p) : (s.fmAns c rc p).pending = s.pending := rfl
@[simp] theorem State.fmAns_freeIdx (s : State) (c rc p) : (s.fmAns c rc p).freeIdx = s.freeIdx := rfl
@[simp] theorem State.fmAns_inbox (s : State) (c rc p) : (s.fmAns c rc p).inbox = s.inbox := rfl
@[simp] theorem State.fmAns_ids (s : State) (c rc p) : (s.fmAns c rc p).ids = s.ids := rfl
@[simp] theorem State.fmAns_tick (s : State) (c rc p) : (s.fmAns c rc p).tick = s.tick := rfl
@[simp] theorem State.fmAns_regs (s : State) (c rc p) : (s.fmAns c rc p).regs = s.regs := rfl
@[simp] theorem State.fmAns_regW (s : State) (c rc p) : (s.fmAns c rc p).regW = s.regW := rfl
@[simp] theorem State.fmAns_arb (s : State) (c rc p) : (s.fmAns c rc p).arb = s.arb := rfl
@[simp] theorem State.fmAns_arr (s : State) (c rc p) : (s.fmAns c rc p).arr = s.arr := rfl
@[simp] theorem State.fmAns_tbl (s : State) (c rc p) : (s.fmAns c rc p).tbl = s.tbl := rfl
@[simp] theorem State.fmAns_mnt (s : State) (c rc p) : (s.fmAns c rc p).mnt = s.mnt := rfl
@[simp] theorem State.fmAns_mq (s : State) (c rc p) : (s.fmAns c rc p).mq = s.mq := rfl
@[simp] theorem State.fmAns_lrn (s : State) (c rc p) : (s.fmAns c rc p).lrn = s.lrn := rfl
@[simp] theorem State.fmAns_dir (s : State) (c rc p) : (s.fmAns c rc p).dir = s.dir := rfl
@[simp] theorem State.fmAns_trie (s : State) (c rc p) : (s.fmAns c rc p).trie = s.trie := rfl
@[simp] theorem State.fmAns_dsram (s : State) (c rc p) : (s.fmAns c rc p).dsram = s.dsram := rfl
@[simp] theorem State.fmAns_rng (s : State) (c rc p) : (s.fmAns c rc p).rng = s.rng := rfl
@[simp] theorem State.fmAns_prt (s : State) (c rc p) : (s.fmAns c rc p).prt = s.prt := rfl
@[simp] theorem State.fmAns_lds (s : State) (c rc p) : (s.fmAns c rc p).lds = s.lds := rfl
@[simp] theorem State.fmAns_ctx (s : State) (c rc p) : (s.fmAns c rc p).ctx = s.ctx := rfl
@[simp] theorem State.fmAns_heldReads (s : State) (c rc p) : (s.fmAns c rc p).heldReads = s.heldReads := rfl
@[simp] theorem State.fmAns_tier (s : State) (c rc p) : (s.fmAns c rc p).tier = s.tier := rfl
@[simp] theorem State.fmAns_mem (s : State) (c rc p) : (s.fmAns c rc p).mem = s.mem := rfl
@[simp] theorem State.fmAns_host (s : State) (c rc p) : (s.fmAns c rc p).host = s.host := rfl
@[simp] theorem State.fmAns_dram (s : State) (c rc p) : (s.fmAns c rc p).dram = s.dram := rfl
@[simp] theorem State.fmAns_trn (s : State) (c rc p) : (s.fmAns c rc p).trn = s.trn := rfl
@[simp] theorem State.fmAns_pair (s : State) (c rc p) : (s.fmAns c rc p).pair = s.pair := rfl
@[simp] theorem State.fmAns_ras (s : State) (c rc p) : (s.fmAns c rc p).ras = s.ras := rfl
@[simp] theorem State.fmAns_mbox (s : State) (c rc p) : (s.fmAns c rc p).mbox = s.mbox := rfl
@[simp] theorem State.fmAns_life (s : State) (c rc p) : (s.fmAns c rc p).life = s.life := rfl
@[simp] theorem State.fmAns_pins (s : State) (c rc p) : (s.fmAns c rc p).pins = s.pins := rfl
@[simp] theorem State.fmAns_reg (s : State) (c rc p) (y : Nat) : (s.fmAns c rc p).reg y = s.reg y := 
  State.reg_congr (State.fmAns_regs ..) y
@[simp] theorem State.fmAns_f (s : State) (c rc p) (y : F) : (s.fmAns c rc p).f y = s.f y := 
  State.f_congr (State.fmAns_regs ..) y
@[simp] theorem State.fmAns_up (s : State) (c rc p) : (s.fmAns c rc p).up = s.up := 
  State.up_congr (State.fmAns_pins ..)
@[simp] theorem State.setKey_pending (s : State) (n k) : (s.setKey n k).pending = s.pending := rfl
@[simp] theorem State.setKey_freeIdx (s : State) (n k) : (s.setKey n k).freeIdx = s.freeIdx := rfl
@[simp] theorem State.setKey_sent (s : State) (n k) : (s.setKey n k).sent = s.sent := rfl
@[simp] theorem State.setKey_inbox (s : State) (n k) : (s.setKey n k).inbox = s.inbox := rfl
@[simp] theorem State.setKey_ids (s : State) (n k) : (s.setKey n k).ids = s.ids := rfl
@[simp] theorem State.setKey_tick (s : State) (n k) : (s.setKey n k).tick = s.tick := rfl
@[simp] theorem State.setKey_regs (s : State) (n k) : (s.setKey n k).regs = s.regs := rfl
@[simp] theorem State.setKey_regW (s : State) (n k) : (s.setKey n k).regW = s.regW := rfl
@[simp] theorem State.setKey_arb (s : State) (n k) : (s.setKey n k).arb = s.arb := rfl
@[simp] theorem State.setKey_arr (s : State) (n k) : (s.setKey n k).arr = s.arr := rfl
@[simp] theorem State.setKey_tbl (s : State) (n k) : (s.setKey n k).tbl = s.tbl := rfl
@[simp] theorem State.setKey_mnt (s : State) (n k) : (s.setKey n k).mnt = s.mnt := rfl
@[simp] theorem State.setKey_mq (s : State) (n k) : (s.setKey n k).mq = s.mq := rfl
@[simp] theorem State.setKey_lrn (s : State) (n k) : (s.setKey n k).lrn = s.lrn := rfl
@[simp] theorem State.setKey_dir (s : State) (n k) : (s.setKey n k).dir = s.dir := rfl
@[simp] theorem State.setKey_trie (s : State) (n k) : (s.setKey n k).trie = s.trie := rfl
@[simp] theorem State.setKey_dsram (s : State) (n k) : (s.setKey n k).dsram = s.dsram := rfl
@[simp] theorem State.setKey_rng (s : State) (n k) : (s.setKey n k).rng = s.rng := rfl
@[simp] theorem State.setKey_prt (s : State) (n k) : (s.setKey n k).prt = s.prt := rfl
@[simp] theorem State.setKey_lds (s : State) (n k) : (s.setKey n k).lds = s.lds := rfl
@[simp] theorem State.setKey_ctx (s : State) (n k) : (s.setKey n k).ctx = s.ctx := rfl
@[simp] theorem State.setKey_heldReads (s : State) (n k) : (s.setKey n k).heldReads = s.heldReads := rfl
@[simp] theorem State.setKey_tier (s : State) (n k) : (s.setKey n k).tier = s.tier := rfl
@[simp] theorem State.setKey_mem (s : State) (n k) : (s.setKey n k).mem = s.mem := rfl
@[simp] theorem State.setKey_host (s : State) (n k) : (s.setKey n k).host = s.host := rfl
@[simp] theorem State.setKey_dram (s : State) (n k) : (s.setKey n k).dram = s.dram := rfl
@[simp] theorem State.setKey_trn (s : State) (n k) : (s.setKey n k).trn = s.trn := rfl
@[simp] theorem State.setKey_pair (s : State) (n k) : (s.setKey n k).pair = s.pair := rfl
@[simp] theorem State.setKey_ras (s : State) (n k) : (s.setKey n k).ras = s.ras := rfl
@[simp] theorem State.setKey_mbox (s : State) (n k) : (s.setKey n k).mbox = s.mbox := rfl
@[simp] theorem State.setKey_pins (s : State) (n k) : (s.setKey n k).pins = s.pins := rfl
@[simp] theorem State.setKey_reg (s : State) (n k) (y : Nat) : (s.setKey n k).reg y = s.reg y := 
  State.reg_congr (State.setKey_regs ..) y
@[simp] theorem State.setKey_f (s : State) (n k) (y : F) : (s.setKey n k).f y = s.f y := 
  State.f_congr (State.setKey_regs ..) y
@[simp] theorem State.setKey_up (s : State) (n k) : (s.setKey n k).up = s.up := 
  State.up_congr (State.setKey_pins ..)
@[simp] theorem State.sendIrq_pending (s : State) (n) : (s.sendIrq n).pending = s.pending :=
  (State.sendIrq_eff s _).same .pending rfl
@[simp] theorem State.sendIrq_freeIdx (s : State) (n) : (s.sendIrq n).freeIdx = s.freeIdx :=
  (State.sendIrq_eff s _).same .freeIdx rfl
@[simp] theorem State.sendIrq_inbox (s : State) (n) : (s.sendIrq n).inbox = s.inbox :=
  (State.sendIrq_eff s _).same .inbox rfl
@[simp] theorem State.sendIrq_ids (s : State) (n) : (s.sendIrq n).ids = s.ids :=
  (State.sendIrq_eff s _).same .ids rfl
@[simp] theorem State.sendIrq_tick (s : State) (n) : (s.sendIrq n).tick = s.tick :=
  (State.sendIrq_eff s _).same .tick rfl
@[simp] theorem State.sendIrq_regs (s : State) (n) : (s.sendIrq n).regs = s.regs :=
  (State.sendIrq_eff s _).same .regs rfl
@[simp] theorem State.sendIrq_regW (s : State) (n) : (s.sendIrq n).regW = s.regW :=
  (State.sendIrq_eff s _).same .regW rfl
@[simp] theorem State.sendIrq_arb (s : State) (n) : (s.sendIrq n).arb = s.arb :=
  (State.sendIrq_eff s _).same .arb rfl
@[simp] theorem State.sendIrq_arr (s : State) (n) : (s.sendIrq n).arr = s.arr :=
  (State.sendIrq_eff s _).same .arr rfl
@[simp] theorem State.sendIrq_tbl (s : State) (n) : (s.sendIrq n).tbl = s.tbl :=
  (State.sendIrq_eff s _).same .tbl rfl
@[simp] theorem State.sendIrq_mnt (s : State) (n) : (s.sendIrq n).mnt = s.mnt :=
  (State.sendIrq_eff s _).same .mnt rfl
@[simp] theorem State.sendIrq_mq (s : State) (n) : (s.sendIrq n).mq = s.mq :=
  (State.sendIrq_eff s _).same .mq rfl
@[simp] theorem State.sendIrq_lrn (s : State) (n) : (s.sendIrq n).lrn = s.lrn :=
  (State.sendIrq_eff s _).same .lrn rfl
@[simp] theorem State.sendIrq_dir (s : State) (n) : (s.sendIrq n).dir = s.dir :=
  (State.sendIrq_eff s _).same .dir rfl
@[simp] theorem State.sendIrq_trie (s : State) (n) : (s.sendIrq n).trie = s.trie :=
  (State.sendIrq_eff s _).same .trie rfl
@[simp] theorem State.sendIrq_dsram (s : State) (n) : (s.sendIrq n).dsram = s.dsram :=
  (State.sendIrq_eff s _).same .dsram rfl
@[simp] theorem State.sendIrq_rng (s : State) (n) : (s.sendIrq n).rng = s.rng :=
  (State.sendIrq_eff s _).same .rng rfl
@[simp] theorem State.sendIrq_prt (s : State) (n) : (s.sendIrq n).prt = s.prt :=
  (State.sendIrq_eff s _).same .prt rfl
@[simp] theorem State.sendIrq_lds (s : State) (n) : (s.sendIrq n).lds = s.lds :=
  (State.sendIrq_eff s _).same .lds rfl
@[simp] theorem State.sendIrq_ctx (s : State) (n) : (s.sendIrq n).ctx = s.ctx :=
  (State.sendIrq_eff s _).same .ctx rfl
@[simp] theorem State.sendIrq_heldReads (s : State) (n) : (s.sendIrq n).heldReads = s.heldReads :=
  (State.sendIrq_eff s _).same .heldReads rfl
@[simp] theorem State.sendIrq_tier (s : State) (n) : (s.sendIrq n).tier = s.tier :=
  (State.sendIrq_eff s _).same .tier rfl
@[simp] theorem State.sendIrq_mem (s : State) (n) : (s.sendIrq n).mem = s.mem :=
  (State.sendIrq_eff s _).same .mem rfl
@[simp] theorem State.sendIrq_host (s : State) (n) : (s.sendIrq n).host = s.host :=
  (State.sendIrq_eff s _).same .host rfl
@[simp] theorem State.sendIrq_dram (s : State) (n) : (s.sendIrq n).dram = s.dram :=
  (State.sendIrq_eff s _).same .dram rfl
@[simp] theorem State.sendIrq_trn (s : State) (n) : (s.sendIrq n).trn = s.trn :=
  (State.sendIrq_eff s _).same .trn rfl
@[simp] theorem State.sendIrq_pair (s : State) (n) : (s.sendIrq n).pair = s.pair :=
  (State.sendIrq_eff s _).same .pair rfl
@[simp] theorem State.sendIrq_ras (s : State) (n) : (s.sendIrq n).ras = s.ras :=
  (State.sendIrq_eff s _).same .ras rfl
@[simp] theorem State.sendIrq_mbox (s : State) (n) : (s.sendIrq n).mbox = s.mbox :=
  (State.sendIrq_eff s _).same .mbox rfl
@[simp] theorem State.sendIrq_life (s : State) (n) : (s.sendIrq n).life = s.life :=
  (State.sendIrq_eff s _).same .life rfl
@[simp] theorem State.sendIrq_pins (s : State) (n) : (s.sendIrq n).pins = s.pins :=
  (State.sendIrq_eff s _).same .pins rfl
@[simp] theorem State.sendIrq_reg (s : State) (n) (y : Nat) : (s.sendIrq n).reg y = s.reg y := 
  State.reg_congr (State.sendIrq_regs ..) y
@[simp] theorem State.sendIrq_f (s : State) (n) (y : F) : (s.sendIrq n).f y = s.f y := 
  State.f_congr (State.sendIrq_regs ..) y
@[simp] theorem State.sendIrq_up (s : State) (n) : (s.sendIrq n).up = s.up := 
  State.up_congr (State.sendIrq_pins ..)
@[simp] theorem State.setIrq_pending (s : State) (n) : (s.setIrq n).pending = s.pending :=
  (State.setIrq_eff s _).same .pending rfl
@[simp] theorem State.setIrq_freeIdx (s : State) (n) : (s.setIrq n).freeIdx = s.freeIdx :=
  (State.setIrq_eff s _).same .freeIdx rfl
@[simp] theorem State.setIrq_inbox (s : State) (n) : (s.setIrq n).inbox = s.inbox :=
  (State.setIrq_eff s _).same .inbox rfl
@[simp] theorem State.setIrq_ids (s : State) (n) : (s.setIrq n).ids = s.ids :=
  (State.setIrq_eff s _).same .ids rfl
@[simp] theorem State.setIrq_tick (s : State) (n) : (s.setIrq n).tick = s.tick :=
  (State.setIrq_eff s _).same .tick rfl
@[simp] theorem State.setIrq_regW (s : State) (n) : (s.setIrq n).regW = s.regW :=
  (State.setIrq_eff s _).same .regW rfl
@[simp] theorem State.setIrq_arb (s : State) (n) : (s.setIrq n).arb = s.arb :=
  (State.setIrq_eff s _).same .arb rfl
@[simp] theorem State.setIrq_arr (s : State) (n) : (s.setIrq n).arr = s.arr :=
  (State.setIrq_eff s _).same .arr rfl
@[simp] theorem State.setIrq_tbl (s : State) (n) : (s.setIrq n).tbl = s.tbl :=
  (State.setIrq_eff s _).same .tbl rfl
@[simp] theorem State.setIrq_mnt (s : State) (n) : (s.setIrq n).mnt = s.mnt :=
  (State.setIrq_eff s _).same .mnt rfl
@[simp] theorem State.setIrq_mq (s : State) (n) : (s.setIrq n).mq = s.mq :=
  (State.setIrq_eff s _).same .mq rfl
@[simp] theorem State.setIrq_lrn (s : State) (n) : (s.setIrq n).lrn = s.lrn :=
  (State.setIrq_eff s _).same .lrn rfl
@[simp] theorem State.setIrq_dir (s : State) (n) : (s.setIrq n).dir = s.dir :=
  (State.setIrq_eff s _).same .dir rfl
@[simp] theorem State.setIrq_trie (s : State) (n) : (s.setIrq n).trie = s.trie :=
  (State.setIrq_eff s _).same .trie rfl
@[simp] theorem State.setIrq_dsram (s : State) (n) : (s.setIrq n).dsram = s.dsram :=
  (State.setIrq_eff s _).same .dsram rfl
@[simp] theorem State.setIrq_rng (s : State) (n) : (s.setIrq n).rng = s.rng :=
  (State.setIrq_eff s _).same .rng rfl
@[simp] theorem State.setIrq_prt (s : State) (n) : (s.setIrq n).prt = s.prt :=
  (State.setIrq_eff s _).same .prt rfl
@[simp] theorem State.setIrq_lds (s : State) (n) : (s.setIrq n).lds = s.lds :=
  (State.setIrq_eff s _).same .lds rfl
@[simp] theorem State.setIrq_ctx (s : State) (n) : (s.setIrq n).ctx = s.ctx :=
  (State.setIrq_eff s _).same .ctx rfl
@[simp] theorem State.setIrq_heldReads (s : State) (n) : (s.setIrq n).heldReads = s.heldReads :=
  (State.setIrq_eff s _).same .heldReads rfl
@[simp] theorem State.setIrq_tier (s : State) (n) : (s.setIrq n).tier = s.tier :=
  (State.setIrq_eff s _).same .tier rfl
@[simp] theorem State.setIrq_mem (s : State) (n) : (s.setIrq n).mem = s.mem :=
  (State.setIrq_eff s _).same .mem rfl
@[simp] theorem State.setIrq_host (s : State) (n) : (s.setIrq n).host = s.host :=
  (State.setIrq_eff s _).same .host rfl
@[simp] theorem State.setIrq_dram (s : State) (n) : (s.setIrq n).dram = s.dram :=
  (State.setIrq_eff s _).same .dram rfl
@[simp] theorem State.setIrq_trn (s : State) (n) : (s.setIrq n).trn = s.trn :=
  (State.setIrq_eff s _).same .trn rfl
@[simp] theorem State.setIrq_pair (s : State) (n) : (s.setIrq n).pair = s.pair :=
  (State.setIrq_eff s _).same .pair rfl
@[simp] theorem State.setIrq_mbox (s : State) (n) : (s.setIrq n).mbox = s.mbox :=
  (State.setIrq_eff s _).same .mbox rfl
@[simp] theorem State.setIrq_life (s : State) (n) : (s.setIrq n).life = s.life :=
  (State.setIrq_eff s _).same .life rfl
@[simp] theorem State.setIrq_pins (s : State) (n) : (s.setIrq n).pins = s.pins :=
  (State.setIrq_eff s _).same .pins rfl
@[simp] theorem State.setIrq_up (s : State) (n) : (s.setIrq n).up = s.up := 
  State.up_congr (State.setIrq_pins ..)
@[simp] theorem State.raiseAt_pending (s : State) (k e a b) : (s.raiseAt k e a b).pending = s.pending :=
  (State.raiseAt_eff s _ _ _ _).same .pending rfl
@[simp] theorem State.raiseAt_freeIdx (s : State) (k e a b) : (s.raiseAt k e a b).freeIdx = s.freeIdx :=
  (State.raiseAt_eff s _ _ _ _).same .freeIdx rfl
@[simp] theorem State.raiseAt_inbox (s : State) (k e a b) : (s.raiseAt k e a b).inbox = s.inbox :=
  (State.raiseAt_eff s _ _ _ _).same .inbox rfl
@[simp] theorem State.raiseAt_ids (s : State) (k e a b) : (s.raiseAt k e a b).ids = s.ids :=
  (State.raiseAt_eff s _ _ _ _).same .ids rfl
@[simp] theorem State.raiseAt_tick (s : State) (k e a b) : (s.raiseAt k e a b).tick = s.tick :=
  (State.raiseAt_eff s _ _ _ _).same .tick rfl
@[simp] theorem State.raiseAt_regW (s : State) (k e a b) : (s.raiseAt k e a b).regW = s.regW :=
  (State.raiseAt_eff s _ _ _ _).same .regW rfl
@[simp] theorem State.raiseAt_arb (s : State) (k e a b) : (s.raiseAt k e a b).arb = s.arb :=
  (State.raiseAt_eff s _ _ _ _).same .arb rfl
@[simp] theorem State.raiseAt_arr (s : State) (k e a b) : (s.raiseAt k e a b).arr = s.arr :=
  (State.raiseAt_eff s _ _ _ _).same .arr rfl
@[simp] theorem State.raiseAt_tbl (s : State) (k e a b) : (s.raiseAt k e a b).tbl = s.tbl :=
  (State.raiseAt_eff s _ _ _ _).same .tbl rfl
@[simp] theorem State.raiseAt_mnt (s : State) (k e a b) : (s.raiseAt k e a b).mnt = s.mnt :=
  (State.raiseAt_eff s _ _ _ _).same .mnt rfl
@[simp] theorem State.raiseAt_mq (s : State) (k e a b) : (s.raiseAt k e a b).mq = s.mq :=
  (State.raiseAt_eff s _ _ _ _).same .mq rfl
@[simp] theorem State.raiseAt_lrn (s : State) (k e a b) : (s.raiseAt k e a b).lrn = s.lrn :=
  (State.raiseAt_eff s _ _ _ _).same .lrn rfl
@[simp] theorem State.raiseAt_dir (s : State) (k e a b) : (s.raiseAt k e a b).dir = s.dir :=
  (State.raiseAt_eff s _ _ _ _).same .dir rfl
@[simp] theorem State.raiseAt_trie (s : State) (k e a b) : (s.raiseAt k e a b).trie = s.trie :=
  (State.raiseAt_eff s _ _ _ _).same .trie rfl
@[simp] theorem State.raiseAt_dsram (s : State) (k e a b) : (s.raiseAt k e a b).dsram = s.dsram :=
  (State.raiseAt_eff s _ _ _ _).same .dsram rfl
@[simp] theorem State.raiseAt_rng (s : State) (k e a b) : (s.raiseAt k e a b).rng = s.rng :=
  (State.raiseAt_eff s _ _ _ _).same .rng rfl
@[simp] theorem State.raiseAt_prt (s : State) (k e a b) : (s.raiseAt k e a b).prt = s.prt :=
  (State.raiseAt_eff s _ _ _ _).same .prt rfl
@[simp] theorem State.raiseAt_ctx (s : State) (k e a b) : (s.raiseAt k e a b).ctx = s.ctx :=
  (State.raiseAt_eff s _ _ _ _).same .ctx rfl
@[simp] theorem State.raiseAt_heldReads (s : State) (k e a b) : (s.raiseAt k e a b).heldReads = s.heldReads :=
  (State.raiseAt_eff s _ _ _ _).same .heldReads rfl
@[simp] theorem State.raiseAt_tier (s : State) (k e a b) : (s.raiseAt k e a b).tier = s.tier :=
  (State.raiseAt_eff s _ _ _ _).same .tier rfl
@[simp] theorem State.raiseAt_mem (s : State) (k e a b) : (s.raiseAt k e a b).mem = s.mem :=
  (State.raiseAt_eff s _ _ _ _).same .mem rfl
@[simp] theorem State.raiseAt_host (s : State) (k e a b) : (s.raiseAt k e a b).host = s.host :=
  (State.raiseAt_eff s _ _ _ _).same .host rfl
@[simp] theorem State.raiseAt_dram (s : State) (k e a b) : (s.raiseAt k e a b).dram = s.dram :=
  (State.raiseAt_eff s _ _ _ _).same .dram rfl
@[simp] theorem State.raiseAt_trn (s : State) (k e a b) : (s.raiseAt k e a b).trn = s.trn :=
  (State.raiseAt_eff s _ _ _ _).same .trn rfl
@[simp] theorem State.raiseAt_pair (s : State) (k e a b) : (s.raiseAt k e a b).pair = s.pair :=
  (State.raiseAt_eff s _ _ _ _).same .pair rfl
@[simp] theorem State.raiseAt_mbox (s : State) (k e a b) : (s.raiseAt k e a b).mbox = s.mbox :=
  (State.raiseAt_eff s _ _ _ _).same .mbox rfl
@[simp] theorem State.raiseAt_life (s : State) (k e a b) : (s.raiseAt k e a b).life = s.life :=
  (State.raiseAt_eff s _ _ _ _).same .life rfl
@[simp] theorem State.raiseAt_pins (s : State) (k e a b) : (s.raiseAt k e a b).pins = s.pins :=
  (State.raiseAt_eff s _ _ _ _).same .pins rfl
@[simp] theorem State.raiseAt_up (s : State) (k e a b) : (s.raiseAt k e a b).up = s.up := 
  State.up_congr (State.raiseAt_pins ..)
@[simp] theorem State.raise_pending (s : State) (e a b) : (s.raise e a b).pending = s.pending :=
  (State.raise_eff s _ _ _).same .pending rfl
@[simp] theorem State.raise_freeIdx (s : State) (e a b) : (s.raise e a b).freeIdx = s.freeIdx :=
  (State.raise_eff s _ _ _).same .freeIdx rfl
@[simp] theorem State.raise_inbox (s : State) (e a b) : (s.raise e a b).inbox = s.inbox :=
  (State.raise_eff s _ _ _).same .inbox rfl
@[simp] theorem State.raise_ids (s : State) (e a b) : (s.raise e a b).ids = s.ids :=
  (State.raise_eff s _ _ _).same .ids rfl
@[simp] theorem State.raise_tick (s : State) (e a b) : (s.raise e a b).tick = s.tick :=
  (State.raise_eff s _ _ _).same .tick rfl
@[simp] theorem State.raise_regW (s : State) (e a b) : (s.raise e a b).regW = s.regW :=
  (State.raise_eff s _ _ _).same .regW rfl
@[simp] theorem State.raise_arb (s : State) (e a b) : (s.raise e a b).arb = s.arb :=
  (State.raise_eff s _ _ _).same .arb rfl
@[simp] theorem State.raise_arr (s : State) (e a b) : (s.raise e a b).arr = s.arr :=
  (State.raise_eff s _ _ _).same .arr rfl
@[simp] theorem State.raise_tbl (s : State) (e a b) : (s.raise e a b).tbl = s.tbl :=
  (State.raise_eff s _ _ _).same .tbl rfl
@[simp] theorem State.raise_mnt (s : State) (e a b) : (s.raise e a b).mnt = s.mnt :=
  (State.raise_eff s _ _ _).same .mnt rfl
@[simp] theorem State.raise_mq (s : State) (e a b) : (s.raise e a b).mq = s.mq :=
  (State.raise_eff s _ _ _).same .mq rfl
@[simp] theorem State.raise_lrn (s : State) (e a b) : (s.raise e a b).lrn = s.lrn :=
  (State.raise_eff s _ _ _).same .lrn rfl
@[simp] theorem State.raise_dir (s : State) (e a b) : (s.raise e a b).dir = s.dir :=
  (State.raise_eff s _ _ _).same .dir rfl
@[simp] theorem State.raise_trie (s : State) (e a b) : (s.raise e a b).trie = s.trie :=
  (State.raise_eff s _ _ _).same .trie rfl
@[simp] theorem State.raise_dsram (s : State) (e a b) : (s.raise e a b).dsram = s.dsram :=
  (State.raise_eff s _ _ _).same .dsram rfl
@[simp] theorem State.raise_rng (s : State) (e a b) : (s.raise e a b).rng = s.rng :=
  (State.raise_eff s _ _ _).same .rng rfl
@[simp] theorem State.raise_prt (s : State) (e a b) : (s.raise e a b).prt = s.prt :=
  (State.raise_eff s _ _ _).same .prt rfl
@[simp] theorem State.raise_ctx (s : State) (e a b) : (s.raise e a b).ctx = s.ctx :=
  (State.raise_eff s _ _ _).same .ctx rfl
@[simp] theorem State.raise_heldReads (s : State) (e a b) : (s.raise e a b).heldReads = s.heldReads :=
  (State.raise_eff s _ _ _).same .heldReads rfl
@[simp] theorem State.raise_tier (s : State) (e a b) : (s.raise e a b).tier = s.tier :=
  (State.raise_eff s _ _ _).same .tier rfl
@[simp] theorem State.raise_mem (s : State) (e a b) : (s.raise e a b).mem = s.mem :=
  (State.raise_eff s _ _ _).same .mem rfl
@[simp] theorem State.raise_host (s : State) (e a b) : (s.raise e a b).host = s.host :=
  (State.raise_eff s _ _ _).same .host rfl
@[simp] theorem State.raise_dram (s : State) (e a b) : (s.raise e a b).dram = s.dram :=
  (State.raise_eff s _ _ _).same .dram rfl
@[simp] theorem State.raise_trn (s : State) (e a b) : (s.raise e a b).trn = s.trn :=
  (State.raise_eff s _ _ _).same .trn rfl
@[simp] theorem State.raise_pair (s : State) (e a b) : (s.raise e a b).pair = s.pair :=
  (State.raise_eff s _ _ _).same .pair rfl
@[simp] theorem State.raise_mbox (s : State) (e a b) : (s.raise e a b).mbox = s.mbox :=
  (State.raise_eff s _ _ _).same .mbox rfl
@[simp] theorem State.raise_life (s : State) (e a b) : (s.raise e a b).life = s.life :=
  (State.raise_eff s _ _ _).same .life rfl
@[simp] theorem State.raise_pins (s : State) (e a b) : (s.raise e a b).pins = s.pins :=
  (State.raise_eff s _ _ _).same .pins rfl
@[simp] theorem State.raise_up (s : State) (e a b) : (s.raise e a b).up = s.up := 
  State.up_congr (State.raise_pins ..)
@[simp] theorem State.evtCheck_pending (s : State)  : (s.evtCheck ).pending = s.pending :=
  (State.evtCheck_eff s).same .pending rfl
@[simp] theorem State.evtCheck_freeIdx (s : State)  : (s.evtCheck ).freeIdx = s.freeIdx :=
  (State.evtCheck_eff s).same .freeIdx rfl
@[simp] theorem State.evtCheck_inbox (s : State)  : (s.evtCheck ).inbox = s.inbox :=
  (State.evtCheck_eff s).same .inbox rfl
@[simp] theorem State.evtCheck_ids (s : State)  : (s.evtCheck ).ids = s.ids :=
  (State.evtCheck_eff s).same .ids rfl
@[simp] theorem State.evtCheck_tick (s : State)  : (s.evtCheck ).tick = s.tick :=
  (State.evtCheck_eff s).same .tick rfl
@[simp] theorem State.evtCheck_regW (s : State)  : (s.evtCheck ).regW = s.regW :=
  (State.evtCheck_eff s).same .regW rfl
@[simp] theorem State.evtCheck_arb (s : State)  : (s.evtCheck ).arb = s.arb :=
  (State.evtCheck_eff s).same .arb rfl
@[simp] theorem State.evtCheck_arr (s : State)  : (s.evtCheck ).arr = s.arr :=
  (State.evtCheck_eff s).same .arr rfl
@[simp] theorem State.evtCheck_tbl (s : State)  : (s.evtCheck ).tbl = s.tbl :=
  (State.evtCheck_eff s).same .tbl rfl
@[simp] theorem State.evtCheck_mnt (s : State)  : (s.evtCheck ).mnt = s.mnt :=
  (State.evtCheck_eff s).same .mnt rfl
@[simp] theorem State.evtCheck_mq (s : State)  : (s.evtCheck ).mq = s.mq :=
  (State.evtCheck_eff s).same .mq rfl
@[simp] theorem State.evtCheck_lrn (s : State)  : (s.evtCheck ).lrn = s.lrn :=
  (State.evtCheck_eff s).same .lrn rfl
@[simp] theorem State.evtCheck_dir (s : State)  : (s.evtCheck ).dir = s.dir :=
  (State.evtCheck_eff s).same .dir rfl
@[simp] theorem State.evtCheck_trie (s : State)  : (s.evtCheck ).trie = s.trie :=
  (State.evtCheck_eff s).same .trie rfl
@[simp] theorem State.evtCheck_dsram (s : State)  : (s.evtCheck ).dsram = s.dsram :=
  (State.evtCheck_eff s).same .dsram rfl
@[simp] theorem State.evtCheck_rng (s : State)  : (s.evtCheck ).rng = s.rng :=
  (State.evtCheck_eff s).same .rng rfl
@[simp] theorem State.evtCheck_prt (s : State)  : (s.evtCheck ).prt = s.prt :=
  (State.evtCheck_eff s).same .prt rfl
@[simp] theorem State.evtCheck_lds (s : State)  : (s.evtCheck ).lds = s.lds :=
  (State.evtCheck_eff s).same .lds rfl
@[simp] theorem State.evtCheck_ctx (s : State)  : (s.evtCheck ).ctx = s.ctx :=
  (State.evtCheck_eff s).same .ctx rfl
@[simp] theorem State.evtCheck_heldReads (s : State)  : (s.evtCheck ).heldReads = s.heldReads :=
  (State.evtCheck_eff s).same .heldReads rfl
@[simp] theorem State.evtCheck_tier (s : State)  : (s.evtCheck ).tier = s.tier :=
  (State.evtCheck_eff s).same .tier rfl
@[simp] theorem State.evtCheck_mem (s : State)  : (s.evtCheck ).mem = s.mem :=
  (State.evtCheck_eff s).same .mem rfl
@[simp] theorem State.evtCheck_host (s : State)  : (s.evtCheck ).host = s.host :=
  (State.evtCheck_eff s).same .host rfl
@[simp] theorem State.evtCheck_dram (s : State)  : (s.evtCheck ).dram = s.dram :=
  (State.evtCheck_eff s).same .dram rfl
@[simp] theorem State.evtCheck_trn (s : State)  : (s.evtCheck ).trn = s.trn :=
  (State.evtCheck_eff s).same .trn rfl
@[simp] theorem State.evtCheck_pair (s : State)  : (s.evtCheck ).pair = s.pair :=
  (State.evtCheck_eff s).same .pair rfl
@[simp] theorem State.evtCheck_mbox (s : State)  : (s.evtCheck ).mbox = s.mbox :=
  (State.evtCheck_eff s).same .mbox rfl
@[simp] theorem State.evtCheck_life (s : State)  : (s.evtCheck ).life = s.life :=
  (State.evtCheck_eff s).same .life rfl
@[simp] theorem State.evtCheck_pins (s : State)  : (s.evtCheck ).pins = s.pins :=
  (State.evtCheck_eff s).same .pins rfl
@[simp] theorem State.evtCheck_up (s : State)  : (s.evtCheck ).up = s.up := 
  State.up_congr (State.evtCheck_pins ..)

/-! ### The readers of records over their updates -/

theorem State.ld_setLd (s : State) (n m : Nat) (l : Ld) : (s.setLd n l).ld m = if m = n then l else s.ld m := by
  unfold State.ld State.setLd
  by_cases h : m = n
  · subst h; simp
  · simp [h, SMap.get_set_other _ _ _ _ _ h]
@[simp] theorem State.ld_setLd_same (s : State) (n : Nat) (l : Ld) : (s.setLd n l).ld n = l := by simp [State.ld_setLd]
theorem State.tb_setTb (s : State) (n m : Nat) (l : Tbl) : (s.setTb n l).tb m = if m = n then l else s.tb m := by
  unfold State.tb State.setTb
  by_cases h : m = n
  · subst h; simp
  · simp [h, SMap.get_set_other _ _ _ _ _ h]
@[simp] theorem State.tb_setTb_same (s : State) (n : Nat) (l : Tbl) : (s.setTb n l).tb n = l := by simp [State.tb_setTb]
theorem State.cx_setCx (s : State) (n m : Nat) (l : Ctx) : (s.setCx n l).cx m = if m = n then l else s.cx m := by
  unfold State.cx State.setCx
  by_cases h : m = n
  · subst h; simp
  · simp [h, SMap.get_set_other _ _ _ _ _ h]
@[simp] theorem State.cx_setCx_same (s : State) (n : Nat) (l : Ctx) : (s.setCx n l).cx n = l := by simp [State.cx_setCx]
theorem State.qp_setQp (s : State) (n m : Nat) (l : QPair) : (s.setQp n l).qp m = if m = n then l else s.qp m := by
  unfold State.qp State.setQp
  by_cases h : m = n
  · subst h; simp
  · simp [h, SMap.get_set_other _ _ _ _ _ h]
@[simp] theorem State.qp_setQp_same (s : State) (n : Nat) (l : QPair) : (s.setQp n l).qp n = l := by simp [State.qp_setQp]

@[simp] theorem State.ld_updLd_same (s : State) (n : Nat) (f) : (s.updLd n f).ld n = f (s.ld n) := State.ld_setLd_same _ _ _
@[simp] theorem State.setReg_ld (s : State) (o w) (y : Nat) : (s.setReg o w).ld y = s.ld y := 
  State.ld_congr (State.setReg_lds ..) y
@[simp] theorem State.setF_ld (s : State) (x v) (y : Nat) : (s.setF x v).ld y = s.ld y := 
  State.ld_congr (State.setF_lds ..) y
@[simp] theorem State.inc_ld (s : State) (x k) (y : Nat) : (s.inc x k).ld y = s.ld y := 
  State.ld_congr (State.inc_lds ..) y
@[simp] theorem State.incMod_ld (s : State) (x k) (y : Nat) : (s.incMod x k).ld y = s.ld y := 
  State.ld_congr (State.incMod_lds ..) y
@[simp] theorem State.send_ld (s : State) (o) (y : Nat) : (s.send o).ld y = s.ld y := 
  State.ld_congr (State.send_lds ..) y
@[simp] theorem State.setTb_ld (s : State) (n r) (y : Nat) : (s.setTb n r).ld y = s.ld y := 
  State.ld_congr (State.setTb_lds ..) y
@[simp] theorem State.updTb_ld (s : State) (n f) (y : Nat) : (s.updTb n f).ld y = s.ld y := 
  State.ld_congr (State.updTb_lds ..) y
@[simp] theorem State.setCx_ld (s : State) (n r) (y : Nat) : (s.setCx n r).ld y = s.ld y := 
  State.ld_congr (State.setCx_lds ..) y
@[simp] theorem State.updCx_ld (s : State) (n f) (y : Nat) : (s.updCx n f).ld y = s.ld y := 
  State.ld_congr (State.updCx_lds ..) y
@[simp] theorem State.setQp_ld (s : State) (n r) (y : Nat) : (s.setQp n r).ld y = s.ld y := 
  State.ld_congr (State.setQp_lds ..) y
@[simp] theorem State.updQp_ld (s : State) (n f) (y : Nat) : (s.updQp n f).ld y = s.ld y := 
  State.ld_congr (State.updQp_lds ..) y
@[simp] theorem State.setLine_ld (s : State) (a l) (y : Nat) : (s.setLine a l).ld y = s.ld y := 
  State.ld_congr (State.setLine_lds ..) y
@[simp] theorem State.setPoison_ld (s : State) (a v) (y : Nat) : (s.setPoison a v).ld y = s.ld y := 
  State.ld_congr (State.setPoison_lds ..) y
@[simp] theorem State.linkSend_ld (s : State) (m) (y : Nat) : (s.linkSend m).ld y = s.ld y := 
  State.ld_congr (State.linkSend_lds ..) y
@[simp] theorem State.ownerEnd_ld (s : State) (via code st r c) (y : Nat) : (s.ownerEnd via code st r c).ld y = s.ld y := 
  State.ld_congr (State.ownerEnd_lds ..) y
@[simp] theorem State.setBlockFree_ld (s : State) (b) (y : Nat) : (s.setBlockFree b).ld y = s.ld y := 
  State.ld_congr (State.setBlockFree_lds ..) y
@[simp] theorem State.setHmapFree_ld (s : State) (b) (y : Nat) : (s.setHmapFree b).ld y = s.ld y := 
  State.ld_congr (State.setHmapFree_lds ..) y
@[simp] theorem State.updRas_ld (s : State) (f) (y : Nat) : (s.updRas f).ld y = s.ld y := 
  State.ld_congr (State.updRas_lds ..) y
@[simp] theorem State.updLife_ld (s : State) (f) (y : Nat) : (s.updLife f).ld y = s.ld y := 
  State.ld_congr (State.updLife_lds ..) y
@[simp] theorem State.mboxAns_ld (s : State) (n c rc p) (y : Nat) : (s.mboxAns n c rc p).ld y = s.ld y := 
  State.ld_congr (State.mboxAns_lds ..) y
@[simp] theorem State.fmAns_ld (s : State) (c rc p) (y : Nat) : (s.fmAns c rc p).ld y = s.ld y := 
  State.ld_congr (State.fmAns_lds ..) y
@[simp] theorem State.setKey_ld (s : State) (n k) (y : Nat) : (s.setKey n k).ld y = s.ld y := 
  State.ld_congr (State.setKey_lds ..) y
@[simp] theorem State.sendIrq_ld (s : State) (n) (y : Nat) : (s.sendIrq n).ld y = s.ld y := 
  State.ld_congr (State.sendIrq_lds ..) y
@[simp] theorem State.setIrq_ld (s : State) (n) (y : Nat) : (s.setIrq n).ld y = s.ld y := 
  State.ld_congr (State.setIrq_lds ..) y
@[simp] theorem State.evtCheck_ld (s : State)  (y : Nat) : (s.evtCheck ).ld y = s.ld y := 
  State.ld_congr (State.evtCheck_lds ..) y
@[simp] theorem State.tb_updTb_same (s : State) (n : Nat) (f) : (s.updTb n f).tb n = f (s.tb n) := State.tb_setTb_same _ _ _
@[simp] theorem State.setReg_tb (s : State) (o w) (y : Nat) : (s.setReg o w).tb y = s.tb y := 
  State.tb_congr (State.setReg_tbl ..) y
@[simp] theorem State.setF_tb (s : State) (x v) (y : Nat) : (s.setF x v).tb y = s.tb y := 
  State.tb_congr (State.setF_tbl ..) y
@[simp] theorem State.inc_tb (s : State) (x k) (y : Nat) : (s.inc x k).tb y = s.tb y := 
  State.tb_congr (State.inc_tbl ..) y
@[simp] theorem State.incMod_tb (s : State) (x k) (y : Nat) : (s.incMod x k).tb y = s.tb y := 
  State.tb_congr (State.incMod_tbl ..) y
@[simp] theorem State.send_tb (s : State) (o) (y : Nat) : (s.send o).tb y = s.tb y := 
  State.tb_congr (State.send_tbl ..) y
@[simp] theorem State.setLd_tb (s : State) (n l) (y : Nat) : (s.setLd n l).tb y = s.tb y := 
  State.tb_congr (State.setLd_tbl ..) y
@[simp] theorem State.updLd_tb (s : State) (n f) (y : Nat) : (s.updLd n f).tb y = s.tb y := 
  State.tb_congr (State.updLd_tbl ..) y
@[simp] theorem State.setCx_tb (s : State) (n r) (y : Nat) : (s.setCx n r).tb y = s.tb y := 
  State.tb_congr (State.setCx_tbl ..) y
@[simp] theorem State.updCx_tb (s : State) (n f) (y : Nat) : (s.updCx n f).tb y = s.tb y := 
  State.tb_congr (State.updCx_tbl ..) y
@[simp] theorem State.setQp_tb (s : State) (n r) (y : Nat) : (s.setQp n r).tb y = s.tb y := 
  State.tb_congr (State.setQp_tbl ..) y
@[simp] theorem State.updQp_tb (s : State) (n f) (y : Nat) : (s.updQp n f).tb y = s.tb y := 
  State.tb_congr (State.updQp_tbl ..) y
@[simp] theorem State.setLine_tb (s : State) (a l) (y : Nat) : (s.setLine a l).tb y = s.tb y := 
  State.tb_congr (State.setLine_tbl ..) y
@[simp] theorem State.setPoison_tb (s : State) (a v) (y : Nat) : (s.setPoison a v).tb y = s.tb y := 
  State.tb_congr (State.setPoison_tbl ..) y
@[simp] theorem State.linkSend_tb (s : State) (m) (y : Nat) : (s.linkSend m).tb y = s.tb y := 
  State.tb_congr (State.linkSend_tbl ..) y
@[simp] theorem State.ownerEnd_tb (s : State) (via code st r c) (y : Nat) : (s.ownerEnd via code st r c).tb y = s.tb y := 
  State.tb_congr (State.ownerEnd_tbl ..) y
@[simp] theorem State.setBlockFree_tb (s : State) (b) (y : Nat) : (s.setBlockFree b).tb y = s.tb y := 
  State.tb_congr (State.setBlockFree_tbl ..) y
@[simp] theorem State.setHmapFree_tb (s : State) (b) (y : Nat) : (s.setHmapFree b).tb y = s.tb y := 
  State.tb_congr (State.setHmapFree_tbl ..) y
@[simp] theorem State.updRas_tb (s : State) (f) (y : Nat) : (s.updRas f).tb y = s.tb y := 
  State.tb_congr (State.updRas_tbl ..) y
@[simp] theorem State.updLife_tb (s : State) (f) (y : Nat) : (s.updLife f).tb y = s.tb y := 
  State.tb_congr (State.updLife_tbl ..) y
@[simp] theorem State.mboxAns_tb (s : State) (n c rc p) (y : Nat) : (s.mboxAns n c rc p).tb y = s.tb y := 
  State.tb_congr (State.mboxAns_tbl ..) y
@[simp] theorem State.fmAns_tb (s : State) (c rc p) (y : Nat) : (s.fmAns c rc p).tb y = s.tb y := 
  State.tb_congr (State.fmAns_tbl ..) y
@[simp] theorem State.setKey_tb (s : State) (n k) (y : Nat) : (s.setKey n k).tb y = s.tb y := 
  State.tb_congr (State.setKey_tbl ..) y
@[simp] theorem State.sendIrq_tb (s : State) (n) (y : Nat) : (s.sendIrq n).tb y = s.tb y := 
  State.tb_congr (State.sendIrq_tbl ..) y
@[simp] theorem State.setIrq_tb (s : State) (n) (y : Nat) : (s.setIrq n).tb y = s.tb y := 
  State.tb_congr (State.setIrq_tbl ..) y
@[simp] theorem State.raiseAt_tb (s : State) (k e a b) (y : Nat) : (s.raiseAt k e a b).tb y = s.tb y := 
  State.tb_congr (State.raiseAt_tbl ..) y
@[simp] theorem State.raise_tb (s : State) (e a b) (y : Nat) : (s.raise e a b).tb y = s.tb y := 
  State.tb_congr (State.raise_tbl ..) y
@[simp] theorem State.evtCheck_tb (s : State)  (y : Nat) : (s.evtCheck ).tb y = s.tb y := 
  State.tb_congr (State.evtCheck_tbl ..) y
@[simp] theorem State.cx_updCx_same (s : State) (n : Nat) (f) : (s.updCx n f).cx n = f (s.cx n) := State.cx_setCx_same _ _ _
@[simp] theorem State.setReg_cx (s : State) (o w) (y : Nat) : (s.setReg o w).cx y = s.cx y := 
  State.cx_congr (State.setReg_ctx ..) y
@[simp] theorem State.setF_cx (s : State) (x v) (y : Nat) : (s.setF x v).cx y = s.cx y := 
  State.cx_congr (State.setF_ctx ..) y
@[simp] theorem State.inc_cx (s : State) (x k) (y : Nat) : (s.inc x k).cx y = s.cx y := 
  State.cx_congr (State.inc_ctx ..) y
@[simp] theorem State.incMod_cx (s : State) (x k) (y : Nat) : (s.incMod x k).cx y = s.cx y := 
  State.cx_congr (State.incMod_ctx ..) y
@[simp] theorem State.send_cx (s : State) (o) (y : Nat) : (s.send o).cx y = s.cx y := 
  State.cx_congr (State.send_ctx ..) y
@[simp] theorem State.setLd_cx (s : State) (n l) (y : Nat) : (s.setLd n l).cx y = s.cx y := 
  State.cx_congr (State.setLd_ctx ..) y
@[simp] theorem State.updLd_cx (s : State) (n f) (y : Nat) : (s.updLd n f).cx y = s.cx y := 
  State.cx_congr (State.updLd_ctx ..) y
@[simp] theorem State.setTb_cx (s : State) (n r) (y : Nat) : (s.setTb n r).cx y = s.cx y := 
  State.cx_congr (State.setTb_ctx ..) y
@[simp] theorem State.updTb_cx (s : State) (n f) (y : Nat) : (s.updTb n f).cx y = s.cx y := 
  State.cx_congr (State.updTb_ctx ..) y
@[simp] theorem State.setQp_cx (s : State) (n r) (y : Nat) : (s.setQp n r).cx y = s.cx y := 
  State.cx_congr (State.setQp_ctx ..) y
@[simp] theorem State.updQp_cx (s : State) (n f) (y : Nat) : (s.updQp n f).cx y = s.cx y := 
  State.cx_congr (State.updQp_ctx ..) y
@[simp] theorem State.setLine_cx (s : State) (a l) (y : Nat) : (s.setLine a l).cx y = s.cx y := 
  State.cx_congr (State.setLine_ctx ..) y
@[simp] theorem State.setPoison_cx (s : State) (a v) (y : Nat) : (s.setPoison a v).cx y = s.cx y := 
  State.cx_congr (State.setPoison_ctx ..) y
@[simp] theorem State.linkSend_cx (s : State) (m) (y : Nat) : (s.linkSend m).cx y = s.cx y := 
  State.cx_congr (State.linkSend_ctx ..) y
@[simp] theorem State.ownerEnd_cx (s : State) (via code st r c) (y : Nat) : (s.ownerEnd via code st r c).cx y = s.cx y := 
  State.cx_congr (State.ownerEnd_ctx ..) y
@[simp] theorem State.setBlockFree_cx (s : State) (b) (y : Nat) : (s.setBlockFree b).cx y = s.cx y := 
  State.cx_congr (State.setBlockFree_ctx ..) y
@[simp] theorem State.setHmapFree_cx (s : State) (b) (y : Nat) : (s.setHmapFree b).cx y = s.cx y := 
  State.cx_congr (State.setHmapFree_ctx ..) y
@[simp] theorem State.updRas_cx (s : State) (f) (y : Nat) : (s.updRas f).cx y = s.cx y := 
  State.cx_congr (State.updRas_ctx ..) y
@[simp] theorem State.updLife_cx (s : State) (f) (y : Nat) : (s.updLife f).cx y = s.cx y := 
  State.cx_congr (State.updLife_ctx ..) y
@[simp] theorem State.mboxAns_cx (s : State) (n c rc p) (y : Nat) : (s.mboxAns n c rc p).cx y = s.cx y := 
  State.cx_congr (State.mboxAns_ctx ..) y
@[simp] theorem State.fmAns_cx (s : State) (c rc p) (y : Nat) : (s.fmAns c rc p).cx y = s.cx y := 
  State.cx_congr (State.fmAns_ctx ..) y
@[simp] theorem State.setKey_cx (s : State) (n k) (y : Nat) : (s.setKey n k).cx y = s.cx y := 
  State.cx_congr (State.setKey_ctx ..) y
@[simp] theorem State.sendIrq_cx (s : State) (n) (y : Nat) : (s.sendIrq n).cx y = s.cx y := 
  State.cx_congr (State.sendIrq_ctx ..) y
@[simp] theorem State.setIrq_cx (s : State) (n) (y : Nat) : (s.setIrq n).cx y = s.cx y := 
  State.cx_congr (State.setIrq_ctx ..) y
@[simp] theorem State.raiseAt_cx (s : State) (k e a b) (y : Nat) : (s.raiseAt k e a b).cx y = s.cx y := 
  State.cx_congr (State.raiseAt_ctx ..) y
@[simp] theorem State.raise_cx (s : State) (e a b) (y : Nat) : (s.raise e a b).cx y = s.cx y := 
  State.cx_congr (State.raise_ctx ..) y
@[simp] theorem State.evtCheck_cx (s : State)  (y : Nat) : (s.evtCheck ).cx y = s.cx y := 
  State.cx_congr (State.evtCheck_ctx ..) y
@[simp] theorem State.qp_updQp_same (s : State) (n : Nat) (f) : (s.updQp n f).qp n = f (s.qp n) := State.qp_setQp_same _ _ _
@[simp] theorem State.setReg_qp (s : State) (o w) (y : Nat) : (s.setReg o w).qp y = s.qp y := 
  State.qp_congr (State.setReg_mq ..) y
@[simp] theorem State.setF_qp (s : State) (x v) (y : Nat) : (s.setF x v).qp y = s.qp y := 
  State.qp_congr (State.setF_mq ..) y
@[simp] theorem State.inc_qp (s : State) (x k) (y : Nat) : (s.inc x k).qp y = s.qp y := 
  State.qp_congr (State.inc_mq ..) y
@[simp] theorem State.incMod_qp (s : State) (x k) (y : Nat) : (s.incMod x k).qp y = s.qp y := 
  State.qp_congr (State.incMod_mq ..) y
@[simp] theorem State.send_qp (s : State) (o) (y : Nat) : (s.send o).qp y = s.qp y := 
  State.qp_congr (State.send_mq ..) y
@[simp] theorem State.setLd_qp (s : State) (n l) (y : Nat) : (s.setLd n l).qp y = s.qp y := 
  State.qp_congr (State.setLd_mq ..) y
@[simp] theorem State.updLd_qp (s : State) (n f) (y : Nat) : (s.updLd n f).qp y = s.qp y := 
  State.qp_congr (State.updLd_mq ..) y
@[simp] theorem State.setTb_qp (s : State) (n r) (y : Nat) : (s.setTb n r).qp y = s.qp y := 
  State.qp_congr (State.setTb_mq ..) y
@[simp] theorem State.updTb_qp (s : State) (n f) (y : Nat) : (s.updTb n f).qp y = s.qp y := 
  State.qp_congr (State.updTb_mq ..) y
@[simp] theorem State.setCx_qp (s : State) (n r) (y : Nat) : (s.setCx n r).qp y = s.qp y := 
  State.qp_congr (State.setCx_mq ..) y
@[simp] theorem State.updCx_qp (s : State) (n f) (y : Nat) : (s.updCx n f).qp y = s.qp y := 
  State.qp_congr (State.updCx_mq ..) y
@[simp] theorem State.setLine_qp (s : State) (a l) (y : Nat) : (s.setLine a l).qp y = s.qp y := 
  State.qp_congr (State.setLine_mq ..) y
@[simp] theorem State.setPoison_qp (s : State) (a v) (y : Nat) : (s.setPoison a v).qp y = s.qp y := 
  State.qp_congr (State.setPoison_mq ..) y
@[simp] theorem State.linkSend_qp (s : State) (m) (y : Nat) : (s.linkSend m).qp y = s.qp y := 
  State.qp_congr (State.linkSend_mq ..) y
@[simp] theorem State.ownerEnd_qp (s : State) (via code st r c) (y : Nat) : (s.ownerEnd via code st r c).qp y = s.qp y := 
  State.qp_congr (State.ownerEnd_mq ..) y
@[simp] theorem State.setBlockFree_qp (s : State) (b) (y : Nat) : (s.setBlockFree b).qp y = s.qp y := 
  State.qp_congr (State.setBlockFree_mq ..) y
@[simp] theorem State.setHmapFree_qp (s : State) (b) (y : Nat) : (s.setHmapFree b).qp y = s.qp y := 
  State.qp_congr (State.setHmapFree_mq ..) y
@[simp] theorem State.updRas_qp (s : State) (f) (y : Nat) : (s.updRas f).qp y = s.qp y := 
  State.qp_congr (State.updRas_mq ..) y
@[simp] theorem State.updLife_qp (s : State) (f) (y : Nat) : (s.updLife f).qp y = s.qp y := 
  State.qp_congr (State.updLife_mq ..) y
@[simp] theorem State.mboxAns_qp (s : State) (n c rc p) (y : Nat) : (s.mboxAns n c rc p).qp y = s.qp y := 
  State.qp_congr (State.mboxAns_mq ..) y
@[simp] theorem State.fmAns_qp (s : State) (c rc p) (y : Nat) : (s.fmAns c rc p).qp y = s.qp y := 
  State.qp_congr (State.fmAns_mq ..) y
@[simp] theorem State.setKey_qp (s : State) (n k) (y : Nat) : (s.setKey n k).qp y = s.qp y := 
  State.qp_congr (State.setKey_mq ..) y
@[simp] theorem State.sendIrq_qp (s : State) (n) (y : Nat) : (s.sendIrq n).qp y = s.qp y := 
  State.qp_congr (State.sendIrq_mq ..) y
@[simp] theorem State.setIrq_qp (s : State) (n) (y : Nat) : (s.setIrq n).qp y = s.qp y := 
  State.qp_congr (State.setIrq_mq ..) y
@[simp] theorem State.raiseAt_qp (s : State) (k e a b) (y : Nat) : (s.raiseAt k e a b).qp y = s.qp y := 
  State.qp_congr (State.raiseAt_mq ..) y
@[simp] theorem State.raise_qp (s : State) (e a b) (y : Nat) : (s.raise e a b).qp y = s.qp y := 
  State.qp_congr (State.raise_mq ..) y
@[simp] theorem State.evtCheck_qp (s : State)  (y : Nat) : (s.evtCheck ).qp y = s.qp y := 
  State.qp_congr (State.evtCheck_mq ..) y

@[simp] theorem State.send_sent (s : State) (o : Out) : (s.send o).sent = s.sent ++ [o] := rfl
@[simp] theorem State.mboxAns_sent (s : State) (n c rc p) : (s.mboxAns n c rc p).sent = s.sent ++ [.mbox n c rc p] := rfl
@[simp] theorem State.fmAns_sent (s : State) (c rc p) : (s.fmAns c rc p).sent = s.sent ++ [.fm c rc p] := rfl
@[simp] theorem State.updRas_ras (s : State) (f) : (s.updRas f).ras = f s.ras := rfl
@[simp] theorem State.updLife_life (s : State) (f) : (s.updLife f).life = f s.life := rfl
@[simp] theorem State.linkSend_pair (s : State) (m) : (s.linkSend m).pair = { s.pair with waiting := s.pair.waiting ++ [m] } := rfl

/-- Registers that raising events and interrupts may touch: GLB_INT_STATUS, RAS_EVT_PROD and RAS_EVT_STAT. -/
abbrev evtReg (o : Nat) : Prop := o = 0x100 ∨ o = 0x3e0000 ∨ o = 0x3e0010

theorem State.reg_setIrq (s : State) (n o : Nat) (h : o ≠ 0x100) : (s.setIrq n).reg o = s.reg o := by
  unfold State.setIrq
  simp only []
  split
  · rw [State.sendIrq_reg]
    exact (State.reg_congr (s := s.setF ⟨offIntStatus, n, 1⟩ 1) rfl o).trans (State.reg_setF_other s ⟨offIntStatus, n, 1⟩ 1 o h)
  · exact (State.reg_congr (s := s.setF ⟨offIntStatus, n, 1⟩ 1) rfl o).trans (State.reg_setF_other s ⟨offIntStatus, n, 1⟩ 1 o h)

theorem State.reg_evtCheck (s : State) (o : Nat) (h : o ≠ 0x100) : s.evtCheck.reg o = s.reg o := by
  unfold State.evtCheck
  split
  · rw [State.reg_setIrq _ _ _ h]; exact State.reg_congr rfl o
  · rfl

theorem State.reg_foldl {α : Type} (l : List α) (f : State → α → State) (s : State) (o : Nat)
    (h : ∀ x a, (f x a).reg o = x.reg o) : (l.foldl f s).reg o = s.reg o := by
  induction l generalizing s with
  | nil => rfl
  | cons a l ih => exact (ih _).trans (h s a)

theorem State.reg_logIrq (s : State) (n k o : Nat) : (s.logIrq n k).reg o = s.reg o := by
  unfold State.logIrq
  simp only []
  split
  · exact State.send_reg _ _ _
  · rfl

theorem State.reg_logCxl (s : State) (e : Evt) (o : Nat) : (s.logCxl e).reg o = s.reg o := by
  unfold State.logCxl
  split
  · rfl
  · exact State.reg_foldl _ _ _ _ (fun x a => by
      split
      · rw [State.reg_logIrq]; exact State.updLd_reg _ _ _ _
      · rfl)
  · exact State.reg_foldl _ _ _ _ (fun x a => by
      split
      · rw [State.reg_logIrq]; exact State.updLd_reg _ _ _ _
      · rfl)

/-- An event leaves every other register as it was. -/
theorem State.reg_raiseAt (s : State) (k : Nat) (e : Ev) (a b o : Nat) (h : ¬ evtReg o) :
    (s.raiseAt k e a b).reg o = s.reg o := by
  have h1 : o ≠ 0x100 := fun x => h (.inl x)
  have h2 : o ≠ 0x3e0000 := fun x => h (.inr (.inl x))
  have h3 : o ≠ 0x3e0010 := fun x => h (.inr (.inr x))
  unfold State.raiseAt
  simp only []
  rw [State.reg_evtCheck _ _ h1, State.reg_logCxl]
  split
  · refine (State.reg_congr (s := State.incMod _ fProd 1) rfl o).trans ?_
    exact (State.reg_setF_other _ fProd _ _ h2).trans (State.reg_congr rfl o)
  · rw [State.reg_setIrq _ _ _ h1]
    refine (State.reg_setF_other _ fOverflow _ _ h3).trans ((State.reg_setF_other _ fLost _ _ h3).trans ?_)
    exact (State.reg_setF_other _ fProd _ _ h2).trans (State.reg_congr rfl o)

theorem State.reg_raise (s : State) (e : Ev) (a b o : Nat) (h : ¬ evtReg o) : (s.raise e a b).reg o = s.reg o :=
  State.reg_raiseAt _ _ _ _ _ _ h

theorem State.f_raise (s : State) (e : Ev) (a b : Nat) (y : F) (h : ¬ evtReg y.off) : (s.raise e a b).f y = s.f y := by
  unfold State.f; rw [State.reg_raise _ _ _ _ _ h]
theorem State.f_setIrq (s : State) (n : Nat) (y : F) (h : y.off ≠ 0x100) : (s.setIrq n).f y = s.f y := by
  unfold State.f; rw [State.reg_setIrq _ _ _ h]
theorem State.f_setReg_other (s : State) (o : Nat) (w : Word) (y : F) (h : y.off ≠ o) : (s.setReg o w).f y = s.f y := by
  unfold State.f; rw [State.reg_setReg_other _ _ _ _ h]
theorem State.f_setReg_same (s : State) (y : F) (w : Word) : (s.setReg y.off w).f y = fld w y.lo y.n := by
  unfold State.f; rw [State.reg_setReg_same]
theorem State.f_inc_other (s : State) (x y : F) (k : Nat) (h : y.off ≠ x.off) : (s.inc x k).f y = s.f y :=
  State.f_setF_other _ _ _ _ h
theorem State.fld_lt (w : Word) (lo n : Nat) : fld w lo n < 2 ^ n := (w.extractLsb' lo n).isLt
theorem State.f_inc_same (s : State) (x : F) (k : Nat) (h : x.lo + x.n ≤ 64) :
    (s.inc x k).f x = min (s.f x + k) (2 ^ x.n - 1) :=
  State.f_setF_same _ _ _ h (by have := Nat.two_pow_pos x.n; unfold satAdd; omega)

/-- Of the RAS record, `t` holds what `s` holds, but for what raising events and interrupts changes: the ring with its count
and oldest tick, and the interrupt ticks. -/
def Ras.evOf (r q : Ras) : Ras :=
  { r with ring := q.ring, oldest := q.oldest, evts := q.evts, evtHeld := q.evtHeld, intTick := q.intTick }

theorem State.setIrq_ras (s : State) (n : Nat) : (s.setIrq n).ras = s.ras.evOf (s.setIrq n).ras := by
  have h : (s.setIrq n).ras = { s.ras with intTick := setNum s.ras.intTick n (s.tick + 1) } := by
    unfold State.setIrq
    simp only []
    split
    · rw [State.sendIrq_ras]; rfl
    · rfl
  rw [h]; rfl

theorem State.evtCheck_ras (s : State) : s.evtCheck.ras = s.ras.evOf s.evtCheck.ras := by
  unfold State.evtCheck
  split
  · rw [State.setIrq_ras]; rfl
  · rfl

theorem State.logCxl_ras (s : State) (v : Evt) : (s.logCxl v).ras = s.ras := (State.logCxl_eff s v).same .ras rfl

theorem State.raiseAt_ras (s : State) (k : Nat) (e : Ev) (a b : Nat) :
    (s.raiseAt k e a b).ras = s.ras.evOf (s.raiseAt k e a b).ras := by
  unfold State.raiseAt
  simp only []
  rw [State.evtCheck_ras, State.logCxl_ras]
  split
  · rfl
  · rw [State.setIrq_ras]; rfl

/-- An event changes of the RAS record only the ring and the interrupt ticks. -/
theorem State.raise_ras (s : State) (e : Ev) (a b : Nat) : (s.raise e a b).ras = s.ras.evOf (s.raise e a b).ras :=
  State.raiseAt_ras _ _ _ _ _

/-! The updates of one record inside a component. -/

@[simp] theorem State.updPair_pending (s : State) (f) : (s.updPair f).pending = s.pending := rfl
@[simp] theorem State.updPair_freeIdx (s : State) (f) : (s.updPair f).freeIdx = s.freeIdx := rfl
@[simp] theorem State.updPair_sent (s : State) (f) : (s.updPair f).sent = s.sent := rfl
@[simp] theorem State.updPair_inbox (s : State) (f) : (s.updPair f).inbox = s.inbox := rfl
@[simp] theorem State.updPair_ids (s : State) (f) : (s.updPair f).ids = s.ids := rfl
@[simp] theorem State.updPair_tick (s : State) (f) : (s.updPair f).tick = s.tick := rfl
@[simp] theorem State.updPair_regs (s : State) (f) : (s.updPair f).regs = s.regs := rfl
@[simp] theorem State.updPair_regW (s : State) (f) : (s.updPair f).regW = s.regW := rfl
@[simp] theorem State.updPair_arb (s : State) (f) : (s.updPair f).arb = s.arb := rfl
@[simp] theorem State.updPair_arr (s : State) (f) : (s.updPair f).arr = s.arr := rfl
@[simp] theorem State.updPair_tbl (s : State) (f) : (s.updPair f).tbl = s.tbl := rfl
@[simp] theorem State.updPair_mnt (s : State) (f) : (s.updPair f).mnt = s.mnt := rfl
@[simp] theorem State.updPair_mq (s : State) (f) : (s.updPair f).mq = s.mq := rfl
@[simp] theorem State.updPair_lrn (s : State) (f) : (s.updPair f).lrn = s.lrn := rfl
@[simp] theorem State.updPair_dir (s : State) (f) : (s.updPair f).dir = s.dir := rfl
@[simp] theorem State.updPair_trie (s : State) (f) : (s.updPair f).trie = s.trie := rfl
@[simp] theorem State.updPair_dsram (s : State) (f) : (s.updPair f).dsram = s.dsram := rfl
@[simp] theorem State.updPair_rng (s : State) (f) : (s.updPair f).rng = s.rng := rfl
@[simp] theorem State.updPair_prt (s : State) (f) : (s.updPair f).prt = s.prt := rfl
@[simp] theorem State.updPair_lds (s : State) (f) : (s.updPair f).lds = s.lds := rfl
@[simp] theorem State.updPair_ctx (s : State) (f) : (s.updPair f).ctx = s.ctx := rfl
@[simp] theorem State.updPair_heldReads (s : State) (f) : (s.updPair f).heldReads = s.heldReads := rfl
@[simp] theorem State.updPair_tier (s : State) (f) : (s.updPair f).tier = s.tier := rfl
@[simp] theorem State.updPair_mem (s : State) (f) : (s.updPair f).mem = s.mem := rfl
@[simp] theorem State.updPair_host (s : State) (f) : (s.updPair f).host = s.host := rfl
@[simp] theorem State.updPair_dram (s : State) (f) : (s.updPair f).dram = s.dram := rfl
@[simp] theorem State.updPair_trn (s : State) (f) : (s.updPair f).trn = s.trn := rfl
@[simp] theorem State.updPair_ras (s : State) (f) : (s.updPair f).ras = s.ras := rfl
@[simp] theorem State.updPair_mbox (s : State) (f) : (s.updPair f).mbox = s.mbox := rfl
@[simp] theorem State.updPair_life (s : State) (f) : (s.updPair f).life = s.life := rfl
@[simp] theorem State.updPair_pins (s : State) (f) : (s.updPair f).pins = s.pins := rfl
@[simp] theorem State.updPair_pair (s : State) (f) : (s.updPair f).pair = f s.pair := rfl
@[simp] theorem State.updPair_up (s : State) (f) : (s.updPair f).up = s.up := State.up_congr (State.updPair_pins ..)
@[simp] theorem State.updDir_pending (s : State) (i f) : (s.updDir i f).pending = s.pending := rfl
@[simp] theorem State.updDir_freeIdx (s : State) (i f) : (s.updDir i f).freeIdx = s.freeIdx := rfl
@[simp] theorem State.updDir_sent (s : State) (i f) : (s.updDir i f).sent = s.sent := rfl
@[simp] theorem State.updDir_inbox (s : State) (i f) : (s.updDir i f).inbox = s.inbox := rfl
@[simp] theorem State.updDir_ids (s : State) (i f) : (s.updDir i f).ids = s.ids := rfl
@[simp] theorem State.updDir_tick (s : State) (i f) : (s.updDir i f).tick = s.tick := rfl
@[simp] theorem State.updDir_regs (s : State) (i f) : (s.updDir i f).regs = s.regs := rfl
@[simp] theorem State.updDir_regW (s : State) (i f) : (s.updDir i f).regW = s.regW := rfl
@[simp] theorem State.updDir_arb (s : State) (i f) : (s.updDir i f).arb = s.arb := rfl
@[simp] theorem State.updDir_arr (s : State) (i f) : (s.updDir i f).arr = s.arr := rfl
@[simp] theorem State.updDir_tbl (s : State) (i f) : (s.updDir i f).tbl = s.tbl := rfl
@[simp] theorem State.updDir_mnt (s : State) (i f) : (s.updDir i f).mnt = s.mnt := rfl
@[simp] theorem State.updDir_mq (s : State) (i f) : (s.updDir i f).mq = s.mq := rfl
@[simp] theorem State.updDir_lrn (s : State) (i f) : (s.updDir i f).lrn = s.lrn := rfl
@[simp] theorem State.updDir_trie (s : State) (i f) : (s.updDir i f).trie = s.trie := rfl
@[simp] theorem State.updDir_dsram (s : State) (i f) : (s.updDir i f).dsram = s.dsram := rfl
@[simp] theorem State.updDir_rng (s : State) (i f) : (s.updDir i f).rng = s.rng := rfl
@[simp] theorem State.updDir_prt (s : State) (i f) : (s.updDir i f).prt = s.prt := rfl
@[simp] theorem State.updDir_lds (s : State) (i f) : (s.updDir i f).lds = s.lds := rfl
@[simp] theorem State.updDir_ctx (s : State) (i f) : (s.updDir i f).ctx = s.ctx := rfl
@[simp] theorem State.updDir_heldReads (s : State) (i f) : (s.updDir i f).heldReads = s.heldReads := rfl
@[simp] theorem State.updDir_tier (s : State) (i f) : (s.updDir i f).tier = s.tier := rfl
@[simp] theorem State.updDir_mem (s : State) (i f) : (s.updDir i f).mem = s.mem := rfl
@[simp] theorem State.updDir_host (s : State) (i f) : (s.updDir i f).host = s.host := rfl
@[simp] theorem State.updDir_dram (s : State) (i f) : (s.updDir i f).dram = s.dram := rfl
@[simp] theorem State.updDir_trn (s : State) (i f) : (s.updDir i f).trn = s.trn := rfl
@[simp] theorem State.updDir_pair (s : State) (i f) : (s.updDir i f).pair = s.pair := rfl
@[simp] theorem State.updDir_ras (s : State) (i f) : (s.updDir i f).ras = s.ras := rfl
@[simp] theorem State.updDir_mbox (s : State) (i f) : (s.updDir i f).mbox = s.mbox := rfl
@[simp] theorem State.updDir_life (s : State) (i f) : (s.updDir i f).life = s.life := rfl
@[simp] theorem State.updDir_pins (s : State) (i f) : (s.updDir i f).pins = s.pins := rfl
@[simp] theorem State.updDir_up (s : State) (i f) : (s.updDir i f).up = s.up := State.up_congr (State.updDir_pins ..)
@[simp] theorem State.updLearn_pending (s : State) (i f) : (s.updLearn i f).pending = s.pending := rfl
@[simp] theorem State.updLearn_freeIdx (s : State) (i f) : (s.updLearn i f).freeIdx = s.freeIdx := rfl
@[simp] theorem State.updLearn_sent (s : State) (i f) : (s.updLearn i f).sent = s.sent := rfl
@[simp] theorem State.updLearn_inbox (s : State) (i f) : (s.updLearn i f).inbox = s.inbox := rfl
@[simp] theorem State.updLearn_ids (s : State) (i f) : (s.updLearn i f).ids = s.ids := rfl
@[simp] theorem State.updLearn_tick (s : State) (i f) : (s.updLearn i f).tick = s.tick := rfl
@[simp] theorem State.updLearn_regs (s : State) (i f) : (s.updLearn i f).regs = s.regs := rfl
@[simp] theorem State.updLearn_regW (s : State) (i f) : (s.updLearn i f).regW = s.regW := rfl
@[simp] theorem State.updLearn_arb (s : State) (i f) : (s.updLearn i f).arb = s.arb := rfl
@[simp] theorem State.updLearn_arr (s : State) (i f) : (s.updLearn i f).arr = s.arr := rfl
@[simp] theorem State.updLearn_tbl (s : State) (i f) : (s.updLearn i f).tbl = s.tbl := rfl
@[simp] theorem State.updLearn_mnt (s : State) (i f) : (s.updLearn i f).mnt = s.mnt := rfl
@[simp] theorem State.updLearn_mq (s : State) (i f) : (s.updLearn i f).mq = s.mq := rfl
@[simp] theorem State.updLearn_dir (s : State) (i f) : (s.updLearn i f).dir = s.dir := rfl
@[simp] theorem State.updLearn_trie (s : State) (i f) : (s.updLearn i f).trie = s.trie := rfl
@[simp] theorem State.updLearn_dsram (s : State) (i f) : (s.updLearn i f).dsram = s.dsram := rfl
@[simp] theorem State.updLearn_rng (s : State) (i f) : (s.updLearn i f).rng = s.rng := rfl
@[simp] theorem State.updLearn_prt (s : State) (i f) : (s.updLearn i f).prt = s.prt := rfl
@[simp] theorem State.updLearn_lds (s : State) (i f) : (s.updLearn i f).lds = s.lds := rfl
@[simp] theorem State.updLearn_ctx (s : State) (i f) : (s.updLearn i f).ctx = s.ctx := rfl
@[simp] theorem State.updLearn_heldReads (s : State) (i f) : (s.updLearn i f).heldReads = s.heldReads := rfl
@[simp] theorem State.updLearn_tier (s : State) (i f) : (s.updLearn i f).tier = s.tier := rfl
@[simp] theorem State.updLearn_mem (s : State) (i f) : (s.updLearn i f).mem = s.mem := rfl
@[simp] theorem State.updLearn_host (s : State) (i f) : (s.updLearn i f).host = s.host := rfl
@[simp] theorem State.updLearn_dram (s : State) (i f) : (s.updLearn i f).dram = s.dram := rfl
@[simp] theorem State.updLearn_trn (s : State) (i f) : (s.updLearn i f).trn = s.trn := rfl
@[simp] theorem State.updLearn_pair (s : State) (i f) : (s.updLearn i f).pair = s.pair := rfl
@[simp] theorem State.updLearn_ras (s : State) (i f) : (s.updLearn i f).ras = s.ras := rfl
@[simp] theorem State.updLearn_mbox (s : State) (i f) : (s.updLearn i f).mbox = s.mbox := rfl
@[simp] theorem State.updLearn_life (s : State) (i f) : (s.updLearn i f).life = s.life := rfl
@[simp] theorem State.updLearn_pins (s : State) (i f) : (s.updLearn i f).pins = s.pins := rfl
@[simp] theorem State.updLearn_up (s : State) (i f) : (s.updLearn i f).up = s.up := State.up_congr (State.updLearn_pins ..)
@[simp] theorem State.updSweep_pending (s : State) (t f) : (s.updSweep t f).pending = s.pending := rfl
@[simp] theorem State.updSweep_freeIdx (s : State) (t f) : (s.updSweep t f).freeIdx = s.freeIdx := rfl
@[simp] theorem State.updSweep_sent (s : State) (t f) : (s.updSweep t f).sent = s.sent := rfl
@[simp] theorem State.updSweep_inbox (s : State) (t f) : (s.updSweep t f).inbox = s.inbox := rfl
@[simp] theorem State.updSweep_ids (s : State) (t f) : (s.updSweep t f).ids = s.ids := rfl
@[simp] theorem State.updSweep_tick (s : State) (t f) : (s.updSweep t f).tick = s.tick := rfl
@[simp] theorem State.updSweep_regs (s : State) (t f) : (s.updSweep t f).regs = s.regs := rfl
@[simp] theorem State.updSweep_regW (s : State) (t f) : (s.updSweep t f).regW = s.regW := rfl
@[simp] theorem State.updSweep_arb (s : State) (t f) : (s.updSweep t f).arb = s.arb := rfl
@[simp] theorem State.updSweep_arr (s : State) (t f) : (s.updSweep t f).arr = s.arr := rfl
@[simp] theorem State.updSweep_tbl (s : State) (t f) : (s.updSweep t f).tbl = s.tbl := rfl
@[simp] theorem State.updSweep_mnt (s : State) (t f) : (s.updSweep t f).mnt = s.mnt := rfl
@[simp] theorem State.updSweep_mq (s : State) (t f) : (s.updSweep t f).mq = s.mq := rfl
@[simp] theorem State.updSweep_dir (s : State) (t f) : (s.updSweep t f).dir = s.dir := rfl
@[simp] theorem State.updSweep_trie (s : State) (t f) : (s.updSweep t f).trie = s.trie := rfl
@[simp] theorem State.updSweep_dsram (s : State) (t f) : (s.updSweep t f).dsram = s.dsram := rfl
@[simp] theorem State.updSweep_rng (s : State) (t f) : (s.updSweep t f).rng = s.rng := rfl
@[simp] theorem State.updSweep_prt (s : State) (t f) : (s.updSweep t f).prt = s.prt := rfl
@[simp] theorem State.updSweep_lds (s : State) (t f) : (s.updSweep t f).lds = s.lds := rfl
@[simp] theorem State.updSweep_ctx (s : State) (t f) : (s.updSweep t f).ctx = s.ctx := rfl
@[simp] theorem State.updSweep_heldReads (s : State) (t f) : (s.updSweep t f).heldReads = s.heldReads := rfl
@[simp] theorem State.updSweep_tier (s : State) (t f) : (s.updSweep t f).tier = s.tier := rfl
@[simp] theorem State.updSweep_mem (s : State) (t f) : (s.updSweep t f).mem = s.mem := rfl
@[simp] theorem State.updSweep_host (s : State) (t f) : (s.updSweep t f).host = s.host := rfl
@[simp] theorem State.updSweep_dram (s : State) (t f) : (s.updSweep t f).dram = s.dram := rfl
@[simp] theorem State.updSweep_trn (s : State) (t f) : (s.updSweep t f).trn = s.trn := rfl
@[simp] theorem State.updSweep_pair (s : State) (t f) : (s.updSweep t f).pair = s.pair := rfl
@[simp] theorem State.updSweep_ras (s : State) (t f) : (s.updSweep t f).ras = s.ras := rfl
@[simp] theorem State.updSweep_mbox (s : State) (t f) : (s.updSweep t f).mbox = s.mbox := rfl
@[simp] theorem State.updSweep_life (s : State) (t f) : (s.updSweep t f).life = s.life := rfl
@[simp] theorem State.updSweep_pins (s : State) (t f) : (s.updSweep t f).pins = s.pins := rfl
@[simp] theorem State.updSweep_up (s : State) (t f) : (s.updSweep t f).up = s.up := State.up_congr (State.updSweep_pins ..)
@[simp] theorem State.updJob_pending (s : State) (i f) : (s.updJob i f).pending = s.pending := rfl
@[simp] theorem State.updJob_freeIdx (s : State) (i f) : (s.updJob i f).freeIdx = s.freeIdx := rfl
@[simp] theorem State.updJob_sent (s : State) (i f) : (s.updJob i f).sent = s.sent := rfl
@[simp] theorem State.updJob_inbox (s : State) (i f) : (s.updJob i f).inbox = s.inbox := rfl
@[simp] theorem State.updJob_ids (s : State) (i f) : (s.updJob i f).ids = s.ids := rfl
@[simp] theorem State.updJob_tick (s : State) (i f) : (s.updJob i f).tick = s.tick := rfl
@[simp] theorem State.updJob_regs (s : State) (i f) : (s.updJob i f).regs = s.regs := rfl
@[simp] theorem State.updJob_regW (s : State) (i f) : (s.updJob i f).regW = s.regW := rfl
@[simp] theorem State.updJob_arb (s : State) (i f) : (s.updJob i f).arb = s.arb := rfl
@[simp] theorem State.updJob_arr (s : State) (i f) : (s.updJob i f).arr = s.arr := rfl
@[simp] theorem State.updJob_tbl (s : State) (i f) : (s.updJob i f).tbl = s.tbl := rfl
@[simp] theorem State.updJob_mnt (s : State) (i f) : (s.updJob i f).mnt = s.mnt := rfl
@[simp] theorem State.updJob_mq (s : State) (i f) : (s.updJob i f).mq = s.mq := rfl
@[simp] theorem State.updJob_lrn (s : State) (i f) : (s.updJob i f).lrn = s.lrn := rfl
@[simp] theorem State.updJob_dir (s : State) (i f) : (s.updJob i f).dir = s.dir := rfl
@[simp] theorem State.updJob_trie (s : State) (i f) : (s.updJob i f).trie = s.trie := rfl
@[simp] theorem State.updJob_dsram (s : State) (i f) : (s.updJob i f).dsram = s.dsram := rfl
@[simp] theorem State.updJob_prt (s : State) (i f) : (s.updJob i f).prt = s.prt := rfl
@[simp] theorem State.updJob_lds (s : State) (i f) : (s.updJob i f).lds = s.lds := rfl
@[simp] theorem State.updJob_ctx (s : State) (i f) : (s.updJob i f).ctx = s.ctx := rfl
@[simp] theorem State.updJob_heldReads (s : State) (i f) : (s.updJob i f).heldReads = s.heldReads := rfl
@[simp] theorem State.updJob_tier (s : State) (i f) : (s.updJob i f).tier = s.tier := rfl
@[simp] theorem State.updJob_mem (s : State) (i f) : (s.updJob i f).mem = s.mem := rfl
@[simp] theorem State.updJob_host (s : State) (i f) : (s.updJob i f).host = s.host := rfl
@[simp] theorem State.updJob_dram (s : State) (i f) : (s.updJob i f).dram = s.dram := rfl
@[simp] theorem State.updJob_trn (s : State) (i f) : (s.updJob i f).trn = s.trn := rfl
@[simp] theorem State.updJob_pair (s : State) (i f) : (s.updJob i f).pair = s.pair := rfl
@[simp] theorem State.updJob_ras (s : State) (i f) : (s.updJob i f).ras = s.ras := rfl
@[simp] theorem State.updJob_mbox (s : State) (i f) : (s.updJob i f).mbox = s.mbox := rfl
@[simp] theorem State.updJob_life (s : State) (i f) : (s.updJob i f).life = s.life := rfl
@[simp] theorem State.updJob_pins (s : State) (i f) : (s.updJob i f).pins = s.pins := rfl
@[simp] theorem State.updJob_up (s : State) (i f) : (s.updJob i f).up = s.up := State.up_congr (State.updJob_pins ..)
@[simp] theorem State.setThread_pending (s : State) (k t) : (s.setThread k t).pending = s.pending := rfl
@[simp] theorem State.setThread_freeIdx (s : State) (k t) : (s.setThread k t).freeIdx = s.freeIdx := rfl
@[simp] theorem State.setThread_sent (s : State) (k t) : (s.setThread k t).sent = s.sent := rfl
@[simp] theorem State.setThread_inbox (s : State) (k t) : (s.setThread k t).inbox = s.inbox := rfl
@[simp] theorem State.setThread_ids (s : State) (k t) : (s.setThread k t).ids = s.ids := rfl
@[simp] theorem State.setThread_tick (s : State) (k t) : (s.setThread k t).tick = s.tick := rfl
@[simp] theorem State.setThread_regs (s : State) (k t) : (s.setThread k t).regs = s.regs := rfl
@[simp] theorem State.setThread_regW (s : State) (k t) : (s.setThread k t).regW = s.regW := rfl
@[simp] theorem State.setThread_arb (s : State) (k t) : (s.setThread k t).arb = s.arb := rfl
@[simp] theorem State.setThread_arr (s : State) (k t) : (s.setThread k t).arr = s.arr := rfl
@[simp] theorem State.setThread_tbl (s : State) (k t) : (s.setThread k t).tbl = s.tbl := rfl
@[simp] theorem State.setThread_mnt (s : State) (k t) : (s.setThread k t).mnt = s.mnt := rfl
@[simp] theorem State.setThread_mq (s : State) (k t) : (s.setThread k t).mq = s.mq := rfl
@[simp] theorem State.setThread_lrn (s : State) (k t) : (s.setThread k t).lrn = s.lrn := rfl
@[simp] theorem State.setThread_dir (s : State) (k t) : (s.setThread k t).dir = s.dir := rfl
@[simp] theorem State.setThread_trie (s : State) (k t) : (s.setThread k t).trie = s.trie := rfl
@[simp] theorem State.setThread_dsram (s : State) (k t) : (s.setThread k t).dsram = s.dsram := rfl
@[simp] theorem State.setThread_prt (s : State) (k t) : (s.setThread k t).prt = s.prt := rfl
@[simp] theorem State.setThread_lds (s : State) (k t) : (s.setThread k t).lds = s.lds := rfl
@[simp] theorem State.setThread_ctx (s : State) (k t) : (s.setThread k t).ctx = s.ctx := rfl
@[simp] theorem State.setThread_heldReads (s : State) (k t) : (s.setThread k t).heldReads = s.heldReads := rfl
@[simp] theorem State.setThread_tier (s : State) (k t) : (s.setThread k t).tier = s.tier := rfl
@[simp] theorem State.setThread_mem (s : State) (k t) : (s.setThread k t).mem = s.mem := rfl
@[simp] theorem State.setThread_host (s : State) (k t) : (s.setThread k t).host = s.host := rfl
@[simp] theorem State.setThread_dram (s : State) (k t) : (s.setThread k t).dram = s.dram := rfl
@[simp] theorem State.setThread_trn (s : State) (k t) : (s.setThread k t).trn = s.trn := rfl
@[simp] theorem State.setThread_pair (s : State) (k t) : (s.setThread k t).pair = s.pair := rfl
@[simp] theorem State.setThread_ras (s : State) (k t) : (s.setThread k t).ras = s.ras := rfl
@[simp] theorem State.setThread_mbox (s : State) (k t) : (s.setThread k t).mbox = s.mbox := rfl
@[simp] theorem State.setThread_life (s : State) (k t) : (s.setThread k t).life = s.life := rfl
@[simp] theorem State.setThread_pins (s : State) (k t) : (s.setThread k t).pins = s.pins := rfl
@[simp] theorem State.setThread_up (s : State) (k t) : (s.setThread k t).up = s.up := State.up_congr (State.setThread_pins ..)
@[simp] theorem State.setArow_pending (s : State) (a r) : (s.setArow a r).pending = s.pending := rfl
@[simp] theorem State.setArow_freeIdx (s : State) (a r) : (s.setArow a r).freeIdx = s.freeIdx := rfl
@[simp] theorem State.setArow_sent (s : State) (a r) : (s.setArow a r).sent = s.sent := rfl
@[simp] theorem State.setArow_inbox (s : State) (a r) : (s.setArow a r).inbox = s.inbox := rfl
@[simp] theorem State.setArow_ids (s : State) (a r) : (s.setArow a r).ids = s.ids := rfl
@[simp] theorem State.setArow_tick (s : State) (a r) : (s.setArow a r).tick = s.tick := rfl
@[simp] theorem State.setArow_regs (s : State) (a r) : (s.setArow a r).regs = s.regs := rfl
@[simp] theorem State.setArow_regW (s : State) (a r) : (s.setArow a r).regW = s.regW := rfl
@[simp] theorem State.setArow_arb (s : State) (a r) : (s.setArow a r).arb = s.arb := rfl
@[simp] theorem State.setArow_tbl (s : State) (a r) : (s.setArow a r).tbl = s.tbl := rfl
@[simp] theorem State.setArow_mnt (s : State) (a r) : (s.setArow a r).mnt = s.mnt := rfl
@[simp] theorem State.setArow_mq (s : State) (a r) : (s.setArow a r).mq = s.mq := rfl
@[simp] theorem State.setArow_lrn (s : State) (a r) : (s.setArow a r).lrn = s.lrn := rfl
@[simp] theorem State.setArow_dir (s : State) (a r) : (s.setArow a r).dir = s.dir := rfl
@[simp] theorem State.setArow_trie (s : State) (a r) : (s.setArow a r).trie = s.trie := rfl
@[simp] theorem State.setArow_dsram (s : State) (a r) : (s.setArow a r).dsram = s.dsram := rfl
@[simp] theorem State.setArow_rng (s : State) (a r) : (s.setArow a r).rng = s.rng := rfl
@[simp] theorem State.setArow_prt (s : State) (a r) : (s.setArow a r).prt = s.prt := rfl
@[simp] theorem State.setArow_lds (s : State) (a r) : (s.setArow a r).lds = s.lds := rfl
@[simp] theorem State.setArow_ctx (s : State) (a r) : (s.setArow a r).ctx = s.ctx := rfl
@[simp] theorem State.setArow_heldReads (s : State) (a r) : (s.setArow a r).heldReads = s.heldReads := rfl
@[simp] theorem State.setArow_tier (s : State) (a r) : (s.setArow a r).tier = s.tier := rfl
@[simp] theorem State.setArow_mem (s : State) (a r) : (s.setArow a r).mem = s.mem := rfl
@[simp] theorem State.setArow_host (s : State) (a r) : (s.setArow a r).host = s.host := rfl
@[simp] theorem State.setArow_dram (s : State) (a r) : (s.setArow a r).dram = s.dram := rfl
@[simp] theorem State.setArow_trn (s : State) (a r) : (s.setArow a r).trn = s.trn := rfl
@[simp] theorem State.setArow_pair (s : State) (a r) : (s.setArow a r).pair = s.pair := rfl
@[simp] theorem State.setArow_ras (s : State) (a r) : (s.setArow a r).ras = s.ras := rfl
@[simp] theorem State.setArow_mbox (s : State) (a r) : (s.setArow a r).mbox = s.mbox := rfl
@[simp] theorem State.setArow_life (s : State) (a r) : (s.setArow a r).life = s.life := rfl
@[simp] theorem State.setArow_pins (s : State) (a r) : (s.setArow a r).pins = s.pins := rfl
@[simp] theorem State.setArow_arr (s : State) (a r) : (s.setArow a r).arr = { s.arr with rows := SMap.set (fun _ => {}) s.arr.rows a r } := rfl
@[simp] theorem State.setArow_up (s : State) (a r) : (s.setArow a r).up = s.up := State.up_congr (State.setArow_pins ..)
@[simp] theorem State.setHrow_pending (s : State) (t h a) : (s.setHrow t h a).pending = s.pending := rfl
@[simp] theorem State.setHrow_freeIdx (s : State) (t h a) : (s.setHrow t h a).freeIdx = s.freeIdx := rfl
@[simp] theorem State.setHrow_sent (s : State) (t h a) : (s.setHrow t h a).sent = s.sent := rfl
@[simp] theorem State.setHrow_inbox (s : State) (t h a) : (s.setHrow t h a).inbox = s.inbox := rfl
@[simp] theorem State.setHrow_ids (s : State) (t h a) : (s.setHrow t h a).ids = s.ids := rfl
@[simp] theorem State.setHrow_tick (s : State) (t h a) : (s.setHrow t h a).tick = s.tick := rfl
@[simp] theorem State.setHrow_regs (s : State) (t h a) : (s.setHrow t h a).regs = s.regs := rfl
@[simp] theorem State.setHrow_regW (s : State) (t h a) : (s.setHrow t h a).regW = s.regW := rfl
@[simp] theorem State.setHrow_arb (s : State) (t h a) : (s.setHrow t h a).arb = s.arb := rfl
@[simp] theorem State.setHrow_tbl (s : State) (t h a) : (s.setHrow t h a).tbl = s.tbl := rfl
@[simp] theorem State.setHrow_mnt (s : State) (t h a) : (s.setHrow t h a).mnt = s.mnt := rfl
@[simp] theorem State.setHrow_mq (s : State) (t h a) : (s.setHrow t h a).mq = s.mq := rfl
@[simp] theorem State.setHrow_lrn (s : State) (t h a) : (s.setHrow t h a).lrn = s.lrn := rfl
@[simp] theorem State.setHrow_dir (s : State) (t h a) : (s.setHrow t h a).dir = s.dir := rfl
@[simp] theorem State.setHrow_trie (s : State) (t h a) : (s.setHrow t h a).trie = s.trie := rfl
@[simp] theorem State.setHrow_dsram (s : State) (t h a) : (s.setHrow t h a).dsram = s.dsram := rfl
@[simp] theorem State.setHrow_rng (s : State) (t h a) : (s.setHrow t h a).rng = s.rng := rfl
@[simp] theorem State.setHrow_prt (s : State) (t h a) : (s.setHrow t h a).prt = s.prt := rfl
@[simp] theorem State.setHrow_lds (s : State) (t h a) : (s.setHrow t h a).lds = s.lds := rfl
@[simp] theorem State.setHrow_ctx (s : State) (t h a) : (s.setHrow t h a).ctx = s.ctx := rfl
@[simp] theorem State.setHrow_heldReads (s : State) (t h a) : (s.setHrow t h a).heldReads = s.heldReads := rfl
@[simp] theorem State.setHrow_tier (s : State) (t h a) : (s.setHrow t h a).tier = s.tier := rfl
@[simp] theorem State.setHrow_mem (s : State) (t h a) : (s.setHrow t h a).mem = s.mem := rfl
@[simp] theorem State.setHrow_host (s : State) (t h a) : (s.setHrow t h a).host = s.host := rfl
@[simp] theorem State.setHrow_dram (s : State) (t h a) : (s.setHrow t h a).dram = s.dram := rfl
@[simp] theorem State.setHrow_trn (s : State) (t h a) : (s.setHrow t h a).trn = s.trn := rfl
@[simp] theorem State.setHrow_pair (s : State) (t h a) : (s.setHrow t h a).pair = s.pair := rfl
@[simp] theorem State.setHrow_ras (s : State) (t h a) : (s.setHrow t h a).ras = s.ras := rfl
@[simp] theorem State.setHrow_mbox (s : State) (t h a) : (s.setHrow t h a).mbox = s.mbox := rfl
@[simp] theorem State.setHrow_life (s : State) (t h a) : (s.setHrow t h a).life = s.life := rfl
@[simp] theorem State.setHrow_pins (s : State) (t h a) : (s.setHrow t h a).pins = s.pins := rfl
@[simp] theorem State.setHrow_up (s : State) (t h a) : (s.setHrow t h a).up = s.up := State.up_congr (State.setHrow_pins ..)
@[simp] theorem State.setZ_pending (s : State) (g z w) : (s.setZ g z w).pending = s.pending := rfl
@[simp] theorem State.setZ_freeIdx (s : State) (g z w) : (s.setZ g z w).freeIdx = s.freeIdx := rfl
@[simp] theorem State.setZ_sent (s : State) (g z w) : (s.setZ g z w).sent = s.sent := rfl
@[simp] theorem State.setZ_inbox (s : State) (g z w) : (s.setZ g z w).inbox = s.inbox := rfl
@[simp] theorem State.setZ_ids (s : State) (g z w) : (s.setZ g z w).ids = s.ids := rfl
@[simp] theorem State.setZ_tick (s : State) (g z w) : (s.setZ g z w).tick = s.tick := rfl
@[simp] theorem State.setZ_regs (s : State) (g z w) : (s.setZ g z w).regs = s.regs := rfl
@[simp] theorem State.setZ_regW (s : State) (g z w) : (s.setZ g z w).regW = s.regW := rfl
@[simp] theorem State.setZ_arb (s : State) (g z w) : (s.setZ g z w).arb = s.arb := rfl
@[simp] theorem State.setZ_tbl (s : State) (g z w) : (s.setZ g z w).tbl = s.tbl := rfl
@[simp] theorem State.setZ_mnt (s : State) (g z w) : (s.setZ g z w).mnt = s.mnt := rfl
@[simp] theorem State.setZ_mq (s : State) (g z w) : (s.setZ g z w).mq = s.mq := rfl
@[simp] theorem State.setZ_lrn (s : State) (g z w) : (s.setZ g z w).lrn = s.lrn := rfl
@[simp] theorem State.setZ_dir (s : State) (g z w) : (s.setZ g z w).dir = s.dir := rfl
@[simp] theorem State.setZ_trie (s : State) (g z w) : (s.setZ g z w).trie = s.trie := rfl
@[simp] theorem State.setZ_dsram (s : State) (g z w) : (s.setZ g z w).dsram = s.dsram := rfl
@[simp] theorem State.setZ_rng (s : State) (g z w) : (s.setZ g z w).rng = s.rng := rfl
@[simp] theorem State.setZ_prt (s : State) (g z w) : (s.setZ g z w).prt = s.prt := rfl
@[simp] theorem State.setZ_lds (s : State) (g z w) : (s.setZ g z w).lds = s.lds := rfl
@[simp] theorem State.setZ_ctx (s : State) (g z w) : (s.setZ g z w).ctx = s.ctx := rfl
@[simp] theorem State.setZ_heldReads (s : State) (g z w) : (s.setZ g z w).heldReads = s.heldReads := rfl
@[simp] theorem State.setZ_tier (s : State) (g z w) : (s.setZ g z w).tier = s.tier := rfl
@[simp] theorem State.setZ_mem (s : State) (g z w) : (s.setZ g z w).mem = s.mem := rfl
@[simp] theorem State.setZ_host (s : State) (g z w) : (s.setZ g z w).host = s.host := rfl
@[simp] theorem State.setZ_dram (s : State) (g z w) : (s.setZ g z w).dram = s.dram := rfl
@[simp] theorem State.setZ_trn (s : State) (g z w) : (s.setZ g z w).trn = s.trn := rfl
@[simp] theorem State.setZ_pair (s : State) (g z w) : (s.setZ g z w).pair = s.pair := rfl
@[simp] theorem State.setZ_ras (s : State) (g z w) : (s.setZ g z w).ras = s.ras := rfl
@[simp] theorem State.setZ_mbox (s : State) (g z w) : (s.setZ g z w).mbox = s.mbox := rfl
@[simp] theorem State.setZ_life (s : State) (g z w) : (s.setZ g z w).life = s.life := rfl
@[simp] theorem State.setZ_pins (s : State) (g z w) : (s.setZ g z w).pins = s.pins := rfl
@[simp] theorem State.setZ_up (s : State) (g z w) : (s.setZ g z w).up = s.up := State.up_congr (State.setZ_pins ..)
@[simp] theorem State.setIface_pending (s : State) (n p i) : (s.setIface n p i).pending = s.pending := rfl
@[simp] theorem State.setIface_freeIdx (s : State) (n p i) : (s.setIface n p i).freeIdx = s.freeIdx := rfl
@[simp] theorem State.setIface_sent (s : State) (n p i) : (s.setIface n p i).sent = s.sent := rfl
@[simp] theorem State.setIface_inbox (s : State) (n p i) : (s.setIface n p i).inbox = s.inbox := rfl
@[simp] theorem State.setIface_ids (s : State) (n p i) : (s.setIface n p i).ids = s.ids := rfl
@[simp] theorem State.setIface_tick (s : State) (n p i) : (s.setIface n p i).tick = s.tick := rfl
@[simp] theorem State.setIface_regs (s : State) (n p i) : (s.setIface n p i).regs = s.regs := rfl
@[simp] theorem State.setIface_regW (s : State) (n p i) : (s.setIface n p i).regW = s.regW := rfl
@[simp] theorem State.setIface_arr (s : State) (n p i) : (s.setIface n p i).arr = s.arr := rfl
@[simp] theorem State.setIface_tbl (s : State) (n p i) : (s.setIface n p i).tbl = s.tbl := rfl
@[simp] theorem State.setIface_mnt (s : State) (n p i) : (s.setIface n p i).mnt = s.mnt := rfl
@[simp] theorem State.setIface_mq (s : State) (n p i) : (s.setIface n p i).mq = s.mq := rfl
@[simp] theorem State.setIface_lrn (s : State) (n p i) : (s.setIface n p i).lrn = s.lrn := rfl
@[simp] theorem State.setIface_dir (s : State) (n p i) : (s.setIface n p i).dir = s.dir := rfl
@[simp] theorem State.setIface_trie (s : State) (n p i) : (s.setIface n p i).trie = s.trie := rfl
@[simp] theorem State.setIface_dsram (s : State) (n p i) : (s.setIface n p i).dsram = s.dsram := rfl
@[simp] theorem State.setIface_rng (s : State) (n p i) : (s.setIface n p i).rng = s.rng := rfl
@[simp] theorem State.setIface_prt (s : State) (n p i) : (s.setIface n p i).prt = s.prt := rfl
@[simp] theorem State.setIface_lds (s : State) (n p i) : (s.setIface n p i).lds = s.lds := rfl
@[simp] theorem State.setIface_ctx (s : State) (n p i) : (s.setIface n p i).ctx = s.ctx := rfl
@[simp] theorem State.setIface_heldReads (s : State) (n p i) : (s.setIface n p i).heldReads = s.heldReads := rfl
@[simp] theorem State.setIface_tier (s : State) (n p i) : (s.setIface n p i).tier = s.tier := rfl
@[simp] theorem State.setIface_mem (s : State) (n p i) : (s.setIface n p i).mem = s.mem := rfl
@[simp] theorem State.setIface_host (s : State) (n p i) : (s.setIface n p i).host = s.host := rfl
@[simp] theorem State.setIface_dram (s : State) (n p i) : (s.setIface n p i).dram = s.dram := rfl
@[simp] theorem State.setIface_trn (s : State) (n p i) : (s.setIface n p i).trn = s.trn := rfl
@[simp] theorem State.setIface_pair (s : State) (n p i) : (s.setIface n p i).pair = s.pair := rfl
@[simp] theorem State.setIface_ras (s : State) (n p i) : (s.setIface n p i).ras = s.ras := rfl
@[simp] theorem State.setIface_mbox (s : State) (n p i) : (s.setIface n p i).mbox = s.mbox := rfl
@[simp] theorem State.setIface_life (s : State) (n p i) : (s.setIface n p i).life = s.life := rfl
@[simp] theorem State.setIface_pins (s : State) (n p i) : (s.setIface n p i).pins = s.pins := rfl
@[simp] theorem State.setIface_arb (s : State) (n p i) : (s.setIface n p i).arb = { s.arb with ifaces := SMap.set (fun _ => {}) s.arb.ifaces (8 * n + p) i } := rfl
@[simp] theorem State.setIface_up (s : State) (n p i) : (s.setIface n p i).up = s.up := State.up_congr (State.setIface_pins ..)
@[simp] theorem State.setFrame_pending (s : State) (n x) : (s.setFrame n x).pending = s.pending := rfl
@[simp] theorem State.setFrame_freeIdx (s : State) (n x) : (s.setFrame n x).freeIdx = s.freeIdx := rfl
@[simp] theorem State.setFrame_sent (s : State) (n x) : (s.setFrame n x).sent = s.sent := rfl
@[simp] theorem State.setFrame_inbox (s : State) (n x) : (s.setFrame n x).inbox = s.inbox := rfl
@[simp] theorem State.setFrame_ids (s : State) (n x) : (s.setFrame n x).ids = s.ids := rfl
@[simp] theorem State.setFrame_tick (s : State) (n x) : (s.setFrame n x).tick = s.tick := rfl
@[simp] theorem State.setFrame_regs (s : State) (n x) : (s.setFrame n x).regs = s.regs := rfl
@[simp] theorem State.setFrame_regW (s : State) (n x) : (s.setFrame n x).regW = s.regW := rfl
@[simp] theorem State.setFrame_arb (s : State) (n x) : (s.setFrame n x).arb = s.arb := rfl
@[simp] theorem State.setFrame_arr (s : State) (n x) : (s.setFrame n x).arr = s.arr := rfl
@[simp] theorem State.setFrame_tbl (s : State) (n x) : (s.setFrame n x).tbl = s.tbl := rfl
@[simp] theorem State.setFrame_mnt (s : State) (n x) : (s.setFrame n x).mnt = s.mnt := rfl
@[simp] theorem State.setFrame_mq (s : State) (n x) : (s.setFrame n x).mq = s.mq := rfl
@[simp] theorem State.setFrame_lrn (s : State) (n x) : (s.setFrame n x).lrn = s.lrn := rfl
@[simp] theorem State.setFrame_dir (s : State) (n x) : (s.setFrame n x).dir = s.dir := rfl
@[simp] theorem State.setFrame_trie (s : State) (n x) : (s.setFrame n x).trie = s.trie := rfl
@[simp] theorem State.setFrame_dsram (s : State) (n x) : (s.setFrame n x).dsram = s.dsram := rfl
@[simp] theorem State.setFrame_rng (s : State) (n x) : (s.setFrame n x).rng = s.rng := rfl
@[simp] theorem State.setFrame_prt (s : State) (n x) : (s.setFrame n x).prt = s.prt := rfl
@[simp] theorem State.setFrame_lds (s : State) (n x) : (s.setFrame n x).lds = s.lds := rfl
@[simp] theorem State.setFrame_ctx (s : State) (n x) : (s.setFrame n x).ctx = s.ctx := rfl
@[simp] theorem State.setFrame_heldReads (s : State) (n x) : (s.setFrame n x).heldReads = s.heldReads := rfl
@[simp] theorem State.setFrame_mem (s : State) (n x) : (s.setFrame n x).mem = s.mem := rfl
@[simp] theorem State.setFrame_host (s : State) (n x) : (s.setFrame n x).host = s.host := rfl
@[simp] theorem State.setFrame_dram (s : State) (n x) : (s.setFrame n x).dram = s.dram := rfl
@[simp] theorem State.setFrame_trn (s : State) (n x) : (s.setFrame n x).trn = s.trn := rfl
@[simp] theorem State.setFrame_pair (s : State) (n x) : (s.setFrame n x).pair = s.pair := rfl
@[simp] theorem State.setFrame_ras (s : State) (n x) : (s.setFrame n x).ras = s.ras := rfl
@[simp] theorem State.setFrame_mbox (s : State) (n x) : (s.setFrame n x).mbox = s.mbox := rfl
@[simp] theorem State.setFrame_life (s : State) (n x) : (s.setFrame n x).life = s.life := rfl
@[simp] theorem State.setFrame_pins (s : State) (n x) : (s.setFrame n x).pins = s.pins := rfl
@[simp] theorem State.setFrame_tier (s : State) (n x) : (s.setFrame n x).tier = { s.tier with frames := SMap.set (fun _ => {}) s.tier.frames n x } := rfl
@[simp] theorem State.setFrame_up (s : State) (n x) : (s.setFrame n x).up = s.up := State.up_congr (State.setFrame_pins ..)
@[simp] theorem State.setDword_pending (s : State) (a w) : (s.setDword a w).pending = s.pending := rfl
@[simp] theorem State.setDword_freeIdx (s : State) (a w) : (s.setDword a w).freeIdx = s.freeIdx := rfl
@[simp] theorem State.setDword_sent (s : State) (a w) : (s.setDword a w).sent = s.sent := rfl
@[simp] theorem State.setDword_inbox (s : State) (a w) : (s.setDword a w).inbox = s.inbox := rfl
@[simp] theorem State.setDword_ids (s : State) (a w) : (s.setDword a w).ids = s.ids := rfl
@[simp] theorem State.setDword_tick (s : State) (a w) : (s.setDword a w).tick = s.tick := rfl
@[simp] theorem State.setDword_regs (s : State) (a w) : (s.setDword a w).regs = s.regs := rfl
@[simp] theorem State.setDword_regW (s : State) (a w) : (s.setDword a w).regW = s.regW := rfl
@[simp] theorem State.setDword_arb (s : State) (a w) : (s.setDword a w).arb = s.arb := rfl
@[simp] theorem State.setDword_arr (s : State) (a w) : (s.setDword a w).arr = s.arr := rfl
@[simp] theorem State.setDword_tbl (s : State) (a w) : (s.setDword a w).tbl = s.tbl := rfl
@[simp] theorem State.setDword_mnt (s : State) (a w) : (s.setDword a w).mnt = s.mnt := rfl
@[simp] theorem State.setDword_mq (s : State) (a w) : (s.setDword a w).mq = s.mq := rfl
@[simp] theorem State.setDword_lrn (s : State) (a w) : (s.setDword a w).lrn = s.lrn := rfl
@[simp] theorem State.setDword_dir (s : State) (a w) : (s.setDword a w).dir = s.dir := rfl
@[simp] theorem State.setDword_trie (s : State) (a w) : (s.setDword a w).trie = s.trie := rfl
@[simp] theorem State.setDword_rng (s : State) (a w) : (s.setDword a w).rng = s.rng := rfl
@[simp] theorem State.setDword_prt (s : State) (a w) : (s.setDword a w).prt = s.prt := rfl
@[simp] theorem State.setDword_lds (s : State) (a w) : (s.setDword a w).lds = s.lds := rfl
@[simp] theorem State.setDword_ctx (s : State) (a w) : (s.setDword a w).ctx = s.ctx := rfl
@[simp] theorem State.setDword_heldReads (s : State) (a w) : (s.setDword a w).heldReads = s.heldReads := rfl
@[simp] theorem State.setDword_tier (s : State) (a w) : (s.setDword a w).tier = s.tier := rfl
@[simp] theorem State.setDword_mem (s : State) (a w) : (s.setDword a w).mem = s.mem := rfl
@[simp] theorem State.setDword_host (s : State) (a w) : (s.setDword a w).host = s.host := rfl
@[simp] theorem State.setDword_dram (s : State) (a w) : (s.setDword a w).dram = s.dram := rfl
@[simp] theorem State.setDword_trn (s : State) (a w) : (s.setDword a w).trn = s.trn := rfl
@[simp] theorem State.setDword_pair (s : State) (a w) : (s.setDword a w).pair = s.pair := rfl
@[simp] theorem State.setDword_ras (s : State) (a w) : (s.setDword a w).ras = s.ras := rfl
@[simp] theorem State.setDword_mbox (s : State) (a w) : (s.setDword a w).mbox = s.mbox := rfl
@[simp] theorem State.setDword_life (s : State) (a w) : (s.setDword a w).life = s.life := rfl
@[simp] theorem State.setDword_pins (s : State) (a w) : (s.setDword a w).pins = s.pins := rfl
@[simp] theorem State.setDword_up (s : State) (a w) : (s.setDword a w).up = s.up := State.up_congr (State.setDword_pins ..)
@[simp] theorem State.updPort_pending (s : State) (p f) : (s.updPort p f).pending = s.pending := rfl
@[simp] theorem State.updPort_freeIdx (s : State) (p f) : (s.updPort p f).freeIdx = s.freeIdx := rfl
@[simp] theorem State.updPort_sent (s : State) (p f) : (s.updPort p f).sent = s.sent := rfl
@[simp] theorem State.updPort_inbox (s : State) (p f) : (s.updPort p f).inbox = s.inbox := rfl
@[simp] theorem State.updPort_ids (s : State) (p f) : (s.updPort p f).ids = s.ids := rfl
@[simp] theorem State.updPort_tick (s : State) (p f) : (s.updPort p f).tick = s.tick := rfl
@[simp] theorem State.updPort_regs (s : State) (p f) : (s.updPort p f).regs = s.regs := rfl
@[simp] theorem State.updPort_regW (s : State) (p f) : (s.updPort p f).regW = s.regW := rfl
@[simp] theorem State.updPort_arb (s : State) (p f) : (s.updPort p f).arb = s.arb := rfl
@[simp] theorem State.updPort_arr (s : State) (p f) : (s.updPort p f).arr = s.arr := rfl
@[simp] theorem State.updPort_tbl (s : State) (p f) : (s.updPort p f).tbl = s.tbl := rfl
@[simp] theorem State.updPort_mnt (s : State) (p f) : (s.updPort p f).mnt = s.mnt := rfl
@[simp] theorem State.updPort_mq (s : State) (p f) : (s.updPort p f).mq = s.mq := rfl
@[simp] theorem State.updPort_lrn (s : State) (p f) : (s.updPort p f).lrn = s.lrn := rfl
@[simp] theorem State.updPort_dir (s : State) (p f) : (s.updPort p f).dir = s.dir := rfl
@[simp] theorem State.updPort_trie (s : State) (p f) : (s.updPort p f).trie = s.trie := rfl
@[simp] theorem State.updPort_dsram (s : State) (p f) : (s.updPort p f).dsram = s.dsram := rfl
@[simp] theorem State.updPort_rng (s : State) (p f) : (s.updPort p f).rng = s.rng := rfl
@[simp] theorem State.updPort_lds (s : State) (p f) : (s.updPort p f).lds = s.lds := rfl
@[simp] theorem State.updPort_ctx (s : State) (p f) : (s.updPort p f).ctx = s.ctx := rfl
@[simp] theorem State.updPort_heldReads (s : State) (p f) : (s.updPort p f).heldReads = s.heldReads := rfl
@[simp] theorem State.updPort_tier (s : State) (p f) : (s.updPort p f).tier = s.tier := rfl
@[simp] theorem State.updPort_mem (s : State) (p f) : (s.updPort p f).mem = s.mem := rfl
@[simp] theorem State.updPort_host (s : State) (p f) : (s.updPort p f).host = s.host := rfl
@[simp] theorem State.updPort_dram (s : State) (p f) : (s.updPort p f).dram = s.dram := rfl
@[simp] theorem State.updPort_trn (s : State) (p f) : (s.updPort p f).trn = s.trn := rfl
@[simp] theorem State.updPort_pair (s : State) (p f) : (s.updPort p f).pair = s.pair := rfl
@[simp] theorem State.updPort_ras (s : State) (p f) : (s.updPort p f).ras = s.ras := rfl
@[simp] theorem State.updPort_mbox (s : State) (p f) : (s.updPort p f).mbox = s.mbox := rfl
@[simp] theorem State.updPort_life (s : State) (p f) : (s.updPort p f).life = s.life := rfl
@[simp] theorem State.updPort_pins (s : State) (p f) : (s.updPort p f).pins = s.pins := rfl
@[simp] theorem State.updPort_up (s : State) (p f) : (s.updPort p f).up = s.up := State.up_congr (State.updPort_pins ..)
@[simp] theorem State.updLock_pending (s : State) (t f) : (s.updLock t f).pending = s.pending := rfl
@[simp] theorem State.updLock_freeIdx (s : State) (t f) : (s.updLock t f).freeIdx = s.freeIdx := rfl
@[simp] theorem State.updLock_sent (s : State) (t f) : (s.updLock t f).sent = s.sent := rfl
@[simp] theorem State.updLock_inbox (s : State) (t f) : (s.updLock t f).inbox = s.inbox := rfl
@[simp] theorem State.updLock_ids (s : State) (t f) : (s.updLock t f).ids = s.ids := rfl
@[simp] theorem State.updLock_tick (s : State) (t f) : (s.updLock t f).tick = s.tick := rfl
@[simp] theorem State.updLock_regs (s : State) (t f) : (s.updLock t f).regs = s.regs := rfl
@[simp] theorem State.updLock_regW (s : State) (t f) : (s.updLock t f).regW = s.regW := rfl
@[simp] theorem State.updLock_arb (s : State) (t f) : (s.updLock t f).arb = s.arb := rfl
@[simp] theorem State.updLock_arr (s : State) (t f) : (s.updLock t f).arr = s.arr := rfl
@[simp] theorem State.updLock_mnt (s : State) (t f) : (s.updLock t f).mnt = s.mnt := rfl
@[simp] theorem State.updLock_mq (s : State) (t f) : (s.updLock t f).mq = s.mq := rfl
@[simp] theorem State.updLock_lrn (s : State) (t f) : (s.updLock t f).lrn = s.lrn := rfl
@[simp] theorem State.updLock_dir (s : State) (t f) : (s.updLock t f).dir = s.dir := rfl
@[simp] theorem State.updLock_trie (s : State) (t f) : (s.updLock t f).trie = s.trie := rfl
@[simp] theorem State.updLock_dsram (s : State) (t f) : (s.updLock t f).dsram = s.dsram := rfl
@[simp] theorem State.updLock_rng (s : State) (t f) : (s.updLock t f).rng = s.rng := rfl
@[simp] theorem State.updLock_prt (s : State) (t f) : (s.updLock t f).prt = s.prt := rfl
@[simp] theorem State.updLock_lds (s : State) (t f) : (s.updLock t f).lds = s.lds := rfl
@[simp] theorem State.updLock_ctx (s : State) (t f) : (s.updLock t f).ctx = s.ctx := rfl
@[simp] theorem State.updLock_heldReads (s : State) (t f) : (s.updLock t f).heldReads = s.heldReads := rfl
@[simp] theorem State.updLock_tier (s : State) (t f) : (s.updLock t f).tier = s.tier := rfl
@[simp] theorem State.updLock_mem (s : State) (t f) : (s.updLock t f).mem = s.mem := rfl
@[simp] theorem State.updLock_host (s : State) (t f) : (s.updLock t f).host = s.host := rfl
@[simp] theorem State.updLock_dram (s : State) (t f) : (s.updLock t f).dram = s.dram := rfl
@[simp] theorem State.updLock_trn (s : State) (t f) : (s.updLock t f).trn = s.trn := rfl
@[simp] theorem State.updLock_pair (s : State) (t f) : (s.updLock t f).pair = s.pair := rfl
@[simp] theorem State.updLock_ras (s : State) (t f) : (s.updLock t f).ras = s.ras := rfl
@[simp] theorem State.updLock_mbox (s : State) (t f) : (s.updLock t f).mbox = s.mbox := rfl
@[simp] theorem State.updLock_life (s : State) (t f) : (s.updLock t f).life = s.life := rfl
@[simp] theorem State.updLock_pins (s : State) (t f) : (s.updLock t f).pins = s.pins := rfl
@[simp] theorem State.updLock_up (s : State) (t f) : (s.updLock t f).up = s.up := State.up_congr (State.updLock_pins ..)
@[simp] theorem State.updRk_pending (s : State) (c k f) : (s.updRk c k f).pending = s.pending := rfl
@[simp] theorem State.updRk_freeIdx (s : State) (c k f) : (s.updRk c k f).freeIdx = s.freeIdx := rfl
@[simp] theorem State.updRk_sent (s : State) (c k f) : (s.updRk c k f).sent = s.sent := rfl
@[simp] theorem State.updRk_inbox (s : State) (c k f) : (s.updRk c k f).inbox = s.inbox := rfl
@[simp] theorem State.updRk_ids (s : State) (c k f) : (s.updRk c k f).ids = s.ids := rfl
@[simp] theorem State.updRk_tick (s : State) (c k f) : (s.updRk c k f).tick = s.tick := rfl
@[simp] theorem State.updRk_regs (s : State) (c k f) : (s.updRk c k f).regs = s.regs := rfl
@[simp] theorem State.updRk_regW (s : State) (c k f) : (s.updRk c k f).regW = s.regW := rfl
@[simp] theorem State.updRk_arb (s : State) (c k f) : (s.updRk c k f).arb = s.arb := rfl
@[simp] theorem State.updRk_arr (s : State) (c k f) : (s.updRk c k f).arr = s.arr := rfl
@[simp] theorem State.updRk_tbl (s : State) (c k f) : (s.updRk c k f).tbl = s.tbl := rfl
@[simp] theorem State.updRk_mnt (s : State) (c k f) : (s.updRk c k f).mnt = s.mnt := rfl
@[simp] theorem State.updRk_mq (s : State) (c k f) : (s.updRk c k f).mq = s.mq := rfl
@[simp] theorem State.updRk_lrn (s : State) (c k f) : (s.updRk c k f).lrn = s.lrn := rfl
@[simp] theorem State.updRk_dir (s : State) (c k f) : (s.updRk c k f).dir = s.dir := rfl
@[simp] theorem State.updRk_trie (s : State) (c k f) : (s.updRk c k f).trie = s.trie := rfl
@[simp] theorem State.updRk_dsram (s : State) (c k f) : (s.updRk c k f).dsram = s.dsram := rfl
@[simp] theorem State.updRk_rng (s : State) (c k f) : (s.updRk c k f).rng = s.rng := rfl
@[simp] theorem State.updRk_prt (s : State) (c k f) : (s.updRk c k f).prt = s.prt := rfl
@[simp] theorem State.updRk_lds (s : State) (c k f) : (s.updRk c k f).lds = s.lds := rfl
@[simp] theorem State.updRk_ctx (s : State) (c k f) : (s.updRk c k f).ctx = s.ctx := rfl
@[simp] theorem State.updRk_heldReads (s : State) (c k f) : (s.updRk c k f).heldReads = s.heldReads := rfl
@[simp] theorem State.updRk_tier (s : State) (c k f) : (s.updRk c k f).tier = s.tier := rfl
@[simp] theorem State.updRk_mem (s : State) (c k f) : (s.updRk c k f).mem = s.mem := rfl
@[simp] theorem State.updRk_host (s : State) (c k f) : (s.updRk c k f).host = s.host := rfl
@[simp] theorem State.updRk_trn (s : State) (c k f) : (s.updRk c k f).trn = s.trn := rfl
@[simp] theorem State.updRk_pair (s : State) (c k f) : (s.updRk c k f).pair = s.pair := rfl
@[simp] theorem State.updRk_ras (s : State) (c k f) : (s.updRk c k f).ras = s.ras := rfl
@[simp] theorem State.updRk_mbox (s : State) (c k f) : (s.updRk c k f).mbox = s.mbox := rfl
@[simp] theorem State.updRk_life (s : State) (c k f) : (s.updRk c k f).life = s.life := rfl
@[simp] theorem State.updRk_pins (s : State) (c k f) : (s.updRk c k f).pins = s.pins := rfl
@[simp] theorem State.updRk_up (s : State) (c k f) : (s.updRk c k f).up = s.up := State.up_congr (State.updRk_pins ..)
@[simp] theorem State.setSampler_pending (s : State) (c k l x) : (s.setSampler c k l x).pending = s.pending := rfl
@[simp] theorem State.setSampler_freeIdx (s : State) (c k l x) : (s.setSampler c k l x).freeIdx = s.freeIdx := rfl
@[simp] theorem State.setSampler_sent (s : State) (c k l x) : (s.setSampler c k l x).sent = s.sent := rfl
@[simp] theorem State.setSampler_inbox (s : State) (c k l x) : (s.setSampler c k l x).inbox = s.inbox := rfl
@[simp] theorem State.setSampler_ids (s : State) (c k l x) : (s.setSampler c k l x).ids = s.ids := rfl
@[simp] theorem State.setSampler_tick (s : State) (c k l x) : (s.setSampler c k l x).tick = s.tick := rfl
@[simp] theorem State.setSampler_regs (s : State) (c k l x) : (s.setSampler c k l x).regs = s.regs := rfl
@[simp] theorem State.setSampler_regW (s : State) (c k l x) : (s.setSampler c k l x).regW = s.regW := rfl
@[simp] theorem State.setSampler_arb (s : State) (c k l x) : (s.setSampler c k l x).arb = s.arb := rfl
@[simp] theorem State.setSampler_arr (s : State) (c k l x) : (s.setSampler c k l x).arr = s.arr := rfl
@[simp] theorem State.setSampler_tbl (s : State) (c k l x) : (s.setSampler c k l x).tbl = s.tbl := rfl
@[simp] theorem State.setSampler_mnt (s : State) (c k l x) : (s.setSampler c k l x).mnt = s.mnt := rfl
@[simp] theorem State.setSampler_mq (s : State) (c k l x) : (s.setSampler c k l x).mq = s.mq := rfl
@[simp] theorem State.setSampler_lrn (s : State) (c k l x) : (s.setSampler c k l x).lrn = s.lrn := rfl
@[simp] theorem State.setSampler_dir (s : State) (c k l x) : (s.setSampler c k l x).dir = s.dir := rfl
@[simp] theorem State.setSampler_trie (s : State) (c k l x) : (s.setSampler c k l x).trie = s.trie := rfl
@[simp] theorem State.setSampler_dsram (s : State) (c k l x) : (s.setSampler c k l x).dsram = s.dsram := rfl
@[simp] theorem State.setSampler_rng (s : State) (c k l x) : (s.setSampler c k l x).rng = s.rng := rfl
@[simp] theorem State.setSampler_prt (s : State) (c k l x) : (s.setSampler c k l x).prt = s.prt := rfl
@[simp] theorem State.setSampler_lds (s : State) (c k l x) : (s.setSampler c k l x).lds = s.lds := rfl
@[simp] theorem State.setSampler_ctx (s : State) (c k l x) : (s.setSampler c k l x).ctx = s.ctx := rfl
@[simp] theorem State.setSampler_heldReads (s : State) (c k l x) : (s.setSampler c k l x).heldReads = s.heldReads := rfl
@[simp] theorem State.setSampler_tier (s : State) (c k l x) : (s.setSampler c k l x).tier = s.tier := rfl
@[simp] theorem State.setSampler_mem (s : State) (c k l x) : (s.setSampler c k l x).mem = s.mem := rfl
@[simp] theorem State.setSampler_host (s : State) (c k l x) : (s.setSampler c k l x).host = s.host := rfl
@[simp] theorem State.setSampler_dram (s : State) (c k l x) : (s.setSampler c k l x).dram = s.dram := rfl
@[simp] theorem State.setSampler_pair (s : State) (c k l x) : (s.setSampler c k l x).pair = s.pair := rfl
@[simp] theorem State.setSampler_ras (s : State) (c k l x) : (s.setSampler c k l x).ras = s.ras := rfl
@[simp] theorem State.setSampler_mbox (s : State) (c k l x) : (s.setSampler c k l x).mbox = s.mbox := rfl
@[simp] theorem State.setSampler_life (s : State) (c k l x) : (s.setSampler c k l x).life = s.life := rfl
@[simp] theorem State.setSampler_pins (s : State) (c k l x) : (s.setSampler c k l x).pins = s.pins := rfl
@[simp] theorem State.setSampler_up (s : State) (c k l x) : (s.setSampler c k l x).up = s.up := State.up_congr (State.setSampler_pins ..)

end Sys2Proof.Machine
end

