-- ==== Sys2Proof/Tests/Slice0.lean ====
section
/-! SUPPORT. Tests: well-formedness, single steps, and witnesses of the statements' hypotheses. -/

set_option Elab.async false

namespace Sys2Proof.Tests

open Sys2Proof.Machine

/-- After boot, with firmware ready for owner commands. -/
def rdy : State := State.reset.setF fPhase 4

/-- Witness of StepRunsTheFrontCommand. -/
theorem test_wit_front : ({ State.reset with pending := [.tick, .heatSweep] } : State).pending = .tick :: [.heatSweep] := rfl

/-- Witness of IdleStepLeavesEverything. -/
theorem test_wit_idle : State.reset.pending = [] := rfl

/-- Witness of QueueKeepsItsOrder: a step on the reset state. -/
theorem test_wit_queue : step State.reset = .next State.reset := rfl

/-- Witness of CommandsChangeOnlyTheirComponents: a next state, and a component outside the footprint. -/
theorem test_wit_footprint : exec (.memspecrd 0 0) State.reset = .next State.reset ∧ Comp.mem ∉ commandWrites (.memspecrd 0 0) :=
  ⟨rfl, by decide⟩

/-- Witness of StepKeepsMapsCanonical. -/
theorem test_wit_canonical : State.reset.canonical ∧ step State.reset = .next State.reset := ⟨⟨rfl, rfl, rfl⟩, rfl⟩

/-- Witnesses of PowerAndResetCommandsAct. -/
theorem test_wit_reset_cold : ({ State.reset with pins := { cold := true, good := true } } : State).pins.cold = true ∧
    ({ State.reset with pins := { cold := true, good := true } } : State).pins.good = true := by decide
theorem test_wit_reset_pin : State.reset.pins.cold = false ∧ State.reset.pins.warm = false := by decide
theorem test_wit_reset_warm : ({ State.reset with pins := { warm := true } } : State).pins.warm = true := by decide
theorem test_wit_reset_owner : rdy.ownerRuns (.mailbox 0) = true := by decide
theorem test_wit_reset_due : State.up { State.reset with tick := 500000, life := { resetDue := some 500000 } } = true ∧
    (500000 : Nat) ≤ ({ State.reset with tick := 500000 } : State).tick := by decide

/-- Witnesses of BootAndAttestationCommandsAct. -/
theorem test_wit_boot_rom : State.reset.up = true ∧ State.reset.ras.mpRunning = true ∧ State.reset.f fPhase = 0 ∧
    State.reset.bootCopy = some false ∧ State.reset.life.trialLost = false := by decide
theorem test_wit_boot_none : ({ State.reset with life := { validA := false, validB := false } } : State).bootCopy = none := by decide
theorem test_wit_boot_memory : (State.reset.setF fPhase 3).up = true ∧ (State.reset.setF fPhase 3).f fPhase = 3 := by decide
theorem test_wit_spdm : rdy.up = true ∧ rdy.spdmUp = true ∧ rdy.keysOpen = true ∧ (5 : Nat) < 6 := by decide
theorem test_wit_key_empty : rdy.slotState 7 = 0 := by decide
theorem test_wit_key_loaded : (rdy.setKey 7 (some (1, 2))).slotState 7 = 1 := by decide +kernel

/-- Witnesses of LifeCycleAndFirmwareCommandsAct. -/
theorem test_wit_lc : rdy.f fLcState = 2 ∧ rdy.f fRecords < 63 ∧ rdy.f fTrial = 0 ∧ rdy.f fActive = 0 := by decide
theorem test_wit_lc_due : ({ rdy with tick := 500000, life := { lcDue := some 500000 } } : State).up = true := by decide
theorem test_wit_bar0_fw : rdy.mayBar0 .fw = true ∧ rdy.f fLcLock = 0 ∧ fld (1 : Word) 0 8 = 1 ∧ fld (2 : Word) 0 8 ≠ 1 := by decide
theorem test_wit_fw_copy : rdy.copyValid true = true ∧ rdy.f fMinSvn ≤ (0 : BitVec 16).toNat ∧
    (rdy.setF fMinSvn (max (rdy.f fMinSvn) (rdy.f (fSvn false)))).copyValid true = true := by decide
theorem test_wit_mp_stopped : ({ State.reset with ras := { mpRunning := false } } : State).up = true := by decide
theorem test_wit_trial : (0 : Nat) + 500000000 * max (rdy.f fTrialS) 2 ≤ 500000000 * 256 := by decide

/-- Witnesses of ThermalSampleHoldsTheReadings. -/
theorem test_wit_thermal : State.reset.tick % 500 = 0 ∧ (List.replicate 16 (0x03e8 : BitVec 16)).length = 16 ∧
    State.reset.f fThermActive = 0 ∧ State.reset.throttleAt ≤ ((List.replicate 16 (0x03e8 : BitVec 16)).getD 0 0).toInt := by decide
theorem test_wit_thermal_plain : State.reset.life.applied = none ∧
    State.reset.readings (List.replicate 16 (0x03e8 : BitVec 16)) = List.replicate 16 0x03e8 := by decide +kernel
theorem test_wit_thermal_off : ({ State.reset with tick := 1 } : State).tick % 500 ≠ 0 := by decide

/-- Witnesses of TickCounterFollowsR40. -/
theorem test_wit_tick : State.reset.pins.cold = false ∧ State.reset.pins.warm = false := by decide
theorem test_wit_tick_moves : exec .sysResetRelease { State.reset with pins := { warm := true }, tick := 5 } =
    .next (({ State.reset with pins := { warm := false }, tick := 0 } : State).send (.pin 0 true)) := by rfl

/-- Witnesses of MailboxAndGlobalRegisterCommandsAct. -/
def rdyLd : State := (rdy.setF (ldBar0 3) 1).setLdMap 3 0x8000000000000000
theorem test_wit_mbox_free : rdyLd.up = true ∧ rdyLd.mayBar0 (.ld 3) = true ∧ rdyLd.mbox.holder = none := by decide
theorem test_wit_mbox_held : ({ rdyLd with mbox := { holder := some 3 } } : State).f fMboxBusy ≠ 1 ∧
    ({ rdyLd with mbox := { holder := some 3 } } : State).mayBar0 (.ld 3) = true ∧ (5 : LdId) ≠ 3 := by decide
theorem test_wit_mbox_busy : ({ (rdyLd.setF fMboxBusy 1) with mbox := { holder := some 3 } } : State).f fMboxBusy = 1 ∧
    ({ (rdyLd.setF fMboxBusy 1) with mbox := { holder := some 3 } } : State).mayBar0 (.ld 3) = true := by decide
theorem test_wit_owner_done : ({ rdy with mbox := { done := [⟨.mailbox 3, 0x01, 0, 9, []⟩] } } : State).ras.mpRunning = true ∧
    (⟨.mailbox 3, 0x01, 0, 9, []⟩ : OwnerRes).notBefore ≤ rdy.tick ∧
    (⟨.mailbox 3, 0x23, 0, 9, []⟩ : OwnerRes).notBefore ≤ ({ rdy with tick := 98 } : State).tick := by decide
theorem test_wit_offsets : (0x10014 : BitVec 24).toNat % 8 = 4 ∧ (0x10010 : BitVec 24).toNat % 8 = 0 ∧
    (0x10011 : BitVec 24).toNat % 8 ≠ 0 ∧ (3 : Nat) ≠ 4 ∧ (3 : Nat) ≠ 8 := by decide

/-- Witnesses of SpareTallyAndShadowCommandsAct. -/
theorem test_wit_sense : rdy.ras.failing.contains 5 = false ∧ rdy.tableOf 5 = none ∧
    rdy.ras.ready = 128 :: [129, 130, 131, 132, 133, 134, 135] ∧ (5 : Byte).toNat < 128 := by decide
def failing5 : State := { rdy with tick := 5000, ras := { failing := [5], rebuilds := [⟨5, 128, 5, 1, 800⟩] } }
theorem test_wit_rebuild : failing5.up = true ∧ (800 : Nat) + 4097 ≤ failing5.tick ∧ failing5.ras.failing.contains 5 = true := by decide
theorem test_wit_pause_end : ({ failing5 with ras := { failing5.ras with failing := [] } } : State).ras.failing.contains 5 = false ∧
    (800 : Nat) + 4098 ≤ failing5.tick := by decide
def seen77 : Seen := { row := {} }
def visitFly (og : Origin) : Flight :=
  { op := { table := 0, act := .read 77, origin := og }, input := 13, port := 0, g := 4, seen := some seen77 }
def visit (og : Origin) : State :=
  { rdy with tick := 9, arb := { flights := [visitFly og] }, ras := { dirty := [(77, true)] } }
theorem test_wit_tally : (visit .tally).up = true ∧ (visit .tally).readDue .tally = some (visitFly .tally, 77, seen77) := by
  decide +kernel
theorem test_wit_tally_out : (visit .tallyOut).readDue .tallyOut = some (visitFly .tallyOut, 77, seen77) := by decide +kernel
theorem test_wit_drain : ({ rdy with ras := { shadowQ := [(77, {})] } } : State).ras.shadowQ = (77, {}) :: [] := by decide +kernel
theorem test_wit_dirty : flag ({ rdy with ras := { dirty := [(77, true)] } } : State).ras.dirty (77 : BitVec 21).toNat = true ∧
    ({ rdy with ras := { dirty := [(77, true)] } } : State).queuedOps = [] ∧ rdy.arb.flights = [] := by decide
theorem test_wit_dirty_seen : flag (visit .dirtyFill).ras.dirty (77 : BitVec 21).toNat = true ∧
    (visit .dirtyFill).arb.flights = [visitFly .dirtyFill] ∧ (visitFly .dirtyFill).seen = some seen77 ∧ seen77.row.bad = 0 := by decide +kernel

/-- Witnesses of ProcessorFatalAndEventCommandsAct. -/
theorem test_wit_kick : rdy.mayBar0 .fw = true ∧ bit (0x8000000000000064 : Word) 63 = true := by decide
theorem test_wit_watchdog : rdy.ras.mpRunning = true ∧ rdy.ras.lastKick + 500000 * max (rdy.f fPeriodMs) 10 ≤ 500000 * 1024 ∧
    rdy.tick < rdy.ras.lastKick + 500000 * max (rdy.f fPeriodMs) 10 := by decide
theorem test_wit_fatal : rdy.pins.fatal = false ∧ ({ rdy with pins := { fatal := true } } : State).pins.fatal = true := by decide
theorem test_wit_cons : (rdy.setF fCons (0 : BitVec 32).toNat).evtPending = 0 := by decide
theorem test_wit_evt : (rdy.setF fProd 2000).evtDue = true ∧ (rdy.setF fProd 2000).ras.evtHeld = false := by decide
theorem test_wit_inject : (rdy.setF fLcState 3).f fLcState = 3 ∧ fld (0x8000000000000005 : Word) 0 3 = 5 ∧
    fld (0x8000000000000005 : Word) 8 4 < 10 ∧ (rdy.reg 0x3e0308).toNat < 2 ^ 44 ∧ fld (0x8000000000000007 : Word) 0 3 = 7 ∧
    bit (0x8000000000000005 : Word) 63 = true := by decide

/-- Witnesses of LinkTrainingAndHeartbeatsAct. -/
def mem0 : State := rdy.setF fPairEn 1
def mem1 : State := ({ mem0 with pair := { go := true } }).setF fPst 1
def linked : State := { mem1 with pair := { go := true, up := true } }
def hello1 : HelloMsg :=
  { pairId := 0, strapRole := true, role := true, state := .linking, epoch := 0, cause := 0, pend := 0, digestEq := true,
    fresh := true, basesOk := true }
theorem test_wit_link_go : mem0.up = true ∧ mem0.member = true ∧ mem0.pair.go = false ∧ bit (4 : Word) 2 = true ∧
    mem0.pst = .unpaired ∧ mem0.mayBar0 .fw = true := by decide
theorem test_wit_link_up : mem1.up = true ∧ mem1.member = true ∧ mem1.pair.go = true ∧ mem1.pair.up = false ∧
    mem1.f fRoleConfirm = mem1.f fStrapRole ∧ ({ hello1 with state := .resync } : HelloMsg).pairId.toNat = mem1.f fPairId ∧
    mem1.pst = .linking := by decide
theorem test_wit_hello : linked.up = true ∧ linked.pair.up = true ∧ hello1.pairId.toNat = linked.f fPairId ∧
    linked.pst = .linking ∧ hello1.state = .linking ∧ linked.pair.fresh = true ∧ hello1.fresh = true ∧
    hello1.strapRole ≠ (linked.f fStrapRole == 1) ∧
    ({ hello1 with strapRole := false } : HelloMsg).strapRole = (linked.f fStrapRole == 1) := by decide
theorem test_wit_beat : linked.tick % 256 = 0 ∧ linked.pair.offsetSet = false := by decide
theorem test_wit_beat_same : ({ linked with tick := 25, pair := { linked.pair with offsetSet := true } } : State).reg 0x3c0010 =
    BitVec.ofInt 64 (Int.ofNat 0 + 25 - Int.ofNat 25) := by decide
theorem test_wit_beat_other : ({ linked with tick := 25, pair := { linked.pair with offsetSet := true } } : State).reg 0x3c0010 ≠
    BitVec.ofInt 64 (Int.ofNat 1 + 25 - Int.ofNat 25) := by decide
def paired : State := { (linked.setF fPst 2) with tick := 1024 }
theorem test_wit_loss : paired.up = true ∧ paired.pair.up = true ∧ paired.pst = .paired ∧ paired.pair.lastBeat + 1024 ≤ paired.tick ∧
    (0 : BitVec 12).toNat = paired.pair.rxSeq ∧ paired.pair.nakSent = false := by decide

/-- Witnesses of TossAndRoleCommandsAct. -/
def tossing : State := { ((mem1.setF fPst 3).setF fEpoch 7) with tick := 1000000 }
theorem test_wit_toss : tossing.up = true ∧ tossing.pst = .tossing ∧ tossing.pair.lastToss + 100000 ≤ tossing.tick ∧
    (0 : BitVec 16).toNat = tossing.f fPairId ∧ (7 : BitVec 32).toNat = tossing.f fEpoch ∧ (0 : Word) = tossing.reg 0x10 := by decide
theorem test_wit_toss_home : tossing.pair.lossTick + 1000000 ≤ tossing.tick ∧ tossing.isAway = false ∧
    tossing.f fEpoch + 1 < 2 ^ 32 ∧ tossing.tbl = [] ∧ tossing.pair.up = false := by decide
theorem test_wit_toss_away : (tossing.setF fRole 1).isAway = true ∧ (tossing.setF fRole 1).pst = .tossing := by decide
theorem test_wit_bench : paired.ownerRuns (.mailbox 0) = true ∧ paired.member = true ∧ paired.pst = .paired ∧
    mem1.pst ≠ .paired ∧ mem1.ownerRuns (.mailbox 0) = true := by decide
theorem test_wit_join : mem1.pst = .linking ∧ mem1.pair.fresh = true ∧ mem1.pair.peer = none ∧ mem1.member = true := by decide
theorem test_wit_region : paired.isAway = false ∧ (0x10000000 : BitVec 64).toNat % 2 ^ 28 = 0 ∧ paired.regions = [] ∧
    paired.ldMaps (0x10000000 : BitVec 64).toNat ((0x10000000 : BitVec 64).toNat + (1 : BitVec 16).toNat * 2 ^ 28) = false := by decide

/-- Witnesses of MirroredChangeMessagesAct. -/
def away : State := paired.setF fRole 1
def joiner : State := (linked.setF fPst 6).setF fJoiner 1
def mir1 : MirMsg :=
  { table := 3, kind := .direct, handle := 5, victim := 0, seq := 1, home := 90, cells := 0, ctl := 0, res := 7, pfx := 0, len := 0,
    prof := 0, absent := false }
theorem test_wit_mir : away.up = true ∧ away.pair.up = true ∧ away.joining = false ∧ away.pst = .paired ∧ away.isAway = true := by decide
theorem test_wit_join_row : joiner.up = true ∧ joiner.pair.up = true ∧ joiner.joining = true ∧ mir1.kind = .direct ∧ joiner.mnt.relocs = [] := by
  decide
theorem test_wit_mir_due : ({ away with pair := { away.pair with mirIn := [(mir1, 130)] } } : State).up = true ∧ 130 ≤ away.tick := by decide
theorem test_wit_mir_ready : paired.isAway = false ∧
    ((paired.setTb 3 { lock := some { owner := 1, leaseUs := 100, endTick := 9999, prep := some 4 } }).tb 3).lock =
      some { owner := 1, leaseUs := 100, endTick := 9999, prep := some 4 } := by decide +kernel
theorem test_wit_mut_done : ({ paired with pair := { paired.pair with awaitDone := [(4, .cmdPath)] } } : State).pair.mirIn = [] ∧
    ({ paired with pair := { paired.pair with awaitDone := [(4, .cmdPath)] } } : State).up = true := by decide
theorem test_wit_fwd : paired.pair.fwdIn = [] ∧ paired.gate (hTable (descLine 0x16 3)) = .go ∧ hOp (descLine 0x16 3) = 0x16 := by decide +kernel

/-- Witnesses of MirroredMemoryMessagesAct. -/
def wait1 : MemWait := { seq := 4, dpa := 64, mask := 1, data := 0, fwd := false, source := some (3, 9) }
theorem test_wit_mem_ack : ({ paired with pair := { paired.pair with memWait := [wait1] } } : State).up = true ∧ wait1.seq = 4 ∧
    wait1.fwd = false := by decide
theorem test_wit_mem_wr : (paired.probePage ((0x40 : Dpa).toNat / 4096)).pageHeld ((0x40 : Dpa).toNat / 4096) = false ∧
    (paired.probePage ((0x40 : Dpa).toNat / 4096)).tier.hold = [] ∧
    ((paired.probePage ((0x40 : Dpa).toNat / 4096)).writePage (0x40 : Dpa).toNat 5 1 0 0).2 = .served ∧ paired.pair.memWait = [] := by decide +kernel
theorem test_wit_rdr : memReq (.memrd 3 0x40 .noUpdate 9) = some ⟨3, 9, false, 0, 0⟩ := by rfl
def copying : State := { paired with trn := { retrain := some ⟨.mailbox 0, 0, 0, true, [7], 0⟩ } }
theorem test_wit_page_block : copying.trn.retrain = some ⟨.mailbox 0, 0, 0, true, [(7 : BitVec 32).toNat], 0⟩ ∧
    (0 : BitVec 16) ||| (1#16 <<< (0 : Fin 16).val) ≠ BitVec.allOnes 16 := by decide

/-- Witnesses of TrainingAndCalibrationCommandsAct. -/
theorem test_wit_trn : bit (0x8000000000000000 : Word) 63 = true ∧ State.reset.trnMay 0 (fld (0x8000000000000000 : Word) 4 3) = true ∧
    State.reset.f (fTrnBusy 0) = 0 ∧ bit (State.reset.reg (chOff 0 0x1108)) 63 = false ∧ State.reset.mayBar0 .fw = true := by decide
def inUse : State := ((rdy.setF fMapValid 1).setF (fRstate 0 0) 1)
theorem test_wit_trn_refused : inUse.trnMay 0 0 = false ∧ inUse.up = true ∧ inUse.f fMapValid ≠ 0 ∧ inUse.f (fRstate 0 0) ≠ 4 := by decide
def running : State := { (State.reset.setF ⟨chOff 0 0x1100, 8, 2⟩ 3) with trn := { runs := [(0, some { rank := 0 })] } }
theorem test_wit_trn_done : SMap.get (fun _ => none) running.trn.runs 0 = some { rank := 0 } ∧ running.up = true := by decide +kernel
theorem test_wit_training : (State.reset.setF (fRstate 0 0) 4).f (fRstate 0 0) = 4 ∧ State.reset.f fMapValid = 0 := by decide
theorem test_wit_nudge : State.reset.f (fNudgePend 0 0) = 0 ∧
    (List.range 20).any (fun i => nudgeStep (fld (1 : Word) (2 * i) 2) != 0) = true ∧
    (State.reset.setF (fNudgePend 0 0) 1).f (fNudgePend 0 0) ≠ 0 := by decide
def booting : State :=
  { ((State.reset.setF fPhase 2).setF (fRdDqs 0 0 0) 5) with
    trn := { copyA := some { seq := 1, vals := (List.range 10).map (fun l => (offLane 0 0 l, 5)) } } }
def booted : State := (List.range 10).foldl (fun s l => s.setReg (offLane 0 0 l) 5) booting
theorem test_wit_restored : booted.f fPhase = 2 ∧ booted.f fMapValid = 0 ∧ booted.f (fRstate 0 0) = 0 ∧ booted.restored 0 0 = true := by
  decide +kernel

/-- Witnesses of RetrainingCommandsAct. -/
def inUse1 : State := rdy.setF (fRstate 0 1) 1
theorem test_wit_retrain : inUse1.ownerRuns (.mailbox 0) = true ∧ (0 : Byte).toNat < 12 ∧ (1 : Byte).toNat < 8 ∧
    inUse1.f (fRstate 0 1) = 1 ∧ inUse1.f (fChState 0) = 0 ∧ inUse1.rankBusy = false ∧ inUse1.dram.retire = none := by decide
theorem test_wit_partner_path : (inUse1.setF fPst 2).partnerOk 1 = true := by decide
theorem test_wit_evac_path : inUse1.partnerOk 1 = false := by decide
def retraining (st : Nat) : State :=
  { (rdy.setF (fRstate 0 1) st) with trn := { retrain := some { via := .mailbox 0, chan := 0, rank := 1, partner := true } } }
theorem test_wit_evacuated : (retraining 2).f (fRstate 0 1) = 2 ∧ (retraining 2).usedIn ((retraining 2).rankFrames 1) = [] := by decide
theorem test_wit_restored_copy : (retraining 5).f (fRstate 0 1) = 5 ∧ (retraining 5).up = true := by decide

/-- Witnesses of RefreshAndPowerCommandsAct. -/
def live : State := ((rdy.setF fMapValid 1).setF (fRstate 0 0) 1).setF (fPstate 0 0) 0
theorem test_wit_refresh : live.up = true ∧ live.rankLive 0 0 = true ∧ live.f (fPstate 0 0) < 2 ∧ (live.rk 0 0).due ≤ live.tick ∧
    live.tick < ((live.updRk 0 0 (fun r => { r with due := 1 })).rk 0 0).due ∧
    live.tick % 8000000 = 83333 * (8 * 0 + 0) % 8000000 := by decide
def asked : State := live.updRk 0 0 (fun r => { r with mr4 := true })
theorem test_wit_mr4 : (asked.rk 0 0).mr4 = true ∧ asked.rankLive 0 0 = true ∧ asked.f (fPstate 0 0) < 2 ∧
    decide (asked.f ⟨chOff 0 0x18, 8, 3⟩ ≤ (0 : BitVec 3).toNat) = (asked.f (fDouble 0 0) == 1) ∧
    asked.f ⟨chOff 0 0x18, 8, 3⟩ ≤ (7 : BitVec 3).toNat ∧ asked.f (fDouble 0 0) = 0 ∧ (live.rk 0 0).mr4 = false := by decide
def idle : State := { live with tick := 100000000 }
theorem test_wit_idle_rank : idle.f (fPstate 0 0) = 0 ∧ idle.idleFor 0 0 (idle.pdTime 0) = true ∧ 0 < idle.srTime 0 ∧
    idle.pdTime 0 < idle.srTime 0 ∧ idle.idleFor 0 0 (idle.srTime 0) = true := by decide
def asleep : State :=
  { (live.setF (fPstate 0 0) 2) with
    dram := { queue := [{ chan := 0, rank := 0, bank := 0, sub := 0, row := 0, dpa := 0, write := false, cls := 2, ld := 0, arrive := 0 }] } }
theorem test_wit_asleep : asleep.up = true ∧ asleep.f (fPstate 0 0) = 2 ∧ asleep.rankLive 0 0 = true ∧ asleep.rankQueued 0 0 = true ∧
    asleep.f (fNudgePend 0 0) = 0 := by decide

/-- Witnesses of DramReadMapAndRetireCommandsAct. -/
def read1 : DReq :=
  { chan := 0, rank := 0, bank := 0, sub := 0, row := 0, dpa := 0, write := false, cls := 2, ld := 0, arrive := 0, stage := 2 }
def reading : State := { live with dram := { queue := [read1] } }
theorem test_wit_read : reading.up = true ∧ reading.dram.queue.find? (fun r => r.chan == (0 : Fin 12).val && r.stage == 2) = some read1 ∧
    reading.eccOf (some read1.dpa) read1.poison .clean = some .clean ∧ reading.pins.fatal = false := by decide +kernel
theorem test_wit_read_mark : reading.eccOf (some read1.dpa) true .mark = some .mark := by decide
def scrubbing : State := (List.range 12).foldl (fun s c => s.setF (fRstate c 0) 1) (live.setF ⟨0x3e0080, 0, 8⟩ 1)
theorem test_wit_scrub : scrubbing.f ⟨0x3e0080, 0, 8⟩ ≠ 0 ∧ scrubbing.f fMapValid = 1 ∧
    scrubbing.f (fChState (scrubbing.rawChan (64 * scrubbing.ras.scrub)).1) = 0 ∧
    scrubbing.f (fRstate (scrubbing.rawChan (64 * scrubbing.ras.scrub)).1 (scrubbing.fieldsOf (scrubbing.rawChan (64 * scrubbing.ras.scrub)).1
      (256 * (scrubbing.rawChan (64 * scrubbing.ras.scrub)).2 + (64 * scrubbing.ras.scrub) % 256)).rank) = 1 ∧ scrubbing.f fRState = 0 := by decide +kernel
theorem test_wit_scrub_line : scrubbing.eccOf (scrubbing.dpaAt (64 * scrubbing.ras.scrub))
    (match scrubbing.dpaAt (64 * scrubbing.ras.scrub) with | some d => scrubbing.poisoned d | none => false) .clean = some .clean := by decide +kernel
theorem test_wit_map : rdy.f fMapValid = 0 ∧ bit (0 : Word) 63 = false ∧ live.f fMapValid ≠ 0 := by decide
theorem test_wit_qos : ((rdy.setF fScanMin (fld (0 : Word) 0 8)).setF fMaintMin (fld (0 : Word) 8 8)).qosS ≤
    ((rdy.setF fScanMin (fld (0 : Word) 0 8)).setF fMaintMin (fld (0 : Word) 8 8)).qosU := by decide
theorem test_wit_map_ok : bit (0x8000000000200600 : Word) 63 = true ∧ rdy.f fRState = 0 ∧
    (((rdy.setF fRawBase (fld (0x8000000000200600 : Word) 12 31)).setF fRankBits (fld (0x8000000000200600 : Word) 10 2)).setF fRowBits
      (fld (0x8000000000200600 : Word) 5 5)).mapOk = true := by decide
def mapped : State := ((rdy.setF fRawBase 0x700000).setF fRankBits 3).setF fRowBits 16
theorem test_wit_retire : mapped.ownerRuns (.mailbox 0) = true ∧ (3 : Byte).toNat < 12 ∧ mapped.f fRState = 0 ∧
    mapped.evacOk mapped.retireFrom (12 * mapped.chanBytes) = true := by decide
theorem test_wit_retire_free : (mapped.setF fRState 1).retireBusy = false ∧
    (mapped.setF fRState 1).f fRBound + 1 < (mapped.setF fRState 1).granules - (mapped.setF fRState 1).withdrawnK := by decide
theorem test_wit_retire_moving : (live.setF fRState 2).f fRState = 2 ∧ (live.setF fRState 1).f fRState = 1 := by decide

/-- Witnesses of DomainAndLdOwnerCommandsAct. -/
def owned : State := ((rdy.setKey 7 (some (1, 2))).setDword (domAddr 5) 0x8000000000000009).setLdMap 3 0x8000000000000005
theorem test_wit_domain : owned.ownerRuns (.fmApi true) = true ∧ (4 : BitVec 16).toNat < 4096 ∧ owned.domEnabled 4 = false ∧
    owned.domNamed 4 = false ∧ owned.domNamed 5 = true ∧ owned.domEnabled 5 = true := by decide +kernel
theorem test_wit_slot_loaded : owned.slotState 7 = 1 := by decide +kernel
theorem test_wit_ld_map : (31 : Byte).toNat < 32 ∧ owned.sharesAcross 31 5 = false ∧ (0x10000000 : BitVec 64).toNat % unit256 = 0 ∧
    (owned.ld 31).segs = [] ∧ (owned.ld 31).regions = [] ∧ owned.f fLcLock = 0 := by decide +kernel
theorem test_wit_ld_locked : (owned.setF fLcLock 1).ownerRuns (.fmApi true) = true ∧ (owned.setF fLcLock 1).f fLcLock = 1 := by
  decide +kernel
theorem test_wit_ctx_assign : (owned.cx 9).state = 0 ∧ owned.ldValid 3 = true ∧ owned.ldDomain 3 = (5 : BitVec 16).toNat ∧
    (9 : BitVec 16).toNat < 4096 ∧ (1 : Byte).toNat < 2 ∧ (7 : Byte).toNat < 8 := by decide +kernel
theorem test_wit_ctx_disable : ((owned.setCx 9 { state := 1 }).cx 9).state = 1 := by decide +kernel
theorem test_wit_owner_refused : owned.fwFree = true ∧ owned.ownerOk (.fmApi false) = false ∧ owned.up = true := by decide +kernel

/-- Witnesses of CaptureTierAndKeyOwnerCommandsAct. -/
def steward : State :=
  { (owned.setCx 9 { state := 1, assigned := true, domain := 5, steward := true, ldid := 3 }) with mbox := { holder := some 3 } }
theorem test_wit_steward : steward.up = true ∧ steward.fwFree = true ∧ (9 : BitVec 16).toNat < 4096 ∧
    steward.stewardOk (.mailbox 3) 9 = true ∧ (2 : Byte).toNat < (15 : Byte).toNat := by decide +kernel
def shelf : State :=
  (steward.updLd 3 (fun l => { l with segs := [{ off := 0, dpa := 0, len := unit256, kind := 0 }] })).setTb 254
    { state := 2, kind := 2, prefixes := [(0, 16, 0x8000000000000000)] }
theorem test_wit_pin : shelf.pinBad (.mailbox 3) 9 0 1 = none := by decide +kernel
def imaged : State := shelf.setTb 1 { state := 2, kind := 0, domain := 5 }
theorem test_wit_capture : (imaged.tb 1).state ≠ 0 ∧ (0 : BitVec 64).toNat % 64 = 0 ∧
    (List.range (((0 : BitVec 64).toNat % 4096 + (4096 : BitVec 64).toNat + 4095) / 4096)).all (fun i => imaged.pageOf (imaged.tb 1).domain
      ((0 : BitVec 64).toNat / 4096 + i)) = true ∧ (imaged.tableImage 1).length ≤ (4096 : BitVec 64).toNat := by decide +kernel
theorem test_wit_rotate : owned.domEnabled (5 : BitVec 16).toNat = true ∧ owned.tier.rot = none := by decide +kernel
theorem test_wit_rotated : ({ owned with tier := { rot := some { via := .mailbox 0, dom := 5, step := 4, pages := [], lines := [] } } } : State).up = true ∧
    (4 : Nat) ≤ ({ via := .mailbox 0, dom := 5, step := 4, pages := [], lines := [] } : Rot).step := by decide +kernel

/-- Witnesses of MailboxInformationCommandsAct. -/
theorem test_wit_mbox_runs : rdy.up = true ∧ rdy.ras.mpRunning = true ∧ (3 : Fin 5).val ≠ 4 := by decide +kernel
theorem test_wit_mbox_stopped : ({ rdy with ras := { rdy.ras with mpRunning := false } } : State).ras.mpRunning = false := by
  decide

/-- Witnesses of PoisonAndDynamicCapacityCommandsAct. -/
def offered : State := (rdy.setF (ldInj 3) 1).updLd 3 (fun l => { l with
  segs := [{ off := 0, dpa := 0, len := unit256, kind := 1 }], offers := [{ off := unit256, dpa := unit256, len := unit256, kind := 1 }],
  regions := [(2, 0, 4 * unit256)] })
theorem test_wit_poison : offered.up = true ∧ offered.ras.mpRunning = true ∧ offered.f (ldInj 3) = 1 ∧
    (offered.ld 3).dpaOf (64 : BitVec 64).toNat = some 64 ∧ (offered.ld 3).dpaOf (unit256 : BitVec 64).toNat = none ∧
    (offered.ld 3).poisonOvf = none ∧ rdy.f (ldInj 3) = 0 := by decide +kernel
theorem test_wit_poison_full : ((rdy.updLd 3 (fun l => { l with poisonOvf := some 0 })).ld 3).poisonOvf = some 0 := by decide +kernel
theorem test_wit_dc_response : [(0x10000000 : BitVec 64)].all (fun a => (offered.ld 3).offers.any (fun g => a.toNat == g.off)) = true ∧
    [(0 : BitVec 64)].all (fun a => (offered.ld 3).offers.any (fun g => a.toNat == g.off)) = false := by decide +kernel
theorem test_wit_dc_release : (offered.ld 3).segs.find? (fun x => x.off == (0 : BitVec 64).toNat) =
    some { off := 0, dpa := 0, len := unit256, kind := 1 } ∧ (offered.ld 3).segs.find? (fun x => x.off == (0 : BitVec 64).toNat && (x.kind == 1 || x.kind == 3)) =
    some { off := 0, dpa := 0, len := unit256, kind := 1 } := by decide +kernel
theorem test_wit_dc_uncovered : rdy.dirCovers { off := 0, dpa := 0, len := unit256, kind := 1 } = [] ∧
    offered.dirCovers { off := 0, dpa := 0, len := unit256, kind := 1 } = [] := by decide +kernel
theorem test_wit_dc_region : (0x40000000 : BitVec 64).toNat % unit256 = 0 ∧ (0x20000000 : BitVec 64).toNat % unit256 = 0 ∧
    runsMeet (0x40000000 : BitVec 64).toNat (0x20000000 : BitVec 64).toNat 0 (offered.ld 3).static = false ∧
    (∀ e ∈ (offered.ld 3).regions, e.1 = 5 ∨ runsMeet (0x40000000 : BitVec 64).toNat (0x20000000 : BitVec 64).toNat e.2.1 e.2.2 = false) ∧
    (∀ g ∈ (offered.ld 3).segs, g.kind = 2 → runsMeet (0x40000000 : BitVec 64).toNat (0x20000000 : BitVec 64).toNat g.off g.len = false) := by
  decide +kernel
theorem test_wit_dc_add_room : (0x10000000 : BitVec 64).toNat % unit256 = 0 ∧ (0x10000000 : BitVec 64).toNat / unit256 ≠ 0 ∧
    (offered.ld 3).regions.all (fun e => e.1 != 2) = false := by decide +kernel
theorem test_wit_dc_add_none : offered.offer 3 2 5 1 = none := by
  simp only [State.offer]
  rw [if_pos]
  decide +kernel

/-- Witnesses of FmApiCommandsAct. -/
def crowded : State := rdy.setF ⟨0x2f0100, 0, 8⟩ 255
theorem test_wit_fm_alloc : (offered.ld 4).static / unit256 = 0 ∧ (offered.ld 4).segs = [] ∧ (offered.ld 4).regions = [] ∧
    (offered.ld 3).static / unit256 ≤ (1 : BitVec 16).toNat ∧
    runsMeet ((offered.ld 3).static / unit256 * unit256) (((1 : BitVec 16).toNat - (offered.ld 3).static / unit256) * unit256) 0 unit256 = true := by
  decide +kernel
theorem test_wit_bind : rdy.f (ldBound 3) = 0 ∧ (rdy.f (fQMin 3) = 0 ∨ rdy.qosS + rdy.f (fQMin 3) ≤ rdy.qosU) ∧
    rdy.mbox.holder ≠ some 3 := by decide +kernel
theorem test_wit_bind_refused : (crowded.setF (fQMin 3) 9).up = true ∧ (crowded.setF (fQMin 3) 9).f (ldBound 3) = 0 ∧
    (crowded.setF (fQMin 3) 9).f (fQMin 3) ≠ 0 ∧
    (crowded.setF (fQMin 3) 9).qosU < (crowded.setF (fQMin 3) 9).qosS + (crowded.setF (fQMin 3) 9).f (fQMin 3) := by decide +kernel
theorem test_wit_unbind_holder : steward.mbox.holder = some 3 ∧ steward.mbox.arrived = none ∧ steward.ras.mpRunning = true := by
  decide +kernel
theorem test_wit_fm_qos : (rdy.setF (fQMin 3) (255 : Byte).toNat).qosS ≤ rdy.qosU ∧
    crowded.qosU < (crowded.setF (fQMin 3) (255 : Byte).toNat).qosS := by decide +kernel
theorem test_wit_fm_codes : fmSupported (0x5607 : BitVec 16).toNat = true ∧ fmSupported (0x5608 : BitVec 16).toNat = false := by decide
theorem test_wit_fm_owner : le [0x49, 0x41, 1, 0, 1, 0, 0, 0] 0 2 = 0x4149 ∧ le [0x49, 0x41, 1, 0, 1, 0, 0, 0] 2 1 = 1 ∧
    le [0x49, 0x41, 1, 0, 1, 0, 0, 0] 3 1 = 0 ∧ le [0x49, 0x41, 1, 0, 1, 0, 0, 0] 6 2 = 0 ∧
    le [0x49, 0x41, 1, 0, 1, 0, 1, 4] 6 2 = 1025 ∧ le [0x49, 0x41, 1, 0, 1, 0, 1, 0] 6 2 = 1 ∧ rdy.mbox.fm.length < 16 := by
  decide +kernel

/-- Witnesses of MemoryRequestsReachTheirLine: LD 3 has 256 MiB at offset 0, mapped to DPA 0, with an HDM-H decoder at
HPA 2^40 and an HDM-DB decoder over an LD offset in the second segment, and a window segment at DPA 2^33. -/
def served : State :=
  ((((owned.updLd 3 (fun l => { l with
    segs := [{ off := 0, dpa := 0, len := unit256, kind := 0 }, { off := unit256, dpa := unit256, len := unit256, kind := 0 },
             { off := 2 * unit256, dpa := 2 ^ 33 + 3 * unit256, len := unit256, kind := 2 }],
    decoders := [(0, { set := some ⟨2 ^ 40, unit256, 1, 8, 0, false, false⟩, committed := true }),
                 (1, { set := some ⟨2 ^ 41, unit256, 1, 8, unit256, true, false⟩, committed := true }),
                 (2, { set := some ⟨2 ^ 42, unit256, 1, 8, 2 * unit256, false, false⟩, committed := true })] })).setTb 254
    { state := 2, prefixes := [(0, 20, BitVec.ofNat 64 (1 * 2 ^ 62)), (0x1000, 20, BitVec.ofNat 64 (2 * 2 ^ 62))] }).setReg 0x0c1000
      (BitVec.ofNat 64 (2 ^ 33 + 1))))
theorem test_wit_reaches : served.reaches 3 (2 ^ 40 + 0x1040) 0x1040 false ∧ served.inWindow 0x1040 = false ∧
    served.up = true ∧ served.mirRegion 0x1040 = none := by
  refine ⟨⟨by decide +kernel, by decide +kernel, 0x1040, by decide +kernel, by decide +kernel⟩, by decide +kernel, by decide +kernel, by decide +kernel⟩
theorem test_wit_reaches_db : served.reaches 3 (2 ^ 41 + 0x40) (unit256 + 0x40) true ∧ served.inWindow (unit256 + 0x40) = false ∧
    served.mirRegion (unit256 + 0x40) = none := by
  refine ⟨⟨by decide +kernel, by decide +kernel, unit256 + 0x40, by decide +kernel, by decide +kernel⟩, by decide +kernel, by decide +kernel⟩
theorem test_wit_reaches_window : served.reaches 3 (2 ^ 42 + 0x1000) (2 ^ 33 + 3 * unit256 + 0x1000) false ∧
    served.inWindow (2 ^ 33 + 3 * unit256 + 0x1000) = true := by
  refine ⟨⟨by decide +kernel, by decide +kernel, 2 * unit256 + 0x1000, by decide +kernel, by decide +kernel⟩, by decide +kernel⟩
theorem test_wit_uniform : served.region (0x1040 / 4096) = some (1, 1) ∧ served.quiet = true ∧
    served.readWaits 0x1040 (.memwrptl 3 (2 ^ 40 + 0x1040) .noUpdate 0 1 7) = false ∧ served.foreign 0x1040 = none ∧ served.trieSlots < 8 := by
  decide +kernel
def paged : State :=
  { (served.setTb 254 { state := 2, prefixes := [(0, 20, BitVec.ofNat 64 (2 * 2 ^ 62))] }) with tier := { cache := [(1, false)] } }
theorem test_wit_unwritten : paged.reaches 3 (2 ^ 40 + 0x1040) 0x1040 false ∧ paged.region (0x1040 / 4096) = some (2, 1) ∧
    paged.quiet = true ∧ paged.mirRegion 0x1040 = none ∧ paged.cached (0x1040 / 4096) = true ∧ paged.page (0x1040 / 4096) = {} ∧
    paged.inWindow 0x1040 = false ∧ paged.up = true ∧
    paged.readWaits 0x1040 (.memrd 3 (2 ^ 40 + 0x1040) .noUpdate 7) = false ∧ paged.foreign 0x1040 = none := by
  refine ⟨⟨by decide +kernel, by decide +kernel, 0x1040, by decide +kernel, by decide +kernel⟩, by decide +kernel, by decide +kernel,
    by decide +kernel, by decide +kernel, by decide +kernel, by decide +kernel, by decide +kernel, by decide +kernel, by decide +kernel⟩

/-- Witnesses of UnmappedRequestsNeverReachMemory: the decoder reaches an LD offset beyond the segments. -/
def unbacked : State := served.updLd 3 (fun l => { l with segs := [] })
theorem test_wit_unmapped : unbacked.up = true ∧ unbacked.portTakes 0 = true ∧ unbacked.ldValid 3 = true ∧
    (unbacked.ld 3).decode (2 ^ 40 + 0x1040) = some (0x1040, false) ∧ (unbacked.ld 3).dpaOf 0x1040 = none ∧
    flag unbacked.dsram.bad (ldMapAddr 3 (unbacked.dsram.ldSeq % 32)) = false := by decide +kernel

/-- Witness of UnsupportedRequestsAreCounted. -/
theorem test_wit_unsupported : served.up = true ∧ served.portTakes ((3 : LdId).val / 16) = true := by decide +kernel

/-- Witnesses of DecodersComputeTheOffsetOfR345, and the worked example of R348. -/
def dec348 : DecoderSet := ⟨BitVec.ofNat 64 0x4000000000, BitVec.ofNat 64 (3 * unit256), 3, 12, BitVec.ofNat 64 unit256, false, false⟩
theorem test_decode_r348 : decLdOffset dec348 0x4000013A40 = some 0x10006A40 := by decide +kernel
def ld348 : Ld :=
  { segs := [{ off := unit256, dpa := 0x00530000000, len := unit256, kind := 0 }], decoders := [(2, { set := some dec348, committed := true })] }
theorem test_decode_r348_dpa : ld348.decode 0x4000013A40 = some (0x10006A40, false) ∧ ld348.dpaOf 0x10006A40 = some 0x00530006A40 := by
  decide +kernel
theorem test_wit_decoder : dec348.iw.val = 3 * 2 ^ 0 ∧ 0x13A40 < dec348.size.toNat ∧ (ld348.decoder 2).committed = true ∧
    (ld348.decoder 2).set = some dec348 ∧ (∀ j < 2, (ld348.decoder j).committed = false) := by decide +kernel
theorem test_wit_decoder_pow : (served.ld 3).decode (2 ^ 40) = some (0, false) ∧ (0 : Nat) < unit256 ∧ (2 ^ 0 : Nat) = 1 := by decide +kernel
theorem test_wit_decoder_seg : (∀ q ∈ ld348.segs, q ≠ { off := unit256, dpa := 0x00530000000, len := unit256, kind := 0 } →
    (0x10006A40 < q.off ∨ q.off + q.len ≤ 0x10006A40)) := by decide

/-- Witnesses of CoherenceMessagesAct. -/
def snoopReq : DirReq :=
  { id := 0, ld := 4, line := 64, what := .remove 7, arrive := 0, phase := 5, change := .remove 7, snoops := [(3, 64, 0, .inv)] }
def snooped : State := { served with dir := { reqs := [snoopReq] } }
theorem test_wit_snooped : snooped.up = true ∧ snooped.portTakes 0 = true ∧
    snooped.dir.reqs.any (fun r => r.snoops.any (fun n => n.1 == 3 && n.2.1 / 64 == (64 : Dpa).toNat / 64)) = true ∧
    served.dir.reqs.any (fun r => r.snoops.any (fun n => n.1 == 3 && n.2.1 / 64 == (64 : Dpa).toNat / 64)) = false := by decide +kernel

/-- Witnesses of PortCommandsAct. -/
def trained : State := served.setF (fRate 0) 3
def keyed : State := trained.updPort 0 (fun q => { q with cxlKey := some 1 })
theorem test_wit_link_down : served.up = true ∧ served.f (fRate 0) = 0 ∧ (4 : Fin 5).val ≠ 0 ∧ trained.f (fRate 0) ≠ 0 ∧
    trained.up = true := by decide +kernel
theorem test_wit_decoder_free : ((served.ld 3).decoder 7).committed = false ∧ decSupported dec348 = true ∧ dec348.bi = false := by
  decide +kernel
theorem test_wit_decoder_bi : decSupported { dec348 with iw := 5 } = false ∧ (rdy.tb 255).state ≠ 2 := by decide +kernel
def pinned : State := rdy.updLd 3 (fun l => { l with decoders := [(2, { set := some { dec348 with lock := true }, committed := true })] })
theorem test_wit_decoder_locked : ((pinned.ld 3).decoder 2).committed = true ∧
    ((pinned.ld 3).decoder 2).set = some { dec348 with lock := true } := by decide +kernel
theorem test_wit_ide : keyed.up = true ∧ (keyed.port 0).cxlKey.isSome = true ∧ (served.port 0).cxlKey = none ∧
    (served.port 0).failed = false ∧ Session.owner ≠ Session.none := by decide +kernel

/-- Witnesses of DirectoryResolutionFollowsItsTable: line rows SHARED by LDs 3 and 5, owned by LD 31, in state NONE, and a
coarse row of LD 31. -/
theorem test_wit_dir_shared : dirCoarse (lineRow 64 1 40 3).res = false ∧ dirState (lineRow 64 1 40 3).res = 1 ∧
    (dirSharers (lineRow 64 1 40 3).res).testBit 5 = true ∧ (dirSharers (lineRow 64 1 40 3).res).testBit 0 = false := by decide +kernel
theorem test_wit_dir_owned : dirCoarse (lineRow 64 2 (2 ^ 31) 31).res = false ∧ dirState (lineRow 64 2 (2 ^ 31) 31).res = 2 ∧
    (dirSharers (lineRow 64 2 (2 ^ 31) 31).res).testBit 31 = true ∧ (dirSharers (lineRow 64 2 (2 ^ 31) 31).res).testBit 30 = false ∧
    (sharersOf (dirSharers (lineRow 64 2 (2 ^ 31) 31).res)).head? = some 31 := by decide +kernel
theorem test_wit_dir_none : dirCoarse (lineRow 64 0 0 0).res = false ∧ dirState (lineRow 64 0 0 0).res = 0 := by decide +kernel
theorem test_wit_dir_coarse : dirCoarse (coarseRow 4096 31 false).res = true ∧
    (dirSharers (coarseRow 4096 31 false).res).testBit 31 = true ∧ (dirSharers (coarseRow 4096 31 false).res).testBit 0 = false ∧
    (sharersOf (dirSharers (coarseRow 4096 31 false).res)).head? = some 31 := by decide +kernel

/-- Witness of ClaimsNeverMeet: one claim held, and a request for the same line and one for another line waiting. -/
def dreq (id line phase : Nat) : DirReq :=
  { id := id, ld := 3, line := line, what := .mem 1 (.memrd 3 0 .shared 7), arrive := 0, phase := phase }
def dirBusy : State := { rdy with dir := { reqs := [dreq 1 64 1, dreq 2 64 0, dreq 3 128 0] } }
theorem test_wit_claims : (dirBusy.dir.reqs.map (fun r => r.id)).Nodup ∧
    dirBusy.dir.reqs.Pairwise (fun a b => a.claims = true → b.claims = true → a.meets b = false) ∧
    ∃ t, exec .dirRequest dirBusy = .next t := ⟨by decide, by decide, ⟨_, rfl⟩⟩
theorem test_wit_claims_full : 256 ≤ ((List.replicate 256 (dreq 0 64 1)).filter DirReq.claims).length := by decide +kernel

/-- Witnesses of DirectoryCommandsAct. -/
theorem test_wit_dir_next : rdy.up = true ∧ ({ rdy with dir := { reqs := [dreq 2 64 0] } } : State).dir.reqs.filter DirReq.claims = [] ∧
    nextClaim [] [dreq 2 64 0] = some (dreq 2 64 0) ∧ nextClaim [] [dreq 1 64 1, dreq 2 64 0] = none := by decide +kernel
def dirSeen (k : Nat) (op : Instr) (phase : Nat) : State :=
  { (rdy.setF fCoarse 0) with dir := { reqs := [{ dreq 2 64 phase with what := .mem k op }] }, inbox := [(.dir 2, { status := St.noMatch, tick := 0, table := 255 })] }
theorem test_wit_dir_found : (dirSeen 1 (.memrd 3 0 .shared 7) 1).onlyReq { dreq 2 64 1 with what := .mem 1 (.memrd 3 0 .shared 7) } 64 ∧
    (dirSeen 0 (.memrd 3 0 .shared 7) 1).onlyReq { dreq 2 64 1 with what := .mem 0 (.memrd 3 0 .shared 7) } 64 ∧
    (rdy.setF fCoarse 0).f fCoarse = 0 := by
  refine ⟨⟨by simp [dirSeen], by decide, by simp [dirSeen]⟩, ⟨by simp [dirSeen], by decide, by simp [dirSeen]⟩, by decide +kernel⟩
theorem test_wit_dir_return : (dirSeen 2 (.meminv 3 0 .shared 7) 6).onlyReq { dreq 2 64 6 with what := .mem 2 (.meminv 3 0 .shared 7) } 64 ∧
    (dirSeen 0 (.memrd 3 0 .shared 7) 6).onlyReq { dreq 2 64 6 with what := .mem 0 (.memrd 3 0 .shared 7) } 64 := by
  refine ⟨⟨by simp [dirSeen], by decide, by simp [dirSeen]⟩, ⟨by simp [dirSeen], by decide, by simp [dirSeen]⟩⟩
def dirDone1 : DirReq := { dreq 2 64 5 with commit := some 0, queued := true }
theorem test_wit_dir_end : ({ rdy with dir := { reqs := [dirDone1] } } : State).onlyReq dirDone1 64 ∧ dirDone1.phase = 5 ∧
    dirDone1.commit = some 0 ∧ dirDone1.queued = true ∧ dirDone1.move = none ∧ dirDone1.split = false := by
  refine ⟨⟨by simp, by decide, by simp⟩, by decide, by decide, by decide, by decide, by decide⟩
def agedOut : State := { rdy with dir := { aged := [9] } }
theorem test_wit_dir_aged : agedOut.up = true ∧ agedOut.dir.aged.contains (9 : BitVec 22).toNat = true ∧ agedOut.liveRow 255 9 = none ∧
    rdy.dir.aged.contains (9 : BitVec 22).toNat = false := by decide +kernel
def late : State := { snooped with tick := 500 * max 10 (snooped.f fBiTimeout) }
theorem test_wit_bi_late : (3, (64 : Dpa).toNat, 0, BiKind.inv) ∈ snoopReq.snoops ∧ snoopReq ∈ late.dir.reqs ∧
    0 + 500 * max 10 (late.f fBiTimeout) ≤ late.tick ∧ late.up = true := by
  refine ⟨by decide, by decide +kernel, by decide +kernel, by decide +kernel⟩
def missing : State := { paged with tier := { miss := [(0x1040, .memrd 3 0 .noUpdate 7)] } }
theorem test_wit_refill : missing.up = true ∧ missing.region (1 : BitVec 32).toNat = some (2, 1) ∧
    missing.tier.miss.filter (fun x => x.1 / 4096 == (1 : BitVec 32).toNat) ≠ [] ∧
    missing.dram.queue.any (fun r => !r.write && !r.eng && r.dpa == 2 ^ 44 + mapLine 1 && decide (r.stage < 2)) = false := by decide +kernel

/-- Witnesses of TierEngineCommandsAct. -/
def promoting : State := { paged with tier := { promos := [⟨1, some 0, 40⟩], pages := [(1, { st := 3, frame := 9, heat := 5 })] } }
theorem test_wit_promo : promoting.up = true ∧ promoting.tier.promos.filter (fun x => x.page == (1 : BitVec 32).toNat) = [⟨1, some 0, 40⟩] ∧
    (∀ e ∈ promoting.tier.hold, e.1 / 4096 ≠ (1 : BitVec 32).toNat) ∧
    (∀ i < 64, promoting.foreign (4096 * (1 : BitVec 32).toNat + 64 * i) = none) ∧
    (∀ m ∈ promoting.tier.promos, m.page = (2 : BitVec 32).toNat → m.start = none) := by decide +kernel
def swept : State := { paged with tier := { pages := [(1, { st := 3, frame := 9, heat := 5 }), (2, { st := 1, frame := 40, heat := 15, pin := true })], nextSweep := 0 } }
theorem test_wit_sweep : swept.up = true ∧ swept.tier.sweepAt = none ∧ swept.tier.nextSweep ≤ swept.tick ∧ swept.migFree = true ∧
    (swept.tier.pages.map (fun e => e.1)).Nodup ∧ swept.region 2 = some (2, 2) ∧
    ({ swept with tier := { swept.tier with nextSweep := 1 } } : State).tier.nextSweep = 1 ∧ swept.tick = 0 := by decide +kernel
theorem test_wit_level : (swept.setF fLevel 3).up = true ∧ (swept.setF fLevel 3).f fLevel = 3 ∧ swept.f fLevel = 0 := by decide +kernel
def splits : State := { (swept.setF fLevel 1) with tier := { swept.tier with
  frames := [(2, { use := 4, used := 2 }), (3, { use := 4, used := 1 })] } }
theorem test_wit_compact : splits.up = true ∧ splits.f fLevel ≠ 0 ∧ (splits.page (1 : BitVec 32).toNat).st = 3 ∧ splits.migFree = true ∧
    splits.tier.noRetry.contains (1 : BitVec 32).toNat = false ∧ splits.pageHeld (1 : BitVec 32).toNat = false ∧
    2 * ones (splits.frame ((splits.page (1 : BitVec 32).toNat).frame / 4)).used ≤ (splits.page (1 : BitVec 32).toNat).cls ∧
    (splits.takeSplit (splits.page 1).cls ((splits.page 1).frame / 4)).map (fun x => x.1) = some 13 := by decide +kernel
def resort : State := { swept with tier := { swept.tier with lrLines := [(128, true)] } }
theorem test_wit_lr_drain : resort.up = true ∧ resort.f fLevel ≠ 3 ∧ resort.freeSlot.isSome = true ∧
    (resort.tier.lrLines.map (fun e => e.1 / 64)).find? (fun q => (resort.page q).st != 4 && !resort.pageHeld q) = some 2 ∧
    (resort.page 2).st = 1 := by decide +kernel
def rot2 : Rot := { via := .mailbox 0, dom := 5, step := 2, pages := [1, 2, 7], lines := [(0, 64)] }
def rotating : State := { swept with tier := { swept.tier with rot := some rot2, zeroPos := 8 } }
theorem test_wit_rot_copy : rotating.up = true ∧ rotating.tier.rot = some rot2 ∧ rot2.pages.contains (7 : BitVec 32).toNat = true ∧
    rotating.f fLevel < 2 ∧ rotating.migFree = true ∧ rotating.pageHeld (7 : BitVec 32).toNat = false ∧ (rotating.page 7).st = 0 ∧
    (rotating.page 2).st = 1 ∧ (rotating.page 2).newkey = false := by decide +kernel
theorem test_wit_rot_line : ({ rot2 with step := 3 } : Rot).lines = (0, 64) :: [] ∧ (0 : Nat) + 1 < 64 ∧ rotating.foreign (64 * 0) = none := by
  decide +kernel
def switching : State := { swept with tick := 9, tier := { swept.tier with slots := [(255, some ⟨1, { st := 3, frame := 9 }, { st := 1, frame := 40 }, 1, 8⟩)] } }
theorem test_wit_switch : switching.up = true ∧
    SMap.get (fun _ => none) switching.tier.slots (255 : TableId).toNat = some ⟨1, { st := 3, frame := 9 }, { st := 1, frame := 40 }, 1, 8⟩ ∧
    8 < switching.tick ∧ (∀ i < 64, switching.foreign (4096 * 1 + 64 * i) = none) := by decide +kernel
theorem test_wit_zero : ({ swept with tier := { swept.tier with zeroQ := [(9, 0, 1)] } } : State).tier.zeroQ = (9, 0, 1) :: [] ∧
    swept.tier.zeroWait = [] := by decide
theorem test_wit_zero_pass : ({ swept with tier := { swept.tier with zeroing := true } } : State).tier.zeroQ = [] ∧
    swept.tier.zeroPos < swept.nFrames ∧ swept.tier.backs = [] := by decide +kernel
def zwait : State := { swept with tier := { swept.tier with zeroWait := [(0x1040, .memwr 3 0 .noUpdate 0 7)] } }
theorem test_wit_on_demand : zwait.up = true ∧ zwait.tier.zeroWait ≠ [] ∧ zwait.zeroedFrame = none ∧ zwait.unzeroedFrame = some 0 := by
  decide +kernel

/-- Witnesses of TrieAndDirectCommandsAct: table 254 with two prefixes, of which the longer covers the key. -/
def look : TOp := { table := 254, act := .lookup 0x1234 false false false, origin := .req 0 0 }
def tbl254 : Tbl := { state := 2, kind := 2, count := 65536, profile := BitVec.ofNat 512 (32 * 2 ^ 448 + 3 * 2 ^ 456),
                      prefixes := [(0, 0, 7), (0x1000, 20, 9)] }
def trieRun : State := { (rdy.setTb 254 tbl254) with trie := { waiting := [look] } }
theorem test_wit_trie_look : trieRun.up = true ∧ trieRun.pins.fatal = false ∧ trieRun.nextTrie = some look ∧
    (0x1000, 20, 9) ∈ (trieRun.tb 254).prefixes ∧
    pfxCovers (kbOf (trieRun.tb 254).profile) 0x1000 20 ((0x1234 : Key).toNat % 2 ^ kbOf (trieRun.tb 254).profile) = true ∧
    (∀ q ∈ (trieRun.tb 254).prefixes, q ≠ (0x1000, 20, 9) → q.2.1 < 20) := by decide +kernel
theorem test_wit_trie_none : ({ rdy with trie := { waiting := [look] } } : State).nextTrie = some look ∧
    (rdy.tb 254).prefixes = [] ∧ rdy.nextTrie = none ∧ rdy.trie.builds = [] := by decide +kernel
def delivering : State := { rdy with tick := 11, trie := { flights := [⟨look, 0, { status := 0 }⟩] } }
theorem test_wit_trie_deliver : delivering.up = true ∧ delivering.trie.flights.head? = some ⟨look, 0, { status := 0 }⟩ ∧
    0 + 11 ≤ delivering.tick := by decide +kernel
def mutate (u : Bool) : TOp := { table := 254, act := .insert 0x2000 20 5 u, origin := .req 0 0 }
def mutating (u : Bool) : State := { (rdy.setTb 254 tbl254) with trie := { muts := [mutate u] } }
theorem test_wit_trie_take_refused : (mutating true).trie.muts.find? (fun o => o.table == (254 : TableId).val) = some (mutate true) ∧
    (mutating true).triePlan (mutate true) = .inl St.noMatch ∧ (mutating true).up = true ∧
    SMap.get (fun _ => none) (mutating true).trie.builds 254 = none := by decide +kernel
theorem test_wit_trie_take : (mutating false).trie.muts.find? (fun o => o.table == (254 : TableId).val) = some (mutate false) ∧
    (mutating false).triePlan (mutate false) = .inr [(0, 0, 7), (0x1000, 20, 9), (0x2000, 20, 5)] ∧
    (mutating false).isMirror 254 = false ∧ (∀ j < 8, (buildSlots (kbOf ((mutating false).tb 254).gov) (planOf ((mutating false).tb 254).gov)
      (mutate false) ((mutating false).tb 254).prefixes [(0, 0, 7), (0x1000, 20, 9), (0x2000, 20, 5)]).getD j 0 ≤
        (mutating false).stageFree j) := by decide +kernel
def built1 : TBuild := { op := mutate false, swap := 3, prefixes := [(0x2000, 20, 5)], need := [], leaves := 1, freed := [], freedLeaves := 0 }
def swapping : State := { (rdy.setTb 254 tbl254) with tick := 3, trie := { builds := [(254, some built1)] } }
theorem test_wit_trie_swap : swapping.up = true ∧ SMap.get (fun _ => none) swapping.trie.builds (254 : TableId).val = some built1 ∧
    built1.swap ≤ swapping.tick ∧ rdy.tick < built1.swap := by decide +kernel
def dop (a : DAct) : DOp := { table := 9, act := a, origin := .req 0 0 }
def direct (a : DAct) : State :=
  { (rdy.setTb 9 { state := 2, kind := 1, count := 3 }) with dsram := { waiting := [dop a] } }
theorem test_wit_direct_write : (direct (.write 2 5)).nextDirect (2 : Fin 32).val = some (dop (.write 2 5)) ∧
    2 < ((direct (.write 2 5)).tb 9).count ∧ (direct (.write 3 5)).nextDirect (3 : Fin 32).val = some (dop (.write 3 5)) ∧
    ((direct (.write 3 5)).tb 9).count ≤ 3 ∧ (direct (.write 3 5)).pins.fatal = false ∧ (direct (.write 3 5)).up = true ∧
    rdy.nextDirect 0 = none := by decide +kernel
theorem test_wit_direct_look : (direct (.lookup 0 false false false)).nextDirect (0 : Fin 32).val = some (dop (.lookup 0 false false false)) ∧
    (direct (.lookup 0 false false false)).dIndex (dop (.lookup 0 false false false)) < ((direct (.lookup 0 false false false)).tb 9).count ∧
    flag (direct (.lookup 0 false false false)).dsram.bad ((direct (.lookup 0 false false false)).dAddr (dop (.lookup 0 false false false))) = false := by
  decide +kernel
def directDue : State := { rdy with tick := 3, dsram := { flights := [(dop (.readIdx 0), 0, { status := 0 })] } }
theorem test_wit_direct_deliver : directDue.up = true ∧ directDue.dsram.flights.head? = some (dop (.readIdx 0), 0, { status := 0 }) ∧
    0 + 3 ≤ directDue.tick := by decide +kernel

/-- Witnesses of EntryDescriptorsAct: context 9 with one dispatched descriptor on table 7, of kind 3 with the live handle 4 at
row 0, or of kind 1 or 2. -/
def req16 (op flags : Nat) (body : Line) : Req :=
  { n := 0, slots := 2, accept := 0, opcode := op, table := 7, flags := flags, tag := 0, phase := 1, slot1 := body }
def hand1 (kind : Nat) : Tbl := { state := 2, kind := kind, domain := 5, blocks := 1, maxBlocks := 1, count := 3000,
                                   profile := BitVec.ofNat 512 (if kind = 2 then 32 * 2 ^ 448 + 3 * 2 ^ 456 else 0) }
def inHand (kind op flags : Nat) (body : Line) : State :=
  ((((rdy.setTb 7 (hand1 kind)).setCx 9 { state := 1, steward := true, domain := 5, reqs := [req16 op flags body] }).setArow 0
    { row := { ctl := putFld (putFld (putFld 0 46 1 1) 0 22 4) 38 8 7 } }).setHrow 7 4 (some 0))
theorem test_hand (kind op flags : Nat) (body : Line) (h : (inHand kind op flags body).isMirror 7 = false ∧
    (inHand kind op flags body).isCascade 7 = false ∧ (inHand kind op flags body).up = true ∧
    (inHand kind op flags body).pins.fatal = false ∧ (inHand kind op flags body).ready 9 0 op = some (req16 op flags body) ∧
    ((inHand kind op flags body).tb 7).state ≠ 4) :
    (inHand kind op flags body).atHand 9 0 op (req16 op flags body) := ⟨h.2.2.1, h.2.2.2.1, h.2.2.2.2.1, h.1, h.2.1, h.2.2.2.2.2⟩
theorem test_wit_hand_insert : (inHand 3 0x10 0 0).atHand 9 0 0x10 (req16 0x10 0 0) := test_hand _ _ _ _ (by decide +kernel)
theorem test_wit_hand_update : (inHand 3 0x11 0 0).atHand 9 0 0x11 (req16 0x11 0 0) := test_hand _ _ _ _ (by decide +kernel)
theorem test_wit_hand_delete : (inHand 3 0x12 0 (4 <<< 128)).atHand 9 0 0x12 (req16 0x12 0 (4 <<< 128)) := test_hand _ _ _ _ (by decide +kernel)
theorem test_wit_hand_read : (inHand 3 0x13 0 (4 <<< 128)).atHand 9 0 0x13 (req16 0x13 0 (4 <<< 128)) := test_hand _ _ _ _ (by decide +kernel)
theorem test_wit_hand_key : (inHand 3 0x14 0 0).atHand 9 0 0x14 (req16 0x14 0 0) := test_hand _ _ _ _ (by decide +kernel)
theorem test_wit_hand_learn : (inHand 4 0x15 0 0).atHand 9 0 0x15 (req16 0x15 0 0) := test_hand _ _ _ _ (by decide +kernel)
theorem test_wit_hand_trie : (inHand 2 0x10 0 0).atHand 9 0 0x10 (req16 0x10 0 0) ∧ (inHand 2 0x12 0 0).atHand 9 0 0x12 (req16 0x12 0 0) :=
  ⟨test_hand _ _ _ _ (by decide +kernel), test_hand _ _ _ _ (by decide +kernel)⟩
theorem test_wit_hand_direct : (inHand 1 0x11 0 0).atHand 9 0 0x11 (req16 0x11 0 0) ∧ (inHand 1 0x12 0 0).atHand 9 0 0x12 (req16 0x12 0 0) ∧
    (inHand 1 0x13 0 0).atHand 9 0 0x13 (req16 0x13 0 0) :=
  ⟨test_hand _ _ _ _ (by decide +kernel), test_hand _ _ _ _ (by decide +kernel), test_hand _ _ _ _ (by decide +kernel)⟩
theorem test_wit_entry_table : isArray ((inHand 3 0x10 0 0).tb 7).kind = true ∧ ((inHand 3 0x10 0 0).tb 7).lock = none ∧
    ((inHand 3 0x11 0 0).tb 7).mig = 0 ∧ ((inHand 2 0x10 0 0).tb 7).kind = 2 ∧ ((inHand 1 0x11 0 0).tb 7).kind = 1 ∧
    (req16 0x10 0 0).given = none := by decide +kernel
def wild (op : Nat) : Req :=
  { req16 op 0 (BitVec.ofNat 512 (2 ^ 384 - 1) <<< 128) with slot2 := (BitVec.ofNat 512 (2 ^ 256 - 1) <<< 64) ||| (BitVec.ofNat 512 4 <<< 448) }
def inHandW (op : Nat) : State := (inHand 3 op 0 0).setCx 9 { state := 1, steward := true, domain := 5, reqs := [wild op] }
theorem test_wit_entry_cells : (inHandW 0x10).ready 9 0 0x10 = some (wild 0x10) ∧ (wild 0x10).given = none ∧
    cellsOk (wild 0x10).image ((inHandW 0x10).tb 7).profile = true := by decide +kernel
theorem test_wit_entry_rows : (inHand 3 0x12 0 (4 <<< 128)).liveRow 7 (req16 0x12 0 (4 <<< 128)).handle1 = some 0 ∧
    (inHand 3 0x12 0 (4 <<< 128)).heldH 7 (req16 0x12 0 (4 <<< 128)).handle1 = false ∧
    (inHand 3 0x12 0 0).liveRow 7 (req16 0x12 0 0).handle1 = none ∧ (inHand 3 0x11 0 0).liveRow 7 (req16 0x11 0 0).handle2 = none ∧
    (inHand 3 0x11 0 0).heldH 7 (req16 0x11 0 0).handle2 = false := by decide +kernel
theorem test_wit_entry_update : (inHandW 0x11).ready 9 0 0x11 = some (wild 0x11) ∧ (inHandW 0x11).liveRow 7 (wild 0x11).handle2 = some 0 ∧
    (inHandW 0x11).heldH 7 (wild 0x11).handle2 = false ∧ cellsOk (wild 0x11).image ((inHandW 0x11).tb 7).profile = true := by decide +kernel
theorem test_wit_entry_gone : ((inHandW 0x11).setHrow 7 4 none).liveRow 7 (wild 0x11).handle2 = none ∧
    ((inHandW 0x11).setHrow 7 4 none).ready 9 0 0x11 = some (wild 0x11) := by decide +kernel
theorem test_wit_entry_held : ({ (inHandW 0x11) with mnt := { (inHandW 0x11).mnt with placeQ :=
    [{ origin := .tm, table := 7, row := {}, given := some 4, at_ := 0 }] } } : State).heldH 7 4 = true := by decide +kernel
theorem test_wit_entry_locked : ((inHand 3 0x10 0 0).updTb 7 (fun r => { r with lock := some { owner := 8, leaseUs := 1, endTick := 500 } })).lockRefuses
    7 9 = true := by decide +kernel
theorem test_wit_entry_prefix : prefixOk (Prof.keyBits ((inHand 2 0x10 0 0).tb 7).profile) (req16 0x10 0 0).pfx (req16 0x10 0 0).len = true := by
  decide +kernel

/-- Witnesses of TableDescriptorsAct. -/
def inHandT (st kind op flags : Nat) (body : Line) : State := (inHand kind op flags body).updTb 7 (fun r => { r with state := st })
theorem test_handT (st kind op flags : Nat) (body : Line) (h : (inHandT st kind op flags body).isMirror 7 = false ∧
    (inHandT st kind op flags body).isCascade 7 = false ∧ (inHandT st kind op flags body).up = true ∧
    (inHandT st kind op flags body).pins.fatal = false ∧ (inHandT st kind op flags body).ready 9 0 op = some (req16 op flags body) ∧
    ((inHandT st kind op flags body).tb 7).state ≠ 4) :
    (inHandT st kind op flags body).atHand 9 0 op (req16 op flags body) := ⟨h.2.2.1, h.2.2.2.1, h.2.2.2.2.1, h.1, h.2.1, h.2.2.2.2.2⟩
theorem test_wit_lock : (inHandT 2 3 0x16 0 (20 <<< 128)).atHand 9 0 0x16 (req16 0x16 0 (20 <<< 128)) ∧
    lineLe (req16 0x16 0 (20 <<< 128)).slot1 0x10 2 ≠ 0 := ⟨test_handT _ _ _ _ _ (by decide +kernel), by decide +kernel⟩
theorem test_wit_lock_free : ((inHandT 2 3 0x16 0 (20 <<< 128)).tb 7).lock = none ∧ ((inHandT 2 3 0x16 0 (20 <<< 128)).tb 7).bulk = none ∧
    ((inHandT 2 3 0x16 0 (20 <<< 128)).tb 7).migration = none ∧ ((inHandT 2 3 0x16 0 (20 <<< 128)).tb 7).shrinking = false := by decide +kernel
def lockedBy (c op : Nat) : State := (inHandT 2 3 op 0 (20 <<< 128)).updTb 7 (fun r => { r with lock := some { owner := c, leaseUs := 1, endTick := 500 } })
theorem test_wit_lock_held : (lockedBy 9 0x17).ownsLock 7 9 = true ∧ (lockedBy 9 0x17).lockRefuses 7 9 = false ∧
    (lockedBy 8 0x17).ownsLock 7 9 = false ∧ (lockedBy 8 0x16).ready 9 0 0x16 = some (req16 0x16 0 (20 <<< 128)) ∧
    (lockedBy 9 0x18).ready 9 0 0x18 = some (req16 0x18 0 (20 <<< 128)) ∧ (lockedBy 9 0x17).isMirror 7 = false ∧
    (lockedBy 9 0x17).isCascade 7 = false := by decide +kernel
theorem test_wit_profile : (inHandT 1 5 0x1A 0 0).atHand 9 0 0x1A (req16 0x1A 0 0) ∧
    profileOk ((inHandT 1 5 0x1A 0 0).tb 7) (req16 0x1A 0 0).profile ((inHandT 1 5 0x1A 0 0).f fPairEn == 1) = true ∧
    profileOk ((inHandT 1 3 0x1A 0 0).tb 7) (req16 0x1A 0 0).profile ((inHandT 1 3 0x1A 0 0).f fPairEn == 1) = false :=
  ⟨test_handT _ _ _ _ _ (by decide +kernel), by decide +kernel, by decide +kernel⟩
theorem test_wit_open : (inHandT 1 5 0x1B 0 0).atHand 9 0 0x1B (req16 0x1B 0 0) ∧ ((inHandT 1 5 0x1B 0 0).tb 7).state = 1 ∧
    profileOk ((inHandT 1 5 0x1B 0 0).tb 7) ((inHandT 1 5 0x1B 0 0).tb 7).profile ((inHandT 1 5 0x1B 0 0).f fPairEn == 1) = true ∧
    Prof.pairMode ((inHandT 1 5 0x1B 0 0).tb 7).profile = 0 :=
  ⟨test_handT _ _ _ _ _ (by decide +kernel), by decide +kernel, by decide +kernel, by decide +kernel⟩
theorem test_wit_disable : (inHandT 2 3 0x1C 0 0).atHand 9 0 0x1C (req16 0x1C 0 0) ∧
    (inHandT 3 3 0x1D 0 0).atHand 9 0 0x1D (req16 0x1D 0 0) :=
  ⟨test_handT _ _ _ _ _ (by decide +kernel), test_handT _ _ _ _ _ (by decide +kernel)⟩
theorem test_wit_load_state : (inHandT 2 5 0x19 1 0).atHand 9 0 0x19 (req16 0x19 1 0) ∧ loadState ((inHandT 2 5 0x19 1 0).tb 7) = false :=
  ⟨test_handT _ _ _ _ _ (by decide +kernel), by decide +kernel⟩
def bulk1 : Bulk := { origin := .req 9 0, replace := false, entries := [(2, 5), (3, 6)], image := [1, 2] }
theorem test_wit_load_commit : (((inHandT 3 1 0x19 1 0).updTb 7 (fun r => { r with bulk := some bulk1 })).tb 7).bulk = some bulk1 ∧
    (((inHandT 3 1 0x19 1 0).updTb 7 (fun r => { r with bulk := some bulk1 })).tb 7).kind = 1 ∧
    ((inHandT 3 1 0x19 1 0).updTb 7 (fun r => { r with bulk := some bulk1 })).isMirror 7 = false ∧
    (bulk1.entries.map (fun e => e.1)).Nodup ∧ (∀ k < 32, (inHandT 3 5 0x19 1 0).runsImage k 7 = false) ∧ (rdy.tb 7).bulk = none := by
  decide +kernel
/-- A PREFIX image of no records in host memory, whose header carries its CRC-32C (computed outside Lean). -/
def emptyImage : List Byte := bytesOf 64 (BitVec.ofNat 512 0xb164431e000000000000000000000000000000000000004000000000000000000000000000000000000000000000000000000020000000000002000149534b54)
def loadReq : Req :=
  { req16 0x19 1 (BitVec.ofNat 512 64 <<< 192) with slot2 := BitVec.ofNat 512 (ofBytes (emptyImage.take 56)) <<< 64 }
def loading : State := (inHandT 3 2 0x19 1 0).setCx 9 { state := 1, steward := true, domain := 5, reqs := [loadReq] }
theorem test_wit_load : loading.ready 9 0 0x19 = some loadReq ∧ loading.isMirror 7 = false ∧ loading.isCascade 7 = false ∧
    loading.up = true ∧ loading.pins.fatal = false ∧ loadReq.flag0 = true ∧ (loading.tb 7).lock = none ∧ (loading.tb 7).bulk = none ∧
    loadState (loading.tb 7) = true := by decide +kernel
theorem test_wit_load_image : emptyImage.length = lineLe loadReq.slot1 0x18 8 ∧ emptyImage.take 56 = (bytesOf 64 loadReq.slot2).drop 8 ∧
    loading.imageOkFor 7 emptyImage (lineLe loadReq.slot1 0x18 8) = true := by decide +kernel

/-- Witnesses of SearchAndPinDescriptorsAct. -/
theorem test_wit_search : (inHand 3 1 0 0).atHand 9 0 1 (req16 1 0 0) ∧ (inHand 2 1 0 0).atHand 9 0 1 (req16 1 0 0) ∧
    (inHand 1 1 0 0).atHand 9 0 1 (req16 1 0 0) :=
  ⟨test_hand _ _ _ _ (by decide +kernel), test_hand _ _ _ _ (by decide +kernel), test_hand _ _ _ _ (by decide +kernel)⟩
theorem test_wit_enumerate : ((inHand 3 2 0 0).updCx 9 (fun x => { x with mq := some 4 })).ready 9 0 2 = some (req16 2 0 0) ∧
    (((inHand 3 2 0 0).updCx 9 (fun x => { x with mq := some 4 })).cx 9).mq = some 4 := by decide +kernel
def pinReq (op : Nat) : Req := { req16 op 0 ((BitVec.ofNat 512 unit256 <<< 128) ||| (BitVec.ofNat 512 3 <<< 192)) with table := 255 }
def pinning (op : Nat) : State := served.setCx 9 { state := 1, steward := true, domain := 5, reqs := [pinReq op] }
theorem test_wit_dir_pin : (pinning 0x28).atHand 9 0 0x28 (pinReq 0x28) ∧ (pinning 0x29).atHand 9 0 0x29 (pinReq 0x29) := by
  refine ⟨⟨by decide +kernel, by decide +kernel, by decide +kernel, by decide +kernel, by decide +kernel, by decide +kernel⟩,
    ⟨by decide +kernel, by decide +kernel, by decide +kernel, by decide +kernel, by decide +kernel, by decide +kernel⟩⟩
theorem test_wit_pin_page : (pinning 0x28).dbPage ((pinning 0x28).cx 9).domain (lineLe (pinReq 0x28).slot1 0x10 8) = true ∧
    lineLe (pinReq 0x28).slot1 0x18 1 < 32 ∧ (pinning 0x28).ldValid (lineLe (pinReq 0x28).slot1 0x18 1) = true ∧
    (pinning 0x28).ldDomain (lineLe (pinReq 0x28).slot1 0x18 1) = ((pinning 0x28).cx 9).domain ∧
    (pinning 0x28).dbPage 6 (lineLe (pinReq 0x28).slot1 0x10 8) = false := by decide +kernel
def scanReq : Req := req16 0x20 1 0
def scanning : State :=
  (served.setTb 8 { state := 2, kind := 5, domain := 5 }).setCx 9 { state := 1, steward := true, domain := 5, reqs := [scanReq] }
/-- A job block of domain 5 in host memory: image table 8, no rules, one range, report ring of 64 records in host memory. -/
def jobBlock (tbl : Nat) : List Byte :=
  bytesOf 64 (BitVec.ofNat 512 (5 + tbl * 2 ^ 16 + 2 ^ 32 + 6 * 2 ^ 192 + 3 * 2 ^ 200)) ++ List.replicate 128 0
def rangeList : List Byte := bytesOf 8 (BitVec.ofNat 64 0) ++ bytesOf 8 (BitVec.ofNat 64 64)
theorem test_wit_scan_ready : scanning.up = true ∧ scanning.pins.fatal = false ∧ scanning.ready 9 0 0x20 = some scanReq ∧
    scanning.rng.jobs.length < 1024 := by decide +kernel
theorem test_wit_scan_job : (match (scanning.scanRead 9 scanReq (jobBlock 8)).scanCheck 9 0 scanReq (jobBlock 8) rangeList with
      | .fault => 0 | .ends _ => 1 | .job _ => 2) = 2 := by decide +kernel
theorem test_wit_scan_ends : (match (scanning.scanRead 9 scanReq (jobBlock 7)).scanCheck 9 0 scanReq (jobBlock 7) rangeList with
      | .fault => 0 | .ends st => if st = St.malformed then 1 else 0 | .job _ => 2) = 1 := by decide +kernel
theorem test_wit_retarget : (inHand 3 0x21 0 0).ready 9 0 0x21 = some (req16 0x21 0 0) ∧ ((inHand 3 0x21 0 0).cx 9).steward = true ∧
    (inHand 3 0x21 0 0).rng.jobs = [] ∧ ((inHand 3 0x21 0 0).cx 0).domain = 0 := by decide +kernel

/-- Witnesses of CommandPathActs: context 9 is the steward of an open array table 7. -/
def pathReady : State := inHand 3 0 0 0
def pathWord (op : Nat) : Word := BitVec.ofNat 64 (9 * 2 ^ 36 + 7 * 2 ^ 24 + op * 2 ^ 4 + 1)
def pathRegs : State := ((pathReady.setReg 0x4d008 0x400000014).setReg 0x4d040 0)
theorem test_wit_path : pathRegs.up = true ∧ pathRegs.pins.fatal = false ∧ pathRegs.mayBar0 .fw = true ∧ pathRegs.f fMaintBusy = 0 ∧
    bit (pathWord 6) 0 = true ∧ (pathRegs.setF fMaintBusy 1).f fMaintBusy = 1 ∧ bit 0 0 = false := by decide +kernel
theorem test_wit_path_lock : (pathRegs.pathStarted 6 (pathWord 6)).pathOk := ⟨by decide +kernel, by decide +kernel⟩
theorem test_wit_path_commit : (pathRegs.pathStarted 7 (pathWord 7)).pathOk := ⟨by decide +kernel, by decide +kernel⟩
theorem test_wit_path_abandon : (pathRegs.pathStarted 8 (pathWord 8)).pathOk := ⟨by decide +kernel, by decide +kernel⟩
theorem test_wit_path_key : (pathRegs.pathStarted 5 (pathWord 5)).pathOk := ⟨by decide +kernel, by decide +kernel⟩
theorem test_wit_path_read : (pathRegs.pathStarted 4 (pathWord 4)).pathOk ∧ ((pathRegs.pathStarted 4 (pathWord 4)).doRead .cmdPath
    ((pathRegs.pathStarted 4 (pathWord 4)).f fMaintCtx) (pathRegs.pathStarted 4 (pathWord 4)).maintReq).isSome = true :=
  ⟨⟨by decide +kernel, by decide +kernel⟩, by decide +kernel⟩
theorem test_wit_path_delete : (pathRegs.pathStarted 3 (pathWord 3)).pathOk ∧ ((pathRegs.pathStarted 3 (pathWord 3)).doDelete .cmdPath
    ((pathRegs.pathStarted 3 (pathWord 3)).f fMaintCtx) (pathRegs.pathStarted 3 (pathWord 3)).maintReq).isSome = true :=
  ⟨⟨by decide +kernel, by decide +kernel⟩, by decide +kernel⟩
theorem test_wit_path_update : (pathRegs.pathStarted 2 (pathWord 2)).pathOk ∧ ((pathRegs.pathStarted 2 (pathWord 2)).doUpdate .cmdPath
    ((pathRegs.pathStarted 2 (pathWord 2)).f fMaintCtx) (pathRegs.pathStarted 2 (pathWord 2)).maintReq).isSome = true :=
  ⟨⟨by decide +kernel, by decide +kernel⟩, by decide +kernel⟩
theorem test_wit_path_insert : (pathRegs.pathStarted 1 (pathWord 1)).pathOk ∧ ((pathRegs.pathStarted 1 (pathWord 1)).doInsert .cmdPath
    ((pathRegs.pathStarted 1 (pathWord 1)).f fMaintCtx) (pathRegs.pathStarted 1 (pathWord 1)).maintReq).isSome = true :=
  ⟨⟨by decide +kernel, by decide +kernel⟩, by decide +kernel⟩
def pathDone : State := { pathRegs with tick := 3, mnt := { pathRegs.mnt with cmd := some (6, some { status := 1, tick := 2 }) } }
theorem test_wit_path_done : pathDone.up = true ∧ pathDone.mnt.cmd = some (6, some { status := 1, tick := 2 }) ∧ 2 < pathDone.tick ∧
    (({ pathDone with tick := 2 } : State)).tick ≤ 2 ∧ fld 5 0 32 ≠ 0 := by decide +kernel

/-- Witnesses of SearchPipelineCommandsAct: one flight of port 0, granted at tick 0, on table 7 of `inHand`. -/
def row4 : Row := { ctl := putFld (putFld (putFld 0 46 1 1) 0 22 4) 38 8 7 }
def flying (act : Act) : Flight := { op := { table := 7, act := act, origin := .req 9 0 }, input := 14, port := 0, g := 0 }
def flown (t : Nat) (f : Flight) : State := { inHand 3 0 0 0 with tick := t, arb := { (inHand 3 0 0 0).arb with flights := [f] } }
def seeking (ws : List Win) : Flight :=
  { flying (.search {} false false) with found := some { tick := 3, gen := 0, count := ws.length, wins := ws } }
def win4 : Win := { addr := 0, rank := 4, row := row4 }
theorem test_wit_deliver_miss : (flown 15 (seeking [])).up = true ∧
    (flown 15 (seeking [])).arb.flights.find? (fun f => f.bestDue (0 : SPort).val 15) = some (seeking []) := by decide +kernel
theorem test_wit_deliver_hit : (flown 15 (seeking [win4])).arb.flights.find? (fun f => f.bestDue (0 : SPort).val 15) = some (seeking [win4]) ∧
    (seeking [win4]).op.act = .search {} false false ∧ win4.fails = false ∧
    (flown 15 (seeking [{ win4 with fails := true }])).arb.flights.find? (fun f => f.bestDue (0 : SPort).val 15) =
      some (seeking [{ win4 with fails := true }]) := by decide +kernel
theorem test_wit_deliver_refused : (flown 15 { seeking [] with refused := some St.privilege }).arb.flights.find? (fun f => f.bestDue (0 : SPort).val 15) =
    some { seeking [] with refused := some St.privilege } ∧ St.privilege ≠ St.poisoned ∧ (flown 14 (seeking [])).tick < (seeking []).g + 15 := by
  decide +kernel
theorem test_wit_backoff : (({ rdy with tick := 5 } : State).setIface 14 0 { losses := 1, nextReq := 5 }).up = true ∧
    ((({ rdy with tick := 5 } : State).setIface 14 0 { losses := 1, nextReq := 5 }).iface (14 : Fin 16).val (0 : SPort).val) = { losses := 1, nextReq := 5 } ∧
    (4 : Nat) < ((({ rdy with tick := 4 } : State).setIface 14 0 { losses := 1, nextReq := 5 }).iface 14 0).nextReq := by decide +kernel
def wdog (t : Nat) : State := { rdy with tick := t, arb := { rdy.arb with holds := [(0, some ⟨14, 0, none⟩)] } }
theorem test_wit_arb_watchdog : (wdog 4096).up = true ∧ SMap.get (fun _ => none) (wdog 4096).arb.holds (0 : SPort).val = some ⟨14, 0, none⟩ ∧
    0 + 4096 ≤ (wdog 4096).tick ∧ (wdog 4095).tick < 0 + 4096 := by decide +kernel
theorem test_wit_fix : rdy.up = true ∧ rdy.mayBar0 .fw = true ∧ 8 ≤ (8 : Fin 16).val ∧ (1 : BitVec 8) ≠ 0 ∧ (15 : Fin 16).val = 15 ∧
    (7 : Fin 16).val < 8 := by decide

/-- Witnesses of CascadeCommandsAct. -/
def casTbl : Tbl := { hand1 3 with profile := BitVec.ofNat 512 (2 * 2 ^ 346) }
def casMsg (e : Bool) : CasMsg := { table := 7, t0 := 100, enum := e, floor := none, keys := 0 }
def casState : State := { (linked.setTb 7 casTbl) with tick := 127 }
theorem test_wit_cas_req : casState.up = true ∧ casState.pins.fatal = false ∧ Int.ofNat casState.tick ≤ casState.localTick (casMsg false).t0 + 27 ∧
    casState.localTick (casMsg false).t0 + 27 < Int.ofNat ({ casState with tick := 128 } : State).tick ∧
    (casState.tb (casMsg false).table.val).state = 2 ∧ Prof.pairMode (casState.tb (casMsg false).table.val).profile = 2 ∧
    casState.paused 7 (casState.localTick 100 + 36).toNat = false ∧ (linked.tb 7).state ≠ 2 := by decide +kernel
/-- Every slot of port 0 belongs to input 15, which may use that port. -/
def casOpen : State :=
  ((((casState.setReg 0x10300 (-1)).setReg 0x10308 (-1)).setReg 0x10310 (-1)).setReg 0x10318 (-1)).setReg (0x10100 + 8 * 15) 1
theorem test_wit_cas_port : casOpen.up = true ∧ Int.ofNat casOpen.tick ≤ casOpen.localTick 100 + 27 ∧
    casOpen.paused 7 (casOpen.localTick 100 + 36).toNat = false ∧
    casOpen.cascadePort (casOpen.tb 7).placement (casOpen.localTick 100 + 36).toNat 1 = some 0 ∧
    casOpen.cascadePort (casOpen.tb 7).placement (casOpen.localTick 100 + 36).toNat 9 = some 0 ∧
    casState.cascadePort (casState.tb 7).placement (casState.localTick 100 + 36).toNat 1 = none := by decide +kernel
def casFly : Flight := { seeking [] with cascaded := true }
def casRep1 : CasRep := { status := 0, hit := true, count := 1, handle := 9, prio := 3, res := 5, intact := true }
theorem test_wit_cas_reply : (flown 77 casFly).up = true ∧ (flown 77 casFly).arb.flights = [casFly] ∧ casFly.g + 77 = (flown 77 casFly).tick ∧
    casFly.reply = none ∧ casFly.declined = false ∧ casRep1.intact = true ∧ ({ casRep1 with intact := false } : CasRep).intact = false ∧
    casFly.g + 77 < (flown 78 casFly).tick := by decide +kernel
theorem test_wit_cas_decline : (flown 70 casFly).arb.flights = casFly :: [] ∧ casFly ∉ ([] : List Flight) ∧
    (∀ f ∈ ({ rdy with arb := { rdy.arb with flights := [seeking []] } } : State).arb.flights, f.cascaded = false) := by decide +kernel
theorem test_wit_cas_merge : (flown 79 { casFly with reply := some casRep1 }).arb.flights = [{ casFly with reply := some casRep1 }] ∧
    casFly.port = (0 : SPort).val ∧ casFly.g + 79 ≤ (flown 79 casFly).tick ∧ casFly.refused = none ∧
    casFly.stuck = false ∧ casFly.localOutc.status ≠ St.poisoned ∧ (flown 78 casFly).tick < casFly.g + 79 := by decide +kernel
theorem test_wit_cas_pick : casRep1.prio.toNat * 2 ^ 22 + casRep1.handle.toNat < ({ status := 0, hit := true, prio := 3, handle := 10 } : Outc).prio * 2 ^ 22 + 10 ∧
    3 * 2 ^ 22 + 9 ≤ casRep1.prio.toNat * 2 ^ 22 + casRep1.handle.toNat := by decide +kernel
def passing (g : Nat) : Flight := { flying (.pass {} false none 4 false) with g := g, found := some { tick := 3, gen := 0, count := 0, wins := [] } }
def passed (t : Nat) (f : Flight) : State := (flown t f).setQp 4 { state := 1, ctx := 9, n := 0, table := 7 }
def casPass : Flight := { passing 0 with cascaded := true, committed := true }
theorem test_wit_enum_reply : (passed 87 casPass).up = true ∧ (passed 87 casPass).arb.flights = [casPass] ∧ (passed 87 casPass).tick ≤ casPass.g + 87 ∧
    (passed 87 casPass).passFor casPass = some 4 ∧ casPass.g + 87 < (passed 88 casPass).tick := by decide +kernel

/-- Witnesses of RowCommitsAct. -/
def writing (k : WKind) : Flight := flying (.write 1 row4 k)
theorem test_wit_commit : (flown 5 (writing .update)).up = true ∧
    (flown 5 (writing .update)).nextCommit (fun f => !f.isSwitch && !f.isMirrored && !f.isRepair) = some (writing .update) ∧
    (writing .update).g + 5 ≤ (flown 5 (writing .update)).tick ∧ (writing .update).mseq = none ∧ (flown 5 (writing .update)).journals 7 = false ∧
    (flown 4 (writing .update)).tick < (writing .update).g + 5 ∧ (flown 5 (writing .update)).liveRow 7 row4.handle = some 0 := by decide +kernel
theorem test_wit_commit_evict : (flown 5 (writing (.insert (some 4)))).liveRow 7 4 = some 0 ∧
    ((flown 5 (writing (.insert (some 4)))).tb 7).migration = none ∧ (writing (.insert none)).op.origin = .req 9 0 := by decide +kernel
def freeing (a : Nat) : Flight := flying (.write a {} .free)
theorem test_wit_commit_free : ((flown 5 (freeing 0)).row 0).live = true ∧ ((flown 5 (freeing 0)).row 0).table = (freeing 0).op.table ∧
    ((flown 5 (freeing 1)).row 1).live = false := by decide +kernel
def readFly : Flight := { flying (.read 0) with op := { (flying (.read 0)).op with named := some (9, 4) } }
def readBack : State := { inHand 3 0x13 0 (4 <<< 128) with tick := 5, arb := { rdy.arb with flights := [readFly] } }
theorem test_wit_commit_read : readBack.up = true ∧ readFly.op.named = some (9, 4) ∧ readBack.viewRow 7 9 4 = some 0 ∧
    (readBack.arow 0).bad = 0 := by decide +kernel
def reloc1 : Reloc := { table := 7, handle := 4, old := 0, new := 300, staged := some 2 }
def switchFly : Flight := { flying (.upd 4 (.switch 300)) with op := { table := 7, act := .upd 4 (.switch 300), origin := .tm } }
def relocating (t : Nat) : State := { flown t switchFly with mnt := { rdy.mnt with relocs := [reloc1] } }
theorem test_wit_switch_row : (relocating 5).up = true ∧ (relocating 5).arb.flights = [switchFly] ∧ (relocating 5).mnt.relocs = [reloc1] ∧
    ((relocating 5).row 0).live = true ∧ ((relocating 5).row 0).handle = (4 : BitVec 22).toNat ∧ ((relocating 5).row 0).table = 7 ∧
    (relocating 5).mnt.tmWait = [] ∧ ((relocating 5).tb (7 : TableId).val).migration = none ∧ (relocating 4).tick < switchFly.g + 5 := by decide +kernel
def repairFly : Flight := { flying (.write 0 row4 (.repair 2)) with op := { table := 7, act := .write 0 row4 (.repair 2), origin := .tally } }
def repairing (n : Nat) : State := { flown 5 repairFly with ras := { rdy.ras with rowTick := setNum [] 0 n } }
theorem test_wit_repair : (repairing 3).up = true ∧ (repairing 3).arb.flights = [repairFly] ∧ num (repairing 3).ras.rowTick 0 ≤ 2 + 1 ∧
    2 + 1 < num (repairing 4).ras.rowTick 0 ∧ repairFly.isRepair = true ∧ (writing .update).isRepair = false := by decide +kernel

/-- Witnesses of TableOwnerCommandsAct: table 7 of `inHand` with its row 0 live. -/
def tabled (r : Tbl) (t : Nat) : State := { (inHand 3 0 0 0).setTb 7 r with tick := t }
theorem test_wit_create : rdy.ownerRuns (.mailbox 0) = true ∧ (5 : BitVec 16).toNat < 4096 ∧ (rdy.tb 7).state = 0 ∧
    createParamsOk 3 1 1 0 0 = true ∧ rdy.createRoom 3 1 1 0 0 = true ∧ createParamsOk 2 0 0 1 0 = true ∧ 1 ≤ rdy.f fPrefixFree ∧
    5 < (6 : Byte).toNat := by decide +kernel
def growing : State := tabled { hand1 3 with maxBlocks := 2 } 0
def shrinks : State := tabled { hand1 3 with maxBlocks := 2, blocks := 3 } 0
theorem test_wit_resize : growing.ownerRuns (.mailbox 0) = true ∧ resizeBad 7 (growing.tb 7) 3 0 = none ∧
    growing.resizeCond 7 (growing.tb 7) 3 0 = none ∧ (growing.tb 7).blocks &&& ~~~(3 : BlockSet) = 0 ∧
    resizeBad 7 (shrinks.tb 7) 1 0 = none ∧ shrinks.resizeCond 7 (shrinks.tb 7) 1 0 = none ∧
    (shrinks.tb 7).blocks &&& ~~~(1 : BlockSet) ≠ 0 ∧ (shrinks.tb 7).lock = none ∧ isArray (shrinks.tb 7).kind = true := by decide +kernel
def leaving (b : BlockSet) : State := tabled { hand1 3 with maxBlocks := 2, blocks := 3, shrinking := true, leaving := b, shrinkVia := some (.mailbox 0) } 0
theorem test_wit_shrink_end : (leaving 2).up = true ∧ ((leaving 2).tb 7).shrinking = true ∧ ((leaving 2).tb 7).s2 = none ∧
    (∀ a ∈ (leaving 2).takenRows, ((leaving 2).tb 7).leaving.getLsbD (blockOf a) = false) ∧ (leaving 1).rowsIn 7 ((leaving 1).tb 7).leaving ≠ [] ∧
    (growing.tb 7).shrinking = false := by decide +kernel
def left2 (t : Nat) : State := tabled { hand1 3 with maxBlocks := 2, leaving := 2, s2 := some 0, shrinkVia := some (.mailbox 0) } t
theorem test_wit_shrink_clear : (left2 24).up = true ∧ ((left2 24).tb 7).s2 = some 0 ∧ 0 + 24 ≤ (left2 24).tick ∧
    ((left2 24).tb 7).shrinkVia = some (.mailbox 0) ∧ (left2 23).tick < 0 + 24 := by decide +kernel
def dying (c : Bool) (t : Nat) : State := tabled { hand1 3 with state := 4, destroy := some (.mailbox 0, 0), clearStarted := c } t
theorem test_wit_destroy : growing.ownerRuns (.mailbox 0) = true ∧ (growing.tb 7).state ≠ 0 ∧ (growing.tb 7).state ≠ 4 ∧ (rdy.tb 7).state = 0 ∧
    (dying false 24).up = true ∧ ((dying false 24).tb 7).destroy = some (.mailbox 0, 0) ∧ ((dying false 24).tb 7).clearStarted = false ∧
    0 + 24 ≤ (dying false 24).tick ∧ (dying false 23).tick < 0 + 24 ∧ ((dying true 88).tb 7).clearStarted = true ∧ 0 + 88 ≤ (dying true 88).tick ∧
    (dying true 87).tick < 0 + 88 := by decide +kernel
theorem test_wit_migrate : growing.migrateBad 7 (growing.tb 7) 2 = none ∧ (growing.tb 7).lock = none := by decide +kernel
def mig1 : Mig := { via := .mailbox 0, target := 2, copies := [(4, 16384)] }
def cutting : State := tabled { hand1 3 with maxBlocks := 2, mig := 2, migration := some mig1 } 0
theorem test_wit_cutover : cutting.up = true ∧ (cutting.tb 7).migration = some mig1 ∧ mig1.cut = none ∧
    cutting.rowsIn 7 (cutting.tb 7).blocks = [(0, row4)] ∧ (4, 16384) ∈ mig1.copies ∧ row4.handle = 4 ∧ row4.live = true ∧ cutting.mnt.relocs = [] ∧
    cutting.queuedOps = [] ∧ cutting.arb.flights = [] := by decide +kernel
def mig2 : Mig := { mig1 with cut := some 0, oldBlocks := 1 }
theorem test_wit_old_clear : ((tabled { hand1 3 with blocks := 2, migration := some mig2 } 88).tb 7).migration = some mig2 ∧
    0 + 88 ≤ (tabled (hand1 3) 88).tick ∧ (tabled (hand1 3) 87).tick < 0 + 88 ∧ (tabled (hand1 3) 88).up = true := by decide +kernel
def dirTabled : State := rdy.setTb 255 { state := 2, kind := 4, sys := true, maxBlocks := 1 }
theorem test_wit_dir_profile : dirTabled.ownerRuns (.mailbox 0) = true ∧ (dirTabled.tb 255).state ≠ 0 ∧ (dirTabled.tb 255).state ≠ 4 ∧
    (64 : Byte).toNat ≤ 64 ∧ minSweep (dirTabled.tb 255).maxBlocks ≤ (1 : BitVec 32).toNat ∧ (1048575 : BitVec 32).toNat ≤ 1048575 := by decide +kernel

/-- Witnesses of MaintenanceEngineCommandsAct: an insert into table 7 that waits for its placement. `wild` rows have a full
canopy set, `row4` an empty one. -/
def ins (r : Row) : Ins := { origin := .req 9 0, table := 7, row := r, given := none, at_ := 0 }
def placing (r : Row) (t : Nat) : State := { inHand 3 0 0 0 with tick := t, mnt := { rdy.mnt with placeQ := [ins r] } }
def placed (r : Row) : State := { placing r 4 with mnt := { (placing r 4).mnt with placeQ := [], lastDecision := some 4 } }
def fullRow : Row := { cells := BitVec.ofNat 640 (2 ^ 640 - 1) }
theorem test_wit_place : (placing row4 4).up = true ∧ (placing row4 4).mnt.lastDecision ≠ some (placing row4 4).tick ∧
    (placing row4 4).mnt.placeQ = ins row4 :: [] ∧ (ins row4).at_ + 4 ≤ (placing row4 4).tick ∧ (ins row4).mirrored = false ∧
    (placing row4 4).imageTurn (ins row4) = true ∧ (placing row4 4).ras.mpRunning = true ∧ (placing row4 3).tick < (ins row4).at_ + 4 := by decide +kernel
theorem test_wit_place_row : (placed row4).lowHandle 7 = some 0 ∧ (placed row4).shrinkFull 7 (placed row4).takenRows = false ∧
    betterMost ((((placed row4).cands 7 (placed row4).takenRows (row4.canopy ((placed row4).tb 7).gov)).filter
      (fun c => decide (1 ≤ c.2.1))).filter (fun c => c.2.2 == 0)) = some 1 ∧ lowRow (placed row4).takenRows 1 = some 256 := by decide +kernel
theorem test_wit_place_growth : betterMost ((((placed fullRow).cands 7 (placed fullRow).takenRows (fullRow.canopy ((placed fullRow).tb 7).gov)).filter
      (fun c => decide (1 ≤ c.2.1))).filter (fun c => c.2.2 == 0)) = none ∧
    leastGrowth ((((placed fullRow).cands 7 (placed fullRow).takenRows (fullRow.canopy ((placed fullRow).tb 7).gov)).filter
      (fun c => decide (1 ≤ c.2.1))).filter (fun c => decide (Prof.gladeTarget ((placed fullRow).tb 7).gov < c.2.1))) = some 1 := by decide +kernel
def packed (mb : Nat) : State := (placed row4).setTb 7 { hand1 3 with blocks := 0, maxBlocks := mb }
theorem test_wit_place_full : (packed 1).lowHandle 7 = some 0 ∧ (packed 0).lowHandle 7 = none ∧
    ((packed 1).cands 7 (packed 1).takenRows (row4.canopy ((packed 1).tb 7).gov)).filter (fun c => decide (1 ≤ c.2.1)) = [] := by decide +kernel
theorem test_wit_tm_place : (∀ c ∈ (placed fullRow).cands 7 (placed fullRow).takenRows (fullRow.canopy ((placed fullRow).tb 7).gov), c.2.2 ≠ 0) ∧
    leastGrowth (((placed fullRow).cands 7 (placed fullRow).takenRows (fullRow.canopy ((placed fullRow).tb 7).gov)).filter
      (fun c => decide (1 ≤ c.2.1))) = some 1 ∧ rdy.ras.mpRunning = true ∧
    ({ rdy with mnt := { rdy.mnt with tmQ := [ins fullRow] } } : State).mnt.tmQ = ins fullRow :: [] := by decide +kernel
theorem test_wit_tm_move : (((placed row4).cands 7 (placed row4).takenRows (row4.canopy ((placed row4).tb 7).gov)).filter
      (fun c => c.2.2 == 0)).head? = some (0, 255, 0) ∧ ((placed row4).rowsOf 7).filter (fun e => segOf e.1 == 0 && (placed row4).movable 7 e.2 &&
      !(placed row4).moving 7 e.2.handle) = [(0, row4)] ∧
    betterMost (((placed row4).cands 7 (placed row4).takenRows (row4.canopy ((placed row4).tb 7).gov)).filter (fun c =>
      c.1 != 0 && decide (1 ≤ c.2.1) && c.2.2 == 0)) = some 1 ∧ lowRow (placed row4).takenRows 1 = some 256 := by decide +kernel
def crowd : State :=
  { (inHand 3 0 0 0).setTb 7 { hand1 3 with profile := BitVec.ofNat 512 (127 * 2 ^ 336) } with arr := { (inHand 3 0 0 0).arr with
      rows := (List.range 130).map (fun a => (a, { row := { ctl := putFld (putFld (putFld 0 46 1 1) 0 22 a) 38 8 7 } })) } }
theorem test_wit_glade : crowd.up = true ∧ crowd.ras.mpRunning = true ∧ crowd.tableOf ((0 : Fin 8192).val / 64) = some 7 ∧
    (crowd.tb 7).shrinking = false ∧ (crowd.tb 7).openBlocks.getLsbD ((0 : Fin 8192).val / 64) = true ∧
    Prof.gladeTarget (crowd.tb 7).profile = 127 ∧ Prof.gladeTarget ((inHand 3 0 0 0).tb 7).profile ≤ freeIn (inHand 3 0 0 0).takenRows 0 := by decide +kernel
theorem test_wit_glade_rows : freeIn crowd.takenRows 0 = 126 ∧ (((crowd.rowsOf 7).filter (fun e => segOf e.1 == 0 && crowd.movable 7 e.2 &&
      !crowd.moving 7 e.2.handle)).head?).map (fun e => e.1) = some 0 ∧ (crowd.tb 7).state ≠ 4 := by decide +kernel
theorem test_wit_glade_dest : (let s := crowd; let w := (s.row 0);
    betterMost ((s.cands 7 s.takenRows (w.canopy (s.tb 7).profile)).filter (fun c =>
      c.1 != 0 && decide (Prof.gladeTarget (s.tb 7).profile < c.2.1) && c.2.2 == 0)) = some 1 ∧ lowRow s.takenRows 1 = some 256) := by decide +kernel
def loose (z : BitVec 256) : State :=
  { inHand 3 0 0 0 with arr := { (inHand 3 0 0 0).arr with z := [(0, z)] }, mnt := { rdy.mnt with left := setNum [] 0 1 } }
theorem test_wit_tighten : (loose 6).up = true ∧ num (loose 6).mnt.left 0 ≠ 0 ∧ (loose 6).tableOf ((0 : Fin 8192).val / 64) = some 7 ∧
    (loose 6).queuedOps = [] ∧ (loose 6).zOf 0 = 6 ∧ (loose 0).zOf 0 = 0 ∧ (loose 0).zBadOf 0 = 0 ∧ num rdy.mnt.left 0 = 0 ∧
    (loose 6).segCanopy ((loose 6).tb 7).gov 0 = 0 ∧ (loose 0).segCanopy ((loose 0).tb 7).gov 0 = 0 ∧ (loose 6).ras.mpRunning = true ∧
    ((loose 6).tb 7).state ≠ 4 := by decide +kernel
def lease1 : Lock := { owner := 9, leaseUs := 1, endTick := 500 }
theorem test_wit_lease : ({ lockedBy 9 0 with tick := 500 } : State).up = true ∧ (({ lockedBy 9 0 with tick := 500 } : State).tb (7 : TableId).val).lock = some lease1 ∧
    lease1.endTick ≤ 500 ∧ lease1.bulk = false ∧ lease1.lstate = 1 ∧ lease1.owner < 4096 ∧ (lockedBy 9 0).arb.flights = [] ∧ (lockedBy 9 0).tick < lease1.endTick ∧
    (rdy.tb 7).lock = none := by decide +kernel

/-- Witnesses of MatchQueueCommandsAct: pair 4 enumerates table 7 for context 9. -/
theorem test_wit_pass : (passed 23 (passing 0)).up = true ∧
    (passed 23 (passing 0)).arb.flights.find? (fun f => f.passDue (0 : SPort).val 23) = some (passing 0) ∧ (passing 0).cascaded = false ∧
    (passing 0).refused = none ∧ (passed 23 (passing 0)).passFor (passing 0) = some 4 ∧ (passed 22 (passing 0)).tick < (passing 0).g + 23 := by decide +kernel
def passFrom : Flight := { passing 0 with op := { (passing 0).op with origin := .partner 100 }, found := some { tick := 3, gen := 0, count := 1, wins := [win4] } }
theorem test_wit_pass_partner : (passed 24 passFrom).arb.flights.find? (fun f => f.passDue (0 : SPort).val 24) = some passFrom ∧
    passFrom.op.origin = .partner 100 ∧ (Win.mqRec true win4).poison = false := by decide +kernel
def mqr (h : BitVec 22) : MqRec := { res := 5, prio := 0, handle := h }
def queued (p : QPair) : State := { (inHand 3 2 0 0).setQp 4 { p with ctx := 9, n := 0, table := 7 } with tick := 24 }
theorem test_wit_bank_ready : (queued { state := 1, bank0 := { st := 1, readyAt := some 24 } }).up = true ∧
    (queued { state := 1, bank0 := { st := 1, readyAt := some 24 } }).arb.flights = [] ∧ openRank 0 ([] : List MqRec) = none ∧
    ((queued { state := 1, bank0 := { st := 1, readyAt := some 24 } }).qp (4 : TableId).val).bank 0 = { st := 1, readyAt := some 24 } ∧
    minOpt (openRank 2 [mqr 3]) (openRank 0 []) = some 3 ∧ ((queued {}).tb 7).state = 2 ∧
    (queued { state := 1, bank0 := { st := 1, readyAt := some 25 } }).tick < 25 := by decide +kernel
theorem test_wit_continue : (let s := queued { state := 1, next := some 3, nextAt := 24, bank0 := { st := 2, local_ := [mqr 3] } };
    s.up = true ∧ (s.qp 4).next = some 3 ∧ (s.qp 4).nextAt ≤ s.tick + 1 ∧ ((s.qp 4).bank ((s.qp 4).pass + 1)).st = 0 ∧ (s.qp 4).state = 1) ∧
    ((queued { state := 1 }).qp 4).next = none ∧ (queued {}).tick + 1 < ((queued { nextAt := 26 }).qp 4).nextAt := by decide +kernel
theorem test_wit_bank_drain : (let s := queued { state := 1, bank0 := { st := 2, local_ := [mqr 3] }, bank1 := {} };
      (s.qp 4).bank0.st = 2 ∧ (s.qp 4).bank1.st = 0 ∧ (s.qp 4).bank0.local_ ≠ []) ∧
    (let s := queued { state := 1, bank1 := { st := 2, partner := [mqr 3] } };
      (s.qp 4).bank1.st = 2 ∧ (s.qp 4).bank0.st = 0 ∧ (s.qp 4).bank1.partner ≠ []) ∧
    (let s := queued { state := 1, bank0 := { st := 2 } }; (s.qp 4).bank0.local_ = [] ∧ (s.qp 4).bank0.partner = []) ∧
    (let s := queued { bank0 := { st := 2 }, bank1 := { st := 1 } }; (s.qp 4).bank0.st ≠ 0 ∧ (s.qp 4).bank1.st ≠ 0) ∧
    ((queued { bank0 := { st := 3 } }).qp 4).bank0.st = 3 := by decide +kernel
def nexting (p : QPair) : State := (queued p).updCx 9 (fun x => { x with assigned := true, ldid := 3, mq := some 4 })
theorem test_wit_next : (nexting {}).up = true ∧ (nexting {}).pins.fatal = false ∧ ((nexting {}).cx (9 : Id12).val).assigned = true ∧
    ((nexting {}).cx 9).ldid = (3 : LdId).val ∧ ((nexting {}).cx 9).ldid ≠ (4 : LdId).val ∧ ((nexting {}).cx 9).mq = some 4 ∧
    ((nexting { state := 1, bank0 := { st := 3, local_ := [mqr 3] } }).takeRecord 4).isSome = true ∧
    (nexting { state := 2 }).takeRecord 4 = none ∧ ((nexting { state := 2 }).qp 4).spent = true ∧ ((nexting { state := 2 }).qp 4).ring = false ∧
    ((nexting { state := 1 }).qp 4).spent = false ∧ (nexting { state := 1 }).takeRecord 4 = none ∧ ((nexting { ring := true }).qp 4).ring = true := by
  decide +kernel
def matching : State := (nexting { state := 1, ring := true, bank0 := { st := 3, local_ := [mqr 3, mqr 5] } }).setReg (offCq 9) (BitVec.ofNat 64 6)
theorem test_wit_match_entry : matching.up = true ∧ (matching.qp 4).draining = some 0 ∧ (matching.qp 4).ring = true ∧ (3 : Fin 4).val ≠ 0 ∧
    matching.cqFree 9 = true ∧ (matching.cx 9).state ≠ 3 ∧ (matching.takeRecords 4 0 3).1.length = 2 ∧
    (matching.cx 9).req? false 0 = some (req16 2 0 0) ∧ ((nexting {}).qp 4).draining = none := by decide +kernel
def reseting : State := { (inHand 3 3 0 0).setQp 4 { state := 1, ctx := 9 } with tick := 24 }
theorem test_wit_reset_queue : reseting.up = true ∧ reseting.ready (9 : Id12).val (0 : BitVec 32).toNat 3 = some (req16 3 0 0) ∧
    (reseting.cx 9).mq = none ∧ ((reseting.updCx 9 (fun x => { x with mq := some 4 })).cx 9).mq = some 4 ∧
    (reseting.updCx 9 (fun x => { x with mq := some 4 })).ready 9 0 3 = some (req16 3 0 0) ∧ (reseting.qp 4).state ≠ 0 := by decide +kernel

/-- Witnesses of LearningCommandsAct: a probed learn of table 7, whose row 0 is a live entry of every key. -/
def lrnRow (src : Nat) (stat : Bool) : Row := { ctl := putFld (putFld (putFld (putFld (putFld 0 46 1 1) 0 22 4) 38 8 7) 51 12 src) 48 1 (if stat then 1 else 0), cells := BitVec.ofNat 640 (2 ^ 640 - 1) }
def learn1 (r : Outc) : LearnOp := { id := 1, table := 7, key := 0, src := 3, prio := 0, res := 5, origin := .req 9 0, arrive := 0, ctx := 9, phase := 1, probe := some r }
def learned (w : Row) (o : LearnOp) : State :=
  { ((inHand 4 0x15 0 0).setArow 0 { row := w }) with tick := 40, lrn := { (inHand 4 0x15 0 0).lrn with ops := [o] } }
theorem test_wit_learn : (let s := learned (lrnRow 3 false) (learn1 { status := St.success, handle := 4 });
    s.up = true ∧ s.takeProbes (7 : TableId).val = s ∧ s.lrn.ops.find? (fun o => o.table == 7 && o.phase != 2) = some (learn1 { status := St.success, handle := 4 }) ∧
    s.winnerMoved (learn1 { status := St.success, handle := 4 }) = false ∧ s.learnFirst (learn1 { status := St.success, handle := 4 }) = true ∧
    s.lrn.ops.filter (fun x => x.table == 7 && x.key == 0 && x.phase == 2) = []) := by decide +kernel
theorem test_wit_learn_hit : ((learned (lrnRow 3 false) (learn1 { status := St.success })).learnWinner (learn1 { status := St.success })).map
    (fun w => (w.row.src, w.row.handle)) = some (3, 4) := by decide +kernel
theorem test_wit_learn_moved : ((learned (lrnRow 9 false) (learn1 { status := St.success })).learnWinner (learn1 { status := St.success })).map
    (fun w => (w.row.src, w.row.stat)) = some (9, false) := by decide +kernel
theorem test_wit_learn_static : ((learned (lrnRow 9 true) (learn1 { status := St.success })).learnWinner (learn1 { status := St.success })).map
    (fun w => (w.row.src, w.row.stat)) = some (9, true) := by decide +kernel
theorem test_wit_learn_absent : (learned row4 (learn1 { status := St.noMatch })).learnWinner (learn1 { status := St.noMatch }) = none ∧
    (learn1 { status := St.poisoned }).probe = some { status := St.poisoned } ∧ ({ learn1 {status := 0 } with phase := 2 } : LearnOp).phase = 2 := by decide +kernel
def learn2 : LearnOp := { learn1 { status := St.success, handle := 4 } with row := some 5 }
theorem test_wit_learn_retry : (learned (lrnRow 3 false) learn2).takeProbes 7 = learned (lrnRow 3 false) learn2 ∧
    (learned (lrnRow 3 false) learn2).lrn.ops.find? (fun o => o.table == 7 && (learned (lrnRow 3 false) learn2).winnerMoved o) = some learn2 ∧
    (learned (lrnRow 3 false) { learn2 with row := some 0 }).winnerMoved { learn2 with row := some 0 } = false := by decide +kernel
def sweeping (w : Sweep) : State :=
  { inHand 4 0 0 0 with tick := 40, lrn := { (inHand 4 0 0 0).lrn with sweeps := [(7, some w)] } }
theorem test_wit_sweep_start : (sweeping { due := 40 }).up = true ∧ (sweeping { due := 40 }).sweepOf (7 : TableId).val = some { due := 40 } ∧
    (sweeping { due := 40 }).sweeps 7 = true ∧ (sweeping { due := 41 }).tick < 41 ∧ (inHand 3 0 0 0).sweeps 7 = false := by decide +kernel
theorem test_wit_visit : (sweeping { running := true }).nextVisit 7 0 = some 4 ∧ (sweeping { running := true }).heldH 7 4 = false ∧
    (sweeping { running := true }).nextVisit 7 5 = none ∧ ((sweeping { running := true }).liveRow 7 4).isSome = true ∧
    (sweeping { running := true }).lockMarked 7 4 = false ∧ (sweeping { running := true, visits := [4] }).heldH 7 4 = true ∧
    (sweeping { running := true, pos := 5 }).sweepOf 7 = some { running := true, pos := 5 } := by decide +kernel

/-- Witnesses of RangerCommandsAct: one job of context 9 with image table 8 and a range of one chunk. -/
def sjob : ScanJob := { id := 1, ctx := 9, n := 0, accept := 0, tag := 0, image := 8, ranges := [(0, 64)], rules := [], ringBase := 0, ringLog := 6, ringHost := true, ringIndex := 0, marks := false, maxThreads := 128, mask := 1 }
def res8 : Resident := { table := 8, take := 0, image := [] }
def ranging (j : ScanJob) (res : List Resident) (th : SMap (Option ScanThread)) : State :=
  { (scanning.setReg 0x70000 1) with tick := 9, rng := { jobs := [j], resident := [(0, res)], threads := th } }
theorem test_wit_chunk : (let s := ranging sjob [res8] []; s.up = true ∧ s.pins.fatal = false ∧
    s.busyThreads 0 = [] ∧ s.takes (4 * (0 : Fin 32).val + (0 : Fin 4).val) = some (sjob, [res8]) ∧ s.hasImage [res8] 8 = true ∧ (s.takes 0).isSome = true ∧ chunkAt sjob.ranges 0 sjob.next = some (0, 0) ∧
    s.dpaOk (s.cx 9).domain ((sjob.ranges.getD 0 (0, 0)).1 + 65536 * 0)
      (min (65536 * (0 + 1) + Img.reach (s.imageOf 8)) (sjob.ranges.getD 0 (0, 0)).2 - 65536 * 0) = true) := by decide +kernel
theorem test_wit_chunk_load : (let s := ranging sjob [] []; (∀ n < 0, s.takes n = none) ∧ s.takes 0 = some (sjob, []) ∧ s.hasImage [] 8 = false ∧
    s.rng.jobs = [sjob]) ∧ rdy.rng.jobs = [] := by decide +kernel
def sth : ScanThread := { job := 1, seq := 0, range := 0, c0 := 0, c1 := 64, wEnd := 64, pos := 0, st := 0, loadAt := 9 }
theorem test_wit_load_done : (let s := ranging sjob [res8] [(0, some sth)]; s.thread 0 = some sth ∧ sth.start = none ∧ sth.loadAt ≤ s.tick ∧
    s.job? sth.job = some sjob) ∧ (ranging sjob [res8] []).tick < ({ sth with loadAt := 10 } : ScanThread).loadAt := by decide +kernel
def sth2 (e : List RepEntry) : ScanThread := { sth with start := some 3, pos := 64, buf := e }
theorem test_wit_chunk_end : (let s := ranging sjob [res8] [(0, some (sth2 []))]; s.thread 0 = some (sth2 []) ∧ s.job? (sth2 []).job = some sjob ∧
    (sth2 []).ended = false ∧ (sth2 []).start.isSome = true ∧ (sth2 []).wEnd ≤ (sth2 []).pos ∧ (sth2 []).todo = [] ∧ (sth2 []).stop = none ∧ sjob.marks = false) ∧
    (ranging { sjob with marks := true } [] []).job? 1 = some { sjob with marks := true } ∧ sth.pos < sth.wEnd := by decide +kernel
def rep1 : RepEntry := { pos := 0, kind := 1, off := 3 }
def rule1 : ScanRule := { table := 7, post := 0, swap := false, extBytes := 4, extOff := 0, lo := 0, hi := 9, leave := 0 }
theorem test_wit_report : (let s := ranging sjob [] [(0, some (sth2 [rep1]))]; s.takeLookups 0 = s ∧ s.thread 0 = some (sth2 [rep1]) ∧
    s.reportRoom sjob = true ∧ (s.cx 9).state ≠ 3 ∧ rep1.await = false ∧ rep1.rule = none) ∧
    (ranging sjob [] []).reportRoom { sjob with posted := 64 } = false ∧ ({ rep1 with await := true } : RepEntry).await = true := by decide +kernel
theorem test_wit_report_dropped : (let j := { sjob with rules := [rule1] }; let e : RepEntry := { rep1 with rule := some 0, outc := some { status := St.noMatch } };
    let s := ranging j [] [(0, some (sth2 [e]))]; s.takeLookups 0 = s ∧ s.job? 1 = some j ∧ j.rules[0]? = some rule1 ∧
    postsReport rule1.post { status := St.noMatch } = false) := by decide +kernel
theorem test_wit_job_complete : (let j := { sjob with next := 1, posted := 2, lastPost := 8 }; let s := ranging j [] [(0, none)];
    s.rng.jobs = [j] ∧ j.n = (0 : BitVec 32).toNat ∧ (∀ e ∈ s.rng.threads, e.2 = none) ∧ j.total ≤ j.next ∧ j.lastPost < s.tick) ∧
    sjob.next < sjob.total ∧ (ranging sjob [] []).tick ≤ 9 := by decide +kernel
theorem test_wit_ranger_regs : rdy.mayBar0 .fw = true ∧ (let s := served.setCx 9 { assigned := true, ldid := 3, state := 1 };
    (s.cx 9).assigned = true ∧ (s.cx 9).ldid = (3 : LdId).val ∧ (s.cx 9).state = 1 ∧ s.ldValid 3 = true ∧ s.up = true) := by decide +kernel

/-- Witnesses of ContextCommandsAct: context 9 of LD 3, its rings in HDM of domain 5 with 64 slots. -/
def ringed (x : Ctx) : State :=
  ((served.setReg (offSq 9) 6).setReg (offCq 9) 6).setCx 9 { x with assigned := true, ldid := 3, domain := 5 }
theorem test_wit_ctx_enable : (ringed {}).up = true ∧ (ringed {}).mayBar0 .fw = true ∧ ((ringed {}).cx (9 : Id12).val).state = 0 ∧
    (ringed {}).ringLog (offSq 9) = 6 ∧ (ringed {}).ringLog (offCq 9) = 6 ∧ (ringed {}).ringOk 9 (offSq 9) (64 * 2 ^ 6) = true ∧
    (ringed {}).ringOk 9 (offCq 9) (64 * 2 ^ 6) = true ∧ bit ((ringed {}).reg (offRbuf 9)) 0 = false ∧
    rdy.mayBar0 (.ld 4) = false := by decide +kernel
theorem test_wit_ctx_setup : ((ringed {}).setReg (offSq 9) 5).ringLog (offSq 9) < 6 ∧ 12 < ((ringed {}).setReg (offCq 9) 13).ringLog (offCq 9) ∧
    (rdy.cx 9).assigned = false ∧ ((ringed {}).setReg (offSq 9) 12).ringLog (offSq 9) ≤ 12 := by decide +kernel
theorem test_wit_ctx_pages : ((ringed {}).setReg (offSq 9) (BitVec.ofNat 64 (2 ^ 40 + 6))).ringOk 9 (offSq 9) (64 * 2 ^ 6) = false ∧
    (let s := (ringed {}).setReg (offRbuf 9) (BitVec.ofNat 64 (2 ^ 40 + 1)); bit (s.reg (offRbuf 9)) 0 = true ∧
      s.ringOk 9 (offRbuf 9) (128 * 2 ^ s.ringLog (offSq 9)) = false) ∧
    (let s := (ringed {}).setReg (offRbuf 9) 1; bit (s.reg (offRbuf 9)) 0 = true ∧
      s.ringOk 9 (offRbuf 9) (128 * 2 ^ s.ringLog (offSq 9)) = true) := by decide +kernel
theorem test_wit_ctx_states : (∀ n ∈ [1, 2, 3], ((ringed { state := n }).cx (9 : Id12).val).state = n) ∧ (ringed {}).mnt.cmd = none ∧
    (ringed { state := 2 }).drained 9 = true ∧ ((ringed { state := 2, mq := some 4 }).cx 9).mq ≠ none := by decide +kernel
def maintaining : State := { (ringed {}).setF fMaintCtx 9 with mnt := { rdy.mnt with cmd := some (1, none) } }
theorem test_wit_ctx_maint : maintaining.up = true ∧ maintaining.mnt.cmd = some (1, none) ∧ maintaining.f fMaintCtx = (9 : Id12).val ∧
    (((maintaining.discardOps .cmdPath).resolve .cmdPath (refusal (maintaining.f fMaintTable) St.contextDisabled)).cx 9).state = 0 := by decide +kernel
theorem test_wit_doorbell : (let s := ringed { state := 1 }; s.ldValid (3 : LdId).val = true ∧ (s.cx 9).assigned = true ∧ (s.cx 9).ldid = 3 ∧
      sub32 (64 : BitVec 32).toNat (s.cx 9).sqCons ≤ 2 ^ s.ringLog (offSq 9) ∧ 2 ^ s.ringLog (offSq 9) < sub32 (65 : BitVec 32).toNat (s.cx 9).sqCons ∧
      sub32 (0 : BitVec 32).toNat 0 ≤ sub32 (s.cx 9).cqProd 0 ∧ sub32 (s.cx 9).cqProd 0 < sub32 (1 : BitVec 32).toNat 0) ∧
    ((ringed {}).cx 9).state ≠ 1 ∧ ((ringed {}).cx 9).ldid ≠ (4 : LdId).val := by decide +kernel

/-- Witnesses of DescriptorCommandsAct. A line of zeros is a NOP in the lap of stamp 0, at count 16320 of a ring of 64 slots. -/
def lap (x : Ctx) : State := ringed { x with state := 1, sqCons := 16320, sqProd := 16321 }
theorem test_wit_fetch_slot : (let s := lap {}; s.ringHost (offSq 9) = false ∧
    0 = s.ringBase (offSq 9) + 64 * (((s.cx 9).sqCons + (s.cx 9).fetched.length) % 2 ^ s.ringLog (offSq 9)) ∧ s.runOk 9 0 64 = true ∧
    s.runHeld 0 64 = false ∧ (s.cx 9).ldid = 3 ∧ (let u := s.readCheck 2 3 0 64; u.ringHost (offSq 9) = false ∧
      u.runPoison 0 64 = false ∧ u.readOut 0 = some 0 ∧ hStamp (0 : Line) = u.stamp 9)) := by decide +kernel
theorem test_wit_fetch_other : hStamp (0 : Line) ≠ (ringed { state := 1 }).stamp 9 ∧
    ((lap {}).setReg (offSq 9) (BitVec.ofNat 64 (2 ^ 11 + 6))).ringHost (offSq 9) = true ∧
    (let s := (lap {}).setReg (offSq 9) (BitVec.ofNat 64 (2 ^ 40 + 6)); s.ringHost (offSq 9) = false ∧
      s.runOk 9 (s.ringBase (offSq 9) + 64 * (((s.cx 9).sqCons + (s.cx 9).fetched.length) % 2 ^ s.ringLog (offSq 9))) 64 = false) ∧
    (let s := (lap {}).setPoison 0 true; s.runHeld 0 64 = false ∧ (s.readCheck 2 3 0 64).runPoison 0 64 = true ∧
      (s.readCheck 2 3 0 64).ringHost (offSq 9) = false ∧ s.runOk 9 0 64 = true) := by decide +kernel
def heldPage : State := { lap {} with tier := { (lap {}).tier with promos := [⟨0, some 0, 40⟩] } }
theorem test_wit_fetch_held : heldPage.ringHost (offSq 9) = false ∧ heldPage.runOk 9 0 64 = true ∧ heldPage.runHeld 0 64 = true := by
  decide +kernel
theorem test_wit_fetch : (lap {}).up = true ∧ ((lap {}).cx (9 : Id12).val).state = 1 ∧ ((lap {}).cx 9).firstFetch = none ∧ (lap {}).complete 9 = false ∧
    ((lap {}).cx 9).fetched.length < sub32 ((lap {}).cx 9).sqProd ((lap {}).cx 9).sqCons ∧ (lap { fetched := [0] }).complete 9 = true ∧
    sub32 ((ringed { state := 1 }).cx 9).sqProd ((ringed { state := 1 }).cx 9).sqCons ≤ ((ringed { state := 1 }).cx 9).fetched.length := by decide +kernel
theorem test_wit_refetch : (let s : State := { lap { firstFetch := some 0, nextFetch := 256 } with tick := 256 };
      (s.cx 9).firstFetch = some 0 ∧ (s.cx 9).nextFetch ≤ s.tick ∧ s.tick < 0 + 500000) ∧
    0 + 500000 ≤ ({ lap { firstFetch := some 0 } with tick := 500000 } : State).tick ∧
    ({ lap {} with tick := 255 } : State).tick < ((lap { nextFetch := 256 }).cx 9).nextFetch := by decide +kernel
theorem test_wit_accept : (lap { fetched := [1] }).complete 9 = true ∧ ((lap { fetched := [1] }).cx 9).fetched = 1 :: [] ∧ hOp (1 : Line) = 1 ∧
    (lap { fetched := [1] }).cqFree 9 = true ∧ hOp (2 : Line) = 2 ∧ hOp (0 : Line) = 0 ∧ (lap { fetched := [2] }).isCut 9 2 = false ∧
    (lap { fetched := [1], reserved := 64 }).cqFree 9 = false ∧
    (ringed { state := 1, sqCons := 63 }).isCut 9 (BitVec.ofNat 512 (2 ^ 48 + 2)) = true := by decide +kernel
def claimed (s : State) : State := (s.updCx 9 (fun x => { x with
  sqCons := (x.sqCons + x.fetched.length) % 2 ^ 32, reserved := x.reserved + 1, fetched := [],
  reqs := x.reqs ++ [s.newReq 9 2], firsts := ((s.cx 9).sqCons, hOp 2) :: x.firsts })).inc ⟨offCtxCnt 9, 0, 32⟩
theorem test_wit_accept_pair : ((claimed (lap { fetched := [2] })).cx 9).mq = none ∧ (claimed (lap { fetched := [2] })).freePair = some 0 ∧
    ((claimed (lap { fetched := [2], mq := some 4 })).cx 9).mq ≠ none ∧
    (claimed { lap { fetched := [2] } with mq := (List.range 256).map (fun i => (i, { state := 1 })) }).freePair = none := by decide +kernel
def toDispatch (r : Req) : State :=
  { (inHand 3 1 0 0).setCx 9 { state := 1, steward := true, domain := 5, reqs := [r] } with tick := 1 }
def fresh (op : Nat) : Req := { req16 op 0 0 with phase := 0, slots := 1 }
theorem test_wit_dispatch : (toDispatch (fresh 1)).up = true ∧ (toDispatch (fresh 1)).pins.fatal = false ∧
    (toDispatch (fresh 1)).nextDispatch 9 ((toDispatch (fresh 1)).cx 9).reqs true = some (fresh 1) ∧
    (toDispatch (fresh 1)).descBad 9 (fresh 1) = none ∧ (toDispatch (fresh 0x55)).descBad 9 (fresh 0x55) = some St.malformed ∧
    (toDispatch (fresh 0x55)).nextDispatch 9 [fresh 0x55] true = some (fresh 0x55) ∧
    (toDispatch (req16 1 0 0)).nextDispatch 9 ((toDispatch (req16 1 0 0)).cx 9).reqs true = none := by decide +kernel
def badEnum : State := ((toDispatch { fresh 2 with cut := true }).updCx 9 (fun x => { x with mq := some 4 })).setQp 4 { state := 1, ctx := 9, n := 0, table := 7 }
theorem test_wit_dispatch_enum : badEnum.nextDispatch 9 (badEnum.cx 9).reqs true = some { fresh 2 with cut := true } ∧
    badEnum.descBad 9 { fresh 2 with cut := true } = some St.malformed ∧
    ((badEnum.resolve (.req 9 0) (refusal 7 St.malformed)).cx 9).mq = some 4 ∧
    ((badEnum.resolve (.req 9 0) (refusal 7 St.malformed)).qp 4).n = 0 := by decide +kernel
def wreq (d : Line) : Req := { n := 0, slots := 1, accept := 0, opcode := 1, table := 7, flags := 0, tag := 0, slot1 := d, window := some 3 }
theorem test_wit_dispatch_window : (toDispatch (wreq 0)).nextDispatch 9 ((toDispatch (wreq 0)).cx 9).reqs true = some (wreq 0) ∧
    (toDispatch (wreq 0)).windowBad 9 (wreq 0) = none ∧ (toDispatch (wreq 0)).gate 7 = .go ∧
    (toDispatch (wreq (BitVec.ofNat 512 (2 ^ 500)))).windowBad 9 (wreq (BitVec.ofNat 512 (2 ^ 500))) = some St.malformed := by decide +kernel
def mirTbl : Tbl := { hand1 3 with profile := BitVec.ofNat 512 (2 ^ 346) }
theorem test_wit_dispatch_gate : (let s := ((toDispatch (wreq 0)).setTb 7 mirTbl).setF fPst 3; s.gate 7 = .wait ∧ s.windowBad 9 (wreq 0) = none) ∧
    (let s := (((toDispatch (wreq 0)).setTb 7 mirTbl).setF fPst 6).setF fJoiner 1; s.gate 7 = .stale ∧ s.windowBad 9 (wreq 0) = none) := by decide +kernel
def abortReq : Req := { req16 4 0 (BitVec.ofNat 512 3 <<< 128) with n := 5, slots := 1, table := 0 }
def aborting (f : List (Nat × Nat)) (g : List Req) : State := (inHand 3 4 0 0).setCx 9 { state := 1, domain := 5, reqs := g ++ [abortReq], firsts := f }
def target (op ph : Nat) : Req := { req16 op 0 0 with n := 3, phase := ph }
theorem test_wit_abort : (aborting [] []).up = true ∧ (aborting [] []).ready (9 : Id12).val (5 : BitVec 32).toNat 4 = some abortReq ∧
    lineLe abortReq.slot1 0x10 4 = 3 ∧ ((aborting [(3, 0x10)] []).cx 9).firsts.find? (fun f => f.1 == 3) = some (3, 0x10) ∧
    0 < sub32 abortReq.n 3 ∧ sub32 abortReq.n 3 ≤ 2 ^ 31 ∧ ((aborting [(3, 0x10)] [target 0x10 1]).cx 9).req? false 3 = some (target 0x10 1) ∧
    ((aborting [(3, 0x10)] [target 0x10 1]).stopReq 9 (target 0x10 1)).isSome = true ∧
    (aborting [(3, 0x10)] [target 0x10 3]).stopReq 9 (target 0x10 3) = none ∧ (inHand 3 1 0 0).ready 9 5 4 = none := by decide +kernel
theorem test_wit_abort_stop : (aborting [] [target 1 2]).recordFormed (.req 9 3) = false ∧ (aborting [] [target 0x10 2]).beyond (.req 9 3) = false ∧
    (target 1 2).phase = 2 ∧ (target 0x12 2).opcode = 0x12 ∧ sub32 5 5 = 0 := by decide +kernel
theorem test_wit_undefined : (toDispatch (fresh 0x55)).up = true ∧ (toDispatch (fresh 0x55)).pins.fatal = false ∧
    ((toDispatch (fresh 0x55)).cx 9).req? false (0 : BitVec 32).toNat = some (fresh 0x55) ∧ (fresh 0x55).phase = 0 ∧ opDefined 0x55 = false ∧
    opDefined 1 = true := by decide +kernel
def ended (op : Nat) : Req := { req16 op 0 0 with phase := 3, endTick := 7, outc := some { status := St.success, image := some row4 } }
def completing (op : Nat) : State := { ringed { state := 1, reqs := [ended op] } with tick := 9 }
theorem test_wit_complete : (completing 0x10).up = true ∧ ((completing 0x10).settleWindows.cx 9).state = 1 ∧ (completing 0x10).settleWindows.cqRoom 9 = true ∧
    (completing 0x10).settleWindows.nextCompletion 9 = some (ended 0x10) ∧ (ended 0x10).outc.isSome = true ∧
    (let v := (completing 0x10).settleWindows;
      v.ringHost (offCq 9) = false ∧ v.runOk 9 (v.ringBase (offCq 9) + 64 * ((v.cx 9).cqProd % 2 ^ v.ringLog (offCq 9))) 64 = true) := by decide +kernel
theorem test_wit_complete_other : (let v := (completing 0x13).settleWindows; v.nextCompletion 9 = some (ended 0x13) ∧
      (v.readRecord (v.tb 7).kind { status := St.success, image := some row4 }).1.length = 96) ∧
    (let v := ((completing 0x10).setReg (offCq 9) (BitVec.ofNat 64 (2 ^ 40 + 6))).settleWindows; v.ringHost (offCq 9) = false ∧
      v.nextCompletion 9 = some (ended 0x10) ∧
      v.runOk 9 (v.ringBase (offCq 9) + 64 * ((v.cx 9).cqProd % 2 ^ v.ringLog (offCq 9))) 64 = false) ∧
    (let v := (ringed { state := 1 }).settleWindows; v.nextCompletion 9 = none ∧ v.cqRoom 9 = true ∧ (v.cx 9).state = 1) ∧
    (ringed { cqProd := 64 }).settleWindows.cqRoom 9 = false ∧ ((ringed { state := 3 }).settleWindows.cx 9).state = 3 := by decide +kernel

/-- Witnesses of WindowCommandsAct. -/
theorem test_wit_window : (ringed { state := 1 }).up = true ∧ (ringed { state := 1 }).pins.fatal = false ∧ ((ringed { state := 1 }).cx (9 : Id12).val).assigned = true ∧
    ((ringed { state := 1 }).cx 9).ldid = (3 : LdId).val ∧ (62 : Fin 64).val < 63 ∧ (63 : Fin 64).val = 63 ∧ ((ringed { state := 3 }).cx 9).state ≠ 1 := by decide +kernel
def lined (st : Nat) (l : WLine) (h : List HeldRead) : State := { ringed { state := st, lines := [(2, l)] } with tick := 50, heldReads := h }
def held1 : HeldRead := { ld := 3, ctx := 9, line := 2, at_ := 0 }
theorem test_wit_window_read : (let u := (lined 1 { st := 1, id := 1 } []).settleWindows; ((u.cx 9).wline 2).st = 1 ∧ (u.cx 9).state = 1 ∧
      (u.heldReads.filter (fun h => h.ld / 16 == (3 : LdId).val / 16)).length < 1024) ∧
    (let u := (lined 2 { st := 2, id := 1 } []).settleWindows; ((u.cx 9).wline 2).st ≠ 1 ∧ (u.cx 9).state = 2) ∧
    (let u := (lined 3 {} []).settleWindows; ((u.cx 9).wline 2).st ≠ 2 ∧ (u.cx 9).state ≠ 1 ∧ (u.cx 9).state ≠ 2) ∧
    1024 ≤ ((List.replicate 1024 held1).filter (fun h => h.ld / 16 == (3 : LdId).val / 16)).length := by decide +kernel
theorem test_wit_window_hold : (let u := (lined 1 { st := 1, id := 1 } [held1]).settleWindows;
      u.heldReads.find? (fun h => h.ld == (3 : LdId).val && h.ctx == (9 : Id12).val && h.line == (2 : Fin 64).val) = some held1 ∧ held1.at_ + 50 ≤ u.tick ∧
      ((u.cx 9).wline 2).st = 1) ∧
    ({ lined 1 { st := 1 } [held1] with tick := 49 } : State).tick < held1.at_ + 50 ∧ rdy.settleWindows.heldReads = [] := by decide +kernel
theorem test_window_line : (let l : WLine := { st := 2, tag := 0x89abcdef, record := BitVec.ofNat 256 (2 ^ 256 - 3), accept := 2 ^ 64 - 5, id := 1 };
    l.asRead.extractLsb' 0 256 = l.record ∧ l.asRead.extractLsb' 256 32 = l.tag ∧ l.asRead.extractLsb' 320 64 = BitVec.ofNat 64 l.accept ∧
    l.asRead.extractLsb' 288 8 = 2) := by decide +kernel

/-- Witnesses of TableCommandsComplete and TableEngineStepsComplete. -/
def capped (k st n : Nat) : State := tabled { state := st, kind := k, count := n, regionSize := 2 } 100
theorem test_wit_create_direct : (5 : BitVec 16).toNat < 4096 ∧ (rdy.tb (7 : TableId).val).state = 0 ∧ createParamsOk 1 0 0 1 1 = true ∧
    rdy.dsram.taken = 0 ∧ lowestRun 1024 1 (fun i => !(0 : BitVec 1024).getLsbD i) = some 0 := by decide +kernel
theorem test_wit_resize_prefix : (capped 2 2 5).ownerRuns (.mailbox 0) = true ∧ ((capped 2 2 5).tb (7 : TableId).val).kind = 2 ∧
    ((capped 2 2 5).tb 7).state = 2 ∧ (6 : BitVec 32).toNat ≠ 0 ∧ (6 : BitVec 32).toNat ≤ (capped 2 2 5).f fPrefixFree + ((capped 2 2 5).tb 7).count ∧
    ((capped 2 2 5).tb 7).prefixes.length ≤ (6 : BitVec 32).toNat := by decide +kernel
theorem test_wit_resize_direct : (capped 1 2 5).ownerRuns (.mailbox 0) = true ∧ ((capped 1 2 5).tb (7 : TableId).val).kind = 1 ∧
    ((capped 1 2 5).tb 7).count ≤ (5 : BitVec 32).toNat ∧ (2048 : BitVec 32).toNat ≤ 1024 * ((capped 1 2 5).tb 7).regionSize ∧
    Prof.idxBits ((capped 1 2 5).tb 7).profile = 0 := by decide +kernel
def killed : State := (capped 2 2 5).setQp 4 { state := 1, table := 7 }
theorem test_wit_destroy_pair : killed.ownerRuns (.mailbox 0) = true ∧ (killed.tb (7 : TableId).val).state = 2 ∧ (killed.qp 4).state ≠ 0 ∧
    (killed.qp 4).table = 7 ∧ (killed.qp 5).table ≠ 7 ∧ (∀ e ∈ killed.mq, e.2 = killed.qp e.1) := by decide +kernel
theorem test_wit_migrate_locked : (let s := lockedBy 9 0; s.ownerRuns (.mailbox 0) = true ∧
    s.migrateBad (7 : TableId).val (s.tb (7 : TableId).val) 4 = none ∧ (s.tb (7 : TableId).val).lock = some lease1) := by decide +kernel
theorem test_wit_shrink_steps : (leaving 2).up = true ∧ ((leaving 2).tb (7 : TableId).val).shrinking = true ∧ ((leaving 2).tb 7).s2 = none ∧
    (∀ a ∈ (leaving 2).takenRows, ((leaving 2).tb 7).leaving.getLsbD (blockOf a) = false) ∧ (leaving 2).takenRows ≠ [] ∧
    ((left2 24).tb 7).s2 = some 0 ∧ 0 + 24 ≤ (left2 24).tick ∧ ((left2 24).tb 7).shrinkVia = some (.mailbox 0) ∧
    ((tabled { hand1 3 with leaving := 2, s2 := some 0 } 24).tb 7).shrinkVia = none := by decide +kernel
def dyingOf (k : Nat) (c : Bool) : State :=
  tabled { state := 4, kind := k, count := 5, regionSize := 2, destroy := some (.mailbox 0, 0), clearStarted := c } 100
theorem test_wit_destroy_steps : (dyingOf 1 false).up = true ∧ ((dyingOf 1 false).tb (7 : TableId).val).destroy = some (.mailbox 0, 0) ∧
    0 + 24 ≤ (dyingOf 1 false).tick ∧ ((dyingOf 1 false).tb 7).clearStarted = false ∧ ((dyingOf 1 false).tb 7).kind = 1 ∧
    0 + 88 ≤ (dyingOf 1 true).tick ∧ ((dyingOf 1 true).tb 7).clearStarted = true ∧ ((dyingOf 2 true).tb 7).kind = 2 ∧
    ((dyingOf 2 true).setF fPrefixFree 1048571).f fPrefixFree + ((dyingOf 2 true).tb 7).count ≤ 1048576 := by decide +kernel
theorem test_wit_migration_steps : cutting.up = true ∧ (cutting.tb (7 : TableId).val).migration = some mig1 ∧ mig1.cut = none ∧
    (∀ e ∈ cutting.rowsIn 7 (cutting.tb 7).blocks, e.2.live = true → ∃ c ∈ mig1.copies, c.1 = e.2.handle) ∧ cutting.mnt.relocs = [] ∧
    cutting.queuedOps = [] ∧ (∀ f ∈ cutting.arb.flights, f.op.act ≠ .upd 0 .cutover) ∧ mig2.cut = some 0 ∧
    ((tabled { hand1 3 with maxBlocks := 2, mig := 2, migration := some mig2 } 88).tb 7).migration = some mig2 := by decide +kernel

/-- Witnesses of PassStepsComplete: a cascaded pass of pair 4, then a pass whose pair is FREE. -/
def casPassed : State := (passed 88 { passing 0 with cascaded := true }).setTb 7 casTbl
theorem test_wit_pass_cascaded : casPassed.up = true ∧
    casPassed.arb.flights.find? (fun f => f.passDue (0 : SPort).val casPassed.tick) = some { passing 0 with cascaded := true } ∧
    (passing 0).op.origin = .req 9 0 ∧ (passing 0).refused = none ∧ casPassed.isCascade (passing 0).op.table = true ∧
    (passing 0).found.isSome = true ∧ casPassed.passFor { passing 0 with cascaded := true } = some 4 ∧
    (flown 23 (passing 0)).passFor (passing 0) = none ∧
    (flown 23 (passing 0)).arb.flights.find? (fun f => f.passDue (0 : SPort).val 23) = some (passing 0) := by decide +kernel
theorem test_wit_bank_due : (let s := queued { state := 1, countL := 1, bank0 := { st := 1, readyAt := some 24, local_ := [mqr 3] } };
    s.up = true ∧ (s.qp (4 : TableId).val).state ≠ 0 ∧ ((s.qp 4).bank (s.qp 4).pass).readyAt = some 24 ∧ 24 ≤ s.tick ∧
    ((s.qp 4).bank (s.qp 4).pass).st = 1 ∧ (s.qp 4).countL ≤ ((s.qp 4).bank (s.qp 4).pass).local_.length ∧
    (s.qp 4).countP ≤ ((s.qp 4).bank (s.qp 4).pass).partner.length) := by decide +kernel

/-- Witnesses of ConsumptionCompletes: a good, a bad and a RING record, and a pair to reset. -/
theorem test_wit_record : (let s := nexting { state := 1, bank0 := { st := 3, local_ := [mqr 3] } };
      (s.qp 4).bank0.st = 3 ∧ (s.qp 4).bank0.local_ = mqr 3 :: [] ∧ (s.qp 4).bank0.partner = [] ∧ (s.qp 4).ring = false) ∧
    (mqr 3).bad = 0 ∧ (mqr 3).poison = false ∧ ({ mqr 3 with bad := 2 } : MqRec).bad ≠ 0 ∧
    (matching.qp (4 : TableId).val).bank0.local_ = mqr 3 :: [mqr 5] ∧ (matching.qp 4).bank0.partner = [] ∧ (matching.qp 4).n = 0 ∧
    (matching.qp 4).ctx = 9 := by decide +kernel

/-- Witnesses of the remaining premises: no load before a profile, no held page before a scan, a ready load, a mirrored change that is due, and the turn of a waiting insert. -/
theorem test_wit_profile_first : (inHandT 1 5 0x1A 0 0).loadBefore 7 (req16 0x1A 0 0).accept = false := by decide +kernel
theorem test_wit_scan_open : scanning.scanWaits 9 scanReq = false := by decide +kernel
theorem test_wit_load_ready : bulk1.isMirror = false ∧ bulk1.ready = true ∧ bulk1.profile = none := by decide +kernel
theorem test_wit_mir_commit : ({ away with pair := { away.pair with mirIn := [(mir1, 130)] } } : State).mirDue = some mir1 := by decide +kernel
theorem test_wit_turn : (placing row4 4).imageTurn (ins row4) = true ∧ (ins row4).given = none ∧ (ins row4).mirrored = false ∧
    (ins row4).at_ + 4 ≤ (placing row4 4).tick ∧ (placing row4 4).ras.mpRunning = true := by decide +kernel

end Sys2Proof.Tests
end

section
/-! SUPPORT. Proofs. The tick counter (02 R40): which commands move it. -/

set_option Elab.async false

namespace Sys2Proof.Machine

/-- The commands that may set the tick counter: TICK, the resets and their releases (02 R40; 19 R639 to R641). -/
def SetsTick (c : Instr) : Prop :=
  c = .tick ∨ (∃ b, c = .coldResetRelease b) ∨ c = .sysResetRelease ∨ (∃ b, c = .sysResetAssert b) ∨ c = .powerGoodLoss ∨
    c = .railUndervoltage ∨ c = .deviceResetDelayExpiry ∨ c = .lcWarmResetDue

/-- A command whose footprint does not name the tick leaves it alone. -/
theorem EffX.keepsTick {w : Nat} {s t : State} {o : Res} {P : Prop} (k : EffX w s o) (h : o = .next t)
    (hw : w.testBit 5 = false) : t.tick = s.tick ∨ P :=
  .inl ((k t h).same .tick hw)

theorem exec_tick_or_setsTick (s t : State) : ∀ c : Instr, exec c s = .next t → t.tick = s.tick ∨ SetsTick c
  | .tick, _ => .inr (.inl rfl)
  | .coldResetRelease b, _ => .inr (.inr (.inl ⟨b, rfl⟩))
  | .sysResetRelease, _ => .inr (.inr (.inr (.inl rfl)))
  | .sysResetAssert b, _ => .inr (.inr (.inr (.inr (.inl ⟨b, rfl⟩))))
  | .powerGoodLoss, _ => .inr (.inr (.inr (.inr (.inr (.inl rfl)))))
  | .railUndervoltage, _ => .inr (.inr (.inr (.inr (.inr (.inr (.inl rfl))))))
  | .deviceResetDelayExpiry, _ => .inr (.inr (.inr (.inr (.inr (.inr (.inr (.inl rfl)))))))
  | .lcWarmResetDue, _ => .inr (.inr (.inr (.inr (.inr (.inr (.inr (.inr rfl)))))))
  | .rowCommit, h => (execRowCommit_eff s).keepsTick h rfl
  | .searchResultDeliver .., h => (execSearchResultDeliver_eff _ s).keepsTick h rfl
  | .enumPassDeliver .., h => (execEnumPassDeliver_eff _ s).keepsTick h rfl
  | .backoffExpiry .., h => (execBackoffExpiry_eff _ _ s).keepsTick h rfl
  | .arbWatchdogFire .., h => (execArbWatchdogFire_eff _ s).keepsTick h rfl
  | .fixApply .., h => (execFixApply_eff _ s).keepsTick h rfl
  | .arbPortMaskWrite .., h => (execArbPortMaskWrite_eff _ _ _ s).keepsTick h rfl
  | .cascadeMerge .., h => (execCascadeMerge_eff _ s).keepsTick h rfl
  | .casReq .., h => (execCasReq_eff _ s).keepsTick h rfl
  | .casReply .., h => (execCasReply_eff _ s).keepsTick h rfl
  | .casDecline .., h => (execCasDecline_eff _ s).keepsTick h rfl
  | .enumReply .., h => (execEnumReply_eff _ _ s).keepsTick h rfl
  | .createTable .., h => (execCreateTable_eff _ _ _ _ _ _ _ _ s).keepsTick h rfl
  | .resizeTable .., h => (execResizeTable_eff _ _ _ _ s).keepsTick h rfl
  | .shrinkEnd .., h => (execShrinkEnd_eff _ s).keepsTick h rfl
  | .shrinkBlockClear .., h => (execShrinkBlockClear_eff _ s).keepsTick h rfl
  | .destroyTable .., h => (execDestroyTable_eff _ _ s).keepsTick h rfl
  | .destroyClearStart .., h => (execDestroyClearStart_eff _ s).keepsTick h rfl
  | .destroyIdFree .., h => (execDestroyIdFree_eff _ s).keepsTick h rfl
  | .migrateTable .., h => (execMigrateTable_eff _ _ _ s).keepsTick h rfl
  | .migrationCutover .., h => (execMigrationCutover_eff _ s).keepsTick h rfl
  | .migrationOldClear .., h => (execMigrationOldClear_eff _ s).keepsTick h rfl
  | .tableCapture .., h => (execTableCapture_eff _ _ _ _ s).keepsTick h rfl
  | .dirProfile .., h => (execDirProfile_eff _ _ _ s).keepsTick h rfl
  | .blockSpare .., h => (execBlockSpare_eff _ _ s).keepsTick h rfl
  | .domainCreate .., h => (execDomainCreate_eff _ _ _ s).keepsTick h rfl
  | .domainDestroy .., h => (execDomainDestroy_eff _ _ s).keepsTick h rfl
  | .ldMapSet .., h => (execLdMapSet_eff _ _ _ _ s).keepsTick h rfl
  | .windowMap .., h => (execWindowMap_eff _ _ _ _ s).keepsTick h rfl
  | .ldMgmtSet .., h => (execLdMgmtSet_eff _ _ _ _ s).keepsTick h rfl
  | .ctxAssign .., h => (execCtxAssign_eff _ _ _ _ _ _ s).keepsTick h rfl
  | .ctxDisable .., h => (execCtxDisable_eff _ _ _ s).keepsTick h rfl
  | .tierSetPolicy .., h => (execTierSetPolicy_eff _ _ _ _ _ _ s).keepsTick h rfl
  | .tierPin .., h => (execTierPin_eff _ _ _ _ s).keepsTick h rfl
  | .tierUnpin .., h => (execTierUnpin_eff _ _ _ _ s).keepsTick h rfl
  | .tierOffer .., h => (execTierOffer_eff _ _ _ _ s).keepsTick h rfl
  | .keyRotate .., h => (execKeyRotate_eff _ _ _ s).keepsTick h rfl
  | .chanRetire .., h => (execChanRetire_eff _ _ s).keepsTick h rfl
  | .rankRetrain .., h => (execRankRetrain_eff _ _ _ _ s).keepsTick h rfl
  | .restoreFactory .., h => (execRestoreFactory_eff _ s).keepsTick h rfl
  | .mirrorRegion .., h => (execMirrorRegion_eff _ _ _ _ _ s).keepsTick h rfl
  | .pairBench .., h => (execPairBench_eff _ s).keepsTick h rfl
  | .pairJoin .., h => (execPairJoin_eff _ s).keepsTick h rfl
  | .deviceReset .., h => (execDeviceReset_eff _ _ s).keepsTick h rfl
  | .fwSvnCommit .., h => (execFwSvnCommit_eff _ s).keepsTick h rfl
  | .ownerCmdUnknown .., h => (execOwnerCmdUnknown_eff _ _ s).keepsTick h rfl
  | .nop .., h => (execNop_eff _ s).keepsTick h rfl
  | .search .., h => (execSearch_eff _ _ s).keepsTick h rfl
  | .enumerate .., h => (execEnumerate_eff _ _ s).keepsTick h rfl
  | .resetQueue .., h => (execResetQueue_eff _ _ s).keepsTick h rfl
  | .abort .., h => (execAbort_eff _ _ s).keepsTick h rfl
  | .insert .., h => (execInsert_eff _ _ s).keepsTick h rfl
  | .update .., h => (execUpdate_eff _ _ s).keepsTick h rfl
  | .delete .., h => (execDelete_eff _ _ s).keepsTick h rfl
  | .readByHandle .., h => (execReadByHandle_eff _ _ s).keepsTick h rfl
  | .readByKey .., h => (execReadByKey_eff _ _ s).keepsTick h rfl
  | .learn .., h => (execLearn_eff _ _ s).keepsTick h rfl
  | .lock .., h => (execLock_eff _ _ s).keepsTick h rfl
  | .commit .., h => (execCommit_eff _ _ s).keepsTick h rfl
  | .abandon .., h => (execAbandon_eff _ _ s).keepsTick h rfl
  | .bulkLoad .., h => (execBulkLoad_eff _ _ _ s).keepsTick h rfl
  | .bulkLoadCommit .., h => (execBulkLoadCommit_eff _ s).keepsTick h rfl
  | .setProfile .., h => (execSetProfile_eff _ _ s).keepsTick h rfl
  | .openTable .., h => (execOpenTable_eff _ _ s).keepsTick h rfl
  | .disable .., h => (execDisable_eff _ _ s).keepsTick h rfl
  | .enable .., h => (execEnable_eff _ _ s).keepsTick h rfl
  | .scan .., h => (execScan_eff _ _ _ _ s).keepsTick h rfl
  | .scanRetarget .., h => (execScanRetarget_eff _ _ s).keepsTick h rfl
  | .dirPin .., h => (execDirPin_eff _ _ s).keepsTick h rfl
  | .dirUnpin .., h => (execDirUnpin_eff _ _ s).keepsTick h rfl
  | .descUndefinedOpcode .., h => (execDescUndefinedOpcode_eff _ _ s).keepsTick h rfl
  | .maintInsert .., h => (execMaintInsert_eff _ _ s).keepsTick h rfl
  | .maintUpdate .., h => (execMaintUpdate_eff _ _ s).keepsTick h rfl
  | .maintDelete .., h => (execMaintDelete_eff _ _ s).keepsTick h rfl
  | .maintReadByHandle .., h => (execMaintReadByHandle_eff _ _ s).keepsTick h rfl
  | .maintReadByKey .., h => (execMaintReadByKey_eff _ _ s).keepsTick h rfl
  | .maintLock .., h => (execMaintLock_eff _ _ s).keepsTick h rfl
  | .maintCommit .., h => (execMaintCommit_eff _ _ s).keepsTick h rfl
  | .maintAbandon .., h => (execMaintAbandon_eff _ _ s).keepsTick h rfl
  | .maintReservedOpcode .., h => (execMaintReservedOpcode_eff _ _ s).keepsTick h rfl
  | .maintCmdComplete, h => (execMaintCmdComplete_eff s).keepsTick h rfl
  | .maintEvictSeedWrite .., h => (execMaintEvictSeedWrite_eff _ _ s).keepsTick h rfl
  | .placementDecision, h => (execPlacementDecision_eff s).keepsTick h rfl
  | .tableManagerPlacement, h => (execTableManagerPlacement_eff s).keepsTick h rfl
  | .gladeRestore .., h => (execGladeRestore_eff _ s).keepsTick h rfl
  | .canopyTighten .., h => (execCanopyTighten_eff _ s).keepsTick h rfl
  | .relocationSwitch .., h => (execRelocationSwitch_eff _ _ s).keepsTick h rfl
  | .leaseExpiry .., h => (execLeaseExpiry_eff _ s).keepsTick h rfl
  | .bankReady .., h => (execBankReady_eff _ s).keepsTick h rfl
  | .continuationQueue .., h => (execContinuationQueue_eff _ s).keepsTick h rfl
  | .bankDrainTake .., h => (execBankDrainTake_eff _ s).keepsTick h rfl
  | .nextRead .., h => (execNextRead_eff _ _ s).keepsTick h rfl
  | .matchEntryWrite .., h => (execMatchEntryWrite_eff _ _ s).keepsTick h rfl
  | .learnDecide .., h => (execLearnDecide_eff _ s).keepsTick h rfl
  | .learnRetry .., h => (execLearnRetry_eff _ s).keepsTick h rfl
  | .sweepPassStart .., h => (execSweepPassStart_eff _ s).keepsTick h rfl
  | .sweeperVisit .., h => (execSweeperVisit_eff _ s).keepsTick h rfl
  | .dirRequest, h => (execDirRequest_eff s).keepsTick h rfl
  | .dirResolve .., h => (execDirResolve_eff _ s).keepsTick h rfl
  | .dirDataReturn .., h => (execDirDataReturn_eff _ s).keepsTick h rfl
  | .dirClaimEnd .., h => (execDirClaimEnd_eff _ s).keepsTick h rfl
  | .dirAgeRemoval .., h => (execDirAgeRemoval_eff _ s).keepsTick h rfl
  | .dirBiTimeout .., h => (execDirBiTimeout_eff _ _ s).keepsTick h rfl
  | .trieAdmit, h => (execTrieAdmit_eff s).keepsTick h rfl
  | .trieLookupDeliver, h => (execTrieLookupDeliver_eff s).keepsTick h rfl
  | .trieMutationTake .., h => (execTrieMutationTake_eff _ s).keepsTick h rfl
  | .trieSwap .., h => (execTrieSwap_eff _ s).keepsTick h rfl
  | .trieNodeFree .., h => (execTrieNodeFree_eff _ s).keepsTick h rfl
  | .directAccess .., h => (execDirectAccess_eff _ s).keepsTick h rfl
  | .directLookupDeliver, h => (execDirectLookupDeliver_eff s).keepsTick h rfl
  | .chunkTake .., h => (execChunkTake_eff _ _ s).keepsTick h rfl
  | .imageLoadDone .., h => (execImageLoadDone_eff _ _ s).keepsTick h rfl
  | .chunkEnd .., h => (execChunkEnd_eff _ _ s).keepsTick h rfl
  | .reportPost .., h => (execReportPost_eff _ _ s).keepsTick h rfl
  | .jobComplete .., h => (execJobComplete_eff _ _ s).keepsTick h rfl
  | .rngEnableWrite .., h => (execRngEnableWrite_eff _ _ s).keepsTick h rfl
  | .reportConsWrite .., h => (execReportConsWrite_eff _ _ _ _ s).keepsTick h rfl
  | .linkTrain .., h => (execLinkTrain_eff _ _ _ _ _ _ s).keepsTick h rfl
  | .portLinkLoss .., h => (execPortLinkLoss_eff _ s).keepsTick h rfl
  | .perstAssert .., h => (execPerstAssert_eff _ s).keepsTick h rfl
  | .functionLevelReset .., h => (execFunctionLevelReset_eff _ s).keepsTick h rfl
  | .decoderCommit .., h => (execDecoderCommit_eff _ _ _ s).keepsTick h rfl
  | .ideFailure .., h => (execIdeFailure_eff _ _ s).keepsTick h rfl
  | .ideKm .., h => (execIdeKm_eff _ _ _ _ _ _ s).keepsTick h rfl
  | .memrd .., h => (execMemrd_eff _ _ _ _ s).keepsTick h rfl
  | .memrddata .., h => (execMemrddata_eff _ _ _ _ s).keepsTick h rfl
  | .meminv .., h => (execMeminv_eff _ _ _ _ s).keepsTick h rfl
  | .meminvnt .., h => (execMeminvnt_eff _ _ _ _ s).keepsTick h rfl
  | .memspecrd ld hpa, h => (execMemspecrd_eff ld hpa s).keepsTick h rfl
  | .memclnevct ld hpa tag, h => (execMemclnevct_eff ld hpa tag s).keepsTick h rfl
  | .memwr .., h => (execMemwr_eff _ _ _ _ _ s).keepsTick h rfl
  | .memwrptl .., h => (execMemwrptl_eff _ _ _ _ _ _ s).keepsTick h rfl
  | .memrdfwd .., h => (execMemrdfwd_eff _ _ s).keepsTick h rfl
  | .memwrfwd .., h => (execMemwrfwd_eff _ _ s).keepsTick h rfl
  | .memrdtee .., h => (execMemrdtee_eff _ _ s).keepsTick h rfl
  | .memwrtee .., h => (execMemwrtee_eff _ _ s).keepsTick h rfl
  | .memWrMsg .., h => (execMemWrMsg_eff _ _ _ _ _ s).keepsTick h rfl
  | .reservedMemOpcode .., h => (execReservedMemOpcode_eff _ _ _ _ s).keepsTick h rfl
  | .biconflict ld line tag, h => (execBiconflict_eff ld line tag s).keepsTick h rfl
  | .birspi .., h => (execBirspi_eff _ _ _ s).keepsTick h rfl
  | .birsps .., h => (execBirsps_eff _ _ _ s).keepsTick h rfl
  | .birspe .., h => (execBirspe_eff _ _ _ s).keepsTick h rfl
  | .identify .., h => (execIdentify_eff _ s).keepsTick h rfl
  | .getSupportedLogs .., h => (execGetSupportedLogs_eff _ s).keepsTick h rfl
  | .getLog .., h => (execGetLog_eff _ s).keepsTick h rfl
  | .getEventRecords .., h => (execGetEventRecords_eff _ _ s).keepsTick h rfl
  | .clearEventRecords .., h => (execClearEventRecords_eff _ _ _ s).keepsTick h rfl
  | .getEventInterruptPolicy .., h => (execGetEventInterruptPolicy_eff _ s).keepsTick h rfl
  | .setEventInterruptPolicy .., h => (execSetEventInterruptPolicy_eff _ _ s).keepsTick h rfl
  | .getFwInfo .., h => (execGetFwInfo_eff _ s).keepsTick h rfl
  | .transferFw .., h => (execTransferFw_eff _ _ _ _ _ s).keepsTick h rfl
  | .activateFw .., h => (execActivateFw_eff _ _ s).keepsTick h rfl
  | .getTimestamp .., h => (execGetTimestamp_eff _ s).keepsTick h rfl
  | .setTimestamp .., h => (execSetTimestamp_eff _ _ s).keepsTick h rfl
  | .getHealthInfo .., h => (execGetHealthInfo_eff _ s).keepsTick h rfl
  | .identifyMemoryDevice .., h => (execIdentifyMemoryDevice_eff _ s).keepsTick h rfl
  | .getPoisonList .., h => (execGetPoisonList_eff _ s).keepsTick h rfl
  | .injectPoison .., h => (execInjectPoison_eff _ _ s).keepsTick h rfl
  | .clearPoison .., h => (execClearPoison_eff _ _ _ s).keepsTick h rfl
  | .getDynamicCapacityConfig .., h => (execGetDynamicCapacityConfig_eff _ s).keepsTick h rfl
  | .getDynamicCapacityExtents .., h => (execGetDynamicCapacityExtents_eff _ s).keepsTick h rfl
  | .addDynamicCapacityResponse .., h => (execAddDynamicCapacityResponse_eff _ _ s).keepsTick h rfl
  | .releaseDynamicCapacity .., h => (execReleaseDynamicCapacity_eff _ _ s).keepsTick h rfl
  | .unsupportedMailboxCmd .., h => (execUnsupportedMailboxCmd_eff _ _ s).keepsTick h rfl
  | .setLdAllocations .., h => (execSetLdAllocations_eff _ _ s).keepsTick h rfl
  | .bindLd .., h => (execBindLd_eff _ s).keepsTick h rfl
  | .unbindLd .., h => (execUnbindLd_eff _ s).keepsTick h rfl
  | .setQosAllocatedBw .., h => (execSetQosAllocatedBw_eff _ _ s).keepsTick h rfl
  | .setQosBwLimit .., h => (execSetQosBwLimit_eff _ _ s).keepsTick h rfl
  | .setQosControl .., h => (execSetQosControl_eff _ _ _ s).keepsTick h rfl
  | .setDcRegionConfig .., h => (execSetDcRegionConfig_eff _ _ _ _ s).keepsTick h rfl
  | .initiateDcAdd .., h => (execInitiateDcAdd_eff _ _ _ s).keepsTick h rfl
  | .initiateDcRelease .., h => (execInitiateDcRelease_eff _ _ _ s).keepsTick h rfl
  | .getMultiHeadedInfo, h => (execGetMultiHeadedInfo_eff s).keepsTick h rfl
  | .fmApiOwnerCommand .., h => (execFmApiOwnerCommand_eff _ _ s).keepsTick h rfl
  | .fmApiOtherCommand .., h => (execFmApiOtherCommand_eff _ s).keepsTick h rfl
  | .ctxEnableWrite .., h => (execCtxEnableWrite_eff _ _ s).keepsTick h rfl
  | .ctxDisableWrite .., h => (execCtxDisableWrite_eff _ _ s).keepsTick h rfl
  | .ctxResetWrite .., h => (execCtxResetWrite_eff _ _ s).keepsTick h rfl
  | .contextDrained .., h => (execContextDrained_eff _ s).keepsTick h rfl
  | .sqProdWrite .., h => (execSqProdWrite_eff _ _ _ s).keepsTick h rfl
  | .cqConsWrite .., h => (execCqConsWrite_eff _ _ _ s).keepsTick h rfl
  | .descriptorFetch .., h => (execDescriptorFetch_eff _ _ s).keepsTick h rfl
  | .stampRefetch .., h => (execStampRefetch_eff _ _ s).keepsTick h rfl
  | .stampTimeout .., h => (execStampTimeout_eff _ _ s).keepsTick h rfl
  | .descriptorAccept .., h => (execDescriptorAccept_eff _ s).keepsTick h rfl
  | .descriptorDispatch .., h => (execDescriptorDispatch_eff _ s).keepsTick h rfl
  | .completionWrite .., h => (execCompletionWrite_eff _ _ s).keepsTick h rfl
  | .windowWrite .., h => (execWindowWrite_eff _ _ _ _ _ s).keepsTick h rfl
  | .windowRead .., h => (execWindowRead_eff _ _ _ s).keepsTick h rfl
  | .windowReadHoldExpiry .., h => (execWindowReadHoldExpiry_eff _ _ _ s).keepsTick h rfl
  | .placementRefill .., h => (execPlacementRefill_eff _ _ s).keepsTick h rfl
  | .promotionCommit .., h => (execPromotionCommit_eff _ s).keepsTick h rfl
  | .heatSweep, h => (execHeatSweep_eff s).keepsTick h rfl
  | .tierMigrationSwitch .., h => (execTierMigrationSwitch_eff _ s).keepsTick h rfl
  | .compaction .., h => (execCompaction_eff _ s).keepsTick h rfl
  | .emergencyDemotionPass, h => (execEmergencyDemotionPass_eff s).keepsTick h rfl
  | .lrDrain, h => (execLrDrain_eff s).keepsTick h rfl
  | .rotationPageCopy .., h => (execRotationPageCopy_eff _ s).keepsTick h rfl
  | .rotationLineAdvance, h => (execRotationLineAdvance_eff s).keepsTick h rfl
  | .rotationFinish, h => (execRotationFinish_eff s).keepsTick h rfl
  | .zeroFrameDone, h => (execZeroFrameDone_eff s).keepsTick h rfl
  | .onDemandZero, h => (execOnDemandZero_eff s).keepsTick h rfl
  | .refreshInterval .., h => (execRefreshInterval_eff _ _ s).keepsTick h rfl
  | .mr4ReadDue .., h => (execMr4ReadDue_eff _ _ s).keepsTick h rfl
  | .mr4Result .., h => (execMr4Result_eff _ _ _ s).keepsTick h rfl
  | .powerDownEnter .., h => (execPowerDownEnter_eff _ _ s).keepsTick h rfl
  | .selfRefreshEnter .., h => (execSelfRefreshEnter_eff _ _ s).keepsTick h rfl
  | .selfRefreshExit .., h => (execSelfRefreshExit_eff _ _ s).keepsTick h rfl
  | .dramReadReturn .., h => (execDramReadReturn_eff _ _ _ s).keepsTick h rfl
  | .patrolScrub .., h => (execPatrolScrub_eff _ s).keepsTick h rfl
  | .mapValidWrite .., h => (execMapValidWrite_eff _ _ s).keepsTick h rfl
  | .qosClassWrite .., h => (execQosClassWrite_eff _ _ s).keepsTick h rfl
  | .retireGranuleCopy, h => (execRetireGranuleCopy_eff s).keepsTick h rfl
  | .trnStart .., h => (execTrnStart_eff _ _ _ s).keepsTick h rfl
  | .trainingRunDone .., h => (execTrainingRunDone_eff _ _ s).keepsTick h rfl
  | .dlyWrite .., h => (execDlyWrite_eff _ _ _ _ _ _ s).keepsTick h rfl
  | .drcTimingWrite .., h => (execDrcTimingWrite_eff _ _ _ _ s).keepsTick h rfl
  | .calSnap .., h => (execCalSnap_eff _ _ s).keepsTick h rfl
  | .calNudgeWrite .., h => (execCalNudgeWrite_eff _ _ _ _ s).keepsTick h rfl
  | .rankTrainingExit .., h => (execRankTrainingExit_eff _ _ _ s).keepsTick h rfl
  | .evacuationDone, h => (execEvacuationDone_eff s).keepsTick h rfl
  | .restoreCopyDone, h => (execRestoreCopyDone_eff s).keepsTick h rfl
  | .linkGo .., h => (execLinkGo_eff _ _ s).keepsTick h rfl
  | .hello .., h => (execHello_eff _ s).keepsTick h rfl
  | .heartbeatSend, h => (execHeartbeatSend_eff s).keepsTick h rfl
  | .heartbeat senderTick epoch intact, h => (execHeartbeat_eff senderTick epoch intact s).keepsTick h rfl
  | .heartbeatTimeout, h => (execHeartbeatTimeout_eff s).keepsTick h rfl
  | .pairLinkLoss, h => (execPairLinkLoss_eff s).keepsTick h rfl
  | .tossResend, h => (execTossResend_eff s).keepsTick h rfl
  | .tossAnswer .., h => (execTossAnswer_eff _ _ _ _ _ _ s).keepsTick h rfl
  | .tossTimeout, h => (execTossTimeout_eff s).keepsTick h rfl
  | .partnerLossDetect, h => (execPartnerLossDetect_eff s).keepsTick h rfl
  | .flitReceive .., h => (execFlitReceive_eff _ _ _ _ _ _ s).keepsTick h rfl
  | .regionList .., h => (execRegionList_eff _ s).keepsTick h rfl
  | .applied table seq home, h => (execApplied_eff table seq home s).keepsTick h rfl
  | .memAck .., h => (execMemAck_eff _ s).keepsTick h rfl
  | .mutDone .., h => (execMutDone_eff _ _ _ s).keepsTick h rfl
  | .mirOp .., h => (execMirOp_eff _ s).keepsTick h rfl
  | .mirOpCommit, h => (execMirOpCommit_eff s).keepsTick h rfl
  | .mirReady .., h => (execMirReady_eff _ _ s).keepsTick h rfl
  | .fwdMut .., h => (execFwdMut_eff _ _ _ _ _ s).keepsTick h rfl
  | .resyncRow .., h => (execResyncRow_eff _ s).keepsTick h rfl
  | .resyncBlock .., h => (execResyncBlock_eff _ _ _ s).keepsTick h rfl
  | .rdrReq .., h => (execRdrReq_eff _ _ _ s).keepsTick h rfl
  | .rdrRsp .., h => (execRdrRsp_eff _ _ _ s).keepsTick h rfl
  | .pageReq .., h => (execPageReq_eff _ s).keepsTick h rfl
  | .pageBlock .., h => (execPageBlock_eff _ _ _ s).keepsTick h rfl
  | .resyncDone .., h => (execResyncDone_eff _ s).keepsTick h rfl
  | .tallyVisit, h => (execTallyVisit_eff s).keepsTick h rfl
  | .tallyRepair, h => (execTallyRepair_eff s).keepsTick h rfl
  | .tallyOutOfTurn, h => (execTallyOutOfTurn_eff s).keepsTick h rfl
  | .shadowDrain, h => (execShadowDrain_eff s).keepsTick h rfl
  | .shadowDirtyFill .., h => (execShadowDirtyFill_eff _ s).keepsTick h rfl
  | .blockSenseFault .., h => (execBlockSenseFault_eff _ s).keepsTick h rfl
  | .spareRebuildSwitch, h => (execSpareRebuildSwitch_eff s).keepsTick h rfl
  | .sparePauseEnd, h => (execSparePauseEnd_eff s).keepsTick h rfl
  | .mpWdogKick .., h => (execMpWdogKick_eff _ _ s).keepsTick h rfl
  | .mpWatchdogExpiry, h => (execMpWatchdogExpiry_eff s).keepsTick h rfl
  | .deviceFatal .., h => (execDeviceFatal_eff _ s).keepsTick h rfl
  | .rasEvtConsWrite .., h => (execRasEvtConsWrite_eff _ _ s).keepsTick h rfl
  | .evtCoalesceExpiry, h => (execEvtCoalesceExpiry_eff s).keepsTick h rfl
  | .rasInjGo .., h => (execRasInjGo_eff _ _ s).keepsTick h rfl
  | .glbIntStatusWrite .., h => (execGlbIntStatusWrite_eff _ _ s).keepsTick h rfl
  | .glbIntEnableWrite .., h => (execGlbIntEnableWrite_eff _ _ s).keepsTick h rfl
  | .mboxOwnerRead .., h => (execMboxOwnerRead_eff _ s).keepsTick h rfl
  | .mboxRelease .., h => (execMboxRelease_eff _ s).keepsTick h rfl
  | .ownerCmdComplete, h => (execOwnerCmdComplete_eff s).keepsTick h rfl
  | .bar0BadAccess .., h => (execBar0BadAccess_eff _ _ _ _ s).keepsTick h rfl
  | .registerWrite .., h => (execRegisterWrite_eff _ _ _ _ s).keepsTick h rfl
  | .powerGoodRise, h => (execPowerGoodRise_eff s).keepsTick h rfl
  | .bootPhaseAdvance .., h => (execBootPhaseAdvance_eff _ _ s).keepsTick h rfl
  | .spdmRequest inSession measIndex, h => (execSpdmRequest_eff inSession measIndex s).keepsTick h rfl
  | .keyLoad .., h => (execKeyLoad_eff _ _ _ _ _ s).keepsTick h rfl
  | .keyErase .., h => (execKeyErase_eff _ _ _ s).keepsTick h rfl
  | .keyQuery .., h => (execKeyQuery_eff _ _ _ s).keepsTick h rfl
  | .lcTransition .., h => (execLcTransition_eff _ _ _ _ _ s).keepsTick h rfl
  | .lockSet .., h => (execLockSet_eff _ s).keepsTick h rfl
  | .fwConfirm .., h => (execFwConfirm_eff _ s).keepsTick h rfl
  | .trialWindowExpiry, h => (execTrialWindowExpiry_eff s).keepsTick h rfl
  | .compatProfileWrite .., h => (execCompatProfileWrite_eff _ _ s).keepsTick h rfl
  | .thermalSample .., h => (execThermalSample_eff _ s).keepsTick h rfl
  | .gweutLinkUp .., h => (execGweutLinkUp_eff _ _ _ s).keepsTick h rfl
  | .mpProcessorFault, h => (execMpProcessorFault_eff s).keepsTick h rfl
  | .mpRestartComplete, h => (execMpRestartComplete_eff s).keepsTick h rfl

/-- A change whose footprint does not name the tick leaves it alone. -/
theorem Eff.tick {w : Nat} {s t : State} (h : Eff w s t) (hw : w.testBit 5 = false) : t.tick = s.tick := h.same .tick hw

theorem State.closeTick_tick (s : State) : s.closeTick.tick = s.tick := (State.closeTick_eff s).tick rfl

/-- The one step of the opening tick that moves the counter is its first. -/
theorem State.openTick_tick (s : State) : s.openTick.tick = s.tick + 1 := by
  simp only [State.openTick, apply_ite State.tick, (State.thermTick_eff _).tick rfl, (State.applyWrites_eff _).tick rfl,
    (State.blkDue_eff _).tick rfl, (State.widenDue_eff _).tick rfl, (State.freeLeft_eff _).tick rfl,
    (State.releaseHolds_eff _).tick rfl, (State.mirOpen_eff _ _).tick rfl, (State.queueOpen_eff _).tick rfl,
    (State.refreshCopies_eff _).tick rfl, (State.arbitrate_eff _ _ _).tick rfl, (State.settleWithdrawn_eff _).tick rfl,
    (State.fillBanks_eff _ _).tick rfl, (State.settleWindows_eff _).tick rfl, (State.maintRetry_eff _).tick rfl,
    State.evtCheck_tick, ite_self]

theorem execTick_tick {s : State} (hc : s.pins.cold = false) (hw : s.pins.warm = false) :
    Runs .tick s (fun t => t.tick = s.tick + 1) := by
  refine ⟨_, rfl, ?_⟩
  by_cases ht : s.pins.tripped = true
  · simp [hc, hw, ht]
  · simp [hc, hw, ht, State.openTick_tick, State.closeTick_tick]

theorem State.strapPair_tick (s : State) : s.strapPair.tick = s.tick := (State.strapPair_eff s).tick rfl

theorem coldResetRelease_tick (straps : BitVec 9) {s : State} (hc : s.pins.cold = true) (hg : s.pins.good = true) :
    Runs (.coldResetRelease straps) s (fun t => t.tick = 0) := by
  refine ⟨_, rfl, ?_⟩
  simp [State.when, hc, hg, State.strapPair_tick]

theorem sysResetRelease_tick {s : State} (hw : s.pins.warm = true) : Runs .sysResetRelease s (fun t => t.tick = 0) := by
  refine ⟨_, rfl, ?_⟩
  simp [State.when, hw, apply_ite State.tick]

/-- Settles O12: the counter moves in the first step of the opening tick only, and every other command's footprint leaves it out. -/
theorem tickCounterFollowsR40 : Obligations.TickCounterFollowsR40 :=
  ⟨fun _ hc hw => execTick_tick hc hw, fun straps _ hc hg => coldResetRelease_tick straps hc hg,
    fun _ hw => sysResetRelease_tick hw,
    fun c s t h hne => (exec_tick_or_setsTick s t c h).resolve_left hne⟩

end Sys2Proof.Machine
end

section
/-! SUPPORT. Proofs. The search pipeline (02 R46, R60 to R65): delivery, back-off, watchdog, fixtures and port masks. -/

set_option Elab.async false

namespace Sys2Proof.Machine

/-! ### Commands that act while the block is up -/

theorem whileUp_of_up {s : State} (h : s.up = true) (f : State → State) : whileUp s f = .next (f s) := by
  simp [whileUp, h]

/-- A command whose effect is none where it acts is none everywhere. -/
theorem whileUp_of_fixed {s : State} {f : State → State} (h : f s = s) : whileUp s f = .next s := by
  simp [whileUp, h]

theorem whileServing_of_up {s : State} (h : s.up = true) (hf : s.pins.fatal = false) (f : State → State) :
    whileServing s f = .next (f s) := by
  simp [whileServing, h, hf]

theorem State.when_true {s : State} {c : Bool} (h : c = true) (f : State → State) : s.when c f = f s := by
  simp [State.when, h]

theorem State.when_false {s : State} {c : Bool} (h : c = false) (f : State → State) : s.when c f = s := by
  simp [State.when, h]

/-! ### What an outcome leaves unchanged -/

@[simp] theorem State.resolve_arb (s : State) (o r) : (s.resolve o r).arb = s.arb := (State.resolve_eff s o r).same .arb rfl
@[simp] theorem State.resolve_arr (s : State) (o r) : (s.resolve o r).arr = s.arr := (State.resolve_eff s o r).same .arr rfl
@[simp] theorem State.resolve_tbl (s : State) (o r) : (s.resolve o r).tbl = s.tbl := (State.resolve_eff s o r).same .tbl rfl

theorem State.iface_congr {s t : State} (h : t.arb.ifaces = s.arb.ifaces) (n p : Nat) : t.iface n p = s.iface n p := by
  rw [State.iface, h, State.iface]

theorem State.heldBy_congr {s t : State} (h : t.arb.holds = s.arb.holds) (p x : Nat) : t.heldBy p x = s.heldBy p x := by
  rw [State.heldBy, h, State.heldBy]

/-! ### SEARCH_RESULT_DELIVER -/

theorem State.searchDeliver_none {s : State} {p : Nat}
    (h : ∀ f ∈ s.arb.flights, f.port = p → s.tick < f.g + 15) : s.searchDeliver p = s := by
  have hnone : s.arb.flights.find? (fun f => f.bestDue p s.tick) = none := by
    refine List.find?_eq_none.mpr fun f hf hd => ?_
    simp only [Flight.bestDue, Bool.and_eq_true, beq_iff_eq, decide_eq_true_eq] at hd
    obtain ⟨⟨⟨⟨hp, -⟩, -⟩, ht⟩, -⟩ := hd
    have := h f hf hp
    omega
  rw [State.searchDeliver, hnone]

theorem exec_searchResultDeliver (p : SPort) (s : State) :
    exec (.searchResultDeliver p) s = whileUp s (fun s => s.searchDeliver p.val) := rfl

theorem execSearchResultDeliver_req {p : SPort} {f : Flight} {c n : Nat} {s : State} (hu : s.up = true)
    (hf : s.arb.flights.find? (fun f => f.bestDue p.val s.tick) = some f) (ho : f.op.origin = .req c n) :
    exec (.searchResultDeliver p) s = .next ((s.dropFlight f).resolve (.req c n) f.localOutc) := by
  rw [exec_searchResultDeliver, whileUp_of_up hu, State.searchDeliver, hf]
  simp only [ho]

theorem Flight.localOutc_refused {f : Flight} {st : Nat} (h : f.refused = some st) :
    f.localOutc = refusal f.op.table st := by
  simp [Flight.localOutc, h]

theorem Flight.localOutc_noWin {f : Flight} {d : Found} (hr : f.refused = none) (hd : f.found = some d) (hw : d.wins = []) :
    f.localOutc = { status := St.noMatch, tick := d.tick, gen := d.gen, table := f.op.table } := by
  simp [Flight.localOutc, hr, hd, hw]

/-- The outcome of a search that asks for no image, from its first winner. -/
theorem Flight.localOutc_win {f : Flight} {d : Found} {w : Win} {ws : List Win} {k : SearchKey} {ten : Bool}
    (hr : f.refused = none) (hd : f.found = some d) (hw : d.wins = w :: ws) (ha : f.op.act = .search k ten false) :
    f.localOutc =
      { status := if w.fails then St.poisoned else St.success, tick := d.tick, gen := d.gen, table := f.op.table,
        count := d.count, multi := decide (2 ≤ d.count), handle := w.row.handle, prio := w.row.prio,
        res := if w.fails then 0 else w.row.res, hit := true } := by
  simp [Flight.localOutc, hr, hd, hw, ha]

/-! ### BACKOFF_EXPIRY, FIX_APPLY and ARB_PORT_MASK_WRITE -/

/-- The wait of an interface is over and it requests again. -/
def State.backoffDone (s : State) (n p : Nat) : State :=
  s.when (decide (0 < (s.iface n p).losses) && decide ((s.iface n p).nextReq ≤ s.tick))
    (fun s' => s'.setIface n p { s.iface n p with nextReq := 0 })

theorem exec_backoffExpiry (i : Fin 16) (p : SPort) (s : State) :
    exec (.backoffExpiry i p) s = whileUp s (fun s => s.backoffDone i.val p.val) := rfl

theorem State.backoffDone_due {n p : Nat} {s : State} (hl : 0 < (s.iface n p).losses) (hn : (s.iface n p).nextReq ≤ s.tick) :
    s.backoffDone n p = s.setIface n p { s.iface n p with nextReq := 0 } :=
  State.when_true (by simp [hl, hn]) _

theorem State.backoffDone_early {n p : Nat} {s : State} (hn : s.tick < (s.iface n p).nextReq) : s.backoffDone n p = s :=
  State.when_false (by simp [hn]) _

/-- Copying registers one after another, none of which is a source of the copy, stores each source at its target. -/
theorem State.reg_copyRegs (src dst : Nat → Nat) (s : State) (k : Nat) (hinj : ∀ i j, dst i = dst j → i = j)
    (hsep : ∀ i < k, ∀ j < k, src i ≠ dst j) :
    (∀ n < k, ((List.range k).foldl (fun s n => s.setReg (dst n) (s.reg (src n))) s).reg (dst n) = s.reg (src n)) ∧
    ∀ o, (∀ n < k, o ≠ dst n) → ((List.range k).foldl (fun s n => s.setReg (dst n) (s.reg (src n))) s).reg o = s.reg o := by
  induction k with
  | zero => simp
  | succ k ih =>
    obtain ⟨hcopy, hrest⟩ := ih fun i hi j hj => hsep i (by omega) j (by omega)
    simp only [List.range_succ, List.foldl_append, List.foldl_cons, List.foldl_nil]
    refine ⟨fun n hn => ?_, fun o ho => ?_⟩
    · by_cases h : n = k
      · subst h
        rw [State.reg_setReg_same, hrest _ fun j hj => hsep n (by omega) j (by omega)]
      · rw [State.reg_setReg_other _ _ _ _ fun e => h (hinj _ _ e)]
        exact hcopy n (by omega)
    · rw [State.reg_setReg_other _ _ _ _ (ho k (by omega))]
      exact hrest o fun n hn => ho n (by omega)

theorem exec_fixApply (who : Who) (s : State) :
    exec (.fixApply who) s = whileUp s (fun s => s.when (s.mayBar0 who) State.fixApply) := rfl

theorem State.fixApply_reg (s : State) :
    (∀ n < 32, s.fixApply.reg (0x10300 + 8 * n) = s.reg (0x10200 + 8 * n)) ∧
      ∀ o, (∀ n < 32, o ≠ 0x10300 + 8 * n) → s.fixApply.reg o = s.reg o :=
  State.reg_copyRegs (fun n => 0x10200 + 8 * n) (fun n => 0x10300 + 8 * n) s 32 (by intros; omega) (by intros; omega)

theorem exec_arbPortMaskWrite (who : Who) (i : Fin 16) (m : BitVec 8) (s : State) :
    exec (.arbPortMaskWrite who i m) s =
      whileUp s (fun s => s.when (s.mayBar0 who && decide (8 ≤ i.val) && (i.val == 15 || m != 0))
        (fun s => s.setF ⟨0x10100 + 8 * i.val, 0, 8⟩ m.toNat)) := rfl

theorem execArbPortMaskWrite_runs {who : Who} {i : Fin 16} {m : BitVec 8} {s : State} (hu : s.up = true)
    (hm : s.mayBar0 who = true) (hi : 8 ≤ i.val) (hz : i.val = 15 ∨ m ≠ 0) :
    Runs (.arbPortMaskWrite who i m) s
      (fun t => t.portMask i.val = m.toNat ∧ ∀ o, o ≠ 0x10100 + 8 * i.val → t.reg o = s.reg o) := by
  have hc : (s.mayBar0 who && decide (8 ≤ i.val) && (i.val == 15 || m != 0)) = true := by simpa [hm, hi] using hz
  refine ⟨s.setF ⟨0x10100 + 8 * i.val, 0, 8⟩ m.toNat, ?_, ?_, fun o ho => State.reg_setF_other _ _ _ _ ho⟩
  · rw [exec_arbPortMaskWrite, whileUp_of_up hu, State.when_true hc]
  · exact State.f_setF_same s ⟨0x10100 + 8 * i.val, 0, 8⟩ m.toNat (by simp) m.isLt

theorem execArbPortMaskWrite_ignored {who : Who} {i : Fin 16} {m : BitVec 8} {s : State}
    (h : i.val < 8 ∨ (i.val ≠ 15 ∧ m = 0)) : exec (.arbPortMaskWrite who i m) s = .next s := by
  have hc : (s.mayBar0 who && decide (8 ≤ i.val) && (i.val == 15 || m != 0)) = false := by
    rcases h with h | ⟨h, rfl⟩
    · simp [Nat.not_le.mpr h]
    · simp [h]
  exact (exec_arbPortMaskWrite who i m s).trans (whileUp_of_fixed (State.when_false hc _))

/-! ### ARB_WATCHDOG_FIRE -/

theorem State.wdogFire_early {s : State} {p n g : Nat} (hh : SMap.get (fun _ => none) s.arb.holds p = some ⟨n, g, none⟩)
    (ht : s.tick < g + 4096) : s.wdogFire p = s := by
  simp [State.wdogFire, hh, ht]

/-- The requester's hold ends and its losses are zero; its queue stays. -/
def State.wdogFreed (s : State) (p n : Nat) : State :=
  let s := s.setIface n p { s.iface n p with losses := 0 }
  { s with arb := { s.arb with holds := SMap.set (fun _ => none) s.arb.holds p none } }

/-- The flight of the grant, if there is one, ends ABORTED. -/
def State.wdogAbort (s : State) (p n g : Nat) : State :=
  match s.arb.flights.find? (fun f => f.port == p && f.input == n && f.g == g) with
  | some f => (s.dropFlight f).resolve f.op.origin { refusal f.op.table St.aborted with tick := s.tick }
  | none => s

/-- The status register names port and input (02 R65). -/
def State.wdogLog (s : State) (p n : Nat) : State :=
  ((s.setF ⟨0x10018, 0, 3⟩ p).setF ⟨0x10018, 4, 4⟩ n).setF ⟨0x10018, 8 + p, 1⟩ 1

theorem State.wdogFire_due {s : State} {p n g : Nat} (hh : SMap.get (fun _ => none) s.arb.holds p = some ⟨n, g, none⟩)
    (ht : g + 4096 ≤ s.tick) :
    s.wdogFire p = (((s.wdogFreed p n).wdogAbort p n g).wdogLog p n).raise .arbWdog (p + n * 16) 0 := by
  rw [State.wdogFire, hh]
  simp only [Nat.not_lt.mpr ht, if_false]
  rfl

theorem State.wdogAbort_rest (s : State) (p n g : Nat) : (s.wdogAbort p n g).arr = s.arr ∧ (s.wdogAbort p n g).tbl = s.tbl ∧
    (s.wdogAbort p n g).arb.holds = s.arb.holds ∧ (s.wdogAbort p n g).arb.ifaces = s.arb.ifaces := by
  unfold State.wdogAbort
  split <;> simp [State.dropFlight]

theorem State.wdogLog_rest (s : State) (p n : Nat) :
    (s.wdogLog p n).arb = s.arb ∧ (s.wdogLog p n).arr = s.arr ∧ (s.wdogLog p n).tbl = s.tbl := by
  simp [State.wdogLog]

theorem State.wdogLog_f {s : State} {p n : Nat} (hp : p < 8) (hn : n < 16) :
    (s.wdogLog p n).f ⟨0x10018, 0, 3⟩ = p ∧ (s.wdogLog p n).f ⟨0x10018, 4, 4⟩ = n ∧
    (s.wdogLog p n).f ⟨0x10018, 8 + p, 1⟩ = 1 := by
  unfold State.wdogLog
  refine ⟨?_, ?_, State.f_setF_same _ ⟨0x10018, 8 + p, 1⟩ 1 (by simp; omega) (by simp)⟩
  · rw [State.f_setF_field _ ⟨0x10018, 8 + p, 1⟩ ⟨0x10018, 0, 3⟩ _ rfl (by simp; omega) (by decide) (by simp; omega),
      State.f_setF_field _ ⟨0x10018, 4, 4⟩ ⟨0x10018, 0, 3⟩ _ rfl (by decide) (by decide) (by decide)]
    exact State.f_setF_same _ ⟨0x10018, 0, 3⟩ _ (by decide) hp
  · rw [State.f_setF_field _ ⟨0x10018, 8 + p, 1⟩ ⟨0x10018, 4, 4⟩ _ rfl (by simp; omega) (by decide) (by simp)]
    exact State.f_setF_same _ ⟨0x10018, 4, 4⟩ _ (by decide) hn

theorem exec_arbWatchdogFire (p : SPort) (s : State) : exec (.arbWatchdogFire p) s = whileUp s (fun s => s.wdogFire p.val) := rfl

theorem State.wdogFreed_heldBy (s : State) (p n t : Nat) : (s.wdogFreed p n).heldBy p t = none := by
  simp [State.heldBy, State.wdogFreed]

theorem State.wdogFreed_iface (s : State) (p n : Nat) : (s.wdogFreed p n).iface n p = { s.iface n p with losses := 0 } :=
  SMap.get_set_same _ _ _ _

theorem State.wdogAbort_flights {s : State} {p n g : Nat} {f : Flight}
    (hf : s.arb.flights.find? (fun f => f.port == p && f.input == n && f.g == g) = some f) :
    (s.wdogAbort p n g).arb.flights = s.arb.flights.erase f := by
  rw [State.wdogAbort, hf]
  exact congrArg Arb.flights (State.resolve_arb _ _ _)

theorem State.wdogFire_due_effect {s : State} {p n g : Nat} (hp : p < 8) (hn : n < 16)
    (hh : SMap.get (fun _ => none) s.arb.holds p = some ⟨n, g, none⟩) (ht : g + 4096 ≤ s.tick) :
    (s.wdogFire p).heldBy p (s.tick + 1) = none ∧ ((s.wdogFire p).iface n p).q = (s.iface n p).q ∧
      ((s.wdogFire p).iface n p).losses = 0 ∧ (s.wdogFire p).f ⟨0x10018, 0, 3⟩ = p ∧ (s.wdogFire p).f ⟨0x10018, 4, 4⟩ = n ∧
      (s.wdogFire p).f ⟨0x10018, 8 + p, 1⟩ = 1 ∧ (s.wdogFire p).arr = s.arr ∧ (s.wdogFire p).tbl = s.tbl ∧
      ∀ f, s.arb.flights.find? (fun f => f.port == p && f.input == n && f.g == g) = some f →
        (s.wdogFire p).arb.flights = s.arb.flights.erase f := by
  rw [State.wdogFire_due hh ht]
  obtain ⟨harr, htbl, hholds, hif⟩ := State.wdogAbort_rest (s.wdogFreed p n) p n g
  generalize hu : (s.wdogFreed p n).wdogAbort p n g = u at *
  have hlog : ∀ y : F, y.off = 0x10018 → ((u.wdogLog p n).raise .arbWdog (p + n * 16) 0).f y = (u.wdogLog p n).f y :=
    fun y hy => State.f_raise _ _ _ _ _ (by simp [evtReg, hy])
  have harb : ((u.wdogLog p n).raise .arbWdog (p + n * 16) 0).arb = u.arb :=
    (State.raise_arb _ _ _ _).trans (u.wdogLog_rest p n).1
  obtain ⟨hf0, hf4, hf8⟩ := State.wdogLog_f (s := u) hp hn
  have hi : ((u.wdogLog p n).raise .arbWdog (p + n * 16) 0).iface n p = { s.iface n p with losses := 0 } :=
    (State.iface_congr (harb ▸ hif) n p).trans (State.wdogFreed_iface s p n)
  refine ⟨?_, by rw [hi], by rw [hi], (hlog _ rfl).trans hf0, (hlog _ rfl).trans hf4,
    (hlog _ rfl).trans hf8, (State.raise_arr _ _ _ _).trans ((u.wdogLog_rest p n).2.1.trans harr),
    (State.raise_tbl _ _ _ _).trans ((u.wdogLog_rest p n).2.2.trans htbl), fun f hf => ?_⟩
  · exact (State.heldBy_congr (harb ▸ hholds) p _).trans (State.wdogFreed_heldBy s p n _)
  · rw [harb, ← hu]
    exact State.wdogAbort_flights hf

/-- Settles O44: each command's effect is the one its equation names, and before its tick there is none. -/
theorem searchPipelineCommandsAct : Obligations.SearchPipelineCommandsAct := by
  refine ⟨?_, ?_, ?_, ?_, ?_, ?_, ?_, ?_, ?_, ?_, ?_, ?_⟩
  · intro p f d c n s hu hf hr hd hw ho
    rw [execSearchResultDeliver_req hu hf ho, Flight.localOutc_noWin hr hd hw]
  · intro p f d w ws k ten c n s hu hf hr hd hw ho ha hok
    rw [execSearchResultDeliver_req hu hf ho, Flight.localOutc_win hr hd hw ha]
    simp [hok]
  · intro p f d w ws k ten c n s hu hf hr hd hw ho ha hbad
    rw [execSearchResultDeliver_req hu hf ho, Flight.localOutc_win hr hd hw ha]
    simp [hbad]
  · intro p f st c n s hu hf hr ho
    rw [execSearchResultDeliver_req hu hf ho, Flight.localOutc_refused hr]
  · exact fun p s h => (exec_searchResultDeliver p s).trans (whileUp_of_fixed (State.searchDeliver_none h))
  · intro i p s hu hl hn
    rw [exec_backoffExpiry, whileUp_of_up hu, State.backoffDone_due hl hn]
  · exact fun i p s hn => (exec_backoffExpiry i p s).trans (whileUp_of_fixed (State.backoffDone_early hn))
  · intro p n g s hu hh hn ht
    exact ⟨_, (exec_arbWatchdogFire p s).trans (whileUp_of_up hu _), State.wdogFire_due_effect p.isLt hn hh ht⟩
  · exact fun p n g s hh ht => (exec_arbWatchdogFire p s).trans (whileUp_of_fixed (State.wdogFire_early hh ht))
  · intro who s hu hm
    exact ⟨s.fixApply, by rw [exec_fixApply, whileUp_of_up hu, State.when_true hm], s.fixApply_reg⟩
  · exact fun who i m s hu hm hi hz => execArbPortMaskWrite_runs hu hm hi hz
  · exact fun who i m s h => execArbPortMaskWrite_ignored h

end Sys2Proof.Machine
end

section
/-! SUPPORT. Proofs. The cascade (02 R50 to R54, 06 R199): requests, replies, declines, merges and enumerate replies. -/

set_option Elab.async false

namespace Sys2Proof.Machine

/-! ### CAS_REQ -/

theorem exec_casReq (m : CasMsg) (s : State) : exec (.casReq m) s = whileServing s (fun s => s.casReq m) := rfl

theorem State.casReq_late {m : CasMsg} {s : State} (h : s.localTick m.t0 + 27 < Int.ofNat s.tick) :
    s.casReq m = (s.inc fLate).decline m.t0 := by
  simp only [State.casReq, gt_iff_lt, h, if_true, State.inc_tick, decide_true, Bool.true_or]

/-- In time, but not for an OPEN CASCADE table. -/
theorem State.casReq_notOpen {m : CasMsg} {s : State} (h : Int.ofNat s.tick ≤ s.localTick m.t0 + 27)
    (ht : (s.tb m.table.val).state ≠ 2 ∨ Prof.pairMode (s.tb m.table.val).profile ≠ 2) :
    s.casReq m = s.decline m.t0 := by
  have hin : ¬ s.localTick m.t0 + 27 < Int.ofNat s.tick := Int.not_lt.mpr h
  have hbad : ((s.tb m.table.val).state != 2 || Prof.pairMode (s.tb m.table.val).profile != 2) = true := by simpa using ht
  simp only [State.casReq, gt_iff_lt, hin, if_false, decide_false, Bool.false_or, hbad, if_true]

/-- The ticks that a cascade-in holds its port for (02 R51, R54). -/
def casSpan (m : CasMsg) : Nat := if m.enum then 9 else 1

/-- The operation that a cascade-in runs. -/
def casOp (m : CasMsg) : ArrOp :=
  { table := m.table.val, act := if m.enum then Act.pass {} false m.floor 0 true else Act.search {} false false,
    origin := .partner m.t0, cells := some m.keys }

/-- In time and for an OPEN CASCADE table: the first port that can take it is reserved, or the request is declined. -/
theorem State.casReq_open {m : CasMsg} {s : State} (h : Int.ofNat s.tick ≤ s.localTick m.t0 + 27)
    (hst : (s.tb m.table.val).state = 2) (hpm : Prof.pairMode (s.tb m.table.val).profile = 2) :
    s.casReq m =
      if s.paused m.table.val (s.localTick m.t0 + 36).toNat then s.decline m.t0 else
      match s.cascadePort (s.tb m.table.val).placement (s.localTick m.t0 + 36).toNat (casSpan m) with
      | none => s.decline m.t0
      | some p => { s with arb := { s.arb with resvs := s.arb.resvs ++ [⟨p, (s.localTick m.t0 + 36).toNat, casSpan m, 15, casOp m⟩] } } := by
  have hin : ¬ s.localTick m.t0 + 27 < Int.ofNat s.tick := Int.not_lt.mpr h
  simp only [State.casReq, gt_iff_lt, hin, if_false, hst, hpm, bne_self_eq_false, decide_false, Bool.or_self, Bool.false_eq_true]
  rfl

/-! ### CAS_REPLY and CAS_DECLINE -/

theorem exec_casReply (r : CasRep) (s : State) : exec (.casReply r) s = whileUp s (fun s => s.casReply r) := rfl

theorem exec_casDecline (x : Nat) (s : State) : exec (.casDecline x) s = whileUp s (fun s => s.casDecline x) := rfl

theorem State.casReply_due {f : Flight} {r : CasRep} {k : SearchKey} {a b : Bool} {s : State} (hf : s.arb.flights = [f])
    (hc : f.cascaded = true) (hg : f.g + 77 = s.tick) (hr : f.reply = none) (hd : f.declined = false)
    (ha : f.op.act = .search k a b) :
    s.casReply r = if r.intact then { s with arb := { s.arb with flights := [{ f with reply := some r }] } } else s := by
  simp [State.casReply, State.cascFlight, State.putFlight, State.mapFlights, hf, hc, hg, hr, hd, ha]

theorem State.casReply_late {f : Flight} {r : CasRep} {s : State} (hf : s.arb.flights = [f])
    (hc : f.cascaded = true) (hg : f.g + 77 < s.tick) (hr : f.reply = none) : s.casReply r = s.inc fLate := by
  have hne : ¬ f.g + 77 = s.tick := by omega
  simp [State.casReply, State.cascFlight, hf, hc, hg, hr, hne]

/-- Replacing the first of the flights, which does not occur again. -/
theorem State.putFlight_head {f f' : Flight} {rest : List Flight} {s : State} (hf : s.arb.flights = f :: rest) (hn : f ∉ rest) :
    s.putFlight f f' = { s with arb := { s.arb with flights := f' :: rest } } := by
  have hrest : rest.map (fun x => if x = f then f' else x) = rest :=
    (List.map_congr_left fun x hx => if_neg fun (e : x = f) => hn (e ▸ hx)).trans (List.map_id _)
  simp [State.putFlight, State.mapFlights, hf, hrest]

theorem State.casDecline_head {f : Flight} {rest : List Flight} {s : State} (hf : s.arb.flights = f :: rest)
    (hc : f.cascaded = true) (hr : f.reply = none) (hd : f.declined = false) (hn : f ∉ rest) :
    s.casDecline f.g = { s with arb := { s.arb with flights := { f with declined := true } :: rest } } := by
  have hfind : s.cascFlight (fun x => x.g == f.g && x.reply.isNone && !x.declined) = some f := by
    simp [State.cascFlight, hf, hc, hr, hd]
  rw [State.casDecline, hfind]
  exact State.putFlight_head hf hn

theorem State.casDecline_none {x : Nat} {s : State}
    (h : ∀ f ∈ s.arb.flights, f.g ≠ x ∨ f.cascaded = false ∨ f.reply.isSome = true ∨ f.declined = true) :
    s.casDecline x = s := by
  have hnone : s.cascFlight (fun f => f.g == x && f.reply.isNone && !f.declined) = none := by
    refine List.find?_eq_none.mpr fun f hf hd => ?_
    simp only [Bool.and_eq_true, beq_iff_eq, Option.isNone_iff_eq_none, Bool.not_eq_true'] at hd
    obtain ⟨hc, ⟨hg, hr⟩, hn⟩ := hd
    simpa [hg, hc, hr, hn] using h f hf
  rw [State.casDecline, hnone]

/-! ### CASCADE_MERGE -/

theorem exec_cascadeMerge (p : SPort) (s : State) :
    exec (.cascadeMerge p) s = whileUp s (fun s => s.cascadeMerge p.val) := rfl

section
variable {p : Nat} {f : Flight} {k : SearchKey} {a b : Bool} {s : State} (hf : s.arb.flights = [f]) (hc : f.cascaded = true)
  (hp : f.port = p) (hs : f.stuck = false) (hg : f.g + 79 ≤ s.tick) (ha : f.op.act = .search k a b) (hr : f.refused = none)
include hf hc hp hs hg ha hr

/-- At t79 the one cascaded search of the port is merged with its reply. -/
theorem State.cascadeMerge_reply {r : CasRep} (hrep : f.reply = some r) :
    s.cascadeMerge p = (s.dropFlight f).resolve f.op.origin (mergeCascade f.localOutc r) := by
  simp [State.cascadeMerge, State.cascFlight, hf, hc, hp, hs, hg, ha, hr, hrep]

/-- At t79 a cascaded search without a reply ends with its local result, PARTIAL (02 R53). -/
theorem State.cascadeMerge_partial (hrep : f.reply = none) (hpo : f.localOutc.status ≠ St.poisoned) :
    s.cascadeMerge p = ((s.dropFlight f).inc fPartialLocal).resolve f.op.origin { f.localOutc with status := St.partial_ } := by
  simp [State.cascadeMerge, State.cascFlight, hf, hc, hp, hs, hg, ha, hr, hrep, hpo]

end

theorem State.cascadeMerge_none {p : Nat} {s : State}
    (h : ∀ f ∈ s.arb.flights, f.port = p → f.cascaded = true → s.tick < f.g + 79) : s.cascadeMerge p = s := by
  unfold State.cascadeMerge
  split
  · rfl
  · next f hfind =>
    have hd := List.find?_some hfind
    simp only [Bool.and_eq_true, beq_iff_eq, decide_eq_true_eq] at hd
    obtain ⟨hc, ⟨⟨hp, -⟩, ht⟩, -⟩ := hd
    have := h f (List.mem_of_find?_eq_some hfind) hp hc
    omega

/-- The partner's record wins the merge (06 R199). -/
def partnerWins (l : Outc) (r : CasRep) : Bool :=
  r.hit && (!l.hit || decide (r.prio.toNat * 2 ^ 22 + r.handle.toNat < l.prio * 2 ^ 22 + l.handle))

/-- The merged counts, with the winner's fields. -/
theorem mergeCascade_eq (l : Outc) (r : CasRep) : mergeCascade l r =
    { (if partnerWins l r then
        { l with status := r.status.toNat, handle := r.handle.toNat, prio := r.prio.toNat, res := r.res, hit := true, partner := true }
      else if l.hit then l else { l with status := St.noMatch }) with
      count := min (l.count + r.count.toNat) 65535, multi := decide (2 ≤ min (l.count + r.count.toNat) 65535) } := by
  unfold mergeCascade partnerWins
  dsimp only
  split
  · rfl
  · split <;> rfl

theorem mergeCascade_partner {l : Outc} {r : CasRep} (hr : r.hit = true)
    (h : l.hit = false ∨ r.prio.toNat * 2 ^ 22 + r.handle.toNat < l.prio * 2 ^ 22 + l.handle) :
    (mergeCascade l r).partner = true ∧ (mergeCascade l r).handle = r.handle.toNat ∧ (mergeCascade l r).prio = r.prio.toNat ∧
      (mergeCascade l r).res = r.res ∧ (mergeCascade l r).status = r.status.toNat := by
  have hw : partnerWins l r = true := by simpa [partnerWins, hr] using h
  rw [mergeCascade_eq, if_pos hw]
  exact ⟨rfl, rfl, rfl, rfl, rfl⟩

theorem mergeCascade_local {l : Outc} {r : CasRep} (hl : l.hit = true)
    (h : r.hit = false ∨ l.prio * 2 ^ 22 + l.handle ≤ r.prio.toNat * 2 ^ 22 + r.handle.toNat) :
    (mergeCascade l r).partner = l.partner ∧ (mergeCascade l r).handle = l.handle ∧ (mergeCascade l r).prio = l.prio ∧
      (mergeCascade l r).res = l.res ∧ (mergeCascade l r).status = l.status := by
  have hw : ¬ partnerWins l r = true := by
    rcases h with h | h
    · simp [partnerWins, h]
    · have hlt : ¬ r.prio.toNat * 2 ^ 22 + r.handle.toNat < l.prio * 2 ^ 22 + l.handle := Nat.not_lt.mpr h
      rw [partnerWins, hl, decide_eq_false hlt]; simp
  rw [mergeCascade_eq, if_neg hw, if_pos hl]
  exact ⟨rfl, rfl, rfl, rfl, rfl⟩

theorem mergeCascade_noHit {l : Outc} {r : CasRep} (hl : l.hit = false) (hr : r.hit = false) :
    (mergeCascade l r).status = St.noMatch := by
  simp [mergeCascade_eq, partnerWins, hl, hr]

/-! ### Banks of a queue pair -/

@[simp] theorem QPair.bank_setBank_same (p : QPair) (k : Nat) (b : Bank) : (p.setBank k b).bank k = b := by
  unfold QPair.setBank QPair.bank
  split <;> rfl

theorem State.qp_updQp_other (s : State) (q : Nat) (f : QPair → QPair) {j : Nat} (h : j ≠ q) : (s.updQp q f).qp j = s.qp j := by
  simp [State.updQp, State.qp_setQp, h]

@[simp] theorem State.dropFlight_qp (s : State) (f : Flight) (q : Nat) : (s.dropFlight f).qp q = s.qp q := rfl

/-! ### ENUM_REPLY -/

theorem exec_enumReply (n : BitVec 16) (rs : List MsgRec) (s : State) :
    exec (.enumReply n rs) s = whileUp s (fun s => s.enumReply n.toNat rs) := rfl

theorem State.enumReply_late {f : Flight} {n : Nat} {rs : List MsgRec} {s : State} (hf : s.arb.flights = [f])
    (hg : f.g + 87 < s.tick) : s.enumReply n rs = s := by
  unfold State.enumReply
  split
  · rfl
  · next x hx =>
    have hxf : x = f := by simpa [hf] using List.mem_of_find?_eq_some hx
    rw [if_pos (hxf ▸ hg)]

/-- The partner half of bank `p.pass` of a pair, due READY at `ready`, with `count` matches. -/
def QPair.fillPartner (p : QPair) (ready count : Nat) (rs : List MqRec) : QPair :=
  let x := p.setBank p.pass { p.bank p.pass with partner := rs, readyAt := some ready }
  { x with countP := count, firstCount := if p.pass = 0 then min 65535 (x.firstCount + count) else x.firstCount }

theorem QPair.fillPartner_bank (p : QPair) (ready count : Nat) (rs : List MqRec) :
    (p.fillPartner ready count rs).bank p.pass = { p.bank p.pass with partner := rs, readyAt := some ready } :=
  QPair.bank_setBank_same p p.pass _

/-- A reply in time fills the partner half of the pass's bank; the pass is over. -/
theorem State.enumReply_inTime {f : Flight} {q n : Nat} {rs : List MsgRec} {s : State} (hf : s.arb.flights = [f])
    (hc : f.cascaded = true) (hm : f.committed = true) (hr : f.reply = none) (hd : f.declined = false)
    (hg : s.tick ≤ f.g + 87) (hq : s.passFor f = some q) :
    s.enumReply n rs = (s.dropFlight f).updQp q (fun p => p.fillPartner (f.g + 88) n
      ((rs.take 32).map (fun r => ⟨r.res, r.prio, r.handle, r.poison, true, 0⟩))) := by
  have hfind : s.cascFlight (fun f => f.committed && f.reply.isNone && !f.declined) = some f := by
    simp [State.cascFlight, hf, hc, hm, hr, hd]
  simp only [State.enumReply, hfind, Nat.not_lt.mpr hg, if_false, hq]
  rfl

/-- Settles O45: each message's effect by its case, from the flights that wait for it. -/
theorem cascadeCommandsAct : Obligations.CascadeCommandsAct := by
  refine ⟨?_, ?_, ?_, ?_, ?_, ?_, ?_, ?_, ?_, ?_, ?_, ?_, ?_, ?_, ?_, ?_⟩
  · intro m s hu hf h
    rw [exec_casReq, whileServing_of_up hu hf, State.casReq_late h]
  · intro m s hu hf h ht
    rw [exec_casReq, whileServing_of_up hu hf, State.casReq_notOpen h ht]
  · intro m p s hu hf h hst hpm he hpa hp
    rw [exec_casReq, whileServing_of_up hu hf, State.casReq_open h hst hpm]
    simp [casSpan, casOp, he, hpa, hp]
  · intro m p s hu hf h hst hpm he hpa hp
    rw [exec_casReq, whileServing_of_up hu hf, State.casReq_open h hst hpm]
    simp [casSpan, casOp, he, hpa, hp]
  · intro m s hu hf h hst hpm hno
    rw [exec_casReq, whileServing_of_up hu hf, State.casReq_open h hst hpm]
    rcases hno with hpa | hp
    · simp [hpa]
    · simp [casSpan, hp]
  · intro f r k a b s hu hf hc hg hr hd ha hi
    rw [exec_casReply, whileUp_of_up hu, State.casReply_due hf hc hg hr hd ha, if_pos hi]
  · intro f r k a b s hf hc hg hr hd ha hi
    refine (exec_casReply r s).trans (whileUp_of_fixed ?_)
    rw [State.casReply_due hf hc hg hr hd ha, hi, if_neg Bool.false_ne_true]
  · intro f r s hu hf hc hg hr
    rw [exec_casReply, whileUp_of_up hu, State.casReply_late hf hc hg hr]
  · intro f rest s hu hf hc hr hd hn
    rw [exec_casDecline, whileUp_of_up hu, State.casDecline_head hf hc hr hd hn]
  · exact fun x s h => (exec_casDecline x s).trans (whileUp_of_fixed (State.casDecline_none h))
  · intro p f r k a b s hu hf hc hp hs hg ha hr hrep
    rw [exec_cascadeMerge, whileUp_of_up hu, State.cascadeMerge_reply hf hc hp hs hg ha hr hrep]
  · intro p f k a b s hu hf hc hp hs hg ha hr hrep hpo
    rw [exec_cascadeMerge, whileUp_of_up hu, State.cascadeMerge_partial hf hc hp hs hg ha hr hrep hpo]
  · exact fun p s h => (exec_cascadeMerge p s).trans (whileUp_of_fixed (State.cascadeMerge_none h))
  · intro l r
    exact ⟨by rw [mergeCascade_eq], by rw [mergeCascade_eq], fun hr h => mergeCascade_partner hr h,
      fun hl h => mergeCascade_local hl h, fun hl hr => mergeCascade_noHit hl hr⟩
  · intro f q n rs s hu hf hc hm hr hd hg hq
    refine ⟨_, (exec_enumReply n rs s).trans ((whileUp_of_up hu _).trans
      (congrArg _ (State.enumReply_inTime hf hc hm hr hd hg hq))), ?_⟩
    have hqp : ∀ F, ((s.dropFlight f).updQp q F).qp q = F (s.qp q) := fun F => State.qp_updQp_same _ q F
    beta_reduce
    rw [hqp, QPair.fillPartner_bank]
    exact ⟨by simp [State.dropFlight, hf], rfl, rfl, rfl, rfl, fun j hj => State.qp_updQp_other _ q _ hj⟩
  · exact fun f n rs s hf hg => (exec_enumReply n rs s).trans (whileUp_of_fixed (State.enumReply_late hf hg))

end Sys2Proof.Machine
end

section
/-! SUPPORT. Proofs. Row commits, relocation switches and tally repairs (02 R44, 05 R142 to R164, 16 R567). -/

set_option Elab.async false

namespace Sys2Proof.Machine

/-! ### What a row's commit leaves unchanged -/

@[simp] theorem State.commitRow_tbl (s : State) (a r w) : (s.commitRow a r w).tbl = s.tbl := (State.commitRow_eff s a r w).same .tbl rfl
@[simp] theorem State.commitRow_regs (s : State) (a r w) : (s.commitRow a r w).regs = s.regs := (State.commitRow_eff s a r w).same .regs rfl
@[simp] theorem State.commitRow_tick (s : State) (a r w) : (s.commitRow a r w).tick = s.tick := (State.commitRow_eff s a r w).same .tick rfl
@[simp] theorem State.commitRow_mnt (s : State) (a r w) : (s.commitRow a r w).mnt = s.mnt := (State.commitRow_eff s a r w).same .mnt rfl
@[simp] theorem State.commitRow_arb (s : State) (a r w) : (s.commitRow a r w).arb = s.arb := (State.commitRow_eff s a r w).same .arb rfl
@[simp] theorem State.freeRow_tbl (s : State) (a) : (s.freeRow a).tbl = s.tbl := (State.freeRow_eff s a).same .tbl rfl
@[simp] theorem State.freeRow_regs (s : State) (a) : (s.freeRow a).regs = s.regs := (State.freeRow_eff s a).same .regs rfl
@[simp] theorem State.freeRow_tick (s : State) (a) : (s.freeRow a).tick = s.tick := (State.freeRow_eff s a).same .tick rfl
@[simp] theorem State.rowLeft_tbl (s : State) (a) : (s.rowLeft a).tbl = s.tbl := (State.rowLeft_eff s a).same .tbl rfl
@[simp] theorem State.rowLeft_regs (s : State) (a) : (s.rowLeft a).regs = s.regs := (State.rowLeft_eff s a).same .regs rfl
@[simp] theorem State.rowLeft_tick (s : State) (a) : (s.rowLeft a).tick = s.tick := (State.rowLeft_eff s a).same .tick rfl
@[simp] theorem State.dropFlight_tbl (s : State) (f) : (s.dropFlight f).tbl = s.tbl := rfl
@[simp] theorem State.dropFlight_regs (s : State) (f) : (s.dropFlight f).regs = s.regs := rfl
@[simp] theorem State.dropFlight_tick (s : State) (f) : (s.dropFlight f).tick = s.tick := rfl
@[simp] theorem State.dropFlight_arr (s : State) (f) : (s.dropFlight f).arr = s.arr := rfl
@[simp] theorem State.dropFlight_row (s : State) (f a) : (s.dropFlight f).row a = s.row a := rfl
@[simp] theorem State.dropFlight_arow (s : State) (f a) : (s.dropFlight f).arow a = s.arow a := rfl
@[simp] theorem State.dropFlight_liveRow (s : State) (f t h) : (s.dropFlight f).liveRow t h = s.liveRow t h := rfl
@[simp] theorem State.dropFlight_viewRow (s : State) (f t c h) : (s.dropFlight f).viewRow t c h = s.viewRow t c h := rfl

theorem State.dropFlight_flights {s : State} {f : Flight} (hf : s.arb.flights = [f]) : (s.dropFlight f).arb.flights = [] := by
  simp [State.dropFlight, hf]

/-- Rows that a relocation's segment clock leaves in place. -/
theorem State.rowLeft_tmWait (s : State) (a : Nat) : (s.rowLeft a).mnt.tmWait = s.mnt.tmWait := by
  unfold State.rowLeft
  split <;> rfl

theorem State.arow_congr {s t : State} (h : t.arr.rows = s.arr.rows) (a : Nat) : t.arow a = s.arow a := by
  rw [State.arow, h, State.arow]

theorem State.shadowPut_arr (s : State) (a : Nat) (r : Row) : (s.shadowPut a r).arr = s.arr :=
  (State.shadowPut_eff s a r).same .arr rfl

theorem State.arow_commitRow_other (s : State) {a b : Nat} (r : Row) (w : Nat) (h : b ≠ a) :
    (s.commitRow a r w).arow b = s.arow b :=
  (State.arow_congr (congrArg Arr.rows (State.shadowPut_arr _ _ _)) b).trans (SMap.get_set_other _ _ _ _ _ h)

/-- The row as it stands after its commit: a free row all zero, and correct parity. -/
theorem State.arow_commitRow_same (s : State) (a : Nat) (r : Row) (w : Nat) :
    ((s.commitRow a r w).arow a).row = (if r.isFree then {} else r) ∧ ((s.commitRow a r w).arow a).bad = 0 := by
  have h : (s.commitRow a r w).arow a = ⟨if r.isFree then {} else r, 0, if (if r.isFree then {} else r).isFree then 0 else w⟩ :=
    (State.arow_congr (congrArg Arr.rows (State.shadowPut_arr _ _ _)) a).trans (SMap.get_set_same _ _ _ _)
  exact ⟨by rw [h], by rw [h]⟩

/-! ### The next flight to commit -/

/-- One flight under way, due: it is the next. -/
theorem State.nextCommit_single {s : State} {f : Flight} {p : Flight → Bool} (hf : s.arb.flights = [f])
    (hd : f.commitDue s.tick = true) (hp : p f = true) : s.nextCommit p = some f := by
  simp [State.nextCommit, hf, hd, hp, leastBy]

theorem State.nextCommit_none {s : State} {p : Flight → Bool}
    (h : ∀ f ∈ s.arb.flights, s.tick < f.g + 5 ∨ p f = false) : s.nextCommit p = none := by
  have hnil : s.arb.flights.filter (fun f => f.commitDue s.tick && p f) = [] := by
    refine List.filter_eq_nil_iff.mpr fun f hf hd => ?_
    simp only [Flight.commitDue, Bool.and_eq_true, decide_eq_true_eq] at hd
    obtain ⟨⟨⟨ht, -⟩, -⟩, hp⟩ := hd
    rcases h f hf with h | h
    · omega
    · exact Bool.false_ne_true (h.symm.trans hp)
  rw [State.nextCommit, hnil]
  rfl

theorem State.commitNext_some {s : State} {f : Flight} {p : Flight → Bool} (h : s.nextCommit p = some f) :
    s.commitNext p = s.commitFlight f := by
  rw [State.commitNext, h]

theorem State.commitNext_none {s : State} {p : Flight → Bool}
    (h : ∀ f ∈ s.arb.flights, s.tick < f.g + 5 ∨ p f = false) : s.commitNext p = s := by
  rw [State.commitNext, State.nextCommit_none h]

theorem exec_rowCommit (s : State) :
    exec .rowCommit s = whileUp s (fun s => s.commitNext (fun f => !f.isSwitch && !f.isMirrored && !f.isRepair)) := rfl

theorem exec_tallyRepair (s : State) : exec .tallyRepair s = whileUp s (fun s => s.commitNext Flight.isRepair) := rfl

theorem exec_relocationSwitch (t : TableId) (h : BitVec 22) (s : State) : exec (.relocationSwitch t h) s =
    whileUp s (fun s => s.commitNext (fun f => f.isSwitch && f.op.table == t.val &&
      (match f.op.act with | .upd h' _ => h' == h.toNat | _ => false))) := rfl

/-- A row write of a request other than the tally engine's is committed by ROW_COMMIT. -/
theorem exec_rowCommit_write {f : Flight} {a : Nat} {r : Row} {k : WKind} {c n : Nat} {s : State} (hu : s.up = true)
    (hf : s.arb.flights = [f]) (hs : f.stuck = false) (hg : f.g + 5 ≤ s.tick) (ha : f.op.act = .write a r k)
    (ho : f.op.origin = .req c n) (hk : f.isRepair = false) :
    exec .rowCommit s = .next ((s.dropFlight f).commitWrite f a r k) := by
  have hd : f.commitDue s.tick = true := by simp [Flight.commitDue, hs, hg, ha]
  have hp : (!f.isSwitch && !f.isMirrored && !f.isRepair) = true := by simp [Flight.isSwitch, Flight.isMirrored, ha, ho, hk]
  rw [exec_rowCommit, whileUp_of_up hu, State.commitNext_some (State.nextCommit_single hf hd hp), State.commitFlight, ha]

/-! ### How an operation of a request ends -/

theorem State.endOp_req {s : State} {f : Flight} {c n : Nat} {o : Outc} (ho : f.op.origin = .req c n) (hm : f.mseq = none) :
    s.endOp f o = s.resolve (.req c n) { o with tick := s.tick } := by
  simp [State.endOp, State.endMut, ho, hm]

theorem State.journals_congr {s t : State} (htb : t.tbl = s.tbl) (hr : t.regs = s.regs) (n : Nat) :
    t.journals n = s.journals n := by
  simp only [State.journals, State.isMirror, State.isAway, State.pst, State.tb_congr htb, State.f_congr hr]

/-- A change of a table that is not journaled leaves no entry. -/
theorem State.journalH_none {s t : State} {f : Flight} {h : Nat} (hj : s.journals f.op.table = false) (htb : t.tbl = s.tbl)
    (hr : t.regs = s.regs) : t.journalH f h = t := by
  simp [State.journalH, State.journal, State.journals_congr htb hr, hj]

theorem State.dropCopy_none {s : State} {t : Nat} (h : (s.tb t).migration = none) (x : Nat) : s.dropCopy t x = s := by
  simp [State.dropCopy, h]

theorem State.unage_other {t : Nat} (h : t ≠ 255) (s : State) (x : Nat) : s.unage t x = s := by
  simp [State.unage, State.when, h]

/-! ### Row writes of a request -/

/-- The insert of a request that evicts nothing. -/
theorem State.commitWrite_insert {s : State} {f : Flight} {a c n : Nat} {r : Row} (ho : f.op.origin = .req c n)
    (hm : f.mseq = none) (hj : s.journals f.op.table = false) :
    s.commitWrite f a r (.insert none) = ((s.commitRow a r s.tick).setHrow f.op.table r.handle (some a)).resolve (.req c n)
      { status := St.success, tick := s.tick, table := f.op.table, handle := r.handle } := by
  have hjn : ((s.commitRow a r s.tick).setHrow f.op.table r.handle (some a)).journalH f r.handle = _ :=
    State.journalH_none hj (by simp) (by simp)
  simp [State.commitWrite, State.commitInsert, State.learnOf, State.installHolds, ho, hjn, State.endOp_req ho hm]

/-- The insert of a request that evicts the handle `v` of the row it writes. -/
theorem State.commitWrite_evict {s : State} {f : Flight} {a v c n : Nat} {r : Row} (ho : f.op.origin = .req c n)
    (hm : f.mseq = none) (hj : s.journals f.op.table = false) (hv : s.liveRow f.op.table v = some a) (ht : f.op.table ≠ 255)
    (hmig : (s.tb f.op.table).migration = none) :
    s.commitWrite f a r (.insert (some v)) =
      ((((((s.setHrow f.op.table v none).rowLeft a).commitRow a r s.tick).setHrow f.op.table r.handle (some a)).raise
        .tableEvict (argTH f.op.table v) r.handle).resolve (.req c n)
        { status := St.evicted, tick := s.tick, table := f.op.table, handle := r.handle, victim := v }) := by
  have hdrop : (s.setHrow f.op.table v none).dropCopy f.op.table v = s.setHrow f.op.table v none :=
    State.dropCopy_none (s := s.setHrow f.op.table v none) hmig v
  have hjn : ∀ h, ((((s.setHrow f.op.table v none).rowLeft a).commitRow a r s.tick).setHrow f.op.table r.handle (some a)).journalH f h = _ :=
    fun h => State.journalH_none hj (by simp) (by simp)
  simp [State.commitWrite, State.commitInsert, State.learnOf, State.installHolds, ho, hv, ht, hdrop, State.unage_other ht, hjn,
    State.endOp_req ho hm]

theorem State.commitWrite_update {s : State} {f : Flight} {a b c n : Nat} {r : Row} (ho : f.op.origin = .req c n)
    (hm : f.mseq = none) (hj : s.journals f.op.table = false) (hb : s.liveRow f.op.table r.handle = some b) :
    s.commitWrite f a r .update = (s.commitRow b ((r.setH (s.row b).h).setA (s.row b).a) s.tick).resolve (.req c n)
      { status := St.success, tick := s.tick, table := f.op.table, handle := r.handle } := by
  have hjn : (s.commitRow b ((r.setH (s.row b).h).setA (s.row b).a) s.tick).journalH f r.handle = _ :=
    State.journalH_none hj (by simp) (by simp)
  simp [State.commitWrite, hb, hjn, State.endOp_req ho hm]

theorem State.commitWrite_free {s : State} {f : Flight} {a c n : Nat} {r : Row} (ho : f.op.origin = .req c n)
    (hm : f.mseq = none) (hj : s.journals f.op.table = false) (hl : (s.row a).live = true)
    (hta : (s.row a).table = f.op.table) (ht : f.op.table ≠ 255) (hmig : (s.tb f.op.table).migration = none) :
    s.commitWrite f a r .free = ((s.freeRow a).rowLeft a).resolve (.req c n)
      { status := St.success, tick := s.tick, table := f.op.table, handle := (s.row a).handle } := by
  have hm' : (((s.freeRow a).rowLeft a).tb f.op.table).migration = none := by rw [State.tb_congr (s := s) (by simp)]; exact hmig
  have hrem : s.removeRow a = (s.freeRow a).rowLeft a := by
    simp only [State.removeRow, hta, State.dropCopy_none hm', State.unage_other ht]
  have hjn : ((s.freeRow a).rowLeft a).journalH f (s.row a).handle = _ := State.journalH_none hj (by simp) (by simp)
  simp [State.commitWrite, hl, hta, hrem, hjn, State.endOp_req ho hm]

theorem State.commitWrite_free_gone {s : State} {f : Flight} {a c n : Nat} {r : Row} (ho : f.op.origin = .req c n)
    (hm : f.mseq = none) (hl : (s.row a).live = false) :
    s.commitWrite f a r .free = s.resolve (.req c n) { refusal f.op.table St.noMatch with tick := s.tick } := by
  simp [State.commitWrite, hl, State.endOp_req ho hm]

/-- A request's row read of the handle it names. -/
theorem exec_rowCommit_read {f : Flight} {a c n h b : Nat} {s : State} (hu : s.up = true)
    (hf : s.arb.flights = [f]) (hs : f.stuck = false) (hg : f.g + 5 ≤ s.tick) (ha : f.op.act = .read a)
    (ho : f.op.origin = .req c n) (hn : f.op.named = some (c, h)) (hb : s.viewRow f.op.table c h = some b)
    (hok : (s.arow b).bad = 0) :
    exec .rowCommit s = .next ((s.dropFlight f).resolve (.req c n)
      { status := St.success, tick := s.tick, table := f.op.table, handle := h, image := some (s.row b).returned, hit := true }) := by
  have hd : f.commitDue s.tick = true := by simp [Flight.commitDue, hs, hg, ha, ho]
  have hp : (!f.isSwitch && !f.isMirrored && !f.isRepair) = true := by
    simp [Flight.isSwitch, Flight.isMirrored, Flight.isRepair, ha, ho]
  rw [exec_rowCommit, whileUp_of_up hu, State.commitNext_some (State.nextCommit_single hf hd hp), State.commitFlight, ha]
  simp [State.commitRead, ho, hn, State.observe, hb, hok]

/-! ### RELOCATION_SWITCH -/

/-- The relocation is over: the old row is freed, and the new one goes live with the old one's state (05 R163, R164). -/
def State.switchRows (s : State) (t h : Nat) (x : Reloc) : State :=
  (((({ s with mnt := { s.mnt with relocs := s.mnt.relocs.erase x } } : State).commitRow x.old {} 0).rowLeft x.old).commitRow x.new
    ((((s.row x.new).takeState (s.row x.old)).setV true).setG false) (s.arow x.old).lastWrite).setHrow t h (some x.new)

theorem State.switchRows_rest (s : State) (t h : Nat) (x : Reloc) :
    (s.switchRows t h x).tbl = s.tbl ∧ (s.switchRows t h x).mnt.tmWait = s.mnt.tmWait := by
  simp [State.switchRows, State.rowLeft_tmWait]

/-- A switch of the table manager that moves a live entry with no new image, with nothing waiting on it. -/
theorem State.commitSwitch_live {s : State} {f : Flight} {h : Nat} {x : Reloc} (ho : f.op.origin = .tm) (hm : f.mseq = none)
    (hfind : s.mnt.relocs.find? (fun y => y.table == f.op.table && y.handle == h && y.new == x.new) = some x)
    (hxr : x.row = none) (hl : (s.row x.old).live = true) (hlh : (s.row x.old).handle = h)
    (hlt : (s.row x.old).table = f.op.table) (hw : s.mnt.tmWait = []) (hmig : (s.tb f.op.table).migration = none) :
    s.commitSwitch f h x.new = s.switchRows f.op.table h x := by
  obtain ⟨htb, hwait⟩ := s.switchRows_rest f.op.table h x
  have hdrop : (s.switchRows f.op.table h x).dropCopy f.op.table h = s.switchRows f.op.table h x :=
    State.dropCopy_none (by rw [State.tb_congr htb]; exact hmig) h
  have hend : ∀ (u : State) o, u.endOp f o = u := fun u o => by simp [State.endOp, State.endMut, State.resolve, ho, hm]
  have hrel : (s.switchRows f.op.table h x).releaseWait f.op.table h = s.switchRows f.op.table h x := by
    simp [State.releaseWait, hwait, hw]
  calc s.commitSwitch f h x.new
      = (((s.switchRows f.op.table h x).dropCopy f.op.table h).endOp f
          { status := St.success, table := f.op.table, handle := h }).releaseWait f.op.table h := by
        rw [State.commitSwitch, hfind]
        have hc : ((s.row x.old).live && (s.row x.old).handle == h && (s.row x.old).table == f.op.table) = true := by
          simp [hl, hlh, hlt]
        simp only [hxr, Option.isSome_none, Bool.false_eq_true, if_false, hc, if_true]
        rfl
    _ = s.switchRows f.op.table h x := by rw [hdrop, hend, hrel]

/-! ### TALLY_REPAIR -/

/-- The repair leaves the list of the reserved ones. -/
def State.repairDone (s : State) (a : Nat) : State :=
  { s with ras := { s.ras with repairs := s.ras.repairs.filter (fun r => r.row != a) } }

/-- A row on which another operation has committed since the visit is visited again (16 R567). -/
theorem State.commitRepair_discarded {s : State} {a v : Nat} (h : v + 1 < num s.ras.rowTick a) :
    s.commitRepair a v =
      { (s.repairDone a).inc fTallyDiscarded with
        ras := { (s.repairDone a).ras with revisit := s.ras.revisit ++ [a] } } := by
  simp only [State.commitRepair]
  rw [if_pos h]
  rfl

theorem exec_tallyRepair_due {f : Flight} {a v : Nat} {r : Row} {s : State} (hu : s.up = true) (hf : s.arb.flights = [f])
    (hs : f.stuck = false) (hg : f.g + 5 ≤ s.tick) (ha : f.op.act = .write a r (.repair v)) :
    exec .tallyRepair s = .next ((s.dropFlight f).commitRepair a v) := by
  have hd : f.commitDue s.tick = true := by simp [Flight.commitDue, hs, hg, ha]
  have hp : f.isRepair = true := by simp [Flight.isRepair, ha]
  rw [exec_tallyRepair, whileUp_of_up hu, State.commitNext_some (State.nextCommit_single hf hd hp), State.commitFlight, ha]
  rfl

/-- The row is written with its shadow content, and its handle points at it where it is the handle's row (16 R567). -/
def State.repairRow (s : State) (a : Nat) : State :=
  let u := (s.repairDone a).commitRow a (s.shadowOf a) (s.arow a).lastWrite
  if (s.shadowOf a).counted && ((s.shadowOf a).live || (u.liveRow (s.shadowOf a).table (s.shadowOf a).handle).isNone) then
    u.setHrow (s.shadowOf a).table (s.shadowOf a).handle (some a) else u

theorem State.commitRepair_made {s : State} {a v : Nat} (h : num s.ras.rowTick a ≤ v + 1) :
    s.commitRepair a v = ((s.repairRow a).inc fTallyRepairs).raise .arrayRowRepaired (s.shadowOf a).table a := by
  simp only [State.commitRepair]
  rw [if_neg (Nat.not_lt.mpr h)]
  rfl

theorem State.shadowPut_repairs (s : State) (a r) : (s.shadowPut a r).ras.repairs = s.ras.repairs := by
  unfold State.shadowPut
  dsimp only
  split
  · rfl
  · split <;> rfl

theorem State.commitRow_repairs (s : State) (a r w) : (s.commitRow a r w).ras.repairs = s.ras.repairs :=
  State.shadowPut_repairs _ _ _

theorem State.repairRow_rest (s : State) (a : Nat) :
    (s.repairRow a).ras.repairs = s.ras.repairs.filter (fun r => r.row != a) ∧ (s.repairRow a).arb = s.arb ∧
    (s.repairRow a).tbl = s.tbl := by
  have hc := State.commitRow_repairs (s.repairDone a) a (s.shadowOf a) (s.arow a).lastWrite
  unfold State.repairRow
  dsimp only
  split
  · exact ⟨hc, by simp [State.repairDone], by simp [State.repairDone]⟩
  · exact ⟨hc, by simp [State.repairDone], by simp [State.repairDone]⟩

theorem State.arow_repairRow (s : State) (a : Nat) :
    (s.repairRow a).arow = ((s.repairDone a).commitRow a (s.shadowOf a) (s.arow a).lastWrite).arow := by
  unfold State.repairRow
  dsimp only
  split <;> rfl

theorem State.raise_repairs (s : State) (e : Ev) (a b : Nat) : (s.raise e a b).ras.repairs = s.ras.repairs := by
  rw [State.raise_ras]
  rfl

/-- Counting and reporting a repair touches neither rows, flights, tables nor the reserved repairs. -/
theorem State.inc_raise_rest (u : State) (x : F) (e : Ev) (a b : Nat) :
    ((u.inc x).raise e a b).arr = u.arr ∧ ((u.inc x).raise e a b).arb = u.arb ∧ ((u.inc x).raise e a b).tbl = u.tbl ∧
      ((u.inc x).raise e a b).ras.repairs = u.ras.repairs := by
  simp [State.raise_repairs]

theorem State.repairRow_effect {s : State} {f : Flight} (hf : s.arb.flights = [f]) (a : Nat) {t : State}
    (harr : t.arr = ((s.dropFlight f).repairRow a).arr) (harb : t.arb = ((s.dropFlight f).repairRow a).arb)
    (htbl : t.tbl = ((s.dropFlight f).repairRow a).tbl) (hras : t.ras.repairs = ((s.dropFlight f).repairRow a).ras.repairs) :
    t.row a = (if (s.shadowOf a).isFree then {} else s.shadowOf a) ∧ (t.arow a).bad = 0 ∧
      (∀ b, b ≠ a → t.arow b = s.arow b) ∧ t.ras.repairs = s.ras.repairs.filter (fun r => r.row != a) ∧
      t.arb.flights = [] ∧ t.tbl = s.tbl := by
  obtain ⟨hrep, hb, ht⟩ := (s.dropFlight f).repairRow_rest a
  have hrow : t.arow = (((s.dropFlight f).repairDone a).commitRow a (s.shadowOf a) (s.arow a).lastWrite).arow :=
    (funext fun b => State.arow_congr (congrArg Arr.rows harr) b).trans (State.arow_repairRow _ a)
  obtain ⟨hsame, hbad⟩ := ((s.dropFlight f).repairDone a).arow_commitRow_same a (s.shadowOf a) (s.arow a).lastWrite
  refine ⟨?_, ?_, fun b hb => ?_, hras.trans hrep, ?_, htbl.trans ht⟩
  · rw [State.row, hrow, hsame]
  · rw [hrow, hbad]
  · rw [hrow]
    exact State.arow_commitRow_other _ _ _ hb
  · rw [harb, hb]
    exact State.dropFlight_flights hf

/-- Settles O46: each due flight's effect by the kind of its operation, and nothing where none is due. -/
theorem rowCommitsAct : Obligations.RowCommitsAct := by
  refine ⟨?_, ?_, ?_, ?_, ?_, ?_, ?_, ?_, ?_, ?_, ?_, ?_, ?_⟩
  · intro f s hu hf
    rw [exec_rowCommit, whileUp_of_up hu, State.commitNext_some hf]
  · exact fun s h => (exec_rowCommit s).trans (whileUp_of_fixed (State.commitNext_none fun f hf => .inl (h f hf)))
  · exact fun f a r c n s hu hf hs hg ha ho hm hj =>
      (exec_rowCommit_write hu hf hs hg ha ho (by simp [Flight.isRepair, ha])).trans
        (congrArg _ (State.commitWrite_insert (s := s.dropFlight f) ho hm hj))
  · exact fun f a v r c n s hu hf hs hg ha ho hm hj hv ht hmig =>
      (exec_rowCommit_write hu hf hs hg ha ho (by simp [Flight.isRepair, ha])).trans
        (congrArg _ (State.commitWrite_evict (s := s.dropFlight f) ho hm hj hv ht hmig))
  · exact fun f a b r c n s hu hf hs hg ha ho hm hj hb =>
      (exec_rowCommit_write hu hf hs hg ha ho (by simp [Flight.isRepair, ha])).trans
        (congrArg _ (State.commitWrite_update (s := s.dropFlight f) ho hm hj hb))
  · exact fun f a r c n s hu hf hs hg ha ho hm hj hl hta ht hmig =>
      (exec_rowCommit_write hu hf hs hg ha ho (by simp [Flight.isRepair, ha])).trans
        (congrArg _ (State.commitWrite_free (s := s.dropFlight f) ho hm hj hl hta ht hmig))
  · exact fun f a r c n s hu hf hs hg ha ho hm hl =>
      (exec_rowCommit_write hu hf hs hg ha ho (by simp [Flight.isRepair, ha])).trans
        (congrArg _ (State.commitWrite_free_gone (s := s.dropFlight f) ho hm hl))
  · exact fun f a c n h b s hu hf hs hg ha ho hn hb hok => exec_rowCommit_read hu hf hs hg ha ho hn hb hok
  · intro t h f x s hu hf hs hg ht ha ho hm hr hxt hxh hxr hl hlh hlt hw hmig
    have hfind : (s.dropFlight f).mnt.relocs.find?
        (fun y => y.table == f.op.table && y.handle == h.toNat && y.new == x.new) = some x := by
      simp [State.dropFlight, hr, hxt, hxh, ht]
    rw [exec_relocationSwitch, whileUp_of_up hu, State.commitNext_some (State.nextCommit_single hf
      (by simp [Flight.commitDue, hs, hg, ha]) (by simp [Flight.isSwitch, ha, ht])), State.commitFlight, ha]
    rw [← ht] at hlt hmig ⊢
    refine congrArg _ ((State.commitSwitch_live ho hm hfind hxr hl hlh hlt hw hmig).trans ?_)
    simp only [State.switchRows, State.dropFlight, hr, List.erase_cons_head]
    rfl
  · intro t h s hno
    refine (exec_relocationSwitch t h s).trans (whileUp_of_fixed (State.commitNext_none fun f hf => ?_))
    rcases hno f hf with h | h | h
    · exact .inl h
    · exact .inr (by simp [h])
    · exact .inr (by simp [h])
  · intro f a v r s hu hf hs hg ha ho hv
    refine ⟨_, exec_tallyRepair_due hu hf hs hg ha, ?_⟩
    rw [State.commitRepair_discarded (s := s.dropFlight f) hv]
    exact ⟨State.f_inc_same s fTallyDiscarded 1 (by decide), rfl, rfl, State.dropFlight_flights hf, rfl, rfl⟩
  · intro f a v r s hu hf hs hg ha ho hv
    refine ⟨_, exec_tallyRepair_due hu hf hs hg ha, ?_⟩
    rw [State.commitRepair_made (s := s.dropFlight f) hv]
    obtain ⟨harr, harb, htbl, hras⟩ :=
      State.inc_raise_rest ((s.dropFlight f).repairRow a) fTallyRepairs .arrayRowRepaired ((s.dropFlight f).shadowOf a).table a
    exact State.repairRow_effect hf a harr harb htbl hras
  · exact fun s h => (exec_tallyRepair s).trans (whileUp_of_fixed (State.commitNext_none h))

end Sys2Proof.Machine
end

section
/-! SUPPORT. Proofs. The match queue (02 R48, 06 R205 to R223): enumerate passes, banks, draining, NEXT reads, MATCH entries and RESET_QUEUE. -/

set_option Elab.async false

namespace Sys2Proof.Machine

/-! ### ENUM_PASS_DELIVER -/

theorem exec_enumPassDeliver (p : SPort) (s : State) : exec (.enumPassDeliver p) s = whileUp s (fun s => s.passDeliver p.val) := rfl

/-- A pair whose pass found `d`: the local records stand in the pass's bank, which is due READY at `ready` (06 R205, R206). -/
def QPair.fillLocal (p : QPair) (ready : Nat) (d : Found) : QPair :=
  let b : QPair := { p.setBank p.pass { p.bank p.pass with local_ := d.wins.map (Win.mqRec false), readyAt := some ready } with
    countL := d.count, countP := 0 }
  if p.pass = 0 then { b with firstTick := d.tick, firstGen := d.gen, firstCount := d.count } else b

theorem QPair.fillLocal_bank (p : QPair) (ready : Nat) (d : Found) : (p.fillLocal ready d).bank p.pass =
    { p.bank p.pass with local_ := d.wins.map (Win.mqRec false), readyAt := some ready } := by
  rw [QPair.fillLocal]
  split
  all_goals exact QPair.bank_setBank_same p _ _

theorem QPair.fillLocal_counts (p : QPair) (ready : Nat) (d : Found) :
    (p.fillLocal ready d).countL = d.count ∧ (p.fillLocal ready d).countP = 0 := by
  rw [QPair.fillLocal]
  split
  all_goals exact ⟨rfl, rfl⟩

theorem QPair.fillLocal_first {p : QPair} (h : p.pass = 0) (ready : Nat) (d : Found) : (p.fillLocal ready d).firstTick = d.tick ∧
    (p.fillLocal ready d).firstGen = d.gen ∧ (p.fillLocal ready d).firstCount = d.count := by
  rw [QPair.fillLocal, if_pos h]
  exact ⟨rfl, rfl, rfl⟩

/-- A pass of this member that found `d` fills its pair's bank; it stays in flight, marked, when the partner answers too. -/
theorem State.passDeliver_found {s : State} {p q c n : Nat} {f : Flight} {d : Found}
    (hf : s.arb.flights.find? (fun f => f.passDue p s.tick) = some f) (ho : f.op.origin = .req c n) (hr : f.refused = none)
    (hd : f.found = some d) (hq : s.passFor f = some q) :
    s.passDeliver p = (if f.cascaded then s.putFlight f { f with committed := true } else s.dropFlight f).updQp q
      (fun x => x.fillLocal (f.g + if s.isCascade f.op.table then 88 else 24) d) := by
  have hfill : ∀ x : QPair, x.endStatus.or none = x.endStatus := fun x => Option.or_none
  rw [State.passDeliver, hf]
  simp only [ho, hr, hd, hq, Option.isNone_none, Bool.and_true, hfill, QPair.fillLocal]

/-- A pass whose enumeration is no longer held leaves no trace. -/
theorem State.passDeliver_unheld {s : State} {p c n : Nat} {f : Flight}
    (hf : s.arb.flights.find? (fun f => f.passDue p s.tick) = some f) (ho : f.op.origin = .req c n) (hc : f.cascaded = false)
    (hq : s.passFor f = none) : s.passDeliver p = s.dropFlight f := by
  rw [State.passDeliver, hf]
  simp only [ho, hc, hq, Bool.false_and, Bool.false_eq_true, if_false]

theorem State.passDeliver_partner {s : State} {p t0 : Nat} {f : Flight} {d : Found}
    (hf : s.arb.flights.find? (fun f => f.passDue p s.tick) = some f) (ho : f.op.origin = .partner t0) (hd : f.found = some d) :
    s.passDeliver p = (s.dropFlight f).linkSend (.enumReply t0 d.count (d.wins.map (fun w =>
      ⟨(w.mqRec true).res, (w.mqRec true).prio, (w.mqRec true).handle, (w.mqRec true).poison⟩))) := by
  rw [State.passDeliver, hf]
  simp only [ho, hd]

theorem State.passDeliver_early {s : State} {p : Nat} (h : ∀ f ∈ s.arb.flights, f.port = p → s.tick < f.g + 23) :
    s.passDeliver p = s := by
  have hnone : s.arb.flights.find? (fun f => f.passDue p s.tick) = none := by
    refine List.find?_eq_none.mpr fun f hf hd => ?_
    simp only [Flight.passDue, Bool.and_eq_true, beq_iff_eq, decide_eq_true_eq] at hd
    obtain ⟨⟨⟨⟨hp, -⟩, ht⟩, -⟩, -⟩ := hd
    have := h f hf hp
    omega
  rw [State.passDeliver, hnone]

@[simp] theorem State.putFlight_qp (s : State) (f f' : Flight) (q : Nat) : (s.putFlight f f').qp q = s.qp q := rfl

/-- A flight that is replaced leaves its replacement in flight. -/
theorem State.mem_putFlight {s : State} {f : Flight} (h : f ∈ s.arb.flights) (f' : Flight) : f' ∈ (s.putFlight f f').arb.flights :=
  List.mem_map.mpr ⟨f, h, if_pos rfl⟩

/-! ### BANK_READY -/

theorem exec_bankReady (q : TableId) (s : State) : exec (.bankReady q) s = whileUp s (fun s => s.bankReady q.val) := rfl

/-- A side that delivered every match it counted is not open (06 R207). -/
theorem openRank_complete {n : Nat} {rs : List MqRec} (h : n ≤ rs.length) : openRank n rs = none := by
  rw [openRank]
  split
  · exact if_neg (Nat.not_lt.mpr h)
  · rfl

/-- The bank of the pass under way becomes READY with `ls` and `ps` (06 R205). -/
def QPair.markReady (p : QPair) (ls ps : List MqRec) : QPair :=
  p.setBank p.pass { p.bank p.pass with st := 2, readyAt := none, local_ := ls, partner := ps }

theorem QPair.markReady_bank (p : QPair) (ls ps : List MqRec) : (p.markReady ls ps).bank p.pass =
    { p.bank p.pass with st := 2, readyAt := none, local_ := ls, partner := ps } :=
  QPair.bank_setBank_same p _ _

theorem QPair.markReady_bank_fields (p : QPair) (ls ps : List MqRec) : ((p.markReady ls ps).bank p.pass).st = 2 ∧
    ((p.markReady ls ps).bank p.pass).local_ = ls ∧ ((p.markReady ls ps).bank p.pass).partner = ps := by
  rw [QPair.markReady_bank]
  exact ⟨rfl, rfl, rfl⟩

theorem QPair.markReady_state (p : QPair) (ls ps : List MqRec) : (p.markReady ls ps).state = p.state := by
  rw [QPair.markReady, QPair.setBank]
  split
  all_goals rfl

theorem State.bankReady_early {s : State} {q r : Nat} (hr : ((s.qp q).bank (s.qp q).pass).readyAt = some r) (h : s.tick < r) :
    s.bankReady q = s := by
  rw [State.bankReady]
  simp only [hr, h, decide_true, Bool.or_true, if_true]

/-- The pass under way is due. -/
theorem State.bankReady_due {s : State} {q r : Nat} (hs : (s.qp q).state ≠ 0) (ht : r ≤ s.tick)
    (hb : ((s.qp q).bank (s.qp q).pass).st = 1) :
    (decide ((s.qp q).state = 0) || ((s.qp q).bank (s.qp q).pass).st != 1 || decide (s.tick < r)) = false := by
  simp [hs, hb, ht]

section
variable {s : State} {q r : Nat} (hs : (s.qp q).state ≠ 0) (hr : ((s.qp q).bank (s.qp q).pass).readyAt = some r) (ht : r ≤ s.tick)
  (hb : ((s.qp q).bank (s.qp q).pass).st = 1)
include hs hr ht hb

/-- A due bank without further matches becomes READY and exhausts the pair (06 R207, R219). -/
theorem State.bankReady_last (hl : openRank (s.qp q).countL ((s.qp q).bank (s.qp q).pass).local_ = none)
    (hp : openRank (s.qp q).countP ((s.qp q).bank (s.qp q).pass).partner = none) :
    s.bankReady q = s.setQp q { (s.qp q).markReady ((s.qp q).bank (s.qp q).pass).local_ ((s.qp q).bank (s.qp q).pass).partner with
      state := 2 } := by
  have hdue := State.bankReady_due hs ht hb
  rw [State.bankReady]
  simp only [hr, hdue, Bool.false_eq_true, if_false, hl, hp, minOpt, QPair.markReady]

/-- With more matches the records beyond the lowest open rank are dropped and the next pass starts after it (06 R208). -/
theorem State.bankReady_more {k : Nat} (hm : minOpt (openRank (s.qp q).countL ((s.qp q).bank (s.qp q).pass).local_)
      (openRank (s.qp q).countP ((s.qp q).bank (s.qp q).pass).partner) = some k)
    (he : (s.qp q).endStatus = none) (hst : (s.tb (s.qp q).table).state = 2) :
    s.bankReady q = s.setQp q { (s.qp q).markReady
        (((s.qp q).bank (s.qp q).pass).local_.filter (fun r => decide (r.rank ≤ k)))
        (((s.qp q).bank (s.qp q).pass).partner.filter (fun r => decide (r.rank ≤ k))) with
      next := some (BitVec.ofNat 38 k), nextAt := s.tick + 1 } := by
  have hdue := State.bankReady_due hs ht hb
  rw [State.bankReady]
  simp only [hr, hdue, Bool.false_eq_true, if_false, hm, he, hst, Option.isSome_none, bne_self_eq_false, Bool.or_self, QPair.markReady]

end

/-! ### CONTINUATION_QUEUE -/

theorem exec_continuationQueue (q : TableId) (s : State) :
    exec (.continuationQueue q) s = whileUp s (fun s => s.continueQ q.val) := rfl

theorem State.continueQ_due {s : State} {q : Nat} {k : BitVec 38} (hn : (s.qp q).next = some k) (ha : (s.qp q).nextAt ≤ s.tick + 1)
    (hb : ((s.qp q).bank ((s.qp q).pass + 1)).st = 0) (hs : (s.qp q).state = 1) :
    s.continueQ q = (s.setQp q { s.qp q with next := none }).enqOp 14
      { table := (s.qp q).table, act := .pass (s.qp q).key (s.qp q).tenant (some k) q false,
        origin := .req (s.qp q).ctx (s.qp q).n, enq := (s.qp q).nextAt } := by
  have hlt : ¬ s.tick + 1 < (s.qp q).nextAt := Nat.not_lt.mpr ha
  rw [State.continueQ]
  simp only [hn, hlt, hb, hs, decide_false, bne_self_eq_false, Bool.or_self, Bool.false_eq_true, if_false]

theorem State.continueQ_waits {s : State} {q : Nat}
    (h : (s.qp q).next = none ∨ s.tick + 1 < (s.qp q).nextAt ∨ ((s.qp q).bank ((s.qp q).pass + 1)).st ≠ 0) : s.continueQ q = s := by
  rw [State.continueQ]
  split
  · rfl
  next k hk =>
    have hwait : s.tick + 1 < (s.qp q).nextAt ∨ ((s.qp q).bank ((s.qp q).pass + 1)).st ≠ 0 := by simpa [hk] using h
    refine if_pos ?_
    rcases hwait with ht | hb
    · simp [ht]
    · simp [hb]

/-- An operation that is queued leaves the flights as they are. -/
theorem State.enqOp_flights (s : State) (n : Nat) (op : ArrOp) : (s.enqOp n op).arb.flights = s.arb.flights := by
  rw [State.enqOp]
  split
  · rfl
  · split
    all_goals rfl

theorem State.qp_enqOp (s : State) (n : Nat) (op : ArrOp) (j : Nat) : (s.enqOp n op).qp j = s.qp j :=
  State.qp_congr ((State.enqOp_eff s n op).same .mq rfl) j

theorem State.qp_setQp_other (s : State) (q : Nat) (p : QPair) {j : Nat} (h : j ≠ q) : (s.setQp q p).qp j = s.qp j := by
  rw [State.qp_setQp, if_neg h]

/-! ### BANK_DRAIN_TAKE -/

theorem exec_bankDrainTake (q : TableId) (s : State) : exec (.bankDrainTake q) s = whileUp s (fun s => s.drainTake q.val) := rfl

/-- No bank drains and bank 0 is READY with the other one EMPTY. -/
theorem State.drainTake_bank0 {s : State} {q : Nat} (h0 : (s.qp q).bank0.st = 2) (h1 : (s.qp q).bank1.st = 0) :
    s.drainTake q = if (s.qp q).bank0.local_.isEmpty && (s.qp q).bank0.partner.isEmpty
      then s.setQp q { s.qp q with bank0 := {}, nextAt := max (s.qp q).nextAt (s.tick + 1) }
      else s.setQp q { s.qp q with bank0 := { (s.qp q).bank0 with st := 3 } } := by
  simp [State.drainTake, QPair.draining, QPair.bank, QPair.setBank, h0, h1]

/-- No bank drains and bank 1 is READY with the other one EMPTY. -/
theorem State.drainTake_bank1 {s : State} {q : Nat} (h1 : (s.qp q).bank1.st = 2) (h0 : (s.qp q).bank0.st = 0) :
    s.drainTake q = if (s.qp q).bank1.local_.isEmpty && (s.qp q).bank1.partner.isEmpty
      then s.setQp q { s.qp q with bank1 := {}, nextAt := max (s.qp q).nextAt (s.tick + 1) }
      else s.setQp q { s.qp q with bank1 := { (s.qp q).bank1 with st := 3 } } := by
  simp [State.drainTake, QPair.draining, QPair.bank, QPair.setBank, h0, h1]

/-- A bank that holds a record is not empty. -/
theorem isEmpty_and_of_ne {as bs : List MqRec} (h : as ≠ [] ∨ bs ≠ []) : (as.isEmpty && bs.isEmpty) = false := by
  rcases h with h | h
  all_goals simp [h]

theorem QPair.draining_none {p : QPair} (h : p.draining = none) : p.bank0.st ≠ 3 ∧ p.bank1.st ≠ 3 := by
  rw [QPair.draining] at h
  grind

/-- Nothing is taken while a bank drains, none is READY, or the other one is not EMPTY (06 R212). -/
theorem State.drainTake_waits {s : State} {q : Nat} (h : (s.qp q).bank0.st = 3 ∨ (s.qp q).bank1.st = 3 ∨
    ((s.qp q).bank0.st ≤ 1 ∧ (s.qp q).bank1.st ≤ 1) ∨ ((s.qp q).bank0.st ≠ 0 ∧ (s.qp q).bank1.st ≠ 0)) : s.drainTake q = s := by
  rw [State.drainTake]
  split
  · rfl
  next hd =>
    obtain ⟨h0, h1⟩ := QPair.draining_none hd
    split
    · rfl
    next b hb =>
      have hready : ((s.qp q).bank b).st = 2 := by simpa using List.find?_some hb
      have hor : b = 0 ∨ b = 1 := by simpa using List.mem_of_find?_eq_some hb
      refine if_pos ?_
      rcases hor with rfl | rfl
      all_goals
        simp only [QPair.bank, Nat.reduceAdd, Nat.reduceMod, Nat.one_ne_zero, if_true, if_false] at hready ⊢
        omega

/-! ### NEXT_READ -/

theorem exec_nextRead (ld : LdId) (c : Id12) (s : State) :
    exec (.nextRead ld c) s = whileServing s (fun s => s.nextRead ld.val c.val) := rfl

theorem State.nextRead_otherLd {s : State} {ld c : Nat} (h : (s.cx c).ldid ≠ ld) :
    s.nextRead ld c = s.send (.line ld c 63 0) := by
  simp [State.nextRead, h]

section
variable {s : State} {ld c : Nat} (ha : (s.cx c).assigned = true) (hl : (s.cx c).ldid = ld)
include ha hl

theorem State.nextRead_noPair (hm : (s.cx c).mq = none) :
    s.nextRead ld c = s.send (.line ld c 63 (recLine (notValid false))) := by
  simp [State.nextRead, ha, hl, hm]

variable {q : Nat} (hm : (s.cx c).mq = some q)
include hm

theorem State.nextRead_record {r : BitVec 128} {u : State} (hr : (s.qp q).ring = false) (ht : s.takeRecord q = some (r, u)) :
    s.nextRead ld c = u.send (.line ld c 63 (recLine r)) := by
  simp [State.nextRead, ha, hl, hm, hr, ht]

theorem State.nextRead_end (hr : (s.qp q).ring = false) (ht : s.takeRecord q = none) (hs : (s.qp q).spent = true) :
    s.nextRead ld c = (s.endConsumed q).send (.line ld c 63 (recLine (s.qp q).endRec)) := by
  simp [State.nextRead, ha, hl, hm, hr, ht, hs]

theorem State.nextRead_notYet (hr : (s.qp q).ring = false) (ht : s.takeRecord q = none) (hs : (s.qp q).spent = false) :
    s.nextRead ld c = s.send (.line ld c 63 (recLine (notValid true))) := by
  simp [State.nextRead, ha, hl, hm, hr, ht, hs]

theorem State.nextRead_ring (hr : (s.qp q).ring = true) :
    s.nextRead ld c = s.send (.line ld c 63 (recLine (notValid true))) := by
  simp [State.nextRead, ha, hl, hm, hr]

end

/-! ### MATCH_ENTRY_WRITE -/

theorem exec_matchEntryWrite (q : TableId) (n : Fin 4) (s : State) :
    exec (.matchEntryWrite q n) s = whileUp s (fun s => s.matchWrite q.val n.val) := rfl

theorem State.matchWrite_due {s u : State} {q n b : Nat} {r : BitVec 128} {rs : List (BitVec 128)} {x : Req}
    (hd : (s.qp q).draining = some b) (hr : (s.qp q).ring = true) (hn : n ≠ 0) (hf : s.cqFree (s.qp q).ctx = true)
    (hs : (s.cx (s.qp q).ctx).state ≠ 3) (ht : s.takeRecords q b n = (r :: rs, u))
    (hx : (s.cx (s.qp q).ctx).req? false (s.qp q).n = some x) :
    s.matchWrite q n = u.cqWrite (s.qp q).ctx (fun ph => cqHeader ph 2 (rs.length + 1)
        (x.n % 2 ^ s.ringLog (offSq (s.qp q).ctx)) 2 (s.qp q).table 0 St.success x.tag)
      (((r :: rs).zip [0, 128, 256]).foldl (fun (w : BitVec 384) e => w ||| ((e.1.setWidth 384) <<< e.2)) 0) := by
  rw [State.matchWrite]
  simp only [hd, hr, hn, hf, hs, ht, hx, Bool.not_true, decide_false, Bool.or_self, Bool.false_eq_true, if_false,
    List.isEmpty_cons, List.length_cons]

theorem State.matchWrite_waits {s : State} {q n : Nat} (h : (s.qp q).draining = none ∨ (s.qp q).ring = false ∨ n = 0 ∨
    s.cqFree (s.qp q).ctx = false) : s.matchWrite q n = s := by
  rw [State.matchWrite]
  split
  · rfl
  next b hb =>
    have hno : (s.qp q).ring = false ∨ n = 0 ∨ s.cqFree (s.qp q).ctx = false := by simpa [hb] using h
    refine if_pos ?_
    rcases hno with h | h | h
    all_goals simp [h]

/-! ### RESET_QUEUE -/

section
variable {c : Id12} {n : BitVec 32} {r : Req} {s : State} (hu : s.up = true) (hr : s.ready c.val n.toNat 3 = some r)
include hu hr

theorem execResetQueue_pair {q : Nat} (hm : (s.cx c.val).mq = some q) : exec (.resetQueue c n) s =
    .next ((s.resetQueue q).resolve (.req c.val n.toNat) { status := St.success, tick := s.tick }) := by
  rw [show exec (.resetQueue c n) s = execResetQueue c n s from rfl, execResetQueue, whileUp_of_up hu]
  simp only [hr, hm]

theorem execResetQueue_noPair (hm : (s.cx c.val).mq = none) : exec (.resetQueue c n) s =
    .next (s.resolve (.req c.val n.toNat) { status := St.queueEmpty, tick := s.tick }) := by
  rw [show exec (.resetQueue c n) s = execResetQueue c n s from rfl, execResetQueue, whileUp_of_up hu]
  simp only [hr, hm]

end

@[simp] theorem State.resolve_qp (s : State) (o r) (j : Nat) : (s.resolve o r).qp j = s.qp j :=
  State.qp_congr ((State.resolve_eff s o r).same .mq rfl) j

/-- A pair that is reset is FREE; the other pairs, the rows and the tables stay (06 R222). -/
theorem State.resetQueue_frees {s : State} {q : Nat} (h : (s.qp q).state ≠ 0) :
    (s.resetQueue q).qp q = {} ∧ (∀ j, j ≠ q → (s.resetQueue q).qp j = s.qp j) ∧ (s.resetQueue q).arr = s.arr ∧
      (s.resetQueue q).tbl = s.tbl := by
  rw [State.resetQueue, if_neg h]
  exact ⟨State.qp_setQp_same .., fun j hj => State.qp_setQp_other _ q _ hj, rfl, rfl⟩

/-- Settles O49, a clause at a time from the equations of its commands. -/
theorem matchQueueCommandsAct : Obligations.MatchQueueCommandsAct := by
  refine ⟨?_, ?_, ?_, ?_, ?_, ?_, ?_, ?_, ?_, ?_, ?_, ?_, ?_, ?_, ?_, ?_, ?_, ?_, ?_, ?_, ?_, ?_⟩
  · intro p f d q c n s hu hf ho hc hr hcas hd hq
    refine ⟨_, (exec_enumPassDeliver p s).trans ((whileUp_of_up hu _).trans
      (congrArg _ (State.passDeliver_found hf ho hr hd hq))), ?_⟩
    beta_reduce
    simp only [hc, hcas, Bool.false_eq_true, if_false]
    rw [State.qp_updQp_same, State.dropFlight_qp, QPair.fillLocal_bank]
    exact ⟨rfl, rfl, rfl, (QPair.fillLocal_counts ..).1, fun hp => QPair.fillLocal_first hp _ d,
      fun j hj => State.qp_updQp_other _ q _ hj, rfl, rfl⟩
  · intro p f d t0 s hu hf ho hd
    rw [exec_enumPassDeliver, whileUp_of_up hu, State.passDeliver_partner hf ho hd]
  · exact fun p s h => (exec_enumPassDeliver p s).trans (whileUp_of_fixed (State.passDeliver_early h))
  · intro q r s hu _ hs hr ht hb hl hp
    refine ⟨_, (exec_bankReady q s).trans ((whileUp_of_up hu _).trans
      (congrArg _ (State.bankReady_last hs hr ht hb hl hp))), ?_⟩
    beta_reduce
    rw [State.qp_setQp_same]
    exact ⟨rfl, QPair.markReady_bank .., fun j hj => State.qp_setQp_other _ _ _ hj⟩
  · intro q r k s hu _ hs hr ht hb hm he hst
    refine ⟨_, (exec_bankReady q s).trans ((whileUp_of_up hu _).trans
      (congrArg _ (State.bankReady_more hs hr ht hb hm he hst))), ?_⟩
    beta_reduce
    rw [State.qp_setQp_same]
    obtain ⟨hready, hl, hp⟩ := (s.qp q.val).markReady_bank_fields
      (((s.qp q.val).bank (s.qp q.val).pass).local_.filter (fun r => decide (r.rank ≤ k)))
      (((s.qp q.val).bank (s.qp q.val).pass).partner.filter (fun r => decide (r.rank ≤ k)))
    exact ⟨rfl, rfl, QPair.markReady_state .., hl, hp, hready,
      fun j hj => State.qp_setQp_other _ _ _ hj⟩
  · exact fun q r s hr h => (exec_bankReady q s).trans (whileUp_of_fixed (State.bankReady_early hr h))
  · intro q k s hu hn ha hb hs
    rw [exec_continuationQueue, whileUp_of_up hu, State.continueQ_due hn ha hb hs]
  · exact fun q s h => (exec_continuationQueue q s).trans (whileUp_of_fixed (State.continueQ_waits h))
  · intro q s hu h0 h1 hrec
    rw [exec_bankDrainTake, whileUp_of_up hu, State.drainTake_bank0 h0 h1, isEmpty_and_of_ne hrec, if_neg Bool.false_ne_true]
  · intro q s hu h1 h0 hrec
    rw [exec_bankDrainTake, whileUp_of_up hu, State.drainTake_bank1 h1 h0, isEmpty_and_of_ne hrec, if_neg Bool.false_ne_true]
  · intro q s hu h0 h1 hl hp
    rw [exec_bankDrainTake, whileUp_of_up hu, State.drainTake_bank0 h0 h1, hl, hp]
    rfl
  · exact fun q s h => (exec_bankDrainTake q s).trans (whileUp_of_fixed (State.drainTake_waits h))
  · intro ld c s hu hf h
    rw [exec_nextRead, whileServing_of_up hu hf, State.nextRead_otherLd h]
  · intro ld c s hu hf ha hl hm
    rw [exec_nextRead, whileServing_of_up hu hf, State.nextRead_noPair ha hl hm]
  · intro ld c q r s u hu hf ha hl hm hr ht
    rw [exec_nextRead, whileServing_of_up hu hf, State.nextRead_record ha hl hm hr ht]
  · intro ld c q s hu hf ha hl hm hr ht hsp
    rw [exec_nextRead, whileServing_of_up hu hf, State.nextRead_end ha hl hm hr ht hsp]
  · intro ld c q s hu hf ha hl hm h
    rw [exec_nextRead, whileServing_of_up hu hf]
    cases hr : (s.qp q).ring with
    | true => rw [State.nextRead_ring ha hl hm hr]
    | false =>
      obtain ⟨ht, hsp⟩ := h.resolve_left (by simp [hr])
      rw [State.nextRead_notYet ha hl hm hr ht hsp]
  · intro q n b r rs x s u hu hd hr hn hf hs ht hx
    rw [exec_matchEntryWrite, whileUp_of_up hu, State.matchWrite_due hd hr hn hf hs ht hx]
  · exact fun q n s h => (exec_matchEntryWrite q n s).trans (whileUp_of_fixed (State.matchWrite_waits h))
  · exact fun c n r q s hu hr hm => execResetQueue_pair hu hr hm
  · exact fun c n r s hu hr hm => execResetQueue_noPair hu hr hm
  · intro c n r q s hu hr hm hs
    obtain ⟨hfree, hother, harr, htbl⟩ := State.resetQueue_frees hs
    refine ⟨_, execResetQueue_pair hu hr hm, ?_⟩
    simp only [State.resolve_qp, State.resolve_arr, State.resolve_tbl]
    exact ⟨hfree, hother, harr, htbl⟩

/-- Settles O57, from the equations of the same commands. -/
theorem passStepsComplete : Obligations.PassStepsComplete := by
  refine ⟨?_, ?_, ?_, ?_, ?_⟩
  · intro p f d q c n s hu hf ho hc hr hcas hd hq
    refine ⟨_, (exec_enumPassDeliver p s).trans ((whileUp_of_up hu _).trans
      (congrArg _ (State.passDeliver_found hf ho hr hd hq))), ?_⟩
    beta_reduce
    simp only [hc, hcas, if_true]
    rw [State.qp_updQp_same, State.putFlight_qp, QPair.fillLocal_bank]
    obtain ⟨hl, hp⟩ := (s.qp q).fillLocal_counts (f.g + 88) d
    exact ⟨rfl, rfl, hl, hp, State.mem_putFlight (List.mem_of_find?_eq_some hf) _, fun j hj => State.qp_updQp_other _ q _ hj, rfl⟩
  · intro p f s hu hf ⟨c, n, ho⟩ hc hq
    rw [exec_enumPassDeliver, whileUp_of_up hu, State.passDeliver_unheld hf ho hc hq]
  · intro q r s hu hs hr ht hb hl hp
    refine ⟨_, (exec_bankReady q s).trans ((whileUp_of_up hu _).trans
      (congrArg _ (State.bankReady_last hs hr ht hb (openRank_complete hl) (openRank_complete hp)))), ?_⟩
    beta_reduce
    rw [State.qp_setQp_same]
    obtain ⟨hst, hloc, hpart⟩ := (s.qp q.val).markReady_bank_fields ((s.qp q.val).bank (s.qp q.val).pass).local_
      ((s.qp q.val).bank (s.qp q.val).pass).partner
    exact ⟨rfl, hst, hloc, hpart, rfl, rfl, rfl, rfl⟩
  · intro q k s hu hn ha hb hs
    refine ⟨_, (exec_continuationQueue q s).trans ((whileUp_of_up hu _).trans
      (congrArg _ (State.continueQ_due hn ha hb hs))), ?_⟩
    beta_reduce
    rw [State.qp_enqOp, State.qp_setQp_same, State.enqOp_flights]
    have heff := State.enqOp_eff (s.setQp q.val { s.qp q.val with next := none }) 14
      { table := (s.qp q.val).table, act := .pass (s.qp q.val).key (s.qp q.val).tenant (some k) q.val false,
        origin := .req (s.qp q.val).ctx (s.qp q.val).n, enq := (s.qp q.val).nextAt }
    exact ⟨rfl, fun j hj => (State.qp_enqOp ..).trans (State.qp_setQp_other _ _ _ hj), heff.same .arr rfl, heff.same .regs rfl, rfl⟩
  · intro q s hu h0 h1 hl
    refine ⟨_, (exec_bankDrainTake q s).trans ((whileUp_of_up hu _).trans (congrArg _ ((State.drainTake_bank0 h0 h1).trans
      (if_neg (by simp [hl]))))), ?_⟩
    beta_reduce
    rw [State.qp_setQp_same]
    exact ⟨rfl, rfl, rfl, fun j hj => State.qp_setQp_other _ _ _ hj, rfl, rfl⟩

end Sys2Proof.Machine
end

section
/-! SUPPORT. Proofs. Owner commands of tables and the device's steps of them (04 R131 to R141, 05 R183, R184, 07 R248). -/

set_option Elab.async false

namespace Sys2Proof.Machine

/-! ### Reads of a map whose entries are dropped by key -/

theorem SMap.get_filter_key {α : Type} (d : Nat → α) (m : SMap α) (p : Nat → Bool) (k : Nat) :
    SMap.get d (m.filter (fun e => p e.1)) k = if p k then SMap.get d m k else d k := by
  induction m with
  | nil => simp [SMap.get]
  | cons e m ih =>
    obtain ⟨a, v⟩ := e
    by_cases ha : a = k
    · subst ha
      cases hp : p a
      all_goals simp [SMap.get, hp, ih]
    · cases hp : p a
      all_goals simp [SMap.get, hp, ih, ha]

/-- A key that reads as something else than its default is listed with that value. -/
theorem SMap.mem_of_get_ne {α : Type} (d : Nat → α) (m : SMap α) {k : Nat} (h : SMap.get d m k ≠ d k) :
    (k, SMap.get d m k) ∈ m := by
  induction m with
  | nil => exact absurd rfl h
  | cons e m ih =>
    obtain ⟨a, v⟩ := e
    by_cases ha : a = k
    · simp [SMap.get, ha]
    · simp only [SMap.get, ha, if_false] at h ⊢
      exact List.mem_cons_of_mem _ (ih h)

theorem State.tb_setTb_other (s : State) {t j : Nat} (r : Tbl) (h : j ≠ t) : (s.setTb t r).tb j = s.tb j := by
  rw [State.tb_setTb, if_neg h]

@[simp] theorem State.arow_setTb (s : State) (t : Nat) (r : Tbl) (a : Nat) : (s.setTb t r).arow a = s.arow a := rfl
@[simp] theorem State.arow_ownerEnd (s : State) (via code st r c) (a : Nat) : (s.ownerEnd via code st r c).arow a = s.arow a := rfl

/-! ### How an owner command runs and ends (18 R626 to R628) -/

theorem State.up_of_ownerRuns {s : State} {via : OwnerPath} (h : s.ownerRuns via = true) : s.up = true := by
  simp only [State.ownerRuns, Bool.and_eq_true] at h
  exact h.1.1

section
variable {s : State} {via : OwnerPath} (h : s.ownerRuns via = true) (code : Nat) (eff : State → State)
include h

theorem State.owner1_done : s.owner1 via code none eff = (eff s).ownerEnd via code St.success := by
  simp only [State.ownerRuns, Bool.and_eq_true] at h
  simp [State.owner1, h]

theorem State.owner1_refused (st : Nat) : s.owner1 via code (some st) eff = s.ownerEnd via code st := by
  simp only [State.ownerRuns, Bool.and_eq_true] at h
  simp [State.owner1, h]

theorem State.ownerLong_runs : s.ownerLong via code none eff = s.runsLong (eff s) via := by
  simp only [State.ownerRuns, Bool.and_eq_true] at h
  simp [State.ownerLong, h]

theorem State.ownerLong_refused (st : Nat) : s.ownerLong via code (some st) eff = s.ownerEnd via code st := by
  simp only [State.ownerRuns, Bool.and_eq_true] at h
  simp [State.ownerLong, h]

end

/-- An effect that leaves the mailbox and the tick alone ends its command with SUCCESS at this tick. -/
theorem EndsWith.ended {s t : State} (hmbox : t.mbox = s.mbox) (htick : t.tick = s.tick) (via : OwnerPath) (code : Nat) :
    EndsWith s (t.ownerEnd via code St.success) via code := by
  simp [EndsWith, State.ownerEnd, hmbox, htick]

/-- Firmware runs the command that arrived by `via` (18 R627). -/
def State.running (s : State) (via : OwnerPath) : State := { s with mbox := { s.mbox with running := some via } }

@[simp] theorem State.running_mbox (s : State) (via) : (s.running via).mbox = { s.mbox with running := some via } := rfl
@[simp] theorem State.running_regs (s : State) (via) : (s.running via).regs = s.regs := rfl
@[simp] theorem State.running_arr (s : State) (via) : (s.running via).arr = s.arr := rfl
@[simp] theorem State.running_tb (s : State) (via) (t : Nat) : (s.running via).tb t = s.tb t := rfl
@[simp] theorem State.running_qp (s : State) (via) (q : Nat) : (s.running via).qp q = s.qp q := rfl
@[simp] theorem State.running_blockFree (s : State) (via) : (s.running via).blockFree = s.blockFree := rfl

/-- An effect that ends no command leaves its own running. -/
theorem State.runsLong_running {s t : State} (hmbox : t.mbox = s.mbox) (via : OwnerPath) : s.runsLong t via = t.running via := by
  rw [State.runsLong, if_pos (by rw [hmbox]), State.running]

/-- An effect that has ended its command leaves none running. -/
theorem State.runsLong_ended {s t : State} (hmbox : t.mbox = s.mbox) (via : OwnerPath) (code st : Nat) :
    s.runsLong (t.ownerEnd via code st) via = t.ownerEnd via code st :=
  if_neg (by simp [State.ownerEnd, hmbox])

/-! ### TBL_BLOCK_FREE (04 R123) -/

theorem State.blockFree_congr {s t : State} (h : t.regs = s.regs) : t.blockFree = s.blockFree := by
  rw [State.blockFree, State.reg_congr h, State.reg_congr h, State.blockFree]

@[simp] theorem State.blockFree_setBlockFree (s : State) (b : BlockSet) : (s.setBlockFree b).blockFree = b := by
  have hlow : (s.setBlockFree b).reg 0x4c000 = b.extractLsb' 0 64 :=
    (State.reg_setReg_other _ _ _ _ (by decide)).trans (State.reg_setReg_same ..)
  have hhigh : (s.setBlockFree b).reg 0x4c008 = b.extractLsb' 64 64 := State.reg_setReg_same ..
  rw [State.blockFree, hlow, hhigh]
  exact BitVec.extractLsb'_append_extractLsb'

/-- A write above the register leaves the set of free blocks alone. -/
theorem State.blockFree_setReg (s : State) {o : Nat} (w : Word) (h : 0x4c008 < o) : (s.setReg o w).blockFree = s.blockFree := by
  rw [State.blockFree, State.reg_setReg_other _ _ _ _ (by omega), State.reg_setReg_other _ _ _ _ (by omega), State.blockFree]

theorem State.blockFree_setF (s : State) {x : F} (v : Nat) (h : 0x4c008 < x.off) : (s.setF x v).blockFree = s.blockFree :=
  State.blockFree_setReg s _ h

@[simp] theorem State.blockFree_setHmapFree (s : State) (b : BlockSet) : (s.setHmapFree b).blockFree = s.blockFree :=
  (State.blockFree_setReg _ _ (by decide)).trans (State.blockFree_setReg _ _ (by decide))

@[simp] theorem State.blockFree_setUnits (s : State) (b : BitVec 1024) : (s.setUnits b).blockFree = s.blockFree :=
  (State.blockFree_setF _ _ (by decide)).trans ((State.blockFree_setF _ _ (by decide)).trans (State.blockFree_congr rfl))

@[simp] theorem State.blockFree_setTb (s : State) (t : Nat) (r : Tbl) : (s.setTb t r).blockFree = s.blockFree :=
  State.blockFree_congr (State.setTb_regs ..)
@[simp] theorem State.blockFree_ownerEnd (s : State) (via code st r c) : (s.ownerEnd via code st r c).blockFree = s.blockFree :=
  State.blockFree_congr (State.ownerEnd_regs ..)

end Sys2Proof.Machine
end

section
/-! SUPPORT. Proofs. CREATE_TABLE, RESIZE_TABLE, MIGRATE_TABLE and DIR_PROFILE (04 R131, R133, 05 R183, 07 R248). -/

set_option Elab.async false

namespace Sys2Proof.Machine

/-! ### CREATE_TABLE (04 R131) -/

theorem isArray_iff {k : Nat} : isArray k = true ↔ k = 3 ∨ k = 4 := by
  simp [isArray]

theorem kind_of_isArray {k : Nat} (h : isArray k = true) : 1 ≤ k ∧ k ≤ 5 := by
  have := isArray_iff.mp h
  omega

section
variable {via : OwnerPath} {t : TableId} {k m : Byte} {d u : BitVec 16} {bs : BlockSet} {c : BitVec 32} {s : State}
  (h : s.ownerRuns via = true) (hd : d.toNat < 4096)
include h hd

theorem exec_createTable (hst : (s.tb t.val).state = 0) (ht : t.val < 254) (hk : 1 ≤ k.toNat ∧ k.toNat ≤ 5)
    (hp : createParamsOk k.toNat m.toNat bs c.toNat u.toNat = true) (hr : s.createRoom k.toNat m.toNat bs c.toNat u.toNat = true) :
    exec (.createTable via t k d m bs c u) s =
      .next ((s.create t.val k.toNat d.toNat m.toNat bs c.toNat u.toNat).ownerEnd via 0x20 St.success) := by
  obtain ⟨hk1, hk5⟩ := hk
  have hd' : ¬ 4096 ≤ d.toNat := by omega
  have hk0 : ¬ k.toNat = 0 := by omega
  have hk6 : ¬ 5 < k.toNat := by omega
  refine Eq.trans (b := execCreateTable via t k d m bs c u s) rfl ?_
  rw [execCreateTable, whileUp_of_up (State.up_of_ownerRuns h)]
  simp only [firstBad, createIdOk, hd', hst, hk6, ht, hp, hr, List.find?, Option.map_none, decide_false, decide_true,
    bne_self_eq_false, Bool.true_or, Bool.or_false, Bool.not_true, beq_eq_false_iff_ne.mpr hk0,
    State.owner1_done h]

theorem exec_createTable_malformed (hbad : (s.tb t.val).state ≠ 0 ∨ t.val = 254 ∨ k = 0 ∨ 5 < k.toNat) :
    exec (.createTable via t k d m bs c u) s = .next (s.ownerEnd via 0x20 St.malformed) := by
  have hd' : ¬ 4096 ≤ d.toNat := by omega
  have hfail : ((s.tb t.val).state != 0 || k.toNat == 0 || decide (5 < k.toNat) || !createIdOk t.val k.toNat ||
      !createParamsOk k.toNat m.toNat bs c.toNat u.toNat) = true := by
    rcases hbad with hs | ht | rfl | hk
    · simp [hs]
    · simp [createIdOk, ht]
    · simp
    · simp [hk]
  refine Eq.trans (b := execCreateTable via t k d m bs c u s) rfl ?_
  rw [execCreateTable, whileUp_of_up (State.up_of_ownerRuns h)]
  simp only [firstBad, hd', hfail, List.find?, Option.map_some, decide_false, State.owner1_refused h]

end

/-- The record of a new table below 254 before it has storage (04 R131). -/
def newTbl (kind domain : Nat) : Tbl := { state := 1, kind := kind, domain := domain, profile := Prof.initial }

section
variable (s : State) {t : Nat} (ht : t < 254) (dom m : Nat) (bs : BlockSet) (c u : Nat)
include ht

theorem State.create_array {k : Nat} (hk : isArray k = true) : s.create t k dom m bs c u =
    ((s.setBlockFree (s.blockFree &&& ~~~bs)).setHmapFree ((s.setBlockFree (s.blockFree &&& ~~~bs)).hmapFree &&&
        ~~~(runSet 128 ((lowestRun 128 m (fun i => s.hmapFree.getLsbD i)).getD 0) m))).setTb t
      { newTbl k dom with blocks := bs, maxBlocks := m,
                          hmapBase := (lowestRun 128 m (fun i => s.hmapFree.getLsbD i)).getD 0 } := by
  have hsys : (t == 255) = false := by simp; omega
  simp [State.create, hsys, hk, newTbl]

theorem State.create_direct : s.create t 1 dom m bs c u =
    (s.setUnits (s.dsram.taken ||| runSet 1024 ((lowestRun 1024 u (fun i => !s.dsram.taken.getLsbD i)).getD 0) u)).setTb t
      { newTbl 1 dom with regionBase := (lowestRun 1024 u (fun i => !s.dsram.taken.getLsbD i)).getD 0, regionSize := u,
                          count := c } := by
  have hsys : (t == 255) = false := by simp; omega
  simp [State.create, hsys, isArray, newTbl]

theorem State.create_prefixes : s.create t 2 dom m bs c u =
    (s.setF fPrefixFree (s.f fPrefixFree - c)).setTb t { newTbl 2 dom with count := c } := by
  have hsys : (t == 255) = false := by simp; omega
  simp [State.create, hsys, isArray, newTbl]

end

/-- What CREATE_TABLE does ends its command with SUCCESS. -/
theorem EndsWith.create (s : State) (via : OwnerPath) (t k dom m : Nat) (bs : BlockSet) (c u : Nat) :
    EndsWith s ((s.create t k dom m bs c u).ownerEnd via 0x20 St.success) via 0x20 :=
  .ended ((State.create_eff s t k dom m bs c u).same .mbox rfl) ((State.create_eff s t k dom m bs c u).tick rfl) via 0x20

/-! ### RESIZE_TABLE (04 R133) -/

section
variable {via : OwnerPath} {t : TableId} {bs : BlockSet} {c : BitVec 32} {s u : State} (h : s.ownerRuns via = true)
  (hb : resizeBad t.val (s.tb t.val) bs c.toNat = none) (hc : s.resizeCond t.val (s.tb t.val) bs c.toNat = none)
include h hb hc

theorem exec_resizeTable :
    exec (.resizeTable via t bs c) s = .next (s.runsLong (s.resize t.val (s.tb t.val) via bs c.toNat) via) := by
  refine Eq.trans (b := execResizeTable via t bs c s) rfl ?_
  rw [execResizeTable, whileUp_of_up (State.up_of_ownerRuns h)]
  simp only [hb, hc, Option.or_none, State.ownerLong_runs h]

/-- A resize that is done at once. -/
theorem exec_resizeTable_ended (hu : s.resize t.val (s.tb t.val) via bs c.toNat = u.ownerEnd via 0x21 St.success)
    (hm : u.mbox = s.mbox) : exec (.resizeTable via t bs c) s = .next (u.ownerEnd via 0x21 St.success) := by
  rw [exec_resizeTable h hb hc, hu, State.runsLong_ended hm]

/-- A resize that runs on. -/
theorem exec_resizeTable_running (hu : s.resize t.val (s.tb t.val) via bs c.toNat = u) (hm : u.mbox = s.mbox) :
    exec (.resizeTable via t bs c) s = .next (u.running via) := by
  rw [exec_resizeTable h hb hc, hu, State.runsLong_running hm]

end

theorem State.resize_grow (s : State) (t : Nat) {r : Tbl} (via : OwnerPath) {bs : BlockSet} (c : Nat) (hk : isArray r.kind = true)
    (hg : r.blocks &&& ~~~bs = 0) : s.resize t r via bs c =
      ((s.setBlockFree (s.blockFree &&& ~~~(bs &&& ~~~r.blocks))).setTb t
        { r with blocks := bs, gen := (r.gen + 1) % 65536 }).ownerEnd via 0x21 St.success := by
  simp [State.resize, hk, hg]

/-- A shrink of a table without a lock starts at once (04 R134 step 1). -/
theorem State.resize_shrink {s : State} {t : Nat} (via : OwnerPath) {bs : BlockSet} (c : Nat)
    (hk : isArray (s.tb t).kind = true) (hg : (s.tb t).blocks &&& ~~~bs ≠ 0) (hl : (s.tb t).lock = none) :
    s.resize t (s.tb t) via bs c = s.setTb t { s.tb t with
      shrinking := true, leaving := (s.tb t).blocks &&& ~~~bs, shrinkVia := some via, shrinkWait := none } := by
  rw [State.resize, if_pos hk, if_neg (by simpa using hg)]
  simp [State.shrinkStart, State.updTb, hl]

theorem State.resize_direct (s : State) (t : Nat) {r : Tbl} (via : OwnerPath) (bs : BlockSet) {c : Nat} (hk : r.kind = 1)
    (hc : r.count ≤ c) : s.resize t r via bs c = (s.setTb t { r with count := c }).ownerEnd via 0x21 St.success := by
  have hlt : ¬ c < r.count := by omega
  simp [State.resize, isArray, hk, hlt]

theorem State.resize_prefixes (s : State) (t : Nat) {r : Tbl} (via : OwnerPath) (bs : BlockSet) (c : Nat) (hk : r.kind = 2) :
    s.resize t r via bs c = ((s.setF fPrefixFree (s.f fPrefixFree + r.count - c)).setTb t { r with count := c }).ownerEnd via 0x21
      St.success := by
  simp [State.resize, isArray, hk]

/-- A table that is no array and stands passes the first checks of R133 when the resize names no block. -/
theorem resizeBad_noBlocks {t : Nat} {r : Tbl} (c : Nat) (ht : t < 254) (hk : r.kind = 1 ∨ r.kind = 2) (h0 : r.state ≠ 0)
    (h4 : r.state ≠ 4) : resizeBad t r 0 c = none := by
  have ht' : ¬ t = 254 := by omega
  rcases hk with hk | hk
  all_goals simp [resizeBad, firstBad, isArray, ht', hk, h0, h4]

theorem State.resizeCond_direct (s : State) (t : Nat) {r : Tbl} (bs : BlockSet) {c : Nat} (hk : r.kind = 1) (h0 : c ≠ 0)
    (hc : c ≤ 1024 * r.regionSize) (hi : Prof.idxBits r.profile = 0) : s.resizeCond t r bs c = none := by
  have hc' : ¬ 1024 * r.regionSize < c := by omega
  simp [State.resizeCond, firstBad, isArray, hk, h0, hc', hi]

theorem State.resizeCond_prefixes {s : State} (t : Nat) {r : Tbl} (bs : BlockSet) {c : Nat} (hk : r.kind = 2) (h0 : c ≠ 0)
    (hc : c ≤ s.f fPrefixFree + r.count) (hp : r.prefixes.length ≤ c) : s.resizeCond t r bs c = none := by
  have hc' : ¬ s.f fPrefixFree + r.count < c := by omega
  have hp' : ¬ c < r.prefixes.length := by omega
  simp [State.resizeCond, firstBad, isArray, hk, h0, hc', hp']

/-! ### MIGRATE_TABLE (05 R183) -/

theorem exec_migrateTable {via : OwnerPath} {t : TableId} {bs : BlockSet} {s : State} (h : s.ownerRuns via = true)
    (hb : s.migrateBad t.val (s.tb t.val) bs = none) : exec (.migrateTable via t bs) s =
      .next ((s.migrate t.val via bs).running via) := by
  refine Eq.trans (b := execMigrateTable via t bs s) rfl ?_
  rw [execMigrateTable, whileUp_of_up (State.up_of_ownerRuns h), hb, State.ownerLong_runs h,
    State.runsLong_running ((State.migrate_eff s t.val via bs).same .mbox rfl)]

/-- A table that may migrate has no shrink waiting. -/
theorem State.migrateBad_shrinkWait {s : State} {t : Nat} {r : Tbl} {bs : BlockSet} (h : s.migrateBad t r bs = none) :
    r.shrinkWait = none := by
  simp only [State.migrateBad, firstBad, Option.map_eq_none_iff, List.find?_eq_none] at h
  have hlast := h (r.shrinking || r.shrinkWait.isSome || r.s2.isSome || r.migration.isSome || r.migWait.isSome, St.locked)
    (by simp)
  simp only [Bool.or_eq_true, not_or, Bool.not_eq_true, Option.isSome_eq_false_iff, Option.isNone_iff_eq_none] at hlast
  obtain ⟨⟨⟨⟨-, hw⟩, -⟩, -⟩, -⟩ := hlast
  exact hw

theorem State.migrate_locked {s : State} {t : Nat} {l : Lock} (via : OwnerPath) (bs : BlockSet) (hl : (s.tb t).lock = some l) :
    s.migrate t via bs = s.setTb t { s.tb t with migWait := some (via, bs) } := by
  simp [State.migrate, State.afterLock, State.updTb, hl]

/-- Without a lock the target set leaves the free blocks and the table is dual-homed at once (05 R184). -/
theorem State.migrate_starts {s : State} {t : Nat} (via : OwnerPath) (bs : BlockSet) (hl : (s.tb t).lock = none)
    (hw : (s.tb t).shrinkWait = none) : s.migrate t via bs =
      ((s.setTb t { s.tb t with migWait := some (via, bs) }).setBlockFree (s.blockFree &&& ~~~bs)).setTb t
        { s.tb t with mig := bs, migration := some { via := via, target := bs }, migWait := none } := by
  simp [State.migrate, State.afterLock, State.updTb, hl, hw]

/-! ### DIR_PROFILE (07 R248) -/

/-- Table 255 with a profile, and the generation that a changed profile gives it (04 R118). -/
def Tbl.reprofiled (r : Tbl) (p : Line) : Tbl := { r with profile := p, gen := if p = r.profile then r.gen else (r.gen + 1) % 65536 }

theorem exec_dirProfile {via : OwnerPath} {p : BitVec 32} {g : Byte} {s : State} (h : s.ownerRuns via = true)
    (h0 : (s.tb 255).state ≠ 0) (h4 : (s.tb 255).state ≠ 4) (hg : g.toNat ≤ 64) (hmin : minSweep (s.tb 255).maxBlocks ≤ p.toNat)
    (hmax : p.toNat ≤ 1048575) : exec (.dirProfile via p g) s =
      .next ((s.setTb 255 ((s.tb 255).reprofiled (dirProfileOf p.toNat g.toNat))).ownerEnd via 0x25 St.success) := by
  have hg' : ¬ 64 < g.toNat := by omega
  have hmin' : ¬ p.toNat < minSweep (s.tb 255).maxBlocks := by omega
  have hmax' : ¬ 1048575 < p.toNat := by omega
  have hbad : firstBad [((s.tb 255).state == 0, St.malformed), ((s.tb 255).state == 4, St.contextDisabled),
      (decide (64 < g.toNat) || decide (p.toNat < minSweep (s.tb 255).maxBlocks) || decide (1048575 < p.toNat), St.malformed)] =
      none := by
    simp [firstBad, h0, h4, hg', hmin', hmax']
  refine Eq.trans (b := execDirProfile via p g s) rfl ?_
  rw [execDirProfile, whileUp_of_up (State.up_of_ownerRuns h)]
  simp only [hbad, State.owner1_done h]
  rfl

end Sys2Proof.Machine
end

section
/-! SUPPORT. Proofs. The end of a shrink and of a migration (04 R134, 05 R184): SHRINK_END, SHRINK_BLOCK_CLEAR, MIGRATION_CUTOVER, MIGRATION_OLD_CLEAR. -/

set_option Elab.async false

namespace Sys2Proof.Machine

/-! ### SHRINK_END (04 R134) -/

theorem exec_shrinkEnd (t : TableId) (s : State) :
    exec (.shrinkEnd t) s = whileUp s (fun s => (s.shrinkEnd t.val).shrinkMoves t.val) := rfl

theorem State.shrinkMoves_still {s : State} {t : Nat} (h : (s.tb t).shrinking = false) : s.shrinkMoves t = s := by
  simp [State.shrinkMoves, h]

theorem State.shrinkEnd_still {s : State} {t : Nat} (h : (s.tb t).shrinking = false) : s.shrinkEnd t = s := by
  rw [State.shrinkEnd, State.when_false (by simp [h])]

/-- A row of a table in some blocks is a taken row, and lies in those blocks. -/
theorem State.mem_rowsIn {s : State} {t : Nat} {b : BlockSet} {e : Nat × Row} (h : e ∈ s.rowsIn t b) :
    e.1 ∈ s.takenRows ∧ b.getLsbD (blockOf e.1) = true := by
  obtain ⟨hrow, hblock⟩ := List.mem_filter.mp h
  refine ⟨?_, hblock⟩
  obtain ⟨x, hx, rfl⟩ := List.mem_map.mp hrow
  rw [State.takenRows, List.mem_eraseDups]
  simp only [List.mem_append]
  exact .inl (.inl (.inl (.inl (List.mem_map.mpr ⟨x, (List.mem_filter.mp hx).1, rfl⟩))))

/-- A shrink does not end while a row is left in the leaving blocks. -/
theorem State.shrinkEnd_rowsLeft {s : State} {t : Nat} (h : s.rowsIn t (s.tb t).leaving ≠ []) : s.shrinkEnd t = s := by
  obtain ⟨e, he⟩ := List.exists_mem_of_ne_nil _ h
  obtain ⟨htaken, hblock⟩ := State.mem_rowsIn he
  have hall : s.takenRows.all (fun a => !(s.tb t).leaving.getLsbD (blockOf a)) = false :=
    List.all_eq_false.mpr ⟨e.1, htaken, by simp [hblock]⟩
  rw [State.shrinkEnd, State.when_false (by simp [hall])]

/-- With no taken row in the leaving blocks, they leave the placement and no relocation starts (04 R134 step 5). -/
theorem exec_shrinkEnd_empty {t : TableId} {s : State} (hu : s.up = true) (hs : (s.tb t.val).shrinking = true)
    (h2 : (s.tb t.val).s2 = none) (h : ∀ a ∈ s.takenRows, (s.tb t.val).leaving.getLsbD (blockOf a) = false) :
    exec (.shrinkEnd t) s = .next (s.setTb t.val { s.tb t.val with
      blocks := (s.tb t.val).blocks &&& ~~~(s.tb t.val).leaving, shrinking := false, s2 := some s.tick,
      gen := ((s.tb t.val).gen + 1) % 65536 }) := by
  have hall : s.takenRows.all (fun a => !(s.tb t.val).leaving.getLsbD (blockOf a)) = true :=
    List.all_eq_true.mpr fun a ha => by simp [h a ha]
  rw [exec_shrinkEnd, whileUp_of_up hu, State.shrinkEnd, State.when_true (by simp [hs, h2, hall])]
  exact congrArg _ (State.shrinkMoves_still (by simp))

/-! ### SHRINK_BLOCK_CLEAR (04 R134 step 6) -/

theorem exec_shrinkBlockClear (t : TableId) (s : State) :
    exec (.shrinkBlockClear t) s = whileUp s (fun s => s.shrinkClear t.val) := rfl

/-- The leaving blocks are cleared and returned. -/
def State.shrinkCleared (s : State) (t : Nat) : State :=
  ((s.clearBlocks (s.tb t).leaving).setBlockFree (s.blockFree ||| (s.tb t).leaving)).setTb t
    { s.tb t with leaving := 0, s2 := none, shrinkVia := none }

theorem State.shrinkCleared_mbox (s : State) (t : Nat) : (s.shrinkCleared t).mbox = s.mbox := rfl
theorem State.shrinkCleared_tick (s : State) (t : Nat) : (s.shrinkCleared t).tick = s.tick := rfl

section
variable {s : State} {t c : Nat} (h2 : (s.tb t).s2 = some c)
include h2

theorem State.shrinkClear_early (h : s.tick < c + 24) : s.shrinkClear t = s := by
  simp [State.shrinkClear, h2, h]

variable (h : c + 24 ≤ s.tick)
include h

theorem State.shrinkClear_ends {via : OwnerPath} (hv : (s.tb t).shrinkVia = some via) :
    s.shrinkClear t = (s.shrinkCleared t).ownerEnd via 0x21 St.success := by
  have hlt : ¬ s.tick < c + 24 := by omega
  simp only [State.shrinkClear, h2, hv, hlt, if_false]
  rfl

theorem State.shrinkClear_alone (hv : (s.tb t).shrinkVia = none) : s.shrinkClear t = s.shrinkCleared t := by
  have hlt : ¬ s.tick < c + 24 := by omega
  simp only [State.shrinkClear, h2, hv, hlt, if_false]
  rfl

end

/-- SHRINK_BLOCK_CLEAR of a shrink that no command waits for. -/
theorem exec_shrinkBlockClear_alone {t : TableId} {c : Nat} {s : State} (hu : s.up = true) (h2 : (s.tb t.val).s2 = some c)
    (h : c + 24 ≤ s.tick) (hv : (s.tb t.val).shrinkVia = none) :
    exec (.shrinkBlockClear t) s = .next (s.shrinkCleared t.val) := by
  rw [exec_shrinkBlockClear, whileUp_of_up hu, State.shrinkClear_alone h2 h hv]

theorem exec_shrinkBlockClear_ends {t : TableId} {c : Nat} {via : OwnerPath} {s : State} (hu : s.up = true)
    (h2 : (s.tb t.val).s2 = some c) (h : c + 24 ≤ s.tick) (hv : (s.tb t.val).shrinkVia = some via) :
    exec (.shrinkBlockClear t) s = .next ((s.shrinkCleared t.val).ownerEnd via 0x21 St.success) := by
  rw [exec_shrinkBlockClear, whileUp_of_up hu, State.shrinkClear_ends h2 h hv]

/-- Clearing some blocks frees their rows and leaves the others as they are. -/
theorem State.arow_clearBlocks (s : State) (b : BlockSet) (a : Nat) :
    (s.clearBlocks b).arow a = if b.getLsbD (blockOf a) = true then {} else s.arow a := by
  refine (SMap.get_filter_key _ _ (fun k => !b.getLsbD (blockOf k)) a).trans ?_
  cases b.getLsbD (blockOf a)
  all_goals rfl

theorem State.arow_shrinkCleared (s : State) (t a : Nat) :
    (s.shrinkCleared t).arow a = if (s.tb t).leaving.getLsbD (blockOf a) = true then {} else s.arow a :=
  State.arow_clearBlocks s _ a

theorem State.tb_shrinkCleared (s : State) (t : Nat) :
    (s.shrinkCleared t).tb t = { s.tb t with leaving := 0, s2 := none, shrinkVia := none } := State.tb_setTb_same ..

theorem State.tb_shrinkCleared_other (s : State) {t j : Nat} (h : j ≠ t) : (s.shrinkCleared t).tb j = s.tb j :=
  State.tb_setTb_other _ _ h

theorem State.blockFree_shrinkCleared (s : State) (t : Nat) :
    (s.shrinkCleared t).blockFree = s.blockFree ||| (s.tb t).leaving := State.blockFree_setBlockFree ..

/-! ### MIGRATION_CUTOVER and MIGRATION_OLD_CLEAR (05 R184) -/

theorem exec_migrationOldClear (t : TableId) (s : State) :
    exec (.migrationOldClear t) s = whileUp s (fun s => s.migOldClear t.val) := rfl

section
variable {s : State} {t : Nat} {m : Mig} (hm : (s.tb t).migration = some m)
include hm

theorem State.migOldClear_early {c : Nat} (hc : m.cut = some c) (h : s.tick < c + 88) : s.migOldClear t = s := by
  simp [State.migOldClear, hm, hc, h]

theorem State.migOldClear_due {c : Nat} (hc : m.cut = some c) (h : c + 88 ≤ s.tick) : s.migOldClear t =
    ((s.setBlockFree (s.blockFree ||| m.oldBlocks)).setTb t { s.tb t with migration := none }).ownerEnd m.via 0x23 St.success
      (commit := some c) := by
  have hlt : ¬ s.tick < c + 88 := by omega
  simp [State.migOldClear, State.updTb, hm, hc, hlt]

end

theorem exec_migrationOldClear_due {t : TableId} {m : Mig} {c : Nat} {s : State} (hu : s.up = true)
    (hm : (s.tb t.val).migration = some m) (hc : m.cut = some c) (h : c + 88 ≤ s.tick) : exec (.migrationOldClear t) s =
      .next (((s.setBlockFree (s.blockFree ||| m.oldBlocks)).setTb t.val { s.tb t.val with migration := none }).ownerEnd m.via 0x23
        St.success (commit := some c)) := by
  rw [exec_migrationOldClear, whileUp_of_up hu, State.migOldClear_due hm hc h]

section
variable {s : State} {t : Nat} {m : Mig}
  (hall : ∀ e ∈ s.rowsIn t (s.tb t).blocks, e.2.live = true → ∃ c ∈ m.copies, c.1 = e.2.handle)
include hall

/-- No live row of the old placement lacks its copy. -/
theorem State.copied_live {e : Nat × Row} (he : e ∈ s.rowsIn t (s.tb t).blocks) :
    (e.2.live && !m.copies.any (fun c => c.1 == e.2.handle)) = false := by
  cases hl : e.2.live with
  | false => rfl
  | true =>
    obtain ⟨c, hc, hh⟩ := hall e he hl
    have hany : m.copies.any (fun c => c.1 == e.2.handle) = true := List.any_eq_true.mpr ⟨c, hc, beq_iff_eq.mpr hh⟩
    rw [hany]
    rfl

variable (hm : (s.tb t).migration = some m)
include hm

theorem State.cutoverStart_ready (hc : m.cut = none) (hr : s.mnt.relocs = []) (hq : s.queuedOps = [])
    (hf : ∀ f ∈ s.arb.flights, f.op.act ≠ .upd 0 .cutover) :
    s.cutoverStart t = s.enqOp 12 { table := t, act := .upd 0 .cutover, origin := .tm } := by
  have htodo : (s.rowsIn t (s.tb t).blocks).filter (fun e => e.2.live && !m.copies.any (fun c => c.1 == e.2.handle)) = [] :=
    List.filter_eq_nil_iff.mpr fun e he => by simp [State.copied_live hall he]
  have hflights : s.arb.flights.any (fun f => f.op.table == t && f.op.act == .upd 0 .cutover) = false :=
    List.any_eq_false.mpr fun f hx => by simp [hf f hx]
  simp [State.cutoverStart, hm, htodo, hc, hr, hq, List.any_map, Function.comp_def, hflights]

/-- With every row copied no further copy is queued. -/
theorem State.migCopies_none : s.migCopies t = s := by
  have htodo : ∀ q r : Nat × Row → Bool, (s.rowsIn t (s.tb t).blocks).filter
      (fun e => e.2.live && !m.copies.any (fun c => c.1 == e.2.handle) && q e && r e) = [] := fun q r =>
    List.filter_eq_nil_iff.mpr fun e he => by simp [State.copied_live hall he]
  rw [State.migCopies]
  simp only [hm, htodo, sortBy, List.foldr_nil, List.foldl_nil, ite_self]

end

/-- The rows of a table in some blocks are told by the rows alone. -/
theorem State.rowsIn_congr {s u : State} (h : u.arr = s.arr) (t : Nat) (b : BlockSet) : u.rowsIn t b = s.rowsIn t b := by
  rw [State.rowsIn, State.rowsOf, h, ← State.rowsOf, ← State.rowsIn]

/-- With every row copied the cut-over is requested, and nothing else (05 R184 step 3). -/
theorem exec_migrationCutover_ready {t : TableId} {m : Mig} {s : State} (hu : s.up = true) (hm : (s.tb t.val).migration = some m)
    (hc : m.cut = none) (hall : ∀ e ∈ s.rowsIn t.val (s.tb t.val).blocks, e.2.live = true → ∃ c ∈ m.copies, c.1 = e.2.handle)
    (hr : s.mnt.relocs = []) (hq : s.queuedOps = []) (hf : ∀ f ∈ s.arb.flights, f.op.act ≠ .upd 0 .cutover) :
    exec (.migrationCutover t) s = .next (s.enqOp 12 { table := t.val, act := .upd 0 .cutover, origin := .tm }) := by
  refine Eq.trans (b := execMigrationCutover t s) rfl ?_
  have heff := State.enqOp_eff s 12 { table := t.val, act := .upd 0 .cutover, origin := .tm }
  have htb := State.tb_congr (heff.same .tbl rfl) t.val
  rw [execMigrationCutover, whileUp_of_up hu, State.cutoverStart_ready hall hm hc hr hq hf,
    State.migCopies_none (m := m) (by rw [State.rowsIn_congr (heff.same .arr rfl), htb]; exact hall) (by rw [htb, hm])]

end Sys2Proof.Machine
end

section
/-! SUPPORT. Proofs. The destruction of a table (04 R136 to R140): DESTROY_TABLE, DESTROY_CLEAR_START, DESTROY_ID_FREE. -/

set_option Elab.async false

namespace Sys2Proof.Machine

/-! ### DESTROY_TABLE (04 R136, R137) -/

theorem State.destroyStart_mbox (s : State) (t : Nat) (via : OwnerPath) : (s.destroyStart t via).mbox = s.mbox :=
  (State.destroyStart_eff s t via).same .mbox rfl

section
variable {via : OwnerPath} {t : TableId} {s : State} (h : s.ownerRuns via = true) (ht : t.val < 254)
include h ht

theorem exec_destroyTable (h0 : (s.tb t.val).state ≠ 0) (h4 : (s.tb t.val).state ≠ 4) : exec (.destroyTable via t) s =
    .next ((s.destroyStart t.val via).running via) := by
  have h254 : ¬ t.val = 254 := by omega
  have h255 : ¬ t.val = 255 := by omega
  have hbad : firstBad [(t.val == 254 || (t.val == 255 && s.anyDb), St.privilege), ((s.tb t.val).state == 0, St.malformed),
      ((s.tb t.val).state == 4, St.contextDisabled)] = none := by
    simp [firstBad, h254, h255, h0, h4]
  refine Eq.trans (b := execDestroyTable via t s) rfl ?_
  rw [execDestroyTable, whileUp_of_up (State.up_of_ownerRuns h)]
  simp only [hbad, State.ownerLong_runs h, State.runsLong_running (State.destroyStart_mbox s t.val via)]

theorem exec_destroyTable_free (h0 : (s.tb t.val).state = 0) :
    exec (.destroyTable via t) s = .next (s.ownerEnd via 0x22 St.malformed) := by
  have h254 : ¬ t.val = 254 := by omega
  have h255 : ¬ t.val = 255 := by omega
  have hbad : firstBad [(t.val == 254 || (t.val == 255 && s.anyDb), St.privilege), ((s.tb t.val).state == 0, St.malformed),
      ((s.tb t.val).state == 4, St.contextDisabled)] = some St.malformed := by
    simp [firstBad, h254, h255, h0]
  refine Eq.trans (b := execDestroyTable via t s) rfl ?_
  rw [execDestroyTable, whileUp_of_up (State.up_of_ownerRuns h)]
  simp only [hbad, State.ownerLong_refused h]

end

/-- The table as its lock ends with the destruction. -/
def State.unlocked (s : State) (t : Nat) : State :=
  match (s.tb t).lock with
  | some l => s.updTb t (Tbl.dropLock l)
  | none => s

theorem State.unlocked_lock (s : State) (t : Nat) : ((s.unlocked t).tb t).lock = none := by
  rw [State.unlocked]
  split
  · rw [State.tb_updTb_same]
    rfl
  next h => exact h

theorem State.unlocked_eff (s : State) (t : Nat) : Eff 1024 s (s.unlocked t) := by
  rw [State.unlocked]
  split
  · exact State.updTb_eff ..
  · exact Eff.refl

/-- The pairs that name the table are reset and everything queued for it is refused (04 R137). -/
def State.emptied (s : State) (t : Nat) : State :=
  ((s.unlocked t).resetQueuesOf (fun q => q.table == t)).refuseQueued t

theorem State.destroyStart_eq (s : State) (t : Nat) (via : OwnerPath) : s.destroyStart t via =
    (s.emptied t).setTb t { (s.unlocked t).tb t with
      state := 4, destroy := some (via, s.tick), bulk := none, shrinkWait := none, migWait := none } := by
  have hq := State.resetQueuesOf_eff (s.unlocked t) (fun q => q.table == t)
  have hr := State.refuseQueued_eff ((s.unlocked t).resetQueuesOf (fun q => q.table == t)) t
  have htb : (s.emptied t).tb t = (s.unlocked t).tb t := (State.tb_congr (hr.same .tbl rfl) t).trans (State.tb_congr (hq.same .tbl rfl) t)
  have htick : (s.emptied t).tick = s.tick := (hr.tick rfl).trans ((hq.tick rfl).trans ((State.unlocked_eff s t).tick rfl))
  rw [← htb, ← htick]
  rfl

theorem State.tb_destroyStart (s : State) (t : Nat) (via : OwnerPath) : (s.destroyStart t via).tb t = { (s.unlocked t).tb t with
    state := 4, destroy := some (via, s.tick), bulk := none, shrinkWait := none, migWait := none } := by
  rw [State.destroyStart_eq, State.tb_setTb_same]

/-- A reset pair is FREE and every other one stays; a FREE pair is not touched. -/
theorem State.qp_resetQueue (s : State) (q j : Nat) :
    (s.resetQueue q).qp j = if j = q ∧ (s.qp q).state ≠ 0 then {} else s.qp j := by
  by_cases h : (s.qp q).state = 0
  · rw [State.resetQueue, if_pos h, if_neg (by simp [h])]
  · obtain ⟨hsame, hother, -, -⟩ := State.resetQueue_frees h
    by_cases hj : j = q
    · rw [if_pos ⟨hj, h⟩, hj, hsame]
    · rw [if_neg (by simp [hj]), hother j hj]

theorem State.qp_resetQueues (l : List (Nat × QPair)) (s : State) (q : Nat) :
    (l.foldl (fun s e => s.resetQueue e.1) s).qp q = if q ∈ l.map Prod.fst ∧ (s.qp q).state ≠ 0 then {} else s.qp q := by
  induction l generalizing s with
  | nil => simp
  | cons e l ih =>
    rw [List.foldl_cons, ih, State.qp_resetQueue]
    by_cases hq : q = e.1
    · subst hq
      by_cases h0 : (s.qp e.1).state = 0
      · simp [h0]
      · simp [h0]
    · simp only [hq, false_and, if_false, List.map_cons, List.mem_cons, false_or]

theorem State.qp_destroyStart (s : State) (t : Nat) (via : OwnerPath) (q : Nat) : (s.destroyStart t via).qp q =
    if q ∈ (s.mq.filter (fun e => e.2.table == t)).map Prod.fst ∧ (s.qp q).state ≠ 0 then {} else s.qp q := by
  have hmq : (s.unlocked t).mq = s.mq := (State.unlocked_eff s t).same .mq rfl
  have hr := State.refuseQueued_eff ((s.unlocked t).resetQueuesOf (fun q => q.table == t)) t
  rw [State.destroyStart_eq, State.setTb_qp, State.emptied, State.qp_congr (hr.same .mq rfl), State.resetQueuesOf,
    State.qp_resetQueues, hmq, State.qp_congr hmq]

/-- A pair in use that names the table is FREE after its destruction began. -/
theorem State.qp_destroyStart_named {s : State} {t : Nat} (via : OwnerPath) {q : Nat} (h : (s.qp q).state ≠ 0)
    (ht : (s.qp q).table = t) : (s.destroyStart t via).qp q = {} := by
  have hmem : (q, s.qp q) ∈ s.mq := SMap.mem_of_get_ne _ _ fun hq => h (by rw [State.qp, hq])
  rw [State.qp_destroyStart, if_pos ⟨List.mem_map.mpr ⟨_, List.mem_filter.mpr ⟨hmem, by simp [ht]⟩, rfl⟩, h⟩]

/-- Where every listed pair is the one that its number reads as, a pair that names another table stays. -/
theorem State.qp_destroyStart_other {s : State} {t : Nat} (via : OwnerPath) (hmq : ∀ e ∈ s.mq, e.2 = s.qp e.1) {q : Nat}
    (h : (s.qp q).table ≠ t) : (s.destroyStart t via).qp q = s.qp q := by
  rw [State.qp_destroyStart, if_neg]
  rintro ⟨hq, -⟩
  obtain ⟨e, he, rfl⟩ := List.mem_map.mp hq
  obtain ⟨hmem, htable⟩ := List.mem_filter.mp he
  exact h (by rw [← hmq e hmem]; simpa using htable)

/-! ### DESTROY_CLEAR_START (04 R140) -/

theorem exec_destroyClearStart (t : TableId) (s : State) :
    exec (.destroyClearStart t) s = whileUp s (fun s => s.destroyClear t.val) := rfl

/-- The handle map's window of a table is cleared. -/
def State.hmapCleared (s : State) (t : Nat) : State :=
  { s with arr := { s.arr with
      hmap := s.arr.hmap.filter (fun e => e.1 / 2 ^ 22 != t), hmapBad := s.arr.hmapBad.filter (fun e => e.1 / 2 ^ 22 != t) } }

/-- The region of a DIRECT table is cleared with it. -/
def State.storageCleared (s : State) (t : Nat) : State :=
  if (s.tb t).kind == 1 then (s.hmapCleared t).zeroEntries (1024 * (s.tb t).regionBase) 0 (1024 * (s.tb t).regionSize)
  else s.hmapCleared t

theorem State.storageCleared_arr (s : State) (t : Nat) : (s.storageCleared t).arr = (s.hmapCleared t).arr := by
  rw [State.storageCleared]
  split
  all_goals rfl

theorem State.storageCleared_rows (s : State) (t : Nat) : (s.storageCleared t).arr.rows = s.arr.rows := by
  rw [State.storageCleared_arr]
  rfl

theorem State.storageCleared_tb (s : State) (t j : Nat) : (s.storageCleared t).tb j = s.tb j := by
  rw [State.storageCleared]
  split
  all_goals rfl

theorem State.hrow_congr {s u : State} (h : u.arr = s.arr) (t i : Nat) : u.hrow t i = s.hrow t i := by
  rw [State.hrow, h, ← State.hrow]

theorem State.hrow_hmapCleared (s : State) (t : Nat) {h : Nat} (hh : h < 2 ^ 22) : (s.hmapCleared t).hrow t h = none := by
  have hwindow : hkey t h / 2 ^ 22 = t := by
    rw [hkey]
    omega
  have hnum : num (s.hmapCleared t).arr.hmap (hkey t h) = 0 := by
    refine (SMap.get_filter_key _ _ (fun k => k / 2 ^ 22 != t) _).trans ?_
    rw [hwindow, bne_self_eq_false]
    rfl
  rw [State.hrow, hnum]

/-- The words of a DIRECT table's region, and only they, are zeroed. -/
theorem State.word_storageCleared {s : State} {t : Nat} (hk : (s.tb t).kind = 1) (a : Nat) :
    SMap.get (fun _ => 0) (s.storageCleared t).dsram.words a =
      if 1024 * (s.tb t).regionBase ≤ a ∧ a < 1024 * (s.tb t).regionBase + 1024 * (s.tb t).regionSize then 0
      else SMap.get (fun _ => 0) s.dsram.words a := by
  rw [State.storageCleared, if_pos (by simp [hk])]
  refine (SMap.get_filter_key _ _ (fun k => !(decide (1024 * (s.tb t).regionBase + 0 ≤ k) &&
    decide (k < 1024 * (s.tb t).regionBase + 1024 * (s.tb t).regionSize))) a).trans ?_
  by_cases hin : 1024 * (s.tb t).regionBase ≤ a ∧ a < 1024 * (s.tb t).regionBase + 1024 * (s.tb t).regionSize
  · simp [hin]
  · simp only [← Bool.decide_and, Nat.add_zero, hin, decide_false, Bool.not_false, if_true, if_false]
    rfl

section
variable {s : State} {t d : Nat} {via : OwnerPath} (hd : (s.tb t).destroy = some (via, d))
include hd

theorem State.destroyClear_early (h : s.tick < d + 24) : s.destroyClear t = s := by
  simp [State.destroyClear, hd, h]

theorem State.destroyClear_due (h : d + 24 ≤ s.tick) (hc : (s.tb t).clearStarted = false) : s.destroyClear t =
    (s.storageCleared t).setTb t { s.tb t with prefixes := [], image := [], clearStarted := true } := by
  have hlt : ¬ s.tick < d + 24 := by omega
  rw [← State.storageCleared_tb s t t]
  simp only [State.destroyClear, hd, hc, hlt, decide_false, Bool.or_self, Bool.false_eq_true, if_false]
  rfl

end

theorem exec_destroyClearStart_due {t : TableId} {via : OwnerPath} {d : Nat} {s : State} (hu : s.up = true)
    (hd : (s.tb t.val).destroy = some (via, d)) (h : d + 24 ≤ s.tick) (hc : (s.tb t.val).clearStarted = false) :
    exec (.destroyClearStart t) s = .next ((s.storageCleared t.val).setTb t.val
      { s.tb t.val with prefixes := [], image := [], clearStarted := true }) := by
  rw [exec_destroyClearStart, whileUp_of_up hu, State.destroyClear_due hd h hc]

/-! ### The clearing of rows (04 R140) -/

/-- One segment of each of some blocks is freed, and no other row. -/
theorem State.row_clearSegs (s : State) (b : BlockSet) (i a : Nat) :
    (s.clearSegs b i).row a = if segOf a % 64 = i ∧ b.getLsbD (blockOf a) = true then {} else s.row a := by
  have hblock : segOf a / 64 = blockOf a := Nat.div_div_eq_div_mul a 256 64
  have hget : (s.clearSegs b i).arow a = if segOf a % 64 = i ∧ b.getLsbD (blockOf a) = true then {} else s.arow a := by
    refine (SMap.get_filter_key _ _ (fun k => segOf k % 64 != i || !b.getLsbD (segOf k / 64)) a).trans ?_
    rw [hblock]
    by_cases hin : segOf a % 64 = i ∧ b.getLsbD (blockOf a) = true
    · simp [hin]
    · rw [if_neg hin, if_pos (by simpa [Decidable.imp_iff_not_or] using hin)]
      rfl
  rw [State.row, hget, apply_ite ArrRow.row]

/-! ### DESTROY_ID_FREE (04 R140) -/

theorem exec_destroyIdFree (t : TableId) (s : State) : exec (.destroyIdFree t) s = whileUp s (fun s => s.destroyFree t.val) := rfl

/-- The handle-map units of an array table, the direct SRAM units of a DIRECT table or the prefixes of a PREFIX table are
given back. -/
def State.capacityBack (s : State) (r : Tbl) : State :=
  let s := if isArray r.kind then s.setHmapFree (s.hmapFree ||| runSet 128 r.hmapBase r.maxBlocks) else s
  let s := if r.kind == 1 then s.setUnits (s.dsram.taken &&& ~~~(runSet 1024 r.regionBase r.regionSize)) else s
  if r.kind == 2 then s.setF fPrefixFree (s.f fPrefixFree + r.count) else s

theorem State.capacityBack_direct (s : State) {r : Tbl} (hk : r.kind = 1) : s.capacityBack r =
    s.setUnits (s.dsram.taken &&& ~~~(runSet 1024 r.regionBase r.regionSize)) := by
  simp [State.capacityBack, isArray, hk]

theorem State.capacityBack_prefixes (s : State) {r : Tbl} (hk : r.kind = 2) :
    s.capacityBack r = s.setF fPrefixFree (s.f fPrefixFree + r.count) := by
  simp [State.capacityBack, isArray, hk]

/-- Everything of table `t` but its record is given back. -/
def State.storageBack (s : State) (t : Nat) : State :=
  let u := (s.setBlockFree (s.blockFree ||| (s.tb t).placement ||| (s.tb t).leaving)).capacityBack (s.tb t)
  ({ u with lrn := u.lrn.closed t } : State).clearCounts t

theorem State.reg_clearCounts (s : State) (t : Nat) {o : Nat} (h : o < 0x4d000) : (s.clearCounts t).reg o = s.reg o := by
  have hfold : ∀ (l : List Nat) (u : State), (∀ x ∈ l, 0x4d000 ≤ x) →
      (l.foldl (fun s o => s.setF ⟨o, 0, 64⟩ 0) u).reg o = u.reg o := by
    intro l
    induction l with
    | nil => exact fun u _ => rfl
    | cons x l ih =>
      intro u hl
      have hx : 0x4d000 ≤ x := hl x (by simp)
      rw [List.foldl_cons, ih _ fun y hy => hl y (by simp [hy]), State.reg_setF_other _ _ _ _ (by simp only; omega)]
  refine hfold _ s fun x hx => ?_
  rcases List.mem_append.mp hx with hx | hx
  · obtain ⟨j, -, rfl⟩ := List.mem_map.mp hx
    omega
  · split at hx
    · simp only [List.mem_cons, List.not_mem_nil, or_false] at hx
      omega
    · exact absurd hx List.not_mem_nil

theorem State.f_clearCounts (s : State) (t : Nat) {x : F} (h : x.off < 0x4d000) : (s.clearCounts t).f x = s.f x := by
  rw [State.f, State.reg_clearCounts s t h, ← State.f]

theorem State.capacityBack_eff (s : State) (r : Tbl) : Eff 65600 s (s.capacityBack r) := by
  unfold State.capacityBack
  extract_lets s₁ s₂
  have h₁ : Eff 65600 s s₁ := .ite ((State.setHmapFree_eff ..).mono (by decide)) .refl
  have h₂ : Eff 65600 s s₂ := .ite (h₁.then (State.setUnits_eff ..) (by decide)) h₁
  exact .ite (h₂.then (State.setF_eff ..) (by decide)) h₂

theorem State.storageBack_eff (s : State) (t : Nat) : Eff 73792 s (s.storageBack t) := by
  unfold State.storageBack
  extract_lets u
  have hu : Eff 73792 s u :=
    ((State.setBlockFree_eff ..).mono (by decide)).then (State.capacityBack_eff ..) (by decide)
  exact (hu.then (upd_lrn ..) (by decide)).then (State.clearCounts_eff ..) (by decide)

theorem State.storageBack_mbox (s : State) (t : Nat) : (s.storageBack t).mbox = s.mbox := (State.storageBack_eff s t).same .mbox rfl
theorem State.storageBack_arr (s : State) (t : Nat) : (s.storageBack t).arr = s.arr := (State.storageBack_eff s t).same .arr rfl
theorem State.storageBack_tb (s : State) (t j : Nat) : (s.storageBack t).tb j = s.tb j :=
  State.tb_congr ((State.storageBack_eff s t).same .tbl rfl) j

theorem State.blockFree_capacityBack (s : State) (r : Tbl) : (s.capacityBack r).blockFree = s.blockFree := by
  simp only [State.capacityBack, apply_ite State.blockFree, State.blockFree_setHmapFree, State.blockFree_setUnits,
    fun u v => State.blockFree_setF u (x := fPrefixFree) v (by decide), ite_self]

theorem State.blockFree_storageBack (s : State) (t : Nat) :
    (s.storageBack t).blockFree = s.blockFree ||| (s.tb t).placement ||| (s.tb t).leaving := by
  rw [State.blockFree, State.storageBack, State.reg_clearCounts _ _ (by decide), State.reg_clearCounts _ _ (by decide),
    ← State.blockFree]
  exact (State.blockFree_congr rfl).trans ((State.blockFree_capacityBack ..).trans (State.blockFree_setBlockFree ..))

/-- A DIRECT table gives its units back. -/
theorem State.taken_storageBack {s : State} {t : Nat} (hk : (s.tb t).kind = 1) : (s.storageBack t).dsram.taken =
    s.dsram.taken &&& ~~~(runSet 1024 (s.tb t).regionBase (s.tb t).regionSize) := by
  rw [State.storageBack, (State.clearCounts_eff _ t).same .dsram rfl]
  rw [State.capacityBack_direct _ hk]
  rfl

/-- A PREFIX table gives its capacity back. -/
theorem State.prefixFree_storageBack {s : State} {t : Nat} (hk : (s.tb t).kind = 2)
    (hc : s.f fPrefixFree + (s.tb t).count ≤ 1048576) : (s.storageBack t).f fPrefixFree = s.f fPrefixFree + (s.tb t).count ∧
      (s.storageBack t).dsram = s.dsram := by
  have hkeep : ∀ b, (s.setBlockFree b).f fPrefixFree = s.f fPrefixFree := fun b =>
    (State.f_setReg_other _ _ _ _ (by decide)).trans (State.f_setReg_other _ _ _ _ (by decide))
  constructor
  · rw [State.storageBack, State.f_clearCounts _ _ (by decide)]
    refine (State.f_congr (s := State.capacityBack _ (s.tb t)) rfl _).trans ?_
    rw [State.capacityBack_prefixes _ hk, hkeep]
    exact State.f_setF_same _ _ _ (by decide) (Nat.lt_of_le_of_lt hc (by decide))
  · rw [State.storageBack, (State.clearCounts_eff _ t).same .dsram rfl]
    rw [State.capacityBack_prefixes _ hk]
    rfl

section
variable {s : State} {t d : Nat} {via : OwnerPath} (hd : (s.tb t).destroy = some (via, d))
include hd

theorem State.destroyFree_early (h : s.tick < d + 88) : s.destroyFree t = s := by
  simp [State.destroyFree, hd, h]

theorem State.destroyFree_due (h : d + 88 ≤ s.tick) (hc : (s.tb t).clearStarted = true) : s.destroyFree t =
    ((s.storageBack t).setTb t {}).ownerEnd via 0x22 St.success (commit := some d) := by
  have hlt : ¬ s.tick < d + 88 := by omega
  simp only [State.destroyFree, hd, hc, hlt, decide_false, Bool.not_true, Bool.or_self, Bool.false_eq_true, if_false]
  rfl

end

theorem exec_destroyIdFree_due {t : TableId} {via : OwnerPath} {d : Nat} {s : State} (hu : s.up = true)
    (hd : (s.tb t.val).destroy = some (via, d)) (h : d + 88 ≤ s.tick) (hc : (s.tb t.val).clearStarted = true) :
    exec (.destroyIdFree t) s = .next (((s.storageBack t.val).setTb t.val {}).ownerEnd via 0x22 St.success (commit := some d)) := by
  rw [exec_destroyIdFree, whileUp_of_up hu, State.destroyFree_due hd h hc]

end Sys2Proof.Machine
end

section
/-! SUPPORT. Proofs. The statements about table commands and the device's steps of them. -/

set_option Elab.async false

namespace Sys2Proof.Machine

/-- The mailbox after a command that ends with SUCCESS and a commit tick of its own (18 R626). -/
theorem State.ownerEnd_commit {s u : State} (h : u.mbox = s.mbox) (via : OwnerPath) (code c : Nat) :
    (u.ownerEnd via code St.success (commit := some c)).mbox =
      { s.mbox with done := s.mbox.done ++ [⟨via, code, St.success, c, []⟩], running := none } := by
  simp [State.ownerEnd, h]

/-- Settles O47, a clause at a time from the equations of its commands. -/
theorem tableOwnerCommandsAct : Obligations.TableOwnerCommandsAct := by
  refine ⟨?_, ?_, ?_, ?_, ?_, ?_, ?_, ?_, ?_, ?_, ?_, ?_, ?_, ?_, ?_, ?_, ?_, ?_, ?_, ?_, ?_, ?_⟩
  · intro via t k m d u bs c s h hd hst ht hk hp hr
    refine ⟨_, exec_createTable h hd hst ht (kind_of_isArray hk) hp hr, .create .., ?_⟩
    rw [State.create_array s ht _ _ _ _ _ hk]
    simp only [State.ownerEnd_tb, State.tb_setTb_same, State.blockFree_ownerEnd, State.blockFree_setTb, State.blockFree_setHmapFree,
      State.blockFree_setBlockFree, newTbl]
    exact ⟨trivial, trivial, fun j hj => by rw [State.tb_setTb_other _ _ hj, State.setHmapFree_tb, State.setBlockFree_tb]⟩
  · rintro via t k m d u bs c s h hd hst ht rfl hp hc
    have hr : s.createRoom 2 m.toNat bs c.toNat u.toNat = true := by simpa [State.createRoom, isArray] using hc
    refine ⟨_, exec_createTable h hd hst ht (by decide) hp hr, .create .., ?_⟩
    have hfits : s.f fPrefixFree - c.toNat < 2 ^ 21 := Nat.lt_of_le_of_lt (Nat.sub_le ..) (State.fld_lt ..)
    rw [show (2 : Byte).toNat = 2 from rfl, State.create_prefixes s ht]
    simp only [State.ownerEnd_tb, State.tb_setTb_same, State.ownerEnd_f, State.setTb_f, newTbl]
    exact ⟨trivial, State.f_setF_same _ _ _ (by decide) hfits, fun j hj => by rw [State.tb_setTb_other _ _ hj, State.setF_tb]⟩
  · exact fun via t k m d u bs c s h hd hbad => exec_createTable_malformed h hd hbad
  · intro via t bs c s h hb hc hk hg
    refine ⟨_, exec_resizeTable_ended h hb hc (State.resize_grow s t.val via _ hk hg) rfl, .ended rfl rfl via 0x21, ?_⟩
    simp only [State.ownerEnd_tb, State.tb_setTb_same, State.blockFree_ownerEnd, State.blockFree_setTb, State.blockFree_setBlockFree]
    exact ⟨trivial, trivial, fun j hj => by rw [State.tb_setTb_other _ _ hj, State.setBlockFree_tb]⟩
  · intro via t bs c s h hb hc hk hg hl
    refine ⟨_, exec_resizeTable_running h hb hc (State.resize_shrink via _ hk hg hl) rfl, ?_⟩
    simp only [State.running_mbox, State.running_tb, State.running_regs, State.setTb_mbox, State.setTb_regs, State.tb_setTb_same]
    exact ⟨trivial, trivial, trivial, fun j hj => State.tb_setTb_other _ _ hj⟩
  · exact fun t s hu hs h2 h => exec_shrinkEnd_empty hu hs h2 h
  · intro t s hu h
    rw [exec_shrinkEnd, whileUp_of_up hu, State.shrinkEnd_rowsLeft h]
  · intro t s h
    refine (exec_shrinkEnd t s).trans (whileUp_of_fixed ?_)
    rw [State.shrinkEnd_still h, State.shrinkMoves_still h]
  · intro t c via s hu h2 h hv
    refine ⟨_, exec_shrinkBlockClear_ends hu h2 h hv,
      .ended (State.shrinkCleared_mbox ..) (State.shrinkCleared_tick ..) via 0x21, ?_⟩
    simp only [State.ownerEnd_tb, State.blockFree_ownerEnd, State.row, State.arow_ownerEnd, State.arow_shrinkCleared,
      State.tb_shrinkCleared, State.blockFree_shrinkCleared]
    exact ⟨trivial, trivial, fun a ha => by rw [if_pos ha], fun a ha => by rw [if_neg (by simp [ha])],
      fun j hj => State.tb_shrinkCleared_other s hj⟩
  · exact fun t c s h2 h => (exec_shrinkBlockClear t s).trans (whileUp_of_fixed (State.shrinkClear_early h2 h))
  · intro via t s h ht h0 h4
    refine ⟨_, exec_destroyTable h ht h0 h4, ?_⟩
    simp only [State.running_tb, State.tb_destroyStart, State.running_mbox, State.destroyStart_mbox]
    exact ⟨trivial, trivial, State.unlocked_lock s t.val, trivial⟩
  · exact fun via t s h ht h0 => exec_destroyTable_free h ht h0
  · intro t via d s hu hd h hc
    refine ⟨_, exec_destroyClearStart_due hu hd h hc, ?_⟩
    simp only [State.tb_setTb_same, State.arow_setTb, State.arow_congr (State.storageCleared_rows s t.val)]
    refine ⟨trivial, fun i hi => ?_, fun j hj => ?_, fun _ => trivial⟩
    · exact (State.hrow_congr (State.storageCleared_arr s t.val) t.val i).trans (State.hrow_hmapCleared s t.val hi)
    · rw [State.tb_setTb_other _ _ hj, State.storageCleared_tb]
  · exact fun b i a s => State.row_clearSegs s b i a
  · exact fun t via d s hd h => (exec_destroyClearStart t s).trans (whileUp_of_fixed (State.destroyClear_early hd h))
  · intro t via d s hu hd h hc
    have hmbox : ((s.storageBack t.val).setTb t.val {}).mbox = s.mbox := by rw [State.setTb_mbox, State.storageBack_mbox]
    refine ⟨_, exec_destroyIdFree_due hu hd h hc, ?_⟩
    simp only [State.ownerEnd_tb, State.tb_setTb_same, State.blockFree_ownerEnd, State.blockFree_setTb, State.blockFree_storageBack]
    refine ⟨trivial, fun j hj => ?_, trivial, State.ownerEnd_commit hmbox via 0x22 d⟩
    rw [State.tb_setTb_other _ _ hj, State.storageBack_tb]
  · exact fun t via d s hd h => (exec_destroyIdFree t s).trans (whileUp_of_fixed (State.destroyFree_early hd h))
  · intro via t bs s h hb hl
    refine ⟨_, exec_migrateTable h hb, ?_⟩
    rw [State.migrate_starts via bs hl (State.migrateBad_shrinkWait hb)]
    simp only [State.running_mbox, State.running_tb, State.running_blockFree, State.setTb_mbox, State.setBlockFree_mbox,
      State.tb_setTb_same, State.blockFree_setTb, State.blockFree_setBlockFree]
    exact ⟨trivial, trivial, trivial, fun j hj => by
      rw [State.tb_setTb_other _ _ hj, State.setBlockFree_tb, State.tb_setTb_other _ _ hj]⟩
  · exact fun t m s hu hm hc hall hr hq hf => exec_migrationCutover_ready hu hm hc hall hr hq hf
  · intro t m c s hu hm hc h
    refine ⟨_, exec_migrationOldClear_due hu hm hc h, State.ownerEnd_commit rfl m.via 0x23 c, ?_⟩
    simp only [State.ownerEnd_tb, State.ownerEnd_arr, State.setTb_arr, State.setBlockFree_arr, State.tb_setTb_same,
      State.blockFree_ownerEnd, State.blockFree_setTb, State.blockFree_setBlockFree]
    exact ⟨trivial, trivial, trivial, fun j hj => by rw [State.tb_setTb_other _ _ hj, State.setBlockFree_tb]⟩
  · exact fun t m c s hm hc h => (exec_migrationOldClear t s).trans (whileUp_of_fixed (State.migOldClear_early hm hc h))
  · intro via p g s h h0 h4 hg hmin hmax
    refine ⟨_, exec_dirProfile h h0 h4 hg hmin hmax, .ended rfl rfl via 0x25, ?_⟩
    simp only [State.ownerEnd_tb, State.tb_setTb_same]
    exact ⟨rfl, fun hp => if_neg hp, rfl, fun j hj => State.tb_setTb_other _ _ hj⟩

/-- Settles O55, from the equations of the same commands. -/
theorem tableCommandsComplete : Obligations.TableCommandsComplete := by
  refine ⟨?_, ?_, ?_, ?_, ?_, ?_, ?_⟩
  · intro via t k m d u bs c s h hd hst ht hk hp hr
    refine ⟨_, exec_createTable h hd hst ht (kind_of_isArray hk) hp hr, .create .., ?_⟩
    rw [State.create_array s ht _ _ _ _ _ hk]
    simp only [State.ownerEnd_tb, State.tb_setTb_same, State.ownerEnd_arr, State.ownerEnd_dsram, State.ownerEnd_arb, State.setTb_arr,
      State.setTb_dsram, State.setTb_arb, State.setHmapFree_arr, State.setHmapFree_dsram, State.setHmapFree_arb,
      State.setBlockFree_arr, State.setBlockFree_dsram, State.setBlockFree_arb, newTbl, and_self]
  · intro via t m d u bs c b s h hd hst ht hp hb
    have hr : s.createRoom 1 m.toNat bs c.toNat u.toNat = true := by simp [State.createRoom, isArray, hb]
    refine ⟨_, exec_createTable h hd hst ht (by decide) hp hr, .create .., ?_⟩
    rw [show (1 : Byte).toNat = 1 from rfl, State.create_direct s ht, hb]
    simp only [State.ownerEnd_tb, State.tb_setTb_same, Option.getD_some, newTbl]
    exact ⟨trivial, rfl, rfl, rfl, fun j hj => (State.tb_setTb_other _ _ hj).trans (State.tb_congr rfl j)⟩
  · intro via t c s h ht hk h0 h4 hc hroom hp
    refine ⟨_, exec_resizeTable_ended h (resizeBad_noBlocks _ ht (.inr hk) h0 h4) (State.resizeCond_prefixes _ _ hk hc hroom hp)
      (State.resize_prefixes s t.val via _ _ hk) rfl, .ended rfl rfl via 0x21, ?_⟩
    simp only [State.ownerEnd_tb, State.ownerEnd_regs, State.ownerEnd_dsram, State.setTb_regs, State.setTb_dsram, State.setF_dsram,
      State.tb_setTb_same]
    exact ⟨trivial, trivial, trivial, fun j hj => by rw [State.tb_setTb_other _ _ hj, State.setF_tb]⟩
  · intro via t c s h ht hk h0 h4 hc hgrow hsize hidx
    refine ⟨_, exec_resizeTable_ended h (resizeBad_noBlocks _ ht (.inl hk) h0 h4) (s.resizeCond_direct _ _ hk hc hsize hidx)
      (State.resize_direct s t.val via _ hk hgrow) rfl, .ended rfl rfl via 0x21, ?_⟩
    simp only [State.ownerEnd_tb, State.ownerEnd_regs, State.ownerEnd_dsram, State.setTb_regs, State.setTb_dsram, State.tb_setTb_same]
    exact ⟨trivial, trivial, trivial, fun j hj => State.tb_setTb_other _ _ hj⟩
  · intro via t s h ht h0 h4
    refine ⟨_, exec_destroyTable h ht h0 h4, ?_⟩
    simp only [State.running_tb, State.tb_destroyStart, State.running_mbox, State.destroyStart_mbox, State.running_arr, State.running_qp]
    exact ⟨trivial, trivial, (State.destroyStart_eff s t.val via).same .arr rfl, fun q hq hqt => State.qp_destroyStart_named via hq hqt,
      fun hmq q hqt => State.qp_destroyStart_other via hmq hqt⟩
  · intro via t bs l s h hb hl
    refine ⟨_, exec_migrateTable h hb, ?_⟩
    rw [State.migrate_locked via bs hl]
    simp only [State.running_mbox, State.running_tb, State.running_regs, State.setTb_mbox, State.setTb_regs, State.tb_setTb_same]
    exact ⟨trivial, trivial, trivial, fun j hj => State.tb_setTb_other _ _ hj⟩
  · intro via p g s h h0 h4 hg hmin hmax
    exact ⟨_, exec_dirProfile h h0 h4 hg hmin hmax, .ended rfl rfl via 0x25,
      congrArg Tbl.profile (State.tb_setTb_same ..), rfl, rfl⟩

/-- Settles O56, from the equations of the same steps. -/
theorem tableEngineStepsComplete : Obligations.TableEngineStepsComplete := by
  refine ⟨?_, ?_, ?_, ?_, ?_, ?_, ?_⟩
  · intro t s hu hs h2 h
    have htb := State.tb_setTb_same s t.val { s.tb t.val with
      blocks := (s.tb t.val).blocks &&& ~~~(s.tb t.val).leaving, shrinking := false, s2 := some s.tick,
      gen := ((s.tb t.val).gen + 1) % 65536 }
    exact ⟨_, exec_shrinkEnd_empty hu hs h2 h, congrArg Tbl.blocks htb, congrArg Tbl.shrinking htb, congrArg Tbl.s2 htb, rfl, rfl, rfl,
      fun j hj => State.tb_setTb_other _ _ hj⟩
  · intro t c s hu h2 h
    have htb := State.tb_shrinkCleared s t.val
    have hfree := State.blockFree_shrinkCleared s t.val
    have hrow : ∀ a, (s.shrinkCleared t.val).row a = if (s.tb t.val).leaving.getLsbD (blockOf a) = true then {} else s.row a :=
      fun a => (congrArg ArrRow.row (State.arow_shrinkCleared s t.val a)).trans (apply_ite ArrRow.row ..)
    cases hv : (s.tb t.val).shrinkVia with
    | none =>
      exact ⟨_, exec_shrinkBlockClear_alone hu h2 h hv,
        congrArg Tbl.leaving htb, congrArg Tbl.s2 htb, hfree, hrow, fun _ => rfl, fun _ he => absurd he (by simp)⟩
    | some via =>
      refine ⟨_, exec_shrinkBlockClear_ends hu h2 h hv,
        congrArg Tbl.leaving htb, congrArg Tbl.s2 htb, hfree, hrow, fun he => absurd he (by simp), fun v he => ?_⟩
      cases he
      exact .ended (State.shrinkCleared_mbox ..) (State.shrinkCleared_tick ..) via 0x21
  · intro t via d s hu hd h hc hk
    exact ⟨_, exec_destroyClearStart_due hu hd h hc,
      congrArg Tbl.clearStarted (State.tb_setTb_same ..), State.storageCleared_rows s t.val, fun a => State.word_storageCleared hk a⟩
  · intro t via d s hu hd h hc hk
    refine ⟨_, exec_destroyIdFree_due hu hd h hc, ?_⟩
    simp only [State.ownerEnd_tb, State.tb_setTb_same, State.ownerEnd_arr, State.setTb_arr, State.ownerEnd_dsram, State.setTb_dsram]
    exact ⟨trivial, State.storageBack_arr s t.val, State.taken_storageBack hk⟩
  · intro t via d s hu hd h hc hk _ hfit
    obtain ⟨hfree, hdsram⟩ := State.prefixFree_storageBack hk hfit
    refine ⟨_, exec_destroyIdFree_due hu hd h hc, ?_⟩
    simp only [State.ownerEnd_tb, State.tb_setTb_same, State.ownerEnd_arr, State.setTb_arr, State.ownerEnd_dsram, State.setTb_dsram,
      State.ownerEnd_f, State.setTb_f]
    exact ⟨trivial, State.storageBack_arr s t.val, hdsram, hfree⟩
  · intro t m s hu hm hc hall hr hq hf
    have heff := State.enqOp_eff s 12 { table := t.val, act := .upd 0 .cutover, origin := .tm }
    exact ⟨_, exec_migrationCutover_ready hu hm hc hall hr hq hf, heff.same .tbl rfl, heff.same .arr rfl, heff.same .regs rfl,
      State.enqOp_flights .., rfl⟩
  · intro t m c s hu hm hc h
    refine ⟨_, exec_migrationOldClear_due hu hm hc h, ?_⟩
    simp only [State.ownerEnd_tb, State.ownerEnd_arr, State.ownerEnd_arb, State.ownerEnd_mnt, State.setTb_arr, State.setTb_arb,
      State.setTb_mnt, State.setBlockFree_arr, State.setBlockFree_arb, State.setBlockFree_mnt, State.tb_setTb_same,
      State.blockFree_ownerEnd, State.blockFree_setTb, State.blockFree_setBlockFree, and_self]

end Sys2Proof.Machine
end

section
/-! SUPPORT. Proofs. The command-register path (05 R193 to R195): its operations, reserved opcodes, completion and the eviction seed. -/

set_option Elab.async false

namespace Sys2Proof.Machine

/-! ### MAINT_CMD_CTRL (05 R194) -/

/-- The fields of MAINT_CMD_CTRL that a write stores. -/
def pathFields : Word := 0xfff0ff0000f0

/-- What a write of word `w` with opcode `op` leaves in MAINT_CMD_CTRL, where `old` stood. -/
def pathCtrl (old w : Word) (op : Nat) : Word := (old &&& ~~~pathFields) ||| (putFld w 4 4 op &&& pathFields)

theorem fld_pathCtrl_op (old w : Word) {op : Nat} (h : op < 16) : fld (pathCtrl old w op) 4 4 = op := by
  have hin : pathFields.extractLsb' 4 4 = BitVec.allOnes 4 := by decide
  have hout : (~~~pathFields).extractLsb' 4 4 = 0#4 := by decide
  have hsame : (pathCtrl old w op).extractLsb' 4 4 = (putFld w 4 4 op).extractLsb' 4 4 := by
    simp only [pathCtrl, BitVec.extractLsb'_or, BitVec.extractLsb'_and, hin, hout, BitVec.and_zero, BitVec.zero_or,
      BitVec.and_allOnes]
  exact (congrArg BitVec.toNat hsame).trans (fld_putFld_same w 4 4 op (by decide) h)

theorem fld_pathCtrl_busy (old w : Word) (op : Nat) : fld (pathCtrl old w op) 63 1 = fld old 63 1 := by
  have hin : pathFields.extractLsb' 63 1 = 0#1 := by decide
  have hout : (~~~pathFields).extractLsb' 63 1 = BitVec.allOnes 1 := by decide
  simp only [fld, pathCtrl, BitVec.extractLsb'_or, BitVec.extractLsb'_and, hin, hout, BitVec.and_zero, BitVec.or_zero,
    BitVec.and_allOnes]

/-- A write of MAINT_CMD_CTRL without GO stores its fields. -/
def State.pathStored (s : State) (op : Nat) (w : Word) : State := s.setReg 0x4d000 (pathCtrl (s.reg 0x4d000) w op)

theorem State.f_pathStored_op (s : State) {op : Nat} (w : Word) (h : op < 16) : (s.pathStored op w).f fMaintOp = op := by
  rw [State.f, State.pathStored, State.reg_setReg_same]
  exact fld_pathCtrl_op _ w h

theorem State.f_pathStored_busy (s : State) (op : Nat) (w : Word) : (s.pathStored op w).f fMaintBusy = s.f fMaintBusy := by
  rw [State.f, State.pathStored, State.reg_setReg_same]
  exact fld_pathCtrl_busy _ w op

theorem State.pathStarted_regs (s : State) (op : Nat) (w : Word) :
    (s.pathStarted op w).regs = ((s.pathStored op w).setF fMaintBusy 1).regs := rfl

theorem State.f_pathStarted_op (s : State) {op : Nat} (w : Word) (h : op < 16) : (s.pathStarted op w).f fMaintOp = op := by
  rw [State.f_congr (s.pathStarted_regs op w), State.f_setF_field _ fMaintBusy fMaintOp _ rfl (by decide) (by decide) (by decide)]
  exact s.f_pathStored_op w h

theorem State.f_pathStarted_busy (s : State) (op : Nat) (w : Word) : (s.pathStarted op w).f fMaintBusy = 1 :=
  (State.f_congr (s.pathStarted_regs op w) _).trans (State.f_setF_same _ fMaintBusy 1 (by decide) (by decide))

theorem State.maintWrite_busy {s : State} (who : Who) (op : Nat) (w : Word) (h : s.f fMaintBusy = 1) :
    s.maintWrite who op w = s := by
  simp [State.maintWrite, h]

section
variable {s : State} {who : Who} (op : Nat) {w : Word} (hm : s.mayBar0 who = true) (hb : s.f fMaintBusy = 0)
include hm hb

theorem State.maintWrite_noGo (hg : bit w 0 = false) : s.maintWrite who op w = s.pathStored op w := by
  simp only [State.maintWrite, hm, hb, hg]
  rfl

theorem State.maintWrite_go (hg : bit w 0 = true) : s.maintWrite who op w = (s.pathStarted op w).maintRun := by
  simp only [State.maintWrite, hm, hb, hg]
  rfl
end

/-! ### The path's operations (05 R194) -/

/-- The operation of opcode `op` of the path, for the context that the register names; none while it must wait. -/
def State.pathOp (s : State) : Nat → Option State
  | 1 => s.doInsert .cmdPath (s.f fMaintCtx) s.maintReq
  | 2 => s.doUpdate .cmdPath (s.f fMaintCtx) s.maintReq
  | 3 => s.doDelete .cmdPath (s.f fMaintCtx) s.maintReq
  | 4 => s.doRead .cmdPath (s.f fMaintCtx) s.maintReq
  | 5 => some (s.doReadKey .cmdPath (s.f fMaintCtx) s.maintReq)
  | 6 => some (s.doLock .cmdPath (s.f fMaintCtx) s.maintReq)
  | 7 => some (s.doCommit .cmdPath (s.f fMaintCtx) s.maintReq)
  | 8 => some (s.doAbandon .cmdPath (s.f fMaintCtx) s.maintReq)
  | _ => none

theorem State.maintReq_opcode (s : State) : s.maintReq.opcode = maintOpcode (s.f fMaintOp) := rfl

theorem State.maintRun_ok {s t : State} (hok : s.pathOk) (ht : s.pathOp (s.f fMaintOp) = some t) : s.maintRun = t.pathGoes := by
  obtain ⟨hchecks, hgate⟩ := hok
  have hop := s.maintReq_opcode
  simp only [State.maintRun, hchecks, hgate]
  generalize s.f fMaintOp = op at ht hop
  unfold State.pathOp at ht
  split at ht
  case h_9 => cases ht
  all_goals
    simp only [hop, maintOpcode, ht]
    rfl

theorem State.maintBad_reserved {s : State} (h : s.maintReq.opcode = 0xFF) : s.maintBad s.maintReq = some St.malformed := by
  simp [State.maintBad, firstBad, h]

theorem State.maintRun_reserved {s : State} (h : s.maintReq.opcode = 0xFF) :
    s.maintRun = s.pathGoes.resolve .cmdPath (refusal s.maintReq.table St.malformed) := by
  simp only [State.maintRun, State.maintBad_reserved h]
  rfl

/-- A write with GO that finds the path free and passes its checks carries its operation out. -/
theorem maintWrite_runs {s t : State} {who : Who} {op : Nat} {w : Word} (hu : s.up = true) (hf : s.pins.fatal = false)
    (hm : s.mayBar0 who = true) (hb : s.f fMaintBusy = 0) (hg : bit w 0 = true) (hop : op < 16)
    (hok : (s.pathStarted op w).pathOk) (ht : (s.pathStarted op w).pathOp op = some t) :
    whileServing s (·.maintWrite who op w) = .next t.pathGoes := by
  rw [whileServing_of_up hu hf, State.maintWrite_go op hm hb hg, State.maintRun_ok hok]
  rw [State.f_pathStarted_op s w hop]
  exact ht

theorem maintWrite_whileBusy {s : State} (who : Who) (op : Nat) (w : Word) (h : s.f fMaintBusy = 1) :
    whileServing s (·.maintWrite who op w) = .next s := by
  simp only [whileServing, State.maintWrite_busy who op w h, ite_self]

/-! ### Reserved opcodes (05 R194, log 39) -/

/-- The opcode that MAINT_RESERVED_OPCODE writes: 0, or 9 to 15. -/
def reservedOp (w : Word) : Nat := if fld w 4 4 = 0 then 0 else max 9 (fld w 4 4)

theorem reservedOp_lt (w : Word) : reservedOp w < 16 := by
  have : fld w 4 4 < 2 ^ 4 := BitVec.isLt _
  unfold reservedOp
  split <;> omega

theorem maintOpcode_reservedOp (w : Word) : maintOpcode (reservedOp w) = 0xFF := by
  unfold reservedOp
  split
  · rfl
  · obtain ⟨k, hk⟩ := Nat.exists_eq_add_of_le (Nat.le_max_left 9 (fld w 4 4))
    rw [hk, Nat.add_comm]
    rfl

theorem exec_maintReservedOpcode (who : Who) (w : Word) (s : State) :
    exec (.maintReservedOpcode who w) s = whileServing s (·.maintWrite who (reservedOp w) w) := rfl

theorem exec_maintReservedOpcode_go {s : State} {who : Who} {w : Word} (hu : s.up = true) (hf : s.pins.fatal = false)
    (hm : s.mayBar0 who = true) (hb : s.f fMaintBusy = 0) (hg : bit w 0 = true) :
    exec (.maintReservedOpcode who w) s = .next ((s.pathStarted (reservedOp w) w).pathGoes.resolve .cmdPath
      (refusal (s.pathStarted (reservedOp w) w).maintReq.table St.malformed)) := by
  have hopc : (s.pathStarted (reservedOp w) w).maintReq.opcode = 0xFF := by
    rw [State.maintReq_opcode, State.f_pathStarted_op s w (reservedOp_lt w), maintOpcode_reservedOp]
  rw [exec_maintReservedOpcode, whileServing_of_up hu hf, State.maintWrite_go _ hm hb hg, State.maintRun_reserved hopc]

/-! ### MAINT_CMD_COMPLETE and MAINT_EVICT_SEED (05 R195, R151) -/

theorem exec_maintCmdComplete (s : State) : exec .maintCmdComplete s = whileUp s State.maintDone := rfl

theorem State.maintDone_early {s : State} {op : Nat} {o : Outc} (hc : s.mnt.cmd = some (op, some o)) (h : s.tick ≤ o.tick) :
    s.maintDone = s := by
  simp [State.maintDone, hc, h]

/-- STATUS, TICK and VICTIM of an operation that has ended. -/
def State.pathReported (s : State) (o : Outc) : State :=
  ((s.setF fMaintStatus o.status).setReg 0x4d010 (BitVec.ofNat 64 o.tick)).setReg 0x4d018
    (putFld 0 32 22 (if o.status = St.evicted then o.victim else 0))

/-- The path is free again. -/
def State.pathFreed (s : State) : State :=
  ({ s with mnt := { s.mnt with cmd := none, cmdWait := false } }).setF fMaintBusy 0

theorem State.maintDone_due {s : State} {op : Nat} {o : Outc} (hc : s.mnt.cmd = some (op, some o)) (h : o.tick < s.tick)
    (hop : 5 < op) : s.maintDone = (s.pathReported o).pathFreed := by
  have h1 : op ≠ 1 := by omega
  have h4 : op ≠ 4 := by omega
  have h5 : op ≠ 5 := by omega
  simp only [State.maintDone, hc, Nat.not_le.mpr h, h1, h4, h5, if_false, decide_false, Bool.false_and]
  rfl

theorem State.pathFreed_effect (s : State) {o : Outc} (h : o.status < 2 ^ 8) :
    (s.pathReported o).pathFreed.f fMaintBusy = 0 ∧ (s.pathReported o).pathFreed.f fMaintStatus = o.status ∧
    (s.pathReported o).pathFreed.reg 0x4d010 = BitVec.ofNat 64 o.tick ∧ (s.pathReported o).pathFreed.mnt.cmd = none ∧
    ∀ k, k ≠ 0x4d000 → k ≠ 0x4d010 → k ≠ 0x4d018 → (s.pathReported o).pathFreed.reg k = s.reg k := by
  have hfreed : ∀ k, k ≠ 0x4d000 → (s.pathReported o).pathFreed.reg k = (s.pathReported o).reg k :=
    fun k hk => State.reg_setF_other _ fMaintBusy 0 k hk
  have hreport : ∀ k, k ≠ 0x4d010 → k ≠ 0x4d018 → (s.pathReported o).reg k = (s.setF fMaintStatus o.status).reg k :=
    fun k h10 h18 => (State.reg_setReg_other _ _ _ _ h18).trans (State.reg_setReg_other _ _ _ _ h10)
  refine ⟨State.f_setF_same _ fMaintBusy 0 (by decide) (by decide), ?_, ?_, rfl, fun k h0 h10 h18 => ?_⟩
  · calc (s.pathReported o).pathFreed.f fMaintStatus = (s.pathReported o).f fMaintStatus :=
          State.f_setF_field _ fMaintBusy fMaintStatus 0 rfl (by decide) (by decide) (by decide)
      _ = (s.setF fMaintStatus o.status).f fMaintStatus := by
          rw [State.f, hreport _ (by decide) (by decide), State.f]
      _ = o.status := State.f_setF_same _ fMaintStatus _ (by decide) h
  · rw [hfreed _ (by decide), State.pathReported, State.reg_setReg_other _ _ _ _ (by decide), State.reg_setReg_same]
  · rw [hfreed k h0, hreport k h10 h18, State.reg_setF_other _ _ _ _ h0]

theorem exec_maintEvictSeedWrite (who : Who) (w : Word) (s : State) : exec (.maintEvictSeedWrite who w) s =
    whileUp s (fun s => s.when (s.mayBar0 who && fld w 0 32 != 0) (·.setF fEvictSeed (fld w 0 32))) := rfl

/-- Settles O43, from the equations of the path's commands. -/
theorem commandPathActs : Obligations.CommandPathActs := by
  refine ⟨?_, ?_, ?_, ?_, ?_, ?_, ?_, ?_, ?_, ?_, ?_, ?_, ?_, ?_, ?_⟩
  · intro who w s hb i hi
    simp only [List.mem_cons, List.not_mem_nil, or_false] at hi
    rcases hi with rfl | rfl | rfl | rfl | rfl | rfl | rfl | rfl | rfl
    all_goals exact maintWrite_whileBusy who _ w hb
  · intro who w s hu hf hm hb hg
    refine ⟨s.pathStored 1 w, ?_, rfl, (s.f_pathStored_busy 1 w).trans hb, s.f_pathStored_op w (by decide),
      fun o ho => State.reg_setReg_other _ _ _ _ ho⟩
    exact (whileServing_of_up hu hf (·.maintWrite who 1 w)).trans (congrArg _ (State.maintWrite_noGo 1 hm hb hg))
  · exact fun who w t s hu hf hm hb hg hok ht => maintWrite_runs hu hf hm hb hg (op := 1) (by decide) hok ht
  · exact fun who w t s hu hf hm hb hg hok ht => maintWrite_runs hu hf hm hb hg (op := 2) (by decide) hok ht
  · exact fun who w t s hu hf hm hb hg hok ht => maintWrite_runs hu hf hm hb hg (op := 3) (by decide) hok ht
  · exact fun who w t s hu hf hm hb hg hok ht => maintWrite_runs hu hf hm hb hg (op := 4) (by decide) hok ht
  · exact fun who w s hu hf hm hb hg hok => maintWrite_runs hu hf hm hb hg (op := 5) (by decide) hok rfl
  · exact fun who w s hu hf hm hb hg hok => maintWrite_runs hu hf hm hb hg (op := 6) (by decide) hok rfl
  · exact fun who w s hu hf hm hb hg hok => maintWrite_runs hu hf hm hb hg (op := 7) (by decide) hok rfl
  · exact fun who w s hu hf hm hb hg hok => maintWrite_runs hu hf hm hb hg (op := 8) (by decide) hok rfl
  · intro who w s hu hf hm hb hg
    exact ⟨_, exec_maintReservedOpcode_go hu hf hm hb hg, s.f_pathStarted_busy (reservedOp w) w, reservedOp w, _, rfl, rfl⟩
  · intro op o s hu hc ht hop hst
    refine ⟨(s.pathReported o).pathFreed, ?_, s.pathFreed_effect hst⟩
    rw [exec_maintCmdComplete, whileUp_of_up hu, State.maintDone_due hc ht hop]
  · exact fun op o s hc h => (exec_maintCmdComplete s).trans (whileUp_of_fixed (State.maintDone_early hc h))
  · intro who w s hu hm hw
    rw [exec_maintEvictSeedWrite, whileUp_of_up hu, State.when_true (by simp [hm, hw])]
  · intro who w s h
    have hoff : (s.mayBar0 who && fld w 0 32 != 0) = false := by
      rcases h with h | h <;> simp [h]
    exact (exec_maintEvictSeedWrite who w s).trans (whileUp_of_fixed (State.when_false hoff _))

end Sys2Proof.Machine
end

section
/-! SUPPORT. Proofs. The maintenance engine (05 R149, R156 to R162, R172 to R174): PLACEMENT_DECISION, TABLE_MANAGER_PLACEMENT, GLADE_RESTORE,
CANOPY_TIGHTEN and LEASE_EXPIRY. -/

set_option Elab.async false

namespace Sys2Proof.Machine

/-! ### PLACEMENT_DECISION (05 R149, R156) -/

theorem exec_placementDecision (s : State) : exec .placementDecision s = whileUp s State.placement := rfl

theorem State.placement_done {s : State} (h : s.mnt.lastDecision = some s.tick ∨ s.mnt.placeQ = []) : s.placement = s := by
  rcases h with h | h
  · simp [State.placement, h]
  · simp [State.placement, h]

section
variable {s : State} {i : Ins} {rest : List Ins} (hq : s.mnt.placeQ = i :: rest) (hi : s.imageTurn i = true)
include hq hi

theorem State.placement_early (h : s.tick < i.at_ + 4) : s.placement = s := by
  simp [State.placement, hq, hi, h]

theorem exec_placementDecision_due {u : State} (hu : s.up = true) (hl : s.mnt.lastDecision ≠ some s.tick) (h : i.at_ + 4 ≤ s.tick)
    (hs : u = { s with mnt := { s.mnt with placeQ := rest, lastDecision := some s.tick } }) :
    exec .placementDecision s = .next (u.decideIns i) := by
  rw [exec_placementDecision, whileUp_of_up hu, State.placement, hs]
  simp [hl, hq, hi, Nat.not_lt.mpr h]
end

/-- The candidate segments of an insert that have a free row. -/
def State.room (s : State) (i : Ins) : List (Nat × Nat × Nat) :=
  (s.cands i.table s.takenRows (i.row.canopy (s.tb i.table).gov)).filter (fun c => decide (1 ≤ c.2.1))

theorem State.decideIns_noHandle {u : State} {i : Ins} (hg : i.given = none) (hh : u.lowHandle i.table = none) :
    u.decideIns i = u.evictOr i none := by
  simp only [State.decideIns, hg, hh]

section
variable {u : State} {i : Ins} {h : Nat} (hg : i.given = none) (hm : i.mirrored = false) (hh : u.lowHandle i.table = some h)
include hg hm hh

theorem State.decideIns_covered {g a : Nat} (hf : u.shrinkFull i.table u.takenRows = false)
    (hc : betterMost ((u.room i).filter (fun c => c.2.2 == 0)) = some g) (ha : lowRow u.takenRows g = some a) :
    u.decideIns i = u.placeAt i h a none := by
  unfold State.room at hc
  simp only [State.decideIns, hg, hh, hm, hf, Bool.false_and, Bool.false_eq_true, if_false, hc, ha]
  cases i.victim <;> rfl

theorem State.decideIns_growth {g a : Nat} (hf : u.shrinkFull i.table u.takenRows = false)
    (hc : betterMost ((u.room i).filter (fun c => c.2.2 == 0)) = none)
    (hl : leastGrowth ((u.room i).filter (fun c => decide (Prof.gladeTarget (u.tb i.table).gov < c.2.1))) = some g)
    (ha : lowRow u.takenRows g = some a) : u.decideIns i = u.placeAt i h a none := by
  unfold State.room at hc hl
  simp only [State.decideIns, hg, hh, hm, hf, Bool.false_and, Bool.false_eq_true, if_false, hc, hl, ha]
  cases i.victim <;> rfl

theorem State.decideIns_full (hr : u.room i = []) (hmp : u.ras.mpRunning = true) : u.decideIns i = u.evictOr i (some h) := by
  unfold State.room at hr
  simp only [State.decideIns, hg, hh, hm, hr, ite_self, hmp, List.filter_nil]
  cases i.victim <;> rfl
end

/-! ### TABLE_MANAGER_PLACEMENT (05 R156, R157, R160) -/

theorem exec_tableManagerPlacement (s : State) : exec .tableManagerPlacement s = whileUp s State.tmPlace := rfl

theorem State.tmPlace_idle {s : State} (h : s.ras.mpRunning = false ∨ s.mnt.tmQ = []) : s.tmPlace = s := by
  rcases h with h | h
  · simp [State.tmPlace, h]
  · simp [State.tmPlace, h]

section
variable {s u : State} {i : Ins} {rest : List Ins} (hmp : s.ras.mpRunning = true) (hq : s.mnt.tmQ = i :: rest)
  (hs : u = { s with mnt := { s.mnt with tmQ := rest } }) (hf : u.shrinkFull i.table u.takenRows = false)
include hmp hq hs hf

/-- No segment covers the insert: it goes to the segment of least growth (05 R156 step 3b). -/
theorem State.tmPlace_growth {h g a : Nat} (hg : i.given = none) (hh : u.lowHandle i.table = some h)
    (hc : ∀ c ∈ u.cands i.table u.takenRows (i.row.canopy (u.tb i.table).gov), c.2.2 ≠ 0)
    (hl : leastGrowth (u.room i) = some g) (ha : lowRow u.takenRows g = some a) : s.tmPlace = u.placeAt i h a none := by
  have hnone : (u.cands i.table u.takenRows (i.row.canopy (u.tb i.table).gov)).filter (fun c => c.2.2 == 0) = [] :=
    List.filter_eq_nil_iff.mpr fun c hmem => by simpa using hc c hmem
  unfold State.room at hl
  simp only [State.tmPlace, hmp, hq, Bool.not_true, Bool.false_eq_true, if_false, ← hs, hf, hnone, List.findSome?_nil, hg, hh, hl, ha]

/-- A covering segment without room gives up a movable row, and the insert waits for it (05 R156 step 3a). -/
theorem State.tmPlace_moves {g f y d n : Nat} {w : Row} {more : List (Nat × Nat × Nat)} {ys : List (Nat × Row)}
    (hc : (u.cands i.table u.takenRows (i.row.canopy (u.tb i.table).gov)).filter (fun c => c.2.2 == 0) = (g, f, 0) :: more)
    (hr : (u.rowsOf i.table).filter (fun e => segOf e.1 == g && u.movable i.table e.2 && !u.moving i.table e.2.handle) = (y, w) :: ys)
    (hd : betterMost ((u.cands i.table u.takenRows (w.canopy (u.tb i.table).gov)).filter (fun c =>
      c.1 != g && decide (1 ≤ c.2.1) && c.2.2 == 0)) = some d) (hn : lowRow u.takenRows d = some n) :
    s.tmPlace = { u.startReloc i.table y n none .tm with mnt := { (u.startReloc i.table y n none .tm).mnt with
      tmWait := (u.startReloc i.table y n none .tm).mnt.tmWait ++ [(w.handle, { i with reservedRow := some y })] } } := by
  simp only [State.tmPlace, hmp, hq, Bool.not_true, Bool.false_eq_true, if_false, ← hs, hf, hc, List.findSome?_cons, hr, hd,
    Option.map_some, hn]
end

/-- A relocation's start changes the relocations and the issue queues only. -/
theorem State.startReloc_arr (s : State) (t old new : Nat) (image : Option Row) (og : Origin) :
    (s.startReloc t old new image og).arr = s.arr := (State.startReloc_eff s t old new image og).same .arr rfl

/-! ### GLADE_RESTORE (05 R161) -/

theorem exec_gladeRestore (g : Fin 8192) (s : State) : exec (.gladeRestore g) s = whileUp s (fun s => s.gladeRestore g.val) := rfl

theorem State.shrinkFull_still {s : State} {t : Nat} (h : (s.tb t).shrinking = false) (taken : List Nat) :
    s.shrinkFull t taken = false := by
  simp [State.shrinkFull, h]

theorem State.gladeRestore_unmanaged {s : State} {g : Nat} (h : s.ras.mpRunning = false ∨ s.tableOf (g / 64) = none) :
    s.gladeRestore g = s := by
  rcases h with h | h
  · simp [State.gladeRestore, h]
  · simp [State.gladeRestore, h]

section
variable {s : State} {g t : Nat} (ht : s.tableOf (g / 64) = some t) (hs : (s.tb t).shrinking = false)
include ht hs

theorem State.gladeRestore_enough (h : Prof.gladeTarget (s.tb t).profile ≤ freeIn s.takenRows g) : s.gladeRestore g = s := by
  simp [State.gladeRestore, ht, hs, h]

theorem State.gladeRestore_moves {y d n : Nat} {w : Row} {ys : List (Nat × Row)} (hmp : s.ras.mpRunning = true)
    (h4 : (s.tb t).state ≠ 4) (hfew : freeIn s.takenRows g < Prof.gladeTarget (s.tb t).profile)
    (ho : (s.tb t).openBlocks.getLsbD (g / 64) = true)
    (hr : (s.rowsOf t).filter (fun e => segOf e.1 == g && s.movable t e.2 && !s.moving t e.2.handle) = (y, w) :: ys)
    (hd : betterMost ((s.cands t s.takenRows (w.canopy (s.tb t).profile)).filter (fun c =>
      c.1 != g && decide (Prof.gladeTarget (s.tb t).profile < c.2.1) && c.2.2 == 0)) = some d)
    (hn : lowRow s.takenRows d = some n) : s.gladeRestore g = s.startReloc t y n none .tm := by
  simp only [State.gladeRestore, hmp, ht, hs, ho, h4, Nat.not_le.mpr hfew, hr, State.shrinkFull_still hs, Bool.not_true, Bool.false_and,
    decide_false, Bool.or_self, Bool.false_eq_true, if_false, List.findSome?_cons, hd, Option.map_some, hn]
end

/-! ### CANOPY_TIGHTEN (05 R162, 03 R92, R93) -/

theorem exec_canopyTighten (g : Fin 8192) (s : State) : exec (.canopyTighten g) s = whileUp s (fun s => s.canopyTighten g.val) := rfl

theorem State.canopyTighten_exact {s : State} {g : Nat} (h : num s.mnt.left g = 0) : s.canopyTighten g = s := by
  simp [State.canopyTighten, h]

section
variable {s : State} {g t : Nat} (hmp : s.ras.mpRunning = true) (hl : num s.mnt.left g ≠ 0) (ht : s.tableOf (g / 64) = some t)
  (hq : s.queuedOps = []) (h4 : (s.tb t).state ≠ 4)
include hmp hl ht hq h4

theorem State.canopyTighten_smaller {z : BitVec 256} (hz : z = s.segCanopy (s.tb t).gov g) (hsub : z &&& s.zOf g = z)
    (hne : z ≠ s.zOf g) : s.canopyTighten g = s.enqM t (.upd 0 (.tighten g z s.tick)) .tm := by
  subst hz
  simp [State.canopyTighten, hmp, hl, ht, hq, h4, hsub, hne]

theorem State.canopyTighten_same (hb : s.zBadOf g = 0) (hz : s.zOf g = s.segCanopy (s.tb t).gov g) :
    s.canopyTighten g = { s with mnt := { s.mnt with left := setNum s.mnt.left g 0 } } := by
  simp [State.canopyTighten, hmp, hl, ht, hq, h4, hb, hz]
end

/-! ### LEASE_EXPIRY (05 R172, R174) -/

theorem exec_leaseExpiry_ends {t : TableId} {l : Lock} {s : State} (hu : s.up = true) (hl : (s.tb t.val).lock = some l)
    (h1 : l.lstate = 1) (he : l.expired s.tick = true) : exec (.leaseExpiry t) s = .next (s.startDiscard t.val none) := by
  change execLeaseExpiry t s = _
  rw [execLeaseExpiry, whileUp_of_up hu]
  simp [hl, h1, he, State.when]

theorem exec_leaseExpiry_stays {t : TableId} {s : State} (h : ∀ l, (s.tb t.val).lock = some l → l.expired s.tick = false) :
    exec (.leaseExpiry t) s = .next s := by
  change execLeaseExpiry t s = _
  refine whileUp_of_fixed ?_
  split
  · next l hl => rw [h l hl, Bool.and_false, State.when_false rfl]
  · rfl

theorem Lock.expired_iff (l : Lock) (x : Nat) : l.expired x = true ↔ l.bulk = false ∧ l.owner < 4096 ∧ l.endTick ≤ x := by
  simp [Lock.expired, and_assoc]

theorem Lock.expired_eq_false {l : Lock} {x : Nat} (h : l.bulk = true ∨ 4096 ≤ l.owner ∨ x < l.endTick) : l.expired x = false := by
  rw [← Bool.not_eq_true, Lock.expired_iff]
  rcases h with h | h | h
  · simp [h]
  all_goals omega

/-- A discard that no granted COMMIT forestalls: what it ends leaves tables and rows alone, then the lock is in LSTATE 3, and
the discard is queued and told to the partner. -/
theorem State.startDiscard_ungranted {s : State} {t : Nat} {l : Lock} (ender : Option Origin) (hl : (s.tb t).lock = some l)
    (h3 : l.lstate ≠ 3) (hf : s.arb.flights = []) : ∃ v, Eff 135276808 s v ∧ s.startDiscard t ender =
      ((v.updLock t (fun l => { l with lstate := 3, reserved := [], accept := v.tick, ender := ender })).enqM t
        (.upd 0 .lockDiscard) .tm none (v.tick + 1)).discardFar t l ender := by
  unfold State.startDiscard
  rw [hl]
  simp only [hf, List.any_nil, Bool.false_eq_true, if_false, h3]
  refine ⟨_, ?_, rfl⟩
  have hdropped (p : ArrOp → Bool) : Eff 135276808 s ((s.endLockLearns t).dropOps p) :=
    ((State.endLockLearns_eff s t).mono (by decide)).then (State.dropOps_eff _ _) (by decide)
  refine Eff.foldl (Eff.then (Eff.foldl (hdropped _) fun x op hx => ?_) (upd_mnt _ _) (by decide)) fun x o hx =>
    hx.then (State.resolve_eff _ _ _) (by decide)
  split
  · exact hx.then (State.endLearn_eff _ _ _ _) (by decide)
  · exact hx.then (State.resolve_eff _ _ _) (by decide)

theorem State.startDiscard_effect {s : State} {t : Nat} {l : Lock} (ender : Option Origin) (hl : (s.tb t).lock = some l)
    (h3 : l.lstate ≠ 3) (hf : s.arb.flights = []) :
    ((s.startDiscard t ender).tb t).lock = some { l with lstate := 3, reserved := [], accept := s.tick, ender := ender } ∧
    (∀ j, j ≠ t → (s.startDiscard t ender).tb j = s.tb j) ∧ (s.startDiscard t ender).arr = s.arr := by
  obtain ⟨v, hv, heq⟩ := State.startDiscard_ungranted ender hl h3 hf
  have htb : ∀ j, v.tb j = s.tb j := State.tb_congr (hv.same .tbl rfl)
  have htick : v.tick = s.tick := hv.same .tick rfl
  have hrest : ∀ j, (s.startDiscard t ender).tb j = (v.updLock t (fun l =>
      { l with lstate := 3, reserved := [], accept := v.tick, ender := ender })).tb j := fun j => by
    rw [heq]
    exact State.tb_congr (((State.discardFar_eff _ _ _ _).same .tbl rfl).trans ((State.enqM_eff _ _ _ _ _ _).same .tbl rfl)) j
  refine ⟨?_, fun j hj => ?_, (State.startDiscard_eff s t ender).same .arr rfl⟩
  · rw [hrest, State.updLock, State.tb_updTb_same, htb, hl, htick]
    rfl
  · rw [hrest, State.updLock, State.updTb, State.tb_setTb_other _ _ hj, htb]

/-- Settles O48, from the equations of its commands. -/
theorem maintenanceEngineCommandsAct : Obligations.MaintenanceEngineCommandsAct := by
  refine ⟨?_, ?_, ?_, ?_, ?_, ?_, ?_, ?_, ?_, ?_, ?_, ?_, ?_, ?_, ?_, ?_, ?_, ?_, ?_⟩
  · intro i rest h g a s u hup hl hq hi hd hs hg hm hh hf hc ha
    rw [exec_placementDecision_due hq hi hup hl hd hs, State.decideIns_covered hg hm hh hf hc ha]
  · intro i rest h g a s u hup hl hq hi hd hs hg hm hh hf hc hw ha
    rw [exec_placementDecision_due hq hi hup hl hd hs, State.decideIns_growth hg hm hh hf hc hw ha]
  · intro i rest h s u hup hl hq hi hd hs hg hm hmp hh hr
    rw [exec_placementDecision_due hq hi hup hl hd hs, State.decideIns_full hg hm hh hr (hs ▸ hmp)]
  · intro i rest s u hup hl hq hi hd hs hg hh
    rw [exec_placementDecision_due hq hi hup hl hd hs, State.decideIns_noHandle hg hh]
  · exact fun s h => (exec_placementDecision s).trans (whileUp_of_fixed (State.placement_done h))
  · exact fun i rest s hq hi h => (exec_placementDecision s).trans (whileUp_of_fixed (State.placement_early hq hi h))
  · intro i rest h g a s u hup hmp hq hs hg hh hf hc hw ha
    rw [exec_tableManagerPlacement, whileUp_of_up hup, State.tmPlace_growth hmp hq hs hf hg hh hc hw ha]
  · intro i rest g f y d n w more ys s u hup hmp hq hs hf hc hr hd hn
    have hrun := whileUp_of_up hup State.tmPlace
    rw [State.tmPlace_moves hmp hq hs hf hc hr hd hn] at hrun
    exact ⟨_, hrun, rfl, rfl, rfl, (State.startReloc_arr u i.table y n none .tm).trans (hs ▸ rfl)⟩
  · exact fun s h => (exec_tableManagerPlacement s).trans (whileUp_of_fixed (State.tmPlace_idle h))
  · intro g t y d n w ys s hup hmp ht hs h4 hfew ho hr hd hn
    rw [exec_gladeRestore, whileUp_of_up hup, State.gladeRestore_moves ht hs hmp h4 hfew ho hr hd hn]
  · exact fun g t s ht hs h => (exec_gladeRestore g s).trans (whileUp_of_fixed (State.gladeRestore_enough ht hs h))
  · exact fun g s h => (exec_gladeRestore g s).trans (whileUp_of_fixed (State.gladeRestore_unmanaged h))
  · intro g t z s hup hmp hl ht hq h4 hz hsub hne
    rw [exec_canopyTighten, whileUp_of_up hup, State.canopyTighten_smaller hmp hl ht hq h4 hz hsub hne]
  · intro g t s hup hmp hl ht hq h4 hb hz
    rw [exec_canopyTighten, whileUp_of_up hup, State.canopyTighten_same hmp hl ht hq h4 hb hz]
  · exact fun g s h => (exec_canopyTighten g s).trans (whileUp_of_fixed (State.canopyTighten_exact h))
  · exact fun t l s hup hl hb h1 ho he => exec_leaseExpiry_ends hup hl h1 ((l.expired_iff _).mpr ⟨hb, ho, he⟩)
  · exact fun t l s hup hl hb h1 ho he hf => ⟨_, exec_leaseExpiry_ends hup hl h1 ((l.expired_iff _).mpr ⟨hb, ho, he⟩),
      State.startDiscard_effect none hl (by simp [h1]) hf⟩
  · intro t l s hl h
    exact exec_leaseExpiry_stays fun k hk => Option.some.inj (hl.symm.trans hk) ▸ Lock.expired_eq_false h
  · exact fun t s hl => exec_leaseExpiry_stays fun k hk => absurd (hl.symm.trans hk) (by simp)

end Sys2Proof.Machine
end

section
/-! SUPPORT. Proofs. The directory's resolution table and its claims (07 R254, R256, R257). -/

set_option Elab.async false

namespace Sys2Proof.Machine

/-! ### The resolution table (R254, R256): one lemma per row of the table -/

section
variable {w : Row} {c r : Nat}

theorem dirPlan_shared (hc : dirCoarse w.res = false) (hs : dirState w.res = 1) :
    dirPlan w c r =
      if c = 1 then
        if (dirSharers w.res).testBit r then { change := .hit w.handle }
        else { change := .set w.handle 1 (dirSharers w.res + 2 ^ r) r true }
      else if c = 0 then if (dirSharers w.res).testBit r then { change := .hit w.handle } else {}
      else
        { snoops := ((sharersOf (dirSharers w.res)).filter (fun n => n != r)).map (fun n => (n, .inv)),
          change := if c = 2 then .set w.handle 2 (2 ^ r) r true
            else if (dirSharers w.res).testBit r then .set w.handle 1 (2 ^ r) 0 false else .set w.handle 0 0 0 false } := by
  simp only [dirPlan, hc, hs, Bool.false_eq_true, if_false, if_true]
  split_ifs <;> rfl

/-- A line whose one EXCLUSIVE owner is the requester, or a coarse entry of the requester: the request is a hit. -/
theorem dirPlan_hit (h : dirCoarse w.res = true ∨ dirState w.res = 2) (hr : (dirSharers w.res).testBit r = true) :
    dirPlan w c r = { change := .hit w.handle } := by
  rcases Bool.eq_false_or_eq_true (dirCoarse w.res) with hc | hc
  · simp [dirPlan, hc, hr]
  · simp [dirPlan, hc, hr, h.resolve_left (by simp [hc])]

theorem dirPlan_owned {o : Nat} (hc : dirCoarse w.res = false) (hs : dirState w.res = 2)
    (hr : (dirSharers w.res).testBit r = false) (ho : (sharersOf (dirSharers w.res)).head? = some o) :
    dirPlan w c r =
      if c = 1 then { snoops := [(o, .data)], change := .set w.handle 1 (2 ^ o + 2 ^ r) r true }
      else if c = 0 then { snoops := [(o, .data)], change := .set w.handle 1 (2 ^ o) 0 false }
      else if c = 2 then { snoops := [(o, .inv)], change := .set w.handle 2 (2 ^ r) r true, move := some (o, r) }
      else { snoops := [(o, .inv)], change := .set w.handle 0 0 0 false } := by
  simp [dirPlan, hc, hs, hr, ho, List.headD_eq_head?_getD]

theorem dirPlan_none (hc : dirCoarse w.res = false) (hs : dirState w.res = 0) :
    dirPlan w c r =
      if c = 1 then { change := .set w.handle 1 (2 ^ r) r true }
      else if c = 2 then { change := .set w.handle 2 (2 ^ r) r true } else {} := by
  simp [dirPlan, hc, hs]

theorem dirPlan_coarse {o : Nat} (hc : dirCoarse w.res = true) (hr : (dirSharers w.res).testBit r = false)
    (ho : (sharersOf (dirSharers w.res)).head? = some o) :
    dirPlan w c r =
      if c = 1 then { snoops := [(o, .data)], change := .line 1 (2 ^ o + 2 ^ r) r, split := true }
      else if c = 0 then { snoops := [(o, .data)], change := .line 1 (2 ^ o) w.src, split := true }
      else if c = 2 then { snoops := [(o, .inv)], change := .line 2 (2 ^ r) r, move := some (o, r), split := true }
      else { snoops := [(o, .inv)], change := .line 0 0 w.src, split := true } := by
  simp [dirPlan, hc, hr, ho, List.headD_eq_head?_getD]

end

/-- Settles O35, row by row of the table. -/
theorem directoryResolutionFollowsItsTable : Obligations.DirectoryResolutionFollowsItsTable := by
  refine ⟨?_, ?_, ?_, ?_, ?_, ?_, ?_, ?_⟩
  · intro w r hc hs hr
    simp [dirPlan_shared hc hs, hr]
  · intro w r hc hs hr
    simp [dirPlan_shared hc hs, hr]
  · intro w r hc hs
    simp [dirPlan_shared hc hs]
  · exact fun w c r hs hr => dirPlan_hit (.inr hs) hr
  · intro w r o hc hs hr ho
    simp [dirPlan_owned hc hs hr ho]
  · intro w r hc hs
    simp [dirPlan_none hc hs]
  · exact fun w c r hc hr => dirPlan_hit (.inl hc) hr
  · intro w r o hc hr ho
    simp [dirPlan_coarse hc hr ho]

/-! ### Claims (R257) -/

theorem spanMeets_comm (a b : Nat × Bool) : spanMeets a b = spanMeets b a := by
  rw [spanMeets, spanMeets, Bool.or_comm a.2, BEq.comm (a := a.1 / 4096), BEq.comm (a := a.1 / 64)]

theorem DirReq.meets_iff (a b : DirReq) : a.meets b = true ↔ ∃ x ∈ a.spans, ∃ y ∈ b.spans, spanMeets x y = true := by
  simp [DirReq.meets]

theorem DirReq.meets_comm (a b : DirReq) : a.meets b = b.meets a := by
  rw [Bool.eq_iff_iff, DirReq.meets_iff, DirReq.meets_iff]
  constructor
  all_goals exact fun ⟨x, hx, y, hy, h⟩ => ⟨y, hy, x, hx, spanMeets_comm x y ▸ h⟩

theorem DirReq.meets_false_of_subset {a b a' b' : DirReq} (h : a.meets b = false) (ha : a'.spans ⊆ a.spans)
    (hb : b'.spans ⊆ b.spans) : a'.meets b' = false := by
  rw [← Bool.not_eq_true, DirReq.meets_iff] at h ⊢
  exact fun ⟨x, hx, y, hy, hm⟩ => h ⟨x, ha hx, y, hb hy, hm⟩

/-- The request that may claim waits, and meets no request that holds a claim. -/
theorem nextClaim_some {before l : List DirReq} {r : DirReq} (h : nextClaim before l = some r) :
    r ∈ l ∧ r.phase = 0 ∧ ∀ b ∈ before ++ l, b.claims = true → b.meets r = false := by
  induction l generalizing before with
  | nil => simp [nextClaim] at h
  | cons q rs ih =>
    rw [nextClaim] at h
    split at h
    next hq =>
      cases h
      simp only [Bool.and_eq_true, decide_eq_true_eq, Bool.not_eq_true', List.any_eq_false, bne_iff_ne] at hq
      obtain ⟨⟨h0, hbefore⟩, hafter⟩ := hq
      refine ⟨List.mem_cons_self, h0, fun b hb hc => ?_⟩
      have hphase : b.phase ≠ 0 ∧ b.phase ≠ 6 := by
        simp only [DirReq.claims, Bool.and_eq_true, decide_eq_true_eq] at hc
        omega
      simp only [List.mem_append, List.mem_cons] at hb
      rcases hb with hb | rfl | hb
      · simpa [hphase.2] using hbefore b hb
      · exact absurd h0 hphase.1
      · simpa [hc] using hafter b hb
    next =>
      obtain ⟨hr, h0, hmeets⟩ := ih h
      exact ⟨List.mem_cons_of_mem _ hr, h0, fun b hb => hmeets b (by simpa using hb)⟩

/-- A request takes at least one claim. -/
theorem DirReq.spanClaims_pos (r : DirReq) : 0 < spanClaims r.spans := by
  simp only [spanClaims, DirReq.spans]
  cases r.also
  all_goals simp only [Option.toList, List.foldl_cons, List.foldl_nil]; split_ifs <;> omega

theorem exec_dirRequest (s : State) : exec .dirRequest s = whileUp s State.dirRequest := rfl

theorem State.dirRequest_none {s : State} (h : nextClaim [] s.dir.reqs = none) : s.dirRequest = s := by
  rw [State.dirRequest, h]

theorem State.dirRequest_full {s : State} (h : 256 ≤ s.claimsHeld) : s.dirRequest = s := by
  rw [State.dirRequest]
  split
  · rfl
  next r _ => exact if_pos (by have := r.spanClaims_pos; omega)

/-! ### What the work on one request leaves of the directory's requests -/

/-- From `s` to `t`, the requests stay in place with their numbers, none names a new line, and only those of number `id`
change. -/
def KeepsSpans (id : Nat) (s t : State) : Prop :=
  ∃ g : DirReq → DirReq, t.dir.reqs = s.dir.reqs.map g ∧
    ∀ q, (g q).id = q.id ∧ (g q).spans ⊆ q.spans ∧ (q.id ≠ id → g q = q)

theorem KeepsSpans.refl (id : Nat) (s : State) : KeepsSpans id s s :=
  ⟨fun q => q, by simp, fun q => ⟨rfl, List.Subset.refl _, fun _ => rfl⟩⟩

section
variable {id : Nat} {s t u : State} (h : KeepsSpans id s t)
include h

theorem KeepsSpans.of_reqs (e : u.dir.reqs = t.dir.reqs) : KeepsSpans id s u := by
  obtain ⟨g, hg, hgq⟩ := h
  exact ⟨g, e.trans hg, hgq⟩

theorem KeepsSpans.foldl {α : Type} {l : List α} {f : State → α → State}
    (hf : ∀ x a, KeepsSpans id s x → KeepsSpans id s (f x a)) : KeepsSpans id s (l.foldl f t) := by
  induction l generalizing t with
  | nil => exact h
  | cons a l ih => exact ih (hf t a h)

theorem KeepsSpans.updDir {f : DirReq → DirReq} (hf : ∀ q, (f q).id = q.id ∧ (f q).spans ⊆ q.spans) :
    KeepsSpans id s (t.updDir id f) := by
  obtain ⟨g, hg, hgq⟩ := h
  refine ⟨fun q => if (g q).id == id then f (g q) else g q, by simp [State.updDir, hg], fun q => ?_⟩
  obtain ⟨hid, hsub, hsame⟩ := hgq q
  obtain ⟨hfid, hfsub⟩ := hf (g q)
  by_cases hq : q.id = id
  · simpa [hid, hq] using ⟨hfid.trans (hid.trans hq), fun _ hx => hsub (hfsub hx)⟩
  · simpa [hid, hq] using ⟨hsub, hsame hq⟩

/-- A change of a request that leaves its number and the lines it names. -/
theorem KeepsSpans.mark {f : DirReq → DirReq} (hf : ∀ q, (f q).id = q.id ∧ (f q).spans = q.spans) :
    KeepsSpans id s (t.updDir id f) :=
  h.updDir fun q => ⟨(hf q).1, (hf q).2 ▸ List.Subset.refl _⟩

theorem KeepsSpans.enqOp (n : Nat) (op : ArrOp) : KeepsSpans id s (t.enqOp n op) :=
  h.of_reqs (congrArg Dir.reqs ((State.enqOp_eff t n op).same .dir rfl))

theorem KeepsSpans.stale (m : SMap Nat) : KeepsSpans id s { t with dir := { t.dir with stale := m } } := h.of_reqs rfl

theorem KeepsSpans.placeQ (q : List Ins) : KeepsSpans id s { t with mnt := { t.mnt with placeQ := q } } := h.of_reqs rfl

theorem KeepsSpans.showClaims : KeepsSpans id s t.showClaims := h.of_reqs rfl

theorem KeepsSpans.snoop (ld line : Nat) (k : BiKind) : KeepsSpans id s (t.snoop id ld line k) := by
  rw [State.snoop]
  split
  · exact h
  · exact (h.mark (f := fun r => { r with snoops := r.snoops ++ [(ld, line, t.tick, k)] }) fun _ => ⟨rfl, rfl⟩).of_reqs rfl

theorem KeepsSpans.snoopEntry (r : Row) (e : Option Nat) : KeepsSpans id s (t.snoopEntry id r e) := by
  rw [State.snoopEntry]
  split
  · exact h
  · exact h.foldl fun _ _ hx => hx.foldl fun _ _ hy => hy.snoop _ _ _

theorem KeepsSpans.dirAgain : KeepsSpans id s (t.dirAgain id) :=
  h.updDir fun q => ⟨rfl, by simp [DirReq.spans]⟩

theorem KeepsSpans.dirWrite (a : Nat) (r : Row) (k : WKind) : KeepsSpans id s (t.dirWrite id a r k) :=
  (h.enqOp 9 _).mark fun _ => ⟨rfl, rfl⟩

theorem KeepsSpans.dirInsert (r : Row) : KeepsSpans id s (t.dirInsert id r) :=
  (h.placeQ _).mark fun _ => ⟨rfl, rfl⟩

theorem KeepsSpans.dirRemove (n : Nat) : KeepsSpans id s (t.dirRemove id n) := by
  rw [State.dirRemove]
  split
  · exact h.dirWrite _ _ _
  · exact h.mark fun _ => ⟨rfl, rfl⟩

theorem KeepsSpans.dirChange {r : DirReq} (hr : r.id = id) : KeepsSpans id s (t.dirChange r) := by
  subst hr
  rw [State.dirChange]
  split
  case h_1 => exact h.mark fun _ => ⟨rfl, rfl⟩
  case h_2 n _ => exact ((h.stale _).enqOp 9 _).mark fun _ => ⟨rfl, rfl⟩
  case h_3 n st x src own _ =>
    extract_lets -merge u st' v
    have hv : KeepsSpans r.id s v := (h.stale _).stale _
    clear_value u v
    split
    split
    · exact hv.dirRemove _
    split
    · exact hv.dirAgain
    · exact hv.dirWrite _ _ _
  case h_4 => exact h.dirInsert _
  case h_5 => exact h.dirInsert _
  case h_6 => exact h.dirRemove _

theorem KeepsSpans.pinStep {r : DirReq} (hr : r.id = id) (pin : Bool) : KeepsSpans id s (t.pinStep r pin) := by
  subst hr
  rw [State.pinStep]
  dsimp only
  split
  · exact h
  split
  · exact h.foldl fun _ _ hx => hx.dirWrite _ _ _
  split
  · exact (h.dirWrite _ _ _).mark fun _ => ⟨rfl, rfl⟩
  · exact (h.dirInsert _).mark fun _ => ⟨rfl, rfl⟩

theorem KeepsSpans.dirAdvance : KeepsSpans id s (t.dirAdvance id) := by
  rw [State.dirAdvance]
  split
  · exact h
  next r hr =>
    have hid : r.id = id := by simpa using List.find?_some hr
    split
    · exact h
    split
    · exact (h.dirWrite _ _ _).mark fun _ => ⟨rfl, rfl⟩
    split
    · split
      · exact h.pinStep hid true
      · exact h
    · split
      · exact h.pinStep hid false
      · exact h
    · split
      · exact h
      · exact h.dirChange hid

end

theorem State.dirRequest_keepsSpans {s : State} {r : DirReq} (h : nextClaim [] s.dir.reqs = some r) :
    KeepsSpans r.id s s.dirRequest := by
  rw [State.dirRequest, h]
  dsimp only
  split
  · exact .refl _ s
  have hclaim : KeepsSpans r.id s (s.updDir r.id fun q => { q with phase := 1 }) :=
    (KeepsSpans.refl r.id s).mark fun _ => ⟨rfl, rfl⟩
  generalize s.updDir r.id _ = u at hclaim ⊢
  refine KeepsSpans.showClaims ?_
  cases r.what with
  | mem k op => exact hclaim.enqOp 9 _
  | pin c n => exact hclaim.enqOp 9 _
  | unpin c n => exact hclaim.enqOp 9 _
  | remove n | settle n =>
    have hv : KeepsSpans r.id s (u.updDir r.id fun q => { q with phase := 5, change := .remove n }) :=
      hclaim.mark fun _ => ⟨rfl, rfl⟩
    dsimp only
    generalize u.updDir r.id _ = v at hv ⊢
    split
    · split
      · exact KeepsSpans.dirAdvance (hv.mark fun _ => ⟨rfl, rfl⟩)
      · exact (hv.snoopEntry _ _).dirAdvance
    · exact hv.dirAdvance

/-- No two requests share a number, and no two that hold claims name a common line. -/
def DirReq.Apart (l : List DirReq) : Prop :=
  (l.map (fun r => r.id)).Nodup ∧ l.Pairwise (fun a b => a.claims = true → b.claims = true → a.meets b = false)

/-- Claims stay apart while only a request that meets no claim changes. -/
theorem DirReq.Apart.keepsSpans {s t : State} {r : DirReq} (h : DirReq.Apart s.dir.reqs) (hr : r ∈ s.dir.reqs)
    (hfree : ∀ b ∈ s.dir.reqs, b.claims = true → b.meets r = false) (hk : KeepsSpans r.id s t) : DirReq.Apart t.dir.reqs := by
  obtain ⟨hids, hclaims⟩ := h
  obtain ⟨g, hg, hgq⟩ := hk
  have hmap : (s.dir.reqs.map g).map (fun r => r.id) = s.dir.reqs.map (fun r => r.id) := by
    simp [Function.comp_def, fun q => (hgq q).1]
  have hone : ∀ q ∈ s.dir.reqs, q.id = r.id → q = r := fun q hq he => List.inj_on_of_nodup_map hids hq hr he
  rw [DirReq.Apart, hg, hmap, List.pairwise_map]
  refine ⟨hids, ((List.pairwise_map.mp hids).and hclaims).imp_of_mem ?_⟩
  rintro a b ha hb ⟨hne, hab⟩ hga hgb
  obtain ⟨-, hasub, hasame⟩ := hgq a
  obtain ⟨-, hbsub, hbsame⟩ := hgq b
  refine DirReq.meets_false_of_subset ?_ hasub hbsub
  by_cases har : a.id = r.id
  · have hbr : b.id ≠ r.id := fun e => hne (har.trans e.symm)
    rw [hone a ha har, DirReq.meets_comm]
    exact hfree b hb (hbsame hbr ▸ hgb)
  have hca : a.claims = true := hasame har ▸ hga
  by_cases hbr : b.id = r.id
  · rw [hone b hb hbr]
    exact hfree a ha hca
  · exact hab hca (hbsame hbr ▸ hgb)

/-- Settles O36: the request that claims meets no claim, and the rest of its command changes that request alone. -/
theorem claimsNeverMeet : Obligations.ClaimsNeverMeet := by
  refine ⟨fun s t hids hclaims ht => ?_, fun s h => (exec_dirRequest s).trans (whileUp_of_fixed (State.dirRequest_full h))⟩
  have hapart : DirReq.Apart s.dir.reqs := ⟨hids, hclaims⟩
  cases hn : nextClaim [] s.dir.reqs with
  | none =>
    rw [exec_dirRequest, whileUp_of_fixed (State.dirRequest_none hn)] at ht
    cases ht
    exact hapart
  | some r =>
    obtain ⟨hr, -, hfree⟩ := nextClaim_some hn
    rw [exec_dirRequest] at ht
    cases ht
    split
    · exact hapart.keepsSpans hr (by simpa using hfree) (State.dirRequest_keepsSpans hn)
    · exact hapart

end Sys2Proof.Machine
end

section
/-! SUPPORT. Proofs. The directory path's commands and the placement refill (07 R254 to R262, 12 R419, R421). -/

set_option Elab.async false

namespace Sys2Proof.Machine

/-! ### The request that a command finds -/

theorem State.onlyReq.find {s : State} {r : DirReq} {line : Nat} {p : DirReq → Bool} (h : s.onlyReq r line)
    (hp : ∀ q, p q = true → q.line / 64 = line / 64) (hr : p r = true) : s.dir.reqs.find? p = some r := by
  obtain ⟨hmem, -, honly⟩ := h
  obtain ⟨q, hq⟩ := Option.isSome_iff_exists.mp (List.find?_isSome.mpr ⟨r, hmem, hr⟩)
  rw [hq, honly q (List.mem_of_find?_eq_some hq) (hp q (List.find?_some hq))]

/-- `r` is a directory request, and no other has its number. -/
def State.OnlyId (s : State) (r : DirReq) : Prop := r ∈ s.dir.reqs ∧ ∀ q ∈ s.dir.reqs, q.id = r.id → q = r

section
variable {s t : State} {r : DirReq} (h : s.OnlyId r)
include h

theorem State.OnlyId.congr (e : t.dir.reqs = s.dir.reqs) : t.OnlyId r := by
  rw [State.OnlyId, e]
  exact h

theorem State.OnlyId.updDir {f : DirReq → DirReq} (hf : (f r).id = r.id) : (s.updDir r.id f).OnlyId (f r) := by
  obtain ⟨hmem, honly⟩ := h
  refine ⟨List.mem_map.mpr ⟨r, hmem, by simp⟩, fun q hq hid => ?_⟩
  obtain ⟨x, hx, rfl⟩ := List.mem_map.mp hq
  by_cases e : x.id = r.id
  · simp [honly x hx e]
  · simp [e, hf] at hid

theorem State.OnlyId.find : s.dir.reqs.find? (fun q => q.id == r.id) = some r := by
  obtain ⟨hmem, honly⟩ := h
  obtain ⟨q, hq⟩ := Option.isSome_iff_exists.mp
    (List.find?_isSome (p := fun q : DirReq => q.id == r.id).mpr ⟨r, hmem, by simp⟩)
  rw [hq, honly q (List.mem_of_find?_eq_some hq) (by simpa using List.find?_some hq)]

/-- A memory request without snoops whose change is still to be made makes it now. -/
theorem State.OnlyId.dirAdvance_mem {k : Nat} {op : Instr} (h5 : r.phase = 5) (hsn : r.snoops = []) (hwr : r.write = none)
    (hm : r.what = .mem k op) :
    s.dirAdvance r.id = if r.queued || r.commit.isSome then s else s.dirChange r := by
  rw [State.dirAdvance, h.find]
  simp [h5, hsn, hwr, hm]

end

/-! ### DIR_REQUEST (R257) -/

theorem State.dirRequest_mem {s : State} {r : DirReq} {k : Nat} {op : Instr} (hn : nextClaim [] s.dir.reqs = some r)
    (hroom : s.claimsHeld + spanClaims r.spans ≤ 256) (hm : r.what = .mem k op) :
    s.dirRequest = ((s.updDir r.id (fun q => { q with phase := 1 })).dirLookup r.id r.line false).showClaims := by
  rw [State.dirRequest, hn]
  simp only [Nat.not_lt.mpr hroom, if_false, hm]

/-! ### DIR_RESOLVE (R254) -/

theorem exec_dirResolve (l : Dpa) (s : State) : exec (.dirResolve l) s = whileUp s (fun s => s.dirResolve l.toNat) := rfl

/-- A request whose lookup has returned. -/
def DirReq.seen (r : DirReq) (o : Outc) : DirReq := { r with found := some o, phase := 2 }

/-- The request takes its lookup's result from the inbox. -/
def State.takeLookup (s : State) (r : DirReq) (e : Origin × Outc) : State :=
  ({ s with inbox := s.inbox.erase e } : State).updDir r.id (fun _ => r.seen e.2)

/-- A request that carries out a plan. -/
def DirReq.planned (r : DirReq) (p : DirPlan) : DirReq :=
  { r with phase := 5, change := p.change, move := p.move, split := p.split }

theorem State.dirResolve_seen {s : State} {l : Nat} {r : DirReq} {e : Origin × Outc} (hr : s.onlyReq r l) (h1 : r.phase = 1)
    (he : s.inbox.find? (fun e => e.1 == .dir r.id) = some e) :
    s.dirResolve l = ((s.takeLookup r e).dirDecide (r.seen e.2)).showClaims := by
  have hfind := hr.find (p := fun r => r.claims && r.line / 64 == l / 64) (by simp) (by simp [DirReq.claims, h1, hr.here])
  rw [State.dirResolve, hfind]
  simp only [State.dirFound, State.takeInbox, he, h1]
  rfl

section
variable {s : State} {r : DirReq} {k : Nat} {op : Instr} {o : Outc} (hm : r.what = .mem k op)
include hm

/-- A miss of a request that takes its line: where coarse entries are off, it gets a line entry. -/
theorem State.dirDecide_miss_line (ho : o.status = St.noMatch) (hc : s.f fCoarse = 0) (hk : k = 1 ∨ k = 2) :
    s.dirDecide (r.seen o) =
      s.dirBegin (r.seen o) { change := .line (if k = 1 then 1 else 2) (2 ^ r.ld) r.ld } := by
  have hk03 : ¬ (k = 0 ∨ k = 3) := by omega
  simp [State.dirDecide, DirReq.seen, hm, ho, hc, hk03]

/-- A miss of a request that leaves its line with the device: no change. -/
theorem State.dirDecide_miss_none (ho : o.status = St.noMatch) (hk : k = 0 ∨ k = 3) :
    s.dirDecide (r.seen o) = s.dirBegin (r.seen o) {} := by
  simp [State.dirDecide, DirReq.seen, hm, ho, hk]

/-- A plan without snoops: the change is made at once, unless it has been. -/
theorem State.dirBegin_quiet {p : DirPlan} (h : s.OnlyId r) (hp : p.snoops = []) (hsn : r.snoops = []) (hwr : r.write = none) :
    s.dirBegin r p = if r.queued || r.commit.isSome then s.updDir r.id (fun q => q.planned p)
      else (s.updDir r.id (fun q => q.planned p)).dirChange (r.planned p) := by
  rw [State.dirBegin, hp]
  exact (h.updDir (f := fun q => q.planned p) rfl).dirAdvance_mem rfl hsn hwr hm

end

theorem State.dirChange_none {s : State} {r : DirReq} (hc : r.change = .none) :
    s.dirChange r = s.updDir r.id (fun q => { q with queued := true, commit := some s.tick }) := by
  simp only [State.dirChange, hc]

theorem State.dirChange_line {s : State} {r : DirReq} {st x src : Nat} (hc : r.change = .line st x src) :
    s.dirChange r = s.dirInsert r.id (lineRow r.line (s.dropDead 0 st x).1 (s.dropDead 0 st x).2 src) := by
  simp only [State.dirChange, hc]

theorem State.OnlyId.dirChange_none {s : State} {r : DirReq} (h : s.OnlyId r) (hc : r.change = .none) :
    (s.dirChange r).OnlyId { r with queued := true, commit := some s.tick } := by
  rw [State.dirChange_none hc]
  exact h.updDir (f := fun q => { q with queued := true, commit := some s.tick }) rfl

theorem State.OnlyId.dirChange_line {s : State} {r : DirReq} {st x src : Nat} (h : s.OnlyId r) (hc : r.change = .line st x src) :
    (s.dirChange r).OnlyId { r with queued := true, commit := none } := by
  rw [State.dirChange_line hc]
  exact State.OnlyId.updDir (f := fun q => { q with queued := true, commit := none }) (h.congr rfl) rfl

theorem State.OnlyId.takeLookup {s : State} {r : DirReq} (h : s.OnlyId r) (e : Origin × Outc) :
    (s.takeLookup r e).OnlyId (r.seen e.2) :=
  State.OnlyId.updDir (s := { s with inbox := s.inbox.erase e }) (f := fun _ => r.seen e.2) h rfl

section
variable {s : State} {l : Dpa} {k : Nat} {r : DirReq} {op : Instr} {og : Origin} {o : Outc} (hu : s.up = true)
  (hr : s.onlyReq r l.toNat) (h1 : r.phase = 1) (hm : r.what = .mem k op) (hsn : r.snoops = []) (hwr : r.write = none)
  (he : s.inbox.find? (fun e => e.1 == .dir r.id) = some (og, o)) (ho : o.status = St.noMatch)
  (hone : ∀ q ∈ s.dir.reqs, q.id = r.id → q = r)
include hu hr h1 hm hsn hwr he ho hone

theorem execDirResolve_miss_line (hc : s.f fCoarse = 0) (hk : k = 1 ∨ k = 2) :
    Runs (.dirResolve l) s (fun t => ∃ q ∈ t.dir.reqs, q.id = r.id ∧ q.phase = 5 ∧
      q.change = .line (if k = 1 then 1 else 2) (2 ^ r.ld) r.ld ∧ q.snoops = []) := by
  have hid : s.OnlyId r := ⟨hr.mem, hone⟩
  have hseen := hid.takeLookup (og, o)
  have hplan := hseen.updDir (f := fun q => q.planned { change := .line (if k = 1 then 1 else 2) (2 ^ r.ld) r.ld }) rfl
  refine ⟨_, (exec_dirResolve l s).trans (whileUp_of_up hu _), ?_⟩
  rw [State.dirResolve_seen hr h1 he, State.dirDecide_miss_line (s := s.takeLookup r (og, o)) hm ho hc hk,
    State.dirBegin_quiet (r := r.seen o) hm hseen rfl hsn hwr]
  split
  · exact ⟨_, hplan.1, rfl, rfl, rfl, hsn⟩
  · exact ⟨_, (hplan.dirChange_line rfl).1, rfl, rfl, rfl, hsn⟩

theorem execDirResolve_miss_none (hq : r.queued = false) (hcm : r.commit = none) (hk : k = 0 ∨ k = 3) :
    Runs (.dirResolve l) s (fun t => ∃ q ∈ t.dir.reqs, q.id = r.id ∧ q.phase = 5 ∧ q.change = .none ∧ q.commit = some s.tick) := by
  have hid : s.OnlyId r := ⟨hr.mem, hone⟩
  have hseen := hid.takeLookup (og, o)
  have hplan := hseen.updDir (f := fun q => q.planned {}) rfl
  refine ⟨_, (exec_dirResolve l s).trans (whileUp_of_up hu _), ?_⟩
  rw [State.dirResolve_seen hr h1 he, State.dirDecide_miss_none (s := s.takeLookup r (og, o)) hm ho hk,
    State.dirBegin_quiet (r := r.seen o) hm hseen rfl hsn hwr, if_neg (by simp [DirReq.seen, hq, hcm])]
  exact ⟨_, (hplan.dirChange_none rfl).1, rfl, rfl, rfl, rfl⟩

end

/-! ### DIR_DATA_RETURN (R259, 10 R349) and DIR_CLAIM_END (R257) -/

theorem exec_dirDataReturn (l : Dpa) (s : State) : exec (.dirDataReturn l) s = whileUp s (fun s => s.dirData l.toNat) := rfl
theorem exec_dirClaimEnd (l : Dpa) (s : State) : exec (.dirClaimEnd l) s = whileUp s (fun s => s.claimEnd l.toNat) := rfl

/-- A request leaves the directory path. -/
def State.dirDrop (s : State) (r : DirReq) : State :=
  { s with dir := { s.dir with reqs := s.dir.reqs.filter (fun q => q.id != r.id) } }

section
variable {s : State} {l c k : Nat} {r : DirReq} {ld : LdId} {h : BitVec 64} {m : Meta} {tag : BitVec 16} (hr : s.onlyReq r l)
  (hsn : r.snoops = []) (hwr : r.write = none) (hc : r.commit = some c)
include hr hsn hwr hc

section
variable (h6 : r.phase = 6) (ht : c < s.tick)
include h6 ht

theorem State.dirData_inv (hm : r.what = .mem k (.meminv ld h m tag)) :
    s.dirData l = (s.dirDrop r).answerCmp ld.val tag.toNat (if k = 1 then 1 else if k = 2 then 2 else 0) none := by
  rw [State.dirData, hr.find ?_ ?_]
  · simp only [hm, h6, if_true]
    rfl
  · simp +contextual
  · simp [hr.here, hsn, hwr, hm, h6, hc, ht]

theorem State.dirData_read (hm : r.what = .mem 0 (.memrd ld h m tag)) :
    s.dirData l = (s.dirDrop r).place r.line (.memrd ld h m tag) false := by
  rw [State.dirData, hr.find ?_ ?_]
  · simp only [hm, h6, if_true]
    rfl
  · simp +contextual
  · simp [hr.here, hsn, hwr, hm, h6, hc, ht]

end

theorem State.claimEnd_mem (h5 : r.phase = 5) (hq : r.queued = true) (hm : r.what = .mem k (.memrd ld h m tag)) :
    s.claimEnd l = (s.updDir r.id (fun q => { q with phase := 6 })).showClaims := by
  rw [State.claimEnd, hr.find ?_ ?_]
  · simp only [hm]
  · simp +contextual
  · simp [hr.here, hsn, hwr, hm, h5, hc, hq]

end

/-! ### DIR_AGE_REMOVAL (R258) -/

theorem exec_dirAgeRemoval (h : BitVec 22) (s : State) :
    exec (.dirAgeRemoval h) s = whileUp s (fun s => s.ageRemoval h.toNat) := rfl

theorem State.ageRemoval_gone {s : State} {h : Nat} (ha : s.dir.aged.contains h = true) (hl : s.liveRow 255 h = none) :
    s.ageRemoval h = { s with dir := { s.dir with aged := s.dir.aged.erase h } } := by
  rw [State.ageRemoval, if_neg (by simpa using ha), hl]

theorem State.ageRemoval_none {s : State} {h : Nat} (ha : s.dir.aged.contains h = false) : s.ageRemoval h = s :=
  if_pos (by simpa using ha)

/-! ### Events count once (16 R579), and poison is marked (16 R558) -/

theorem State.setIrq_evts (s : State) (n : Nat) : (s.setIrq n).ras.evts = s.ras.evts := by
  rw [State.setIrq]
  dsimp only
  split
  · rw [State.sendIrq_ras]
    rfl
  · rfl

theorem State.evtCheck_evts (s : State) : s.evtCheck.ras.evts = s.ras.evts := by
  rw [State.evtCheck]
  split
  · exact State.setIrq_evts _ _
  · rfl

theorem State.raise_evts (s : State) (e : Ev) (a b : Nat) : (s.raise e a b).ras.evts = s.ras.evts + 1 := by
  rw [State.raise, State.raiseAt]
  dsimp only
  rw [State.evtCheck_evts, State.logCxl_ras]
  split
  · rfl
  · exact State.setIrq_evts _ _

theorem State.poisonLine_ras (s : State) (a : Nat) : (s.poisonLine a).ras = (s.setPoison a true).ras :=
  (State.recordPoison_eff (s.setPoison a true) a).same .ras rfl

theorem State.setPoison_evts (s : State) (a : Nat) (v : Bool) : (s.setPoison a v).ras.evts = s.ras.evts := rfl

theorem State.setPoison_marks (s : State) (a : Nat) : (s.setPoison a true).poisoned a = true :=
  SMap.get_set_same (fun _ => false) s.ras.mark (a / 64) true

theorem State.poisoned_congr {s t : State} (h : t.ras = s.ras) (a : Nat) : t.poisoned a = s.poisoned a := by
  rw [State.poisoned, h, State.poisoned]

/-! ### DIR_BI_TIMEOUT (R262) -/

theorem exec_dirBiTimeout (ld : LdId) (l : Dpa) (s : State) :
    exec (.dirBiTimeout ld l) s = whileUp s (fun s => s.biTimeout ld.val l.toNat) := rfl

/-- A snoop of `r` to an LD about a line is unanswered past its limit. -/
def State.biLate (s : State) (ld l : Nat) (r : DirReq) : Bool :=
  r.snoops.any (fun n => n.1 == ld && n.2.1 / 64 == l / 64 && decide (n.2.2.1 + 500 * max 10 (s.f fBiTimeout) ≤ s.tick))

theorem State.biTimeout_late {s : State} {ld l : Nat} {q : DirReq} (hq : s.dir.reqs.find? (s.biLate ld l) = some q) :
    s.biTimeout ld l = (((((s.raise .dirBiTimeout (argTH 0 0 ld) (l / 64 * 64)).inc fDirTimeouts).poisonLine l).updDir q.id
      (fun r => r.without ld)).snoopDone ld l) := by
  change (match s.dir.reqs.find? (s.biLate ld l) with | none => s | some r => _) = _
  rw [hq]

theorem State.timedOut_ras (s : State) (ld l id : Nat) (f : DirReq → DirReq) :
    (((s.poisonLine l).updDir id f).snoopDone ld l).ras = (s.setPoison l true).ras :=
  ((State.snoopDone_eff ((s.poisonLine l).updDir id f) ld l).same .ras rfl).trans (State.poisonLine_ras s l)

theorem State.biTimeout_old {s : State} {ld l k : Nat} {r : DirReq} {b : BiKind} (hr : r ∈ s.dir.reqs)
    (hs : (ld, l, k, b) ∈ r.snoops) (hk : k + 500 * max 10 (s.f fBiTimeout) ≤ s.tick) :
    (s.biTimeout ld l).poisoned l = true ∧ (s.biTimeout ld l).ras.evts = s.ras.evts + 1 := by
  have hlate : s.biLate ld l r = true := List.any_eq_true.mpr ⟨_, hs, by simpa using hk⟩
  obtain ⟨q, hq⟩ := Option.isSome_iff_exists.mp (List.find?_isSome.mpr ⟨r, hr, hlate⟩)
  rw [State.biTimeout_late hq]
  have hras := State.timedOut_ras ((s.raise .dirBiTimeout (argTH 0 0 ld) (l / 64 * 64)).inc fDirTimeouts) ld l q.id
    (fun r => r.without ld)
  refine ⟨(State.poisoned_congr hras l).trans (State.setPoison_marks _ l), ?_⟩
  rw [hras, State.setPoison_evts, State.inc_ras, State.raise_evts]

/-! ### PLACEMENT_REFILL (12 R419, R421) -/

theorem State.refill_idle {s : State} {pg n : Nat} {e : Ecc} (h : s.tier.miss.filter (fun x => x.1 / 4096 == pg) = []) :
    s.refill pg n e = s := by
  simp [State.refill, h]

theorem flag_foldl_setFlag (f : Nat → Nat) (b : Bool) (l : List Nat) (m : SMap Bool) (k : Nat) :
    flag (l.foldl (fun m i => setFlag m (f i) b) m) k = if k ∈ l.map f then b else flag m k := by
  induction l generalizing m with
  | nil => rfl
  | cons i l ih =>
    rw [List.foldl_cons, ih]
    by_cases hk : k = f i
    · subst hk
      simp
    · simp [hk, SMap.get_set_other _ _ _ _ _ hk]

theorem State.markMap_flag (s : State) (pg : Nat) (bad : Bool) {i : Nat} (hi : i < 8) :
    flag (s.markMap pg bad).tier.badMap (pg / 8 * 8 + i) = bad := by
  refine (flag_foldl_setFlag (fun i => pg / 8 * 8 + i) bad _ _ _).trans (if_pos ?_)
  exact List.mem_map.mpr ⟨i, List.mem_range.mpr hi, rfl⟩

theorem State.eccUncorrectable_raises (s : State) (c k : Nat) : s.eccUncorrectable c k none =
    (s.inc (fUncorrectable c)).free.2.raise .dramUncorrectable (argCK c k) ((s.inc (fUncorrectable c)).free.1.toNat % 2 ^ 44) := by
  rw [State.eccUncorrectable]

theorem State.eccUncorrectable_evts (s : State) (c k : Nat) : (s.eccUncorrectable c k none).ras.evts = s.ras.evts + 1 := by
  rw [State.eccUncorrectable_raises, State.raise_evts]
  rfl

/-- The read of a map line leaves the DRAM's queue, and waiting requests take its place. -/
def State.mapTaken (s : State) (r : DReq) : State :=
  ({ s with dram := { s.dram with queue := s.dram.queue.erase r } } : State).enterAll

theorem State.mapTaken_ras (s : State) (r : DReq) : (s.mapTaken r).ras = s.ras := (State.enterAll_eff _).same .ras rfl

theorem State.mapRead_fails {s : State} {n : Nat} {r : DReq}
    (hr : s.dram.queue.find? (fun r => !r.write && !r.eng && r.dpa == 2 ^ 44 + mapLine n) = some r) :
    s.mapRead n .uncorrectable = (s.mapTaken r).eccUncorrectable r.chan r.rank none := by
  rw [State.mapRead, hr, State.mapTaken]

theorem State.mapRead_evts (s : State) (n : Nat) : s.ras.evts ≤ (s.mapRead n .uncorrectable).ras.evts := by
  cases hr : s.dram.queue.find? (fun r => !r.write && !r.eng && r.dpa == 2 ^ 44 + mapLine n) with
  | none => rw [State.mapRead, hr]
  | some r =>
    rw [State.mapRead_fails hr, State.eccUncorrectable_evts, State.mapTaken_ras]
    exact Nat.le_succ _

/-- The requests of a page no longer wait for its descriptor. -/
def State.dropMiss (s : State) (pg : Nat) : State :=
  { s with tier := { s.tier with miss := s.tier.miss.filter (fun e => e.1 / 4096 != pg) } }

/-- The descriptors of a map line leave the placement cache. -/
def State.dropCache (s : State) (pg : Nat) : State :=
  { s with tier := { s.tier with cache := s.tier.cache.filter (fun e => e.1 / 8 != pg / 8) } }

/-- A refill whose map line fails its check, before its requests are answered (R421). -/
def State.refillFails (s : State) (pg n : Nat) : State :=
  ((((s.mapRead n .uncorrectable).dropMiss pg).markMap pg true).raise .pageMapPoison 0 (pg / 8 * 8 * 4096)).dropCache pg

section
variable (s : State) (pg n : Nat)

theorem State.dropMiss_mem : (s.dropMiss pg).mem = s.mem := rfl
theorem State.dropMiss_ras : (s.dropMiss pg).ras = s.ras := rfl
theorem State.dropCache_mem : (s.dropCache pg).mem = s.mem := rfl
theorem State.dropCache_ras : (s.dropCache pg).ras = s.ras := rfl
@[simp] theorem State.markMap_mem (bad : Bool) : (s.markMap pg bad).mem = s.mem := (State.markMap_eff s pg bad).same .mem rfl
@[simp] theorem State.markMap_ras (bad : Bool) : (s.markMap pg bad).ras = s.ras := (State.markMap_eff s pg bad).same .ras rfl
@[simp] theorem State.mapRead_mem (e : Ecc) : (s.mapRead n e).mem = s.mem := (State.mapRead_eff s n e).same .mem rfl
@[simp] theorem State.mapRead_tier (e : Ecc) : (s.mapRead n e).tier = s.tier := (State.mapRead_eff s n e).same .tier rfl

theorem State.refillFails_mem : (s.refillFails pg n).mem = s.mem := by
  rw [State.refillFails, State.dropCache_mem, State.raise_mem, State.markMap_mem, State.dropMiss_mem, State.mapRead_mem]

theorem State.refillFails_evts : s.ras.evts < (s.refillFails pg n).ras.evts := by
  rw [State.refillFails, State.dropCache_ras, State.raise_evts, State.markMap_ras, State.dropMiss_ras]
  exact Nat.lt_succ_of_le (State.mapRead_evts s n)

theorem State.refillFails_tier :
    (s.refillFails pg n).tier.miss = s.tier.miss.filter (fun e => e.1 / 4096 != pg) ∧
    (∀ x ∈ (s.refillFails pg n).tier.cache, x.1 / 8 ≠ pg / 8) ∧
    ∀ i < 8, flag (s.refillFails pg n).tier.badMap (pg / 8 * 8 + i) = true := by
  simp only [State.refillFails, State.dropCache, State.raise_tier]
  refine ⟨?_, fun x hx => by simpa using (List.mem_filter.mp hx).2, fun i hi => State.markMap_flag _ pg true hi⟩
  simp [State.markMap, State.dropMiss]

end

theorem State.refill_fails {s : State} {pg n : Nat} (hm : s.tier.miss.filter (fun x => x.1 / 4096 == pg) ≠ [])
    (hq : s.dram.queue.any (fun r => !r.write && !r.eng && r.dpa == 2 ^ 44 + mapLine n && decide (r.stage < 2)) = false) :
    Eff 6 (s.refillFails pg n) (s.refill pg n .uncorrectable) := by
  have hmine : (s.tier.miss.filter (fun x => x.1 / 4096 == pg)).isEmpty = false := by simpa using hm
  rw [State.refill, hq, hmine]
  simp only [Bool.or_self, Bool.false_eq_true, if_false, beq_self_eq_true, Bool.true_or, if_true, State.refillFails, State.dropCache,
    State.dropMiss]
  refine Eff.foldl Eff.refl fun x e hx => ?_
  split
  · exact hx.then (State.answerDead_eff _ _) (by decide)
  · exact hx

theorem exec_placementRefill_paged {p : BitVec 32} {e : Ecc} {b : Nat} {s : State} (hu : s.up = true)
    (hreg : s.region p.toNat = some (2, b)) : exec (.placementRefill p e) s = .next (s.refill p.toNat b e) := by
  change execPlacementRefill p e s = _
  rw [execPlacementRefill, whileUp_of_up hu]
  simp only [hreg]

theorem exec_placementRefill_idle {p : BitVec 32} {e : Ecc} {s : State}
    (h : s.tier.miss.filter (fun x => x.1 / 4096 == p.toNat) = []) : exec (.placementRefill p e) s = .next s := by
  change execPlacementRefill p e s = _
  refine whileUp_of_fixed ?_
  split
  · exact State.refill_idle h
  · rfl

/-- Settles O37, from the equations of the directory path's commands. -/
theorem directoryCommandsAct : Obligations.DirectoryCommandsAct := by
  refine ⟨?_, ?_, ?_, ?_, ?_, ?_, ?_, ?_, ?_, ?_, ?_, ?_, ?_⟩
  · intro r k op s hu hn hroom hm
    rw [exec_dirRequest, whileUp_of_up hu, State.dirRequest_mem hn hroom hm]
  · exact fun s hn => (exec_dirRequest s).trans (whileUp_of_fixed (State.dirRequest_none hn))
  · intro l r k op og o s hu hr h1 hm hsn hwr he ho hc hk hone
    exact execDirResolve_miss_line hu hr h1 hm hsn hwr he ho hone hc hk
  · intro l r k op og o s hu hr h1 hm hsn hwr hq hcm he ho hk hone
    exact execDirResolve_miss_none hu hr h1 hm hsn hwr he ho hone hq hcm hk
  · intro l r k ld h m tag c s hu hr h6 hsn hwr hc ht hm
    refine ⟨_, (exec_dirDataReturn l s).trans (whileUp_of_up hu _), State.dirData_inv hr hsn hwr hc h6 ht hm, ?_⟩
    rw [State.dirData_inv hr hsn hwr hc h6 ht hm]
    exact (State.answerCmp_eff _ _ _ _ _).same .mem rfl
  · intro l r ld h m tag c s hu hr h6 hsn hwr hc ht hm
    rw [exec_dirDataReturn, whileUp_of_up hu, State.dirData_read hr hsn hwr hc h6 ht hm, State.dirDrop]
  · intro l r k c ld h m tag s hu hr h5 hsn hwr hc hq _ _ hm
    rw [exec_dirClaimEnd, whileUp_of_up hu, State.claimEnd_mem hr hsn hwr hc h5 hq hm]
  · intro h s hu ha hl
    rw [exec_dirAgeRemoval, whileUp_of_up hu, State.ageRemoval_gone ha hl]
  · exact fun h s ha => (exec_dirAgeRemoval h s).trans (whileUp_of_fixed (State.ageRemoval_none ha))
  · intro ld l r k b s hu hr hs hk
    obtain ⟨hpoison, hevts⟩ := State.biTimeout_old hr hs hk
    exact ⟨_, (exec_dirBiTimeout ld l s).trans (whileUp_of_up hu _), hpoison, hevts,
      (State.biTimeout_eff s ld.val l.toNat).same .mem rfl⟩
  · exact fun p e s h => exec_placementRefill_idle h
  · intro p b s hu hreg hm hq
    have hrest := State.refill_fails hm hq
    obtain ⟨hmiss, hcache, hbad⟩ := State.refillFails_tier s p.toNat b
    have htier : (s.refill p.toNat b .uncorrectable).tier = (s.refillFails p.toNat b).tier := hrest.same .tier rfl
    rw [← htier] at hmiss hcache hbad
    refine ⟨s.refill p.toNat b .uncorrectable, exec_placementRefill_paged hu hreg, ?_, ?_, hmiss, hcache, hbad⟩
    · exact (hrest.same .mem rfl).trans (State.refillFails_mem s _ b)
    · exact (State.refillFails_evts s p.toNat b).trans_eq (congrArg Ras.evts (hrest.same .ras rfl)).symm
  · exact fun p b s hu hreg _ => exec_placementRefill_paged hu hreg

end Sys2Proof.Machine
end

section
/-! SUPPORT. Proofs. The learn stage and the sweeper (07 R227 to R245). -/

set_option Elab.async false

namespace Sys2Proof.Machine

/-! ### LEARN_DECIDE (R228 to R232, R235) -/

theorem exec_learnDecide (t : TableId) (s : State) : exec (.learnDecide t) s = whileUp s (fun s => s.learnDecide t.val) := rfl

section
variable {s u : State} {t : Nat} {o : LearnOp} {r : Outc} (hu : u = s.takeProbes t)
  (hf : u.lrn.ops.find? (fun o => o.table == t && o.phase != 2) = some o) (h1 : o.phase = 1) (hp : o.probe = some r)
  (halone : u.lrn.ops.filter (fun x => x.table == t && x.key == o.key && x.phase == 2) = []) (hw : u.winnerMoved o = false)
include hu hf h1 hp halone hw

theorem State.learnDecide_poisoned (hfirst : u.learnFirst o = true) (hr : r.status = St.poisoned) :
    s.learnDecide t = u.endLearn o { status := St.poisoned, table := t, handle := r.handle, outcome := 6 } := by
  rw [State.learnDecide, ← hu]
  simp only [hf, hp, h1, halone, hw, hr, State.when_true hfirst, List.getLast?_nil, bne_self_eq_false, Bool.false_eq_true, if_false, if_true]

theorem State.learnDecide_now (hr : r.status = St.success ∨ r.status = St.noMatch) : s.learnDecide t = u.decideNow o := by
  have hpoison : r.status ≠ St.poisoned := by rcases hr with h | h <;> simp [h]
  have hbad : (r.status != St.success && r.status != St.noMatch) = false := by rcases hr with h | h <;> simp [h]
  rw [State.learnDecide, ← hu]
  simp only [hf, hp, h1, halone, hw, hpoison, hbad, List.getLast?_nil, bne_self_eq_false, Bool.false_eq_true, if_false]

end

theorem LearnOp.table_of_undecided {l : List LearnOp} {t : Nat} {o : LearnOp}
    (hf : l.find? (fun o => o.table == t && o.phase != 2) = some o) : o.table = t ∧ o.phase ≠ 2 := by
  simpa using List.find?_some hf

theorem State.learnDecide_none {s : State} {t : Nat}
    (h : ∀ o ∈ (s.takeProbes t).lrn.ops, o.table = t → o.phase = 2 ∨ o.probe = none) : s.learnDecide t = s.takeProbes t := by
  rw [State.learnDecide]
  split
  · rfl
  next o ho =>
    obtain ⟨ht, h2⟩ := LearnOp.table_of_undecided ho
    rw [(h o (List.mem_of_find?_eq_some ho) ht).resolve_left h2]

section
variable {s : State} {o : LearnOp} {w : Win} (hl : o.lock = none)
include hl

theorem State.decideNow_hit (hwin : s.learnWinner o = some w) (hsrc : w.row.src = o.src) :
    s.decideNow o = (s.decided o 1 (some w.row.handle) (some w.addr)).enqOp 10
      { table := o.table, act := .upd w.row.handle .hit, origin := .learn o.id } := by
  simp [State.decideNow, State.learnOn, hl, hwin, hsrc]

theorem State.decideNow_moved (hwin : s.learnWinner o = some w) (hsrc : w.row.src ≠ o.src) (hstat : w.row.stat = false) :
    s.decideNow o = (s.decided o 2 (some w.row.handle) (some w.addr)).enqOp 10
      { table := o.table, act := .write w.addr { ((w.row.setSrc o.src).setH true) with res := o.res } .learnMove,
        origin := .learn o.id } := by
  simp [State.decideNow, State.learnOn, hl, hwin, hsrc, hstat]

theorem State.decideNow_static (hwin : s.learnWinner o = some w) (hsrc : w.row.src ≠ o.src) (hstat : w.row.stat = true)
    (hfirst : s.learnFirst o = true) :
    s.decideNow o = ((s.inc (fLrn o.table 1 0 32)).raise .learnStaticConflict (argTH o.table w.row.handle w.row.src o.src) 0).endLearn o
      { status := St.success, table := o.table, handle := w.row.handle, outcome := 3 } := by
  simp [State.decideNow, State.learnStatic, hl, hwin, hsrc, hstat, hfirst]

omit hl in
@[simp] theorem State.decided_mnt (outcome : Nat) (h row : Option Nat) : (s.decided o outcome h row).mnt = s.mnt := rfl

theorem State.decideNow_absent (hwin : s.learnWinner o = none) :
    s.decideNow o = { s.decided o 0 none none with mnt := { s.mnt with placeQ := s.mnt.placeQ ++
      [{ origin := .learn o.id, table := o.table, row := o.row0 (s.tb o.table).profile, given := none, at_ := s.tick,
         lock := none, learn := true }] } } := by
  simp [State.decideNow, State.learnAbsent, hl, hwin]

end

/-! ### LEARN_RETRY (R235) -/

theorem exec_learnRetry (t : TableId) (s : State) : exec (.learnRetry t) s = whileUp s (fun s => s.learnRetry t.val) := rfl

theorem State.learnRetry_moved {s : State} {t : Nat} {o : LearnOp}
    (hf : (s.takeProbes t).lrn.ops.find? (fun o => o.table == t && (s.takeProbes t).winnerMoved o) = some o) :
    s.learnRetry t = ((s.takeProbes t).discardOps (.learn o.id)).relearn o := by
  rw [State.learnRetry, hf]

theorem State.learnRetry_still {s : State} {t : Nat}
    (h : ∀ o ∈ (s.takeProbes t).lrn.ops, o.table = t → (s.takeProbes t).winnerMoved o = false) :
    s.learnRetry t = s.takeProbes t := by
  have hnone : (s.takeProbes t).lrn.ops.find? (fun o => o.table == t && (s.takeProbes t).winnerMoved o) = none :=
    List.find?_eq_none.mpr fun o ho hm => by
      simp only [Bool.and_eq_true, beq_iff_eq] at hm
      simp [h o ho hm.1] at hm
  rw [State.learnRetry, hnone]

/-! ### The record of a sweep -/

theorem State.sweepOf_updSweep (s : State) (t : Nat) (f : Sweep → Sweep) : (s.updSweep t f).sweepOf t = (s.sweepOf t).map f :=
  SMap.get_set_same _ _ _ _

theorem State.sweepOf_updSweep_other (s : State) {t j : Nat} (f : Sweep → Sweep) (h : j ≠ t) :
    (s.updSweep t f).sweepOf j = s.sweepOf j :=
  SMap.get_set_other _ _ _ _ _ h

theorem State.f_updSweep (s : State) (t : Nat) (f : Sweep → Sweep) (x : F) : (s.updSweep t f).f x = s.f x :=
  State.f_congr (State.updSweep_regs s t f) x

theorem State.sweepOf_inc (s : State) (x : F) (k t : Nat) : (s.inc x k).sweepOf t = s.sweepOf t := rfl

/-! ### SWEEP_PASS_START (R243, R245) -/

theorem exec_sweepPassStart (t : TableId) (s : State) : exec (.sweepPassStart t) s = whileUp s (fun s => s.passStart t.val) := rfl

/-- A pass starts from the first handle. -/
def Sweep.started (w : Sweep) (period : Nat) : Sweep :=
  { w with running := true, pos := 0, again := [], lastVisit := w.due, period := period }

/-- The running or next pass is past its limit (R245). -/
def Sweep.late (w : Sweep) : Bool := match w.limit with | some l => decide (l < w.due) | none => false

section
variable {s : State} {t : Nat} {w : Sweep} (ho : s.sweepOf t = some w)
include ho

theorem State.passStart_due (hs : s.sweeps t = true) (hrun : w.running = false) (hdue : w.due ≤ s.tick) :
    s.passStart t = ((s.when w.late (·.inc (fLrn t 3 0 32))).updSweep t (fun w => w.started (Prof.sweepPeriod (s.tb t).profile))) := by
  have hstart : s.passStart t = (s.when w.late (·.inc (fLrn t 3 0 32))).updSweep t
      (fun w' => w'.started (Prof.sweepPeriod ((s.when w.late (·.inc (fLrn t 3 0 32))).tb t).profile)) := by
    simp only [State.passStart, ho, hs, hrun, Nat.not_lt.mpr hdue, Bool.not_true, Bool.or_self, decide_false, Bool.false_eq_true, if_false]
    rfl
  rw [hstart]
  cases w.late
  · rfl
  · rw [State.when_true rfl, State.inc_tb]

theorem State.passStart_effect (hs : s.sweeps t = true) (hrun : w.running = false) (hdue : w.due ≤ s.tick) :
    (s.passStart t).sweepOf t = some (w.started (Prof.sweepPeriod (s.tb t).profile)) ∧
    (s.passStart t).f (fLrn t 3 0 32) =
      (if w.late then min (s.f (fLrn t 3 0 32) + 1) (2 ^ 32 - 1) else s.f (fLrn t 3 0 32)) ∧
    ∀ j, j ≠ t → (s.passStart t).sweepOf j = s.sweepOf j := by
  rw [State.passStart_due ho hs hrun hdue]
  have hcount : ∀ j, (s.when w.late (·.inc (fLrn t 3 0 32))).sweepOf j = s.sweepOf j := fun j => by
    cases w.late <;> rfl
  refine ⟨?_, ?_, fun j hj => (State.sweepOf_updSweep_other _ _ hj).trans (hcount j)⟩
  · rw [State.sweepOf_updSweep, hcount, ho, Option.map_some]
  · rw [State.f_updSweep]
    cases w.late
    · rfl
    · exact State.f_inc_same s (fLrn t 3 0 32) 1 (by simp)

theorem State.passStart_waits (h : s.tick < w.due ∨ w.running = true) : s.passStart t = s := by
  rw [State.passStart, ho]
  refine if_pos ?_
  rcases h with h | h <;> simp [h]

end

theorem State.passStart_unswept {s : State} {t : Nat} (h : s.sweeps t = false) : s.passStart t = s := by
  rw [State.passStart]
  split
  · rfl
  · exact if_pos (by simp [h])

theorem State.passStart_none {s : State} {t : Nat} (h : s.sweepOf t = none) : s.passStart t = s := by
  rw [State.passStart, h]

/-! ### SWEEPER_VISIT (R243, R244) -/

theorem exec_sweeperVisit (t : TableId) (s : State) : exec (.sweeperVisit t) s = whileUp s (fun s => s.sweeperVisit t.val) := rfl

section
variable {s : State} {t : Nat} {w : Sweep} (ho : s.sweepOf t = some w)
include ho

section
variable (hs : s.sweeps t = true) (hrun : w.running = true)
include hs hrun

theorem State.sweeperVisit_next {h : Nat} (ha : w.again = []) (hn : s.nextVisit t w.pos = some h) (hh : s.heldH t h = false) :
    s.sweeperVisit t = (s.enqOp 11 { table := t, act := .upd h .visit, origin := .sweep t }).updSweep t
      (fun w => { w with pos := h + 1, visits := w.visits ++ [h] }) := by
  simp [State.sweeperVisit, ho, hs, hrun, ha, hn, hh]

theorem State.sweeperVisit_again {h : Nat} {rest : List Nat} (ha : w.again = h :: rest) (hl : (s.liveRow t h).isSome = true)
    (hm : s.lockMarked t h = false) (hh : s.heldH t h = false) :
    s.sweeperVisit t = (s.enqOp 11 { table := t, act := .upd h .visit, origin := .sweep t }).updSweep t
      (fun w => { w with again := rest, visits := w.visits ++ [h] }) := by
  have hlive : (s.liveRow t h).isNone = false := by simpa using hl
  simp [State.sweeperVisit, ho, hs, hrun, ha, hlive, hm, hh]

theorem State.sweeperVisit_last (ha : w.again = []) (hn : s.nextVisit t w.pos = none) (hv : w.visits = []) :
    s.sweeperVisit t = s.passEnd t := by
  simp [State.sweeperVisit, ho, hs, hrun, ha, hn, hv]

end

theorem State.sweeperVisit_held {h : Nat} (ha : w.again = []) (hn : s.nextVisit t w.pos = some h) (hh : s.heldH t h = true) :
    s.sweeperVisit t = s := by
  simp [State.sweeperVisit, ho, ha, hn, hh]

theorem State.sweeperVisit_idle (h : s.sweeps t = false ∨ w.running = false) : s.sweeperVisit t = s := by
  rw [State.sweeperVisit, ho]
  refine if_pos ?_
  rcases h with h | h <;> simp [h]

theorem State.passEnd_effect :
    (s.passEnd t).sweepOf t = some { w with running := false, due := max (w.lastVisit + 1) (w.due + 500000 * w.period),
                                            limit := some (w.due + 500000 * w.period) } ∧
    (s.passEnd t).f (fLrn t 3 32 32) = min (s.f (fLrn t 3 32 32) + 1) (2 ^ 32 - 1) ∧
    (∀ j, j ≠ t → (s.passEnd t).sweepOf j = s.sweepOf j) := by
  rw [State.passEnd]
  refine ⟨?_, ?_, fun j hj => State.sweepOf_updSweep_other _ _ hj⟩
  · rw [State.sweepOf_updSweep, State.sweepOf_inc, ho, Option.map_some]
  · rw [State.f_updSweep]
    exact State.f_inc_same s (fLrn t 3 32 32) 1 (by simp)

end

theorem State.sweeperVisit_none {s : State} {t : Nat} (h : s.sweepOf t = none) : s.sweeperVisit t = s := by
  rw [State.sweeperVisit, h]

/-- Settles O50, from the equations of the learn stage's and the sweeper's commands. -/
theorem learningCommandsAct : Obligations.LearningCommandsAct := by
  refine ⟨?_, ?_, ?_, ?_, ?_, ?_, ?_, ?_, ?_, ?_, ?_, ?_, ?_, ?_, ?_⟩
  · intro t o r s u hup hu hf h1 hp halone hw hfirst hr
    rw [exec_learnDecide, whileUp_of_up hup, State.learnDecide_poisoned hu hf h1 hp halone hw hfirst hr]
  · intro t o r w s u hup hu hf h1 hp hw hr halone hl hwin hsrc
    obtain ⟨ht, -⟩ := LearnOp.table_of_undecided hf
    rw [exec_learnDecide, whileUp_of_up hup, State.learnDecide_now hu hf h1 hp halone hw hr, State.decideNow_hit hl hwin hsrc, ht]
  · intro t o r w s u hup hu hf h1 hp hw hr halone hl hwin hsrc hstat
    obtain ⟨ht, -⟩ := LearnOp.table_of_undecided hf
    rw [exec_learnDecide, whileUp_of_up hup, State.learnDecide_now hu hf h1 hp halone hw hr,
      State.decideNow_moved hl hwin hsrc hstat, ht]
  · intro t o r w s u hup hu hf h1 hp hw hr halone hl hwin hsrc hstat hfirst
    obtain ⟨ht, -⟩ := LearnOp.table_of_undecided hf
    rw [exec_learnDecide, whileUp_of_up hup, State.learnDecide_now hu hf h1 hp halone hw hr,
      State.decideNow_static hl hwin hsrc hstat hfirst, ht]
  · intro t o r s u hup hu hf h1 hp hw hr halone hl hwin
    obtain ⟨ht, -⟩ := LearnOp.table_of_undecided hf
    refine ⟨_, (exec_learnDecide t s).trans (whileUp_of_up hup _), ?_⟩
    rw [State.learnDecide_now hu hf h1 hp halone hw hr, State.decideNow_absent hl hwin, ht]
    exact ⟨rfl, rfl, rfl, rfl⟩
  · intro t s hup h
    rw [exec_learnDecide, whileUp_of_up hup, State.learnDecide_none h]
  · rintro t o s u hup rfl hf
    rw [exec_learnRetry, whileUp_of_up hup, State.learnRetry_moved hf]
  · rintro t s u hup rfl h
    rw [exec_learnRetry, whileUp_of_up hup, State.learnRetry_still h]
  · intro t w s hup ho hs hrun hdue
    obtain ⟨hsweep, hlate, hrest⟩ := State.passStart_effect ho hs hrun hdue
    refine ⟨_, (exec_sweepPassStart t s).trans (whileUp_of_up hup _), hsweep, hlate.trans ?_, hrest,
      (State.passStart_eff s t.val).same .arr rfl, (State.passStart_eff s t.val).same .tbl rfl⟩
    rw [Sweep.late]
    cases w.limit <;> simp
  · intro t s h
    refine (exec_sweepPassStart t s).trans (whileUp_of_fixed ?_)
    rcases h with h | h
    · cases ho : s.sweepOf t.val with
      | none => exact State.passStart_none ho
      | some w => exact State.passStart_waits ho (h w ho)
    · exact State.passStart_unswept h
  · intro t w h s hup ho hs hrun ha hn hh
    rw [exec_sweeperVisit, whileUp_of_up hup, State.sweeperVisit_next ho hs hrun ha hn hh]
  · intro t w h rest s hup ho hs hrun ha hl hm hh
    rw [exec_sweeperVisit, whileUp_of_up hup, State.sweeperVisit_again ho hs hrun ha hl hm hh]
  · exact fun t w h s _ ho ha hn hh => (exec_sweeperVisit t s).trans (whileUp_of_fixed (State.sweeperVisit_held ho ha hn hh))
  · intro t w s hup ho hs hrun ha hn hv
    obtain ⟨hsweep, hcount, hrest⟩ := State.passEnd_effect ho
    exact ⟨s.passEnd t.val, by rw [exec_sweeperVisit, whileUp_of_up hup, State.sweeperVisit_last ho hs hrun ha hn hv],
      hsweep, hcount, hrest, (State.passEnd_eff s t.val).same .arr rfl⟩
  · intro t s h
    refine (exec_sweeperVisit t s).trans (whileUp_of_fixed ?_)
    cases ho : s.sweepOf t.val with
    | none => exact State.sweeperVisit_none ho
    | some w => exact State.sweeperVisit_idle ho (h.imp_right fun hall => hall w ho)

end Sys2Proof.Machine
end

section
/-! SUPPORT. Proofs. Rangers: chunks, image loads, reports and job ends (09 R300 to R330), RNG_ENABLE and REPORT_CONS (11 R380). -/

set_option Elab.async false

namespace Sys2Proof.Machine

/-! ### Threads and jobs of a state -/

@[simp] theorem State.thread_setThread_same (s : State) (n : Nat) (t : Option ScanThread) : (s.setThread n t).thread n = t :=
  SMap.get_set_same _ _ _ _

theorem State.thread_setThread_other (s : State) {n m : Nat} (t : Option ScanThread) (h : m ≠ n) :
    (s.setThread n t).thread m = s.thread m :=
  SMap.get_set_other _ _ _ _ _ h

@[simp] theorem State.setThread_jobs (s : State) (n : Nat) (t : Option ScanThread) : (s.setThread n t).rng.jobs = s.rng.jobs := rfl

theorem State.updJob_jobs_single {s : State} {j : ScanJob} (h : s.rng.jobs = [j]) (f : ScanJob → ScanJob) :
    (s.updJob j.id f).rng.jobs = [f j] := by
  simp [State.updJob, h]

/-! ### CHUNK_TAKE (R308, R311) -/

theorem exec_chunkTake (r : Fin 32) (k : Fin 4) (s : State) :
    exec (.chunkTake r k) s = whileServing s (fun s => s.chunkTake r.val k.val) := rfl

theorem whileServing_of_fixed {s : State} {f : State → State} (h : f s = s) : whileServing s f = .next s := by
  simp [whileServing, h]

/-- When an image of table `t` that is being loaded for another thread of ranger `r` is there (R300). -/
def State.loadingTill (s : State) (r t : Nat) : Option Nat :=
  (s.busyThreads r).findSome? (fun th =>
    match s.job? th.job with | some q => if q.image == t && decide (s.tick < th.loadAt) then some th.loadAt else none | none => none)

theorem State.loadingTill_idle {s : State} {r : Nat} (h : s.busyThreads r = []) (t : Nat) : s.loadingTill r t = none := by
  simp [State.loadingTill, h]

/-- The thread that begins chunk `ci` of range `ri` of a job, its image loaded at `loadAt` (R309). -/
def State.chunkThread (s : State) (j : ScanJob) (ri ci loadAt : Nat) (start : Option Nat) : ScanThread :=
  { job := j.id, seq := j.next, range := ri,
    c0 := 65536 * ci, c1 := min (65536 * (ci + 1)) (j.ranges.getD ri (0, 0)).2, pos := 65536 * ci,
    wEnd := min (65536 * (ci + 1) + Img.reach (s.imageOf j.image)) (j.ranges.getD ri (0, 0)).2,
    st := Img.start (s.imageOf j.image), image := s.imageOf j.image, loadAt := loadAt, start := start }

/-- The chunk's window lies in the pages of the job's domain (R305). -/
def State.chunkInDomain (s : State) (j : ScanJob) (ri ci : Nat) : Bool :=
  s.dpaOk (s.cx j.ctx).domain ((j.ranges.getD ri (0, 0)).1 + 65536 * ci)
    (min (65536 * (ci + 1) + Img.reach (s.imageOf j.image)) (j.ranges.getD ri (0, 0)).2 - 65536 * ci)

/-- The image of table `t` becomes the ranger's latest taken (R300). -/
def State.tookImage (s : State) (r t : Nat) (res : List Resident) : State :=
  let latest := res.filter (fun e => !(e.table == t && e.image == s.imageOf t)) ++ [⟨t, s.tick, s.imageOf t⟩]
  { s with rng := { s.rng with resident := SMap.set (fun _ => []) s.rng.resident r latest } }

/-- The job's chunk is counted as taken, its image is the ranger's latest, and the thread holds `t`. -/
def State.withChunk (s : State) (r k : Nat) (j : ScanJob) (res : List Resident) (t : ScanThread) : State :=
  ((s.tookImage r j.image res).updJob j.id (fun q => { q with next := q.next + 1 })).setThread (4 * r + k) (some t)

theorem State.withChunk_effect {s : State} {j : ScanJob} (hjobs : s.rng.jobs = [j]) (r k : Nat) (res : List Resident) (t : ScanThread) :
    (s.withChunk r k j res t).thread (4 * r + k) = some t ∧
    (s.withChunk r k j res t).rng.jobs = [{ j with next := j.next + 1 }] ∧
    (∀ n, n ≠ 4 * r + k → (s.withChunk r k j res t).thread n = s.thread n) ∧ (s.withChunk r k j res t).mem = s.mem := by
  refine ⟨State.thread_setThread_same .., ?_, fun n hn => State.thread_setThread_other _ _ hn, rfl⟩
  rw [State.withChunk, State.setThread_jobs, State.updJob_jobs_single (s := s.tookImage r j.image res) hjobs]

theorem any_takes_below {s : State} {m : Nat} (h : ∀ n < m, s.takes n = none) :
    (List.range m).any (fun n => (s.takes n).isSome) = false := by
  simpa using h

section
variable {s : State} {r k : Nat} {j : ScanJob} {res : List Resident} {ri ci : Nat}
  (hfirst : ∀ n < 4 * r + k, s.takes n = none) (ht : s.takes (4 * r + k) = some (j, res))
  (hc : chunkAt j.ranges 0 j.next = some (ri, ci)) (hd : s.chunkInDomain j ri ci = true)
include hfirst ht hc hd

theorem State.chunkTake_taken :
    s.chunkTake r k = s.withChunk r k j res (s.chunkThread j ri ci
      (if s.hasImage res j.image then (s.loadingTill r j.image).getD s.tick else s.tick + Img.loadTicks (s.imageOf j.image) - 1)
      (if s.hasImage res j.image && (s.loadingTill r j.image).isNone then some (s.tick + 1) else none)) := by
  simp only [State.chunkTake, any_takes_below hfirst, ht, hc, Bool.false_eq_true, if_false]
  exact if_pos hd

theorem State.chunkTake_resident (himg : s.hasImage res j.image = true) (hidle : s.busyThreads r = []) :
    s.chunkTake r k = s.withChunk r k j res (s.chunkThread j ri ci s.tick (some (s.tick + 1))) := by
  rw [State.chunkTake_taken hfirst ht hc hd, State.loadingTill_idle hidle, himg]
  rfl

theorem State.chunkTake_loads (himg : s.hasImage res j.image = false) :
    s.chunkTake r k =
      s.withChunk r k j res (s.chunkThread j ri ci (s.tick + Img.loadTicks (s.imageOf j.image) - 1) none) := by
  rw [State.chunkTake_taken hfirst ht hc hd, himg]
  rfl

end

theorem State.chunkTake_none {s : State} {r k : Nat} (h : s.takes (4 * r + k) = none) : s.chunkTake r k = s := by
  rw [State.chunkTake, h]
  exact ite_self s

theorem State.chunkTake_notFirst {s : State} {r k n : Nat} (hn : n < 4 * r + k) (h : (s.takes n).isSome = true) :
    s.chunkTake r k = s :=
  if_pos (List.any_eq_true.mpr ⟨n, List.mem_range.mpr hn, h⟩)

theorem State.takes_none {s : State} {r k : Nat} (hk : k < 4)
    (h : (s.thread (4 * r + k)).isSome = true ∨ s.threadLimit ≤ ((s.busyThreads r).filter (fun t => !t.ended)).length ∨
      s.rng.jobs = []) : s.takes (4 * r + k) = none := by
  have hr : (4 * r + k) / 4 = r := by omega
  rw [State.takes, hr]
  rcases h with h | h | h
  · exact if_pos (by simp [h])
  · exact if_pos (by simp [h])
  · rw [h]
    exact ite_self none

/-! ### IMAGE_LOAD_DONE (R300) -/

theorem execImageLoadDone_due {r : Fin 32} {k : Fin 4} {t : ScanThread} {s : State} (hup : s.up = true)
    (ht : s.thread (4 * r.val + k.val) = some t) (hs : t.start = none) (hl : t.loadAt ≤ s.tick) :
    exec (.imageLoadDone r k) s = .next (s.setThread (4 * r.val + k.val) (some { t with start := some (s.tick + 1) })) := by
  rw [show exec (.imageLoadDone r k) s = execImageLoadDone r k s from rfl, execImageLoadDone, whileUp_of_up hup]
  simp only [ht]
  rw [State.when_true (by simp [hs, hl])]

theorem execImageLoadDone_idle {r : Fin 32} {k : Fin 4} {s : State}
    (h : ∀ t, s.thread (4 * r.val + k.val) = some t → s.tick < t.loadAt ∨ t.start.isSome = true) :
    exec (.imageLoadDone r k) s = .next s := by
  rw [show exec (.imageLoadDone r k) s = execImageLoadDone r k s from rfl, execImageLoadDone]
  refine whileUp_of_fixed ?_
  split
  next t ht =>
    refine State.when_false ?_ _
    rcases h t ht with h | h
    · simp [Nat.not_le.mpr h]
    · simp [Option.isNone_eq_false_iff.mpr h]
  · rfl

/-! ### CHUNK_END (R309, R322) -/

theorem exec_chunkEnd (r : Fin 32) (k : Fin 4) (s : State) :
    exec (.chunkEnd r k) s = whileUp s (fun s => s.chunkEnd (4 * r.val + k.val)) := rfl

section
variable {s : State} {n : Nat} {t : ScanThread} {j : ScanJob} (ht : s.thread n = some t) (hj : s.job? t.job = some j)
include ht hj

section
variable (he : t.ended = false) (hs : t.start.isSome = true) (hw : t.wEnd ≤ t.pos) (htodo : t.todo = []) (hstop : t.stop = none)
include he hs hw htodo hstop

theorem State.chunkEnd_marked (hm : j.marks = true) :
    s.chunkEnd n = (s.updJob j.id (fun q => { q with scanned := q.scanned + 1 })).setThread n
      (some { t with ended := true, buf := t.buf ++ [{ pos := t.matches_ + 1, kind := 4, off := t.c0 }] }) := by
  simp [State.chunkEnd, ht, hj, he, hw, htodo, hstop, hm, Option.isNone_eq_false_iff.mpr hs]

theorem State.chunkEnd_unmarked (hm : j.marks = false) :
    s.chunkEnd n = (s.updJob j.id (fun q => { q with scanned := q.scanned + 1 })).setThread n
      (if t.buf.isEmpty then none else some { t with ended := true }) := by
  simp [State.chunkEnd, ht, hj, he, hw, htodo, hstop, hm, Option.isNone_eq_false_iff.mpr hs]

end

theorem State.chunkEnd_early (h : t.ended = true ∨ t.start = none ∨ t.pos < t.wEnd ∨ t.todo ≠ []) : s.chunkEnd n = s := by
  simp only [State.chunkEnd, ht, hj]
  refine if_pos ?_
  rcases h with h | h | h | h <;> simp [h]

end

/-! ### REPORT_POST (R319 to R324) -/

theorem exec_reportPost (r : Fin 32) (k : Fin 4) (s : State) :
    exec (.reportPost r k) s = whileUp s (fun s => s.reportPost (4 * r.val + k.val)) := rfl

@[simp] theorem State.busWrite_tick (s : State) (host : Bool) (c a : Nat) (bs : List Byte) :
    (s.busWrite host c a bs).tick = s.tick := (State.busWrite_eff s host c a bs).same .tick rfl

section
variable {s u : State} {n : Nat} {t : ScanThread} {j : ScanJob} {e : RepEntry} {rest : List RepEntry}
  (hu : u = s.takeLookups n) (ht : u.thread n = some t) (hj : u.job? t.job = some j) (hb : t.buf = e :: rest)
include hu ht hj hb

theorem State.reportPost_posts (ha : e.await = false) (hrule : e.rule = none) (hroom : u.reportRoom j = true)
    (hc : (u.cx j.ctx).state ≠ 3) :
    s.reportPost n = (((u.busWrite j.ringHost j.ctx (j.ringBase + 32 * (j.posted % 2 ^ j.ringLog))
        (bytesOf 32 (reportBits j t e (j.posted / 2 ^ j.ringLog % 2 == 0)))).updJob j.id
          (fun q => { q with posted := q.posted + 1, lastPost := u.tick })).inc ⟨0x70300 + 8 * (n / 4), 0, 32⟩).setThread n
      (if t.ended && rest.isEmpty then none else some { t with buf := rest, posted := if e.kind ≤ 2 then t.posted + 1 else t.posted }) := by
  rw [State.reportPost, ← hu]
  simp [ht, hj, hb, ha, hrule, hroom, hc]

theorem State.reportPost_drops {i : Nat} {p : ScanRule} {o : Outc} (ha : e.await = false) (hrule : e.rule = some i)
    (hp : j.rules[i]? = some p) (ho : e.outc = some o) (hpost : postsReport p.post o = false) :
    s.reportPost n = u.setThread n (if t.ended && rest.isEmpty then none else some { t with buf := rest }) := by
  rw [State.reportPost, ← hu]
  simp [ht, hj, hb, ha, hrule, hp, ho, hpost]

theorem State.reportPost_awaits (ha : e.await = true) : s.reportPost n = u := by
  rw [State.reportPost, ← hu]
  simp [ht, hj, hb, ha]

theorem State.reportPost_blocked (hrule : e.rule = none) (h : u.reportRoom j = false ∨ (u.cx j.ctx).state = 3) :
    s.reportPost n = u := by
  rw [State.reportPost, ← hu]
  rcases h with h | h <;> simp [ht, hj, hb, hrule, h]

end

/-! ### JOB_COMPLETE (R330) -/

theorem exec_jobComplete (c : Id12) (n : BitVec 32) (s : State) :
    exec (.jobComplete c n) s = whileUp s (fun s => s.jobComplete c.val n.toNat) := rfl

/-- A thread works on, or still has reports of, the job. -/
def State.jobAtWork (s : State) (id : Nat) : Bool :=
  s.rng.threads.any (fun e => match e.2 with | some t => t.job == id | none => false)

theorem State.jobAtWork_of_thread {s : State} {e : Nat × Option ScanThread} {t : ScanThread} (he : e ∈ s.rng.threads)
    (ht : e.2 = some t) : s.jobAtWork t.job = true :=
  List.any_eq_true.mpr ⟨e, he, by simp [ht]⟩

theorem State.jobAtWork_idle {s : State} (h : ∀ e ∈ s.rng.threads, e.2 = none) (id : Nat) : s.jobAtWork id = false :=
  List.any_eq_false.mpr fun e he => by simp [h e he]

/-- The job has chunks or reports to come, or posted its last report in this tick (R330). -/
def State.jobOpen (s : State) (j : ScanJob) : Bool :=
  s.jobAtWork j.id || (j.next < j.total && !j.dropped) || (0 < j.posted && s.tick ≤ j.lastPost)

/-- The job leaves the rangers, and its request ends with its status and its counts. -/
def State.jobEnded (s : State) (c n : Nat) (j : ScanJob) : State :=
  let jobs := s.rng.jobs.filter (fun x => x.id != j.id)
  (({ s with rng := { s.rng with jobs := jobs } } : State).updCx c (·.updReq false n (fun r =>
    { (r.finish { status := (if j.dropped then St.contextDisabled else if j.skipped then St.privilege
        else if j.poison then St.poisoned else St.success) } s.tick) with
      body := some ((BitVec.ofNat 384 j.scanned) ||| ((BitVec.ofNat 384 j.posted) <<< 64) |||
        ((BitVec.ofNat 384 j.bytes) <<< 128) ||| ((BitVec.ofNat 384 s.tick) <<< 192)) }))).showJobs

theorem State.jobComplete_of_find {s : State} {c n : Nat} {j : ScanJob}
    (h : s.rng.jobs.find? (fun j => j.ctx == c && j.n == n) = some j) :
    s.jobComplete c n = if s.jobOpen j then s else s.jobEnded c n j := by
  rw [State.jobComplete, h]
  rfl

section
variable {s : State} {c n : Nat} {j : ScanJob} (hjobs : s.rng.jobs = [j])
include hjobs

theorem State.other_jobs_nil : s.rng.jobs.filter (fun x => x.id != j.id) = [] := by
  simp [hjobs]

theorem State.jobComplete_ends (hc : j.ctx = c) (hn : j.n = n) (hfree : ∀ e ∈ s.rng.threads, e.2 = none) (hnext : j.total ≤ j.next)
    (hpost : j.posted = 0 ∨ j.lastPost < s.tick) :
    s.jobComplete c n = s.jobEnded c n j := by
  have hopen : s.jobOpen j = false := by
    rcases hpost with h | h <;> simp [State.jobOpen, State.jobAtWork_idle hfree, hnext, h]
  rw [State.jobComplete_of_find (j := j) (by simp [hjobs, hc, hn]), hopen, if_neg Bool.false_ne_true]

theorem State.jobComplete_waits (h : (∃ e ∈ s.rng.threads, ∃ t, e.2 = some t ∧ t.job = j.id) ∨
      (j.next < j.total ∧ j.dropped = false) ∨ (0 < j.posted ∧ s.tick ≤ j.lastPost)) :
    s.jobComplete c n = s := by
  have hopen : s.jobOpen j = true := by
    rcases h with ⟨e, he, t, ht, hid⟩ | ⟨hnext, hdrop⟩ | ⟨hposted, htick⟩
    · simp [State.jobOpen, ← hid, State.jobAtWork_of_thread he ht]
    · simp [State.jobOpen, hnext, hdrop]
    · simp [State.jobOpen, hposted, htick]
  cases hf : s.rng.jobs.find? (fun j => j.ctx == c && j.n == n) with
  | none => rw [State.jobComplete, hf]
  | some q =>
    obtain rfl : q = j := by simpa [hjobs] using List.mem_of_find?_eq_some hf
    rw [State.jobComplete_of_find hf, if_pos hopen]

end

/-! ### RNG_ENABLE (R314) and REPORT_CONS (R324, 11 R380) -/

theorem exec_rngEnableWrite (who : Who) (m : BitVec 32) (s : State) : exec (.rngEnableWrite who m) s =
    whileUp s (fun s => s.when (s.mayBar0 who) (fun s => s.setF ⟨offRngEnable, 0, 32⟩ m.toNat)) := rfl

theorem exec_reportConsWrite (ld : LdId) (c : Id12) (i : Fin 4) (v : BitVec 32) (s : State) : exec (.reportConsWrite ld c i v) s =
    whileUp s (fun s => s.when ((s.cx c.val).assigned && (s.cx c.val).ldid == ld.val && (s.cx c.val).state == 1 && s.ldValid ld.val)
      (fun s => s.updCx c.val (fun x => { x with reportCons := setNum x.reportCons i.val v.toNat }))) := rfl

/-- Settles O51, a clause at a time from the equations of its commands. -/
theorem rangerCommandsAct : Obligations.RangerCommandsAct := by
  refine ⟨?_, ?_, ?_, ?_, ?_, ?_, ?_, ?_, ?_, ?_, ?_, ?_, ?_, ?_, ?_, ?_, ?_, ?_⟩
  · intro r k j res ri ci s hup hfatal hfirst ht hjobs himg hidle hc hd
    refine ⟨_, (exec_chunkTake r k s).trans (whileServing_of_up hup hfatal _), ?_⟩
    rw [State.chunkTake_resident hfirst ht hc hd himg hidle]
    exact State.withChunk_effect hjobs r.val k.val res _
  · intro r k j res ri ci s hup hfatal hfirst ht hjobs himg hc hd
    refine ⟨_, (exec_chunkTake r k s).trans (whileServing_of_up hup hfatal _), ?_⟩
    rw [State.chunkTake_loads hfirst ht hc hd himg]
    exact State.withChunk_effect hjobs r.val k.val res _
  · exact fun r k s h =>
      (exec_chunkTake r k s).trans (whileServing_of_fixed (State.chunkTake_none (State.takes_none k.isLt h)))
  · exact fun r k n s hn h => (exec_chunkTake r k s).trans (whileServing_of_fixed (State.chunkTake_notFirst hn h))
  · exact fun r k t s => execImageLoadDone_due
  · exact fun r k s => execImageLoadDone_idle
  · intro r k t j s hup ht hj he hs hw htodo hstop hm
    rw [exec_chunkEnd, whileUp_of_up hup, State.chunkEnd_marked ht hj he hs hw htodo hstop hm]
  · intro r k t j s hup ht hj he hs hw htodo hstop hm
    rw [exec_chunkEnd, whileUp_of_up hup, State.chunkEnd_unmarked ht hj he hs hw htodo hstop hm]
  · exact fun r k t j s ht hj h => (exec_chunkEnd r k s).trans (whileUp_of_fixed (State.chunkEnd_early ht hj h))
  · intro r k t j e rest s u hup hu ht hj hb ha hrule hroom hc
    have hr : (4 * r.val + k.val) / 4 = r.val := by omega
    rw [exec_reportPost, whileUp_of_up hup, State.reportPost_posts hu ht hj hb ha hrule hroom hc, hr]
  · intro r k t j e rest i p o s u hup hu ht hj hb ha hrule hp ho hpost
    rw [exec_reportPost, whileUp_of_up hup, State.reportPost_drops hu ht hj hb ha hrule hp ho hpost]
  · rintro r k t j e rest s u hup hu ht hj hb (ha | ⟨hrule, h⟩)
    · rw [exec_reportPost, whileUp_of_up hup, State.reportPost_awaits hu ht hj hb ha]
    · rw [exec_reportPost, whileUp_of_up hup, State.reportPost_blocked hu ht hj hb hrule h]
  · intro c n j s hup hjobs hc hn hfree hnext hpost
    rw [exec_jobComplete, whileUp_of_up hup, State.jobComplete_ends hjobs hc hn hfree hnext hpost,
      State.jobEnded, State.other_jobs_nil hjobs]
  · exact fun c n j s hjobs h => (exec_jobComplete c n s).trans (whileUp_of_fixed (State.jobComplete_waits hjobs h))
  · intro who m s hup hm
    rw [exec_rngEnableWrite, whileUp_of_up hup, State.when_true hm]
  · exact fun who m s hm => (exec_rngEnableWrite who m s).trans (whileUp_of_fixed (State.when_false hm _))
  · intro ld c i v s hup ha hl hst hv
    rw [exec_reportConsWrite, whileUp_of_up hup, State.when_true (by simp [ha, hl, hst, hv])]
  · intro ld c i v s h
    refine (exec_reportConsWrite ld c i v s).trans (whileUp_of_fixed (State.when_false ?_ _))
    rcases h with h | h <;> simp [h]

end Sys2Proof.Machine
end

section
/-! SUPPORT. Proofs. The device mailbox of an LD: information, event records, interrupt policy, timestamp (10 R359, R367). -/

set_option Elab.async false

namespace Sys2Proof.Machine

/-! ### Commands that firmware runs -/

theorem mboxCmd_of_running {s : State} (hup : s.up = true) (hmp : s.ras.mpRunning = true) (f : State → State) :
    mboxCmd s f = .next (f s) := by
  rw [mboxCmd, whileUp_of_up hup, State.when_true hmp]

theorem mboxCmd_of_stopped {s : State} (hmp : s.ras.mpRunning = false) (f : State → State) : mboxCmd s f = .next s :=
  whileUp_of_fixed (State.when_false hmp f)

theorem State.ld_updLd_other (s : State) {n m : Nat} (f : Ld → Ld) (h : m ≠ n) : (s.updLd n f).ld m = s.ld m := by
  rw [State.updLd, State.ld_setLd, if_neg h]

/-! ### Information commands, event records, interrupt policy and timestamp (R359, R367) -/

theorem exec_getEventRecords (ld : LdId) (log : Fin 5) (s : State) :
    exec (.getEventRecords ld log) s = mboxCmd s (fun s =>
      s.mboxAns ld.val 0x0100 rcSuccess (leBytes 2 (num (s.ld ld.val).logOverflow log.val) ++
        if log.val = 4 then (s.ld ld.val).dcLog.flatMap (fun e => leBytes 1 e.1 ++ leBytes 8 e.2.1 ++ leBytes 8 e.2.2)
        else (SMap.get (fun _ => []) (s.ld ld.val).logs log.val).flatMap (s.ld ld.val).evtBytes)) := rfl

/-- The oldest `n` records of a log are gone, and its overflow count is 0. -/
def Ld.clearLog (l : Ld) (log n : Nat) : Ld :=
  if log = 4 then { l with dcLog := l.dcLog.drop n, logOverflow := setNum l.logOverflow log 0 }
  else { l with logs := SMap.set (fun _ => []) l.logs log ((SMap.get (fun _ => []) l.logs log).drop n),
                logOverflow := setNum l.logOverflow log 0 }

theorem exec_clearEventRecords (ld : LdId) (log : Fin 5) (n : Nat) (s : State) :
    exec (.clearEventRecords ld log n) s =
      mboxCmd s (fun s => (s.updLd ld.val (·.clearLog log.val n)).mboxAns ld.val 0x0101 rcSuccess) := rfl

theorem execClearEventRecords_runs {ld : LdId} {log : Fin 5} {n : Nat} {s : State} (hup : s.up = true)
    (hmp : s.ras.mpRunning = true) :
    Runs (.clearEventRecords ld log n) s (fun t => t.ld ld.val = (s.ld ld.val).clearLog log.val n ∧
      (∀ m, m ≠ ld.val → t.ld m = s.ld m) ∧ t.sent = s.sent ++ [.mbox ld.val 0x0101 rcSuccess []]) := by
  refine ⟨_, (exec_clearEventRecords ld log n s).trans (mboxCmd_of_running hup hmp _), ?_, fun m hm => ?_, ?_⟩
  · rw [State.mboxAns_ld, State.ld_updLd_same]
  · rw [State.mboxAns_ld, State.ld_updLd_other s _ hm]
  · rw [State.mboxAns_sent, State.updLd_sent]

theorem Ld.clearLog_dc (l : Ld) (n : Nat) :
    (l.clearLog 4 n).dcLog = l.dcLog.drop n ∧ (l.clearLog 4 n).logs = l.logs := ⟨rfl, rfl⟩

theorem Ld.clearLog_evt (l : Ld) {log : Nat} (n : Nat) (h : log ≠ 4) :
    (l.clearLog log n).logs = SMap.set (fun _ => []) l.logs log ((SMap.get (fun _ => []) l.logs log).drop n) ∧
      (l.clearLog log n).dcLog = l.dcLog := by
  simp [Ld.clearLog, h]

theorem exec_setTimestamp (ld : LdId) (ns : BitVec 64) (s : State) :
    exec (.setTimestamp ld ns) s = mboxCmd s (fun s =>
      (s.updLd ld.val (fun l => { l with tsBase := ns.toNat, tsTick := s.tick })).mboxAns ld.val 0x0301 rcSuccess) := rfl

theorem State.stampNs_set (s : State) (n ns : Nat) :
    (s.updLd n (fun l => { l with tsBase := ns, tsTick := s.tick })).stampNs n = ns := by
  simp [State.stampNs]

/-- Settles O26: each command's meaning is its answer, and clearing and setting change the LD's record only. -/
theorem mailboxInformationCommandsAct : Obligations.MailboxInformationCommandsAct := by
  refine ⟨?_, ?_, ?_, ?_, ?_, ?_, ?_, ?_, ?_, ?_, ?_, ?_, ?_, ?_, ?_⟩
  · exact fun ld s hup hmp => mboxCmd_of_running hup hmp _
  · exact fun ld s hup hmp => mboxCmd_of_running hup hmp _
  · exact fun ld s hup hmp => mboxCmd_of_running hup hmp _
  · intro ld log s hup hmp hlog
    rw [exec_getEventRecords, mboxCmd_of_running hup hmp, if_neg hlog]
  · exact fun ld s hup hmp => (exec_getEventRecords ld 4 s).trans (mboxCmd_of_running hup hmp _)
  · intro ld n s hup hmp
    obtain ⟨t, ht, hld, hrest, hsent⟩ := execClearEventRecords_runs (ld := ld) (log := 4) (n := n) hup hmp
    obtain ⟨hdc, hlogs⟩ := (s.ld ld.val).clearLog_dc n
    exact ⟨t, ht, by rw [hld]; exact hdc, by rw [hld]; exact hlogs, hrest, hsent⟩
  · intro ld log n s hup hmp hlog
    obtain ⟨t, ht, hld, hrest, hsent⟩ := execClearEventRecords_runs (ld := ld) (log := log) (n := n) hup hmp
    obtain ⟨hlogs, hdc⟩ := (s.ld ld.val).clearLog_evt n hlog
    exact ⟨t, ht, hld ▸ hlogs, hld ▸ hdc, hrest, hsent⟩
  · exact fun ld s hup hmp => mboxCmd_of_running hup hmp _
  · exact fun ld p s hup hmp => mboxCmd_of_running hup hmp _
  · exact fun ld s hup hmp => mboxCmd_of_running hup hmp _
  · intro ld ns s hup hmp
    refine ⟨_, (exec_setTimestamp ld ns s).trans (mboxCmd_of_running hup hmp _), State.stampNs_set s ld.val ns.toNat, rfl,
      fun m hm => ?_⟩
    rw [State.mboxAns_ld, State.ld_updLd_other s _ hm]
  · exact fun ld s hup hmp => ⟨_, mboxCmd_of_running hup hmp _, _, _, rfl⟩
  · exact fun ld s hup hmp => mboxCmd_of_running hup hmp _
  · exact fun ld code s hup hmp => mboxCmd_of_running hup hmp _
  · exact fun ld ns s hmp => (exec_setTimestamp ld ns s).trans (mboxCmd_of_stopped hmp _)

end Sys2Proof.Machine
end

section
/-! SUPPORT. Proofs. The poison list and dynamic capacity (10 R352 to R354, R359, R368). -/

set_option Elab.async false

namespace Sys2Proof.Machine

/-! ### The poison list (R359, R368) -/

theorem exec_getPoisonList (ld : LdId) (s : State) : exec (.getPoisonList ld) s = mboxCmd s (fun s =>
    s.mboxAns ld.val 0x4300 rcSuccess (leBytes 1 (if (s.ld ld.val).poisonOvf.isSome then 1 else 0) ++
      leBytes 8 (match (s.ld ld.val).poisonOvf with
        | some t => (s.ld ld.val).tsBase + 2 * (t - (s.ld ld.val).tsTick)
        | none => 0) ++
      leBytes 2 (s.ld ld.val).poison.length ++ (s.ld ld.val).poison.flatMap (leBytes 8))) := rfl

theorem exec_injectPoison (ld : LdId) (o : BitVec 64) (s : State) : exec (.injectPoison ld o) s = mboxCmd s (fun s =>
    if s.f (ldInj ld.val) = 0 then s.mboxAns ld.val 0x4301 rcUnsupported
    else match (s.ld ld.val).dpaOf o.toNat with
    | some d => (s.poisonLine (d / 64 * 64)).mboxAns ld.val 0x4301 rcSuccess
    | none => s.mboxAns ld.val 0x4301 rcInvalidInput) := rfl

theorem exec_clearPoison (ld : LdId) (o : BitVec 64) (x : Line) (s : State) : exec (.clearPoison ld o x) s = mboxCmd s (fun s =>
    if s.f (ldInj ld.val) = 0 then s.mboxAns ld.val 0x4302 rcUnsupported
    else match (s.ld ld.val).dpaOf o.toNat with
    | some d =>
      (((s.deviceLine 2 ld.val (d / 64 * 64) x (BitVec.allOnes 64)).setPoison d false).dropPoison d).mboxAns ld.val 0x4302 rcSuccess
    | none => s.mboxAns ld.val 0x4302 rcInvalidInput) := rfl

/-! ### Offers and the segment map (R353) -/

theorem exec_addDynamicCapacityResponse (ld : LdId) (l : List (BitVec 64)) (s : State) :
    exec (.addDynamicCapacityResponse ld l) s = mboxCmd s (fun s =>
      if !l.all (fun a => (s.ld ld.val).offers.any (fun g => a.toNat == g.off)) then s.mboxAns ld.val 0x4802 rcInvalidInput
      else ((s.updLd ld.val (fun l => { l with offers := [] })).mapSegs ld.val
        ((s.ld ld.val).offers.filter (fun g => l.any (fun a => a.toNat == g.off)))).mboxAns ld.val 0x4802 rcSuccess) := rfl

/-- Every unit of the segments is covered by the placement table. -/
def State.coverSegs (s : State) (gs : List Seg) : State :=
  gs.foldl (fun s g => (List.range (g.len / unit256)).foldl (fun s i => s.coverUnit (g.dpa / unit256 + i)) s) s

theorem State.coverSegs_eff (s : State) (gs : List Seg) : Eff 1024 s (s.coverSegs gs) :=
  Eff.foldl Eff.refl fun _ _ h => Eff.foldl h fun t _ k => k.then (State.coverUnit_eff t _) rfl

theorem State.mapSegs_covers (s : State) (n : Nat) (gs : List Seg) :
    s.mapSegs n gs = (s.updLd n (fun l => { l with segs := l.segs ++ gs })).coverSegs gs := rfl

@[simp] theorem State.mapSegs_sent (s : State) (n : Nat) (gs : List Seg) : (s.mapSegs n gs).sent = s.sent :=
  (State.mapSegs_eff s n gs).same .sent rfl

theorem State.mapSegs_ld (s : State) (n : Nat) (gs : List Seg) (m : Nat) :
    (s.mapSegs n gs).ld m = (s.updLd n (fun l => { l with segs := l.segs ++ gs })).ld m :=
  State.ld_congr ((State.coverSegs_eff _ gs).same .lds rfl) m

theorem State.mapSegs_ld_same (s : State) (n : Nat) (gs : List Seg) :
    (s.mapSegs n gs).ld n = { s.ld n with segs := (s.ld n).segs ++ gs } := by
  rw [State.mapSegs_ld, State.ld_updLd_same]

theorem State.mapSegs_ld_other (s : State) {n m : Nat} (gs : List Seg) (h : m ≠ n) : (s.mapSegs n gs).ld m = s.ld m := by
  rw [State.mapSegs_ld, State.ld_updLd_other _ _ h]

theorem exec_initiateDcAdd (ld : LdId) (r : Fin 8) (n : BitVec 64) (s : State) :
    exec (.initiateDcAdd ld r n) s = mboxCmd s (fun s =>
      if n.toNat % unit256 != 0 || n.toNat / unit256 = 0 || (s.ld ld.val).regions.all (fun e => e.1 != r.val) then
        s.fmAns 0x5604 rcInvalidInput
      else if s.allocatable < n.toNat / unit256 then s.fmAns 0x5604 rcResources
      else match s.offer ld.val r.val (n.toNat / unit256) 1 with
      | some s => s.fmAns 0x5604 rcSuccess
      | none => s.fmAns 0x5604 rcResources) := rfl

/-- A well-formed add is answered by what the offer gives. -/
theorem execInitiateDcAdd_answers {ld : LdId} {r : Fin 8} {n : BitVec 64} {s : State} (hup : s.up = true)
    (hmp : s.ras.mpRunning = true) (hn : n.toNat % unit256 = 0) (hz : n.toNat / unit256 ≠ 0)
    (hr : (s.ld ld.val).regions.all (fun e => e.1 != r.val) = false) :
    exec (.initiateDcAdd ld r n) s = .next (
      if s.allocatable < n.toNat / unit256 then s.fmAns 0x5604 rcResources
      else match s.offer ld.val r.val (n.toNat / unit256) 1 with
      | some s => s.fmAns 0x5604 rcSuccess
      | none => s.fmAns 0x5604 rcResources) := by
  rw [exec_initiateDcAdd, mboxCmd_of_running hup hmp, if_neg (by simp [hn, hz, hr])]

/-! ### Regions and releases (R352, R354) -/

theorem exec_setDcRegionConfig (ld : LdId) (r : Fin 8) (b n : BitVec 64) (s : State) :
    exec (.setDcRegionConfig ld r b n) s = mboxCmd s (fun s =>
      if b.toNat % unit256 != 0 || n.toNat % unit256 != 0 || runsMeet b.toNat n.toNat 0 (s.ld ld.val).static ||
        (s.ld ld.val).regions.any (fun e => e.1 != r.val && runsMeet b.toNat n.toNat e.2.1 e.2.2) ||
        (s.ld ld.val).segs.any (fun g => g.kind == 2 && runsMeet b.toNat n.toNat g.off g.len)
      then s.fmAns 0x5602 rcInvalidInput
      else (s.updLd ld.val (fun l =>
        { l with regions := SMap.set (fun _ => (0, 0)) l.regions r.val (b.toNat, n.toNat) })).fmAns 0x5602 rcSuccess) := rfl

theorem exec_releaseDynamicCapacity (ld : LdId) (o : BitVec 64) (s : State) :
    exec (.releaseDynamicCapacity ld o) s = mboxCmd s (fun s =>
      if (s.ld ld.val).segs.any (fun g => g.off == o.toNat && (g.kind == 1 || g.kind == 3)) then
        (s.releaseStep ld.val o.toNat).mboxAns ld.val 0x4803 rcSuccess
      else s.mboxAns ld.val 0x4803 rcInvalidInput) := rfl

/-- An extent that no directory entry covers leaves the segment map at once. -/
theorem State.releaseStep_uncovered {s : State} {n off : Nat} {g : Seg}
    (hg : (s.ld n).segs.find? (fun x => x.off == off) = some g) (hd : s.dirCovers g = []) :
    s.releaseStep n off = s.unmapSeg n g := by
  rw [State.releaseStep, hg]
  simp only [hd, List.isEmpty_nil, if_true]

theorem exec_initiateDcRelease (ld : LdId) (o : BitVec 64) (forced : Bool) (s : State) :
    exec (.initiateDcRelease ld o forced) s = mboxCmd s (fun s =>
      match (s.ld ld.val).segs.find? (fun g => g.off == o.toNat && (g.kind == 1 || g.kind == 3)) with
      | none => s.fmAns 0x5605 rcInvalidInput
      | some g =>
        if forced then ((s.dcEvent ld.val 2 g.off g.len).releaseStep ld.val g.off).fmAns 0x5605 rcSuccess
        else (s.askRelease ld.val g.off g.len).fmAns 0x5605 rcSuccess) := rfl

/-- Settles O27: each clause is the branch of its command's equation that the hypotheses select. -/
theorem poisonAndDynamicCapacityCommandsAct : Obligations.PoisonAndDynamicCapacityCommandsAct := by
  refine ⟨?_, ?_, ?_, ?_, ?_, ?_, ?_, ?_, ?_, ?_, ?_, ?_, ?_, ?_, ?_⟩
  · intro ld s hup hmp hovf
    rw [exec_getPoisonList, mboxCmd_of_running hup hmp, hovf]
    rfl
  · intro ld k s hup hmp hovf
    rw [exec_getPoisonList, mboxCmd_of_running hup hmp, hovf]
    rfl
  · intro ld o d s hup hmp hinj hd
    rw [exec_injectPoison, mboxCmd_of_running hup hmp, if_neg (by simp [hinj]), hd]
  · intro ld o d x s hup hmp hinj hd
    rw [exec_clearPoison, mboxCmd_of_running hup hmp, if_neg (by simp [hinj]), hd]
  · intro ld o x s hup hmp hinj
    constructor
    · rw [exec_injectPoison, mboxCmd_of_running hup hmp, if_pos hinj]
    · rw [exec_clearPoison, mboxCmd_of_running hup hmp, if_pos hinj]
  · intro ld o x s hup hmp hinj hd
    constructor
    · rw [exec_injectPoison, mboxCmd_of_running hup hmp, if_neg (by simp [hinj]), hd]
    · rw [exec_clearPoison, mboxCmd_of_running hup hmp, if_neg (by simp [hinj]), hd]
  · exact fun ld s hup hmp => mboxCmd_of_running hup hmp _
  · exact fun ld s hup hmp => mboxCmd_of_running hup hmp _
  · intro ld l s hup hmp hknown
    refine ⟨_, (exec_addDynamicCapacityResponse ld l s).trans (mboxCmd_of_running hup hmp _), ?_⟩
    rw [hknown, if_neg (by simp)]
    refine ⟨?_, ?_, fun m hm => ?_, ?_⟩
    · rw [State.mboxAns_ld, State.mapSegs_ld_same, State.ld_updLd_same]
    · rw [State.mboxAns_ld, State.mapSegs_ld_same, State.ld_updLd_same]
    · rw [State.mboxAns_ld, State.mapSegs_ld_other _ _ hm, State.ld_updLd_other _ _ hm]
    · rw [State.mboxAns_sent, State.mapSegs_sent, State.updLd_sent]
  · intro ld l s hup hmp hunknown
    rw [exec_addDynamicCapacityResponse, mboxCmd_of_running hup hmp, hunknown, if_pos (by simp)]
  · intro ld o g s hup hmp hg hk hd
    have hoff : g.off = o.toNat := by simpa using List.find?_some hg
    have hany : (s.ld ld.val).segs.any (fun g => g.off == o.toNat && (g.kind == 1 || g.kind == 3)) = true :=
      List.any_eq_true.mpr ⟨g, List.mem_of_find?_eq_some hg, by simpa [hoff] using hk⟩
    rw [exec_releaseDynamicCapacity, mboxCmd_of_running hup hmp, if_pos hany, State.releaseStep_uncovered hg hd]
  · intro ld r b n s hup hmp hb hn hst hreg hwin
    have hregs : (s.ld ld.val).regions.any (fun e => e.1 != r.val && runsMeet b.toNat n.toNat e.2.1 e.2.2) = false := by
      rw [List.any_eq_false]
      intro e he
      rcases hreg e he with h | h <;> simp [h]
    have hwins : (s.ld ld.val).segs.any (fun g => g.kind == 2 && runsMeet b.toNat n.toNat g.off g.len) = false := by
      rw [List.any_eq_false]
      intro g hg
      by_cases hk : g.kind = 2
      · simp [hwin g hg hk]
      · simp [hk]
    rw [exec_setDcRegionConfig, mboxCmd_of_running hup hmp, if_neg (by simp [hb, hn, hst, hregs, hwins])]
  · intro ld r n t s hup hmp hn hz hr hroom hoff
    rw [execInitiateDcAdd_answers hup hmp hn hz hr, if_neg (Nat.not_lt.mpr hroom), hoff]
  · intro ld r n s hup hmp hn hz hr h
    rw [execInitiateDcAdd_answers hup hmp hn hz hr]
    rcases h with hfull | hoff
    · rw [if_pos hfull]
    · rw [hoff, ite_self]
  · intro ld o g s hup hmp hg
    constructor
    · rw [exec_initiateDcRelease, mboxCmd_of_running hup hmp, hg]
      rfl
    · rw [exec_initiateDcRelease, mboxCmd_of_running hup hmp, hg]
      rfl

end Sys2Proof.Machine
end

section
/-! SUPPORT. Proofs. The FM API: allocations, binding, bandwidth shares, owner commands (10 R340, R363 to R366; 13 R481 to R484). -/

set_option Elab.async false

namespace Sys2Proof.Machine

/-! ### Allocations (R340) -/

/-- The segments that raise a static allocation from `cur` to `n` units: the lowest free units, behind the present ones. -/
def State.raiseSegs (s : State) (cur n : Nat) : List Seg :=
  mkSegs 0 (((List.range (n - cur)).map (fun i => (cur + i) * unit256)).zip (s.freeUnits (n - cur)))

/-- The offsets of the raise meet what the LD holds there already. -/
def Ld.raiseClash (l : Ld) (cur n : Nat) : Bool :=
  l.segs.any (fun g => g.kind != 0 && runsMeet (cur * unit256) ((n - cur) * unit256) g.off g.len) ||
    l.regions.any (fun e => runsMeet (cur * unit256) ((n - cur) * unit256) e.2.1 e.2.2)

theorem State.setAlloc_raise {s : State} {ld n cur : Nat} (hcur : (s.ld ld).static / unit256 = cur) (hn : cur ≤ n) :
    s.setAlloc ld n =
      if (s.ld ld).raiseClash cur n then (rcInvalidInput, s)
      else if (s.freeUnits (n - cur)).length < n - cur || s.allocatable < n - cur ||
        1024 < (s.ld ld).segs.length + (s.raiseSegs cur n).length then (rcResources, s)
      else (rcSuccess, s.mapSegs ld (s.raiseSegs cur n)) := by
  subst hcur
  exact if_neg (Nat.not_lt.mpr hn)

theorem Ld.raiseClash_eq_false {l : Ld} {cur n : Nat}
    (hseg : ∀ g ∈ l.segs, g.kind ≠ 0 → runsMeet (cur * unit256) ((n - cur) * unit256) g.off g.len = false)
    (hreg : ∀ e ∈ l.regions, runsMeet (cur * unit256) ((n - cur) * unit256) e.2.1 e.2.2 = false) :
    l.raiseClash cur n = false := by
  rw [Ld.raiseClash, Bool.or_eq_false_iff, List.any_eq_false, List.any_eq_false]
  refine ⟨fun g hg => ?_, fun e he => by simp [hreg e he]⟩
  by_cases hk : g.kind = 0
  · simp [hk]
  · simp [hseg g hg hk]

theorem Ld.raiseClash_of_seg {l : Ld} {cur n : Nat} {g : Seg} (hg : g ∈ l.segs) (hk : g.kind ≠ 0)
    (hm : runsMeet (cur * unit256) ((n - cur) * unit256) g.off g.len = true) : l.raiseClash cur n = true := by
  rw [Ld.raiseClash, Bool.or_eq_true, List.any_eq_true]
  exact .inl ⟨g, hg, by simp [hk, hm]⟩

theorem exec_setLdAllocations (ld : LdId) (n : BitVec 16) (s : State) : exec (.setLdAllocations ld n) s = mboxCmd s (fun s =>
    (s.setAlloc ld.val n.toNat).2.fmAns 0x5402 (s.setAlloc ld.val n.toNat).1
      (leBytes 8 (((s.setAlloc ld.val n.toNat).2.ld ld.val).static / unit256))) := rfl

/-! ### Binding (11 R411, 13 R484, 18 R625) -/

theorem exec_bindLd (ld : LdId) (s : State) : exec (.bindLd ld) s = mboxCmd s (fun s =>
    if s.f (ldBound ld.val) = 1 then s.fmAns 0x5201 rcSuccess
    else if s.f (fQMin ld.val) != 0 && decide (s.qosU < s.qosS + s.f (fQMin ld.val)) then s.fmAns 0x5201 rcInvalidInput
    else ((s.setF (ldBound ld.val) 1).qosUpdate).fmAns 0x5201 rcSuccess) := rfl

/-- The mailbox claim of an LD ends, or is pending while its command is with firmware (18 R625). -/
def State.freeMbox (s : State) (ld : LdId) : State :=
  if s.mbox.holder = some ld then
    if s.mbox.arrived.isSome then { s with mbox := { s.mbox with releasePending := true } }
    else { s with mbox := { s.mbox with holder := none } }
  else s

theorem State.freeMbox_eff (s : State) (ld : LdId) : Eff 536870912 s (s.freeMbox ld) :=
  Eff.ite (Eff.ite (upd_mbox _ _) (upd_mbox _ _)) Eff.refl

theorem State.freeMbox_other {s : State} {ld : LdId} (h : s.mbox.holder ≠ some ld) : s.freeMbox ld = s := if_neg h

theorem State.freeMbox_held {s : State} {ld : LdId} (hh : s.mbox.holder = some ld) (ha : s.mbox.arrived = none) :
    (s.freeMbox ld).mbox.holder = none := by
  rw [State.freeMbox, if_pos hh, ha]
  rfl

@[simp] theorem State.drainLd_regs (s : State) (n r) : (s.drainLd n r).regs = s.regs := (State.drainLd_eff s n r).same .regs rfl
@[simp] theorem State.drainLd_mbox (s : State) (n r) : (s.drainLd n r).mbox = s.mbox := (State.drainLd_eff s n r).same .mbox rfl
@[simp] theorem State.qosUpdate_mbox (s : State) : s.qosUpdate.mbox = s.mbox := (State.qosUpdate_eff s).same .mbox rfl

/-- Recomputing the shares writes the registers of the shares, and those of its events. -/
theorem State.reg_qosUpdate (s : State) {o : Nat} (h : o < 0x2f0108 ∨ 0x2f0300 ≤ o) (he : ¬ evtReg o) :
    s.qosUpdate.reg o = s.reg o := by
  have h100 : o ≠ 0x100 := fun e => he (.inl e)
  have hshares : ∀ u v, ((List.range 32).foldl (fun (s : State) i => s.setF (fQEff i) (effMin (s.f (fQMin i)) v u))
      ((s.setF fU u).setF fS v)).reg o = s.reg o := fun u v => by
    refine List.foldlRecOn (motive := fun t : State => t.reg o = s.reg o) _ _ ?_ fun t ht i hi => ?_
    · rw [State.reg_setF_other _ _ _ _ (by dsimp only; omega), State.reg_setF_other _ _ _ _ (by dsimp only; omega)]
    · have hi : i < 32 := List.mem_range.mp hi
      rw [State.reg_setF_other _ _ _ _ (by dsimp only; omega), ht]
  rw [State.qosUpdate]
  split
  · rw [State.reg_raise _ _ _ _ _ he, State.reg_setIrq _ _ _ h100, State.reg_setF_other _ _ _ _ (by dsimp only; omega), hshares]
  · split
    · rw [State.reg_raise _ _ _ _ _ he, State.reg_setIrq _ _ _ h100, State.reg_setF_other _ _ _ _ (by dsimp only; omega), hshares]
    · rw [hshares]

/-- An LD that is unbound: its contexts drain, and the shares are recomputed without it. -/
def State.unbound (s : State) (n : Nat) : State := ((s.setF (ldBound n) 0).drainLd n false).qosUpdate

theorem exec_unbindLd (ld : LdId) (s : State) : exec (.unbindLd ld) s =
    mboxCmd s (fun s => ((s.unbound ld.val).freeMbox ld).fmAns 0x5202 rcSuccess) := rfl

theorem State.unbound_mbox (s : State) (n : Nat) : (s.unbound n).mbox = s.mbox := by
  rw [State.unbound, State.qosUpdate_mbox, State.drainLd_mbox, State.setF_mbox]

theorem State.unbound_bound (s : State) {n : Nat} (h : n < 32) : (s.unbound n).f (ldBound n) = 0 := by
  have hq : (s.unbound n).f (ldBound n) = ((s.setF (ldBound n) 0).drainLd n false).f (ldBound n) := by
    rw [State.f, State.f, State.unbound, State.reg_qosUpdate]
    · simp only [offLdCtrl]; omega
    · simp only [evtReg, offLdCtrl]; omega
  rw [hq, State.f_congr (State.drainLd_regs _ _ _), State.f_setF_same _ _ _ (by simp) (by simp)]

/-! ### Bandwidth shares (R363, 13 R481, R484) -/

theorem exec_setQosAllocatedBw (ld : LdId) (m : Byte) (s : State) : exec (.setQosAllocatedBw ld m) s = mboxCmd s (fun s =>
    if s.qosU < (s.setF (fQMin ld.val) m.toNat).qosS then s.fmAns 0x5407 rcInvalidInput
    else ((s.setF (fQMin ld.val) m.toNat).qosUpdate).fmAns 0x5407 rcSuccess) := rfl

theorem exec_setQosBwLimit (ld : LdId) (c : Byte) (s : State) : exec (.setQosBwLimit ld c) s =
    mboxCmd s (fun s => (s.setF (fQCap ld.val) c.toNat).fmAns 0x5409 rcSuccess) := rfl

theorem exec_fmApiOtherCommand (c : BitVec 16) (s : State) : exec (.fmApiOtherCommand c) s = mboxCmd s (fun s =>
    if fmSupported c.toNat then s.fmAns c.toNat rcSuccess (s.fmReport c.toNat) else s.fmAns c.toNat rcUnsupported) := rfl

/-! ### Owner commands over the FM API (R365, R366) -/

/-- The header of an owner command is one that R366 accepts. -/
def ownerHeaderOk (p : List Byte) : Prop := le p 0 2 = 0x4149 ∧ le p 2 1 = 1 ∧ le p 3 1 = 0 ∧ le p 6 2 ≤ 1024

theorem exec_fmApiOwnerCommand (p : List Byte) (b : Bool) (s : State) :
    exec (.fmApiOwnerCommand p b) s = whileUp s (fun s =>
      if le p 0 2 != 0x4149 || le p 2 1 != 1 || le p 3 1 != 0 || 1024 < le p 6 2 then s.fmAns 0xC820 rcInvalidInput
      else if p.length != 8 + le p 6 2 then s.fmAns 0xC820 rcPayloadLength
      else if 16 ≤ s.mbox.fm.length then s.fmAns 0xC820 rcBusy
      else { s with mbox := { s.mbox with fm := s.mbox.fm ++ [(p, b, s.tick)] } }) := rfl

theorem execFmApiOwnerCommand_good {p : List Byte} (b : Bool) {s : State} (hup : s.up = true) (hp : ownerHeaderOk p) :
    exec (.fmApiOwnerCommand p b) s = .next (
      if p.length != 8 + le p 6 2 then s.fmAns 0xC820 rcPayloadLength
      else if 16 ≤ s.mbox.fm.length then s.fmAns 0xC820 rcBusy
      else { s with mbox := { s.mbox with fm := s.mbox.fm ++ [(p, b, s.tick)] } }) := by
  obtain ⟨hsig, hver, hflags, hlen⟩ := hp
  rw [exec_fmApiOwnerCommand, whileUp_of_up hup, if_neg (by simp [hsig, hver, hflags, hlen])]

/-- Settles O28: each clause is the branch of its command's equation that the hypotheses select; unbinding leaves BOUND 0, as
neither draining nor the shares write that register. -/
theorem fmApiCommandsAct : Obligations.FmApiCommandsAct := by
  refine ⟨?_, ?_, ?_, ?_, ?_, ?_, ?_, ?_, ?_, ?_, ?_, ?_, ?_, ?_, ?_, ?_⟩
  · intro ld n cur s hup hmp hcur hn hseg hreg hunits hroom hmap
    have hfit : (s.ld ld.val).segs.length + (s.raiseSegs cur n.toNat).length ≤ 1024 := hmap
    have hraise : s.setAlloc ld.val n.toNat = (rcSuccess, s.mapSegs ld.val (s.raiseSegs cur n.toNat)) := by
      rw [State.setAlloc_raise hcur hn, Ld.raiseClash_eq_false hseg hreg, if_neg Bool.false_ne_true,
        if_neg (by simp only [Bool.or_eq_true, decide_eq_true_eq]; omega)]
    refine ⟨_, (exec_setLdAllocations ld n s).trans (mboxCmd_of_running hup hmp _), ?_⟩
    rw [hraise]
    refine ⟨?_, fun m hm => ?_, ?_⟩
    · rw [State.fmAns_ld, State.mapSegs_ld_same, State.raiseSegs]
    · rw [State.fmAns_ld, State.mapSegs_ld_other _ _ hm]
    · rw [State.fmAns_sent, State.mapSegs_sent, State.fmAns_ld]
  · intro ld n g s hup hmp hn hg hk hm
    rw [exec_setLdAllocations, mboxCmd_of_running hup hmp, State.setAlloc_raise rfl hn,
      if_pos (Ld.raiseClash_of_seg hg hk hm)]
  · intro ld s hup hmp hb hroom
    rw [exec_bindLd, mboxCmd_of_running hup hmp, if_neg (by simp [hb]), if_neg (by simpa using or_iff_not_imp_left.mp hroom)]
  · intro ld s hup hmp hb hm hfull
    rw [exec_bindLd, mboxCmd_of_running hup hmp, if_neg (by simp [hb]), if_pos (by simp [hm, hfull])]
  · intro ld s hup hmp hh
    refine ⟨_, (exec_unbindLd ld s).trans (mboxCmd_of_running hup hmp _), ?_⟩
    rw [State.freeMbox_other (by rwa [State.unbound_mbox])]
    exact ⟨rfl, by rw [State.fmAns_f, State.unbound_bound s ld.isLt]⟩
  · intro ld s hup hmp hh ha
    refine ⟨_, (exec_unbindLd ld s).trans (mboxCmd_of_running hup hmp _), ?_, ?_⟩
    · rw [State.fmAns_mbox, State.freeMbox_held] <;> rwa [State.unbound_mbox]
    · rw [State.fmAns_f, State.f_congr ((State.freeMbox_eff _ ld).same .regs rfl), State.unbound_bound s ld.isLt]
  · intro ld m s hup hmp h
    rw [exec_setQosAllocatedBw, mboxCmd_of_running hup hmp, if_neg (Nat.not_lt.mpr h)]
  · intro ld m s hup hmp h
    rw [exec_setQosAllocatedBw, mboxCmd_of_running hup hmp, if_pos h]
  · intro ld c s hup hmp
    refine ⟨_, (exec_setQosBwLimit ld c s).trans (mboxCmd_of_running hup hmp _), ?_, ?_, fun o ho => ?_⟩
    · rw [State.fmAns_f, State.f_setF_same _ _ _ (by simp) c.isLt]
    · rw [State.fmAns_f, State.f_setF_field _ (fQCap ld.val) (fQMin ld.val) _ rfl (by simp) (by simp) (by simp)]
    · rw [State.fmAns_reg, State.reg_setF_other _ _ _ _ ho]
  · exact fun a b c s hup hmp => mboxCmd_of_running hup hmp _
  · exact fun s hup hmp => mboxCmd_of_running hup hmp _
  · intro c s hup hmp hc
    rw [exec_fmApiOtherCommand, mboxCmd_of_running hup hmp, if_pos hc]
  · intro c s hup hmp hc
    rw [exec_fmApiOtherCommand, mboxCmd_of_running hup hmp, if_neg (by simp [hc])]
  · intro p b s hup hsig hver hflags hlen hp hroom
    rw [execFmApiOwnerCommand_good b hup ⟨hsig, hver, hflags, hlen⟩, if_neg (by simp [hp]), if_neg (Nat.not_le.mpr hroom)]
  · intro p b s hup hbad
    rw [exec_fmApiOwnerCommand, whileUp_of_up hup, if_pos (by simpa [or_assoc] using hbad)]
  · intro p b s hup hsig hver hflags hlen hp
    rw [execFmApiOwnerCommand_good b hup ⟨hsig, hver, hflags, hlen⟩, if_pos (by simp [hp])]

end Sys2Proof.Machine
end

section
/-! SUPPORT. Proofs. CXL.mem requests at the ports: decoding, unmapped and unsupported requests, messages without data
(10 R343 to R351, 07 R252, R253). -/

set_option Elab.async false

namespace Sys2Proof.Machine

/-! ### Decoders (R344, R345) -/

/-- The offset of R345 with its two parts put side by side as bits. -/
theorem decOffset_eq_or (h g k : Nat) (three : Bool) :
    decOffset h g k three = ((if three then h >>> (g + k) / 3 else h >>> (g + k)) <<< g) ||| (h % 2 ^ g) := by
  rw [← Nat.shiftLeft_add_eq_or_of_lt (Nat.mod_lt h (Nat.two_pow_pos g)), Nat.shiftLeft_eq, Nat.shiftRight_eq_div_pow]
  rfl

theorem decLdOffset_of_ways {x : DecoderSet} {h k : Nat} {three : Bool} (hh : h < x.size.toNat)
    (hw : waysOf x.iw.val = some (k, three)) :
    decLdOffset x (x.base.toNat + h) = some (x.dpa.toNat + decOffset h x.ig.val k three) := by
  simp [decLdOffset, hw, hh]

theorem waysOf_pow {k : Nat} (hk : k ≤ 3) : waysOf (2 ^ k) = some (k, false) := by
  interval_cases k <;> rfl

theorem waysOf_three_mul_pow {k : Nat} (hk : k ≤ 2) : waysOf (3 * 2 ^ k) = some (k, true) := by
  interval_cases k <;> rfl

/-- The lowest committed decoder that holds the address decides. -/
theorem Ld.decode_of_lowest {l : Ld} {i a o : Nat} {x : DecoderSet} (hi : i < 8) (hc : (l.decoder i).committed = true)
    (hs : (l.decoder i).set = some x) (ho : decLdOffset x a = some o) (hlow : ∀ j < i, (l.decoder j).committed = false) :
    l.decode a = some (o, x.bi) := by
  rw [Ld.decode, List.findSome?_eq_some_iff]
  refine ⟨List.range i, i, (List.range (7 - i)).map (fun j => i + 1 + j), ?_, by simp [hc, hs, ho], fun j hj => ?_⟩
  · interval_cases i <;> rfl
  · simp [hlow j (List.mem_range.mp hj)]

/-- The segment covers an LD offset. -/
def Seg.covers (o : Nat) (g : Seg) : Bool := decide (g.off ≤ o) && decide (o < g.off + g.len)

theorem Ld.dpaOf_covers (l : Ld) (o : Nat) :
    l.dpaOf o = (l.segs.find? (Seg.covers o)).map (fun g => g.dpa + (o - g.off)) := rfl

theorem Ld.dpaOf_of_only {l : Ld} {g : Seg} {o : Nat} (hg : g ∈ l.segs) (hlo : g.off ≤ o) (hhi : o < g.off + g.len)
    (honly : ∀ q ∈ l.segs, q ≠ g → (o < q.off ∨ q.off + q.len ≤ o)) : l.dpaOf o = some (g.dpa + (o - g.off)) := by
  obtain ⟨q, hq⟩ := Option.isSome_iff_exists.mp
    (List.find?_isSome.mpr ⟨g, hg, (by simp [Seg.covers, hlo, hhi] : g.covers o = true)⟩)
  have hin : q.off ≤ o ∧ o < q.off + q.len := by simpa [Seg.covers] using List.find?_some hq
  have hqg : q = g := by
    by_contra hne
    have := honly q (List.mem_of_find?_eq_some hq) hne
    omega
  rw [Ld.dpaOf_covers, hq, hqg, Option.map_some]

/-- Settles O32: shifts are divisions and multiplications by powers of two, and the two parts of D have no bit in common. -/
theorem decodersComputeTheOffsetOfR345 : Obligations.DecodersComputeTheOffsetOfR345 := by
  refine ⟨?_, ?_, ?_, ?_⟩
  · intro x h k hh hk hw
    rw [decLdOffset_of_ways hh (hw ▸ waysOf_pow hk), decOffset_eq_or]
    rfl
  · intro x h k hh hk hw
    rw [decLdOffset_of_ways hh (hw ▸ waysOf_three_mul_pow hk), decOffset_eq_or]
    rfl
  · exact fun l i x a o hc hs ho hlow => Ld.decode_of_lowest i.isLt hc hs ho hlow
  · exact fun l g o hg hlo hhi honly => Ld.dpaOf_of_only hg hlo hhi honly

/-! ### What reading the LD map leaves unchanged (08 R286, R289) -/

theorem State.not_fatal_of_takes {s : State} {p : Nat} (h : s.portTakes p = true) : s.pins.fatal = false := by
  simp only [State.portTakes, Bool.and_eq_true, Bool.not_eq_true'] at h
  exact h.2

theorem State.port_congr {s t : State} (h : t.prt = s.prt) (p : Nat) : t.port p = s.port p := by
  rw [State.port, h, State.port]

theorem State.ldValid_congr {s t : State} (h : t.dsram.words = s.dsram.words) (n : Nat) : t.ldValid n = s.ldValid n := by
  rw [State.ldValid, State.ldMap, State.dword, h]
  rfl

theorem State.logCxl_unlogged (s : State) {v : Evt} (h : v.ev.cxl = .none) : s.logCxl v = s := by
  rw [State.logCxl, h]

/-- An event without a CXL record leaves the LDs' logs, and so the LDs. -/
theorem State.raise_lds_of_unlogged (s : State) {e : Ev} (a b : Nat) (h : e.cxl = .none) : (s.raise e a b).lds = s.lds := by
  unfold State.raise State.raiseAt
  simp only []
  rw [State.evtCheck_lds, State.logCxl_unlogged _ h]
  split
  · rfl
  · rw [State.setIrq_lds]
    rfl

/-- The accesses of direct SRAM that a read of the LD map makes. -/
def State.mapAccess (s : State) (ld : Nat) : State :=
  (({ s with dsram := { s.dsram with ldSeq := s.dsram.ldSeq + 1 } }).useBank (ldMapAddr ld (s.dsram.ldSeq % 32) % 32)).useBank
    (domAddr (s.ldDomain ld) % 32)

theorem State.readLdMap_access (s : State) (ld : Nat) : s.readLdMap ld =
    if flag s.dsram.bad (ldMapAddr ld (s.dsram.ldSeq % 32)) then
      (s.mapAccess ld).raise .directParity 0 (ldMapAddr ld (s.dsram.ldSeq % 32))
    else s.mapAccess ld := rfl

theorem State.mapAccess_rest (s : State) (ld : Nat) : (s.mapAccess ld).mem = s.mem ∧ (s.mapAccess ld).tier = s.tier ∧
    (s.mapAccess ld).regs = s.regs ∧ (s.mapAccess ld).ras = s.ras := ⟨rfl, rfl, rfl, rfl⟩

theorem State.readLdMap_intact {s : State} {ld : Nat} (h : flag s.dsram.bad (ldMapAddr ld (s.dsram.ldSeq % 32)) = false) :
    s.readLdMap ld = s.mapAccess ld := by
  rw [State.readLdMap_access, h, if_neg Bool.false_ne_true]

section
variable (s : State) (ld : Nat)

@[simp] theorem State.readLdMap_pins : (s.readLdMap ld).pins = s.pins := (State.readLdMap_eff s ld).same .pins rfl
@[simp] theorem State.readLdMap_prt : (s.readLdMap ld).prt = s.prt := (State.readLdMap_eff s ld).same .prt rfl

theorem State.readLdMap_words : (s.readLdMap ld).dsram.words = s.dsram.words := by
  rw [State.readLdMap_access]
  split
  · rw [State.raise_dsram]
    rfl
  · rfl

theorem State.readLdMap_lds : (s.readLdMap ld).lds = s.lds := by
  rw [State.readLdMap_access]
  split
  · rw [State.raise_lds_of_unlogged _ _ _ rfl]
    rfl
  · rfl

theorem State.readLdMap_reg {o : Nat} (h : ¬ evtReg o) : (s.readLdMap ld).reg o = s.reg o := by
  rw [State.readLdMap_access]
  split
  · rw [State.reg_raise _ _ _ _ _ h]
    rfl
  · rfl

@[simp] theorem State.readLdMap_ld (n : Nat) : (s.readLdMap ld).ld n = s.ld n := State.ld_congr (State.readLdMap_lds s ld) n

@[simp] theorem State.readLdMap_ldValid (n : Nat) : (s.readLdMap ld).ldValid n = s.ldValid n :=
  State.ldValid_congr (State.readLdMap_words s ld) n

end

theorem State.mirRegion_congr {s t : State} (h : ∀ n < 64, t.reg (0x3c0100 + 8 * n) = s.reg (0x3c0100 + 8 * n)) (d : Nat) :
    t.mirRegion d = s.mirRegion d := by
  unfold State.mirRegion lowest
  exact List.find?_congr fun n hn => by rw [h n (List.mem_range.mp hn)]

@[simp] theorem State.readLdMap_mirRegion (s : State) (ld d : Nat) : (s.readLdMap ld).mirRegion d = s.mirRegion d :=
  State.mirRegion_congr (fun n hn => State.readLdMap_reg s ld (by simp only [evtReg]; omega)) d

/-! ### Requests that are answered dead (R343, R346, R351) -/

@[simp] theorem State.freeLine_pins (s : State) : s.freeLine.2.pins = s.pins := (State.freeLine_eff s).same .pins rfl

theorem State.answerDead_read {s : State} {q : MReq} (hw : q.write = false) (hf : s.pins.fatal = false) :
    ∃ data dl, (s.answerDead q).sent.getLast? = some (.memData q.ld q.tag data true dl) := by
  refine ⟨s.freeLine.1, s.freeLine.2.devLoad q.ld none, ?_⟩
  simp [State.answerDead, State.answerData, hw, hf]

theorem State.answerDead_write {s : State} {q : MReq} (hw : q.write = true) (hf : s.pins.fatal = false) :
    ∃ dl, (s.answerDead q).sent.getLast? = some (.cmp q.ld q.tag 0 dl) := by
  refine ⟨s.devLoad q.ld none, ?_⟩
  simp [State.answerDead, State.answerCmp, hw, hf]

/-- A request is counted in field `x`, reported by event `e` and answered dead. -/
def State.refuse (s : State) (x : F) (e : Ev) (a b : Nat) (q : MReq) : State := ((s.inc x).raise e a b).answerDead q

/-- What a refused request leaves: memory and the placement stage as they were, one more in its count, and one event. -/
theorem State.refuse_effect (s : State) {x : F} (e : Ev) (a b : Nat) (q : MReq) (hn : x.n = 32) (hx : x.lo ≤ 32)
    (hr : ¬ evtReg x.off) :
    (s.refuse x e a b q).mem = s.mem ∧ (s.refuse x e a b q).tier = s.tier ∧
      (s.refuse x e a b q).f x = satAdd (2 ^ 32 - 1) (s.f x) 1 ∧ (s.refuse x e a b q).ras.evts = s.ras.evts + 1 := by
  have hdead := State.answerDead_eff ((s.inc x).raise e a b) q
  refine ⟨?_, ?_, ?_, ?_⟩
  · exact (hdead.same .mem rfl).trans (by rw [State.raise_mem, State.inc_mem])
  · exact (hdead.same .tier rfl).trans (by rw [State.raise_tier, State.inc_tier])
  · exact (State.f_congr (hdead.same .regs rfl) x).trans
      (by rw [State.f_raise _ _ _ _ _ hr, State.f_inc_same _ _ _ (by omega), satAdd, hn])
  · exact (congrArg Ras.evts (hdead.same .ras rfl)).trans (by rw [State.raise_evts, State.inc_ras])

theorem State.refuse_read (s : State) (x : F) (e : Ev) (a b : Nat) {q : MReq} (hw : q.write = false) (hf : s.pins.fatal = false) :
    ∃ data dl, (s.refuse x e a b q).sent.getLast? = some (.memData q.ld q.tag data true dl) :=
  State.answerDead_read hw (by rw [State.raise_pins, State.inc_pins, hf])

theorem State.refuse_write (s : State) (x : F) (e : Ev) (a b : Nat) {q : MReq} (hw : q.write = true) (hf : s.pins.fatal = false) :
    ∃ dl, (s.refuse x e a b q).sent.getLast? = some (.cmp q.ld q.tag 0 dl) :=
  State.answerDead_write hw (by rw [State.raise_pins, State.inc_pins, hf])

/-! ### Unmapped requests (R346) -/

theorem exec_memrd (ld : LdId) (h : BitVec 64) (m : Meta) (tag : BitVec 16) (s : State) : exec (.memrd ld h m tag) s =
    whileUp s (fun s => s.memCmd (.memrd ld h m tag) ⟨ld.val, tag.toNat, false, 0, 0⟩ h.toNat (metaCls m)) := rfl

theorem exec_memrddata (ld : LdId) (h : BitVec 64) (m : Meta) (tag : BitVec 16) (s : State) : exec (.memrddata ld h m tag) s =
    whileUp s (fun s => s.memCmd (.memrddata ld h m tag) ⟨ld.val, tag.toNat, false, 0, 0⟩ h.toNat (metaCls m)) := rfl

theorem exec_memwr (ld : LdId) (h : BitVec 64) (m : Meta) (x : Line) (tag : BitVec 16) (s : State) :
    exec (.memwr ld h m x tag) s =
      whileUp s (fun s => s.memCmd (.memwr ld h m x tag) ⟨ld.val, tag.toNat, true, x, BitVec.allOnes 64⟩ h.toNat 3) := rfl

theorem exec_memwrptl (ld : LdId) (h : BitVec 64) (m : Meta) (x : Line) (k : BitVec 64) (tag : BitVec 16) (s : State) :
    exec (.memwrptl ld h m x k tag) s =
      whileUp s (fun s => s.memCmd (.memwrptl ld h m x k tag) ⟨ld.val, tag.toNat, true, x, k⟩ h.toNat 3) := rfl

/-- A request of LD `ld` at HPA `hpa` is decoded to an LD offset that no segment covers, on a port that takes requests. -/
structure State.misses (s : State) (ld hpa off : Nat) : Prop where
  takes : s.portTakes (ld / 16) = true
  valid : s.ldValid ld = true
  decodes : ∃ bi, (s.ld ld).decode hpa = some (off, bi)
  uncovered : (s.ld ld).dpaOf off = none

theorem State.memCmd_unmapped {s : State} {q : MReq} {hpa off : Nat} (op : Instr) (cls : Nat) (h : s.misses q.ld hpa off) :
    s.memCmd op q hpa cls = (s.readLdMap q.ld).refuse (fUnmapped (q.ld / 16)) .unmappedAccess (argPL q.ld) off q := by
  obtain ⟨htakes, hvalid, ⟨bi, hdec⟩, hdpa⟩ := h
  simp only [State.memCmd, htakes, State.readLdMap_ldValid, hvalid, State.readLdMap_ld, hdec, hdpa, Bool.not_true,
    Bool.false_eq_true, if_false]
  rfl

theorem not_evtReg_offPort {p : Nat} (hp : p < 2) (k : Nat) (hk : k < 0x8000) : ¬ evtReg (offPort p + k) := by
  simp only [evtReg, offPort]
  omega

/-- Memory and the placement stage are as they were, and the request is counted and reported once. -/
theorem exec_unmapped_runs {c op : Instr} {q : MReq} {s : State} {hpa off cls : Nat}
    (hc : exec c s = whileUp s (fun s => s.memCmd op q hpa cls)) (hup : s.up = true) (hq : q.ld < 32)
    (hmiss : s.misses q.ld hpa off) (hbad : flag s.dsram.bad (ldMapAddr q.ld (s.dsram.ldSeq % 32)) = false)
    {P : State → Prop} (hP : P ((s.mapAccess q.ld).refuse (fUnmapped (q.ld / 16))
      .unmappedAccess (argPL q.ld) off q)) :
    Runs c s (fun t => P t ∧ t.mem = s.mem ∧ t.tier = s.tier ∧
      t.f (fUnmapped (q.ld / 16)) = satAdd (2 ^ 32 - 1) (s.f (fUnmapped (q.ld / 16))) 1 ∧ t.ras.evts = s.ras.evts + 1) := by
  obtain ⟨hmem, htier, hcount, hevts⟩ := (s.mapAccess q.ld).refuse_effect (x := fUnmapped (q.ld / 16)) .unmappedAccess
    (argPL q.ld) off q rfl (by simp) (not_evtReg_offPort (by omega) 16 (by omega))
  obtain ⟨hm, htr, hregs, hras⟩ := s.mapAccess_rest q.ld
  rw [hm] at hmem
  rw [htr] at htier
  rw [State.f_congr hregs] at hcount
  rw [hras] at hevts
  refine ⟨_, hc.trans (whileUp_of_up hup _), ?_⟩
  rw [State.memCmd_unmapped op cls hmiss, State.readLdMap_intact hbad]
  exact ⟨hP, hmem, htier, hcount, hevts⟩

/-- Settles O30: the request is refused before it comes to the placement stage; its class decides the answer. -/
theorem unmappedRequestsNeverReachMemory : Obligations.UnmappedRequestsNeverReachMemory := by
  intro ld h m x k tag o b s hup ht hv hdec hd hbad
  have hmiss : s.misses ld.val h.toNat o := ⟨ht, hv, ⟨b, hdec⟩, hd⟩
  have hf : (s.mapAccess ld.val).pins.fatal = false := State.not_fatal_of_takes ht
  refine ⟨fun c hc => ?_, fun c hc => ?_⟩
  · simp only [List.mem_cons, List.not_mem_nil, or_false] at hc
    rcases hc with rfl | rfl
    · exact exec_unmapped_runs (exec_memrd ld h m tag s) hup ld.isLt hmiss hbad (State.refuse_read _ _ _ _ _ rfl hf)
    · exact exec_unmapped_runs (exec_memrddata ld h m tag s) hup ld.isLt hmiss hbad
        (State.refuse_read _ _ _ _ _ rfl hf)
  · simp only [List.mem_cons, List.not_mem_nil, or_false] at hc
    rcases hc with rfl | rfl
    · exact exec_unmapped_runs (exec_memwr ld h m x tag s) hup ld.isLt hmiss hbad
        (State.refuse_write _ _ _ _ _ rfl hf)
    · exact exec_unmapped_runs (exec_memwrptl ld h m x k tag s) hup ld.isLt hmiss hbad
        (State.refuse_write _ _ _ _ _ rfl hf)

/-! ### Unsupported requests (R351) -/

theorem exec_memrdfwd (ld : LdId) (tag : BitVec 16) (s : State) :
    exec (.memrdfwd ld tag) s = whileUp s (fun s => s.unsupported ld.val tag.toNat 3 false) := rfl

theorem exec_memwrfwd (ld : LdId) (tag : BitVec 16) (s : State) :
    exec (.memwrfwd ld tag) s = whileUp s (fun s => s.unsupported ld.val tag.toNat 4 true) := rfl

theorem exec_memrdtee (ld : LdId) (tag : BitVec 16) (s : State) :
    exec (.memrdtee ld tag) s = whileUp s (fun s => s.unsupported ld.val tag.toNat 5 false) := rfl

theorem exec_memwrtee (ld : LdId) (tag : BitVec 16) (s : State) :
    exec (.memwrtee ld tag) s = whileUp s (fun s => s.unsupported ld.val tag.toNat 9 true) := rfl

theorem exec_reservedMemOpcode (ld : LdId) (op : BitVec 4) (readClass : Bool) (tag : BitVec 16) (s : State) :
    exec (.reservedMemOpcode ld op readClass tag) s =
      whileUp s (fun s => s.unsupported ld.val tag.toNat op.toNat (!readClass)) := rfl

theorem State.unsupported_refused {s : State} {ld : Nat} (tag op : Nat) (write : Bool) (ht : s.portTakes (ld / 16) = true) :
    s.unsupported ld tag op write =
      s.refuse (fUnsupported (ld / 16)) .unsupportedRequest (argPL ld) op ⟨ld, tag, write, 0, 0⟩ := by
  simp only [State.unsupported, ht, Bool.not_true, Bool.false_eq_true, if_false, State.refuse]

/-- Memory is as it was, and the request is counted and reported once. -/
theorem exec_unsupported_runs {c : Instr} {ld : LdId} {s : State} {tag op : Nat} {write : Bool}
    (hc : exec c s = whileUp s (fun s => s.unsupported ld.val tag op write)) (hup : s.up = true)
    (ht : s.portTakes (ld.val / 16) = true)
    {P : State → Prop} (hP : P (s.refuse (fUnsupported (ld.val / 16)) .unsupportedRequest (argPL ld.val) op
      ⟨ld.val, tag, write, 0, 0⟩)) :
    Runs c s (fun t => P t ∧ t.mem = s.mem ∧
      t.f (fUnsupported (ld.val / 16)) = satAdd (2 ^ 32 - 1) (s.f (fUnsupported (ld.val / 16))) 1 ∧
      t.ras.evts = s.ras.evts + 1) := by
  obtain ⟨hmem, -, hcount, hevts⟩ := s.refuse_effect (x := fUnsupported (ld.val / 16)) .unsupportedRequest (argPL ld.val) op
    ⟨ld.val, tag, write, 0, 0⟩ rfl (by simp) (not_evtReg_offPort (by omega) 16 (by omega))
  refine ⟨_, hc.trans (whileUp_of_up hup _), ?_⟩
  rw [State.unsupported_refused _ _ _ ht]
  exact ⟨hP, hmem, hcount, hevts⟩

/-- Settles O31: every unsupported opcode is refused; its class decides the answer. -/
theorem unsupportedRequestsAreCounted : Obligations.UnsupportedRequestsAreCounted := by
  intro ld op tag s hup ht
  have hf := State.not_fatal_of_takes ht
  refine ⟨fun c hc => ?_, fun c hc => ?_⟩
  · simp only [List.mem_cons, List.not_mem_nil, or_false] at hc
    rcases hc with rfl | rfl | rfl
    · exact exec_unsupported_runs (exec_memrdfwd ld tag s) hup ht (State.refuse_read _ _ _ _ _ rfl hf)
    · exact exec_unsupported_runs (exec_memrdtee ld tag s) hup ht (State.refuse_read _ _ _ _ _ rfl hf)
    · exact exec_unsupported_runs (exec_reservedMemOpcode ld op true tag s) hup ht (State.refuse_read _ _ _ _ _ rfl hf)
  · simp only [List.mem_cons, List.not_mem_nil, or_false] at hc
    rcases hc with rfl | rfl | rfl
    · exact exec_unsupported_runs (exec_memwrfwd ld tag s) hup ht (State.refuse_write _ _ _ _ _ rfl hf)
    · exact exec_unsupported_runs (exec_memwrtee ld tag s) hup ht (State.refuse_write _ _ _ _ _ rfl hf)
    · exact exec_unsupported_runs (exec_reservedMemOpcode ld op false tag s) hup ht (State.refuse_write _ _ _ _ _ rfl hf)

/-! ### Messages without data (R349, R350, 07 R252) -/

theorem exec_meminv (ld : LdId) (h : BitVec 64) (m : Meta) (tag : BitVec 16) (s : State) : exec (.meminv ld h m tag) s =
    whileUp s (fun s => s.memInvCmd (.meminv ld h m tag) ld.val tag.toNat h.toNat (metaCls m)) := rfl

theorem exec_meminvnt (ld : LdId) (h : BitVec 64) (m : Meta) (tag : BitVec 16) (s : State) : exec (.meminvnt ld h m tag) s =
    whileUp s (fun s => s.memInvCmd (.meminvnt ld h m tag) ld.val tag.toNat h.toNat (metaCls m)) := rfl

/-- An invalidation that reaches a DPA: Cmp for an HDM-H line, the directory path for an HDM-DB line outside the mirrored
regions. -/
theorem State.memInvCmd_reaches {s : State} {ld hpa d : Nat} {bi : Bool} (h : s.reaches ld hpa d bi) (op : Instr) (tag cls : Nat)
    (hm : bi = true → s.mirRegion d = none) :
    s.memInvCmd op ld tag hpa cls =
      if bi then (s.readLdMap ld).dirEnter ld d (.mem cls op) false else (s.readLdMap ld).answerCmp ld tag 0 none := by
  obtain ⟨htakes, hvalid, off, hdec, hdpa⟩ := h
  cases bi
  · simp [State.memInvCmd, htakes, hvalid, hdec, hdpa]
  · simp [State.memInvCmd, htakes, hvalid, hdec, hdpa, hm rfl]

theorem exec_memclnevct (ld : LdId) (h : BitVec 64) (tag : BitVec 16) (s : State) : exec (.memclnevct ld h tag) s =
    whileUp s (fun s => s.when (s.portTakes (ld.val / 16)) (fun s => s.answerCmp ld.val tag.toNat 0 none)) := rfl

theorem exec_biconflict (ld : LdId) (l : Dpa) (tag : BitVec 16) (s : State) : exec (.biconflict ld l tag) s =
    whileUp s (fun s => s.when (s.portTakes (ld.val / 16)) (fun s => s.send (.biConflictAck ld.val tag.toNat))) := rfl

theorem State.answerCmp_sends {s : State} (hf : s.pins.fatal = false) (ld tag st : Nat) (ch : Option Nat) :
    s.answerCmp ld tag st ch = s.send (.cmp ld tag st (s.devLoad ld ch)) := by
  rw [State.answerCmp, hf, if_neg Bool.false_ne_true]

/-! ### Snoop responses (07 R253) -/

theorem exec_birspi (ld : LdId) (l : Dpa) (x : Option Line) (s : State) :
    exec (.birspi ld l x) s = whileUp s (fun s => s.birsp ld.val l.toNat x) := rfl

theorem exec_birsps (ld : LdId) (l : Dpa) (x : Option Line) (s : State) :
    exec (.birsps ld l x) s = whileUp s (fun s => s.birsp ld.val l.toNat x) := rfl

theorem exec_birspe (ld : LdId) (l : Dpa) (x : Option Line) (s : State) :
    exec (.birspe ld l x) s = whileUp s (fun s => s.birsp ld.val l.toNat x) := rfl

/-- A snoop of the line to the LD is in flight. -/
def State.snooped (s : State) (ld line : Nat) : Bool :=
  s.dir.reqs.any (fun r => r.snoops.any (fun n => n.1 == ld && n.2.1 / 64 == line / 64))

section
variable {s : State} {ld line : Nat}

theorem State.birsp_clean (ht : s.portTakes (ld / 16) = true) (hs : s.snooped ld line = true) :
    s.birsp ld line none = s.snoopDone ld line := by
  rw [State.snooped] at hs
  simp [State.birsp, ht, hs]

theorem State.birsp_data (ht : s.portTakes (ld / 16) = true) (hs : s.snooped ld line = true) (x : Line) :
    s.birsp ld line (some x) = (s.deviceLine 2 ld (line / 64 * 64) x (BitVec.allOnes 64)).snoopDone ld line := by
  rw [State.snooped] at hs
  simp [State.birsp, ht, hs]

theorem State.birsp_unsnooped (hs : s.snooped ld line = false) (x : Option Line) : s.birsp ld line x = s := by
  rw [State.snooped] at hs
  simp only [State.birsp, hs, Bool.not_false, if_true, ite_self]

end

/-- Settles O33: reading the LD map leaves what decoding a request needs, and a response is to a snoop in flight or to none. -/
theorem coherenceMessagesAct : Obligations.CoherenceMessagesAct := by
  refine ⟨?_, ?_, ?_, ?_, ?_, ?_, ?_, ?_⟩
  · intro ld h m tag d s hup hr
    constructor
    · rw [exec_meminv, whileUp_of_up hup, State.memInvCmd_reaches hr _ _ _ nofun, if_neg Bool.false_ne_true]
    · rw [exec_meminvnt, whileUp_of_up hup, State.memInvCmd_reaches hr _ _ _ nofun, if_neg Bool.false_ne_true]
  · intro ld h m tag d s hup hr hm
    constructor
    · rw [exec_meminv, whileUp_of_up hup, State.memInvCmd_reaches hr _ _ _ fun _ => hm, if_pos rfl]
    · rw [exec_meminvnt, whileUp_of_up hup, State.memInvCmd_reaches hr _ _ _ fun _ => hm, if_pos rfl]
  · exact fun ld h s => rfl
  · intro ld h tag s hup ht
    rw [exec_memclnevct, whileUp_of_up hup, State.when_true ht, State.answerCmp_sends (State.not_fatal_of_takes ht)]
  · intro ld l tag s hup ht
    rw [exec_biconflict, whileUp_of_up hup, State.when_true ht]
  · intro ld l s hup ht hs
    refine ⟨?_, ?_, ?_⟩
    · rw [exec_birspi, whileUp_of_up hup, State.birsp_clean ht hs]
    · rw [exec_birsps, whileUp_of_up hup, State.birsp_clean ht hs]
    · rw [exec_birspe, whileUp_of_up hup, State.birsp_clean ht hs]
  · intro ld l x s hup ht hs
    rw [exec_birspi, whileUp_of_up hup, State.birsp_data ht hs]
  · intro ld l x s hs
    have hfix := State.birsp_unsnooped hs x
    exact ⟨(exec_birspi ld l x s).trans (whileUp_of_fixed hfix), (exec_birsps ld l x s).trans (whileUp_of_fixed hfix),
      (exec_birspe ld l x s).trans (whileUp_of_fixed hfix)⟩

end Sys2Proof.Machine
end

section
/-! SUPPORT. Proofs. The host ports: link training, loss and reset of a port, function-level reset, decoder commits, IDE
(10 R337, R344, R347, R360, R361, R369, R370; 19 R642, R644). -/

set_option Elab.async false

namespace Sys2Proof.Machine

/-! ### The record and the status register of a port -/

theorem State.port_updPort_same (s : State) (p : Nat) (f : Port → Port) : (s.updPort p f).port p = f (s.port p) :=
  SMap.get_set_same _ _ _ _

theorem State.port_updPort_other (s : State) {p q : Nat} (f : Port → Port) (h : q ≠ p) : (s.updPort p f).port q = s.port q :=
  SMap.get_set_other _ _ _ _ _ h

@[simp] theorem State.updPort_reg (s : State) (p : Nat) (f : Port → Port) (o : Nat) : (s.updPort p f).reg o = s.reg o :=
  State.reg_congr (State.updPort_regs ..) o

@[simp] theorem State.updPort_f (s : State) (p : Nat) (f : Port → Port) (x : F) : (s.updPort p f).f x = s.f x :=
  State.f_congr (State.updPort_regs ..) x

theorem State.portTakes_of_perst {s : State} {p : Nat} (h : (s.port p).perst = true) : s.portTakes p = false := by
  simp [State.portTakes, h]

theorem State.portTakes_of_failed {s : State} {p : Nat} (h : (s.port p).failed = true) : s.portTakes p = false := by
  simp [State.portTakes, h]

/-- Outside its IDE field, the status register of a port holds what it held when that field is written. -/
theorem State.f_setIde (s : State) (p v : Nat) {y : F} (ho : y.off = offPort p) (hy : y.lo + y.n ≤ 16) :
    (s.setF (fIde p) v).f y = s.f y :=
  State.f_setF_field s (fIde p) y v ho (by simp) (by omega) (.inl hy)

/-! ### Link training (R337, 19 R644) -/

/-- The port is out of PERST#, with the partner's clocking. -/
def State.released (s : State) (p : Nat) (sris : Bool) : State :=
  s.updPort p (fun q => { q with perst := false, sris := sris })

/-- CXLP_STAT shows the trained link. -/
def State.showLink (s : State) (p rate width : Nat) (low : Bool) : State :=
  ((s.setF (fRate p) rate).setF (fWidth p) (lanesOf width)).setF (fFlit p) (if low then 1 else 0)

/-- A new link ends the FAILED state, and its keys are gone (R361). -/
def State.endFailed (s : State) (p : Nat) : State :=
  if (s.port p).failed then (s.updPort p (fun q => { q with cxlKey := none, ioKey := none })).setF (fIde p) 0 else s

theorem exec_linkTrain (p : HPort) (r : Fin 5) (w : Fin 3) (fl low sris : Bool) (s : State) :
    exec (.linkTrain p r w fl low sris) s = whileUp s (fun s => s.linkTrain p.val r.val w.val fl low sris) := rfl

section
variable {s : State} {p rate : Nat} (width : Nat) (low : Bool)

theorem State.linkTrain_trains (h0 : s.f (fRate p) = 0) (hr : rate ≠ 0) :
    s.linkTrain p rate width true low false = ((s.released p false).showLink p rate width low).endFailed p := by
  have hup : (s.released p false).f (fRate p) = 0 := h0
  rw [State.released] at hup
  simp only [State.linkTrain, hup, hr, bne_self_eq_false, Bool.false_eq_true, decide_false, Bool.or_self, if_false, Bool.not_true]
  rfl

theorem State.linkTrain_mismatch (h0 : s.f (fRate p) = 0) (hr : rate ≠ 0) :
    s.linkTrain p rate width false low false = (s.released p false).raise .flitMismatch (p * 2 ^ 8) 0 := by
  have hup : (s.released p false).f (fRate p) = 0 := h0
  rw [State.released] at hup
  simp only [State.linkTrain, hup, hr, bne_self_eq_false, Bool.false_eq_true, decide_false, Bool.or_self, if_false, Bool.not_false,
    if_true, State.released]

theorem State.linkTrain_stays {sris : Bool} (fl : Bool) (h : s.f (fRate p) ≠ 0 ∨ sris = true) :
    s.linkTrain p rate width fl low sris = s.released p sris := by
  have hup : (s.updPort p (fun q => { q with perst := false, sris := sris })).f (fRate p) = s.f (fRate p) := rfl
  rcases h with h | rfl
  · simp only [State.linkTrain, hup, bne_iff_ne.mpr h, if_true, State.released]
  · simp only [State.linkTrain, Bool.or_true, if_true, ite_self, State.released]

end

/-- What CXLP_STAT shows of a trained link, and that no other register is written. -/
theorem State.showLink_effect (s : State) (p rate width : Nat) (low : Bool) (hr : rate < 8) :
    (s.showLink p rate width low).f (fRate p) = rate ∧ (s.showLink p rate width low).f (fWidth p) = lanesOf width ∧
      (s.showLink p rate width low).f (fFlit p) = (if low then 1 else 0) ∧
      ∀ o, o ≠ offPort p → (s.showLink p rate width low).reg o = s.reg o := by
  have hw : lanesOf width < 2 ^ 5 := by unfold lanesOf; split <;> [decide; split <;> decide]
  refine ⟨?_, ?_, ?_, fun o ho => ?_⟩
  · rw [State.showLink, State.f_setF_field _ (fFlit p) (fRate p) _ rfl (by simp) (by simp) (by simp),
      State.f_setF_field _ (fWidth p) (fRate p) _ rfl (by simp) (by simp) (by simp), State.f_setF_same _ _ _ (by simp) hr]
  · rw [State.showLink, State.f_setF_field _ (fFlit p) (fWidth p) _ rfl (by simp) (by simp) (by simp),
      State.f_setF_same _ _ _ (by simp) hw]
  · rw [State.showLink, State.f_setF_same _ _ _ (by simp) (by cases low <;> simp)]
  · rw [State.showLink, State.reg_setF_other _ _ _ _ ho, State.reg_setF_other _ _ _ _ ho, State.reg_setF_other _ _ _ _ ho]

theorem State.endFailed_effect (s : State) (p : Nat) :
    (∀ y : F, y.off = offPort p → y.lo + y.n ≤ 16 → (s.endFailed p).f y = s.f y) ∧
      ((s.endFailed p).port p).perst = (s.port p).perst ∧ ∀ o, o ≠ offPort p → (s.endFailed p).reg o = s.reg o := by
  unfold State.endFailed
  split
  · refine ⟨fun y ho hy => ?_, ?_, fun o ho => ?_⟩
    · rw [State.f_setIde _ _ _ ho hy, State.updPort_f]
    · rw [State.port_congr (State.setF_prt ..), State.port_updPort_same]
    · rw [State.reg_setF_other _ _ _ _ ho, State.updPort_reg]
  · exact ⟨fun _ _ _ => rfl, rfl, fun _ _ => rfl⟩

/-! ### Loss and reset of a port (R369, 17 R592, 19 R642) -/

theorem State.foldl_heldReads {α : Type} (l : List α) (f : State → α → State) (s : State)
    (h : ∀ x a, (f x a).heldReads = x.heldReads) : (l.foldl f s).heldReads = s.heldReads := by
  induction l generalizing s with
  | nil => rfl
  | cons a l ih => exact (ih _).trans (h s a)

theorem State.dropReads_heldReads (s : State) (p : Nat) :
    (s.dropReads p).heldReads = s.heldReads.filter (fun h => h.ld / 16 != p) := rfl

/-- A port that has left L0, its reads in flight discarded. -/
def State.portDropped (s : State) (p : Nat) : State :=
  ((((s.setF (fRate p) 0).setF (fWidth p) 0).setF (fFlit p) 0).inc (fDownCount p)).dropReads p

theorem State.portDropped_heldReads (s : State) (p : Nat) :
    (s.portDropped p).heldReads = s.heldReads.filter (fun h => h.ld / 16 != p) := by
  rw [State.portDropped, State.dropReads_heldReads, State.inc_heldReads, State.setF_heldReads, State.setF_heldReads,
    State.setF_heldReads]

/-- Once the reads are discarded, the rest of a port's loss leaves the held reads alone. -/
theorem State.portLoss_eff_dropped {s : State} {p : Nat} (h : s.f (fRate p) ≠ 0) :
    Eff 440944980 (s.portDropped p) (s.portLoss p) := by
  unfold State.portLoss
  rw [if_neg h]
  extract_lets -merge down dropped snooped owned lines ofPort staled poisoned settled
  have hdropped : Eff 440944980 (s.portDropped p) dropped := Eff.refl
  clear_value dropped
  have hsnooped : Eff 440944980 (s.portDropped p) snooped := hdropped.then (State.dropSnoops_eff _ _) rfl
  have hstaled : Eff 440944980 (s.portDropped p) staled := Eff.foldl hsnooped fun x _ hx => hx.then (upd_dir x _) rfl
  have hpoisoned : Eff 440944980 (s.portDropped p) poisoned :=
    Eff.foldl hstaled fun x a hx => hx.then (State.poisonLine_eff x a) rfl
  have hsettled : Eff 440944980 (s.portDropped p) settled :=
    Eff.foldl hpoisoned fun x e hx => hx.then (State.dirEnter_eff x _ _ _ _) rfl
  exact hsettled.then (State.raise_eff _ _ _ _) rfl

/-- A loss of L0 drops of the held reads those of the port. -/
theorem State.portLoss_heldReads {s : State} {p : Nat} (h : s.f (fRate p) ≠ 0) :
    (s.portLoss p).heldReads = s.heldReads.filter (fun h => h.ld / 16 != p) := by
  rw [(State.portLoss_eff_dropped h).same .heldReads rfl, State.portDropped_heldReads]

theorem State.portReset_heldReads (s : State) (p : Nat) : (s.portReset p).heldReads = (s.portLoss p).heldReads := by
  have hdrain : ((List.range 16).foldl (fun (s : State) i => s.drainLd (16 * p + i) true) (s.portLoss p)).heldReads =
      (s.portLoss p).heldReads := State.foldl_heldReads _ _ _ fun x i => (State.drainLd_eff x _ _).same .heldReads rfl
  unfold State.portReset
  dsimp only
  generalize (List.range 16).foldl (fun (s : State) i => s.drainLd (16 * p + i) true) (s.portLoss p) = u at hdrain ⊢
  rw [← hdrain]
  split
  · split
    · split <;> rfl
    · rfl
  · rfl

theorem State.portReset_prt (s : State) (p : Nat) : (s.portReset p).prt = s.prt := (State.portReset_eff s p).same .prt rfl

theorem exec_portLinkLoss (p : HPort) (s : State) : exec (.portLinkLoss p) s =
    whileUp s (fun s => s.when (s.f (fRate p.val) != 0) (fun s => s.portReset p.val)) := rfl

theorem exec_perstAssert (p : HPort) (s : State) : exec (.perstAssert p) s =
    whileUp s (fun s => (s.portReset p.val).updPort p.val (fun q => { q with perst := true })) := rfl

theorem exec_functionLevelReset (ld : LdId) (s : State) : exec (.functionLevelReset ld) s =
    whileUp s (fun s => (s.drainLd ld.val true).freeMbox ld) := rfl

/-! ### Decoder commits (R344, R347) -/

/-- The setting is one that a commit refuses. -/
def State.commitBad (s : State) (ld : Nat) (d : DecoderSet) : Bool :=
  !decSupported d || (d.bi && ((s.tb 255).state != 2 || s.decMeetsWindow (s.ld ld) d))

/-- Decoder `i` of an LD holds `x`. -/
def Ld.putDecoder (l : Ld) (i : Nat) (x : Decoder) : Ld := { l with decoders := SMap.set (fun _ => {}) l.decoders i x }

theorem Ld.decoder_putDecoder_same (l : Ld) (i : Nat) (x : Decoder) : (l.putDecoder i x).decoder i = x :=
  SMap.get_set_same _ _ _ _

theorem Ld.decoder_putDecoder_other (l : Ld) {i j : Nat} (x : Decoder) (h : j ≠ i) :
    (l.putDecoder i x).decoder j = l.decoder j := SMap.get_set_other _ _ _ _ _ h

theorem State.decoderCommit_open {s : State} {ld i : Nat} (d : DecoderSet)
    (h : ((s.ld ld).decoder i).committed = false ∨ ((s.ld ld).decoder i).set = none) :
    s.decoderCommit ld i d = s.updLd ld
      (fun l => l.putDecoder i { set := some d, committed := !s.commitBad ld d, err := s.commitBad ld d }) := by
  rcases h with h | h
  · simp only [State.decoderCommit, h, Bool.false_and, Bool.false_eq_true, if_false]
    rfl
  · simp only [State.decoderCommit, h, Bool.and_false, Bool.false_eq_true, if_false]
    rfl

theorem State.decoderCommit_locked {s : State} {ld i : Nat} {c : DecoderSet} (d : DecoderSet)
    (hc : ((s.ld ld).decoder i).committed = true) (hs : ((s.ld ld).decoder i).set = some c) (hl : c.lock = true) :
    s.decoderCommit ld i d = s := by
  simp only [State.decoderCommit, hc, hs, hl, Bool.and_self, if_true]

theorem exec_decoderCommit (ld : LdId) (i : Fin 8) (d : DecoderSet) (s : State) :
    exec (.decoderCommit ld i d) s = whileUp s (fun s => s.decoderCommit ld.val i.val d) := rfl

/-- A commit of a decoder that is not locked stores the setting, committed or with Commit Error, and changes no other decoder
and no other LD. -/
theorem execDecoderCommit_runs {ld : LdId} {i : Fin 8} (d : DecoderSet) {s : State} (hup : s.up = true)
    (h : ((s.ld ld.val).decoder i.val).committed = false ∨ ((s.ld ld.val).decoder i.val).set = none) :
    Runs (.decoderCommit ld i d) s (fun t =>
      (t.ld ld.val).decoder i.val = { set := some d, committed := !s.commitBad ld.val d, err := s.commitBad ld.val d } ∧
      (∀ j, j ≠ i.val → (t.ld ld.val).decoder j = (s.ld ld.val).decoder j) ∧ ∀ m, m ≠ ld.val → t.ld m = s.ld m) := by
  refine ⟨_, (exec_decoderCommit ld i d s).trans (whileUp_of_up hup _), ?_⟩
  rw [State.decoderCommit_open d h]
  beta_reduce
  rw [State.ld_updLd_same]
  exact ⟨Ld.decoder_putDecoder_same _ _ _, fun j hj => Ld.decoder_putDecoder_other _ _ hj,
    fun m hm => State.ld_updLd_other _ _ hm⟩

/-! ### IDE (R360, R361) -/

/-- The FAILED state of a port and its event. -/
def State.ideFailed (s : State) (p : Nat) (io : Bool) : State :=
  ((s.updPort p (fun q => { q with failed := true })).setF (fIde p) 3).raise .ideFailure (p * 2 ^ 8) (if io then 1 else 0)

/-- The LDs of a port send their error messages. -/
def State.sendAers (s : State) (p : Nat) : State :=
  (List.range 16).foldl (fun (s : State) i => s.send (.aer (16 * p + i) false)) s

theorem State.sendAers_eff (s : State) (p : Nat) : Eff 4 s (s.sendAers p) :=
  Eff.foldl Eff.refl fun t _ h => h.then (State.send_eff t _) rfl

theorem exec_ideFailure (p : HPort) (io : Bool) (s : State) :
    exec (.ideFailure p io) s = whileUp s (fun s => s.ideFailure p.val io) := rfl

theorem State.ideFailure_active {s : State} {p : Nat} (h : (s.port p).cxlKey.isSome = true) :
    s.ideFailure p false = (s.ideFailed p false).sendAers p := by
  simp only [State.ideFailure, h, Bool.false_eq_true, if_false, Bool.not_true]
  rfl

theorem State.ideFailure_inactive {s : State} {p : Nat} (h : (s.port p).cxlKey = none) : s.ideFailure p false = s := by
  simp only [State.ideFailure, h, Option.isSome_none, Bool.false_eq_true, if_false, Bool.not_false, if_true]

theorem State.ideFailed_effect (s : State) {p : Nat} (hp : p < 2) (io : Bool) : (s.ideFailed p io).f (fIde p) = 3 ∧
    ((s.ideFailed p io).port p).failed = true ∧ (s.ideFailed p io).ras.evts = s.ras.evts + 1 := by
  refine ⟨?_, ?_, ?_⟩
  · rw [State.ideFailed, State.f_raise _ _ _ _ _ (not_evtReg_offPort hp 0 (by omega)), State.f_setF_same _ _ _ (by simp) (by simp)]
  · rw [State.ideFailed, State.port_congr (State.raise_prt ..), State.port_congr (State.setF_prt ..), State.port_updPort_same]
  · rw [State.ideFailed, State.raise_evts, State.setF_ras, State.updPort_ras]

theorem exec_ideKm (p : HPort) (io skid via : Bool) (x : Session) (key : BitVec 256) (s : State) :
    exec (.ideKm p io skid via x key) s = whileUp s (fun s => s.ideKm p.val io skid via x key) := rfl

theorem State.ideKm_refused {s : State} {p : Nat} {io skid via : Bool} {x : Session} {key : BitVec 256}
    (h : via = false ∨ x = .none) : s.ideKm p io skid via x key = s := by
  rcases h with rfl | rfl <;> simp [State.ideKm]

/-- The CXL.cachemem stream takes a key. -/
theorem State.ideKm_takes {s : State} {p : Nat} {skid : Bool} {x : Session} {key : BitVec 256} (hx : x ≠ .none)
    (h : (s.port p).failed = false ∨ s.f (fIde p) ≠ 3) : s.ideKm p false skid true x key =
      (s.updPort p (fun q => { q with cxlKey := some key, skid := skid, failed := false })).setF (fIde p) (if skid then 2 else 1) := by
  have hf : ((s.port p).failed && decide (s.f (fIde p) = 3)) = false := by rcases h with h | h <;> simp [h]
  have hv : (!true || x == .none) = false := by simpa using hx
  simp only [State.ideKm, hv, hf, Bool.false_eq_true, if_false]

/-- Settles O34: what a command of a port writes is the port's record and CXLP_STAT, and what a reset of a port or an LD may
change leaves the rest. -/
theorem portCommandsAct : Obligations.PortCommandsAct := by
  refine ⟨?_, ?_, ?_, ?_, ?_, ?_, ?_, ?_, ?_, ?_, ?_, ?_, ?_, ?_⟩
  · intro p r w low s hup h0 hr
    obtain ⟨hrate, hwidth, hflit, hreg⟩ := (s.released p.val false).showLink_effect p.val r.val w.val low (by omega)
    obtain ⟨hf, hperst, hrest⟩ := ((s.released p.val false).showLink p.val r.val w.val low).endFailed_effect p.val
    refine ⟨_, (exec_linkTrain ..).trans (whileUp_of_up hup _), ?_⟩
    rw [State.linkTrain_trains _ _ h0 hr]
    refine ⟨(hf _ rfl (by simp)).trans hrate, (hf _ rfl (by simp)).trans hwidth, (hf _ rfl (by simp)).trans hflit,
      hperst.trans ?_, fun o ho => (hrest o ho).trans (hreg o ho)⟩
    rw [State.showLink, State.port_congr (State.setF_prt ..), State.port_congr (State.setF_prt ..),
      State.port_congr (State.setF_prt ..), State.released, State.port_updPort_same]
  · intro p r w low s hup h0 hr
    refine ⟨_, (exec_linkTrain ..).trans (whileUp_of_up hup _), ?_⟩
    rw [State.linkTrain_mismatch _ _ h0 hr]
    refine ⟨?_, State.raise_evts _ _ _ _⟩
    rw [State.f_raise _ _ _ _ _ (not_evtReg_offPort p.isLt 0 (by omega)), State.released, State.updPort_f, h0]
  · intro p r w fl low sris s hup h
    refine ⟨_, (exec_linkTrain ..).trans (whileUp_of_up hup _), ?_⟩
    rw [State.linkTrain_stays _ _ _ h]
    exact ⟨rfl, by rw [State.released, State.port_updPort_same]⟩
  · intro p s hup h
    refine ⟨s.portReset p.val, ?_, rfl, ?_⟩
    · rw [exec_portLinkLoss, whileUp_of_up hup, State.when_true (by simp [h])]
    · rw [State.portReset_heldReads, State.portLoss_heldReads h]
  · exact fun p s h => (exec_portLinkLoss p s).trans (whileUp_of_fixed (State.when_false (by simp [h]) _))
  · intro p s hup
    have hperst : (((s.portReset p.val).updPort p.val (fun q => { q with perst := true })).port p.val).perst = true := by
      rw [State.port_updPort_same]
    refine ⟨_, (exec_perstAssert p s).trans (whileUp_of_up hup _), hperst, State.portTakes_of_perst hperst, fun q hq => ?_⟩
    rw [State.port_updPort_other _ _ hq, State.port_congr (State.portReset_prt s p.val)]
  · intro ld s hup
    have hfree := State.freeMbox_eff (s.drainLd ld.val true) ld
    have hdrain := State.drainLd_eff s ld.val true
    refine ⟨_, (exec_functionLevelReset ld s).trans (whileUp_of_up hup _), hfree.same .ctx rfl,
      (hfree.same .lds rfl).trans (hdrain.same .lds rfl), (hfree.same .mem rfl).trans (hdrain.same .mem rfl),
      fun hh ha => ?_, fun hh => ?_⟩
    · exact State.freeMbox_held (by rwa [State.drainLd_mbox]) (by rwa [State.drainLd_mbox])
    · rw [State.freeMbox_other (by rwa [State.drainLd_mbox]), State.drainLd_mbox]
  · intro ld i d s hup hopen hd hbi
    have hbad : s.commitBad ld.val d = false := by
      rcases hbi with h | ⟨htb, hwin⟩
      · simp [State.commitBad, hd, h]
      · simp [State.commitBad, hd, htb, hwin]
    simpa only [hbad, Bool.not_false] using execDecoderCommit_runs d hup hopen
  · intro ld i d s hup hopen hd
    have hbad : s.commitBad ld.val d = true := by
      rcases hd with h | ⟨hbi, htb | hwin⟩
      · simp [State.commitBad, h]
      · simp [State.commitBad, hbi, htb]
      · simp [State.commitBad, hbi, hwin]
    obtain ⟨t, ht, hdec, -⟩ := execDecoderCommit_runs d hup hopen
    exact ⟨t, ht, hdec.trans (by rw [hbad]; rfl)⟩
  · exact fun ld i c d s hc hs hl => (exec_decoderCommit ld i d s).trans
      (whileUp_of_fixed (State.decoderCommit_locked d hc hs hl))
  · intro p s hup hk
    obtain ⟨hide, hfailed, hevts⟩ := s.ideFailed_effect p.isLt false
    have haers := State.sendAers_eff (s.ideFailed p.val false) p.val
    have hfailed : (((s.ideFailed p.val false).sendAers p.val).port p.val).failed = true := by
      rw [State.port_congr (haers.same .prt rfl), hfailed]
    refine ⟨_, (exec_ideFailure p false s).trans (whileUp_of_up hup _), ?_⟩
    rw [State.ideFailure_active hk]
    exact ⟨(State.f_congr (haers.same .regs rfl) _).trans hide, hfailed, State.portTakes_of_failed hfailed,
      (congrArg Ras.evts (haers.same .ras rfl)).trans hevts⟩
  · exact fun p s hk => (exec_ideFailure p false s).trans (whileUp_of_fixed (State.ideFailure_inactive hk))
  · intro p skid x key s hup hx h
    refine ⟨_, (exec_ideKm ..).trans (whileUp_of_up hup _), ?_⟩
    rw [State.ideKm_takes hx h]
    beta_reduce
    rw [State.port_congr (State.setF_prt ..), State.port_updPort_same]
    refine ⟨rfl, rfl, State.f_setF_same _ _ _ (by simp) (by cases skid <;> simp), fun o ho => ?_⟩
    rw [State.reg_setF_other _ _ _ _ ho, State.updPort_reg]
  · exact fun p io skid via x key s h => (exec_ideKm ..).trans (whileUp_of_fixed (State.ideKm_refused h))

end Sys2Proof.Machine
end

section
/-! SUPPORT. Proofs. Contexts (11 R375 to R380, R408 to R411): enabling, disabling, resets, the end of draining, doorbells. -/

set_option Elab.async false

namespace Sys2Proof.Machine

/-- An effect that is none does nothing under any condition. -/
theorem State.when_of_fixed {s : State} {b : Bool} {f : State → State} (h : f s = s) : s.when b f = s := by
  rw [State.when, h, ite_self]

/-! ### CTX_ENABLE (R378) -/

theorem exec_ctxEnableWrite (who : Who) (c : Id12) (s : State) :
    exec (.ctxEnableWrite who c) s = whileUp s (fun s => s.when (s.mayBar0 who) (·.ctxEnable c.val)) := rfl

/-- A ring register gives from 64 to 4,096 slots (R378). -/
def State.ringSized (s : State) (off : Nat) : Prop := 6 ≤ s.ringLog off ∧ s.ringLog off ≤ 12

/-- The pages of both rings, and of the read buffer where there is one, are in order (R378). -/
def State.ringsInOrder (s : State) (c : Nat) : Bool :=
  s.ringOk c (offSq c) (64 * 2 ^ s.ringLog (offSq c)) && s.ringOk c (offCq c) (64 * 2 ^ s.ringLog (offCq c)) &&
  (!bit (s.reg (offRbuf c)) 0 || s.ringOk c (offRbuf c) (128 * 2 ^ s.ringLog (offSq c)))

theorem State.ringsInOrder_true {s : State} {c : Nat} (hsq : s.ringOk c (offSq c) (64 * 2 ^ s.ringLog (offSq c)) = true)
    (hcq : s.ringOk c (offCq c) (64 * 2 ^ s.ringLog (offCq c)) = true)
    (hrbuf : bit (s.reg (offRbuf c)) 0 = true → s.ringOk c (offRbuf c) (128 * 2 ^ s.ringLog (offSq c)) = true) :
    s.ringsInOrder c = true := by
  cases hbit : bit (s.reg (offRbuf c)) 0 with
  | false =>
    simp only [State.ringsInOrder, hsq, hcq, hbit]
    rfl
  | true => simp [State.ringsInOrder, hsq, hcq, hrbuf hbit]

theorem State.ringsInOrder_false {s : State} {c : Nat} (h : s.ringOk c (offSq c) (64 * 2 ^ s.ringLog (offSq c)) = false ∨
    s.ringOk c (offCq c) (64 * 2 ^ s.ringLog (offCq c)) = false ∨
    (bit (s.reg (offRbuf c)) 0 = true ∧ s.ringOk c (offRbuf c) (128 * 2 ^ s.ringLog (offSq c)) = false)) :
    s.ringsInOrder c = false := by
  rcases h with h | h | ⟨hbit, h⟩
  · simp [State.ringsInOrder, h]
  · simp [State.ringsInOrder, h]
  · simp [State.ringsInOrder, hbit, h]

/-- The context is ENABLED with its counts zero and its lines IDLE (R378). -/
def State.enabled (s : State) (c : Nat) : State :=
  (s.updCx c (fun x => { x.zeroed with state := 1, resetting := false, fetched := [], firstFetch := none, reqs := [] })).setF
    (fFaultCode c) 0

theorem State.ctxEnable_notDisabled {s : State} {c : Nat} (h : (s.cx c).state ≠ 0) : s.ctxEnable c = s :=
  if_pos (by simpa using h)

section
variable {s : State} {c : Nat} (hst : (s.cx c).state = 0)
include hst

theorem State.ctxEnable_setup (h : (s.cx c).assigned = false ∨ ¬ s.ringSized (offSq c) ∨ ¬ s.ringSized (offCq c)) :
    s.ctxEnable c = s.setF (fFaultCode c) 1 := by
  simp only [State.ctxEnable, hst, bne_self_eq_false, Bool.false_eq_true, if_false]
  refine if_pos ?_
  simp only [State.ringSized] at h
  simp only [Bool.or_eq_true, Bool.not_eq_true', Bool.and_eq_false_iff, decide_eq_false_iff_not]
  tauto

section
variable (ha : (s.cx c).assigned = true) (hsq : s.ringSized (offSq c)) (hcq : s.ringSized (offCq c))
include ha hsq hcq

/-- With sizes in range the pages decide. -/
theorem State.ctxEnable_sized :
    s.ctxEnable c = if !s.ringsInOrder c then s.setF (fFaultCode c) 6 else s.enabled c := by
  simp only [State.ctxEnable, hst, bne_self_eq_false, Bool.false_eq_true, if_false]
  exact if_neg (by simp [ha, hsq.1, hsq.2, hcq.1, hcq.2])

theorem State.ctxEnable_domain (h : s.ringsInOrder c = false) : s.ctxEnable c = s.setF (fFaultCode c) 6 := by
  rw [State.ctxEnable_sized hst ha hsq hcq]
  exact if_pos (by simp [h])

theorem State.ctxEnable_enables (h : s.ringsInOrder c = true) : s.ctxEnable c = s.enabled c := by
  rw [State.ctxEnable_sized hst ha hsq hcq]
  exact if_neg (by simp [h])

end

end

/-! ### CTX_DISABLE and CTX_RESET (R408, R409) -/

theorem exec_ctxDisableWrite (who : Who) (c : Id12) (s : State) : exec (.ctxDisableWrite who c) s =
    whileUp s (fun s => s.when (s.mayBar0 who && (s.cx c.val).state == 1) (·.drain c.val false)) := rfl

theorem exec_ctxResetWrite (who : Who) (c : Id12) (s : State) :
    exec (.ctxResetWrite who c) s = whileUp s (fun s => s.when (s.mayBar0 who) (·.resetCtx c.val)) := rfl

theorem State.drain_disables {s : State} {c : Nat} (h : (s.cx c).state ≠ 2) : s.drain c false =
    (s.endWork c).updCx c (fun x => { x with state := 2, fetched := [], firstFetch := none }) := by
  simp [State.drain, h]

/-- What a reset makes of the record of a context that drains. -/
def Ctx.resetDraining (x : Ctx) : Ctx :=
  ({ x with state := 2, resetting := true, fetched := [], firstFetch := none } : Ctx).silence.zeroed

theorem State.drain_resets {s : State} {c : Nat} (h : (s.cx c).state ≠ 2) :
    s.drain c true = (s.endWork c).updCx c Ctx.resetDraining := by
  simp only [State.drain, h, if_false, if_true, Bool.or_true]
  rfl

theorem State.drain_silences {s : State} {c : Nat} (h : (s.cx c).state = 2) : s.drain c true = s.updCx c Ctx.resetDraining := by
  simp only [State.drain, h, if_true, Bool.or_true]
  rfl

theorem State.endMaintOf_idle {s : State} (h : s.mnt.cmd = none) (c : Nat) : s.endMaintOf c = s := by
  simp only [State.endMaintOf, h]

theorem State.endMaintOf_busy {s : State} {op c : Nat} (h : s.mnt.cmd = some (op, none)) (hc : s.f fMaintCtx = c) :
    s.endMaintOf c = (s.discardOps .cmdPath).resolve .cmdPath (refusal (s.f fMaintTable) St.contextDisabled) := by
  simp only [State.endMaintOf, h]
  exact if_pos hc

theorem State.resetCtx_disabled {s u : State} {c : Nat} (hu : s.endMaintOf c = u) (h : (u.cx c).state = 0) :
    s.resetCtx c = u.updCx c (fun x => { x.zeroed with incarnation := (x.incarnation + 1) % 65536 }) := by
  simp only [State.resetCtx, hu]
  exact if_pos h

theorem State.resetCtx_drains {s u : State} {c : Nat} (hu : s.endMaintOf c = u) (h : (u.cx c).state ≠ 0) :
    s.resetCtx c = u.drain c true := by
  simp only [State.resetCtx, hu]
  exact if_neg h

/-! ### CONTEXT_DRAINED (R375) -/

theorem exec_contextDrained (c : Id12) (s : State) : exec (.contextDrained c) s =
    whileUp s (fun s => s.when ((s.cx c.val).state == 2 && s.drained c.val) (fun s =>
      s.updCx c.val (fun x => { x with state := 0, reqs := [], resetting := false,
                                       incarnation := if x.resetting then (x.incarnation + 1) % 65536 else x.incarnation }))) := rfl

theorem State.drained_of_work {s : State} {c : Nat} (h : (∃ r ∈ (s.cx c).reqs, r.silent = false ∨ r.phase ≠ 3) ∨
    (s.cx c).mq ≠ none ∨ ∃ j ∈ s.rng.jobs, j.ctx = c) : s.drained c = false := by
  rcases h with ⟨r, hr, hopen⟩ | hmq | ⟨j, hj, hc⟩
  · have : (s.cx c).reqs.all (fun r => r.silent && r.phase == 3) = false :=
      List.all_eq_false.mpr ⟨r, hr, by rcases hopen with h | h <;> simp [h]⟩
    simp [State.drained, this]
  · have : (s.cx c).mq.isNone = false := Option.isNone_eq_false_iff.mpr (Option.isSome_iff_ne_none.mpr hmq)
    simp [State.drained, this]
  · have : s.rng.jobs.any (fun j => j.ctx == c) = true := List.any_eq_true.mpr ⟨j, hj, by simp [hc]⟩
    simp [State.drained, this]

/-! ### Doorbells (R380) and faults (R410) -/

theorem exec_sqProdWrite (ld : LdId) (c : Id12) (v : BitVec 32) (s : State) : exec (.sqProdWrite ld c v) s =
    whileUp s (fun s => s.when (s.doorbellOk ld.val c.val) (fun s =>
      if 2 ^ s.ringLog (offSq c.val) < sub32 v.toNat (s.cx c.val).sqCons then s.faultCtx c.val 2
      else s.updCx c.val (fun x => { x with sqProd := v.toNat }))) := rfl

theorem exec_cqConsWrite (ld : LdId) (c : Id12) (v : BitVec 32) (s : State) : exec (.cqConsWrite ld c v) s =
    whileUp s (fun s => s.when (s.doorbellOk ld.val c.val) (fun s =>
      if sub32 (s.cx c.val).cqProd (s.cx c.val).cqCons < sub32 v.toNat (s.cx c.val).cqCons then s.faultCtx c.val 2
      else s.updCx c.val (fun x => { x with cqCons := v.toNat }))) := rfl

theorem State.doorbellOk_bound {s : State} {ld c : Nat} (ha : (s.cx c).assigned = true) (hl : (s.cx c).ldid = ld)
    (hst : (s.cx c).state = 1) (hv : s.ldValid ld = true) : s.doorbellOk ld c = true := by
  simp [State.doorbellOk, ha, hl, hst, hv]

theorem State.doorbellOk_other {s : State} {ld c : Nat}
    (h : (s.cx c).assigned = false ∨ (s.cx c).ldid ≠ ld ∨ (s.cx c).state ≠ 1) : s.doorbellOk ld c = false := by
  rcases h with h | h | h <;> simp [State.doorbellOk, h]

theorem State.faultCtx_enabled {s : State} {c : Nat} (h : (s.cx c).state = 1) (code : Nat) : s.faultCtx c code =
    (((s.endWork c).updCx c (fun x => { x with
      state := 3, fetched := [], firstFetch := none, reqs := x.reqs.map (fun r => { r with silent := true }) })).setF
        (fFaultCode c) code).raise .contextFault c code :=
  if_neg (by simp [h])

/-- Settles O52, a clause at a time from the equations of its commands. -/
theorem contextCommandsAct : Obligations.ContextCommandsAct := by
  refine ⟨?_, ?_, ?_, ?_, ?_, ?_, ?_, ?_, ?_, ?_, ?_, ?_, ?_, ?_, ?_, ?_, ?_, ?_⟩
  · intro who c s hup hm hst ha hsq0 hsq1 hcq0 hcq1 hsq hcq hrbuf
    rw [exec_ctxEnableWrite, whileUp_of_up hup, State.when_true hm,
      State.ctxEnable_enables hst ha ⟨hsq0, hsq1⟩ ⟨hcq0, hcq1⟩ (State.ringsInOrder_true hsq hcq hrbuf)]
    rfl
  · intro who c s hup hm hst h
    have hsetup : (s.cx c.val).assigned = false ∨ ¬ s.ringSized (offSq c.val) ∨ ¬ s.ringSized (offCq c.val) :=
      h.imp_right fun h => by
        simp only [State.ringSized]
        omega
    rw [exec_ctxEnableWrite, whileUp_of_up hup, State.when_true hm, State.ctxEnable_setup hst hsetup]
  · intro who c s hup hm hst ha hsq0 hsq1 hcq0 hcq1 h
    rw [exec_ctxEnableWrite, whileUp_of_up hup, State.when_true hm,
      State.ctxEnable_domain hst ha ⟨hsq0, hsq1⟩ ⟨hcq0, hcq1⟩ (State.ringsInOrder_false h)]
  · rintro who c s (hm | hst)
    · exact (exec_ctxEnableWrite who c s).trans (whileUp_of_fixed (State.when_false hm _))
    · exact (exec_ctxEnableWrite who c s).trans (whileUp_of_fixed (State.when_of_fixed (State.ctxEnable_notDisabled hst)))
  · intro who c s hup hm hst
    rw [exec_ctxDisableWrite, whileUp_of_up hup, State.when_true (by simp [hm, hst]), State.drain_disables (by simp [hst])]
  · intro who c s h
    refine (exec_ctxDisableWrite who c s).trans (whileUp_of_fixed (State.when_false ?_ _))
    rcases h with h | h <;> simp [h]
  · intro who c s hup hm hcmd hst
    rw [exec_ctxResetWrite, whileUp_of_up hup, State.when_true hm, State.resetCtx_disabled (State.endMaintOf_idle hcmd _) hst]
    rfl
  · intro who c s hup hm hcmd hst
    have h0 : (s.cx c.val).state ≠ 0 := by omega
    have h2 : (s.cx c.val).state ≠ 2 := by omega
    rw [exec_ctxResetWrite, whileUp_of_up hup, State.when_true hm, State.resetCtx_drains (State.endMaintOf_idle hcmd _) h0,
      State.drain_resets h2]
    rfl
  · intro who c s hup hm hcmd hst
    rw [exec_ctxResetWrite, whileUp_of_up hup, State.when_true hm,
      State.resetCtx_drains (State.endMaintOf_idle hcmd _) (by simp [hst]), State.drain_silences hst]
    rfl
  · intro who c op s u hup hm hcmd hc hu hst
    rw [exec_ctxResetWrite, whileUp_of_up hup, State.when_true hm,
      State.resetCtx_disabled ((State.endMaintOf_busy hcmd hc).trans hu.symm) hst]
    rfl
  · exact fun who c s hm => (exec_ctxResetWrite who c s).trans (whileUp_of_fixed (State.when_false hm _))
  · intro c s hup hst hd
    rw [exec_contextDrained, whileUp_of_up hup, State.when_true (by simp [hst, hd])]
  · intro c s h
    refine (exec_contextDrained c s).trans (whileUp_of_fixed (State.when_false ?_ _))
    rcases h with h | h
    · simp [h]
    · simp [State.drained_of_work h]
  · intro ld c v s hup ha hl hst hv h
    rw [exec_sqProdWrite, whileUp_of_up hup, State.when_true (State.doorbellOk_bound ha hl hst hv), if_neg (Nat.not_lt.mpr h)]
  · intro ld c v s hup ha hl hst hv h
    rw [exec_sqProdWrite, whileUp_of_up hup, State.when_true (State.doorbellOk_bound ha hl hst hv), if_pos h,
      State.faultCtx_enabled hst]
  · intro ld c v s hup ha hl hst hv h
    rw [exec_cqConsWrite, whileUp_of_up hup, State.when_true (State.doorbellOk_bound ha hl hst hv), if_neg (Nat.not_lt.mpr h)]
  · intro ld c v s hup ha hl hst hv h
    rw [exec_cqConsWrite, whileUp_of_up hup, State.when_true (State.doorbellOk_bound ha hl hst hv), if_pos h,
      State.faultCtx_enabled hst]
  · intro ld c v s h
    exact ⟨(exec_sqProdWrite ld c v s).trans (whileUp_of_fixed (State.when_false (State.doorbellOk_other h) _)),
      (exec_cqConsWrite ld c v s).trans (whileUp_of_fixed (State.when_false (State.doorbellOk_other h) _))⟩

end Sys2Proof.Machine
end

section
/-! SUPPORT. Proofs. Descriptors (11 R381 to R386, R402, R403): fetching slots, acceptance, dispatch. -/

set_option Elab.async false

namespace Sys2Proof.Machine

/-! ### Fetching a slot (R381, R382, R410) -/

/-- The address of the slot that context `c` fetches next. -/
def State.slotAddr (s : State) (c : Nat) : Nat :=
  s.ringBase (offSq c) + 64 * (((s.cx c).sqCons + (s.cx c).fetched.length) % 2 ^ s.ringLog (offSq c))

/-- What a fetched slot does: it is kept when it has the expected stamp, and `miss` acts otherwise. -/
def State.slotFetched (s : State) (c : Nat) (miss : State → State) (l : Line) : State :=
  if hStamp l = s.stamp c then s.updCx c (fun x => { x with fetched := x.fetched ++ [l], firstFetch := none }) else miss s

section
variable {s : State} {c : Nat} (miss : State → State)

theorem State.fetchSlot_host (hh : s.ringHost (offSq c) = true) (l : Line) :
    s.fetchSlot c (some l) miss = s.slotFetched c miss l := by
  simp only [State.fetchSlot, hh, Bool.not_true, Bool.false_and, Bool.false_eq_true, if_false, if_true]
  rfl

theorem State.fetchSlot_hostFailed (hh : s.ringHost (offSq c) = true) : s.fetchSlot c none miss = s.faultCtx c 4 := by
  simp only [State.fetchSlot, hh, Bool.not_true, Bool.false_and, Bool.false_eq_true, if_false, if_true]

section
variable (host : Option Line) (hh : s.ringHost (offSq c) = false)
include hh

theorem State.fetchSlot_outside (ho : s.runOk c (s.slotAddr c) 64 = false) : s.fetchSlot c host miss = s.faultCtx c 6 := by
  rw [State.slotAddr] at ho
  exact if_pos (by simp only [hh, ho]; rfl)

section
variable (ho : s.runOk c (s.slotAddr c) 64 = true)
include ho

theorem State.fetchSlot_held (hr : s.runHeld (s.slotAddr c) 64 = true) : s.fetchSlot c host miss = s := by
  rw [State.slotAddr] at ho hr
  simp only [State.fetchSlot, hh, ho, hr, Bool.not_false, Bool.not_true, Bool.and_false, Bool.true_and, Bool.false_eq_true, if_false,
    if_true]

section
variable (hr : s.runHeld (s.slotAddr c) 64 = false) {u : State} (hu : s.readCheck 2 (s.cx c).ldid (s.slotAddr c) 64 = u)
  (hhu : u.ringHost (offSq c) = false)
include hr hu hhu

theorem State.fetchSlot_poisoned (hp : u.runPoison (s.slotAddr c) 64 = true) : s.fetchSlot c host miss = u.faultCtx c 4 := by
  rw [State.slotAddr] at ho hr hu hp
  simp only [State.fetchSlot, hh, ho, hr, hu, hhu, hp, Bool.not_false, Bool.not_true, Bool.and_false, Bool.false_eq_true, if_false,
    if_true]

theorem State.fetchSlot_read {l : Line} (hp : u.runPoison (s.slotAddr c) 64 = false) (hl : u.readOut (s.slotAddr c) = some l) :
    s.fetchSlot c host miss = u.slotFetched c miss l := by
  rw [State.slotAddr] at ho hr hu hp hl
  simp only [State.fetchSlot, hh, ho, hr, hu, hhu, hp, hl, Bool.not_false, Bool.not_true, Bool.and_false, Bool.false_eq_true, if_false]
  rfl

end

end

end

end

/-! ### DESCRIPTOR_FETCH, STAMP_REFETCH and STAMP_TIMEOUT (R381) -/

theorem exec_descriptorFetch (c : Id12) (host : Option Line) (s : State) :
    exec (.descriptorFetch c host) s = whileUp s (·.fetch c.val host) := rfl

theorem exec_stampRefetch (c : Id12) (host : Option Line) (s : State) :
    exec (.stampRefetch c host) s = whileUp s (·.refetch c.val host) := rfl

theorem exec_stampTimeout (c : Id12) (host : Option Line) (s : State) :
    exec (.stampTimeout c host) s = whileUp s (·.lastFetch c.val host) := rfl

section
variable {s : State} {c : Nat} (host : Option Line)

theorem State.fetch_due (hst : (s.cx c).state = 1) (hf : (s.cx c).firstFetch = none) (hc : s.complete c = false)
    (hcov : (s.cx c).fetched.length < sub32 (s.cx c).sqProd (s.cx c).sqCons) : s.fetch c host =
      s.fetchSlot c host (fun u => u.updCx c (fun x => { x with firstFetch := some u.tick, nextFetch := u.tick + 256 })) :=
  if_neg (by simp [hst, hf, hc, State.covered, hcov])

theorem State.fetch_notDue (h : (s.cx c).state ≠ 1 ∨ (s.cx c).firstFetch ≠ none ∨ s.complete c = true ∨
    sub32 (s.cx c).sqProd (s.cx c).sqCons ≤ (s.cx c).fetched.length) : s.fetch c host = s := by
  refine if_pos ?_
  rcases h with h | h | h | h
  · simp [h]
  · simp [Option.isSome_iff_ne_none.mpr h]
  · simp [h]
  · simp [State.covered, h]

theorem State.refetch_due {f : Nat} (hst : (s.cx c).state = 1) (hf : (s.cx c).firstFetch = some f)
    (hn : (s.cx c).nextFetch ≤ s.tick) (ht : s.tick < f + 500000) : s.refetch c host =
      (s.inc ⟨offCtxCnt c, 32, 32⟩).fetchSlot c host (fun u => u.updCx c (fun x => { x with nextFetch := x.nextFetch + 256 })) := by
  simp only [State.refetch, hf]
  exact if_neg (by simp [hst, hn, ht])

theorem State.refetch_notDue (h : (s.cx c).state ≠ 1 ∨ (s.cx c).firstFetch = none ∨ s.tick < (s.cx c).nextFetch ∨
    ∃ f, (s.cx c).firstFetch = some f ∧ f + 500000 ≤ s.tick) : s.refetch c host = s := by
  cases hf : (s.cx c).firstFetch with
  | none => simp only [State.refetch, hf]
  | some f =>
    simp only [State.refetch, hf]
    refine if_pos ?_
    rcases h with h | h | h | ⟨g, hg, h⟩
    · simp [h]
    · simp [hf] at h
    · simp [h]
    · obtain rfl : f = g := by simpa [hf] using hg
      simp [h]

theorem State.lastFetch_due {f : Nat} (hst : (s.cx c).state = 1) (hf : (s.cx c).firstFetch = some f) (ht : f + 500000 ≤ s.tick) :
    s.lastFetch c host = (s.inc ⟨offCtxCnt c, 32, 32⟩).fetchSlot c host (fun u => u.faultCtx c 3) := by
  simp only [State.lastFetch, hf]
  exact if_neg (by simp [hst, ht])

theorem State.lastFetch_notDue (h : (s.cx c).state ≠ 1 ∨ (s.cx c).firstFetch = none ∨
    ∃ f, (s.cx c).firstFetch = some f ∧ s.tick < f + 500000) : s.lastFetch c host = s := by
  cases hf : (s.cx c).firstFetch with
  | none => simp only [State.lastFetch, hf]
  | some f =>
    simp only [State.lastFetch, hf]
    refine if_pos ?_
    rcases h with h | h | ⟨g, hg, h⟩
    · simp [h]
    · simp [hf] at h
    · obtain rfl : f = g := by simpa [hf] using hg
      simp [h]

end

/-! ### DESCRIPTOR_ACCEPT and NOP (R384, R385, 06 R201) -/

theorem exec_descriptorAccept (c : Id12) (s : State) : exec (.descriptorAccept c) s = whileUp s (·.accept c.val) := rfl

theorem exec_nop (c : Id12) (s : State) : exec (.nop c) s =
    whileServing s (fun s => s.when ((s.cx c.val).fetched.head?.map hOp == some 0) (·.accept c.val)) := rfl

/-- Context `c` after the descriptor in hand, with header `l`, is consumed: its completion reserved, its request added (R384). -/
def State.consumed (s : State) (c : Nat) (l : Line) : State :=
  (s.updCx c (fun x => { x with
    sqCons := (x.sqCons + x.fetched.length) % 2 ^ 32, reserved := x.reserved + 1, fetched := [],
    reqs := x.afterEarlier (s.newReq c l), firsts := ((s.cx c).sqCons, hOp l) :: x.firsts })).inc ⟨offCtxCnt c, 0, 32⟩

section
variable {s : State} {c : Nat}

theorem State.accept_none (h : (s.cx c).state ≠ 1 ∨ s.complete c = false) : s.accept c = s :=
  if_pos (by rcases h with h | h <;> simp [h])

section
variable {l : Line} {ls : List Line} (hst : (s.cx c).state = 1) (hc : s.complete c = true) (hl : (s.cx c).fetched = l :: ls)
include hst hc hl

/-- A complete descriptor in hand without room for its completion waits, a NOP needs none. -/
theorem State.accept_noRoom (hop : hOp l ≠ 0) (hroom : s.cqFree c = false) : s.accept c = s := by
  simp only [State.accept, hst, hc, hl, bne_self_eq_false, Bool.not_true, Bool.or_self, Bool.false_eq_true, if_false]
  exact if_pos (by simp [State.newReq, hop, hroom])

theorem State.accept_nop (hop : hOp l = 0) : s.accept c = (s.updCx c (fun x => { x with
    sqCons := (x.sqCons + x.fetched.length) % 2 ^ 32, fetched := [], firsts := ((s.cx c).sqCons, 0) :: x.firsts })).inc
      ⟨offCtxCnt c, 0, 32⟩ := by
  simp [State.accept, hst, hc, hl, State.newReq, hop]

section
variable (hroom : s.cqFree c = true)
include hroom

theorem State.accept_takes (hop : hOp l ≠ 0) : s.accept c =
    if hOp l = 2 && !s.isCut c l then (s.consumed c l).claimPair c (s.newReq c l) else s.consumed c l := by
  simp [State.accept, hst, hc, hl, State.newReq, hop, hroom, State.consumed]

theorem State.accept_other (hop : hOp l ≠ 0) (h : hOp l ≠ 2 ∨ s.isCut c l = true) : s.accept c = s.consumed c l := by
  rw [State.accept_takes hst hc hl hroom hop]
  exact if_neg (by rcases h with h | h <;> simp [h])

theorem State.accept_enumerate (hop : hOp l = 2) (hcut : s.isCut c l = false) :
    s.accept c = (s.consumed c l).claimPair c (s.newReq c l) := by
  rw [State.accept_takes hst hc hl hroom (by simp [hop])]
  exact if_pos (by simp [hop, hcut])

end

end

variable (r : Req)

theorem State.claimPair_second (h : (s.cx c).mq ≠ none) :
    s.claimPair c r = s.resolve (.req c r.n) (refusal r.table St.malformed) :=
  if_pos (Option.isSome_iff_ne_none.mpr h)

theorem State.claimPair_noRoom (h : (s.cx c).mq = none) (hq : s.freePair = none) :
    s.claimPair c r = s.resolve (.req c r.n) (refusal r.table St.noRoom) := by
  simp [State.claimPair, h, hq]

theorem State.claimPair_takes {q : Nat} (h : (s.cx c).mq = none) (hq : s.freePair = some q) :
    s.claimPair c r = s.takePair c r q := by
  simp [State.claimPair, h, hq]

end

/-! ### DESCRIPTOR_DISPATCH and DESC_UNDEFINED_OPCODE (R386, R402, R403, R658) -/

theorem exec_descriptorDispatch (c : Id12) (s : State) : exec (.descriptorDispatch c) s =
    whileServing s (fun s => s.when ((s.cx c.val).state == 1 || (s.cx c.val).state == 2) (·.dispatch c.val)) := rfl

theorem execDescriptorDispatch_open {c : Id12} {s : State} (hup : s.up = true) (hf : s.pins.fatal = false)
    (hst : (s.cx c.val).state = 1 ∨ (s.cx c.val).state = 2) : exec (.descriptorDispatch c) s = .next (s.dispatch c.val) := by
  rw [exec_descriptorDispatch, whileServing_of_up hup hf, State.when_true (by simpa using hst)]

section
variable {s : State} {c : Nat}

theorem State.dispatch_none (h : s.nextDispatch c (s.cx c).reqs true = none) : s.dispatch c = s := by
  simp only [State.dispatch, h]

variable {r : Req} (hn : s.nextDispatch c (s.cx c).reqs true = some r)
include hn

section
variable (hw : r.window = none)
include hw

theorem State.dispatch_passes (hb : s.descBad c r = none) :
    s.dispatch c = s.updCx c (·.updReq false r.n (fun r => { r with phase := 1 })) := by
  simp only [State.dispatch, hn, hw, hb]

section
variable {st : Nat} (hb : s.descBad c r = some st)
include hb

theorem State.dispatch_refused (hop : r.opcode ≠ 2) : s.dispatch c = s.resolve (.req c r.n) (refusal r.table st) := by
  simp only [State.dispatch, hn, hw, hb]
  split
  · exact if_neg (by simp [hop])
  · rfl

theorem State.dispatch_refusedEnumerate {q : Nat} {u : State} (hop : r.opcode = 2)
    (hu : s.resolve (.req c r.n) (refusal r.table st) = u) (hq : (u.cx c).mq = some q) (hqn : (u.qp q).n = r.n) :
    s.dispatch c = (u.setQp q {}).updCx c (fun x => { x with mq := none }) := by
  simp only [State.dispatch, hn, hw, hb, hu, hq]
  exact if_pos (by simp [hop, hqn])

end

end

section
variable {i : Nat} (hw : r.window = some i)
include hw

theorem State.dispatch_windowRefused {st : Nat} (hb : s.windowBad c r = some st) :
    s.dispatch c = s.updCx c (·.updReq true r.n (·.finish (refusal r.table st) (r.accept + 2))) := by
  simp only [State.dispatch, hn, hw, hb]

section
variable (hb : s.windowBad c r = none)
include hb

theorem State.dispatch_windowStale (hg : s.gate r.table = .stale) : s.dispatch c =
    (s.updCx c (·.updReq true r.n (fun r => { r with phase := 2 }))).resolve (.window c r.n) (refusal r.table St.staleGeneration) := by
  simp only [State.dispatch, hn, hw, hb, hg]

theorem State.dispatch_windowWaits (hg : s.gate r.table = .wait) : s.dispatch c = s := by
  simp only [State.dispatch, hn, hw, hb, hg]

theorem State.dispatch_windowSearches (hg : s.gate r.table = .go) : s.dispatch c =
    (s.updCx c (·.updReq true r.n (fun r => { r with phase := 2 }))).doSearch (.window c r.n) c r.table r.key false (r.accept + 7) := by
  simp only [State.dispatch, hn, hw, hb, hg]

end

end

end

theorem execDescUndefinedOpcode_ends {c : Id12} {n : BitVec 32} {r : Req} {s : State} (hup : s.up = true) (hf : s.pins.fatal = false)
    (hr : (s.cx c.val).req? false n.toNat = some r) (hp : r.phase = 0) (hop : opDefined r.opcode = false) :
    exec (.descUndefinedOpcode c n) s = .next (s.resolve (.req c.val n.toNat) (refusal r.table St.malformed)) := by
  rw [show exec (.descUndefinedOpcode c n) s = execDescUndefinedOpcode c n s from rfl, execDescUndefinedOpcode,
    whileServing_of_up hup hf]
  simp only [hr]
  rw [State.when_true (by simp [hp, hop])]

theorem execDescUndefinedOpcode_other {c : Id12} {n : BitVec 32} {s : State}
    (h : ∀ r, (s.cx c.val).req? false n.toNat = some r → r.phase ≠ 0 ∨ opDefined r.opcode = true) :
    exec (.descUndefinedOpcode c n) s = .next s := by
  rw [show exec (.descUndefinedOpcode c n) s = execDescUndefinedOpcode c n s from rfl, execDescUndefinedOpcode]
  refine whileServing_of_fixed ?_
  split
  next r hr =>
    refine State.when_false ?_ _
    rcases h r hr with h | h <;> simp [h]
  · rfl

end Sys2Proof.Machine
end

section
/-! SUPPORT. Proofs. Aborts (11 R406, R407) and completions (11 R389 to R392, R404, R405, 06 R219); the statement about descriptors. -/

set_option Elab.async false

namespace Sys2Proof.Machine

/-! ### Stopping a request (R406) -/

section
variable {s : State} {g : Req} (c : Nat)

theorem State.stopReq_unadmitted (hop : g.opcode ≠ 2) (hp : g.phase ≤ 1) :
    s.stopReq c g = some (s.resolve (.req c g.n) (refusal g.table St.aborted)) := by
  have h3 : g.phase ≠ 3 := by omega
  simp only [State.stopReq, hop, h3, hp, if_false, if_true]

theorem State.stopReq_ended (hop : g.opcode ≠ 2) (hp : g.phase = 3) : s.stopReq c g = none := by
  simp only [State.stopReq, hop, hp, if_false, if_true]

theorem State.stopReq_search (hp : g.phase = 2) (hop : g.opcode = 1 ∨ g.opcode = 0x13 ∨ g.opcode = 0x14) :
    s.stopReq c g = (if s.recordFormed (.req c g.n) then none
      else some ((s.unqueue (.req c g.n)).resolve (.req c g.n) (refusal g.table St.aborted))) := by
  rcases hop with h | h | h <;> simp [State.stopReq, hp, h]

theorem State.stopReq_mutation (hp : g.phase = 2) (hop : g.opcode = 0x10 ∨ g.opcode = 0x11 ∨ g.opcode = 0x12) :
    s.stopReq c g = (if s.beyond (.req c g.n) || s.dueNow (.req c g.n) g.table then none
      else some ((s.discardOps (.req c g.n)).resolve (.req c g.n) (refusal g.table St.aborted))) := by
  rcases hop with h | h | h <;> simp [State.stopReq, hp, h]

end

/-! ### ABORT (R407) -/

section
variable {c : Id12} {n : BitVec 32} {s : State}

theorem execAbort_ready {r : Req} (hup : s.up = true) (hr : s.ready c.val n.toNat 4 = some r) :
    exec (.abort c n) s = .next (s.abort c.val r) := by
  rw [show exec (.abort c n) s = execAbort c n s from rfl, execAbort, whileUp_of_up hup]
  simp only [hr]

theorem execAbort_notReady (hr : s.ready c.val n.toNat 4 = none) : exec (.abort c n) s = .next s := by
  rw [show exec (.abort c n) s = execAbort c n s from rfl, execAbort]
  refine whileUp_of_fixed ?_
  simp only [hr]

end

/-- The count of the descriptor that an ABORT names. -/
def Req.abortTarget (r : Req) : Nat := lineLe r.slot1 0x10 4

/-- An ABORT may stop a descriptor of opcode `op` `back` counts before it (R407). -/
def abortable (back op : Nat) : Prop := 0 < back ∧ back ≤ 2 ^ 31 ∧ op ≠ 0 ∧ op ≠ 3 ∧ op ≠ 4

theorem abortable_iff (back op : Nat) :
    abortable back op ↔ ¬ (decide (back = 0) || decide (2 ^ 31 < back) || op == 0 || op == 3 || op == 4) = true := by
  simp only [abortable, Bool.or_eq_true, decide_eq_true_eq, beq_iff_eq]
  omega

section
variable {s : State} {c : Nat} {r : Req}

theorem State.abort_unknown (h : ∀ f ∈ (s.cx c).firsts, f.1 ≠ r.abortTarget) :
    s.abort c r = s.resolve (.req c r.n) { status := St.malformed, tick := r.accept } := by
  have hnone : (s.cx c).firsts.find? (fun f => f.1 == lineLe r.slot1 0x10 4) = none :=
    List.find?_eq_none.mpr fun f hf => by simpa [Req.abortTarget] using h f hf
  simp only [State.abort, hnone]

variable {op : Nat} (hf : (s.cx c).firsts.find? (fun f => f.1 == r.abortTarget) = some (r.abortTarget, op))
include hf

theorem State.abort_notAbortable (h : ¬ abortable (sub32 r.n r.abortTarget) op) :
    s.abort c r = s.resolve (.req c r.n) { status := St.malformed, tick := r.accept } := by
  simp only [Req.abortTarget] at hf h
  simp only [State.abort, hf]
  exact if_pos (not_not.mp (mt (abortable_iff _ _).mpr h))

section
variable (h : abortable (sub32 r.n r.abortTarget) op)
include h

theorem State.abort_stops {g : Req} {u : State} (hg : (s.cx c).req? false r.abortTarget = some g) (hu : s.stopReq c g = some u) :
    s.abort c r = u.resolve (.req c r.n) { status := St.success, tick := r.accept } := by
  simp only [Req.abortTarget] at hf h hg
  simp only [State.abort, hf]
  rw [if_neg ((abortable_iff _ _).mp h)]
  simp only [hg, hu]

theorem State.abort_tooLate (hg : ∀ g, (s.cx c).req? false r.abortTarget = some g → s.stopReq c g = none) :
    s.abort c r = s.resolve (.req c r.n) { status := St.abortTooLate, tick := r.accept } := by
  simp only [Req.abortTarget] at hf h hg
  simp only [State.abort, hf]
  rw [if_neg ((abortable_iff _ _).mp h)]
  cases hreq : (s.cx c).req? false (lineLe r.slot1 0x10 4) with
  | none => rfl
  | some g => simp only [hg g hreq]

end

end

/-! ### COMPLETION_WRITE (R389 to R392, R404, R405) -/

theorem exec_completionWrite (c : Id12) (ok : Bool) (s : State) : exec (.completionWrite c ok) s =
    whileUp s (fun s => s.settleWindows.complWrite c.val ok) := rfl

/-- The address of the next completion entry of context `c` lies in host memory or in its domain (R376, R410). -/
def State.entryOk (s : State) (c : Nat) : Prop := s.ringHost (offCq c) = true ∨
  s.runOk c (s.ringBase (offCq c) + 64 * ((s.cx c).cqProd % 2 ^ s.ringLog (offCq c))) 64 = true

section
variable {s : State} {c : Nat}

theorem State.complWrite_waits (ok : Bool) (h : ((s.cx c).state ≠ 1 ∧ (s.cx c).state ≠ 2) ∨ s.cqRoom c = false) :
    s.complWrite c ok = s := by
  rw [State.complWrite]
  rcases h with ⟨h1, h2⟩ | h
  · exact if_pos (by simp [h1, h2])
  · rw [if_pos (by simp [h] : (!s.cqRoom c) = true)]
    exact ite_self s

section
variable (ok : Bool) (hst : (s.cx c).state = 1 ∨ (s.cx c).state = 2) (hroom : s.cqRoom c = true)
include hst hroom

theorem State.complWrite_some {r : Req} (hr : s.nextCompletion c = some r) : s.complWrite c ok = s.writeCompletion c r ok := by
  rw [State.complWrite, if_neg (by rcases hst with h | h <;> simp [h]), if_neg (by simp [hroom]), hr]

theorem State.complWrite_none (hr : s.nextCompletion c = none) : s.complWrite c ok = s.ringEnd c ok := by
  rw [State.complWrite, if_neg (by rcases hst with h | h <;> simp [h]), if_neg (by simp [hroom]), hr]

end

/-- The entry of request `r` with outcome `o` is written, its OUTCOME being `out`, and the request leaves the context (R391). -/
def State.entryWritten (s : State) (c : Nat) (r : Req) (o : Outc) (slot out : Nat) : State :=
  (s.cqWrite c (fun ph => cqHeader ph 1 0 slot r.opcode r.table out o.status r.tag) (r.compBody o)).updCx c
    (fun x => { x with reserved := x.reserved - 1, reqs := x.reqs.filter (fun q => !(q.n == r.n && q.window.isNone)) })

section
variable {r : Req} {o : Outc} (ho : r.outc = some o)
include ho

theorem State.writeCompletion_domain (ok : Bool) (hh : s.ringHost (offCq c) = false)
    (hrun : s.runOk c (s.ringBase (offCq c) + 64 * ((s.cx c).cqProd % 2 ^ s.ringLog (offCq c))) 64 = false) :
    s.writeCompletion c r ok = s.faultCtx c 6 := by
  simp only [State.writeCompletion, ho]
  exact if_pos (by simp only [hh, hrun]; rfl)

section
variable (he : s.entryOk c)
include he

theorem State.writeCompletion_failed : s.writeCompletion c r false = s.faultCtx c 5 := by
  simp only [State.writeCompletion, ho]
  rw [if_neg (by rcases he with h | h <;> simp [h])]
  exact if_pos rfl

theorem State.writeCompletion_plain (h : (r.opcode ≠ 0x13 ∧ r.opcode ≠ 0x14) ∨ o.status ≠ St.success) :
    s.writeCompletion c r true =
      s.entryWritten c r o (r.n % 2 ^ s.ringLog (offSq c)) (if r.opcode = 0x15 then o.outcome else 0) := by
  have hread : ((r.opcode == 0x13 || r.opcode == 0x14) && o.status == St.success) = false := by
    rcases h with ⟨h3, h4⟩ | h
    · simp [h3, h4]
    · simp [h]
  simp only [State.writeCompletion, ho, hread]
  rw [if_neg (by rcases he with h | h <;> simp [h])]
  rfl

theorem State.writeCompletion_read {bs : List Byte} {w : State} (hop : r.opcode = 0x13 ∨ r.opcode = 0x14)
    (hok : o.status = St.success) (hw : s.readRecord (s.tb r.table).kind o = (bs, w)) :
    s.writeCompletion c r true = (w.busWrite (w.ringHost (offRbuf c)) c
      (w.ringBase (offRbuf c) + 128 * (r.n % 2 ^ s.ringLog (offSq c))) bs).entryWritten c r o (r.n % 2 ^ s.ringLog (offSq c)) 0 := by
  have hread : ((r.opcode == 0x13 || r.opcode == 0x14) && o.status == St.success) = true := by
    rcases hop with h | h <;> simp [h, hok]
  have hout : r.opcode ≠ 0x15 := by omega
  simp only [State.writeCompletion, ho, hread, hw, hout]
  rw [if_neg (by rcases he with h | h <;> simp [h])]
  rfl

end

end

end

/-- Settles O53, a clause at a time from the equations of its commands. -/
theorem descriptorCommandsAct : Obligations.DescriptorCommandsAct := by
  refine ⟨?_, ?_, ?_, ?_, ?_, ?_, ?_, ?_, ?_, ?_, ?_, ?_, ?_, ?_, ?_, ?_, ?_, ?_, ?_, ?_, ?_, ?_, ?_, ?_, ?_, ?_, ?_, ?_, ?_, ?_,
    ?_, ?_, ?_, ?_, ?_, ?_, ?_, ?_, ?_, ?_, ?_⟩
  · rintro c _ miss host l s u hh rfl ho hr hu hhu hp hl
    exact State.fetchSlot_read miss host hh ho hr hu.symm hhu hp hl
  · rintro c _ miss host s hh rfl ho hr
    exact State.fetchSlot_held miss host hh ho hr
  · exact fun c miss l s hh => State.fetchSlot_host miss hh l
  · exact fun c miss s hh => State.fetchSlot_hostFailed miss hh
  · rintro c _ miss host s hh rfl ho
    exact State.fetchSlot_outside miss host hh ho
  · rintro c _ miss host s u hh rfl ho hr hu hhu hp
    exact State.fetchSlot_poisoned miss host hh ho hr hu.symm hhu hp
  · intro c host s hup hst hf hc hcov
    rw [exec_descriptorFetch, whileUp_of_up hup, State.fetch_due host hst hf hc hcov]
  · exact fun c host s h => (exec_descriptorFetch c host s).trans (whileUp_of_fixed (State.fetch_notDue host h))
  · intro c host f s hup hst hf hn ht
    rw [exec_stampRefetch, whileUp_of_up hup, State.refetch_due host hst hf hn ht]
  · exact fun c host s h => (exec_stampRefetch c host s).trans (whileUp_of_fixed (State.refetch_notDue host h))
  · intro c host f s hup hst hf ht
    rw [exec_stampTimeout, whileUp_of_up hup, State.lastFetch_due host hst hf ht]
  · exact fun c host s h => (exec_stampTimeout c host s).trans (whileUp_of_fixed (State.lastFetch_notDue host h))
  · intro c l ls s hup hst hc hl hop hroom h
    rw [exec_descriptorAccept, whileUp_of_up hup, State.accept_other hst hc hl hroom hop h]
    rfl
  · rintro c l ls q s _ hup hst hc hl hroom hop hcut rfl hmq hq
    rw [exec_descriptorAccept, whileUp_of_up hup, State.accept_enumerate hst hc hl hroom hop hcut]
    exact congrArg _ (State.claimPair_takes _ hmq hq)
  · rintro c l ls s _ hup hst hc hl hroom hop hcut rfl
    rw [exec_descriptorAccept, whileUp_of_up hup, State.accept_enumerate hst hc hl hroom hop hcut]
    exact ⟨fun hmq => congrArg _ (State.claimPair_second _ hmq), fun hmq hq => congrArg _ (State.claimPair_noRoom _ hmq hq)⟩
  · intro c l ls s hl h
    refine (exec_descriptorAccept c s).trans (whileUp_of_fixed ?_)
    by_cases hinHand : (s.cx c.val).state = 1 ∧ s.complete c.val = true
    · obtain ⟨hst, hc⟩ := hinHand
      obtain ⟨hop, hroom⟩ := (h.resolve_left (not_not.mpr hst)).resolve_left (by simp [hc])
      exact State.accept_noRoom hst hc hl hop hroom
    · exact State.accept_none ((not_and_or.mp hinHand).imp_right eq_false_of_ne_true)
  · intro c l ls s hup hf hst hc hl hop
    rw [exec_nop, whileServing_of_up hup hf, State.when_true (by simp [hl, hop]), State.accept_nop hst hc hl hop]
  · intro c s h
    refine (exec_nop c s).trans (whileServing_of_fixed (State.when_false ?_ _))
    rcases h with h | ⟨l, ls, hl, hop⟩
    · simp [h]
    · simp [hl, hop]
  · intro c r s hup hf hst hn hw hb
    rw [execDescriptorDispatch_open hup hf hst, State.dispatch_passes hn hw hb]
  · intro c r st s hup hf hst hn hw hb hop
    rw [execDescriptorDispatch_open hup hf hst, State.dispatch_refused hn hw hb hop]
  · intro c r st q s u hup hf hst hn hw hb hop hu hq hqn
    rw [execDescriptorDispatch_open hup hf hst, State.dispatch_refusedEnumerate hn hw hb hop hu.symm hq hqn]
  · intro c r i st s hup hf hst hn hw hb
    rw [execDescriptorDispatch_open hup hf hst, State.dispatch_windowRefused hn hw hb]
  · rintro c r i s _ hup hf hst hn hw hb rfl
    rw [execDescriptorDispatch_open hup hf hst]
    exact ⟨fun hg => congrArg _ (State.dispatch_windowStale hn hw hb hg), fun hg => congrArg _ (State.dispatch_windowWaits hn hw hb hg),
      fun hg => congrArg _ (State.dispatch_windowSearches hn hw hb hg)⟩
  · rintro c s (⟨h1, h2⟩ | h)
    · exact (exec_descriptorDispatch c s).trans (whileServing_of_fixed (State.when_false (by simp [h1, h2]) _))
    · exact (exec_descriptorDispatch c s).trans (whileServing_of_fixed (State.when_of_fixed (State.dispatch_none h)))
  · intro c n r s hup hr h
    rw [execAbort_ready hup hr, State.abort_unknown h]
  · intro c n r op s hup hr hf h
    have hnot : ¬ abortable (sub32 r.n r.abortTarget) op := by
      simp only [abortable, Req.abortTarget]
      omega
    rw [execAbort_ready hup hr, State.abort_notAbortable hf hnot]
  · intro c n r g op u s hup hr hf hpos hle h0 h3 h4 hg hu
    rw [execAbort_ready hup hr, State.abort_stops hf ⟨hpos, hle, h0, h3, h4⟩ hg hu]
  · intro c n r op s hup hr hf hpos hle h0 h3 h4 hg
    rw [execAbort_ready hup hr, State.abort_tooLate hf ⟨hpos, hle, h0, h3, h4⟩ hg]
  · exact fun c g s hop hp => State.stopReq_unadmitted c hop hp
  · exact fun c g s hop hp => State.stopReq_ended c hop hp
  · exact fun c g s hp hop => State.stopReq_search c hp hop
  · exact fun c g s hp hop => State.stopReq_mutation c hp hop
  · exact fun c n s hr => execAbort_notReady hr
  · exact fun c n r s hup hf hr hp hop => execDescUndefinedOpcode_ends hup hf hr hp hop
  · exact fun c n s h => execDescUndefinedOpcode_other h
  · rintro c r o s _ hup hst hroom rfl hr ho he h
    rw [exec_completionWrite, whileUp_of_up hup, State.complWrite_some true hst hroom hr, State.writeCompletion_plain ho he h]
    rfl
  · rintro c r o bs s _ w hup hst hroom rfl hr ho he hop hok hw
    rw [exec_completionWrite, whileUp_of_up hup, State.complWrite_some true hst hroom hr, State.writeCompletion_read ho he hop hok hw]
    rfl
  · rintro c ok r o s _ hup hst hroom rfl hr ho hh hrun
    rw [exec_completionWrite, whileUp_of_up hup, State.complWrite_some ok hst hroom hr, State.writeCompletion_domain ho ok hh hrun]
  · rintro c r o s _ hup hst hroom rfl hr ho he
    rw [exec_completionWrite, whileUp_of_up hup, State.complWrite_some false hst hroom hr, State.writeCompletion_failed ho he]
  · rintro c ok s _ hup rfl hst hroom hr
    rw [exec_completionWrite, whileUp_of_up hup, State.complWrite_none ok hst hroom hr]
  · intro c ok s hup h
    rw [exec_completionWrite, whileUp_of_up hup, State.complWrite_waits ok h]

end Sys2Proof.Machine
end

section
/-! SUPPORT. Proofs. Window lines (11 R395 to R400): writes, reads, held reads, and a line as read. -/

set_option Elab.async false

namespace Sys2Proof.Machine

/-! ### Lines of a context -/

theorem Ctx.wline_setWline_same (x : Ctx) (i : Nat) (l : WLine) : (x.setWline i l).wline i = l := SMap.get_set_same ..

theorem Ctx.wline_setWline_other (x : Ctx) {i j : Nat} (l : WLine) (h : j ≠ i) : (x.setWline i l).wline j = x.wline j :=
  SMap.get_set_other _ _ _ _ _ h

/-! ### A line as read (R397) -/

theorem WLine.asRead_idle {l : WLine} (h : l.st = 0) : l.asRead = 0 := if_pos h

/-- The fields of a line as read, side by side: record, TAG, state, tick. -/
def lineFields (record : BitVec 256) (tag : BitVec 32) (st accept : Nat) : Line :=
  record.setWidth 512 ||| (tag.setWidth 512) <<< 256 ||| (BitVec.ofNat 512 st) <<< 288 ||| (BitVec.ofNat 512 accept) <<< 320

theorem WLine.asRead_ready {l : WLine} (h : l.st = 2) : l.asRead = lineFields l.record l.tag 2 l.accept := by
  rw [WLine.asRead, h]
  rfl

/-- No field reaches into the next. -/
theorem lineFields_getLsbD (record : BitVec 256) (tag : BitVec 32) {st : Nat} (accept : Nat) (hst : st < 2 ^ 32) {i : Nat} (hi : i < 512) :
    (lineFields record tag st accept).getLsbD i =
      if i < 256 then record.getLsbD i else if i < 288 then tag.getLsbD (i - 256)
      else if i < 320 then st.testBit (i - 288) else accept.testBit (i - 320) := by
  have hrecord (h : 256 ≤ i) : record.getLsbD i = false := BitVec.getLsbD_of_ge _ _ h
  have htag (h : 288 ≤ i) : tag.getLsbD (i - 256) = false := BitVec.getLsbD_of_ge _ _ (by omega)
  have hstate (h : 320 ≤ i) : st.testBit (i - 288) = false :=
    Nat.testBit_lt_two_pow (hst.trans_le (Nat.pow_le_pow_right (by omega) (by omega)))
  have hsub (k : Nat) : i - k < 512 := (Nat.sub_le i k).trans_lt hi
  simp only [lineFields, BitVec.getLsbD_or, BitVec.getLsbD_shiftLeft, BitVec.getLsbD_setWidth, BitVec.getLsbD_ofNat, hi, hsub,
    decide_true, Bool.true_and]
  split_ifs with hr ht hs
  · have h288 : i < 288 := by omega
    have h320 : i < 320 := by omega
    simp [hr, h288, h320]
  · have h320 : i < 320 := by omega
    simp [hr, ht, h320, hrecord (by omega)]
  · simp [ht, hs, hrecord (by omega), htag (by omega)]
  · simp [hs, hrecord (by omega), htag (by omega), hstate (by omega)]

theorem lineFields_record (record : BitVec 256) (tag : BitVec 32) {st : Nat} (accept : Nat) (hst : st < 2 ^ 32) :
    (lineFields record tag st accept).extractLsb' 0 256 = record := by
  ext i hi
  rw [BitVec.getElem_extractLsb', lineFields_getLsbD _ _ _ hst (by omega), if_pos (by omega), Nat.zero_add, BitVec.getLsbD_eq_getElem]

theorem lineFields_tag (record : BitVec 256) (tag : BitVec 32) {st : Nat} (accept : Nat) (hst : st < 2 ^ 32) :
    (lineFields record tag st accept).extractLsb' 256 32 = tag := by
  ext i hi
  rw [BitVec.getElem_extractLsb', lineFields_getLsbD _ _ _ hst (by omega), if_neg (by omega), if_pos (by omega),
    Nat.add_sub_cancel_left, BitVec.getLsbD_eq_getElem]

theorem lineFields_state (record : BitVec 256) (tag : BitVec 32) {st : Nat} (accept : Nat) (hst : st < 2 ^ 32) :
    (lineFields record tag st accept).extractLsb' 288 8 = BitVec.ofNat 8 st := by
  ext i hi
  rw [BitVec.getElem_extractLsb', lineFields_getLsbD _ _ _ hst (by omega), if_neg (by omega), if_neg (by omega), if_pos (by omega),
    Nat.add_sub_cancel_left, BitVec.getElem_eq_testBit_toNat, BitVec.toNat_ofNat, Nat.testBit_mod_two_pow]
  simp [hi]

theorem lineFields_accept (record : BitVec 256) (tag : BitVec 32) {st : Nat} (accept : Nat) (hst : st < 2 ^ 32) :
    (lineFields record tag st accept).extractLsb' 320 64 = BitVec.ofNat 64 accept := by
  ext i hi
  rw [BitVec.getElem_extractLsb', lineFields_getLsbD _ _ _ hst (by omega), if_neg (by omega), if_neg (by omega), if_neg (by omega),
    Nat.add_sub_cancel_left, BitVec.getElem_eq_testBit_toNat, BitVec.toNat_ofNat, Nat.testBit_mod_two_pow]
  simp [hi]

/-! ### WINDOW_WRITE (R395, R396, R399, R400) -/

theorem exec_windowWrite (ld : LdId) (c : Id12) (i : Fin 64) (p : Bool) (d : Line) (s : State) :
    exec (.windowWrite ld c i p d) s = whileServing s (fun s => s.windowWrite ld.val c.val i.val p d) := rfl

theorem State.windowWrite_noEffect {s : State} {ld c i : Nat} (p : Bool) (d : Line)
    (h : (s.cx c).assigned = false ∨ (s.cx c).ldid ≠ ld ∨ 63 ≤ i) : s.windowWrite ld c i p d = s :=
  if_pos (by rcases h with h | h | h <;> simp [h])

/-- The search request of a write of `d` to line `i` (R396). -/
def State.lineSearch (s : State) (i : Nat) (d : Line) : Req :=
  { n := s.ids, slots := 1, accept := s.tick, opcode := 1, table := wTable d, flags := 0, tag := 0, slot1 := d, window := some i }

section
variable {s : State} {ld c i : Nat} (p : Bool) (d : Line) (ha : (s.cx c).assigned = true) (hl : (s.cx c).ldid = ld) (hi : i < 63)
include ha hl hi

theorem State.windowWrite_notEnabled (hst : (s.cx c).state ≠ 1) : s.windowWrite ld c i p d =
    s.updCx c (·.setWline i { st := 2, tag := wTag d, accept := s.tick, id := 0,
                              record := resultRecord (refusal (wTable d) St.contextDisabled) }) := by
  rw [State.windowWrite, if_neg (by simp [ha, hl, hi]), if_pos (by simp [hst])]

theorem State.windowWrite_enabled (hst : (s.cx c).state = 1) : s.windowWrite ld c i p d =
    (({ s with ids := s.ids + 1 } : State).updCx c (fun x =>
      { (x.setWline i { st := 1, tag := wTag d, accept := s.tick, id := s.ids }) with
        reqs := x.reqs ++ [if p then (s.lineSearch i d).finish (refusal (wTable d) St.malformed) (s.tick + 2)
          else s.lineSearch i d] })).inc
      ⟨offCtxCnt c, 0, 32⟩ := by
  rw [State.windowWrite, if_neg (by simp [ha, hl, hi]), if_neg (by simp [hst])]
  rfl

end

/-! ### WINDOW_READ (R397, R398) -/

theorem exec_windowRead (ld : LdId) (c : Id12) (i : Fin 64) (s : State) :
    exec (.windowRead ld c i) s = whileUp s (fun s => s.settleWindows.windowRead ld.val c.val i.val) := rfl

theorem State.windowLine_enabled {s : State} {c : Nat} (h : (s.cx c).state = 1) (i : Nat) :
    s.windowLine c i = ((s.cx c).wline i).asRead := if_pos (by simp [h])

theorem State.windowLine_notEnabled {s : State} {c i : Nat} (h : (s.cx c).state ≠ 1) (hl : ((s.cx c).wline i).st ≠ 2) :
    s.windowLine c i =
      ({ (s.cx c).wline i with st := 2, record := resultRecord (refusal 0 St.contextDisabled) } : WLine).asRead :=
  if_neg (by simp [h, hl])

/-- The port of LD `ld` has room for one more held read (R398). -/
def State.holdRoom (s : State) (ld : Nat) : Bool :=
  decide ((s.heldReads.filter (fun h => h.ld / 16 == ld / 16)).length < 1024)

theorem State.windowRead_next (s : State) (ld c : Nat) : s.windowRead ld c 63 = s.nextRead ld c := by
  rw [State.windowRead, if_pos rfl]

section
variable {s : State} {ld c i : Nat} (hi : i < 63)
include hi

theorem State.windowRead_otherLd (h : (s.cx c).assigned = false ∨ (s.cx c).ldid ≠ ld) :
    s.windowRead ld c i = s.send (.line ld c i 0) := by
  rw [State.windowRead, if_neg hi.ne, if_pos (by rcases h with h | h <;> simp [h])]

section
variable (ha : (s.cx c).assigned = true) (hl : (s.cx c).ldid = ld)
include ha hl

theorem State.windowRead_held (hp : ((s.cx c).wline i).st = 1) (hst : (s.cx c).state = 1) (hroom : s.holdRoom ld = true) :
    s.windowRead ld c i = { s with heldReads := s.heldReads ++ [{ ld := ld, ctx := c, line := i, at_ := s.tick }] } := by
  rw [State.holdRoom] at hroom
  rw [State.windowRead, if_neg hi.ne, if_neg (by simp [ha, hl]), if_pos (by simp only [hp, hst, hroom]; rfl)]

theorem State.windowRead_returned (h : ((s.cx c).wline i).st ≠ 1 ∨ (s.cx c).state ≠ 1 ∨ s.holdRoom ld = false) :
    s.windowRead ld c i = s.send (.line ld c i (s.windowLine c i)) := by
  rw [State.holdRoom] at h
  rw [State.windowRead, if_neg hi.ne, if_neg (by simp [ha, hl]), if_neg (by rcases h with h | h | h <;> simp [h])]

end

end

/-! ### WINDOW_READ_HOLD_EXPIRY (R398, R408) -/

theorem exec_windowReadHoldExpiry (ld : LdId) (c : Id12) (i : Fin 64) (s : State) : exec (.windowReadHoldExpiry ld c i) s =
    whileUp s (fun s => s.settleWindows.holdExpiry ld.val c.val i.val) := rfl

theorem State.holdExpiry_none {s : State} {ld c i : Nat}
    (h : ∀ r ∈ s.heldReads, ¬ (r.ld = ld ∧ r.ctx = c ∧ r.line = i)) : s.holdExpiry ld c i = s := by
  have hnone : s.heldReads.find? (fun h => h.ld == ld && h.ctx == c && h.line == i) = none :=
    List.find?_eq_none.mpr (by simpa [and_assoc] using h)
  rw [State.holdExpiry, hnone]

section
variable {s : State} {ld c i : Nat} {r : HeldRead} (hr : s.heldReads.find? (fun h => h.ld == ld && h.ctx == c && h.line == i) = some r)
include hr

theorem State.holdExpiry_due (h : ((s.cx c).wline i).st ≠ 1 ∨ (s.cx c).state = 0 ∨ r.at_ + 50 ≤ s.tick) : s.holdExpiry ld c i =
    ({ s with heldReads := s.heldReads.erase r }).send (.line ld c i ((s.cx c).wline i).asRead) := by
  simp only [State.holdExpiry, hr]
  refine if_neg ?_
  rcases h with h | h | h
  · simp [h]
  · simp [h]
  · simp [Nat.not_lt.mpr h]

theorem State.holdExpiry_early (hp : ((s.cx c).wline i).st = 1) (hst : (s.cx c).state ≠ 0) (ht : s.tick < r.at_ + 50) :
    s.holdExpiry ld c i = s := by
  simp only [State.holdExpiry, hr]
  exact if_pos (by simp [hp, hst, ht])

end

/-- Settles O54, a clause at a time from the equations of its commands. -/
theorem windowCommandsAct : Obligations.WindowCommandsAct := by
  refine ⟨?_, ?_, ?_, ?_, Ctx.wline_setWline_same, fun x i j l h => Ctx.wline_setWline_other x l h, ?_, ?_, ?_, ?_, ?_,
    fun l h => WLine.asRead_idle h, ?_, ?_, ?_, ?_⟩
  · intro ld c i d s hup hf ha hl hi hst
    rw [exec_windowWrite, whileServing_of_up hup hf, State.windowWrite_enabled false d ha hl hi hst]
    rfl
  · intro ld c i d s hup hf ha hl hi hst
    rw [exec_windowWrite, whileServing_of_up hup hf, State.windowWrite_enabled true d ha hl hi hst]
    rfl
  · intro ld c i p d s hup hf ha hl hi hst
    rw [exec_windowWrite, whileServing_of_up hup hf, State.windowWrite_notEnabled p d ha hl hi hst]
  · intro ld c i p d s h
    exact (exec_windowWrite ld c i p d s).trans
      (whileServing_of_fixed (State.windowWrite_noEffect p d (h.imp_right (Or.imp_right (fun h => h.ge)))))
  · rintro ld c i s _ hup rfl hi h
    rw [exec_windowRead, whileUp_of_up hup, State.windowRead_otherLd hi h]
  · rintro ld c i s _ hup rfl hi ha hl hp hst hroom
    rw [exec_windowRead, whileUp_of_up hup, State.windowRead_held hi ha hl hp hst (decide_eq_true hroom)]
  · rintro ld c i s _ hup rfl hi ha hl hst h
    have hline : ((s.settleWindows.cx c.val).wline i.val).st ≠ 1 ∨ (s.settleWindows.cx c.val).state ≠ 1 ∨
        s.settleWindows.holdRoom ld.val = false := h.imp_right fun h => Or.inr (decide_eq_false (Nat.not_lt.mpr h))
    rw [exec_windowRead, whileUp_of_up hup, State.windowRead_returned hi ha hl hline, State.windowLine_enabled hst]
  · rintro ld c i s _ hup rfl hi ha hl hst hline
    rw [exec_windowRead, whileUp_of_up hup, State.windowRead_returned hi ha hl (Or.inr (Or.inl hst)),
      State.windowLine_notEnabled hst hline]
  · intro ld c i s hup hi
    rw [exec_windowRead, whileUp_of_up hup, hi, State.windowRead_next]
  · intro l h
    have hst : 2 < 2 ^ 32 := by omega
    rw [WLine.asRead_ready h]
    exact ⟨lineFields_record _ _ _ hst, lineFields_tag _ _ _ hst, fun _ => lineFields_accept _ _ _ hst, lineFields_state _ _ _ hst⟩
  · rintro ld c i r s _ hup rfl hr h
    rw [exec_windowReadHoldExpiry, whileUp_of_up hup, State.holdExpiry_due hr h]
  · rintro ld c i r s _ hup rfl hr hp hst ht
    rw [exec_windowReadHoldExpiry, whileUp_of_up hup, State.holdExpiry_early hr hp hst ht]
  · rintro ld c i s _ hup rfl h
    rw [exec_windowReadHoldExpiry, whileUp_of_up hup, State.holdExpiry_none h]

end Sys2Proof.Machine
end

section
/-! SUPPORT. Proofs. No command ends in a fault or a refusal (log 1). -/

set_option Elab.async false

namespace Sys2Proof.Machine

/-- Each command's meaning is an effect on the state under `whileUp`, `whileServing`, `mboxCmd` or its own condition, and each
of these answers a next state. -/
theorem exec_next (c : Instr) (s : State) : ∃ t, exec c s = .next t := by
  cases c <;> exact ⟨_, rfl⟩

/-- Settles O3. -/
theorem everyCommandAnswersANextState : Obligations.EveryCommandAnswersANextState := by
  intro c s
  obtain ⟨t, ht⟩ := exec_next c s
  exact ⟨t, ht, trivial⟩

end Sys2Proof.Machine
end

section
/-! SUPPORT. Proofs. Owner commands of captures, tiers and keys (12 R440, R441, R445, R453, 05 R187, 18 R629, R630). -/

set_option Elab.async false

namespace Sys2Proof.Machine

/-! ### Commands that end with a result (18 R626) -/

/-- An effect that leaves the mailbox and the tick alone ends its command with SUCCESS and its result at this tick. -/
theorem EndsWith.ended_result {s t : State} (hmbox : t.mbox = s.mbox) (htick : t.tick = s.tick) (via : OwnerPath) (code : Nat)
    (r : List Byte) : EndsWith s (t.ownerEnd via code St.success r) via code r := by
  simp [EndsWith, State.ownerEnd, hmbox, htick]

/-- An effect that has ended its command with a result leaves none running. -/
theorem State.runsLong_ended_result {s t : State} (hmbox : t.mbox = s.mbox) (via : OwnerPath) (code st : Nat) (r : List Byte) :
    s.runsLong (t.ownerEnd via code st r) via = t.ownerEnd via code st r :=
  if_neg (by simp [State.ownerEnd, hmbox])

/-! ### TABLE_CAPTURE (05 R187) -/

theorem exec_tableCapture {via : OwnerPath} {t : TableId} {a n : BitVec 64} {s : State} (h : s.ownerRuns via = true)
    (hst : (s.tb t.val).state ≠ 0) (ha : a.toNat % 64 = 0) (hend : a.toNat + n.toNat ≤ 2 ^ 44)
    (hpages : (List.range ((a.toNat % 4096 + n.toNat + 4095) / 4096)).all
      (fun i => s.pageOf (s.tb t.val).domain (a.toNat / 4096 + i)) = true)
    (hlen : (s.tableImage t.val).length ≤ n.toNat) :
    exec (.tableCapture via t a n) s = .next ((s.deviceWrite 4 0 a.toNat (s.tableImage t.val)).ownerEnd via 0x24 St.success
      (leBytes 8 (s.tableImage t.val).length)) := by
  have hbad : firstBad [((s.tb t.val).state == 0 || a.toNat % 64 != 0 || decide (2 ^ 44 < a.toNat + n.toNat), St.malformed),
      (!(List.range ((a.toNat % 4096 + n.toNat + 4095) / 4096)).all
        (fun i => s.pageOf (s.tb t.val).domain (a.toNat / 4096 + i)), St.privilege),
      (decide (n.toNat < (s.tableImage t.val).length), St.noRoom)] = none := by
    simp only [firstBad, hpages, beq_eq_false_iff_ne.mpr hst, ha, decide_eq_false (Nat.not_lt.mpr hend),
      decide_eq_false (Nat.not_lt.mpr hlen), bne_self_eq_false, Bool.or_false, Bool.not_true, List.find?, Option.map_none]
  refine Eq.trans (b := execTableCapture via t a n s) rfl ?_
  rw [execTableCapture, whileUp_of_up (State.up_of_ownerRuns h)]
  simp only [hbad, State.ownerLong_runs h]
  rw [State.runsLong_ended_result ((State.deviceWrite_eff ..).same .mbox rfl)]

/-! ### Commands of a steward (12 R440, 18 R630) -/

section
variable {s : State} (hfw : s.fwFree = true) (code : Nat) (eff : State → State)
include hfw

theorem State.stewardCmd_done (ld : LdId) :
    s.stewardCmd (.mailbox ld) code none eff = (eff s).ownerEnd (.mailbox ld) code St.success := by
  simp [State.stewardCmd, hfw]

/-- The FM API carries no steward command (18 R630). -/
theorem State.stewardCmd_fmApi (session : Bool) (bad : Option Nat) :
    s.stewardCmd (.fmApi session) code bad eff = s.ownerEnd (.fmApi session) code St.privilege := by
  simp [State.stewardCmd, hfw]

end

theorem exec_tierSetPolicy {ld : LdId} {c : BitVec 16} {lo hi : Byte} {s : State} (d q : Bool) (hu : s.up = true)
    (hfw : s.fwFree = true) (hc : c.toNat < 4096) (hok : s.stewardOk (.mailbox ld) c.toNat = true) (hlo : lo.toNat < hi.toNat)
    (hhi : hi.toNat ≤ 15) : exec (.tierSetPolicy (.mailbox ld) c d q lo hi) s =
      .next ((s.setReg (0x381000 + 8 * (s.cx c.toNat).domain) (BitVec.ofNat 64
        ((if q then 2 ^ 9 else 0) + (if d then 2 ^ 8 else 0) + hi.toNat * 16 + lo.toNat))).ownerEnd (.mailbox ld) 0x30 St.success) := by
  have hbad : firstBad [(decide (4096 ≤ c.toNat), St.malformed), (!s.stewardOk (.mailbox ld) c.toNat, St.privilege),
      (decide (hi.toNat ≤ lo.toNat) || decide (15 < hi.toNat), St.malformed)] = none := by
    simp only [firstBad, hok, decide_eq_false (Nat.not_le.mpr hc), decide_eq_false (Nat.not_le.mpr hlo),
      decide_eq_false (Nat.not_lt.mpr hhi), Bool.or_false, Bool.not_true, List.find?, Option.map_none]
  refine Eq.trans (b := execTierSetPolicy (.mailbox ld) c d q lo hi s) rfl ?_
  rw [execTierSetPolicy, whileUp_of_up hu]
  simp only [hbad, State.stewardCmd_done hfw]

theorem exec_tierSetPolicy_fmApi {session : Bool} {c : BitVec 16} {lo hi : Byte} {s : State} (d q : Bool) (hu : s.up = true)
    (hfw : s.fwFree = true) :
    exec (.tierSetPolicy (.fmApi session) c d q lo hi) s = .next (s.ownerEnd (.fmApi session) 0x30 St.privilege) := by
  refine Eq.trans (b := execTierSetPolicy (.fmApi session) c d q lo hi s) rfl ?_
  rw [execTierSetPolicy, whileUp_of_up hu]
  simp only [State.stewardCmd_fmApi hfw]

/-! ### TIER_PIN and TIER_UNPIN (12 R441) -/

@[simp] theorem State.dramPush_tier (s : State) (r : DReq) : (s.dramPush r).tier = s.tier := (State.dramPush_eff s r).same .tier rfl

/-- What replacing a descriptor does beside it, to the page map in DRAM or to the placement cache, changes no descriptor. -/
theorem State.setPage_pages (s : State) (q : Nat) (p : Page) :
    (s.setPage q p).tier.pages = SMap.set (fun _ => {}) s.tier.pages q p := by
  rw [State.setPage]
  split
  · rfl
  · split
    · rfl
    · split
      · rw [State.dramPush_tier]
      · rfl

theorem State.page_setPage (s : State) (q : Nat) (p : Page) (x : Nat) :
    (s.setPage q p).page x = if x = q then p else s.page x := by
  rw [State.page, State.setPage_pages]
  split
  next h => rw [h, SMap.get_set_same]
  next h => rw [SMap.get_set_other _ _ _ _ _ h, State.page]

/-- A run of one more page pins the shorter run first. -/
theorem State.pinPages_succ (s : State) (a n : Nat) (v : Bool) : s.pinPages a (n + 1) v =
    (s.pinPages a n v).setPage (a / 4096 + n) { (s.pinPages a n v).page (a / 4096 + n) with pin := v } := by
  simp only [State.pinPages, List.range_succ, List.foldl_append, List.foldl_cons, List.foldl_nil]

theorem State.page_pinPages (s : State) (a n : Nat) (v : Bool) (x : Nat) : (s.pinPages a n v).page x =
    if a / 4096 ≤ x ∧ x < a / 4096 + n then { s.page x with pin := v } else s.page x := by
  induction n with
  | zero => rw [if_neg (by omega)]; rfl
  | succ n ih =>
    rw [State.pinPages_succ, State.page_setPage]
    by_cases hx : x = a / 4096 + n
    · subst hx
      rw [if_pos rfl, ih, if_neg (by omega), if_pos (by omega)]
    · rw [if_neg hx, ih]
      exact if_congr (by omega) rfl rfl

section
variable {ld : LdId} {c : BitVec 16} {a : BitVec 64} {n : BitVec 32} {s : State} (hu : s.up = true) (hfw : s.fwFree = true)
  (hbad : s.pinBad (.mailbox ld) c.toNat a.toNat n.toNat = none)
include hu hfw hbad

theorem exec_tierPin : exec (.tierPin (.mailbox ld) c a n) s =
    .next ((s.pinPages a.toNat n.toNat true).ownerEnd (.mailbox ld) 0x31 St.success) := by
  refine Eq.trans (b := execTierPin (.mailbox ld) c a n s) rfl ?_
  rw [execTierPin, whileUp_of_up hu, hbad, State.stewardCmd_done hfw]

theorem exec_tierUnpin : exec (.tierUnpin (.mailbox ld) c a n) s =
    .next ((s.pinPages a.toNat n.toNat false).ownerEnd (.mailbox ld) 0x32 St.success) := by
  refine Eq.trans (b := execTierUnpin (.mailbox ld) c a n s) rfl ?_
  rw [execTierUnpin, whileUp_of_up hu, hbad, State.stewardCmd_done hfw]

end

/-- Pinning and unpinning a run of pages end their command and change the PIN of that run only. -/
theorem State.pinPages_ended (s : State) (via : OwnerPath) (code a n : Nat) (v : Bool) :
    EndsWith s ((s.pinPages a n v).ownerEnd via code St.success) via code ∧
    (∀ i < n, ((s.pinPages a n v).ownerEnd via code St.success).page (a / 4096 + i) =
      { s.page (a / 4096 + i) with pin := v }) ∧
    ∀ q, (q < a / 4096 ∨ a / 4096 + n ≤ q) → ((s.pinPages a n v).ownerEnd via code St.success).page q = s.page q := by
  have heff := State.pinPages_eff s a n v
  refine ⟨EndsWith.ended (heff.same .mbox rfl) (heff.same .tick rfl) via code, fun i hi => ?_, fun q hq => ?_⟩
  · exact (s.page_pinPages a n v _).trans (if_pos (by omega))
  · exact (s.page_pinPages a n v q).trans (if_neg (by omega))

/-! ### TIER_OFFER (12 R445) -/

theorem exec_tierOffer {via : OwnerPath} {n r : Byte} {l : BitVec 64} {t s : State} (h : s.ownerRuns via = true)
    (hn : n.toNat < 32) (hr : r.toNat < 8) (hl : l.toNat % unit256 = 0) (hk : l.toNat / unit256 ≠ 0)
    (hroom : l.toNat / unit256 ≤ s.offerable) (ht : s.offer n.toNat r.toNat (l.toNat / unit256) 3 = some t) :
    exec (.tierOffer via n r l) s = .next (t.ownerEnd via 0x33 St.success (leBytes 8 l.toNat)) := by
  have hbad : firstBad [(decide (32 ≤ n.toNat) || decide (8 ≤ r.toNat) || l.toNat % unit256 != 0 || l.toNat / unit256 == 0,
      St.malformed), (decide (s.offerable < l.toNat / unit256) || (some t : Option State).isNone, St.noRoom)] = none := by
    simp only [firstBad, hl, decide_eq_false (Nat.not_le.mpr hn), decide_eq_false (Nat.not_le.mpr hr),
      decide_eq_false (Nat.not_lt.mpr hroom), beq_eq_false_iff_ne.mpr hk, bne_self_eq_false, Bool.or_false, Option.isNone_some,
      List.find?, Option.map_none]
  refine Eq.trans (b := execTierOffer via n r l s) rfl ?_
  rw [execTierOffer, whileUp_of_up (State.up_of_ownerRuns h)]
  simp only [ht, hbad, State.ownerLong_runs h, Option.getD_some]
  rw [State.runsLong_ended_result ((State.offer_eff s _ _ _ _ t ht).same .mbox rfl)]

/-! ### KEY_ROTATE (12 R453) -/

/-- The rotation at its first step from `r` that has work left. -/
def Rot.atWork (r : Rot) : Rot :=
  let r := if r.step = 2 && r.pages.isEmpty then { r with step := 3 } else r
  if r.step = 3 && r.lines.isEmpty then { r with step := 4 } else r

theorem State.setRot_rot (s : State) (r : Rot) : (s.setRot r).tier.rot = some r.atWork := by
  simp only [State.setRot, State.setF_tier, Rot.atWork]

@[simp] theorem State.running_tier (s : State) (via : OwnerPath) : (s.running via).tier = s.tier := rfl

/-- A rotation that stands at the copying of pages goes to the lines when there are no pages, and past them when there are no
lines either; all else of it stays. -/
theorem Rot.atWork_of_pages {r : Rot} (h : r.step = 2) : r.atWork.via = r.via ∧ r.atWork.dom = r.dom ∧
    (r.atWork.step = 2 ∨ (r.atWork.step = 3 ∧ r.atWork.pages = []) ∨
      (r.atWork.step = 4 ∧ r.atWork.pages = [] ∧ r.atWork.lines = [])) := by
  obtain ⟨via, dom, step, pages, lines⟩ := r
  obtain rfl : step = 2 := h
  cases pages with
  | cons p ps => exact ⟨rfl, rfl, .inl rfl⟩
  | nil =>
    cases lines with
    | cons l ls => exact ⟨rfl, rfl, .inr (.inl ⟨rfl, rfl⟩)⟩
    | nil => exact ⟨rfl, rfl, .inr (.inr ⟨rfl, rfl, rfl⟩)⟩

/-- The domain's entry names slot `k` as its next and is rotating, and KEY_ROT_STAT names the domain. -/
def State.rotating (s : State) (d k : Nat) : State :=
  (s.setDword (domAddr d) (putFld (putFld (s.dword (domAddr d)) 24 12 k) 36 1 1)).setF fRotDom d

/-- The whole work of a rotation of domain `d`: its written pages, then the lines of its UNIFORM runs. -/
def State.allWork (s : State) (via : OwnerPath) (d : Nat) : Rot :=
  { via := via, dom := d, step := 2,
    pages := (s.tier.pages.filter (fun e => e.2.st != 0 && s.domainOf (4096 * e.1) == some d)).map (fun e => e.1),
    lines := s.uniformLines d }

theorem State.rotating_setRot_mbox (s : State) (d k : Nat) (r : Rot) : ((s.rotating d k).setRot r).mbox = s.mbox := by
  rw [(State.setRot_eff (s.rotating d k) r).same .mbox rfl, State.rotating, State.setF_mbox, State.setDword_mbox]

theorem exec_keyRotate {via : OwnerPath} {d k : BitVec 16} {s : State} (h : s.ownerRuns via = true) (hd : d.toNat < 4096)
    (hk : k.toNat < 4096) (hen : s.domEnabled d.toNat = true) (hrot : s.tier.rot = none) (hslot : s.slotState k.toNat = 1) :
    exec (.keyRotate via d k) s = .next
      (((s.rotating d.toNat k.toNat).setRot ((s.rotating d.toNat k.toNat).allWork via d.toNat)).running via) := by
  have hbad : firstBad [(decide (4096 ≤ d.toNat) || decide (4096 ≤ k.toNat), St.malformed),
      (!s.domEnabled d.toNat, St.malformed), (s.tier.rot.isSome, St.locked), (s.slotState k.toNat == 0, St.malformed),
      (s.slotState k.toNat == 2, St.locked)] = none := by
    simp only [firstBad, hen, hrot, hslot, decide_eq_false (Nat.not_le.mpr hd), decide_eq_false (Nat.not_le.mpr hk),
      Bool.or_false, Bool.not_true, Option.isSome_none, Nat.reduceBEq, List.find?, Option.map_none]
  refine Eq.trans (b := execKeyRotate via d k s) rfl ?_
  rw [execKeyRotate, whileUp_of_up (State.up_of_ownerRuns h)]
  simp only [hbad, State.ownerLong_runs h]
  exact congrArg _ (State.runsLong_running (s.rotating_setRot_mbox ..) via)

/-! ### ROTATION_FINISH (12 R453) -/

/-- KEY_SLOT of the domain takes NEXT_SLOT, ROTATING clears, and the old slot is erased. -/
def State.slotSwitched (s : State) (d : Nat) : State :=
  (s.setDword (domAddr d) (putFld (putFld (putFld (s.dword (domAddr d)) 0 12 (s.domNext d)) 36 1 0) 24 12 0)).setKey
    (s.domSlot d) none

/-- NEWKEY clears in the descriptors of the pages `qs`. -/
def State.newkeyCleared (s : State) (qs : List Nat) : State :=
  qs.foldl (fun (s : State) q => s.setPage q { s.page q with newkey := false }) s

/-- No rotation is under way, in the state and in KEY_ROT_STAT; `slots` are the migrations' slots. -/
def State.rotCleared (s : State) (slots : SMap (Option MigSlot)) : State :=
  ({ s with tier := { s.tier with rot := none, slots := slots } } : State).setReg 0x380040 0

theorem State.newkeyCleared_eff (s : State) (qs : List Nat) : Eff 37748736 s (s.newkeyCleared qs) :=
  Eff.refl.foldl fun _ _ hx => hx.then (State.setPage_eff ..) (by decide)

theorem State.key_setKey_same (s : State) (n : Nat) (k : Option (BitVec 256 × BitVec 256)) : (s.setKey n k).key n = k := by
  rw [State.key, State.setKey, SMap.get_set_same]

theorem State.key_congr {s t : State} (h : t.life = s.life) (n : Nat) : t.key n = s.key n := by
  rw [State.key, h, State.key]

/-- The last step of a rotation, while firmware runs. -/
theorem State.rotFinish_last {r : Rot} {s : State} (hmp : s.ras.mpRunning = true) (hr : s.tier.rot = some r) (hstep : 4 ≤ r.step) :
    ∃ qs slots, s.rotFinish = (((s.slotSwitched r.dom).newkeyCleared qs).rotCleared slots).ownerEnd r.via 0x34 St.success := by
  have hgo : ¬ (decide (r.step < 4) || !s.ras.mpRunning) = true := by simp [hmp, hstep]
  rw [State.rotFinish, hr]
  exact ⟨_, _, if_neg hgo⟩

theorem State.rotCleared_ended (s : State) (d : Nat) (qs : List Nat) (slots : SMap (Option MigSlot)) (via : OwnerPath) :
    EndsWith s ((((s.slotSwitched d).newkeyCleared qs).rotCleared slots).ownerEnd via 0x34 St.success) via 0x34 := by
  have heff := (s.slotSwitched d).newkeyCleared_eff qs
  exact EndsWith.ended (heff.same .mbox rfl) (heff.same .tick rfl) via 0x34

theorem State.rotCleared_key (s : State) (d : Nat) (qs : List Nat) (slots : SMap (Option MigSlot)) :
    (((s.slotSwitched d).newkeyCleared qs).rotCleared slots).key (s.domSlot d) = none :=
  (State.key_congr (((s.slotSwitched d).newkeyCleared_eff qs).same .life rfl) _).trans (State.key_setKey_same ..)

/-- Settles O25. -/
theorem captureTierAndKeyOwnerCommandsAct : Obligations.CaptureTierAndKeyOwnerCommandsAct := by
  refine ⟨?_, ?_, ?_, ?_, ?_, ?_, ?_, ?_⟩
  · intro via t a n s h hst ha hend hpages hlen
    have heff := State.deviceWrite_eff s 4 0 a.toNat (s.tableImage t.val)
    exact ⟨_, exec_tableCapture h hst ha hend hpages hlen, rfl,
      EndsWith.ended_result (heff.same .mbox rfl) (heff.same .tick rfl) via 0x24 _⟩
  · intro ld c d q lo hi s hu hfw hc hok hlo hhi
    exact exec_tierSetPolicy d q hu hfw hc hok hlo hhi
  · intro session c d q lo hi s hu hfw
    exact exec_tierSetPolicy_fmApi d q hu hfw
  · intro ld c a n s hu hfw hbad
    exact ⟨_, exec_tierPin hu hfw hbad, s.pinPages_ended ..⟩
  · intro ld c a n s hu hfw hbad
    exact ⟨_, exec_tierUnpin hu hfw hbad, s.pinPages_ended ..⟩
  · intro via n r l t s h hn hr hl hk hroom ht
    exact exec_tierOffer h hn hr hl hk hroom ht
  · intro via d k s h hd hk hen hrot hslot
    refine ⟨_, exec_keyRotate h hd hk hen hrot hslot, ?_, ?_⟩
    · rw [State.running_tier, State.setRot_rot]
      exact ⟨_, rfl, Rot.atWork_of_pages rfl⟩
    · rw [State.running_mbox, State.rotating_setRot_mbox]
  · intro r s hu hmp hr hstep
    obtain ⟨qs, slots, hfin⟩ := State.rotFinish_last hmp hr hstep
    refine ⟨_, whileUp_of_up hu State.rotFinish, ?_⟩
    rw [hfin]
    exact ⟨rfl, s.rotCleared_key r.dom qs slots, s.rotCleared_ended r.dom qs slots r.via⟩

end Sys2Proof.Machine
end

section
/-! SUPPORT. Proofs. Training and calibration (14 R489 to R503): runs of the helpers, delay values, snapshots, nudges, training at start-up, the factory store. -/

set_option Elab.async false

namespace Sys2Proof.Machine

/-! ### Registers of a channel -/

theorem chOff_ne {o p : Nat} (h : o ≠ p) (c : Nat) : chOff c o ≠ chOff c p := fun e => h (Nat.add_left_cancel e)

/-- The mismatch counter of a bit is neither that of another bit nor TRN_STAT. -/
theorem fBitErr_off_ne {a b : Nat} (h : b ≠ a) (c : Nat) : (fBitErr c b).off ≠ (fBitErr c a).off := chOff_ne (by omega) c
theorem fBitErr_off_ne_stat (c b : Nat) : (fBitErr c b).off ≠ chOff c 0x1110 := chOff_ne (by omega) c

/-! ### Runs of the helpers -/

/-- The run of a channel's helpers begins, or with `none` ends. -/
def State.setRun (s : State) (c : Nat) (r : Option TrnRun) : State :=
  { s with trn := { s.trn with runs := SMap.set (fun _ => none) s.trn.runs c r } }

@[simp] theorem State.reg_setRun (s : State) (c : Nat) (r : Option TrnRun) (o : Nat) : (s.setRun c r).reg o = s.reg o := rfl
@[simp] theorem State.f_setRun (s : State) (c : Nat) (r : Option TrnRun) (x : F) : (s.setRun c r).f x = s.f x := rfl
@[simp] theorem State.runs_setRun_same (s : State) (c : Nat) (r : Option TrnRun) :
    SMap.get (fun _ => none) (s.setRun c r).trn.runs c = r := SMap.get_set_same ..

/-! ### TRN_START (R491 to R494) -/

theorem exec_trnStart (who : Who) (c : Fin 12) (w : Word) (s : State) :
    exec (.trnStart who c w) s = whileUp s (fun s => s.when (s.mayBar0 who) (·.trnStart c.val w)) := rfl

/-- A run begins: TRN_CTRL keeps its written fields, the mismatch counters and their total are zero, and BUSY is 1. -/
def State.trnBegun (s : State) (c : Nat) (w : Word) : State :=
  (((List.range 80).foldl (fun (s : State) b => s.setF (fBitErr c b) 0)
    (s.setReg (chOff c 0x1100) (w &&& 0x0000ffffff00737f))).setF (fTrnBusy c) 1).setF (fTrnTotal c) 0

theorem State.trnBegun_busy (s : State) (c : Nat) (w : Word) : (s.trnBegun c w).f (fTrnBusy c) = 1 := by
  rw [State.trnBegun, State.f_setF_field _ (fTrnTotal c) (fTrnBusy c) 0 rfl (by simp) (by simp) (by simp),
    State.f_setF_same _ _ _ (by simp) (by simp)]

/-- The start of a run leaves TRN_SWEEP as it was written. -/
theorem State.trnBegun_sweep (s : State) (c : Nat) (w : Word) : (s.trnBegun c w).reg (chOff c 0x1108) = s.reg (chOff c 0x1108) := by
  rw [State.trnBegun, State.reg_setF_other _ _ _ _ (chOff_ne (by decide) c), State.reg_setF_other _ _ _ _ (chOff_ne (by decide) c),
    State.reg_foldl _ _ _ _ fun x b => State.reg_setF_other x (fBitErr c b) 0 _ (chOff_ne (by omega) c),
    State.reg_setReg_other _ _ _ _ (chOff_ne (by decide) c)]

theorem State.trnSweep_off {s : State} {c : Nat} (h : bit (s.reg (chOff c 0x1108)) 63 = false) (k : Nat) :
    s.trnSweep c k = none := by
  rw [State.trnSweep, h]; rfl

theorem State.trnSweep_setRun (s : State) (c : Nat) (r : Option TrnRun) (k : Nat) : (s.setRun c r).trnSweep c k = s.trnSweep c k := rfl

/-- The record of a run: its rank, TRN_CTRL, TRN_SWEEP, and for a sweep the register that it steps, as it was. -/
def State.runOf (s : State) (c : Nat) (w : Word) : TrnRun :=
  { rank := fld w 4 3, ctrl := w, sweep := s.reg (chOff c 0x1108),
    saved := (s.trnSweep c (fld w 4 3)).map (fun f => (f.off, s.reg f.off)) }

/-- The field that a sweep of rank `k` steps, if there is one, takes its first value. -/
def State.sweepBegun (s : State) (c k : Nat) : State :=
  match s.trnSweep c k with
  | some f => s.setF f (fld (s.reg (chOff c 0x1108)) 0 10)
  | none => s

section
variable {s : State} {c : Nat} {w : Word} (hstart : bit w 63 = true)
include hstart

theorem State.trnStart_refused (hmay : s.trnMay c (fld w 4 3) = false) : s.trnStart c w = s.setF (fTrnRefused c) 1 := by
  simp [State.trnStart, hstart, hmay]

/-- A run that is accepted begins; a sweep has its field at the first point. -/
theorem State.trnStart_accepted (hmay : s.trnMay c (fld w 4 3) = true) (hidle : s.f (fTrnBusy c) = 0) :
    s.trnStart c w = ((s.trnBegun c w).setRun c (some ((s.trnBegun c w).runOf c w))).sweepBegun c (fld w 4 3) := by
  have hgo : ¬ (!bit w 63) = true := by simp [hstart]
  have hok : ¬ (!s.trnMay c (fld w 4 3)) = true := by simp [hmay]
  have hfree : ¬ s.f (fTrnBusy c) = 1 := by simp [hidle]
  rw [State.trnStart, if_neg hgo, if_neg hok, if_neg hfree]
  extract_lets +onlyGivenNames kept zeroed begun
  have hbegun : begun = s.trnBegun c w := rfl
  -- The comparison that is left must not compute with this state, so it stands as a variable.
  obtain ⟨u, hu⟩ : ∃ u, u = s.trnBegun c w := ⟨_, rfl⟩
  rw [hbegun, ← hu]
  rfl

/-- Without a sweep nothing is saved, and no field is set. -/
theorem State.trnStart_plain (hmay : s.trnMay c (fld w 4 3) = true) (hidle : s.f (fTrnBusy c) = 0)
    (hsweep : bit (s.reg (chOff c 0x1108)) 63 = false) : s.trnStart c w = (s.trnBegun c w).setRun c
      (some { rank := fld w 4 3, ctrl := w, sweep := s.reg (chOff c 0x1108), saved := none }) := by
  rw [← s.trnBegun_sweep c w] at hsweep
  rw [State.trnStart_accepted hstart hmay hidle, State.sweepBegun, State.trnSweep_setRun, State.runOf, State.trnSweep_off hsweep,
    s.trnBegun_sweep, Option.map_none]

end

/-! ### TRAINING_RUN_DONE (R493) -/

theorem exec_trainingRunDone (c : Fin 12) (rd : List (List (BitVec 80))) (s : State) :
    exec (.trainingRunDone c rd) s = whileUp s (·.trnDone c.val rd) := rfl

/-- The mismatches `miss b` of each bit `b` of a list are added to its counter and to the total. -/
def State.addMisses (s : State) (c : Nat) (miss : Nat → Nat) (bits : List Nat) : State :=
  bits.foldl (fun (s : State) b => (s.inc (fBitErr c b) (miss b)).inc (fTrnTotal c) (miss b)) s

theorem State.addMisses_cons (s : State) (c : Nat) (miss : Nat → Nat) (b : Nat) (bits : List Nat) :
    s.addMisses c miss (b :: bits) = ((s.inc (fBitErr c b) (miss b)).inc (fTrnTotal c) (miss b)).addMisses c miss bits := by
  simp only [State.addMisses, List.foldl_cons]

theorem State.addMisses_not_mem {c b : Nat} {bits : List Nat} (s : State) (miss : Nat → Nat) (h : b ∉ bits) :
    (s.addMisses c miss bits).f (fBitErr c b) = s.f (fBitErr c b) := by
  induction bits generalizing s with
  | nil => rfl
  | cons a bits ih =>
    rw [State.addMisses_cons, ih _ (List.not_mem_of_not_mem_cons h), State.f_inc_other _ _ _ _ (fBitErr_off_ne_stat c b),
      State.f_inc_other _ _ _ _ (fBitErr_off_ne (List.ne_of_not_mem_cons h) c)]

/-- A bit that is listed once is counted once, and saturates. -/
theorem State.addMisses_mem {c b : Nat} {bits : List Nat} (s : State) (miss : Nat → Nat) (hnd : bits.Nodup) (h : b ∈ bits) :
    (s.addMisses c miss bits).f (fBitErr c b) = min (s.f (fBitErr c b) + miss b) (2 ^ 32 - 1) := by
  induction bits generalizing s with
  | nil => exact absurd h List.not_mem_nil
  | cons a bits ih =>
    obtain ⟨ha, hnd⟩ := List.nodup_cons.mp hnd
    obtain rfl | hb := List.mem_cons.mp h
    · rw [State.addMisses_cons, State.addMisses_not_mem _ miss ha, State.f_inc_other _ _ _ _ (fBitErr_off_ne_stat c b), State.f_inc_same _ _ _ (by simp)]
    · have hba : b ≠ a := fun e => ha (e ▸ hb)
      rw [State.addMisses_cons, ih _ hnd hb, State.f_inc_other _ _ _ _ (fBitErr_off_ne_stat c b), State.f_inc_other _ _ _ _ (fBitErr_off_ne hba c)]

/-- A run without a sweep has one point, and restores no field. -/
theorem State.trnDone_plain {s : State} {c : Nat} {r : TrnRun} (rd : List (List (BitVec 80)))
    (hr : SMap.get (fun _ => none) s.trn.runs c = some r) (hsaved : r.saved = none) : s.trnDone c rd =
      ((s.addMisses c (mismatches r.ctrl rd 0) (List.range 80)).setF (fTrnBusy c) 0).setRun c none := by
  have hpoint (b : Nat) : ((List.range 1).map (fun i => mismatches r.ctrl rd i b)).foldl (· + ·) 0 = mismatches r.ctrl rd 0 b :=
    Nat.zero_add _
  simp only [State.trnDone, hr, hsaved, hpoint]
  cases sweepField c r.rank (fld r.sweep 32 4) (fld r.sweep 30 2) <;> rfl

/-! ### Delay values and timings (R489, R490, R496) -/

theorem exec_dlyWrite (who : Who) (c : Fin 12) (b : Bool) (k : Fin 8) (i : Fin 80) (w : Word) (s : State) :
    exec (.dlyWrite who c b k i w) s = whileUp s (fun s => s.when (s.mayBar0 who) (·.dlyWrite c.val b k.val i.val w)) := rfl

theorem exec_drcTimingWrite (who : Who) (c : Fin 12) (j : Fin 2) (w : Word) (s : State) :
    exec (.drcTimingWrite who c j w) s = whileUp s (fun s => s.when (s.mayBar0 who && s.f fMapValid == 0)
      (·.setReg (chOff c.val (0x1000 + 8 * j.val)) (w &&& 0x03ff03ff03ff03ff))) := rfl

theorem State.dlyWrite_training {s : State} {c k : Nat} (h : s.f (fRstate c k) = 4) (i : Nat) (w : Word) :
    s.dlyWrite c true k i w = s.setReg (chOff c (0x3000 + 0x400 * k + 8 * i)) (w &&& 0x3f3f) := by
  simp [State.dlyWrite, h]

theorem State.dlyWrite_used {s : State} {c k : Nat} (hmap : s.f fMapValid ≠ 0) (h : s.f (fRstate c k) ≠ 4) (b : Bool) (i : Nat)
    (w : Word) : s.dlyWrite c b k i w = s := by
  simp [State.dlyWrite, hmap, h]

/-! ### CAL_SNAP and nudges (R502, R503) -/

theorem exec_calSnap (who : Who) (c : Fin 12) (s : State) :
    exec (.calSnap who c) s = whileUp s (fun s => s.when (s.mayBar0 who) (·.snapshot c.val)) := rfl

/-- The nudge `w` of a rank is stored, with PENDING where a step is coded. -/
def State.stageNudge (s : State) (c k : Nat) (w : Word) : State :=
  s.setReg (offNudge c k) (putFld (w &&& 0xffffffffff) 63 1
    (if (List.range 20).any (fun i => nudgeStep (fld w (2 * i) 2) != 0) then 1 else 0))

theorem exec_calNudgeWrite (who : Who) (c : Fin 12) (k : Fin 8) (w : Word) (s : State) :
    exec (.calNudgeWrite who c k w) s = whileUp s (fun s => s.when (s.mayBar0 who && s.f (fNudgePend c.val k.val) == 0)
      (·.stageNudge c.val k.val w)) := rfl

theorem State.stageNudge_coded {w : Word} (h : (List.range 20).any (fun i => nudgeStep (fld w (2 * i) 2) != 0) = true) (s : State)
    (c k : Nat) : s.stageNudge c k w = s.setReg (offNudge c k) (putFld (w &&& 0xffffffffff) 63 1 1) := by
  rw [State.stageNudge, if_pos h]

/-! ### RANK_TRAINING_EXIT at start-up (R495, R499) -/

theorem exec_rankTrainingExit (c : Fin 12) (k : Fin 8) (ok : Bool) (s : State) :
    exec (.rankTrainingExit c k ok) s = whileUp s (·.trainingExit c.val k.val ok) := rfl

section
variable {s : State} {c k : Nat} (hboot : s.f fPhase = 2) (hmap : s.f fMapValid = 0) (hrank : s.f (fRstate c k) = 0)
include hboot hmap hrank

theorem State.trainingExit_restored (h : s.restored c k = true) :
    s.trainingExit c k true = (s.setF (fRstate c k) 1).rankFresh c k := by
  simp [State.trainingExit, hboot, hmap, hrank, h]

theorem State.trainingExit_failed : s.trainingExit c k false = (s.rankFailed c k).bootChannelFailed c := by
  simp [State.trainingExit, hboot, hmap, hrank]

end

/-! ### RESTORE_FACTORY (R500) -/

/-- Both copies of the user store are erased. -/
def State.storeErased (s : State) : State := { s with trn := { s.trn with copyA := none, copyB := none } }

theorem exec_restoreFactory {via : OwnerPath} {s : State} (h : s.ownerRuns via = true) :
    exec (.restoreFactory via) s = .next (s.storeErased.ownerEnd via 0x42 St.success) := by
  refine Eq.trans (b := execRestoreFactory via s) rfl ?_
  rw [execRestoreFactory, whileUp_of_up (State.up_of_ownerRuns h), State.owner1_done h, State.storeErased]

/-- Settles O20. -/
theorem trainingAndCalibrationCommandsAct : Obligations.TrainingAndCalibrationCommandsAct := by
  refine ⟨?_, ?_, ?_, ?_, ?_, ?_, ?_, ?_, ?_, ?_, ?_, ?_, ?_⟩
  · intro who c w s hu hwho hstart hmay hidle hsweep
    refine ⟨s.trnStart c.val w, ?_, ?_, ?_, (State.trnStart_eff s c.val w).same .dram rfl⟩
    · rw [exec_trnStart, whileUp_of_up hu, State.when_true hwho]
    · rw [State.trnStart_plain hstart hmay hidle hsweep, State.f_setRun, s.trnBegun_busy]
    · rw [State.trnStart_plain hstart hmay hidle hsweep, State.runs_setRun_same]
  · intro who c w s hu hwho hstart hmay
    rw [exec_trnStart, whileUp_of_up hu, State.when_true hwho, State.trnStart_refused hstart hmay]
  · intro c rd r s hu hr hsaved
    refine ⟨_, (exec_trainingRunDone c rd s).trans (whileUp_of_up hu _), ?_⟩
    rw [State.trnDone_plain rd hr hsaved]
    refine ⟨?_, State.runs_setRun_same .., fun b hb => ?_⟩
    · rw [State.f_setRun, State.f_setF_same _ _ _ (by simp) (by simp)]
    · rw [State.f_setRun, State.f_setF_other _ _ _ _ (fBitErr_off_ne_stat c.val b),
        State.addMisses_mem s _ List.nodup_range (List.mem_range.mpr hb)]
  · intro who c k i w s hu hwho htrn
    rw [exec_dlyWrite, whileUp_of_up hu, State.when_true hwho, State.dlyWrite_training htrn]
  · intro who c b k i w s hmap huse
    rw [exec_dlyWrite]
    exact whileUp_of_fixed (State.when_of_fixed (State.dlyWrite_used hmap huse b i.val w))
  · intro who c j w s hu hwho hmap
    rw [exec_drcTimingWrite, whileUp_of_up hu, State.when_true (by simp [hwho, hmap])]
  · intro who c j w s hmap
    rw [exec_drcTimingWrite]
    exact whileUp_of_fixed (State.when_false (by simp [hmap]) _)
  · intro who c s hu hwho
    rw [exec_calSnap, whileUp_of_up hu, State.when_true hwho]
  · intro who c k w s hu hwho hpend hcoded
    rw [exec_calNudgeWrite, whileUp_of_up hu, State.when_true (by simp [hwho, hpend]), State.stageNudge_coded hcoded]
  · intro who c k w s hpend
    rw [exec_calNudgeWrite]
    exact whileUp_of_fixed (State.when_false (by simp [hpend]) _)
  · intro c k s hu hboot hmap hrank hrestored
    rw [exec_rankTrainingExit, whileUp_of_up hu, State.trainingExit_restored hboot hmap hrank hrestored]
  · intro c k s hu hboot hmap hrank
    rw [exec_rankTrainingExit, whileUp_of_up hu, State.trainingExit_failed hboot hmap hrank]
  · intro via s h
    exact ⟨_, exec_restoreFactory h, EndsWith.ended rfl rfl via 0x42, rfl⟩

end Sys2Proof.Machine
end

section
/-! SUPPORT. Proofs. The toss, the pair's roles and its owner commands (15 R519, R522, R524, R534, R538, R539, R542, R544, R552,
18 R633). -/

set_option Elab.async false

namespace Sys2Proof.Machine

/-! ### PAIR_STAT: the pair state and the fields beside it (15 R554) -/

@[simp] theorem PairState.ofNum_num (p : PairState) : PairState.ofNum (PairState.num p) = p := by cases p <;> rfl

theorem PairState.num_lt (p : PairState) : PairState.num p < 2 ^ 3 := by cases p <;> decide

theorem State.pst_congr {s t : State} (h : t.regs = s.regs) : t.pst = s.pst := by
  rw [State.pst, State.f_congr h, State.pst]

theorem State.pst_raise (s : State) (e : Ev) (a b : Nat) : (s.raise e a b).pst = s.pst := by
  rw [State.pst, State.f_raise _ _ _ _ _ (by simp), State.pst]

@[simp] theorem State.pst_setPst (s : State) (p : PairState) : (s.setPst p).pst = p := by
  rw [State.setPst]
  split
  · assumption
  · rw [State.pst, State.f_setIrq _ _ _ (by simp), State.f_setF_same _ _ _ (by simp) (PairState.num_lt p), PairState.ofNum_num]

/-- Entering a pair state leaves the fields of other registers, GLB_INT_STATUS excepted. -/
theorem State.f_setPst_other (s : State) (p : PairState) {y : F} (ho : y.off ≠ fPst.off) (hirq : y.off ≠ 0x100) :
    (s.setPst p).f y = s.f y := by
  rw [State.setPst]
  split
  · rfl
  · rw [State.f_setIrq _ _ _ hirq, State.f_setF_other _ _ _ _ ho]

/-- Entering a pair state leaves the other fields of PAIR_STAT. -/
theorem State.f_setPst_field (s : State) (p : PairState) {y : F} (ho : y.off = fPst.off) (hy : y.lo + y.n ≤ fPst.lo) :
    (s.setPst p).f y = s.f y := by
  rw [State.setPst]
  split
  · rfl
  · rw [State.f_setIrq _ _ _ (by simp [ho]),
      State.f_setF_field _ _ _ _ ho (by simp) (by dsimp only at hy; omega) (.inl hy)]

@[simp] theorem State.setPst_pair (s : State) (p) : (s.setPst p).pair = s.pair := (State.setPst_eff s p).same .pair rfl
@[simp] theorem State.setPst_tbl (s : State) (p) : (s.setPst p).tbl = s.tbl := (State.setPst_eff s p).same .tbl rfl
@[simp] theorem State.setPst_mem (s : State) (p) : (s.setPst p).mem = s.mem := (State.setPst_eff s p).same .mem rfl

/-! ### The toss (R539, R633) -/

theorem exec_tossResend (s : State) : exec .tossResend s =
    whileUp s (fun s => s.when (s.pst == .tossing && decide (s.pair.lastToss + 100000 ≤ s.tick)) State.sendToss) := rfl

/-- The answer names the request that waits: version 1, this pair, this epoch, this device, nothing reserved set (R633). -/
def State.answers (s : State) (v : Byte) (p : BitVec 16) (e : BitVec 32) (r : BitVec 56) (n : Word) : Bool :=
  s.pst == .tossing && v == 1 && p.toNat == s.f fPairId && e.toNat == s.f fEpoch && r == 0 && n == s.reg 0x10

theorem State.answers_iff {s : State} {v : Byte} {p : BitVec 16} {e : BitVec 32} {r : BitVec 56} {n : Word} :
    s.answers v p e r n = true ↔
      s.pst = .tossing ∧ v = 1 ∧ p.toNat = s.f fPairId ∧ e.toNat = s.f fEpoch ∧ r = 0 ∧ n = s.reg 0x10 := by
  simp only [State.answers, Bool.and_eq_true, beq_iff_eq, and_assoc]

theorem exec_tossAnswer (v : Byte) (p : BitVec 16) (e : BitVec 32) (d : Byte) (r : BitVec 56) (n : Word) (s : State) :
    exec (.tossAnswer v p e d r n) s = whileUp s (fun s => s.when (s.answers v p e r n)
      (fun s => if d = 1 then s.becomeKeeper 1 else if d = 2 then s.becomeBenched else s)) := rfl

theorem exec_tossAnswer_matching {p : BitVec 16} {e : BitVec 32} {n : Word} {s : State} (d : Byte) (hu : s.up = true)
    (ht : s.pst = .tossing) (hp : p.toNat = s.f fPairId) (he : e.toNat = s.f fEpoch) (hn : n = s.reg 0x10) :
    exec (.tossAnswer 1 p e d 0 n) s =
      .next (if d = 1 then s.becomeKeeper 1 else if d = 2 then s.becomeBenched else s) := by
  rw [exec_tossAnswer, whileUp_of_up hu, State.when_true (State.answers_iff.mpr ⟨ht, rfl, hp, he, rfl, hn⟩)]

theorem exec_tossTimeout (s : State) : exec .tossTimeout s =
    whileUp s (fun s => s.when (s.pst == .tossing && decide (s.pair.lossTick + 1000000 ≤ s.tick))
      (fun s => if s.isAway then s.becomeBenched else s.becomeKeeper 2)) := rfl

theorem exec_tossTimeout_due {s : State} (hu : s.up = true) (ht : s.pst = .tossing) (hd : s.pair.lossTick + 1000000 ≤ s.tick) :
    exec .tossTimeout s = .next (if s.isAway then s.becomeBenched else s.becomeKeeper 2) := by
  rw [exec_tossTimeout, whileUp_of_up hu, State.when_true (by simp [ht, hd])]

theorem exec_partnerLossDetect (s : State) : exec .partnerLossDetect s =
    whileUp s (fun s => s.when (s.pst == .tossing && !s.pair.up) (fun s => (s.setF fAliveIn 0).becomeKeeper 3)) := rfl

/-! ### A member with nothing waiting becomes KEEPER (R519, R542) -/

/-- No write, mutation or request of this member waits for the pair, and no table is defined (R541, R542). -/
def State.nothingWaits (s : State) : Prop :=
  s.pair.memWait = [] ∧ s.pair.awaitApplied = [] ∧ s.pair.doneWait = [] ∧ s.pair.awaitDone = [] ∧ s.pair.held = [] ∧ s.tbl = []

/-- The registers and the memory of one state are another's. -/
def State.sameRegsMem (s t : State) : Prop := t.regs = s.regs ∧ t.mem = s.mem

/-- With nothing waiting, what a new KEEPER ends and admits is in the trie's builds only (R541, R542). -/
theorem State.keeperEnds_idle {s : State} (h : s.nothingWaits) : s.sameRegsMem s.keeperEnds.admitHeld := by
  obtain ⟨hmem, happ, hdone, hfwd, hheld, htbl⟩ := h
  have hdrop : s.sameRegsMem ((s.updPair (fun p =>
      { p with memWait := [], awaitApplied := [], doneWait := [], awaitDone := [] })).dropForeign) := by
    simp [State.sameRegsMem, State.dropForeign, htbl]
  rw [State.keeperEnds, hmem, happ, hdone, hfwd]
  exact hdrop

/-- A member takes KEEPER's role (R519): home, the epoch raised by 1, its cause, and no longer fresh. -/
def State.takeKeeper (s : State) (cause : Nat) : State :=
  ((((s.setF fEpoch (s.f fEpoch + 1)).setF fKeepCause cause).setF fRole 0).updPair (fun p => { p with fresh := false })).setPst
    .keeper

section
variable {s : State} {cause : Nat}

theorem State.takeKeeper_f {y : F} (ho : y.off = fPst.off) (hy : y.lo + y.n ≤ fPst.lo) : (s.takeKeeper cause).f y =
    (((s.setF fEpoch (s.f fEpoch + 1)).setF fKeepCause cause).setF fRole 0).f y :=
  (State.f_setPst_field _ _ ho hy).trans (State.f_congr (State.updPair_regs ..) y)

theorem State.takeKeeper_role : (s.takeKeeper cause).f fRole = 0 := by
  rw [State.takeKeeper_f (y := fRole) rfl (by decide), State.f_setF_same _ _ _ (by decide) (by decide)]

theorem State.takeKeeper_cause (hc : cause < 2 ^ 3) : (s.takeKeeper cause).f fKeepCause = cause := by
  rw [State.takeKeeper_f (y := fKeepCause) rfl (by decide),
    State.f_setF_field _ fRole fKeepCause _ rfl (by decide) (by decide) (by decide), State.f_setF_same _ _ _ (by decide) hc]

theorem State.takeKeeper_epoch (he : s.f fEpoch + 1 < 2 ^ 32) : (s.takeKeeper cause).f fEpoch = s.f fEpoch + 1 := by
  rw [State.takeKeeper_f (y := fEpoch) rfl (by decide),
    State.f_setF_field _ fRole fEpoch _ rfl (by decide) (by decide) (by decide),
    State.f_setF_field _ fKeepCause fEpoch _ rfl (by decide) (by decide) (by decide), State.f_setF_same _ _ _ (by decide) he]

/-- The toss's winner takes the role and raises TOSS_RESULT (R539). -/
def State.winToss (s : State) (cause : Nat) : State :=
  (s.takeKeeper cause).raise .tossResult ((s.takeKeeper cause).f fEpoch) (cause * 256)

theorem State.winToss_f {y : F} (ho : y.off = fPst.off) : (s.winToss cause).f y = (s.takeKeeper cause).f y :=
  State.f_raise _ _ _ _ _ (by simp [ho])

theorem State.winToss_pst : (s.winToss cause).pst = .keeper := by
  rw [State.winToss, State.pst_raise, State.takeKeeper, State.pst_setPst]

theorem State.winToss_idle (h : s.nothingWaits) : (s.winToss cause).nothingWaits := by
  simpa [State.nothingWaits, State.winToss, State.takeKeeper] using h

theorem State.sameRegsMem_linkSend (u : State) (b : Bool) (m : LinkMsg) : u.sameRegsMem (if b then u.linkSend m else u) := by
  cases b <;> exact ⟨rfl, rfl⟩

theorem State.becomeKeeper_tossing (ht : s.pst = .tossing) (hc : cause ≠ 3) :
    (s.winToss cause).keeperEnds.admitHeld.sameRegsMem (s.becomeKeeper cause) := by
  unfold State.becomeKeeper
  extract_lets lost raised named keeper told result ended
  have hlost : lost = true := beq_iff_eq.mpr ht
  have htold : told = s.takeKeeper cause := if_neg hc
  have hresult : result = s.winToss cause :=
    (if_pos hlost).trans (congrArg (fun u : State => u.raise .tossResult (u.f fEpoch) (cause * 256)) htold)
  have hended : ended = (s.winToss cause).keeperEnds.admitHeld := congrArg (fun u : State => u.keeperEnds.admitHeld) hresult
  rw [← hended]
  exact State.sameRegsMem_linkSend ..

/-- A TOSSING member with nothing waiting that becomes KEEPER holds role home, the epoch raised by 1 and its cause, and its
memory is as it was. -/
theorem State.becomeKeeper_idle (h : s.nothingWaits) (ht : s.pst = .tossing) (he : s.f fEpoch + 1 < 2 ^ 32) (hc : cause < 3) :
    (s.becomeKeeper cause).pst = .keeper ∧ (s.becomeKeeper cause).f fKeepCause = cause ∧
      (s.becomeKeeper cause).f fEpoch = s.f fEpoch + 1 ∧ (s.becomeKeeper cause).isAway = false ∧
      (s.becomeKeeper cause).mem = s.mem := by
  obtain ⟨hr, hm⟩ := State.becomeKeeper_tossing (cause := cause) ht (by omega)
  obtain ⟨hr', hm'⟩ := State.keeperEnds_idle (State.winToss_idle (cause := cause) h)
  have hregs := hr.trans hr'
  refine ⟨?_, ?_, ?_, ?_, ?_⟩
  · rw [State.pst_congr hregs, State.winToss_pst]
  · rw [State.f_congr hregs, State.winToss_f (y := fKeepCause) rfl, State.takeKeeper_cause (by omega)]
  · rw [State.f_congr hregs, State.winToss_f (y := fEpoch) rfl, State.takeKeeper_epoch he]
  · rw [State.isAway, State.f_congr hregs, State.winToss_f (y := fRole) rfl, State.takeKeeper_role]
    rfl
  · rw [hm, hm']
    simp [State.winToss, State.takeKeeper]

end

/-! ### PAIR_BENCH and PAIR_JOIN (R524, R544, R552) -/

theorem exec_pairBench (via : OwnerPath) (s : State) : exec (.pairBench via) s =
    whileUp s (fun s => s.owner1 via 0x51 (firstBad [(!s.member || s.pst != .paired, St.locked)])
      (fun s => s.becomeBenched.linkSend (.hello s.becomeBenched.ownHello))) := rfl

/-- A fresh LINKING member that has seen no HELLO notes the join (R552). -/
theorem exec_pairJoin_noPeer {via : OwnerPath} {s : State} (h : s.ownerRuns via = true) (hm : s.member = true)
    (hl : s.pst = .linking) (hf : s.pair.fresh = true) (hp : s.pair.peer = none) :
    exec (.pairJoin via) s = .next ((s.updPair (fun p => { p with join := true })).ownerEnd via 0x52 St.success) := by
  have hbad : firstBad [(!s.member || s.pst != .linking || !s.pair.fresh, St.locked)] = none := by simp [firstBad, hm, hl, hf]
  have hx : exec (.pairJoin via) s = execPairJoin via s := rfl
  rw [hx, execPairJoin, whileUp_of_up (State.up_of_ownerRuns h), hbad, State.owner1_done h]
  simp only [State.updPair_pair, hp]

/-! ### MIRROR_REGION (R534, R554) -/

/-- The region that the word of a PAIR_REGION register defines, if its V is set (R554). -/
def regionOfWord (w : Word) : Option RegionDef :=
  if bit w 63 then some ⟨w.extractLsb' 0 16, w.extractLsb' 32 16, Fin.ofNat 4096 (fld w 48 12), bit w 62⟩ else none

theorem regionWord_toNat (r : RegionDef) : (regionWord r).toNat =
    r.base.toNat + r.count.toNat * 2 ^ 32 + r.domain.val * 2 ^ 48 + r.side.toNat * 2 ^ 62 + 2 ^ 63 := by
  have hb := r.base.isLt
  have hc := r.count.isLt
  have hd := r.domain.isLt
  rw [regionWord, BitVec.toNat_ofNat]
  cases r.side <;> simp only [Bool.toNat_true, Bool.toNat_false, reduceIte, Bool.false_eq_true] <;> omega

/-- A register's word holds its region. -/
@[simp] theorem regionOfWord_regionWord (r : RegionDef) : regionOfWord (regionWord r) = some r := by
  have hw := regionWord_toNat r
  have hb := r.base.isLt
  have hc := r.count.isLt
  have hd := r.domain.isLt
  have hs := r.side.toNat_le
  have hvalid : bit (regionWord r) 63 = true := by
    rw [bit, ← BitVec.testBit_toNat, Nat.testBit_eq_decide_div_mod_eq]
    simp only [decide_eq_true_eq]
    omega
  have hside : bit (regionWord r) 62 = r.side := by
    rw [bit, ← BitVec.testBit_toNat, Nat.testBit_eq_decide_div_mod_eq]
    cases hr : r.side <;> simp only [hr, Bool.toNat_true, Bool.toNat_false] at hw <;>
      simp only [decide_eq_true_eq, decide_eq_false_iff_not] <;> omega
  have hbase : (regionWord r).extractLsb' 0 16 = r.base := by
    apply BitVec.eq_of_toNat_eq
    rw [BitVec.extractLsb'_toNat, Nat.shiftRight_eq_div_pow]
    omega
  have hcount : (regionWord r).extractLsb' 32 16 = r.count := by
    apply BitVec.eq_of_toNat_eq
    rw [BitVec.extractLsb'_toNat, Nat.shiftRight_eq_div_pow]
    omega
  have hdomain : Fin.ofNat 4096 (fld (regionWord r) 48 12) = r.domain := by
    apply Fin.ext
    rw [Fin.val_ofNat, fld, BitVec.extractLsb'_toNat, Nat.shiftRight_eq_div_pow]
    omega
  rw [regionOfWord, if_pos hvalid, hside, hbase, hcount, hdomain]

theorem State.regions_congr {s t : State} (h : t.regs = s.regs) : t.regions = s.regions := by
  simp only [State.regions, State.reg_congr h]

theorem State.regions_eq (s : State) : s.regions = (List.range 64).filterMap (fun n => regionOfWord (s.reg (0x3c0100 + 8 * n))) := rfl

/-- The word that a list of regions puts into PAIR_REGION register `n`. -/
def regionAt (rs : List RegionDef) (n : Nat) : Word := match rs[n]? with | some r => regionWord r | none => 0

theorem regionOfWord_regionAt (rs : List RegionDef) (n : Nat) : regionOfWord (regionAt rs n) = rs[n]? := by
  rw [regionAt]
  cases rs[n]? with
  | some r => exact regionOfWord_regionWord r
  | none => rfl

theorem State.putRegions_eq (s : State) (rs : List RegionDef) :
    s.putRegions rs = (List.range 64).foldl (fun s n => s.setReg (0x3c0100 + 8 * n) (regionAt rs n)) s := rfl

theorem State.reg_foldl_setRegion (g : Nat → Word) (s : State) {k n : Nat} (h : n < k) :
    ((List.range k).foldl (fun s n => s.setReg (0x3c0100 + 8 * n) (g n)) s).reg (0x3c0100 + 8 * n) = g n := by
  induction k with
  | zero => omega
  | succ k ih =>
    rw [List.range_succ, List.foldl_append, List.foldl_cons, List.foldl_nil]
    by_cases hk : n = k
    · rw [hk, State.reg_setReg_same]
    · rw [State.reg_setReg_other _ _ _ _ (by omega), ih (by omega)]

theorem filterMap_getElem?_range {α : Type} (l : List α) {k : Nat} (h : l.length ≤ k) :
    (List.range k).filterMap (fun n => l[n]?) = l := by
  induction l generalizing k with
  | nil => simp
  | cons a l ih =>
    obtain ⟨k, rfl⟩ := Nat.exists_eq_succ_of_ne_zero (show k ≠ 0 by rw [List.length_cons] at h; omega)
    rw [List.range_succ_eq_map, List.filterMap_cons, List.filterMap_map]
    exact congrArg (a :: ·) (ih (by rw [List.length_cons] at h; omega))

theorem State.putRegions_pair (s : State) (rs : List RegionDef) : (s.putRegions rs).pair = s.pair :=
  (State.putRegions_eff s rs).same .pair rfl

theorem State.putRegions_mbox (s : State) (rs : List RegionDef) : (s.putRegions rs).mbox = s.mbox :=
  (State.putRegions_eff s rs).same .mbox rfl
theorem State.putRegions_tick (s : State) (rs : List RegionDef) : (s.putRegions rs).tick = s.tick :=
  (State.putRegions_eff s rs).same .tick rfl

/-- At most 64 regions read back as they were put. -/
theorem State.regions_putRegions (s : State) {rs : List RegionDef} (h : rs.length ≤ 64) : (s.putRegions rs).regions = rs := by
  rw [State.regions_eq, State.putRegions_eq]
  calc (List.range 64).filterMap _
      = (List.range 64).filterMap (fun n => rs[n]?) :=
        List.filterMap_congr fun n hn => by rw [State.reg_foldl_setRegion _ _ (List.mem_range.mp hn), regionOfWord_regionAt]
    _ = rs := filterMap_getElem?_range rs h

/-- MIRROR_REGION of a PAIRED home that has no region yet: the region is put, and the partner told. -/
theorem exec_mirrorRegion_done {via : OwnerPath} {base : BitVec 64} {n d : BitVec 16} {s : State} (h : s.ownerRuns via = true)
    (hm : s.member = true) (hp : s.pst = .paired) (haw : s.isAway = false) (hal : base.toNat % 2 ^ 28 = 0)
    (hend : base.toNat + n.toNat * 2 ^ 28 ≤ 2 ^ 44) (hn : n ≠ 0) (hd : d.toNat < 4096) (hr : s.regions = []) (hlen : n.toNat ≤ 8192)
    (hmap : s.ldMaps base.toNat (base.toNat + n.toNat * 2 ^ 28) = false) {r : RegionDef}
    (he : r = ⟨BitVec.ofNat 16 (base.toNat / 2 ^ 28), n, Fin.ofNat 4096 d.toNat, true⟩) :
    exec (.mirrorRegion via base n d 1) s =
      .next (((s.putRegions [r]).linkSend (.regionList [r])).ownerEnd via 0x50 St.success) := by
  subst he
  have hx : exec (.mirrorRegion via base n d 1) s = execMirrorRegion via base n d 1 s := rfl
  rw [hx, execMirrorRegion, whileUp_of_up (State.up_of_ownerRuns h), hr]
  dsimp only
  rw [show firstBad _ = none by simpa [firstBad, hm, hp, haw, hlen] using ⟨⟨⟨⟨hal, hend⟩, hn⟩, hd⟩, hmap⟩,
    State.owner1_done h]
  rfl

/-- Settles O17, a clause at a time from the equations of its commands. -/
theorem tossAndRoleCommandsAct : Obligations.TossAndRoleCommandsAct := by
  refine ⟨?_, ?_, ?_, ?_, ?_, ?_, ?_, ?_, ?_, ?_, ?_⟩
  · intro s hu ht hd
    rw [exec_tossResend, whileUp_of_up hu, State.when_true (by simp [ht, hd])]
    rfl
  · intro p e n s hu ht hp he hn
    rw [exec_tossAnswer_matching 1 hu ht hp he hn, if_pos rfl]
  · intro p e n s hu ht hp he hn
    rw [exec_tossAnswer_matching 2 hu ht hp he hn, if_neg (by decide), if_pos rfl]
  · intro v p e d r n s hne
    rw [exec_tossAnswer]
    refine whileUp_of_fixed ?_
    by_cases hd : d = 1 ∨ d = 2
    · refine State.when_false (Bool.eq_false_iff.mpr fun ha => ?_) _
      obtain ⟨ht, hv, hp, he, hr, hn⟩ := State.answers_iff.mp ha
      rcases hne with h | h | h | h | ⟨h1, h2⟩ | h | h
      · exact h ht
      · exact h hv
      · exact h hp
      · exact h he
      · exact hd.elim h1 h2
      · exact h hr
      · exact h hn
    · refine State.when_of_fixed ?_
      rw [if_neg fun h => hd (.inl h), if_neg fun h => hd (.inr h)]
  · intro s hu ht hd haw
    rw [exec_tossTimeout_due hu ht hd, if_pos haw]
  · intro s hu ht hd haw he hmem happ hdone hfwd hheld htbl
    refine ⟨_, (exec_tossTimeout_due hu ht hd).trans (by rw [if_neg (by simp [haw])]), ?_⟩
    exact State.becomeKeeper_idle ⟨hmem, happ, hdone, hfwd, hheld, htbl⟩ ht he (by decide)
  · intro s hu ht hdown
    rw [exec_partnerLossDetect, whileUp_of_up hu, State.when_true (by simp [ht, hdown])]
  · intro via s h hm hp
    rw [exec_pairBench, whileUp_of_up (State.up_of_ownerRuns h), show firstBad _ = none by simp [firstBad, hm, hp],
      State.owner1_done h]
  · intro via s h hp
    rw [exec_pairBench, whileUp_of_up (State.up_of_ownerRuns h), show firstBad _ = some St.locked by simp [firstBad, hp],
      State.owner1_refused h]
  · intro via s h hm hl hf hp
    exact ⟨_, exec_pairJoin_noPeer h hm hl hf hp, rfl, EndsWith.ended rfl rfl via 0x52, rfl⟩
  · intro via base n d s h hm hp haw hal hend hn hd hr hlen hmap
    refine ⟨_, exec_mirrorRegion_done h hm hp haw hal hend hn hd hr hlen hmap rfl, EndsWith.ended ?_ ?_ via 0x50, ?_, ?_⟩
    · rw [State.linkSend_mbox, State.putRegions_mbox]
    · rw [State.linkSend_tick, State.putRegions_tick]
    · rw [State.ownerEnd_pair, State.linkSend_pair, State.putRegions_pair]
    · rw [State.regions_congr (State.ownerEnd_regs ..), State.regions_congr (State.linkSend_regs ..),
        State.regions_putRegions s (by simp)]

end Sys2Proof.Machine
end

section
/-! SUPPORT. Proofs. Mirrored changes, MIR_READY, APPLIED and forwarded mutations (15 R526, R527, R529, R530, R532, R548, R549). -/

set_option Elab.async false

namespace Sys2Proof.Machine

/-! ### MIR_OP, RESYNC_ROW and MIR_OP_COMMIT (R526, R527, R548, R549) -/

theorem exec_mirOp (m : MirMsg) (s : State) : exec (.mirOp m) s = whileUp s (fun s => s.when s.pair.up (fun s =>
    if s.joining then s.joinIn m else s.when (s.pst == .paired && s.isAway) (·.mirReserve m))) := rfl

theorem exec_resyncRow (m : MirMsg) (s : State) : exec (.resyncRow m) s =
    whileUp s (fun s => s.when (s.pair.up && s.joining) (·.joinIn m)) := rfl

theorem exec_mirOpCommit (s : State) : exec .mirOpCommit s = whileUp s State.mirNext := rfl

theorem State.mirNext_due {s : State} {m : MirMsg} (h : s.mirDue = some m) : s.mirNext = s.mirCommit m := by
  rw [State.mirNext, h]

theorem State.mirDropRelocsOf_none {s : State} (h : s.mnt.relocs = []) (t : Nat) (hs : List Nat) : s.mirDropRelocsOf t hs = s := by
  rw [State.mirDropRelocsOf, h]
  rfl

/-- A direct entry's change writes its word (R526). -/
theorem State.mirApply_direct {s : State} {m : MirMsg} (h : m.kind = .direct) (hr : s.mnt.relocs = []) (resv : Option Nat) :
    s.mirApply m resv = s.setDword (1024 * (s.tb m.table.val).regionBase + m.handle.toNat) m.res := by
  simp only [State.mirApply, State.mirDropRelocsOf_none hr, h]

/-! ### MIR_READY (R529) -/

theorem exec_mirReady (t : TableId) (q : Nat) (s : State) : exec (.mirReady t q) s =
    whileUp s (fun s => s.when (s.pair.up && !s.isAway) (·.mirReadyIn t.val q)) := rfl

/-- The lock and the load of a table's record that wait for PREPARE `q` may commit. -/
def Tbl.readied (q : Nat) (r : Tbl) : Tbl :=
  { r with lock := r.lock.map (fun l => if l.prep == some q then { l with ready := true } else l),
           bulk := r.bulk.map (fun b => if b.prep == some q then { b with ready := true } else b) }

theorem Tbl.readied_lock {r : Tbl} {l : Lock} {q : Nat} (h : r.lock = some l) (hp : l.prep = some q) :
    (r.readied q).lock = some { l with ready := true } := by
  simp [Tbl.readied, h, hp]

/-- Beside the record of its table, MIR_READY changes the trie's builds only. -/
theorem State.mirReadyIn_readies (s : State) (t q : Nat) :
    (s.mirReadyIn t q).tbl = (s.updTb t (·.readied q)).tbl ∧ (s.mirReadyIn t q).regs = s.regs ∧ (s.mirReadyIn t q).arr = s.arr := by
  rw [State.mirReadyIn]
  dsimp only
  split
  · split <;> exact ⟨rfl, rfl, rfl⟩
  · exact ⟨rfl, rfl, rfl⟩

/-! ### APPLIED (R530, R547) -/

theorem exec_applied (t : TableId) (q h : Nat) (s : State) : exec (.applied t q h) s =
    whileUp s (fun s => s.when s.pair.up (·.appliedIn t.val q)) := rfl

theorem State.cover_awaitApplied (s : State) (t q : Nat) : (s.cover t q).pair.awaitApplied = s.pair.awaitApplied := rfl

/-- Ending a mutation leaves those that await APPLIED. -/
theorem State.resolve_awaitApplied (s : State) (o : Origin) (r : Outc) :
    (s.resolve o r).pair.awaitApplied = s.pair.awaitApplied := by
  cases o <;> rfl

/-- The mutation awaits an APPLIED of table `t` up to sequence number `q`. -/
def appliedBy (t q : Nat) (e : Nat × Nat × Origin × Outc) : Bool := e.1 == t && decide (e.2.1 ≤ q)

theorem State.appliedIn_awaitApplied (s : State) (t q : Nat) :
    (s.appliedIn t q).pair.awaitApplied = s.pair.awaitApplied.filter (fun e => !appliedBy t q e) := by
  refine List.foldlRecOn (motive := fun u : State => u.pair.awaitApplied = s.pair.awaitApplied.filter (fun e => !appliedBy t q e))
    _ _ ?_ fun u hu e _ => ?_
  · exact congrArg (List.filter _) (s.cover_awaitApplied t q)
  · rw [State.resolve_awaitApplied, hu]

/-! ### MUT_DONE (R530, R532) -/

theorem exec_mutDone (q : Nat) (b : MutBody) (h : Nat) (s : State) : exec (.mutDone q b h) s =
    whileUp s (fun s => s.when s.pair.up (·.mutDoneIn q b h)) := rfl

/-- The outcome that a MUT_DONE of home tick `h` gives the mutation of table `t`. -/
def State.mutDoneOutc (s : State) (b : MutBody) (t h : Nat) : Outc := mutOutc b t (if h = 0 then 0 else (s.localTick h).toNat)

/-- To end the mutation is all that MUT_DONE asks of this member: the mutation failed, or its table is of neither pair mode and
it is no READ_BY_HANDLE. -/
def State.doneIsAll (s : State) (b : MutBody) : Prop :=
  b.status.toNat ≠ St.success ∨ (s.isCascade (s.f fMaintTable) = false ∧ s.isMirror (s.f fMaintTable) = false ∧
    s.maintReq.opcode ≠ 0x13)

/-- A MUT_DONE that no commit of this member's own has to precede, and that asks nothing further of it, completes the mutation
of the command-register path; `u` is the state in which it awaits MUT_DONE no more. -/
theorem State.mutDoneIn_cmdPath {s u : State} {q : Nat} {b : MutBody} (h : Nat)
    (hf : s.pair.awaitDone.find? (fun e => e.1 == q) = some (q, .cmdPath))
    (hu : s.updPair (fun p => { p with awaitDone := p.awaitDone.erase (q, .cmdPath) }) = u) (hm : u.pair.mirIn = [])
    (hb : u.doneIsAll b) : s.mutDoneIn q b h = u.resolve .cmdPath (u.mutDoneOutc b (u.f fMaintTable) h) := by
  rw [State.mutDoneIn, hf]
  dsimp only
  rw [hu]
  simp only [State.mutTable, hm, List.any_nil, Bool.false_eq_true, if_false, State.mutReq]
  rcases hb with hfail | ⟨hcascade, hmirror, hread⟩
  · simp only [hfail, decide_false, Bool.and_false, Bool.false_and, Bool.false_eq_true, if_false]
    rfl
  · simp only [hcascade, hmirror, hread, Bool.false_and, Bool.false_eq_true, if_false, decide_false, Bool.and_false]
    rfl

/-! ### FWD_MUT (R532) -/

theorem exec_fwdMut (q : Nat) (c : Id12) (a : Nat) (l1 l2 : Line) (s : State) : exec (.fwdMut q c a l1 l2) s =
    whileUp s (fun s => s.when (s.pair.up && s.pst == .paired)
      (fun s => (s.updPair (fun p => { p with fwdIn := p.fwdIn ++ [(q, c.val, a, l1, l2)] })).fwdRetry)) := rfl

/-- A forwarded LOCK that the gate admits is carried out for the partner's context (05 R176). -/
theorem State.runFwd_lock {s : State} {q c a : Nat} {l1 l2 : Line} (hg : s.gate (hTable l1) = .go) (ho : hOp l1 = 0x16) :
    s.runFwd (q, c, a, l1, l2) = some (s.doLock (.fwd q) (8192 + c)
      { n := q, slots := 2, accept := a, opcode := hOp l1, table := hTable l1, flags := hFlags l1, tag := hTag l1,
        slot1 := l1, slot2 := l2 }) := by
  simp only [State.runFwd, hg, ho]

/-- With none waiting, a forwarded mutation that does not wait is the only one tried. -/
theorem State.fwdRetry_only {s t : State} {e : Nat × Nat × Nat × Line × Line} (hw : s.pair.fwdIn = []) (h : s.runFwd e = some t) :
    (s.updPair (fun p => { p with fwdIn := p.fwdIn ++ [e] })).fwdRetry = t := by
  have hnone : s.updPair (fun p => { p with fwdIn := [] }) = s :=
    congrArg (fun l => s.updPair (fun p => { p with fwdIn := l })) hw.symm
  have hone : (s.updPair (fun p => { p with fwdIn := p.fwdIn ++ [e] })).pair.fwdIn = [e] := by
    rw [State.updPair_pair, hw, List.nil_append]
  rw [State.fwdRetry, hone, List.foldl_cons, List.foldl_nil]
  change (match (s.updPair (fun p => { p with fwdIn := [] })).runFwd e with | some s => s | none => _) = t
  rw [hnone, h]

/-- Settles O18, a clause at a time from the equations of its commands. -/
theorem mirroredChangeMessagesAct : Obligations.MirroredChangeMessagesAct := by
  refine ⟨?_, ?_, ?_, ?_, ?_, ?_, ?_, ?_, ?_, ?_⟩
  · intro m s hu hl hj hp haw
    rw [exec_mirOp, whileUp_of_up hu, State.when_true hl, if_neg (by simp [hj]), State.when_true (by simp [hp, haw])]
  · intro m s hu hl hj
    rw [exec_mirOp, whileUp_of_up hu, State.when_true hl, if_pos hj]
  · intro m s hu hd
    rw [exec_mirOpCommit, whileUp_of_up hu, State.mirNext_due hd]
  · intro m s hu hl hj
    rw [exec_resyncRow, whileUp_of_up hu, State.when_true (by simp [hl, hj])]
  · exact fun m s => rfl
  · exact fun m r s hk hr => State.mirApply_direct hk hr r
  · intro t q l s hu hl haw hlock hprep
    obtain ⟨htbl, hregs, harr⟩ := s.mirReadyIn_readies t.val q
    refine ⟨s.mirReadyIn t.val q, ?_, ?_, fun k hk => ?_, hregs, harr⟩
    · rw [exec_mirReady, whileUp_of_up hu, State.when_true (by simp [hl, haw])]
    · rw [State.tb_congr htbl, State.updTb, State.tb_setTb_same, Tbl.readied_lock hlock hprep]
    · rw [State.tb_congr htbl, State.updTb, State.tb_setTb_other _ _ hk]
  · intro t q h s hu hl
    refine ⟨_, ?_, s.appliedIn_awaitApplied t.val q⟩
    rw [exec_applied, whileUp_of_up hu, State.when_true hl]
  · intro q b h s hu hl hw hm hb
    have hfind : s.pair.awaitDone.find? (fun e => e.1 == q) = some (q, .cmdPath) := by rw [hw, List.find?_cons_of_pos (by simp)]
    have hnone : s.updPair (fun p => { p with awaitDone := p.awaitDone.erase (q, .cmdPath) }) =
        { s with pair := { s.pair with awaitDone := [] } } := by rw [State.updPair, hw, List.erase_cons_head]
    rw [exec_mutDone, whileUp_of_up hu, State.when_true hl, State.mutDoneIn_cmdPath h hfind hnone hm hb]
    rfl
  · intro q a c l1 l2 s hu hl hp hw hg ho
    rw [exec_fwdMut, whileUp_of_up hu, State.when_true (by simp [hl, hp]), State.fwdRetry_only hw (State.runFwd_lock hg ho)]

end Sys2Proof.Machine
end

section
/-! SUPPORT. Proofs. What a read of a line returns, over the reads that the device's engines make (01 R14, R28; 12 R419, R438,
R450, R451): it may count, report, cache and migrate, and it returns what it returned before. -/

set_option Elab.async false

namespace Sys2Proof.Machine

/-! ### The LDs' segments -/

/-- Every LD maps the same segments in both states (10 R339). -/
def State.sameSegs (s t : State) : Prop := ∀ n, (t.ld n).segs = (s.ld n).segs

theorem State.sameSegs.trans {s t u : State} (h : s.sameSegs t) (k : t.sameSegs u) : s.sameSegs u := fun n => (k n).trans (h n)

theorem State.sameSegs_of_lds {s t : State} (h : t.lds = s.lds) : s.sameSegs t := fun n => by rw [State.ld_congr h]

theorem State.sameSegs_updLd (s : State) (n : Nat) {f : Ld → Ld} (h : ∀ l, (f l).segs = l.segs) : s.sameSegs (s.updLd n f) := by
  intro m
  by_cases hm : m = n
  · rw [hm, State.ld_updLd_same, h]
  · rw [State.ld_updLd_other _ _ hm]

theorem State.sameSegs_foldl {α : Type} (l : List α) {f : State → α → State} (h : ∀ (s : State) a, s.sameSegs (f s a)) (s : State) :
    s.sameSegs (l.foldl f s) :=
  List.foldlRecOn (motive := fun t : State => s.sameSegs t) l f (fun _ => rfl) fun t ht a _ => ht.trans (h t a)

theorem Ld.logEvt_segs (l : Ld) (k : Nat) (e : Evt) : (l.logEvt k e).segs = l.segs := by
  rw [Ld.logEvt]
  split <;> rfl

theorem State.sameSegs_logged (s : State) (n k : Nat) (e : Evt) : s.sameSegs ((s.updLd n (·.logEvt k e)).logIrq n k) :=
  (s.sameSegs_updLd n fun l => l.logEvt_segs k e).trans (State.sameSegs_of_lds ((State.logIrq_eff _ _ _).same .lds rfl))

theorem State.sameSegs_logCxl (s : State) (e : Evt) : s.sameSegs (s.logCxl e) := by
  rw [State.logCxl]
  split
  · exact fun _ => rfl
  · refine State.sameSegs_foldl _ (fun t n => ?_) s
    split
    · exact t.sameSegs_logged n _ e
    · exact fun _ => rfl
  · refine State.sameSegs_foldl _ (fun t n => ?_) s
    split
    · exact t.sameSegs_logged n _ e
    · exact fun _ => rfl

theorem State.sameSegs_raise (s : State) (ev : Ev) (a b : Nat) : s.sameSegs (s.raise ev a b) := by
  rw [State.raise, State.raiseAt]
  dsimp only
  refine State.sameSegs.trans ?_ (State.sameSegs_of_lds (State.evtCheck_lds _))
  refine State.sameSegs.trans ?_ (State.sameSegs_logCxl _ _)
  split
  · exact fun _ => rfl
  · exact State.sameSegs_of_lds (State.setIrq_lds _ _)

theorem State.sameSegs_recordPoison (s : State) (a : Nat) : s.sameSegs (s.recordPoison a) := by
  refine State.sameSegs_foldl _ (fun t n => ?_) s
  split
  · refine t.sameSegs_updLd n fun l => ?_
    split
    · rfl
    · split <;> rfl
  · exact fun _ => rfl

theorem State.sameSegs_poisonLine (s : State) (a : Nat) : s.sameSegs (s.poisonLine a) :=
  State.sameSegs.trans (t := s.setPoison a true) (fun _ => rfl) (State.sameSegs_recordPoison _ a)

/-! ### What a read depends on -/

/-- The parts of the placement stage that a read of a line depends on. -/
def Tier.readPart (x : Tier) : SMap Page × SMap (Option MigSlot) × Option Rot × SMap (Option (BitVec 512)) × SMap Bool :=
  (x.pages, x.slots, x.rot, x.sealed, x.lrLines)

/-- All that a read of a line of page `q` depends on is the same in both states: the bytes, the placement and the descriptor in
force, the page's key state, and what names the domain and its keys. -/
structure State.ReadsAlike (q : Nat) (s t : State) : Prop where
  mem : t.mem = s.mem
  tbl : t.tbl = s.tbl
  dsram : t.dsram = s.dsram
  life : t.life = s.life
  segs : s.sameSegs t
  rot : t.tier.rot = s.tier.rot
  sealed : t.tier.sealed = s.tier.sealed
  lrLines : t.tier.lrLines = s.tier.lrLines
  newkey : (t.page q).newkey = (s.page q).newkey
  st : (t.pageNow q).st = (s.pageNow q).st
  zmap : (t.pageNow q).zmap = (s.pageNow q).zmap

theorem State.ReadsAlike.refl (q : Nat) (s : State) : s.ReadsAlike q s :=
  ⟨rfl, rfl, rfl, rfl, fun _ => rfl, rfl, rfl, rfl, rfl, rfl, rfl⟩

theorem State.ReadsAlike.trans {q : Nat} {s t u : State} (h : s.ReadsAlike q t) (k : t.ReadsAlike q u) : s.ReadsAlike q u where
  mem := k.mem.trans h.mem
  tbl := k.tbl.trans h.tbl
  dsram := k.dsram.trans h.dsram
  life := k.life.trans h.life
  segs := h.segs.trans k.segs
  rot := k.rot.trans h.rot
  sealed := k.sealed.trans h.sealed
  lrLines := k.lrLines.trans h.lrLines
  newkey := k.newkey.trans h.newkey
  st := k.st.trans h.st
  zmap := k.zmap.trans h.zmap

theorem State.ReadsAlike.foldl {α : Type} {q : Nat} (l : List α) {f : State → α → State}
    (h : ∀ a ∈ l, ∀ s : State, s.ReadsAlike q (f s a)) (s : State) : s.ReadsAlike q (l.foldl f s) :=
  List.foldlRecOn (motive := fun t : State => s.ReadsAlike q t) l f (.refl q s) fun t ht a ha => ht.trans (h a ha t)

theorem State.region_congr {s t : State} (h : t.tbl = s.tbl) (q : Nat) : t.region q = s.region q := by
  rw [State.region, State.tb_congr h, State.region]

/-- The descriptor of a page in a PAGED region: of a MIGRATING page its source's (12 R415). -/
def State.pageMapped (s : State) (q : Nat) : Page :=
  if (s.page q).st = 4 then
    match SMap.get (fun _ => none) s.tier.slots ((s.page q).frame % 256) with
    | some m => m.src
    | none => s.page q
  else s.page q

theorem State.pageNow_eq (s : State) (q : Nat) : s.pageNow q =
    match s.region q with
    | some (1, b) => { st := 1, frame := 4 * b }
    | _ => s.pageMapped q := rfl

/-- Where the tables are the same, what the mapped descriptors agree in, those in force agree in. -/
theorem State.pageNow_agree {α : Type} (g : Page → α) {s t : State} {q : Nat} (htbl : t.tbl = s.tbl)
    (h : g (t.pageMapped q) = g (s.pageMapped q)) : g (t.pageNow q) = g (s.pageNow q) := by
  rw [State.pageNow_eq, State.pageNow_eq, State.region_congr htbl]
  split
  · rfl
  · exact h

/-- The memory, the tables, direct SRAM and the keys: a read of a line depends on them, and none of its checks changes them. -/
def readMask : Nat := 2 ^ Comp.mem.idx + 2 ^ Comp.tbl.idx + 2 ^ Comp.dsram.idx + 2 ^ Comp.life.idx

/-- A component of a mask that a change does not meet stays as it was. -/
theorem Eff.outside {w m : Nat} {s t : State} (h : Eff w s t) (hw : w &&& m = 0) (x : Comp) (hx : m.testBit x.idx = true) :
    State.same s t x := by
  refine h.same x ?_
  have hand := congrArg (Nat.testBit · x.idx) hw
  simpa only [Nat.testBit_and, hx, Bool.and_true, Nat.zero_testBit] using hand

/-- A change outside the memory, the tables, direct SRAM and the life cycle's keys, that keeps the segments and what a read
depends on in the placement stage. -/
theorem State.ReadsAlike.of_readPart {w : Nat} {s t : State} (h : Eff w s t) (hw : w &&& readMask = 0) (hs : s.sameSegs t)
    (ht : t.tier.readPart = s.tier.readPart) (q : Nat) : s.ReadsAlike q t := by
  have htbl : t.tbl = s.tbl := h.outside hw .tbl rfl
  simp only [Tier.readPart, Prod.mk.injEq] at ht
  obtain ⟨hpages, hslots, hrot, hsealed, hlr⟩ := ht
  have hpage : t.page q = s.page q := by rw [State.page, hpages, State.page]
  have hmapped : t.pageMapped q = s.pageMapped q := by rw [State.pageMapped, hpage, hslots, State.pageMapped]
  exact ⟨h.outside hw .mem rfl, htbl, h.outside hw .dsram rfl, h.outside hw .life rfl, hs, hrot, hsealed, hlr, congrArg Page.newkey hpage,
    State.pageNow_agree Page.st htbl (congrArg Page.st hmapped), State.pageNow_agree Page.zmap htbl (congrArg Page.zmap hmapped)⟩

/-- A change outside the memory, the tables, direct SRAM, the keys and the LDs, after which the page's descriptors agree. -/
theorem State.ReadsAlike.of_descriptors {w q : Nat} {s t : State} (h : Eff w s t) (hw : w &&& (readMask + 2 ^ Comp.lds.idx) = 0)
    (hrot : t.tier.rot = s.tier.rot) (hsealed : t.tier.sealed = s.tier.sealed) (hlr : t.tier.lrLines = s.tier.lrLines)
    (hnewkey : (t.page q).newkey = (s.page q).newkey) (hst : (t.pageMapped q).st = (s.pageMapped q).st)
    (hzmap : (t.pageMapped q).zmap = (s.pageMapped q).zmap) : s.ReadsAlike q t :=
  have htbl : t.tbl = s.tbl := h.outside hw .tbl rfl
  ⟨h.outside hw .mem rfl, htbl, h.outside hw .dsram rfl, h.outside hw .life rfl, State.sameSegs_of_lds (h.outside hw .lds rfl),
    hrot, hsealed, hlr, hnewkey, State.pageNow_agree Page.st htbl hst, State.pageNow_agree Page.zmap htbl hzmap⟩

/-- A change that moreover leaves the placement stage and the LDs alone. -/
theorem State.ReadsAlike.of_eff {w : Nat} {s t : State} (h : Eff w s t)
    (hw : w &&& (readMask + 2 ^ Comp.lds.idx + 2 ^ Comp.tier.idx) = 0) (q : Nat) :
    s.ReadsAlike q t := by
  refine .of_readPart h ?_ (State.sameSegs_of_lds (h.outside hw .lds rfl)) (congrArg Tier.readPart (h.outside hw .tier rfl)) q
  rw [show readMask = (readMask + 2 ^ Comp.lds.idx + 2 ^ Comp.tier.idx) &&& readMask from rfl, ← Nat.and_assoc, hw, Nat.zero_and]

/-! ### What a read returns -/

section
variable {q : Nat} {s t : State} (h : s.ReadsAlike q t)
include h

theorem State.ReadsAlike.domainOf (a : Nat) : t.domainOf a = s.domainOf a := by
  have hmap (n : Nat) : t.ldMap n = s.ldMap n := by rw [State.ldMap, State.dword, h.dsram]; rfl
  have hld : t.ldsOf a = s.ldsOf a := by
    simp only [State.ldsOf, State.ldValid, hmap, Ld.offsetOf, h.segs _]
  rw [State.domainOf, hld, State.domainOf]
  exact congrArg (fun f => (s.ldsOf a).head?.map f) (funext fun n => by rw [State.ldDomain, hmap]; rfl)

theorem State.ReadsAlike.keyOf {a : Nat} (ha : a / 4096 = q) : t.keyOf a = s.keyOf a := by
  have hdom (d : Nat) : t.dword (domAddr d) = s.dword (domAddr d) := by rw [State.dword, h.dsram, State.dword]
  have hnext : t.underNext a = s.underNext a := by
    rw [State.underNext, State.underNext, h.rot, h.domainOf, ha, h.newkey, State.region_congr h.tbl]
  have hslot : t.keySlotOf a = s.keySlotOf a := by
    simp only [State.keySlotOf, h.domainOf, hnext, State.domRotating, State.domNext, State.domSlot, hdom]
    rfl
  rw [State.keyOf, hslot, h.life, State.keyOf]

theorem State.ReadsAlike.foreign {a : Nat} (ha : a / 4096 = q) : t.foreign a = s.foreign a := by
  rw [State.foreign, h.sealed, h.keyOf ha, State.foreign]

theorem State.ReadsAlike.readOut {a : Nat} (ha : a / 4096 = q) : t.readOut a = s.readOut a := by
  have hcode (x y : BitVec 512) : t.foreignCode (t.pageNow q) x y a = s.foreignCode (s.pageNow q) x y a := by
    simp only [State.foreignCode, Page.tweak, h.st, h.mem]
  have hline (x : Nat) : t.line x = s.line x := by rw [State.line, h.mem, State.line]
  simp only [State.readOut, h.foreign ha, ha, h.st, h.zmap, h.lrLines, hcode, hline]

/-- A run inside the page reads alike. -/
theorem State.ReadsAlike.hdmBytes {a n : Nat} (ha : ∀ x ∈ runLines a n, x / 4096 = q) : t.hdmBytes a n = s.hdmBytes a n := by
  have hall : (runLines a n).all (fun x => (t.foreign x).isNone) = (runLines a n).all (fun x => (s.foreign x).isNone) :=
    Bool.eq_iff_iff.mpr (by
      simp only [List.all_eq_true]
      exact forall₂_congr fun x hx => by rw [h.foreign (ha x hx)])
  have hout : (runLines a n).flatMap (fun x => bytesOf 64 ((t.readOut x).getD 0)) =
      (runLines a n).flatMap (fun x => bytesOf 64 ((s.readOut x).getD 0)) :=
    List.flatMap_congr fun x hx => by rw [h.readOut (ha x hx)]
  rw [State.hdmBytes, hall, hout, h.mem, State.hdmBytes]

end

/-! ### The placement stage takes up an access (12 R419, R420, R435, R438) -/

theorem State.cacheUse_readPart (s : State) (q : Nat) : (s.cacheUse q).tier.readPart = s.tier.readPart := by
  rw [State.cacheUse]
  split <;> rfl

theorem State.cacheInstall_readPart (s : State) (q : Nat) : (s.cacheInstall q).tier.readPart = s.tier.readPart := by
  unfold State.cacheInstall
  split
  · rfl
  · extract_lets ways put dom cnt prot me lru v
    clear_value v
    split
    · rfl
    · cases v with
      | none => rfl
      | some e =>
        dsimp only
        split
        · rw [State.dramPush_tier, State.inc_tier]
          rfl
        · rfl

theorem State.ReadsAlike.cacheInstall (q : Nat) (s : State) (p : Nat) : s.ReadsAlike q (s.cacheInstall p) :=
  .of_readPart (s.cacheInstall_eff p) (by decide) (State.sameSegs_of_lds ((s.cacheInstall_eff p).same .lds rfl))
    (s.cacheInstall_readPart p) q

theorem State.ReadsAlike.raise (q : Nat) (s : State) (e : Ev) (a b : Nat) : s.ReadsAlike q (s.raise e a b) :=
  .of_readPart (s.raise_eff e a b) (by decide) (s.sameSegs_raise e a b) (by rw [State.raise_tier]) q

/-- Replacing a descriptor changes of what reads depend on the descriptors only. -/
theorem State.setPage_readPart (s : State) (q : Nat) (p : Page) :
    (s.setPage q p).tier.readPart = { s.tier with pages := SMap.set (fun _ => {}) s.tier.pages q p }.readPart := by
  rw [State.setPage]
  split
  · rfl
  · split
    · rfl
    · split
      · rw [State.dramPush_tier]
      · rfl

/-- A descriptor that changes in its heat only reads alike (R438). -/
theorem State.ReadsAlike.heat (s : State) (q n : Nat) : s.ReadsAlike q (s.setPage q { s.page q with heat := n }) := by
  have heff := s.setPage_eff q { s.page q with heat := n }
  have hpart := s.setPage_readPart q { s.page q with heat := n }
  have hpage : (s.setPage q { s.page q with heat := n }).page q = { s.page q with heat := n } := by
    rw [State.page_setPage, if_pos rfl]
  generalize s.setPage q { s.page q with heat := n } = t at heff hpart hpage ⊢
  simp only [Tier.readPart, Prod.mk.injEq] at hpart
  obtain ⟨-, hslots, hrot, hsealed, hlr⟩ := hpart
  have hmapped : t.pageMapped q = s.pageMapped q ∨ t.pageMapped q = { s.pageMapped q with heat := n } := by
    simp only [State.pageMapped, hpage, hslots]
    split
    · split
      · exact .inl rfl
      · exact .inr rfl
    · exact .inr rfl
  exact .of_descriptors heff (by decide) hrot hsealed hlr (congrArg Page.newkey hpage :) (by rcases hmapped with e | e <;> rw [e])
    (by rcases hmapped with e | e <;> rw [e])

theorem State.freeSlot_lt {s : State} {i : Nat} (h : s.freeSlot = some i) : i < 256 := by
  rw [State.freeSlot, lowest] at h
  exact List.mem_range.mp (List.mem_of_find?_eq_some h)

/-- Migration slot `i` takes a migration. -/
def State.fillSlot (s : State) (i : Nat) (m : MigSlot) : State :=
  { s with tier := { s.tier with slots := SMap.set (fun _ => none) s.tier.slots i (some m) } }

/-- A free slot takes the migration, and its number stands in the page's descriptor (R435). -/
theorem State.startMig_free {s : State} {i : Nat} (h : s.freeSlot = some i) (q k : Nat) (tgt : Page) : s.startMig q k tgt =
    (s.setPage q { s.page q with st := 4, zmap := 0, frame := i }).fillSlot i
      ⟨q, s.page q, tgt, k, (s.setPage q { s.page q with st := 4, zmap := 0, frame := i }).tick⟩ := by
  rw [State.startMig, h]
  rfl

/-- A page whose migration starts is read from its source (R435). -/
theorem State.ReadsAlike.startMig (s : State) (q k : Nat) (tgt : Page) (h : (s.page q).st ≠ 4) :
    s.ReadsAlike q (s.startMig q k tgt) := by
  cases hfree : s.freeSlot with
  | none =>
    rw [State.startMig, hfree]
    exact .refl q s
  | some i =>
    have heff := s.startMig_eff q k tgt
    have hpart := s.setPage_readPart q { s.page q with st := 4, zmap := 0, frame := i }
    have hpage := (s.page_setPage q { s.page q with st := 4, zmap := 0, frame := i } q).trans (if_pos rfl)
    rw [State.startMig_free hfree] at heff ⊢
    generalize s.setPage q { s.page q with st := 4, zmap := 0, frame := i } = t at heff hpart hpage ⊢
    simp only [Tier.readPart, Prod.mk.injEq] at hpart
    obtain ⟨-, -, hrot, hsealed, hlr⟩ := hpart
    generalize hm : (⟨q, s.page q, tgt, k, t.tick⟩ : MigSlot) = m at heff ⊢
    have hmapped : (t.fillSlot i m).pageMapped q = s.pageMapped q := by
      have hslot : SMap.get (fun _ => none) (t.fillSlot i m).tier.slots (i % 256) = some m := by
        rw [Nat.mod_eq_of_lt (State.freeSlot_lt hfree)]
        exact SMap.get_set_same (fun _ => none) t.tier.slots i (some m)
      have hnew : (t.fillSlot i m).page q = { s.page q with st := 4, zmap := 0, frame := i } := hpage
      rw [State.pageMapped, State.pageMapped, if_neg h, hnew, if_pos rfl, hslot, ← hm]
    exact .of_descriptors heff (by decide) hrot hsealed hlr (congrArg Page.newkey hpage :) (congrArg Page.st hmapped)
      (congrArg Page.zmap hmapped)

theorem State.takeFrame_readPart {s t : State} {f : Nat} (h : s.takeFrame = some (f, t)) : t.tier.readPart = s.tier.readPart := by
  rw [State.takeFrame] at h
  split at h
  · cases h
    rfl
  · cases h

theorem State.ReadsAlike.takeFrame {s t : State} {f : Nat} (h : s.takeFrame = some (f, t)) (q : Nat) : s.ReadsAlike q t :=
  have heff := s.takeFrame_eff f t h
  .of_readPart heff (by decide) (State.sameSegs_of_lds (heff.same .lds rfl)) (State.takeFrame_readPart h) q

theorem State.ReadsAlike.hotPromote (s : State) (q : Nat) : s.ReadsAlike q (s.hotPromote q) := by
  unfold State.hotPromote
  extract_lets p
  split
  · exact .refl q s
  next hgo =>
    have hst : (s.page q).st = 2 ∨ (s.page q).st = 3 := by
      by_contra hne
      exact hgo (by simp [p, not_or.mp hne])
    split
    next f t hf =>
      have hpage : t.page q = s.page q := by
        have hpart := State.takeFrame_readPart hf
        simp only [Tier.readPart, Prod.mk.injEq] at hpart
        rw [State.page, hpart.1, State.page]
      exact (State.ReadsAlike.takeFrame hf q).trans (.startMig t q 1 _ (by rw [hpage]; omega))
    · exact .refl q s

theorem State.ReadsAlike.lfsr (q : Nat) (s : State) (l : BitVec 16) : s.ReadsAlike q { s with tier := { s.tier with lfsr := l } } :=
  .of_readPart (upd_tier s { s.tier with lfsr := l }) (by decide) (fun _ => rfl) rfl q

theorem State.ReadsAlike.touch (s : State) (q : Nat) : s.ReadsAlike q (s.touch q) := by
  unfold State.touch
  split
  · extract_lets l l' _ sampled
    have hsampled : s.ReadsAlike q sampled := .lfsr q s l'
    clear_value sampled
    split
    · have hheated (n : Nat) := hsampled.trans (.heat sampled q n)
      split
      · exact (hheated _).trans (.hotPromote _ q)
      · exact hheated _
    · exact hsampled
  · exact .refl q s

/-- The placement stage takes up an access to a page: what a read of the page returns is as before (R419). -/
theorem State.ReadsAlike.probePage (s : State) (q : Nat) : s.ReadsAlike q (s.probePage q) := by
  have hslot : s.ReadsAlike q s.takeSlot := .of_eff s.takeSlot_eff (by decide) q
  have hrefill (n : Nat) : s.ReadsAlike q (s.takeSlot.refillReq n true) :=
    hslot.trans (.of_eff (State.refillReq_eff _ n true) (by decide) q)
  rw [State.probePage]
  refine .trans ?_ (State.ReadsAlike.touch _ q)
  split
  · have heff := s.cacheUse_eff q
    exact .of_readPart heff (by decide) (State.sameSegs_of_lds (heff.same .lds rfl)) (s.cacheUse_readPart q) q
  · split
    · exact (hslot.trans (.of_eff (State.inc_eff _ fMisses 1) (by decide) q)).trans (.cacheInstall q _ q)
    · split
      · exact hrefill _
      · exact (hrefill _).trans (.cacheInstall q _ q)
    · exact hslot.trans (.raise q _ _ _ _)

/-! ### The check of a line that is read (12 R426; 16 R556 to R558, R585) -/

theorem State.ReadsAlike.poisonLines (q : Nat) (s : State) (l : List Nat) : s.ReadsAlike q (l.foldl State.poisonLine s) :=
  .foldl l (fun a _ t => .of_readPart (t.poisonLine_eff a) (by decide) (t.sameSegs_poisonLine a)
    (congrArg Tier.readPart ((t.poisonLine_eff a).same .tier rfl)) q) s

theorem State.ReadsAlike.markBack (q : Nat) (s : State) (a : Nat) : s.ReadsAlike q (s.markBack a) :=
  .of_eff (s.markBack_eff a) (by decide) q

theorem State.ReadsAlike.inc (q : Nat) (s : State) (x : F) (k : Nat) : s.ReadsAlike q (s.inc x k) :=
  .of_eff (s.inc_eff x k) (by decide) q

theorem State.ReadsAlike.ras (q : Nat) (s : State) (r : Ras) : s.ReadsAlike q { s with ras := r } :=
  .of_eff (upd_ras s r) (by decide) q

/-- Counting a corrected error, and reporting it at the threshold (16 R556). -/
def State.countCe (s : State) (c k : Nat) : State :=
  let s := s.inc (fCorrected c)
  let n := num s.ras.ce (8 * c + k) + 1
  if max 1 (s.f ⟨0x3e0080, 48, 16⟩) ≤ n then
    ({ s with ras := { s.ras with ce := setNum s.ras.ce (8 * c + k) 0 } }).raise .dramCeThreshold (argCK c k) n
  else { s with ras := { s.ras with ce := setNum s.ras.ce (8 * c + k) n } }

theorem State.ReadsAlike.countCe (q : Nat) (s : State) (c k : Nat) : s.ReadsAlike q (s.countCe c k) := by
  rw [State.countCe]
  refine .trans (.inc q s (fCorrected c) 1) ?_
  generalize s.inc (fCorrected c) 1 = t
  split
  · exact (State.ReadsAlike.ras q t _).trans (.raise q _ _ _ _)
  · exact .ras q t _

theorem State.eccCorrected_line (s : State) (c k a n : Nat) : s.eccCorrected c k (some a) n =
    if n < num (s.countCe c k).ras.wrTick (a / 64) then s.countCe c k
    else ({ s.countCe c k with ras := { (s.countCe c k).ras with inj := setNum (s.countCe c k).ras.inj (a / 64) 0 } }).markBack a := rfl

theorem State.ReadsAlike.eccCorrected (q : Nat) (s : State) (c k a n : Nat) : s.ReadsAlike q (s.eccCorrected c k (some a) n) := by
  rw [State.eccCorrected_line]
  refine .trans (.countCe q s c k) ?_
  split
  · exact .refl q _
  · exact (State.ReadsAlike.ras q _ _).trans (.markBack q _ a)

theorem State.ReadsAlike.eccUncorrectable (q : Nat) (s : State) (c k a : Nat) :
    s.ReadsAlike q (s.eccUncorrectable c k (some a)) := by
  rw [State.eccUncorrectable]
  exact ((((State.ReadsAlike.inc q s _ 1).trans (.poisonLines q _ _)).trans (.ras q _ _)).trans (.markBack q _ a)).trans
    (.raise q _ _ _ _)

theorem State.ReadsAlike.decodeCheck (q : Nat) (s : State) (a : Nat) : s.ReadsAlike q (s.decodeCheck a) := by
  rw [State.decodeCheck]
  split
  · exact .refl q s
  · exact .poisonLines q s _

theorem State.ReadsAlike.readLine (q : Nat) (s : State) (c l a : Nat) : s.ReadsAlike q (s.readLine c l a) := by
  rw [State.readLine]
  refine .trans (.decodeCheck q s a) ?_
  generalize s.decodeCheck a = t
  dsimp only
  generalize hu : (if t.readNeedsDram a then _ else t) = u
  have hread : t.ReadsAlike q u := by
    subst hu
    split
    · exact .of_eff (State.dramPush_eff t _) (by decide) q
    · exact .refl q t
  refine hread.trans ?_
  split
  · exact .inc q u _ 1
  · split
    · exact .eccCorrected q u ..
    · split
      · exact .eccUncorrectable q u ..
      · exact .refl q u

theorem runLines_page {q o n x : Nat} (ho : o % 64 = 0) (hn : o + n ≤ 4096) (h : x ∈ runLines (4096 * q + o) n) : x / 4096 = q := by
  simp only [runLines, List.mem_map, List.mem_range] at h
  obtain ⟨i, hi, rfl⟩ := h
  omega

/-- Reading a whole page checks and counts, and leaves what a read of it returns. -/
theorem State.ReadsAlike.readCheck (s : State) (c l q : Nat) : s.ReadsAlike q (s.readCheck c l (4096 * q) 4096) := by
  unfold State.readCheck
  extract_lets pages probed
  have hpages : ∀ p ∈ pages, p = q := by
    intro p hp
    obtain ⟨x, hx, rfl⟩ := List.mem_map.mp (List.mem_eraseDups.mp hp)
    exact runLines_page (o := 0) rfl (by omega) hx
  have hprobed : s.ReadsAlike q probed :=
    .foldl pages (fun p hp t => by rw [hpages p hp]; exact .probePage t q) s
  exact hprobed.trans (.foldl _ (fun x _ t => .readLine q t c l x) probed)

end Sys2Proof.Machine
end

section
/-! SUPPORT. Proofs. Mirrored memory, redirected ranks, regions and the end of resync (15 R534, R535, R548, R550, R551; 14 R508). -/

set_option Elab.async false

namespace Sys2Proof.Machine

/-! ### Mirrored writes (R535, R548) -/

theorem exec_memAck (q : Nat) (s : State) : exec (.memAck q) s = whileUp s (fun s => s.when s.pair.up (·.memAckIn q)) := rfl

/-- MEM_ACK ends the only write that waits. -/
theorem State.memAckIn_only {s : State} {w : MemWait} (h : s.pair.memWait = [w]) (hw : w.fwd = false) :
    s.memAckIn w.seq = ({ s with pair := { s.pair with memWait := [] } }).cmpWait w := by
  rw [State.memAckIn, h, List.find?_cons_of_pos (by simp [hw])]
  dsimp only
  rw [State.updPair, h, List.erase_cons_head]

theorem exec_memWrMsg (b : Bool) (d : Dpa) (k : BitVec 64) (q : Nat) (x : Line) (s : State) : exec (.memWrMsg b d k q x) s =
    whileUp s (fun s => s.when (s.pair.up && (s.pst == .paired || s.pst == .resync))
      (fun s => (s.probePage (d.toNat / 4096)).memWrIn (.memWrMsg b d k q x))) := rfl

/-- A MIRROR copy that is served is acknowledged; `t` is the state after the write. -/
theorem State.memWrIn_served {s t : State} {d : Dpa} {k : BitVec 64} {q : Nat} {x : Line} (hpage : s.pageHeld (d.toNat / 4096) = false)
    (hhold : s.tier.hold = []) (hw : s.writePage d.toNat x k 0 0 = (t, .served)) (hnone : t.pair.memWait = []) :
    s.memWrIn (.memWrMsg true d k q x) = t.linkSend (.memAck q) := by
  rw [State.memWrIn]
  simp only [hpage, hhold, List.any_nil, Bool.or_self, Bool.false_eq_true, if_false, if_true, hw]
  rw [State.linkSend_pair, hnone, List.find?_nil]

theorem State.pair_probed_written (s : State) (q a : Nat) (x : Line) (k : BitVec 64) :
    ((s.probePage q).writePage a x k 0 0).1.pair = s.pair :=
  ((State.writePage_eff _ a x k 0 0).same .pair rfl).trans ((s.probePage_eff q).same .pair rfl)

theorem exec_resyncBlock (p : BitVec 32) (b : Fin 16) (x : BitVec 2048) (s : State) : exec (.resyncBlock p b x) s =
    whileUp s (fun s => s.when (s.pair.up && s.joining) (fun s => (s.probePage p.toNat).putBlock p.toNat b.val x)) := rfl

/-! ### Redirected ranks (14 R508) -/

theorem exec_rdrReq (w : Bool) (d : Dpa) (x : Line) (s : State) : exec (.rdrReq w d x) s =
    whileUp s (fun s => s.when (s.pair.up && s.pst == .paired) (·.rdrServe w d.toNat x)) := rfl

theorem State.mem_probed_read (s : State) (q c l a : Nat) : ((s.probePage q).readLine c l a).mem = s.mem :=
  ((State.readLine_eff _ c l a).same .mem rfl).trans ((s.probePage_eff q).same .mem rfl)

theorem exec_rdrRsp (d : Dpa) (x : Option Line) (p : Bool) (s : State) : exec (.rdrRsp d x p) s =
    whileUp s (fun s => s.when s.pair.up (·.rdrDone d.toNat x p)) := rfl

/-- The answer to the only redirected request, a read, completes it. -/
theorem State.rdrDone_read {s : State} {a : Nat} {i : Instr} {q : MReq} (h : s.pair.rdr = [(a, i)]) (hq : memReq i = some q)
    (hr : q.write = false) (x : Line) (p : Bool) : s.rdrDone a (some x) p =
      ({ s with pair := { s.pair with rdr := [] } }).answerData q.ld q.tag x p (some (s.chanOf a)) := by
  have hfind : s.pair.rdr.find? (fun e => e.1 / 64 == a / 64) = some (a, i) := by rw [h, List.find?_cons_of_pos (by simp)]
  rw [State.rdrDone, hfind]
  dsimp only
  rw [hq]
  dsimp only
  rw [if_neg (by simp [hr]), State.updPair, h, List.erase_cons_head]
  rfl

theorem exec_pageReq (p : BitVec 32) (s : State) : exec (.pageReq p) s =
    whileUp s (fun s => s.when (s.pair.up && s.pst == .paired) (·.sendPage p.toNat (.pageBlock p.toNat))) := rfl

/-- The block of a page is the same where its reads are. -/
theorem State.ReadsAlike.pageBlockOf {q : Nat} {s t : State} (h : s.ReadsAlike q t) {i : Nat} (hi : i < 16) :
    t.pageBlockOf q i = s.pageBlockOf q i := by
  rw [State.pageBlockOf, h.hdmBytes fun x => runLines_page (by omega) (by omega), State.pageBlockOf]

theorem State.waiting_linkSends {α : Type} (l : List α) (f : State → α → LinkMsg)
    (hf : ∀ (s : State) (m : LinkMsg), ∀ a ∈ l, f (s.linkSend m) a = f s a) (s : State) :
    (l.foldl (fun s a => s.linkSend (f s a)) s).pair.waiting = s.pair.waiting ++ l.map (f s) := by
  induction l generalizing s with
  | nil => exact (List.append_nil _).symm
  | cons a l ih =>
    rw [List.foldl_cons, ih (fun s m b hb => hf s m b (List.mem_cons_of_mem a hb)), State.linkSend_pair, List.append_assoc,
      List.map_cons, List.map_congr_left fun b hb => hf s _ b (List.mem_cons_of_mem a hb)]
    rfl

/-- The 16 blocks of a page are framed as they stand. -/
theorem State.sendPage_waiting (s : State) (q : Nat) (msg : Nat → BitVec 2048 → LinkMsg) :
    (s.sendPage q msg).pair.waiting = s.pair.waiting ++ (List.range 16).map (fun i => msg i (s.pageBlockOf q i)) := by
  have hlink (t : State) (m : LinkMsg) : t.ReadsAlike q (t.linkSend m) := .of_eff (t.linkSend_eff m) (by decide) q
  rw [State.sendPage, State.waiting_linkSends _ (fun t i => msg i (t.pageBlockOf q i)) fun t m i hi => by
    rw [(hlink t m).pageBlockOf (List.mem_range.mp hi)]]
  congr 1
  · exact congrArg Pair.waiting ((s.readCheck_eff 4 0 (4096 * q) 4096).same .pair rfl)
  · exact List.map_congr_left fun i hi => by rw [(State.ReadsAlike.readCheck s 4 0 q).pageBlockOf (List.mem_range.mp hi)]

theorem State.sendPage_mem (s : State) (q : Nat) (msg : Nat → BitVec 2048 → LinkMsg) : (s.sendPage q msg).mem = s.mem :=
  (s.sendPage_eff q msg).same .mem rfl

theorem exec_pageBlock (p : BitVec 32) (b : Fin 16) (x : BitVec 2048) (s : State) : exec (.pageBlock p b x) s =
    whileUp s (fun s => s.when s.pair.up (·.pageBlockIn p.toNat b.val x)) := rfl

/-- The four lines of a block are stored unpoisoned from address `a` on. -/
def State.storeBlock (s : State) (a : Nat) (x : BitVec 2048) : State :=
  (List.range 4).foldl (fun s i => (s.setLine (a + 64 * i) (blockLine x i)).setPoison (a + 64 * i) false) s

theorem State.mem_setLine_other (s : State) {a n : Nat} (l : Line) (h : n < a ∨ a + 64 ≤ n) :
    Mem.get (s.setLine a l).mem n = Mem.get s.mem n :=
  Mem.get_write_other _ _ _ _ (by simpa [bytesOf] using h)

theorem State.storeBlock_mem (s : State) {a n : Nat} (x : BitVec 2048) (h : n < a ∨ a + 256 ≤ n) :
    Mem.get (s.storeBlock a x).mem n = Mem.get s.mem n := by
  refine List.foldlRecOn (motive := fun t : State => Mem.get t.mem n = Mem.get s.mem n) _ _ rfl fun t ht i hi => ?_
  have hi : i < 4 := List.mem_range.mp hi
  exact (t.mem_setLine_other _ (by omega)).trans ht

/-- A block of the page under copy, not the last to arrive, is stored and marked. -/
theorem State.pageBlockIn_stored {s : State} {q b : Nat} {rest : List Nat} {r : Retrain} (x : BitVec 2048)
    (hr : s.trn.retrain = some r) (hp : r.pages = q :: rest) (hb : r.blocks ||| (1#16 <<< b) ≠ BitVec.allOnes 16) :
    s.pageBlockIn q b x = { s.storeBlock (4096 * q + 256 * b) x with
      trn := { (s.storeBlock (4096 * q + 256 * b) x).trn with retrain := some { r with blocks := r.blocks ||| (1#16 <<< b) } } } := by
  rw [State.pageBlockIn, hr]
  dsimp only
  rw [if_neg (by simp [hp]), if_pos (by simpa using hb)]
  rfl

/-! ### Regions and the end of resync (R534, R551) -/

theorem exec_regionList (rs : List RegionDef) (s : State) : exec (.regionList rs) s =
    whileUp s (fun s => s.when s.pair.up (·.regionsIn rs)) := rfl

theorem exec_resyncDone (m : HelloMsg) (s : State) : exec (.resyncDone m) s =
    whileUp s (fun s => s.when (s.pair.up && s.joining) (·.resyncEnd m)) := rfl

/-- Clearing the journal writes PAIR_JOURNAL only (R551). -/
theorem State.f_journalClear (s : State) {y : F} (h : y.off ≠ fBroken.off) : s.journalClear.f y = s.f y := by
  rw [State.journalClear, State.f_setF_other _ fRewind y _ h, State.f_setF_other _ fPendingJ y _ h, State.f_setF_other _ fBroken y _ h]
  exact State.f_congr (State.updPair_regs ..) y

/-- The fields of PAIR_STAT below the role, after RESYNC_DONE. -/
theorem State.f_resyncEnd (s : State) (m : HelloMsg) {y : F} (ho : y.off = fPst.off) (hy : y.lo + y.n ≤ fPst.lo) :
    (s.resyncEnd m).f y = (((s.setF fJoiner 0).setF fEpoch m.epoch.toNat).setF fKeepCause 0).f y := by
  rw [State.resyncEnd, State.f_raise _ _ _ _ _ (by simp [ho]), State.f_setPst_field _ _ ho hy,
    State.f_journalClear _ (by rw [ho]; decide)]

theorem State.resyncEnd_epoch (s : State) (m : HelloMsg) : (s.resyncEnd m).f fEpoch = m.epoch.toNat := by
  rw [s.f_resyncEnd m (y := fEpoch) rfl (by decide), State.f_setF_field _ fKeepCause fEpoch _ rfl (by decide) (by decide) (by decide),
    State.f_setF_same _ _ _ (by decide) m.epoch.isLt]

theorem State.resyncEnd_joiner (s : State) (m : HelloMsg) : (s.resyncEnd m).f fJoiner = 0 := by
  rw [s.f_resyncEnd m (y := fJoiner) rfl (by decide), State.f_setF_field _ fKeepCause fJoiner _ rfl (by decide) (by decide) (by decide),
    State.f_setF_field _ fEpoch fJoiner _ rfl (by decide) (by decide) (by decide), State.f_setF_same _ _ _ (by decide) (by decide)]

theorem State.resyncEnd_pst (s : State) (m : HelloMsg) : (s.resyncEnd m).pst = .paired := by
  rw [State.resyncEnd, State.pst_raise, State.pst_setPst]

theorem State.resyncEnd_pair (s : State) (m : HelloMsg) : (s.resyncEnd m).pair =
    { s.pair with journal := [], keptIds := [], keptPages := [], mirLast := [], join := false, fresh := false } := by
  rw [State.resyncEnd, State.raise_pair, State.setPst_pair]
  rfl

/-- Settles O19, a clause at a time from the equations of its commands. -/
theorem mirroredMemoryMessagesAct : Obligations.MirroredMemoryMessagesAct := by
  refine ⟨?_, ?_, ?_, ?_, ?_, ?_, ?_, ?_, ?_⟩
  · rintro q w s hu hl hw rfl hf
    rw [exec_memAck, whileUp_of_up hu, State.when_true hl, State.memAckIn_only hw hf]
  · intro d k q x s hu hl hp hpage hhold hserved hnone
    rw [exec_memWrMsg, whileUp_of_up hu, State.when_true (by simp [hl, hp]),
      State.memWrIn_served hpage hhold (Prod.ext rfl hserved) (by rw [State.pair_probed_written, hnone])]
  · intro p b x s hu hl hj
    rw [exec_resyncBlock, whileUp_of_up hu, State.when_true (by simp [hl, hj])]
  · rintro d x s u hu hl hp rfl
    refine ⟨?_, s.mem_probed_read ..⟩
    rw [exec_rdrReq, whileUp_of_up hu, State.when_true (by simp [hl, hp])]
    rfl
  · intro d x p i q s hu hl hw hq hr
    rw [exec_rdrRsp, whileUp_of_up hu, State.when_true hl, State.rdrDone_read hw hq hr]
  · intro p s hu hl hp
    refine ⟨_, (exec_pageReq p s).trans (whileUp_of_up hu _), ?_⟩
    rw [State.when_true (by simp [hl, hp])]
    exact ⟨s.sendPage_waiting .., s.sendPage_mem ..⟩
  · intro p b x r rest s hu hl hr hpages hb
    refine ⟨_, (exec_pageBlock p b x s).trans (whileUp_of_up hu _), ?_⟩
    rw [State.when_true hl, State.pageBlockIn_stored x hr hpages hb]
    refine ⟨rfl, fun a ha => ?_⟩
    rw [s.storeBlock_mem x ha]
  · intro rs s hu hl hj hp haw
    rw [exec_regionList, whileUp_of_up hu, State.when_true hl, State.regionsIn, if_neg (by simp [hj]), if_pos (by simp [hp, haw])]
  · intro m s hu hl hj
    refine ⟨s.resyncEnd m, ?_, s.resyncEnd_pst m, s.resyncEnd_epoch m, s.resyncEnd_joiner m, ?_, ?_⟩
    · rw [exec_resyncDone, whileUp_of_up hu, State.when_true (by simp [hl, hj])]
    · rw [State.resyncEnd_pair]
    · rw [State.resyncEnd_pair]

end Sys2Proof.Machine
end

section
/-! SUPPORT. Proofs. Failing blocks and spares, the tally engine's visits, and the shadow writer (16 R562 to R564, R567, R570,
R571, R586). -/

set_option Elab.async false

namespace Sys2Proof.Machine

/-! ### A failing block (R570) -/

theorem exec_blockSenseFault (n : Fin 128) (s : State) :
    exec (.blockSenseFault n) s = whileUp s (·.blockFailing n.val 0) := rfl

theorem State.tableOf_congr {s t : State} (h : t.tbl = s.tbl) (n : Nat) : t.tableOf n = s.tableOf n := by
  rw [State.tableOf, h, State.tableOf]

theorem State.blockFailing_known {s : State} {n : Nat} (h : s.ras.failing.contains n = true) (c : Nat) : s.blockFailing n c = s := by
  rw [State.blockFailing, h, Bool.true_or, if_pos rfl]

/-- Block `n` is noted as failing, and BLOCK_FAILING is raised. -/
def State.failingNoted (s : State) (n c : Nat) : State :=
  (s.updRas (fun r => { r with failing := r.failing ++ [n] })).raise .blockFailing (n + s.physOf n * 256) c

/-- The note of a failing block leaves the spares and what is planned for them. -/
theorem State.failingNoted_ras (s : State) (n c : Nat) :
    (s.failingNoted n c).ras.failing = s.ras.failing ++ [n] ∧ (s.failingNoted n c).ras.ready = s.ras.ready ∧
    (s.failingNoted n c).ras.blkActs = s.ras.blkActs ∧ (s.failingNoted n c).ras.rebuilds = s.ras.rebuilds := by
  rw [State.failingNoted, State.raise_ras]
  exact ⟨rfl, rfl, rfl, rfl⟩

theorem State.failingNoted_tick (s : State) (n c : Nat) : (s.failingNoted n c).tick = s.tick := by
  rw [State.failingNoted, State.raise_tick, State.updRas_tick]

theorem State.failingNoted_tbl (s : State) (n c : Nat) : (s.failingNoted n c).tbl = s.tbl := by
  rw [State.failingNoted, State.raise_tbl, State.updRas_tbl]

theorem State.takeSpare_lowest {s : State} {p : Nat} {rest : List Nat} (h : s.ras.ready = p :: rest) :
    s.takeSpare = (some p, (s.updRas (fun r => { r with ready := rest })).setF fReady rest.length) := by
  rw [State.takeSpare, h]

/-- The lowest READY spare `p` is taken for block `n`; it serves from the next tick on. -/
def State.spareTaken (s : State) (n p : Nat) (rest : List Nat) (pb : Nat) : State :=
  let u := (s.updRas (fun r => { r with ready := rest })).setF fReady rest.length
  u.updRas (fun x => { x with blkActs := x.blkActs ++ [(u.tick + 1, .freeSpared n p pb)] })

theorem State.spareTaken_ras (s : State) (n p : Nat) (rest : List Nat) (pb : Nat) :
    (s.spareTaken n p rest pb).ras.failing = s.ras.failing ∧ (s.spareTaken n p rest pb).ras.ready = rest ∧
    (s.spareTaken n p rest pb).ras.blkActs = s.ras.blkActs ++ [(s.tick + 1, .freeSpared n p pb)] ∧
    (s.spareTaken n p rest pb).ras.rebuilds = s.ras.rebuilds := ⟨rfl, rfl, rfl, rfl⟩

section
variable {s : State} {n p : Nat} {rest : List Nat} (hfail : s.ras.failing.contains n = false) (hok : s.blockFailed n = false)
  (hfree : s.tableOf n = none) (hready : s.ras.ready = p :: rest) (c : Nat)
include hfail hok hfree hready

theorem State.blockFailing_spared : s.blockFailing n c = (s.failingNoted n c).spareTaken n p rest (s.physOf n) := by
  obtain ⟨-, hsame, -, -⟩ := s.failingNoted_ras n c
  rw [State.blockFailing, hfail, hok, Bool.or_self, if_neg Bool.false_ne_true]
  extract_lets pb marked noted owner taken plan
  have howner : owner = none := (State.tableOf_congr (s.failingNoted_tbl n c) n).trans hfree
  have htaken : taken = _ := State.takeSpare_lowest (s := s.failingNoted n c) (hsame.trans hready)
  clear_value owner taken
  rw [howner, htaken]
  rfl

/-- What the reliability record holds of a free block that fails while a spare is READY. -/
theorem State.blockFailing_spared_ras :
    (s.blockFailing n c).ras.failing = s.ras.failing ++ [n] ∧ (s.blockFailing n c).ras.ready = rest ∧
    (s.blockFailing n c).ras.blkActs = s.ras.blkActs ++ [(s.tick + 1, .freeSpared n p (s.physOf n))] ∧
    (s.blockFailing n c).ras.rebuilds = s.ras.rebuilds := by
  obtain ⟨hnoted, -, hacts, hrebuilds⟩ := s.failingNoted_ras n c
  obtain ⟨hfailing, hrest, hplan, hsame⟩ := (s.failingNoted n c).spareTaken_ras n p rest (s.physOf n)
  rw [State.blockFailing_spared hfail hok hfree hready c]
  rw [hacts, State.failingNoted_tick] at hplan
  exact ⟨hfailing.trans hnoted, hrest, hplan, hsame.trans hrebuilds⟩

end

theorem State.blockFailing_arr (s : State) (n c : Nat) : (s.blockFailing n c).arr = s.arr := (s.blockFailing_eff n c).same .arr rfl
theorem State.blockFailing_mbox (s : State) (n c : Nat) : (s.blockFailing n c).mbox = s.mbox := (s.blockFailing_eff n c).same .mbox rfl
theorem State.blockFailing_tick (s : State) (n c : Nat) : (s.blockFailing n c).tick = s.tick := (s.blockFailing_eff n c).same .tick rfl

theorem exec_blockSpare (via : OwnerPath) (n : Byte) (s : State) : exec (.blockSpare via n) s =
    whileUp s (fun s => s.owner1 via 0x26 (firstBad [(decide (128 ≤ n.toNat), St.malformed),
      ((s.tableOf n.toNat).isSome && !s.ras.failing.contains n.toNat, St.locked)]) (·.blockFailing n.toNat 2)) := rfl

/-- BLOCK_SPARE of a block that no table holds. -/
theorem exec_blockSpare_free {via : OwnerPath} {n : Byte} {s : State} (h : s.ownerRuns via = true) (hn : n.toNat < 128)
    (hfree : s.tableOf n.toNat = none) :
    exec (.blockSpare via n) s = .next ((s.blockFailing n.toNat 2).ownerEnd via 0x26 St.success) := by
  have hgood : firstBad [(decide (128 ≤ n.toNat), St.malformed),
      ((s.tableOf n.toNat).isSome && !s.ras.failing.contains n.toNat, St.locked)] = none := by
    simp [firstBad, hfree, Nat.not_le.mpr hn]
  rw [exec_blockSpare, whileUp_of_up (State.up_of_ownerRuns h), hgood, State.owner1_done h]

/-! ### The rebuild of a spare (R571) -/

theorem exec_spareRebuildSwitch (s : State) : exec .spareRebuildSwitch s = execSpareRebuildSwitch s := rfl
theorem exec_sparePauseEnd (s : State) : exec .sparePauseEnd s = execSparePauseEnd s := rfl

theorem exec_spareRebuildSwitch_due {r : Rebuild} {s : State} (hu : s.up = true) (hr : s.ras.rebuilds = [r])
    (hd : r.f + 4097 ≤ s.tick) (hf : s.ras.failing.contains r.blk = true) :
    exec .spareRebuildSwitch s = .next (s.rebuildSwitch r) := by
  rw [exec_spareRebuildSwitch, execSpareRebuildSwitch, whileUp_of_up hu, hr,
    List.find?_cons_of_pos (by simp only [hd, hf, decide_true, Bool.and_self])]

theorem exec_sparePauseEnd_due {r : Rebuild} {s : State} (hu : s.up = true) (hr : s.ras.rebuilds = [r])
    (hd : r.f + 4098 ≤ s.tick) (hf : s.ras.failing.contains r.blk = false) :
    exec .sparePauseEnd s =
      .next ((s.updRas (fun x => { x with rebuilds := x.rebuilds.erase r })).raise .spareInService (r.blk + r.spare * 256) 4098) := by
  rw [exec_sparePauseEnd, execSparePauseEnd, whileUp_of_up hu, hr,
    List.find?_cons_of_pos (by simp only [hd, hf, decide_true, Bool.not_false, Bool.and_self])]

/-- A spare in service carries its block; ARRAY_SPARE names other registers. -/
theorem State.physOf_inService (s : State) {n p pb : Nat} (hn : n < 128) (hp : p < 256) :
    (s.inService n p pb).physOf n = p := by
  simp only [State.inService, State.physFailed, State.physOf, State.updRas_f]
  rw [State.f_setF_other _ _ _ _ (by dsimp only; omega), State.updRas_f,
    State.f_setF_other _ _ _ _ (by dsimp only; omega), State.f_setF_other _ _ _ _ (by dsimp only; omega)]
  exact State.f_setF_same _ _ _ (by simp) hp

/-- A switch ends with its spare in service. -/
theorem State.rebuildSwitch_inService (s : State) (r : Rebuild) : ∃ u : State, s.rebuildSwitch r = u.inService r.blk r.spare r.failing :=
  ⟨_, rfl⟩

/-! ### The visits of the tally engine (R564, R567, R586) -/

theorem exec_tallyVisit (s : State) : exec .tallyVisit s = whileUp s State.tallyVisit := rfl
theorem exec_tallyOutOfTurn (s : State) : exec .tallyOutOfTurn s = whileUp s State.tallyOut := rfl

theorem State.tallyVisit_due {s : State} {f : Flight} {a : Nat} {n : Seen} (h : s.readDue .tally = some (f, a, n)) :
    s.tallyVisit = (s.dropFlight f).pacedVisit a (f.g + 5) n := by rw [State.tallyVisit, h]

theorem State.tallyOut_due {s : State} {f : Flight} {a : Nat} {n : Seen} (h : s.readDue .tallyOut = some (f, a, n)) :
    s.tallyOut = (s.dropFlight f).visitRow a (f.g + 5) n := by rw [State.tallyOut, h]

/-- After its visit of row `a` the pass stands at the next row, and one that starts again is counted. -/
def State.passMoved (s : State) (a : Nat) : State :=
  let next := (s.rowFrom (a + 1)).getD 0
  if next ≤ a then (s.setF fTallyPos next).inc fPasses else s.setF fTallyPos next

theorem State.pacedVisit_passMoved (s : State) (a v : Nat) (n : Seen) : ∃ u : State, s.pacedVisit a v n = u.passMoved a := ⟨_, rfl⟩

/-- Where a pass goes on depends on which of the 128 blocks are FAILED only. -/
theorem State.rowFrom_congr {s t : State} (h : ∀ n < 128, t.blockFailed n = s.blockFailed n) (a : Nat) : t.rowFrom a = s.rowFrom a := by
  have hother : (((List.range 128).map (fun i => (blockOf (a % 2 ^ 21) + 1 + i) % 128)).find? fun m => !t.blockFailed m) =
      (((List.range 128).map (fun i => (blockOf (a % 2 ^ 21) + 1 + i) % 128)).find? fun m => !s.blockFailed m) := by
    refine List.find?_congr fun m hm => ?_
    obtain ⟨i, -, rfl⟩ := List.mem_map.mp hm
    rw [h _ (Nat.mod_lt _ (by decide))]
  simp only [State.rowFrom, hother]
  rw [h _ (by rw [blockOf]; omega)]

/-- A pass goes on with a row of the array. -/
theorem State.rowFrom_lt (s : State) (a : Nat) : (s.rowFrom a).getD 0 < 2 ^ 21 := by
  simp only [State.rowFrom]
  split
  · exact Nat.mod_lt _ (by decide)
  · cases hm : ((List.range 128).map fun i => (blockOf (a % 2 ^ 21) + 1 + i) % 128).find? fun m => !s.blockFailed m with
    | none => decide
    | some m =>
      obtain ⟨i, -, rfl⟩ := List.mem_map.mp (List.mem_of_find?_eq_some hm)
      simp only [Option.map_some, Option.getD_some]
      omega

/-- TALLY_STAT is no block's register. -/
theorem State.blockFailed_setTally (s : State) (lo w v : Nat) {n : Nat} (hn : n < 128) :
    (s.setF ⟨0x3e0028, lo, w⟩ v).blockFailed n = s.blockFailed n := by
  rw [State.blockFailed, State.reg_setF_other _ _ _ _ (by dsimp only; omega), State.blockFailed]

theorem State.blockFailed_passMoved (s : State) (a : Nat) {n : Nat} (hn : n < 128) : (s.passMoved a).blockFailed n = s.blockFailed n := by
  have hpos (v : Nat) : (s.setF fTallyPos v).blockFailed n = s.blockFailed n := s.blockFailed_setTally _ _ v hn
  rw [State.passMoved]
  split
  · exact (State.blockFailed_setTally _ _ _ _ hn).trans (hpos _)
  · exact hpos _

theorem State.f_passMoved (s : State) (a : Nat) : (s.passMoved a).f fTallyPos = (s.rowFrom (a + 1)).getD 0 := by
  have hpos := State.f_setF_same s fTallyPos _ (by decide) (s.rowFrom_lt (a + 1))
  rw [State.passMoved]
  split
  · rw [State.inc, State.f_setF_field _ fPasses fTallyPos _ rfl (by decide) (by decide) (by decide), hpos]
  · exact hpos

theorem State.f_passMoved_next (s : State) (a : Nat) : (s.passMoved a).f fTallyPos = ((s.passMoved a).rowFrom (a + 1)).getD 0 := by
  rw [s.f_passMoved, State.rowFrom_congr fun n hn => s.blockFailed_passMoved a hn]

/-! ### The shadow writer (R562, R563) -/

theorem exec_shadowDrain (s : State) : exec .shadowDrain s = whileUp s State.shadowDrain := rfl
theorem exec_shadowDirtyFill (row : BitVec 21) (s : State) :
    exec (.shadowDirtyFill row) s = whileUp s (·.dirtyFill row.toNat) := rfl

theorem State.shadowDrain_oldest {s : State} {a : Nat} {r : Row} {rest : List (Nat × Row)} (h : s.ras.shadowQ = (a, r) :: rest) :
    s.shadowDrain = (s.shadowTraffic a true).updRas (fun x => { x with
      shadowQ := rest, shadow := SMap.set (fun _ => {}) x.shadow a r, shadowQBad := setFlag x.shadowQBad a false,
      shadowPoison := setFlag x.shadowPoison a false }) := by
  rw [State.shadowDrain, h]

section
variable {s : State} {a : Nat} (hd : flag s.ras.dirty a = true)
include hd

/-- A fill of a dirty row with no array operation under way queues its read. -/
theorem State.dirtyFill_queues (hf : s.arb.flights = []) (hq : s.queuedOps = []) :
    s.dirtyFill a = s.enqOp 13 { table := 0, act := .read a, origin := .dirtyFill } := by
  simp only [State.dirtyFill, hd, hf, hq, Bool.not_true, Bool.false_eq_true, if_false, List.find?_nil, List.any_nil]

/-- A fill whose read has been observed with good parity ends. -/
theorem State.dirtyFill_observed {f : Flight} {n : Seen} (hf : s.arb.flights = [f]) (ho : f.op.origin = .dirtyFill)
    (hr : f.op.act = .read a) (hs : f.seen = some n) (hb : n.row.bad = 0) :
    s.dirtyFill a = ((s.dropFlight f).updRas (fun x => { x with
      shadow := SMap.set (fun _ => {}) x.shadow a n.row.row, dirty := setFlag x.dirty a false,
      shadowPoison := setFlag x.shadowPoison a false })).inc fDirtyFills := by
  have hfind : s.arb.flights.find? (fun f => f.op.origin == .dirtyFill && f.op.act == .read a) = some f := by
    rw [hf, List.find?_cons_of_pos (by simp [ho, hr])]
  simp only [State.dirtyFill, hd, hfind, hs, hb, Bool.not_true, Bool.false_eq_true, if_false, bne_self_eq_false]

end

/-- Settles O14, a clause at a time from the equations of its commands. -/
theorem spareTallyAndShadowCommandsAct : Obligations.SpareTallyAndShadowCommandsAct := by
  refine ⟨?_, ?_, ?_, ?_, ?_, ?_, ?_, ?_, ?_, ?_⟩
  · intro n p rest s hu hfail hok hfree hready
    obtain ⟨hf, hr, ha, hb⟩ := State.blockFailing_spared_ras hfail hok hfree hready 0
    exact ⟨_, (exec_blockSenseFault n s).trans (whileUp_of_up hu _), hf, hr, ha, hb, s.blockFailing_arr n.val 0⟩
  · intro n s hfail
    exact (exec_blockSenseFault n s).trans (whileUp_of_fixed (State.blockFailing_known hfail 0))
  · intro via n p rest s hruns hn hfail hok hfree hready
    obtain ⟨hf, hr, -, -⟩ := State.blockFailing_spared_ras hfail hok hfree hready 2
    exact ⟨_, exec_blockSpare_free hruns hn hfree, .ended (s.blockFailing_mbox _ _) (s.blockFailing_tick _ _) via 0x26, hf, hr⟩
  · intro r s hu hr hd hf hblk hspare _
    obtain ⟨u, hswitch⟩ := s.rebuildSwitch_inService r
    refine ⟨_, exec_spareRebuildSwitch_due hu hr hd hf, ?_⟩
    rw [hswitch]
    exact u.physOf_inService hblk (by omega)
  · intro r s hu hr hd hf
    rw [exec_sparePauseEnd_due hu hr hd hf, State.updRas, hr, List.erase_cons_head]
  · intro f a n s hu h
    obtain ⟨u, hvisit⟩ := (s.dropFlight f).pacedVisit_passMoved a (f.g + 5) n
    refine ⟨_, (exec_tallyVisit s).trans (whileUp_of_up hu _), ?_⟩
    rw [State.tallyVisit_due h, hvisit]
    exact u.f_passMoved_next a
  · intro f a n s hu h
    rw [exec_tallyOutOfTurn, whileUp_of_up hu, State.tallyOut_due h]
  · intro a r rest s hu h
    rw [exec_shadowDrain, whileUp_of_up hu, State.shadowDrain_oldest h]
  · intro row s hu hd hf hq
    rw [exec_shadowDirtyFill, whileUp_of_up hu, State.dirtyFill_queues hd hf hq]
  · intro row f n s hu hd hf ho hr hs hb
    refine ⟨_, (exec_shadowDirtyFill row s).trans (whileUp_of_up hu _), ?_⟩
    rw [State.dirtyFill_observed hd hf ho hr hs hb]
    exact ⟨rfl, rfl, rfl⟩

end Sys2Proof.Machine
end

section
/-! SUPPORT. Proofs. What a step keeps: the components outside the front command's footprint, the canonical maps, the queue. -/

set_option Elab.async false

namespace Sys2Proof.Machine

/-! ### Footprints as lists of components -/

/-- The mask that names the components of a list: bit i for component i of `Comp.idx`. -/
def Comp.mask (l : List Comp) : Nat := l.foldr (fun x m => 2 ^ x.idx ||| m) 0

theorem Comp.idx_injective : Function.Injective Comp.idx :=
  Function.LeftInverse.injective (g := Comp.ofNat) (fun x => by cases x <;> rfl)

theorem Comp.mask_testBit_of_notMem {l : List Comp} {x : Comp} (h : x ∉ l) : (Comp.mask l).testBit x.idx = false := by
  induction l with
  | nil => exact Nat.zero_testBit _
  | cons y l ih =>
    have hy : y.idx ≠ x.idx := fun e => List.ne_of_not_mem_cons h (Comp.idx_injective e).symm
    have hl : (Comp.mask l).testBit x.idx = false := ih (List.not_mem_of_not_mem_cons h)
    simp only [Comp.mask, List.foldr_cons, Nat.testBit_or, Nat.testBit_two_pow_of_ne hy, Bool.false_or]
    exact hl

/-- Every command stays within its footprint and keeps the canonical form: each by the law of its meaning. -/
theorem exec_eff (s : State) : ∀ c : Instr, EffX (Comp.mask (commandWrites c)) s (exec c s)
  | .tick => execTick_eff s
  | .rowCommit => execRowCommit_eff s
  | .searchResultDeliver .. => execSearchResultDeliver_eff _ s
  | .enumPassDeliver .. => execEnumPassDeliver_eff _ s
  | .backoffExpiry .. => execBackoffExpiry_eff _ _ s
  | .arbWatchdogFire .. => execArbWatchdogFire_eff _ s
  | .fixApply .. => execFixApply_eff _ s
  | .arbPortMaskWrite .. => execArbPortMaskWrite_eff _ _ _ s
  | .cascadeMerge .. => execCascadeMerge_eff _ s
  | .casReq .. => execCasReq_eff _ s
  | .casReply .. => execCasReply_eff _ s
  | .casDecline .. => execCasDecline_eff _ s
  | .enumReply .. => execEnumReply_eff _ _ s
  | .createTable .. => execCreateTable_eff _ _ _ _ _ _ _ _ s
  | .resizeTable .. => execResizeTable_eff _ _ _ _ s
  | .shrinkEnd .. => execShrinkEnd_eff _ s
  | .shrinkBlockClear .. => execShrinkBlockClear_eff _ s
  | .destroyTable .. => execDestroyTable_eff _ _ s
  | .destroyClearStart .. => execDestroyClearStart_eff _ s
  | .destroyIdFree .. => execDestroyIdFree_eff _ s
  | .migrateTable .. => execMigrateTable_eff _ _ _ s
  | .migrationCutover .. => execMigrationCutover_eff _ s
  | .migrationOldClear .. => execMigrationOldClear_eff _ s
  | .tableCapture .. => execTableCapture_eff _ _ _ _ s
  | .dirProfile .. => execDirProfile_eff _ _ _ s
  | .blockSpare .. => execBlockSpare_eff _ _ s
  | .domainCreate .. => execDomainCreate_eff _ _ _ s
  | .domainDestroy .. => execDomainDestroy_eff _ _ s
  | .ldMapSet .. => execLdMapSet_eff _ _ _ _ s
  | .windowMap .. => execWindowMap_eff _ _ _ _ s
  | .ldMgmtSet .. => execLdMgmtSet_eff _ _ _ _ s
  | .ctxAssign .. => execCtxAssign_eff _ _ _ _ _ _ s
  | .ctxDisable .. => execCtxDisable_eff _ _ _ s
  | .tierSetPolicy .. => execTierSetPolicy_eff _ _ _ _ _ _ s
  | .tierPin .. => execTierPin_eff _ _ _ _ s
  | .tierUnpin .. => execTierUnpin_eff _ _ _ _ s
  | .tierOffer .. => execTierOffer_eff _ _ _ _ s
  | .keyRotate .. => execKeyRotate_eff _ _ _ s
  | .chanRetire .. => execChanRetire_eff _ _ s
  | .rankRetrain .. => execRankRetrain_eff _ _ _ _ s
  | .restoreFactory .. => execRestoreFactory_eff _ s
  | .mirrorRegion .. => execMirrorRegion_eff _ _ _ _ _ s
  | .pairBench .. => execPairBench_eff _ s
  | .pairJoin .. => execPairJoin_eff _ s
  | .deviceReset .. => execDeviceReset_eff _ _ s
  | .deviceResetDelayExpiry => execDeviceResetDelayExpiry_eff s
  | .fwSvnCommit .. => execFwSvnCommit_eff _ s
  | .ownerCmdUnknown .. => execOwnerCmdUnknown_eff _ _ s
  | .nop .. => execNop_eff _ s
  | .search .. => execSearch_eff _ _ s
  | .enumerate .. => execEnumerate_eff _ _ s
  | .resetQueue .. => execResetQueue_eff _ _ s
  | .abort .. => execAbort_eff _ _ s
  | .insert .. => execInsert_eff _ _ s
  | .update .. => execUpdate_eff _ _ s
  | .delete .. => execDelete_eff _ _ s
  | .readByHandle .. => execReadByHandle_eff _ _ s
  | .readByKey .. => execReadByKey_eff _ _ s
  | .learn .. => execLearn_eff _ _ s
  | .lock .. => execLock_eff _ _ s
  | .commit .. => execCommit_eff _ _ s
  | .abandon .. => execAbandon_eff _ _ s
  | .bulkLoad .. => execBulkLoad_eff _ _ _ s
  | .bulkLoadCommit .. => execBulkLoadCommit_eff _ s
  | .setProfile .. => execSetProfile_eff _ _ s
  | .openTable .. => execOpenTable_eff _ _ s
  | .disable .. => execDisable_eff _ _ s
  | .enable .. => execEnable_eff _ _ s
  | .scan .. => execScan_eff _ _ _ _ s
  | .scanRetarget .. => execScanRetarget_eff _ _ s
  | .dirPin .. => execDirPin_eff _ _ s
  | .dirUnpin .. => execDirUnpin_eff _ _ s
  | .descUndefinedOpcode .. => execDescUndefinedOpcode_eff _ _ s
  | .maintInsert .. => execMaintInsert_eff _ _ s
  | .maintUpdate .. => execMaintUpdate_eff _ _ s
  | .maintDelete .. => execMaintDelete_eff _ _ s
  | .maintReadByHandle .. => execMaintReadByHandle_eff _ _ s
  | .maintReadByKey .. => execMaintReadByKey_eff _ _ s
  | .maintLock .. => execMaintLock_eff _ _ s
  | .maintCommit .. => execMaintCommit_eff _ _ s
  | .maintAbandon .. => execMaintAbandon_eff _ _ s
  | .maintReservedOpcode .. => execMaintReservedOpcode_eff _ _ s
  | .maintCmdComplete => execMaintCmdComplete_eff s
  | .maintEvictSeedWrite .. => execMaintEvictSeedWrite_eff _ _ s
  | .placementDecision => execPlacementDecision_eff s
  | .tableManagerPlacement => execTableManagerPlacement_eff s
  | .gladeRestore .. => execGladeRestore_eff _ s
  | .canopyTighten .. => execCanopyTighten_eff _ s
  | .relocationSwitch .. => execRelocationSwitch_eff _ _ s
  | .leaseExpiry .. => execLeaseExpiry_eff _ s
  | .bankReady .. => execBankReady_eff _ s
  | .continuationQueue .. => execContinuationQueue_eff _ s
  | .bankDrainTake .. => execBankDrainTake_eff _ s
  | .nextRead .. => execNextRead_eff _ _ s
  | .matchEntryWrite .. => execMatchEntryWrite_eff _ _ s
  | .learnDecide .. => execLearnDecide_eff _ s
  | .learnRetry .. => execLearnRetry_eff _ s
  | .sweepPassStart .. => execSweepPassStart_eff _ s
  | .sweeperVisit .. => execSweeperVisit_eff _ s
  | .dirRequest => execDirRequest_eff s
  | .dirResolve .. => execDirResolve_eff _ s
  | .dirDataReturn .. => execDirDataReturn_eff _ s
  | .dirClaimEnd .. => execDirClaimEnd_eff _ s
  | .dirAgeRemoval .. => execDirAgeRemoval_eff _ s
  | .dirBiTimeout .. => execDirBiTimeout_eff _ _ s
  | .trieAdmit => execTrieAdmit_eff s
  | .trieLookupDeliver => execTrieLookupDeliver_eff s
  | .trieMutationTake .. => execTrieMutationTake_eff _ s
  | .trieSwap .. => execTrieSwap_eff _ s
  | .trieNodeFree .. => execTrieNodeFree_eff _ s
  | .directAccess .. => execDirectAccess_eff _ s
  | .directLookupDeliver => execDirectLookupDeliver_eff s
  | .chunkTake .. => execChunkTake_eff _ _ s
  | .imageLoadDone .. => execImageLoadDone_eff _ _ s
  | .chunkEnd .. => execChunkEnd_eff _ _ s
  | .reportPost .. => execReportPost_eff _ _ s
  | .jobComplete .. => execJobComplete_eff _ _ s
  | .rngEnableWrite .. => execRngEnableWrite_eff _ _ s
  | .reportConsWrite .. => execReportConsWrite_eff _ _ _ _ s
  | .linkTrain .. => execLinkTrain_eff _ _ _ _ _ _ s
  | .portLinkLoss .. => execPortLinkLoss_eff _ s
  | .perstAssert .. => execPerstAssert_eff _ s
  | .functionLevelReset .. => execFunctionLevelReset_eff _ s
  | .decoderCommit .. => execDecoderCommit_eff _ _ _ s
  | .ideFailure .. => execIdeFailure_eff _ _ s
  | .ideKm .. => execIdeKm_eff _ _ _ _ _ _ s
  | .memrd .. => execMemrd_eff _ _ _ _ s
  | .memrddata .. => execMemrddata_eff _ _ _ _ s
  | .meminv .. => execMeminv_eff _ _ _ _ s
  | .meminvnt .. => execMeminvnt_eff _ _ _ _ s
  | .memspecrd ld hpa => execMemspecrd_eff ld hpa s
  | .memclnevct ld hpa tag => execMemclnevct_eff ld hpa tag s
  | .memwr .. => execMemwr_eff _ _ _ _ _ s
  | .memwrptl .. => execMemwrptl_eff _ _ _ _ _ _ s
  | .memrdfwd .. => execMemrdfwd_eff _ _ s
  | .memwrfwd .. => execMemwrfwd_eff _ _ s
  | .memrdtee .. => execMemrdtee_eff _ _ s
  | .memwrtee .. => execMemwrtee_eff _ _ s
  | .memWrMsg .. => execMemWrMsg_eff _ _ _ _ _ s
  | .reservedMemOpcode .. => execReservedMemOpcode_eff _ _ _ _ s
  | .biconflict ld line tag => execBiconflict_eff ld line tag s
  | .birspi .. => execBirspi_eff _ _ _ s
  | .birsps .. => execBirsps_eff _ _ _ s
  | .birspe .. => execBirspe_eff _ _ _ s
  | .identify .. => execIdentify_eff _ s
  | .getSupportedLogs .. => execGetSupportedLogs_eff _ s
  | .getLog .. => execGetLog_eff _ s
  | .getEventRecords .. => execGetEventRecords_eff _ _ s
  | .clearEventRecords .. => execClearEventRecords_eff _ _ _ s
  | .getEventInterruptPolicy .. => execGetEventInterruptPolicy_eff _ s
  | .setEventInterruptPolicy .. => execSetEventInterruptPolicy_eff _ _ s
  | .getFwInfo .. => execGetFwInfo_eff _ s
  | .transferFw .. => execTransferFw_eff _ _ _ _ _ s
  | .activateFw .. => execActivateFw_eff _ _ s
  | .getTimestamp .. => execGetTimestamp_eff _ s
  | .setTimestamp .. => execSetTimestamp_eff _ _ s
  | .getHealthInfo .. => execGetHealthInfo_eff _ s
  | .identifyMemoryDevice .. => execIdentifyMemoryDevice_eff _ s
  | .getPoisonList .. => execGetPoisonList_eff _ s
  | .injectPoison .. => execInjectPoison_eff _ _ s
  | .clearPoison .. => execClearPoison_eff _ _ _ s
  | .getDynamicCapacityConfig .. => execGetDynamicCapacityConfig_eff _ s
  | .getDynamicCapacityExtents .. => execGetDynamicCapacityExtents_eff _ s
  | .addDynamicCapacityResponse .. => execAddDynamicCapacityResponse_eff _ _ s
  | .releaseDynamicCapacity .. => execReleaseDynamicCapacity_eff _ _ s
  | .unsupportedMailboxCmd .. => execUnsupportedMailboxCmd_eff _ _ s
  | .setLdAllocations .. => execSetLdAllocations_eff _ _ s
  | .bindLd .. => execBindLd_eff _ s
  | .unbindLd .. => execUnbindLd_eff _ s
  | .setQosAllocatedBw .. => execSetQosAllocatedBw_eff _ _ s
  | .setQosBwLimit .. => execSetQosBwLimit_eff _ _ s
  | .setQosControl .. => execSetQosControl_eff _ _ _ s
  | .setDcRegionConfig .. => execSetDcRegionConfig_eff _ _ _ _ s
  | .initiateDcAdd .. => execInitiateDcAdd_eff _ _ _ s
  | .initiateDcRelease .. => execInitiateDcRelease_eff _ _ _ s
  | .getMultiHeadedInfo => execGetMultiHeadedInfo_eff s
  | .fmApiOwnerCommand .. => execFmApiOwnerCommand_eff _ _ s
  | .fmApiOtherCommand .. => execFmApiOtherCommand_eff _ s
  | .ctxEnableWrite .. => execCtxEnableWrite_eff _ _ s
  | .ctxDisableWrite .. => execCtxDisableWrite_eff _ _ s
  | .ctxResetWrite .. => execCtxResetWrite_eff _ _ s
  | .contextDrained .. => execContextDrained_eff _ s
  | .sqProdWrite .. => execSqProdWrite_eff _ _ _ s
  | .cqConsWrite .. => execCqConsWrite_eff _ _ _ s
  | .descriptorFetch .. => execDescriptorFetch_eff _ _ s
  | .stampRefetch .. => execStampRefetch_eff _ _ s
  | .stampTimeout .. => execStampTimeout_eff _ _ s
  | .descriptorAccept .. => execDescriptorAccept_eff _ s
  | .descriptorDispatch .. => execDescriptorDispatch_eff _ s
  | .completionWrite .. => execCompletionWrite_eff _ _ s
  | .windowWrite .. => execWindowWrite_eff _ _ _ _ _ s
  | .windowRead .. => execWindowRead_eff _ _ _ s
  | .windowReadHoldExpiry .. => execWindowReadHoldExpiry_eff _ _ _ s
  | .placementRefill .. => execPlacementRefill_eff _ _ s
  | .promotionCommit .. => execPromotionCommit_eff _ s
  | .heatSweep => execHeatSweep_eff s
  | .tierMigrationSwitch .. => execTierMigrationSwitch_eff _ s
  | .compaction .. => execCompaction_eff _ s
  | .emergencyDemotionPass => execEmergencyDemotionPass_eff s
  | .lrDrain => execLrDrain_eff s
  | .rotationPageCopy .. => execRotationPageCopy_eff _ s
  | .rotationLineAdvance => execRotationLineAdvance_eff s
  | .rotationFinish => execRotationFinish_eff s
  | .zeroFrameDone => execZeroFrameDone_eff s
  | .onDemandZero => execOnDemandZero_eff s
  | .refreshInterval .. => execRefreshInterval_eff _ _ s
  | .mr4ReadDue .. => execMr4ReadDue_eff _ _ s
  | .mr4Result .. => execMr4Result_eff _ _ _ s
  | .powerDownEnter .. => execPowerDownEnter_eff _ _ s
  | .selfRefreshEnter .. => execSelfRefreshEnter_eff _ _ s
  | .selfRefreshExit .. => execSelfRefreshExit_eff _ _ s
  | .dramReadReturn .. => execDramReadReturn_eff _ _ _ s
  | .patrolScrub .. => execPatrolScrub_eff _ s
  | .mapValidWrite .. => execMapValidWrite_eff _ _ s
  | .qosClassWrite .. => execQosClassWrite_eff _ _ s
  | .retireGranuleCopy => execRetireGranuleCopy_eff s
  | .trnStart .. => execTrnStart_eff _ _ _ s
  | .trainingRunDone .. => execTrainingRunDone_eff _ _ s
  | .dlyWrite .. => execDlyWrite_eff _ _ _ _ _ _ s
  | .drcTimingWrite .. => execDrcTimingWrite_eff _ _ _ _ s
  | .calSnap .. => execCalSnap_eff _ _ s
  | .calNudgeWrite .. => execCalNudgeWrite_eff _ _ _ _ s
  | .rankTrainingExit .. => execRankTrainingExit_eff _ _ _ s
  | .evacuationDone => execEvacuationDone_eff s
  | .restoreCopyDone => execRestoreCopyDone_eff s
  | .linkGo .. => execLinkGo_eff _ _ s
  | .hello .. => execHello_eff _ s
  | .heartbeatSend => execHeartbeatSend_eff s
  | .heartbeat senderTick epoch intact => execHeartbeat_eff senderTick epoch intact s
  | .heartbeatTimeout => execHeartbeatTimeout_eff s
  | .pairLinkLoss => execPairLinkLoss_eff s
  | .tossResend => execTossResend_eff s
  | .tossAnswer .. => execTossAnswer_eff _ _ _ _ _ _ s
  | .tossTimeout => execTossTimeout_eff s
  | .partnerLossDetect => execPartnerLossDetect_eff s
  | .flitReceive .. => execFlitReceive_eff _ _ _ _ _ _ s
  | .regionList .. => execRegionList_eff _ s
  | .applied table seq home => execApplied_eff table seq home s
  | .memAck .. => execMemAck_eff _ s
  | .mutDone .. => execMutDone_eff _ _ _ s
  | .mirOp .. => execMirOp_eff _ s
  | .mirOpCommit => execMirOpCommit_eff s
  | .mirReady .. => execMirReady_eff _ _ s
  | .fwdMut .. => execFwdMut_eff _ _ _ _ _ s
  | .resyncRow .. => execResyncRow_eff _ s
  | .resyncBlock .. => execResyncBlock_eff _ _ _ s
  | .rdrReq .. => execRdrReq_eff _ _ _ s
  | .rdrRsp .. => execRdrRsp_eff _ _ _ s
  | .pageReq .. => execPageReq_eff _ s
  | .pageBlock .. => execPageBlock_eff _ _ _ s
  | .resyncDone .. => execResyncDone_eff _ s
  | .tallyVisit => execTallyVisit_eff s
  | .tallyRepair => execTallyRepair_eff s
  | .tallyOutOfTurn => execTallyOutOfTurn_eff s
  | .shadowDrain => execShadowDrain_eff s
  | .shadowDirtyFill .. => execShadowDirtyFill_eff _ s
  | .blockSenseFault .. => execBlockSenseFault_eff _ s
  | .spareRebuildSwitch => execSpareRebuildSwitch_eff s
  | .sparePauseEnd => execSparePauseEnd_eff s
  | .mpWdogKick .. => execMpWdogKick_eff _ _ s
  | .mpWatchdogExpiry => execMpWatchdogExpiry_eff s
  | .deviceFatal .. => execDeviceFatal_eff _ s
  | .rasEvtConsWrite .. => execRasEvtConsWrite_eff _ _ s
  | .evtCoalesceExpiry => execEvtCoalesceExpiry_eff s
  | .rasInjGo .. => execRasInjGo_eff _ _ s
  | .glbIntStatusWrite .. => execGlbIntStatusWrite_eff _ _ s
  | .glbIntEnableWrite .. => execGlbIntEnableWrite_eff _ _ s
  | .mboxOwnerRead .. => execMboxOwnerRead_eff _ s
  | .mboxRelease .. => execMboxRelease_eff _ s
  | .ownerCmdComplete => execOwnerCmdComplete_eff s
  | .bar0BadAccess .. => execBar0BadAccess_eff _ _ _ _ s
  | .registerWrite .. => execRegisterWrite_eff _ _ _ _ s
  | .powerGoodRise => execPowerGoodRise_eff s
  | .coldResetRelease .. => execColdResetRelease_eff _ s
  | .powerGoodLoss => execPowerGoodLoss_eff s
  | .railUndervoltage => execRailUndervoltage_eff s
  | .sysResetAssert .. => execSysResetAssert_eff _ s
  | .sysResetRelease => execSysResetRelease_eff s
  | .bootPhaseAdvance .. => execBootPhaseAdvance_eff _ _ s
  | .spdmRequest inSession measIndex => execSpdmRequest_eff inSession measIndex s
  | .keyLoad .. => execKeyLoad_eff _ _ _ _ _ s
  | .keyErase .. => execKeyErase_eff _ _ _ s
  | .keyQuery .. => execKeyQuery_eff _ _ _ s
  | .lcTransition .. => execLcTransition_eff _ _ _ _ _ s
  | .lcWarmResetDue => execLcWarmResetDue_eff s
  | .lockSet .. => execLockSet_eff _ s
  | .fwConfirm .. => execFwConfirm_eff _ s
  | .trialWindowExpiry => execTrialWindowExpiry_eff s
  | .compatProfileWrite .. => execCompatProfileWrite_eff _ _ s
  | .thermalSample .. => execThermalSample_eff _ s
  | .gweutLinkUp .. => execGweutLinkUp_eff _ _ _ s
  | .mpProcessorFault => execMpProcessorFault_eff s
  | .mpRestartComplete => execMpRestartComplete_eff s

/-- Settles O5. -/
theorem commandsChangeOnlyTheirComponents : Obligations.CommandsChangeOnlyTheirComponents :=
  fun c s t h x hx => (exec_eff s c t h).same x (Comp.mask_testBit_of_notMem hx)

/-! ### A step -/

/-- Settles O1. -/
theorem stepRunsTheFrontCommand : Obligations.StepRunsTheFrontCommand := by
  intro c r s h
  rw [step, h]

/-- Settles O2. -/
theorem idleStepLeavesEverything : Obligations.IdleStepLeavesEverything := by
  intro s h
  rw [step, h]

/-- What a step can do: idle on an empty queue, or run the front command on the queue's rest. -/
theorem step_cases {s t : State} (h : step s = .next t) :
    (s.pending = [] ∧ t = s) ∨ ∃ c r, s.pending = c :: r ∧ exec c { s with pending := r } = .next t := by
  cases hp : s.pending with
  | nil => exact .inl ⟨rfl, (Host.Outcome.next.inj ((idleStepLeavesEverything s hp).symm.trans h)).symm⟩
  | cons c r => exact .inr ⟨c, r, rfl, (stepRunsTheFrontCommand c r s hp).symm.trans h⟩

/-- Settles O6: the queue is no part of the canonical form, and every command keeps it. -/
theorem stepKeepsMapsCanonical : Obligations.StepKeepsMapsCanonical := by
  intro s t hs h
  obtain ⟨-, rfl⟩ | ⟨c, r, -, he⟩ := step_cases h
  · exact hs
  · exact (exec_eff _ c t he).2 hs

theorem pending_notMem_commandWrites (c : Instr) : Comp.pending ∉ commandWrites c := by
  have h : decide (Comp.pending ∈ commandWrites c) = false := by cases c <;> rfl
  exact of_decide_eq_false h

/-- Settles O4: no footprint names the queue. -/
theorem queueKeepsItsOrder : Obligations.QueueKeepsItsOrder := by
  intro s t h
  obtain ⟨hp, rfl⟩ | ⟨c, r, hp, he⟩ := step_cases h
  · rw [hp, List.tail_nil]
  · rw [hp, List.tail_cons]
    exact commandsChangeOnlyTheirComponents c _ t he .pending (pending_notMem_commandWrites c)

/-- Settles O7. -/
theorem resetIsCanonical : Obligations.ResetIsCanonical :=
  ⟨⟨rfl, rfl, rfl⟩, rfl⟩

end Sys2Proof.Machine
end

section
/-! SUPPORT. Proofs. Owner commands of domains, LDs and contexts (18 R628, R629; 17 R602, R604; 11 R372, R394, R408; 10 R357). -/

set_option Elab.async false

namespace Sys2Proof.Machine

/-! ### The checks of an owner command, and its end -/

@[simp] theorem firstBad_nil : firstBad [] = none := rfl

theorem firstBad_cons (b : Bool) (st : Nat) (l : List (Bool × Nat)) :
    firstBad ((b, st) :: l) = if b then some st else firstBad l := by
  cases b <;> rfl

section
variable {s : State} {via : OwnerPath} {code : Nat} {bad : State → Option Nat} {eff : State → State → State}

/-- No check fails: the command has its effect and ends with SUCCESS. -/
theorem whileUp_owner1_done (h : s.ownerRuns via = true) (hbad : bad s = none) :
    whileUp s (fun s => s.owner1 via code (bad s) (eff s)) = .next ((eff s s).ownerEnd via code St.success) := by
  rw [whileUp_of_up (State.up_of_ownerRuns h), hbad, State.owner1_done h]

/-- A check fails: the command ends with its status and has no effect. -/
theorem whileUp_owner1_refused {st : Nat} (h : s.ownerRuns via = true) (hbad : bad s = some st) :
    whileUp s (fun s => s.owner1 via code (bad s) (eff s)) = .next (s.ownerEnd via code st) := by
  rw [whileUp_of_up (State.up_of_ownerRuns h), hbad, State.owner1_refused h]

/-- R602 does not accept the command: it ends PRIVILEGE and has no effect. -/
theorem whileUp_owner1_privilege (hu : s.up = true) (hfw : s.fwFree = true) (hok : s.ownerOk via = false) :
    whileUp s (fun s => s.owner1 via code (bad s) (eff s)) = .next (s.ownerEnd via code St.privilege) := by
  simp [whileUp_of_up hu, State.owner1, hfw, hok]

end

/-! ### Domains and the LD map -/

section
variable {via : OwnerPath} {d : BitVec 16} {s : State} (h : s.ownerRuns via = true) (hd : d.toNat < 4096)
include h hd

theorem execDomainCreate_loaded {k : BitVec 16} (hk : k.toNat < 4096) (hfree : s.domEnabled d.toNat = false)
    (hslot : s.slotState k.toNat = 1) : execDomainCreate via d k s =
      .next ((s.setDword (domAddr d.toNat) (BitVec.ofNat 64 (2 ^ 63 + k.toNat))).ownerEnd via 0x01 St.success) :=
  whileUp_owner1_done h (by simp [firstBad_cons, hd, hk, hfree, hslot])

theorem execDomainDestroy_unnamed (hn : s.domNamed d.toNat = false) :
    execDomainDestroy via d s = .next ((s.setDword (domAddr d.toNat) 0).ownerEnd via 0x02 St.success) :=
  whileUp_owner1_done h (by simp [firstBad_cons, hd, hn])

theorem execDomainDestroy_named (hn : s.domNamed d.toNat = true) :
    execDomainDestroy via d s = .next (s.ownerEnd via 0x02 St.locked) :=
  whileUp_owner1_refused h (by simp [firstBad_cons, hd, hn])

theorem execLdMapSet_valid {n : Byte} (hn : n.toNat < 32) (hen : s.domEnabled d.toNat = true)
    (hshare : s.sharesAcross n.toNat d.toNat = false) : execLdMapSet via n true d s =
      .next ((s.setLdMap n.toNat (BitVec.ofNat 64 (2 ^ 63 + d.toNat))).ownerEnd via 0x03 St.success) :=
  whileUp_owner1_done h (by simp [firstBad_cons, hd, hn, hen, hshare])

end

theorem execDomainCreate_privilege {via : OwnerPath} (d k : BitVec 16) {s : State} (hu : s.up = true) (hfw : s.fwFree = true)
    (hok : s.ownerOk via = false) : execDomainCreate via d k s = .next (s.ownerEnd via 0x01 St.privilege) :=
  whileUp_owner1_privilege hu hfw hok

/-! ### Windows and the management of LDs -/

section
variable {via : OwnerPath} {n : Byte} {s : State} (h : s.ownerRuns via = true) (hn : n.toNat < 32)
include h hn

theorem execWindowMap_map {o : BitVec 64} (ho : o.toNat % unit256 = 0) (hsegs : (s.ld n.toNat).segs = [])
    (hregs : (s.ld n.toNat).regions = []) : execWindowMap via n true o s =
      .next ((s.updLd n.toNat (fun l => { l with segs := l.segs ++
        [{ off := o.toNat, dpa := s.winBase + n.toNat * unit256, len := unit256, kind := 2 }] })).ownerEnd via 0x04 St.success) :=
  whileUp_owner1_done h (by simp [firstBad_cons, hn, ho, hsegs, hregs])

theorem execWindowMap_unmap {o : BitVec 64} (ho : o.toNat % unit256 = 0) : execWindowMap via n false o s =
      .next ((s.updLd n.toNat (fun l => { l with segs := l.segs.filter (fun g => g.kind != 2) })).ownerEnd
        via 0x04 St.success) :=
  whileUp_owner1_done h (by simp [firstBad_cons, hn, ho])

theorem execLdMgmtSet_open (b i : Bool) (hlock : s.f fLcLock = 0) : execLdMgmtSet via n b i s =
      .next (((s.setF (ldBar0 n.toNat) (if b then 1 else 0)).setF (ldInj n.toNat) (if i then 1 else 0)).ownerEnd
        via 0x05 St.success) :=
  whileUp_owner1_done h (by simp [firstBad_cons, hn, hlock])

theorem execLdMgmtSet_locked (b i : Bool) (hlock : s.f fLcLock = 1) :
    execLdMgmtSet via n b i s = .next (s.ownerEnd via 0x05 St.locked) :=
  whileUp_owner1_refused h (by simp [firstBad_cons, hn, hlock])

end

/-- BAR0_EN and POISON_INJ_EN stand in one register, apart. -/
theorem State.ldMgmt_fields (s : State) (n b i : Nat) (hb : b < 2) (hi : i < 2) :
    ((s.setF (ldBar0 n) b).setF (ldInj n) i).f (ldBar0 n) = b ∧ ((s.setF (ldBar0 n) b).setF (ldInj n) i).f (ldInj n) = i := by
  refine ⟨?_, State.f_setF_same _ _ _ (by simp) hi⟩
  rw [State.f_setF_field _ (ldInj n) (ldBar0 n) i rfl (by simp) (by simp) (by simp)]
  exact State.f_setF_same _ _ _ (by simp) hb

/-! ### Contexts -/

section
variable {via : OwnerPath} {c : BitVec 16} {s : State} (h : s.ownerRuns via = true) (hc : c.toNat < 4096)
include h hc

theorem execCtxAssign_disabled {d : BitVec 16} {st n p : Byte} (hd : d.toNat < 4096) (hst : st.toNat < 2) (hn : n.toNat < 32)
    (hp : p.toNat < 8) (hoff : (s.cx c.toNat).state = 0) (hv : s.ldValid n.toNat = true) (hdom : s.ldDomain n.toNat = d.toNat) :
    execCtxAssign via c d st n p s = .next ((s.updCx c.toNat (fun x =>
      { x with assigned := true, domain := d.toNat, steward := st == 1, ldid := n.toNat, sport := p.toNat })).ownerEnd
        via 0x10 St.success) :=
  whileUp_owner1_done h (by simp [firstBad_cons, hc, hd, hst, hn, hp, hoff, hv, hdom])

theorem execCtxDisable_enabled (hon : (s.cx c.toNat).state = 1) :
    execCtxDisable via c false s = .next ((s.drain c.toNat false).ownerEnd via 0x11 St.success) :=
  (whileUp_owner1_done h (by simp [firstBad_cons, hc])).trans (by simp [hon])

theorem execCtxDisable_reset :
    execCtxDisable via c true s = .next ((s.resetCtx c.toNat).ownerEnd via 0x11 St.success) :=
  whileUp_owner1_done h (by simp [firstBad_cons, hc])

end

/-! ### Unknown codes -/

theorem execOwnerCmdUnknown_malformed {via : OwnerPath} {s : State} (h : s.ownerRuns via = true) (code : BitVec 16) :
    execOwnerCmdUnknown via code s = .next (s.ownerEnd via code.toNat St.malformed) :=
  whileUp_owner1_refused h rfl

/-- Settles O24, from the equations of its commands. -/
theorem domainAndLdOwnerCommandsAct : Obligations.DomainAndLdOwnerCommandsAct := by
  refine ⟨?_, ?_, ?_, ?_, ?_, ?_, ?_, ?_, ?_, ?_, ?_, ?_, ?_⟩
  · intro via d k s h hd hk hfree hslot
    exact execDomainCreate_loaded h hd hk hfree hslot
  · intro via d s h hd hn
    exact execDomainDestroy_unnamed h hd hn
  · intro via d s h hd hn
    exact execDomainDestroy_named h hd hn
  · intro via n d s h hn hd hen hshare
    exact execLdMapSet_valid h hd hn hen hshare
  · intro via n o s h hn ho hsegs hregs
    refine ⟨_, execWindowMap_map h hn ho hsegs hregs, EndsWith.ended rfl rfl via 0x04, ?_, fun m hm => ?_⟩
    · rw [State.ownerEnd_ld, State.ld_updLd_same, hsegs, List.nil_append]
    · rw [State.ownerEnd_ld, State.ld_updLd_other s _ hm]
  · intro via n o s h hn ho
    refine ⟨_, execWindowMap_unmap h hn ho, EndsWith.ended rfl rfl via 0x04, ?_, fun m hm => ?_⟩
    · rw [State.ownerEnd_ld, State.ld_updLd_same]
    · rw [State.ownerEnd_ld, State.ld_updLd_other s _ hm]
  · intro via n b i s h hn hlock
    obtain ⟨hbar0, hinj⟩ := s.ldMgmt_fields n.toNat (if b then 1 else 0) (if i then 1 else 0) (by split <;> decide)
      (by split <;> decide)
    refine ⟨_, execLdMgmtSet_open h hn b i hlock, EndsWith.ended rfl rfl via 0x05, (State.ownerEnd_f ..).trans hbar0,
      (State.ownerEnd_f ..).trans hinj, fun o ho => ?_⟩
    rw [State.ownerEnd_reg, State.reg_setF_other _ _ _ _ ho, State.reg_setF_other _ _ _ _ ho]
  · intro via n b i s h hn hlock
    exact execLdMgmtSet_locked h hn b i hlock
  · intro via c d st n p s h hc hd hst hn hp hoff hv hdom
    exact execCtxAssign_disabled h hc hd hst hn hp hoff hv hdom
  · intro via c s h hc hon
    exact execCtxDisable_enabled h hc hon
  · intro via c s h hc
    exact execCtxDisable_reset h hc
  · intro via code s h
    exact execOwnerCmdUnknown_malformed h code
  · intro via d k s hu hfw hok
    exact execDomainCreate_privilege d k hu hfw hok

end Sys2Proof.Machine
end

section
/-! SUPPORT. Proofs. Interrupt registers, the management mailbox, bad accesses and register writes (18 R616, R617, R621 to R627). -/

set_option Elab.async false

namespace Sys2Proof.Machine

/-! ### GLB_INT_STATUS and GLB_INT_ENABLE (R622, R623) -/

theorem exec_glbIntStatusWrite (who : Who) (w : Word) (s : State) : exec (.glbIntStatusWrite who w) s =
    whileUp s (fun s => s.when (s.mayBar0 who) (·.intStatusWrite w)) := rfl
theorem exec_glbIntEnableWrite (who : Who) (w : Word) (s : State) : exec (.glbIntEnableWrite who w) s =
    whileUp s (fun s => s.when (s.mayBar0 who) (·.intEnableWrite w)) := rfl

/-- One bit of a write of GLB_INT_STATUS: it clears unless the device sets it in this tick. -/
def State.intBitWrite (v : Word) (s : State) (n : Nat) : State :=
  if bit v n && num s.ras.intTick n != s.tick + 1 then s.setF ⟨offIntStatus, n, 1⟩ 0 else s

theorem State.intBitWrite_ras (v : Word) (s : State) (n : Nat) : (s.intBitWrite v n).ras = s.ras := by
  unfold State.intBitWrite
  split <;> rfl

theorem State.intBitWrite_tick (v : Word) (s : State) (n : Nat) : (s.intBitWrite v n).tick = s.tick := by
  unfold State.intBitWrite
  split <;> rfl

theorem State.reg_intBitWrite (v : Word) (s : State) (n : Nat) {o : Nat} (h : o ≠ offIntStatus) :
    (s.intBitWrite v n).reg o = s.reg o := by
  unfold State.intBitWrite
  split
  · exact State.reg_setF_other _ _ _ _ h
  · rfl

theorem State.f_intBitWrite_same (v : Word) (s : State) {n : Nat} (h : n < 64) : (s.intBitWrite v n).f ⟨offIntStatus, n, 1⟩ =
    if bit v n && num s.ras.intTick n != s.tick + 1 then 0 else s.f ⟨offIntStatus, n, 1⟩ := by
  unfold State.intBitWrite
  split
  · exact State.f_setF_same _ _ _ h (Nat.two_pow_pos 1)
  · rfl

theorem State.f_intBitWrite_other (v : Word) (s : State) {n m : Nat} (hn : n < 64) (hm : m < 64) (h : m ≠ n) :
    (s.intBitWrite v n).f ⟨offIntStatus, m, 1⟩ = s.f ⟨offIntStatus, m, 1⟩ := by
  unfold State.intBitWrite
  split
  · exact State.f_setF_field _ ⟨offIntStatus, n, 1⟩ ⟨offIntStatus, m, 1⟩ 0 rfl hn hm (Nat.lt_or_gt_of_ne h)
  · rfl

/-- A bit takes the written value at its own turn and keeps it through the turns of the others. -/
theorem State.f_foldl_intBitWrite (v : Word) {l : List Nat} (hl : l.Nodup) (h64 : ∀ n ∈ l, n < 64) (s : State) {m : Nat}
    (hm : m < 64) : (l.foldl (State.intBitWrite v) s).f ⟨offIntStatus, m, 1⟩ =
      if m ∈ l ∧ (bit v m && num s.ras.intTick m != s.tick + 1) = true then 0 else s.f ⟨offIntStatus, m, 1⟩ := by
  induction l generalizing s with
  | nil => simp
  | cons n l ih =>
    obtain ⟨hn, hl⟩ := List.nodup_cons.mp hl
    obtain ⟨hn64, h64⟩ := List.forall_mem_cons.mp h64
    rw [List.foldl_cons, ih hl h64, s.intBitWrite_ras, s.intBitWrite_tick]
    by_cases e : m = n
    · subst e
      simp [hn, State.f_intBitWrite_same v s hm]
    · simp [e, State.f_intBitWrite_other v s hn64 hm e]

theorem State.f_intStatusWrite (s : State) (v : Word) {n : Nat} (h : n < 8) : (s.intStatusWrite v).f ⟨offIntStatus, n, 1⟩ =
    if bit v n && num s.ras.intTick n != s.tick + 1 then 0 else s.f ⟨offIntStatus, n, 1⟩ :=
  (State.f_foldl_intBitWrite v List.nodup_range (fun i hi => by have := List.mem_range.mp hi; omega) s (by omega)).trans
    (by simp only [List.mem_range, h, true_and])

theorem State.reg_intStatusWrite (s : State) (v : Word) {o : Nat} (h : o ≠ offIntStatus) : (s.intStatusWrite v).reg o = s.reg o :=
  State.reg_foldl _ (State.intBitWrite v) s o fun x n => State.reg_intBitWrite v x n h

/-- The interrupts that an enable sends touch no register. -/
theorem State.reg_intEnableWrite (s : State) (w : Word) (o : Nat) :
    (s.intEnableWrite w).reg o = (s.setReg offIntEnable (w &&& 0xff)).reg o :=
  State.reg_foldl _ _ _ o fun x n => by
    split
    · exact State.sendIrq_reg ..
    · rfl

/-! ### The mailbox's claim (R625) -/

theorem execMboxOwnerRead_claims {ld : LdId} {s : State} (hu : s.up = true) (hm : s.mayBar0 (.ld ld) = true)
    (hh : s.mbox.holder = none) : execMboxOwnerRead ld s = .next (({ s with mbox := { s.mbox with holder := some ld } }).send
      (.doorbell ld.val (BitVec.ofNat 64 (2 ^ 63 + 2 ^ 62 + ld.val)))) := by
  rw [execMboxOwnerRead, whileUp_of_up hu]
  simp [hm, hh, State.mboxOwner]

theorem execMboxOwnerRead_held {ld h : LdId} {s : State} (hu : s.up = true) (hm : s.mayBar0 (.ld ld) = true)
    (hh : s.mbox.holder = some h) (hne : h ≠ ld) :
    execMboxOwnerRead ld s = .next (s.send (.doorbell ld.val (BitVec.ofNat 64 (2 ^ 62 + h.val)))) := by
  rw [execMboxOwnerRead, whileUp_of_up hu]
  simp [hm, hh, State.mboxOwner, hne]

theorem execMboxRelease_holder {ld : LdId} {s : State} (hu : s.up = true) (hm : s.mayBar0 (.ld ld) = true)
    (hh : s.mbox.holder = some ld) : execMboxRelease ld s = .next s.mboxFree := by
  rw [execMboxRelease, whileUp_of_up hu, State.when_true (by simp [hm, hh])]

/-! ### The end of an owner command (R626) -/

theorem execOwnerCmdComplete_publishes {r : OwnerRes} {rest : List OwnerRes} {s : State} (hu : s.up = true)
    (hmp : s.ras.mpRunning = true) (hd : s.mbox.done = r :: rest) (ht : r.notBefore ≤ s.tick) :
    execOwnerCmdComplete s = .next (s.ownerPublish r) := by
  rw [execOwnerCmdComplete, whileUp_of_up hu, State.when_true hmp]
  simp [hd, Nat.not_lt.mpr ht]

/-- MBOX_CTRL and MBOX_TICK after a command without a result, with status `st` and commit tick `tk`, has completed. -/
def State.mboxShown (s : State) (st tk : Nat) : State :=
  (((s.setF fMboxStatus st).setF fResultLen 0).setReg 0x3f0008 (BitVec.ofNat 64 tk)).setF fMboxBusy 0

theorem State.mboxShown_fields (s : State) {st : Nat} (tk : Nat) (h : st < 256) :
    (s.mboxShown st tk).f fMboxBusy = 0 ∧ (s.mboxShown st tk).f fMboxStatus = st ∧ (s.mboxShown st tk).f fResultLen = 0 ∧
      (s.mboxShown st tk).reg 0x3f0008 = BitVec.ofNat 64 tk := by
  refine ⟨State.f_setF_same _ _ _ (by simp) (by simp), ?_, ?_, ?_⟩
  · rw [State.mboxShown, State.f_setF_field _ fMboxBusy fMboxStatus 0 rfl (by simp) (by simp) (by simp),
      State.f_setReg_other _ _ _ _ (by simp), State.f_setF_field _ fResultLen fMboxStatus 0 rfl (by simp) (by simp) (by simp)]
    exact State.f_setF_same _ _ _ (by simp) h
  · rw [State.mboxShown, State.f_setF_field _ fMboxBusy fResultLen 0 rfl (by simp) (by simp) (by simp),
      State.f_setReg_other _ _ _ _ (by simp)]
    exact State.f_setF_same _ _ _ (by simp) (by simp)
  · rw [State.mboxShown, State.reg_setF_other _ _ _ _ (by simp)]
    exact State.reg_setReg_same _ _ _

/-- The command that completes is no longer among those that have ended. -/
def State.taken (s : State) (via : OwnerPath) : State :=
  { s with mbox := { s.mbox with
      done := s.mbox.done.drop 1, taken := if s.mbox.taken = some via then none else s.mbox.taken } }

/-- The mailbox is ready for the next command, and a release that waited takes place. -/
def State.mboxReady (s : State) : State :=
  { s with mbox := { s.mbox with
      arrived := none, releasePending := false, holder := if s.mbox.releasePending then none else s.mbox.holder } }

theorem State.f_mboxReady (s : State) (x : F) : s.mboxReady.f x = s.f x := rfl
theorem State.reg_mboxReady (s : State) (o : Nat) : s.mboxReady.reg o = s.reg o := rfl

/-- A result with no bytes, through the mailbox: of the registers it shows status and tick. -/
theorem State.ownerPublish_mailbox (s : State) (ld : LdId) (code st tk : Nat) : s.ownerPublish ⟨.mailbox ld, code, st, tk, []⟩ =
    ((s.taken (.mailbox ld)).mboxShown st tk).mboxReady.setIrq Irq.mboxDone := by
  simp [State.ownerPublish, State.taken, State.mboxShown, State.mboxReady]

/-! ### Bad accesses and register writes (R616, R617) -/

theorem execBar0BadAccess_write {who : Who} {o : BitVec 24} {n : Nat} {s : State} (hu : s.up = true)
    (hm : s.mayBar0 who = true) (h4 : n ≠ 4) (h8 : n ≠ 8) :
    execBar0BadAccess who true o n s = .next (s.setF ⟨0x30, 8, 1⟩ 1) := by
  rw [execBar0BadAccess, whileUp_of_up hu]
  cases who <;> simp [State.when, hm, h4, h8]

section
variable {who : Who} {o : BitVec 24} (v : Word) {s : State} (hu : s.up = true) (hm : s.mayBar0 who = true)
include hu hm

theorem execRegisterWrite_wide (ho : o.toNat % 8 = 0) : execRegisterWrite who o true v s =
    .next { s with regW := s.regW ++ [⟨who, o.toNat / 8 * 8, BitVec.allOnes 64, v⟩] } := by
  rw [execRegisterWrite, whileUp_of_up hu, State.when_true hm]
  simp [ho]

theorem execRegisterWrite_high (ho : o.toNat % 8 = 4) : execRegisterWrite who o false v s =
    .next { s with regW := s.regW ++ [⟨who, o.toNat / 8 * 8, 0xffffffff00000000, v <<< 32⟩] } := by
  have h4 : o.toNat % 4 = 0 := by omega
  rw [execRegisterWrite, whileUp_of_up hu, State.when_true hm]
  simp [ho, h4]

theorem execRegisterWrite_misaligned (ho : o.toNat % 8 ≠ 0) :
    execRegisterWrite who o true v s = .next (s.setF ⟨0x30, 8, 1⟩ 1) := by
  rw [execRegisterWrite, whileUp_of_up hu, State.when_true hm]
  simp [ho]

end

/-- Settles O13, a clause at a time from the equations of its commands. -/
theorem mailboxAndGlobalRegisterCommandsAct : Obligations.MailboxAndGlobalRegisterCommandsAct := by
  refine ⟨?_, ?_, ?_, ?_, ?_, ?_, ?_, ?_, ?_, ?_, ?_, ?_⟩
  · intro who w s hu hm
    refine ⟨_, (exec_glbIntStatusWrite who w s).trans ((whileUp_of_up hu _).trans (congrArg _ (State.when_true hm _))), ?_, ?_⟩
    · exact fun n hn => s.f_intStatusWrite w hn
    · exact fun o ho => s.reg_intStatusWrite w ho
  · intro who w s hu hm
    refine ⟨_, (exec_glbIntEnableWrite who w s).trans ((whileUp_of_up hu _).trans (congrArg _ (State.when_true hm _))), ?_, ?_⟩
    · exact (s.reg_intEnableWrite w _).trans (State.reg_setReg_same ..)
    · exact fun o ho => (s.reg_intEnableWrite w o).trans (State.reg_setReg_other _ _ _ _ ho)
  · intro ld s hu hm hh
    exact execMboxOwnerRead_claims hu hm hh
  · intro ld h s hu hm hh hne
    exact execMboxOwnerRead_held hu hm hh hne
  · intro ld s hu hm hh hb
    exact (execMboxRelease_holder hu hm hh).trans (congrArg _ (if_neg hb))
  · intro ld s hu hm hh hb
    exact (execMboxRelease_holder hu hm hh).trans (congrArg _ (if_pos hb))
  · intro ld code st tk rest s hu hmp hd ht hst
    obtain ⟨hbusy, hstatus, hlen, htick⟩ := (s.taken (.mailbox ld)).mboxShown_fields tk hst
    refine ⟨_, execOwnerCmdComplete_publishes hu hmp hd ht, ?_⟩
    beta_reduce
    rw [s.ownerPublish_mailbox, State.f_setIrq _ _ fMboxBusy (by simp), State.f_setIrq _ _ fMboxStatus (by simp),
      State.f_setIrq _ _ fResultLen (by simp), State.reg_setIrq _ _ _ (by simp), State.setIrq_mbox, State.f_mboxReady,
      State.f_mboxReady, State.f_mboxReady, State.reg_mboxReady]
    exact ⟨hbusy, hstatus, hlen, htick, congrArg (List.drop 1) hd, rfl⟩
  · intro r rest s hu hmp hd ht
    exact execOwnerCmdComplete_publishes hu hmp hd ht
  · intro who o n s hu hm h4 h8
    exact execBar0BadAccess_write hu hm h4 h8
  · intro who o v s hu hm ho
    exact execRegisterWrite_wide v hu hm ho
  · intro who o v s hu hm ho
    exact execRegisterWrite_high v hu hm ho
  · intro who o v s hu hm ho
    exact execRegisterWrite_misaligned v hu hm ho

end Sys2Proof.Machine
end

section
/-! SUPPORT. Proofs. Power-good, cold and warm resets, DEVICE_RESET (19 R639 to R641; 17 R592, R593; 18 R629). -/

set_option Elab.async false

namespace Sys2Proof.Machine

/-! ### The wipe (17 R593) -/

/-- What a wipe of `s` leaves in `t` of the tick, the tables, contexts, queues and rows, HDM and host memory. -/
structure State.WipedTo (s t : State) : Prop where
  tick : t.tick = 0
  tbl : t.tbl = []
  ctx : t.ctx = []
  mq : t.mq = []
  arr : t.arr = {}
  mem : t.mem = []
  host : t.host = s.host

/-- The components that change from a wiped state on while the reset begins: outbox, registers, RAS record, pins. -/
abbrev resetMask : Nat := 2415919172

theorem State.WipedTo.then {s t u : State} (h : s.WipedTo t) (k : Eff resetMask t u) : s.WipedTo u :=
  ⟨(k.same .tick rfl).trans h.tick, (k.same .tbl rfl).trans h.tbl, (k.same .ctx rfl).trans h.ctx,
    (k.same .mq rfl).trans h.mq, (k.same .arr rfl).trans h.arr, (k.same .mem rfl).trans h.mem, (k.same .host rfl).trans h.host⟩

/-- A wipe is a state at its reset values but for what lies outside the device, then registers and the self-test. -/
theorem State.wipe_from (s : State) (cold : Bool) (bad : BitVec 136) :
    ∃ r : State, Eff 268435524 r (s.wipe cold bad) ∧ s.WipedTo r ∧ r.pins.cold = cold ∧ r.pins.warm = !cold := by
  unfold State.wipe
  extract_lets lc st lcShown fw life r stored caused
  have hstored : Eff 268435524 r stored :=
    (Eff.refl.then (State.setReg_eff r 0x800 lcShown) (by decide)).then (State.setReg_eff _ 0x820 fw) (by decide)
  have hcaused : Eff 268435524 r caused := hstored.then (Eff.ite (State.setF_eff stored _ _) Eff.refl) (by decide)
  refine ⟨r, (hcaused.then (State.selfTest_eff _ bad) (by decide)).then (State.send_eff _ _) (by decide), ?_, rfl, rfl⟩
  exact ⟨rfl, rfl, rfl, rfl, rfl, rfl, rfl⟩

theorem State.wipe_wipedTo (s : State) (cold : Bool) (bad : BitVec 136) : s.WipedTo (s.wipe cold bad) := by
  obtain ⟨r, heff, hr, -, -⟩ := s.wipe_from cold bad
  exact hr.then (heff.mono (by decide))

theorem State.wipe_pins (s : State) (cold : Bool) (bad : BitVec 136) :
    (s.wipe cold bad).pins.cold = cold ∧ (s.wipe cold bad).pins.warm = !cold := by
  obtain ⟨r, heff, -, hcold, hwarm⟩ := s.wipe_from cold bad
  have hpins : (s.wipe cold bad).pins = r.pins := heff.same .pins rfl
  rw [hpins]
  exact ⟨hcold, hwarm⟩

/-- The free values of an untold self-test leave host memory alone. -/
theorem State.WipedTo.of_freeBlocks {s t : State} (h : s.freeBlocks.2.WipedTo t) : s.WipedTo t :=
  { h with host := h.host.trans ((State.freeBlocks_eff s).same .host rfl) }

/-! ### Cold resets (19 R639, R640) -/

theorem State.coldReset_wipedTo (s : State) : s.WipedTo s.coldReset := by
  unfold State.coldReset
  extract_lets r t p good
  have hgood : s.WipedTo good := (r.2.wipe_wipedTo true r.1).of_freeBlocks.then ((upd_pins t _).mono (by decide))
  split
  · exact hgood.then ((State.send_eff good _).mono (by decide))
  · exact hgood

theorem State.coldReset_pins (s : State) : s.coldReset.pins.cold = true ∧ s.coldReset.pins.good = false := by
  unfold State.coldReset
  extract_lets r t p good
  have hcold : t.pins.cold = true := (r.2.wipe_pins true r.1).1
  split <;> exact ⟨hcold, rfl⟩

/-- The state in which a cold reset begins, as the statement lists it. -/
theorem State.coldReset_state (s : State) : s.coldReset.pins.cold = true ∧ s.coldReset.pins.good = false ∧
    s.coldReset.tick = 0 ∧ s.coldReset.tbl = [] ∧ s.coldReset.ctx = [] ∧ s.coldReset.mq = [] ∧ s.coldReset.arr = {} ∧
    s.coldReset.mem = [] ∧ s.coldReset.host = s.host := by
  obtain ⟨hcold, hgood⟩ := s.coldReset_pins
  obtain ⟨htick, htbl, hctx, hmq, harr, hmem, hhost⟩ := s.coldReset_wipedTo
  exact ⟨hcold, hgood, htick, htbl, hctx, hmq, harr, hmem, hhost⟩

theorem State.reg_strapPair (s : State) {o : Nat} (h0 : o ≠ 0x3c0000) (h8 : o ≠ 0x3c0008) : s.strapPair.reg o = s.reg o := by
  rw [State.strapPair, State.reg_setF_other _ _ _ _ h8, State.reg_setF_other _ _ _ _ h8, State.reg_setF_other _ _ _ _ h0]

/-- The straps give the enable and both roles. -/
theorem State.f_strapPair (s : State) : s.strapPair.f fPairEn = s.f ⟨0x20, 0, 1⟩ ∧ s.strapPair.f fRole = s.f ⟨0x20, 1, 1⟩ ∧
    s.strapPair.f fStrapRole = s.f ⟨0x20, 1, 1⟩ := by
  have hbit (x : F) (hx : x.n = 1) : s.f x < 2 ^ 1 := hx ▸ State.fld_lt ..
  refine ⟨?_, ?_, State.f_setF_same _ _ _ (by simp) (hbit _ rfl)⟩
  · rw [State.strapPair, State.f_setF_other _ ⟨0x3c0008, 59, 1⟩ fPairEn _ (by simp), State.f_setF_other _ fRole fPairEn _ (by simp)]
    exact State.f_setF_same _ _ _ (by simp) (hbit _ rfl)
  · rw [State.strapPair, State.f_setF_field _ ⟨0x3c0008, 59, 1⟩ fRole _ rfl (by simp) (by simp) (by simp)]
    exact State.f_setF_same _ _ _ (by simp) (hbit _ rfl)

/-- The straps as COLD_RESET_RELEASE samples them, at tick 0. -/
def State.strapped (s : State) (straps : BitVec 9) : State :=
  { s with pins := { s.pins with cold := false }, tick := 0 }.setReg 0x20 (straps.zeroExtend 64)

theorem exec_coldResetRelease {s : State} (straps : BitVec 9) (hc : s.pins.cold = true) (hg : s.pins.good = true) :
    exec (.coldResetRelease straps) s = .next ((s.strapped straps).strapPair.send (.pin 0 true)) :=
  congrArg Host.Outcome.next (State.when_true (by rw [hc, hg]; rfl) _)

/-- A strap bit as PAIR_STRAP shows it. -/
theorem State.f_strapped (s : State) (straps : BitVec 9) (i : Nat) :
    (s.strapped straps).f ⟨0x20, i, 1⟩ = (straps.extractLsb' i 1).toNat := by
  rw [State.strapped, State.f_setReg_same _ ⟨0x20, i, 1⟩]
  rfl

/-! ### Warm resets (19 R641, 17 R592) -/

theorem State.warmReset_eff_wipe (s : State) (cause : Nat) (bad : BitVec 136) : Eff 64 (s.wipe false bad) (s.warmReset cause bad) :=
  (State.setF_eff (s.wipe false bad) ⟨0x818, cause, 1⟩ 1).then (State.strapPair_eff _) (by decide)

/-- The state in which a warm reset begins, with the bit of its cause. -/
theorem State.warmReset_state (s : State) {cause : Nat} (bad : BitVec 136) (h : cause < 64) {t : State} (ht : t = s.warmReset cause bad) :
    t.pins.warm = true ∧ t.f ⟨0x818, cause, 1⟩ = 1 ∧ t.tick = 0 ∧ t.tbl = [] ∧ t.ctx = [] ∧ t.mq = [] ∧ t.arr = {} ∧
      t.mem = [] ∧ t.host = s.host := by
  subst ht
  have heff := s.warmReset_eff_wipe cause bad
  have hwarm : (s.warmReset cause bad).pins.warm = true :=
    (congrArg Pins.warm (heff.same .pins rfl)).trans (s.wipe_pins false bad).2
  have hcause : (s.warmReset cause bad).f ⟨0x818, cause, 1⟩ = 1 := by
    rw [State.f, State.warmReset, State.reg_strapPair _ (by simp) (by simp)]
    exact State.f_setF_same _ ⟨0x818, cause, 1⟩ 1 h (Nat.lt_two_pow_self (n := 1))
  obtain ⟨htick, htbl, hctx, hmq, harr, hmem, hhost⟩ := (s.wipe_wipedTo false bad).then (heff.mono (by decide))
  exact ⟨hwarm, hcause, htick, htbl, hctx, hmq, harr, hmem, hhost⟩

theorem exec_sysResetAssert {s : State} (bad : BitVec 136) (hc : s.pins.cold = false) (hw : s.pins.warm = false) :
    exec (.sysResetAssert bad) s = .next (s.warmReset rcPin bad) :=
  congrArg Host.Outcome.next (State.when_true (by rw [hc, hw]; rfl) _)

theorem exec_sysResetRelease {s : State} (hw : s.pins.warm = true) : ∃ t, exec .sysResetRelease s = .next t ∧
    t.pins.warm = false ∧ t.tick = 0 ∧ t.regs = s.regs := by
  refine ⟨_, congrArg Host.Outcome.next (State.when_true hw _), ?_⟩
  by_cases ht : s.pins.tripped = true <;> simp [ht]

theorem execDeviceResetDelayExpiry_due {s : State} {d : Nat} (hu : s.up = true) (hd : s.life.resetDue = some d) (ht : d ≤ s.tick) :
    execDeviceResetDelayExpiry s = .next (s.freeBlocks.2.warmReset rcCommand s.freeBlocks.1) := by
  rw [execDeviceResetDelayExpiry, whileUp_of_up hu]
  simp [hd, Nat.not_lt.mpr ht]

theorem execDeviceReset_confirmed {via : OwnerPath} {s : State} (h : s.ownerRuns via = true) : execDeviceReset via 0x8820 s =
    .next ((s.updLife (fun l => { l with resetDue := some (s.tick + 500000) })).ownerEnd via 0x60 St.success) :=
  whileUp_owner1_done h rfl

/-- Settles O8, a clause at a time from the equations of its commands. -/
theorem powerAndResetCommandsAct : Obligations.PowerAndResetCommandsAct := by
  refine ⟨?_, ?_, ?_, ?_, ?_, ?_, ?_, ?_⟩
  · intro s hc
    exact congrArg Host.Outcome.next (State.when_true hc _)
  · intro straps s hc hg
    obtain ⟨hen, hrole, hstrap⟩ := (s.strapped straps).f_strapPair
    have heff := State.strapPair_eff (s.strapped straps)
    refine ⟨_, exec_coldResetRelease straps hc hg, ?_⟩
    beta_reduce
    rw [State.send_reg, State.send_f, State.send_f, State.send_f, hen, hrole, hstrap, State.reg_strapPair _ (by simp) (by simp)]
    exact ⟨congrArg Pins.cold (heff.same .pins rfl), heff.same .tick rfl, State.reg_setReg_same .., s.f_strapped straps _,
      s.f_strapped straps _, s.f_strapped straps _, congrArg (· ++ [_]) (heff.same .sent rfl), heff.same .mem rfl⟩
  · intro s
    exact ⟨_, rfl, s.coldReset_state⟩
  · intro s
    exact ⟨_, rfl, s.coldReset_state⟩
  · intro bad s hc hw
    exact ⟨_, exec_sysResetAssert bad hc hw, s.warmReset_state bad (by decide) rfl⟩
  · intro s hw
    exact exec_sysResetRelease hw
  · intro via s h
    exact ⟨_, execDeviceReset_confirmed h, rfl, EndsWith.ended rfl rfl via 0x60⟩
  · intro d s hu hd ht
    obtain ⟨hwarm, hcause, htick, htbl, hctx, hmq, harr, hmem, hhost⟩ :=
      s.freeBlocks.2.warmReset_state (cause := rcCommand) s.freeBlocks.1 (by decide) rfl
    exact ⟨_, execDeviceResetDelayExpiry_due hu hd ht, hwarm, hcause, htick, htbl, hctx, hmq, harr, hmem,
      hhost.trans ((State.freeBlocks_eff s).same .host rfl)⟩

end Sys2Proof.Machine
end

section
/-! SUPPORT. Proofs. Thermal samples (19 R648, R650, R654, R657). -/

set_option Elab.async false

namespace Sys2Proof.Machine

/-! ### What a sample shows in the registers (R657) -/

/-- `u` is `s` with another register file. -/
def State.OnlyRegs (s u : State) : Prop := u = { s with regs := u.regs }

theorem State.OnlyRegs.trans {s t u : State} (h : s.OnlyRegs t) (k : t.OnlyRegs u) : s.OnlyRegs u :=
  Eq.trans k (by rw [h])

theorem State.OnlyRegs.pins {s u : State} (h : s.OnlyRegs u) : u.pins = s.pins := by rw [h]

theorem State.OnlyRegs.setReg (s : State) (o : Nat) (w : Word) : s.OnlyRegs (s.setReg o w) := rfl
theorem State.OnlyRegs.setF (s : State) (x : F) (v : Nat) : s.OnlyRegs (s.setF x v) := rfl

theorem State.OnlyRegs.foldl {α : Type} (l : List α) {f : State → α → State} (h : ∀ (s : State) a, s.OnlyRegs (f s a))
    (s : State) : s.OnlyRegs (l.foldl f s) := by
  induction l generalizing s with
  | nil => rfl
  | cons a l ih => exact (h s a).trans (ih _)

/-- Each reading is in its sensor's register. -/
def State.sensorsShown (s : State) (ts : List (BitVec 16)) : State :=
  (List.range 16).foldl (fun (s : State) i => s.setReg (0xc40 + 8 * i) ((ts.getD i 0).zeroExtend 64)) s

/-- The hottest sensor and its reading are in THERM_STAT. -/
def State.hottestShown (s : State) (ts : List (BitVec 16)) : State :=
  ((s.sensorsShown ts).setF fHotSensor (hottest ts)).setF fMaxTemp (ts.getD (hottest ts) 0).toNat

/-- PEAK_TEMP follows a reading above it, and the first one. -/
def State.peakShown (u : State) (top : BitVec 16) : State :=
  if !u.pins.peak || decide ((BitVec.ofNat 16 (u.f fPeakTemp)).toInt < top.toInt) then u.setF fPeakTemp top.toNat else u

/-- The registers after a sample. -/
def State.sampleShown (s : State) (ts : List (BitVec 16)) : State := (s.hottestShown ts).peakShown (ts.getD (hottest ts) 0)

/-- What the sample decides for the next tick (R650, R653, R654). -/
def State.sampleDecided (u : State) (ts : List (BitVec 16)) : State :=
  let top := ts.getD (hottest ts) 0
  let on := u.f fThermActive == 1
  let below := if top.toInt < u.clearAt then u.pins.below + 1 else 0
  { u with pins := { u.pins with
      peak := true, below := below, trip := decide (1150 ≤ top.toInt),
      due := if !on && decide (u.throttleAt ≤ top.toInt) then some (1, hottest ts, top.toNat)
        else if on && decide (1000 ≤ below) then some (2, hottest ts, top.toNat) else none } }

theorem State.thermSample_eq (s : State) (raw : List (BitVec 16)) :
    s.thermSample raw = (s.sampleShown (s.readings raw)).sampleDecided (s.readings raw) := rfl

/-- The peak is written in THERM_STAT or not at all. -/
theorem State.peakShown_cases (u : State) (top : BitVec 16) :
    u.peakShown top = u.setF fPeakTemp top.toNat ∨ u.peakShown top = u := by
  unfold State.peakShown
  split
  · exact .inl rfl
  · exact .inr rfl

theorem State.sampleShown_onlyRegs (s : State) (ts : List (BitVec 16)) : s.OnlyRegs (s.sampleShown ts) := by
  have hsensors : s.OnlyRegs (s.sensorsShown ts) := by
    rw [State.sensorsShown]
    exact State.OnlyRegs.foldl _ (fun _ _ => State.OnlyRegs.setReg ..) s
  have hhot : s.OnlyRegs (s.hottestShown ts) :=
    (hsensors.trans (State.OnlyRegs.setF _ fHotSensor _)).trans (State.OnlyRegs.setF _ fMaxTemp _)
  rw [State.sampleShown]
  obtain h | h := (s.hottestShown ts).peakShown_cases (ts.getD (hottest ts) 0)
  · rw [h]
    exact hhot.trans (State.OnlyRegs.setF _ fPeakTemp _)
  · rwa [h]

/-- Of the registers but the sensors' and THERM_STAT, none changes. -/
theorem State.reg_sampleShown (s : State) (ts : List (BitVec 16)) {o : Nat} (h : o ≠ 0xc08) :
    (s.sampleShown ts).reg o = (s.sensorsShown ts).reg o := by
  have hpeak : (s.sampleShown ts).reg o = (s.hottestShown ts).reg o := by
    rw [State.sampleShown]
    obtain e | e := (s.hottestShown ts).peakShown_cases (ts.getD (hottest ts) 0)
    · rw [e, State.reg_setF_other _ _ _ _ h]
    · rw [e]
  rw [hpeak, State.hottestShown, State.reg_setF_other _ _ _ _ h, State.reg_setF_other _ _ _ _ h]

theorem State.reg_sensorsShown_other (s : State) (ts : List (BitVec 16)) {o : Nat} (h : o < 0xc40) :
    (s.sensorsShown ts).reg o = s.reg o :=
  State.reg_foldl _ _ s o fun _ _ => State.reg_setReg_other _ _ _ _ (by omega)

theorem State.reg_foldl_setSensor (g : Nat → Word) (s : State) {k n : Nat} (h : n < k) :
    ((List.range k).foldl (fun (s : State) n => s.setReg (0xc40 + 8 * n) (g n)) s).reg (0xc40 + 8 * n) = g n := by
  induction k with
  | zero => omega
  | succ k ih =>
    rw [List.range_succ, List.foldl_append, List.foldl_cons, List.foldl_nil]
    by_cases hk : n = k
    · rw [hk, State.reg_setReg_same]
    · rw [State.reg_setReg_other _ _ _ _ (by omega), ih (by omega)]

theorem State.sampleShown_sensor (s : State) (ts : List (BitVec 16)) {i : Nat} (h : i < 16) :
    (s.sampleShown ts).reg (0xc40 + 8 * i) = (ts.getD i 0).zeroExtend 64 :=
  (s.reg_sampleShown ts (by omega)).trans (State.reg_foldl_setSensor (fun i => (ts.getD i 0).zeroExtend 64) s h)

/-- ACTIVE stands in THERM_STAT beside the fields that a sample writes. -/
theorem State.sampleShown_active (s : State) (ts : List (BitVec 16)) : (s.sampleShown ts).f fThermActive = s.f fThermActive := by
  have hsensors : (s.sensorsShown ts).f fThermActive = s.f fThermActive := by
    rw [State.f, State.f, s.reg_sensorsShown_other ts (by simp)]
  have hhot : (s.hottestShown ts).f fThermActive = s.f fThermActive := by
    rw [State.hottestShown, State.f_setF_field _ fMaxTemp fThermActive _ rfl (by simp) (by simp) (by simp),
      State.f_setF_field _ fHotSensor fThermActive _ rfl (by simp) (by simp) (by simp), hsensors]
  rw [State.sampleShown]
  obtain h | h := (s.hottestShown ts).peakShown_cases (ts.getD (hottest ts) 0)
  · rw [h, State.f_setF_field _ fPeakTemp fThermActive _ rfl (by simp) (by simp) (by simp), hhot]
  · rw [h, hhot]

theorem State.sampleShown_throttleAt (s : State) (ts : List (BitVec 16)) : (s.sampleShown ts).throttleAt = s.throttleAt := by
  rw [State.throttleAt, State.throttleAt, State.f, State.f, s.reg_sampleShown ts (by simp), s.reg_sensorsShown_other ts (by simp)]

/-! ### The command -/

theorem execThermalSample_taken {raw : List (BitVec 16)} {s : State} (hu : s.up = true) (ht : s.tick % 500 = 0)
    (hl : raw.length = 16) : execThermalSample raw s = .next (s.thermSample raw) := by
  rw [execThermalSample, whileUp_of_up hu, State.when_true (by simp [ht, hl])]

theorem execThermalSample_between (raw : List (BitVec 16)) {s : State} (ht : s.tick % 500 ≠ 0) :
    execThermalSample raw s = .next s := by
  rw [execThermalSample]
  exact whileUp_of_fixed (State.when_false (by simp [ht]) _)

/-- Without an applied offset each sensor reads what it measures. -/
theorem State.readings_uncorrected {s : State} (h : s.life.applied = none) (raw : List (BitVec 16)) : s.readings raw = raw := by
  simp [State.readings, h]

/-- A throttle that is not active starts at THROTTLE_C. -/
theorem State.sampleDecided_starts {u : State} {ts : List (BitVec 16)} (hoff : u.f fThermActive = 0)
    (hhot : u.throttleAt ≤ (ts.getD (hottest ts) 0).toInt) :
    (u.sampleDecided ts).pins.due = some (1, hottest ts, (ts.getD (hottest ts) 0).toNat) :=
  if_pos (by rw [hoff, decide_eq_true hhot]; rfl)

theorem State.sampleDecided_tripped (u : State) (ts : List (BitVec 16)) : (u.sampleDecided ts).pins.tripped = u.pins.tripped := rfl

/-- The decision is taken on the pins alone. -/
theorem State.OnlyRegs.sampleDecided {s u : State} (h : s.OnlyRegs u) (ts : List (BitVec 16)) :
    u.sampleDecided ts = { s with regs := (u.sampleDecided ts).regs, pins := (u.sampleDecided ts).pins } :=
  congrArg (fun v : State => { v with pins := (u.sampleDecided ts).pins }) h

/-- Settles O11: a sample writes its registers, then decides on the pins alone. -/
theorem thermalSampleHoldsTheReadings : Obligations.ThermalSampleHoldsTheReadings := by
  refine ⟨?_, ?_, ?_⟩
  · rintro raw ts s hu ht hl rfl
    have honly := s.sampleShown_onlyRegs (s.readings raw)
    refine ⟨_, execThermalSample_taken hu ht hl, ?_⟩
    rw [s.thermSample_eq raw]
    refine ⟨fun i hi => s.sampleShown_sensor _ hi, rfl, fun hoff hhot => ?_,
      (State.sampleDecided_tripped ..).trans (congrArg Pins.tripped honly.pins), ?_⟩
    · exact State.sampleDecided_starts ((s.sampleShown_active _).trans hoff) ((s.sampleShown_throttleAt _).le.trans hhot)
    · exact honly.sampleDecided _
  · intro raw s h
    exact State.readings_uncorrected h raw
  · intro ts s h
    exact execThermalSample_between ts h

end Sys2Proof.Machine
end

section
/-! SUPPORT. Proofs. Boot phases, the SPDM responder and the key slots (17 R597, R599, R601, R603, R604). -/

set_option Elab.async false

namespace Sys2Proof.Machine

/-! ### Boot phases (R597, R599) -/

section
variable (w : BitVec 11) {s : State} (hu : s.up = true) (hmp : s.ras.mpRunning = true)
include hu hmp

theorem execBootPhaseAdvance_next (fail : Fin 5) : execBootPhaseAdvance w fail s = .next (s.bootNext w fail.val) := by
  rw [execBootPhaseAdvance, whileUp_of_up hu, State.when_true hmp]

theorem execBootPhaseAdvance_copy {c : Bool} (hp : s.f fPhase = 0) (hc : s.bootCopy = some c) (hl : s.life.trialLost = false) :
    execBootPhaseAdvance w 0 s =
      .next (({ s with life := { s.life with running := c, next := c, trialLost := false } }).setF fPhase 1) := by
  rw [execBootPhaseAdvance_next w hu hmp]
  simp [State.bootNext, hp, hc, hl, State.updLife]

theorem execBootPhaseAdvance_noCopy (hp : s.f fPhase = 0) (hc : s.bootCopy = none) :
    execBootPhaseAdvance w 0 s = .next ((s.setF fPhase 7).setF fFailCode 1) := by
  rw [execBootPhaseAdvance_next w hu hmp]
  simp [State.bootNext, hp, hc, State.bootFail]

/-- CTX_WIN_BASE as firmware writes it when it leaves phase MEMORY. -/
def State.winBased (s : State) (w : BitVec 11) : State := (s.setF ⟨0xc1000, 33, 11⟩ w.toNat).setF ⟨0xc1000, 0, 1⟩ 1

theorem execBootPhaseAdvance_ready (hp : s.f fPhase = 3) :
    execBootPhaseAdvance w 0 s = .next ((s.winBased w).createPlacement.setF fPhase 4).becomeReady := by
  rw [execBootPhaseAdvance_next w hu hmp]
  simp [State.bootNext, hp, State.winBased]

end

theorem State.f_winBased (s : State) (w : BitVec 11) : (s.winBased w).f ⟨0xc1000, 33, 11⟩ = w.toNat := by
  rw [State.winBased, State.f_setF_field _ ⟨0xc1000, 0, 1⟩ ⟨0xc1000, 33, 11⟩ 1 rfl (by simp) (by simp) (by simp)]
  exact State.f_setF_same _ _ _ (by simp) w.isLt

/-- Memory_Active on every LD. -/
def State.ldsActive (s : State) : State :=
  (List.range 32).foldl (fun (s : State) n => s.updLd n (fun l => { l with memActive := true })) s

/-- The zeroing pass starts at frame 0. -/
def State.zeroStarted (s : State) : State := { s with tier := { s.tier with zeroing := true, zeroPos := 0 } }

theorem State.becomeReady_eq (s : State) :
    s.becomeReady = s.ldsActive.zeroStarted.setF fZeroPending s.ldsActive.zeroStarted.zeroPending := rfl

theorem State.becomeReady_tier (s : State) : s.becomeReady.tier.zeroing = true ∧ s.becomeReady.tier.zeroPos = 0 := by
  rw [State.becomeReady_eq, State.setF_tier]
  exact ⟨rfl, rfl⟩

theorem State.reg_zeroStarted (s : State) (o : Nat) : s.zeroStarted.reg o = s.reg o := rfl

theorem State.f_becomeReady (s : State) {x : F} (h : x.off ≠ fZeroPending.off) : s.becomeReady.f x = s.f x := by
  have hactive : s.ldsActive.reg x.off = s.reg x.off := State.reg_foldl _ _ s x.off fun _ _ => State.updLd_reg ..
  rw [State.becomeReady_eq, State.f_setF_other _ _ _ _ h, State.f, State.reg_zeroStarted, hactive, State.f]

theorem State.tb_becomeReady (s : State) (t : Nat) : s.becomeReady.tb t = s.tb t :=
  State.tb_congr ((State.becomeReady_eff s).same .tbl rfl) t

theorem State.f_createPlacement (s : State) {x : F} (h : x.off ≠ fPrefixFree.off) : s.createPlacement.f x = s.f x :=
  State.f_setF_other _ fPrefixFree x _ h

/-- Table 254 is OPEN (04 R103). -/
theorem State.createPlacement_table (s : State) : (s.createPlacement.tb 254).state = 2 ∧ (s.createPlacement.tb 254).kind = 2 := by
  rw [State.createPlacement, State.tb_setTb_same]
  exact ⟨rfl, rfl⟩

/-! ### Measurements (R601) -/

theorem execSpdmRequest_answers (sess : Session) (i : Nat) {s : State} (hu : s.up = true) (hs : s.spdmUp = true) :
    execSpdmRequest sess i s = .next (if i = 0 then s.send (.spdm spdmMeas (leBytes 1 5))
      else if i ≤ 5 then (s.measurement i).2.send (.spdm spdmMeas (leBytes 1 i ++ (s.measurement i).1))
      else s.spdmErr spdmInvalid) := by
  rw [execSpdmRequest, whileUp_of_up hu, State.when_true hs]

theorem execSpdmRequest_count (sess : Session) {s : State} (hu : s.up = true) (hs : s.spdmUp = true) :
    execSpdmRequest sess 0 s = .next (s.send (.spdm 0x60 [5])) :=
  execSpdmRequest_answers sess 0 hu hs

theorem execSpdmRequest_measurement (sess : Session) {i : Nat} {s : State} (hu : s.up = true) (hs : s.spdmUp = true)
    (h0 : 0 < i) (h5 : i ≤ 5) : execSpdmRequest sess i s =
      .next ((s.measurement i).2.send (.spdm 0x60 (leBytes 1 i ++ (s.measurement i).1))) := by
  rw [execSpdmRequest_answers sess i hu hs, if_neg (by omega), if_pos h5]

theorem execSpdmRequest_invalid (sess : Session) {i : Nat} {s : State} (hu : s.up = true) (hs : s.spdmUp = true) (hi : 5 < i) :
    execSpdmRequest sess i s = .next (s.spdmErr spdmInvalid) := by
  rw [execSpdmRequest_answers sess i hu hs, if_neg (by omega), if_neg (by omega)]

/-! ### Key slots (R603, R604) -/

section
variable {s : State} (hs : s.spdmUp = true) (op slot : Nat) (any : Bool) (eff : State → State)
include hs

theorem State.vendorReq_owner_done :
    s.vendorReq .owner op slot any none eff = (eff s).vendorAns op St.success slot := by
  simp [State.vendorReq, hs]

theorem State.vendorReq_owner_refused (st : Nat) : s.vendorReq .owner op slot any (some st) eff = s.vendorAns op st slot := by
  simp [State.vendorReq, hs]

end

section
variable {slot : Id12} {s : State} (hu : s.up = true) (hs : s.spdmUp = true) (hk : s.keysOpen = true)
include hu hs hk

theorem execKeyLoad_empty {a b : BitVec 256} (hab : a ≠ b) (he : s.slotState slot.val = 0) :
    execKeyLoad .owner slot a b true s = .next ((s.setKey slot.val (some (a, b))).vendorAns 0x01 St.success slot.val) := by
  have hbad : firstBad [(!s.keysOpen, St.privilege), (!true, St.malformed), (a == b, St.malformed),
      (s.slotState slot.val != 0, St.locked)] = none := by simp [firstBad_cons, hk, hab, he]
  rw [execKeyLoad, whileUp_of_up hu]
  simp only [hbad, State.vendorReq_owner_done hs]

theorem execKeyLoad_taken {a b : BitVec 256} (hab : a ≠ b) (he : s.slotState slot.val ≠ 0) :
    execKeyLoad .owner slot a b true s = .next (s.vendorAns 0x01 St.locked slot.val) := by
  have hbad : firstBad [(!s.keysOpen, St.privilege), (!true, St.malformed), (a == b, St.malformed),
      (s.slotState slot.val != 0, St.locked)] = some St.locked := by simp [firstBad_cons, hk, hab, he]
  rw [execKeyLoad, whileUp_of_up hu]
  simp only [hbad, State.vendorReq_owner_refused hs]

theorem execKeyErase_unbound (hb : s.slotState slot.val ≠ 2) :
    execKeyErase .owner slot true s = .next ((s.setKey slot.val none).vendorAns 0x02 St.success slot.val) := by
  have hbad : firstBad [(!s.keysOpen, St.privilege), (!true, St.malformed), (s.slotState slot.val == 2, St.locked)] = none := by
    simp [firstBad_cons, hk, hb]
  rw [execKeyErase, whileUp_of_up hu]
  simp only [hbad, State.vendorReq_owner_done hs]

theorem execKeyQuery_owner : execKeyQuery .owner slot true s = .next (s.vendorAns 0x03 St.success slot.val) := by
  have hbad : firstBad [(!s.keysOpen, St.privilege), (!true, St.malformed)] = none := by simp [firstBad_cons, hk]
  rw [execKeyQuery, whileUp_of_up hu]
  simp only [hbad, State.vendorReq_owner_done hs]

end

/-- Settles O9, a clause at a time from the equations of its commands. -/
theorem bootAndAttestationCommandsAct : Obligations.BootAndAttestationCommandsAct := by
  refine ⟨?_, ?_, ?_, ?_, ?_, ?_, ?_, ?_, ?_, ?_⟩
  · intro w c s hu hmp hp hc hl
    exact execBootPhaseAdvance_copy w hu hmp hp hc hl
  · intro w s hu hmp hp hc
    exact execBootPhaseAdvance_noCopy w hu hmp hp hc
  · intro w s hu hmp hp
    obtain ⟨hzeroing, hpos⟩ := ((s.winBased w).createPlacement.setF fPhase 4).becomeReady_tier
    obtain ⟨hstate, hkind⟩ := (s.winBased w).createPlacement_table
    refine ⟨_, execBootPhaseAdvance_ready w hu hmp hp, ?_⟩
    beta_reduce
    rw [State.tb_becomeReady, State.setF_tb, State.f_becomeReady _ (by simp), State.f_becomeReady _ (by simp),
      State.f_setF_other _ fPhase ⟨0xc1000, 33, 11⟩ _ (by simp), State.f_createPlacement _ (by simp), s.f_winBased w]
    exact ⟨State.f_setF_same _ _ _ (by simp) (by simp), hzeroing, hpos, hstate, hkind, rfl⟩
  · intro sess s hu hs
    exact execSpdmRequest_count sess hu hs
  · intro sess i s hu hs hi
    exact execSpdmRequest_invalid sess hu hs hi
  · intro sess i s hu hs h0 h5
    refine ⟨_, execSpdmRequest_measurement sess hu hs h0 h5, (s.measurement i).1, ?_⟩
    rw [State.send_sent]
    exact congrArg (· ++ [_]) ((State.measurement_eff s i).same .sent rfl)
  · intro slot a b s hu hs hk hab he
    exact execKeyLoad_empty hu hs hk hab he
  · intro slot a b s hu hs hk hab he
    exact execKeyLoad_taken hu hs hk hab he
  · intro slot s hu hs hk hb
    exact execKeyErase_unbound hu hs hk hb
  · intro slot s hu hs hk
    exact execKeyQuery_owner hu hs hk

end Sys2Proof.Machine
end

section
/-! SUPPORT. Proofs. Life-cycle transitions, firmware update and the compatibility profile (17 R588 to R591, R606 to R608, R611; 10 R359). -/

set_option Elab.async false

namespace Sys2Proof.Machine

/-! ### Life-cycle transitions and the lock (R588 to R591) -/

/-- The transition of an owner to SERVICE: one more entry, and the reset is due 1 ms on. -/
def State.toService (s : State) : State :=
  (((s.setF fRecords (s.f fRecords + 1)).setF ⟨0x800, 8, 1⟩ (if s.life.ownerHash.isSome then 1 else 0)).updLife
    (fun l => { l with record := 3, lcDue := some (s.tick + 500000) }))

theorem execLcTransition_toService (h : BitVec 384) {s : State} (hu : s.up = true) (hs : s.spdmUp = true)
    (hst : s.f fLcState = 2) (hn : s.f fRecords < 63) (ht : s.f fTrial = 0) :
    execLcTransition .owner 3 h false true s = .next (s.toService.vendorAns 0x10 St.success 0) := by
  have hbad : firstBad [(!true, St.malformed), (!lcAllowed 2 3 true false, St.privilege),
      (decide (64 ≤ s.f fRecords) || (s.f fRecords == 63 && 3 != 4), St.privilege), (s.f fTrial == 1, St.locked)] = none := by
    have h64 : ¬ 64 ≤ s.f fRecords := by omega
    simp [firstBad_cons, lcAllowed, ht, hn.ne, h64]
  rw [execLcTransition, whileUp_of_up hu, hst]
  refine congrArg Host.Outcome.next ((congrArg (fun b => s.vendorReq .owner 0x10 0 false b _) hbad).trans ?_)
  exact State.vendorReq_owner_done hs ..

theorem State.f_toService_records (s : State) (hn : s.f fRecords < 63) : s.toService.f fRecords = s.f fRecords + 1 := by
  rw [State.toService, State.updLife_f, State.f_setF_field _ ⟨0x800, 8, 1⟩ fRecords _ rfl (by simp) (by simp) (by simp)]
  exact State.f_setF_same _ _ _ (by simp) (by simp; omega)

theorem execLcWarmResetDue_due {d : Nat} {s : State} (hu : s.up = true) (hd : s.life.lcDue = some d) (ht : d ≤ s.tick) :
    execLcWarmResetDue s = .next (s.freeBlocks.2.warmReset rcLc s.freeBlocks.1) := by
  rw [execLcWarmResetDue, whileUp_of_up hu]
  simp [hd, Nat.not_lt.mpr ht]

theorem execLockSet_taken {who : Who} {s : State} (hu : s.up = true) (hm : s.mayBar0 who = true) :
    execLockSet who s = .next (s.setF fLcLock 1) := by
  rw [execLockSet, whileUp_of_up hu, State.when_true hm]

/-! ### Transfer and activation of a copy (R606, R609) -/

section
variable {s : State} (hu : s.up = true) (hmp : s.ras.mpRunning = true)
include hu hmp

theorem execGetFwInfo_answers (ld : LdId) : ∃ body, execGetFwInfo ld s = .next (s.mboxAns ld.val 0x0200 rcSuccess body) :=
  ⟨_, mboxCmd_of_running hu hmp _⟩

variable (ha : s.f fActive = 0) (ht : s.f fTrial = 0)
include ha ht

theorem execTransferFw_inactive {svn : BitVec 16} (hsvn : s.f fMinSvn ≤ svn.toNat) : execTransferFw none true svn true true s =
    .next (((s.setF (fSvn true) svn.toNat).updLife (fun l => { l with validB := true })).fmAns 0x0201 rcSuccess) := by
  rw [execTransferFw, mboxCmd_of_running hu hmp]
  simp [State.fwFrom, State.fwAns, ha, ht, hsvn]

theorem execActivateFw_valid (hv : s.copyValid true = true) : execActivateFw none true s =
    .next { (((s.fmAns 0x0202 rcSuccess).setF fTrial 1).updLife (fun l => { l with next := true, trialStart := none })) with
      ras := { s.ras with mpRunning := false } } := by
  rw [execActivateFw, mboxCmd_of_running hu hmp]
  simp [State.fwFrom, State.fwAns, ha, ht, hv]

end

/-! ### The trial and its end (R607, R608) -/

theorem execMpRestartComplete_restarts {s : State} (hu : s.up = true) (hmp : s.ras.mpRunning = false) :
    execMpRestartComplete s = .next { s with
      ras := { s.ras with mpRunning := true, lastKick := s.tick },
      life := { s.life with running := s.life.next, trialStart := if s.f fTrial == 1 then some s.tick else none } } := by
  rw [execMpRestartComplete, whileUp_of_up hu, State.when_true (by rw [hmp]; rfl)]
  rfl

theorem execFwConfirm_onTrial {who : Who} {b : Nat} {s : State} (hu : s.up = true) (hm : s.mayBar0 who = true)
    (hb : s.life.trialStart = some b) :
    execFwConfirm who s = .next (((s.setF fActive (if s.life.running then 1 else 0)).setF fTrial 0).updLife
      (fun l => { l with trialStart := none })) := by
  rw [execFwConfirm, whileUp_of_up hu, State.when_true (by rw [hm, hb]; rfl)]

theorem execTrialWindowExpiry_due {b : Nat} {s : State} (hu : s.up = true) (hb : s.life.trialStart = some b)
    (ht : b + 500000000 * max (s.f fTrialS) 2 ≤ s.tick) : execTrialWindowExpiry s = .next s.mpRestart := by
  rw [execTrialWindowExpiry, whileUp_of_up hu]
  simp [hb, Nat.not_lt.mpr ht]

/-- MIN_SVN rises to the SVN of copy A while that is ACTIVE, and copy B stays valid. -/
theorem State.svnCommit_bothValid {s : State} (ha : s.f fActive = 0)
    (hv : (s.setF fMinSvn (max (s.f fMinSvn) (s.f (fSvn false)))).copyValid true = true) :
    s.svnCommit = s.setF fMinSvn (max (s.f fMinSvn) (s.f (fSvn false))) := by
  simp [State.svnCommit, ha, hv]

theorem execFwSvnCommit_bothValid {via : OwnerPath} {s : State} (h : s.ownerRuns via = true) (ht : s.f fTrial = 0)
    (ha : s.f fActive = 0) (hv : (s.setF fMinSvn (max (s.f fMinSvn) (s.f (fSvn false)))).copyValid true = true) :
    execFwSvnCommit via s =
      .next ((s.setF fMinSvn (max (s.f fMinSvn) (s.f (fSvn false)))).ownerEnd via 0x61 St.success) :=
  (whileUp_owner1_done h (by simp [firstBad_cons, ht])).trans (by rw [State.svnCommit_bothValid ha hv])

/-! ### The compatibility profile (R611) -/

theorem execCompatProfileWrite_one {who : Who} {w : Word} {s : State} (hu : s.up = true) (hm : s.mayBar0 who = true)
    (hl : s.f fLcLock = 0) (hw : fld w 0 8 = 1) : execCompatProfileWrite who w s = .next (s.setF ⟨0x830, 0, 8⟩ 1) := by
  rw [execCompatProfileWrite, whileUp_of_up hu, State.when_true (by rw [hm, hl, hw]; rfl)]

theorem execCompatProfileWrite_other (who : Who) {w : Word} (s : State) (hw : fld w 0 8 ≠ 1) :
    execCompatProfileWrite who w s = .next s := by
  rw [execCompatProfileWrite]
  exact whileUp_of_fixed (State.when_false (by simp [hw]) _)

/-- Settles O10, a clause at a time from the equations of its commands. -/
theorem lifeCycleAndFirmwareCommandsAct : Obligations.LifeCycleAndFirmwareCommandsAct := by
  refine ⟨?_, ?_, ?_, ?_, ?_, ?_, ?_, ?_, ?_, ?_, ?_, ?_⟩
  · intro h s hu hs hst hn ht
    exact ⟨_, execLcTransition_toService h hu hs hst hn ht, s.f_toService_records hn, rfl, rfl, rfl, rfl⟩
  · intro d s hu hd ht
    exact execLcWarmResetDue_due hu hd ht
  · intro who s hu hm
    exact execLockSet_taken hu hm
  · intro ld s hu hmp
    obtain ⟨body, h⟩ := execGetFwInfo_answers hu hmp ld
    exact ⟨_, h, body, rfl⟩
  · intro svn s hu hmp ha ht hsvn
    exact execTransferFw_inactive hu hmp ha ht hsvn
  · intro s hu hmp ha ht hv
    refine ⟨_, execActivateFw_valid hu hmp ha ht hv, ?_, rfl, rfl, rfl⟩
    exact State.f_setF_same (s.fmAns 0x0202 rcSuccess) fTrial 1 (by simp) (by simp)
  · intro s hu hmp
    exact execMpRestartComplete_restarts hu hmp
  · intro who b s hu hm hb
    exact execFwConfirm_onTrial hu hm hb
  · intro b s hu hb ht
    exact execTrialWindowExpiry_due hu hb ht
  · intro via s h ht ha _ hv
    exact ⟨_, execFwSvnCommit_bothValid h ht ha hv, EndsWith.ended rfl rfl via 0x61, rfl, rfl⟩
  · intro who w s hu hm hl hw
    exact execCompatProfileWrite_one hu hm hl hw
  · intro who w s hw
    exact execCompatProfileWrite_other who s hw

end Sys2Proof.Machine
end
